-- ==== Sys2Proof/Word.lean ====
section
/-! DEFINITION. The words of the CR9416: bytes, 64-bit register words and 64-byte memory lines (R5, R6), and the two
containers the state is built from: maps keyed by a number, and maps over ranges of numbers. -/

namespace Sys2Proof

/-- A byte of memory. -/
abbrev Byte := BitVec 8

/-- A 64-bit register or descriptor word (R6). -/
abbrev Word := BitVec 64

/-- A map from numbers to values, as a list of pairs with rising keys; an unlisted key reads as the default its reader
names. -/
abbrev FMap (α : Type) := List (Nat × α)

/-- A map over ranges: each entry gives the half-open range from its first to its second number one value, and no two
entries overlap; an uncovered number reads as the default its reader names. -/
abbrev Segs (α : Type) := List (Nat × Nat × α)

/-- The bit `i` of a number. -/
def natBit (v i : Nat) : Bool := v / 2 ^ i % 2 == 1

/-- A number with its bit `i` set. -/
def natSetBit (v i : Nat) : Nat := if natBit v i then v else v + 2 ^ i

/-- A number with its bit `i` cleared. -/
def natClearBit (v i : Nat) : Nat := if natBit v i then v - 2 ^ i else v

/-- The field of `w` bits at bit `lo` of a number. -/
def natField (v lo w : Nat) : Nat := v / 2 ^ lo % 2 ^ w

/-- Ceiling division. -/
def ceilDiv (a b : Nat) : Nat := (a + b - 1) / b

/-- A Boolean as one bit. -/
def bit01 (b : Bool) : Nat := if b then 1 else 0

end Sys2Proof
end

