-- ==== Sys2Proof/Syntax.lean ====
section
/-! DEFINITION. The commands the CR9416 takes: the rows of the opcode table with their operands. Operands a host, the BMC, a
technician or the module's parts give (addresses, values, readings, what a medium returned) stand in the command. -/

namespace Sys2Proof

/-- R316, R317, R408: the mailbox a command arrives at: a head's, or the management path, which acts as HP0 and may carry the optional
output offset of a Wimas command. -/
inductive Via where
  | head (k : Nat)
  | mctp (page : Option Nat)
  deriving DecidableEq, Repr

/-- R229, R230: what a read of a DRAM line met: the symbols of its codeword that were wrong, 0 to 79 (device d holds 8d to 8d + 7), and the row
the line lies in. -/
structure LineError where
  wrong : List Nat := []
  row : Nat := 0
  deriving DecidableEq, Repr

/-- A read without an error. -/
def LineError.clean : LineError := {}

/-- R235: an uncorrectable entry of a structure in the hidden reserve: the dirty-map or location-index entry of a unit, a ticket context, a word of
the twin map, a restore-map entry, or a structure that is held twice. -/
inductive ReserveError where
  | unitEntry (u : Nat)
  | ticket (q seq : Nat)
  | twinWord (w : Nat)
  | restoreEntry (u : Nat)
  | heldTwice
  deriving DecidableEq, Repr

/-- R66: a submission descriptor, as its eight 64-bit words. -/
structure Desc where
  w0 : Nat
  tag : Nat
  op2 : Nat
  op3 : Nat
  op4 : Nat
  op5 : Nat
  op6 : Nat
  op7 : Nat
  deriving DecidableEq, Repr

/-- R245, R250: what the sense pins of a bay gave since the last update: charge in µC and current in mA (positive for discharge), terminal
voltage in mV, and the thermistor's temperature in 0.1 °C; none: it reads open. -/
structure BaySense where
  dq : Int
  curr : Int
  volt : Nat
  therm : Option Int
  deriving DecidableEq, Repr

/-- R246, R247: what identification reads of a pack monitor: ManufacturerName, DeviceName and DeviceChemistry as words; CAPACITY_MODE (in 10 mWh);
DesignCapacity, DesignVoltage in mV and FullChargeCapacity as read; ManufactureDate, SerialNumber, CycleCount and SpecificationInfo. -/
structure PackId where
  names : List Nat
  inMwh : Bool
  cap : Nat
  volt : Nat
  fcc : Nat
  mdate : Nat
  serial : Nat
  cycles : Nat
  spec : Nat
  deriving DecidableEq, Repr

/-- R246: one poll of a pack monitor: temperature in 0.1 °C, voltage in mV, current in mA (positive for charge), BatteryStatus, and
CycleCount when it is read. -/
structure SbsData where
  temp : Int
  volt : Nat
  curr : Int
  status : Nat
  cycles : Option Nat
  deriving DecidableEq, Repr

/-- R335: what a boot block written holds once its last part is in: the first check of MAGIC, VERSION, digests and signatures that fails (0
none, 1 header, 2 digest, 3 ECDSA, 4 LMS, 6 layout), and its version words. -/
structure FwHeader where
  fail : Nat
  train : Nat
  minor : Nat
  build : Nat
  svn : Nat
  layout : Nat
  deriving DecidableEq, Repr


/-- R360: an authorization token but for its OP, which the command names: its header fields, serial, nonce, parameter words 6 and 7, and
signature words 8 to 19. -/
structure Token where
  magic : Nat
  version : Nat
  serial : Nat
  nonce : Nat
  p6 : Nat
  p7 : Nat
  sig : List Nat
  deriving DecidableEq, Repr

/-- R356: the SPDM 1.2 requests and IDE_KM messages a host sends over DOE; stream 0 is PCIe IDE on CXL.io, 1 CXL IDE on CXL.mem. -/
inductive DoeMsg where
  | getVersion
  | getCapabilities
  | negotiateAlgorithms
  | getDigests
  | getCertificate
  | challenge
  | getMeasurements
  | keyExchange
  | finish
  | endSession
  | ideQuery
  | ideKeyProg (stream : Nat)
  | ideSetGo (stream : Nat)
  | ideSetStop (stream : Nat)
  deriving DecidableEq, Repr

/-- The commands of the CR9416: one constructor per row of the opcode table, with the operands the row carries. The
mailbox and admin-queue commands come first, because a command that waits for the MP is kept whole;
those without operands come last. -/
inductive Instr where
  /-- RESET_DEVICE (R397): Wimas Reset Device returns Success and then issues a software reset within 10 ms. -/
  | resetDevice (v : Via)
  /-- GET_SNAPSHOT (R291): Returns a stored snapshot by index, or Invalid Input. -/
  | getSnapshot (v : Via) (idx : Nat)
  /-- READ_RAILS (R291): Returns the rail readings, PW_VIN, PW_SBUS and PW_OP in one reading. -/
  | readRails (v : Via)
  /-- GET_TIME_STATUS (R306): Returns clock state, counter, uncertainty, servo and trims as one latched reading.
  -/
  | getTimeStatus (v : Via)
  /-- IDENTIFY_MEMORY_DEVICE (R47): Returns capacities, LSA size and poison list maximum. -/
  | identifyMemoryDevice (v : Via)
  /-- GET_PARTITION_INFO (R47): Reports no partitioning. -/
  | getPartitionInfo (v : Via)
  /-- SET_PARTITION_INFO (R47): Returns Unsupported. -/
  | setPartitionInfo (v : Via)
  /-- GET_LSA (R49): Reads the head's 128 KiB label storage area. -/
  | getLsa (v : Via) (off len : Nat)
  /-- SET_LSA (R49): Writes the label storage area, completing once the data is energy-backed. -/
  | setLsa (v : Via) (off : Nat) (data : List Byte)
  /-- GET_HEALTH_INFO (R47): Returns health, life used, temperature, DSC and error counts. -/
  | getHealthInfo (v : Via)
  /-- GET_ALERT_CONFIGURATION (R47): Returns the life-used and temperature alert settings. -/
  | getAlertConfiguration (v : Via)
  /-- SET_ALERT_CONFIGURATION (R47): Sets the alert thresholds kept in NOR. -/
  | setAlertConfiguration (v : Via) (life tempHigh tempLow : Nat)
  /-- GET_SHUTDOWN_STATE (R48): Returns the head's shutdown state. -/
  | getShutdownState (v : Via)
  /-- SET_SHUTDOWN_STATE (R48): Sets the head's shutdown state to Dirty or Clean. -/
  | setShutdownState (v : Via) (dirty : Bool)
  /-- GET_POISON_LIST (R50): Returns poison records within the head's granted shares, with More Records. -/
  | getPoisonList (v : Via) (dpa len max : Nat)
  /-- INJECT_POISON (R47): Marks a read-write-granted line poisoned with source Injected. -/
  | injectPoison (v : Via) (dpa : Nat)
  /-- CLEAR_POISON (R47): Writes the supplied 64 bytes and removes the poison record. -/
  | clearPoison (v : Via) (dpa : Nat) (data : BitVec 512)
  /-- GET_SCAN_MEDIA_CAPABILITIES (R47): Scan Media command reporting scan capability. -/
  | getScanMediaCapabilities (v : Via) (dpa len : Nat)
  /-- SCAN_MEDIA (R47): Scans DRAM lines within the scrub allowance, adding findings to the poison list. -/
  | scanMedia (v : Via) (dpa len : Nat)
  /-- GET_SCAN_MEDIA_RESULTS (R47): Scan Media command returning the scan results. -/
  | getScanMediaResults (v : Via)
  /-- SANITIZE (R362): Mailbox Sanitize with owner authorization discards the image and blocks admission until all
  blocks are erased. -/
  | sanitize (v : Via)
  /-- SECURE_ERASE (R362): Mailbox Secure Erase with owner authorization acts as DISCARD_IMAGE. -/
  | secureErase (v : Via)
  /-- HEAD_RETRAIN (R51): Retrains a head at a limited rate, completing at L0 or failing after DOWN_TO. -/
  | headRetrain (v : Via) (h rate : Nat)
  /-- GET_HEAD_COUNTERS (R51): Returns all heads' link, credit, latency, error and poison values without clearing.
  -/
  | getHeadCounters (v : Via)
  /-- GET_EVENT_RECORDS (R379): Returns records from the head's CXL event logs. -/
  | getEventRecords (v : Via) (log max : Nat)
  /-- CLEAR_EVENT_RECORDS (R379): Clears records from the head's CXL event logs. -/
  | clearEventRecords (v : Via) (log : Nat) (all : Bool) (handles : List Nat)
  /-- GET_EVENT_INTERRUPT_POLICY (R379): Returns the head's event interrupt policy. -/
  | getEventInterruptPolicy (v : Via)
  /-- SET_EVENT_INTERRUPT_POLICY (R379): Sets the head's event interrupt policy. -/
  | setEventInterruptPolicy (v : Via) (settings : List Nat)
  /-- GET_FW_INFO (R340): Returns firmware slot information. -/
  | getFwInfo (v : Via)
  /-- TRANSFER_FW (R340): Writes firmware into the inactive slot, or returns Invalid Slot or Busy. -/
  | transferFw (v : Via) (action slot off len : Nat) (hdr : FwHeader)
  /-- ACTIVATE_FW (R341): Activates a staged, verified block online or at the next bring-up. -/
  | activateFw (v : Via) (online : Bool) (slot : Nat)
  /-- GET_TIMESTAMP (R302): Returns the counter less UTCOFF. -/
  | getTimestamp (v : Via)
  /-- SET_TIMESTAMP (R302): Sets the counter from UTC, unless PTP is LOCKED. -/
  | setTimestamp (v : Via) (utc : Nat)
  /-- GET_SUPPORTED_LOGS (R409): Reports the Command Effects Log. -/
  | getSupportedLogs (v : Via)
  /-- GET_LOG (R409): Returns the Command Effects Log entries. -/
  | getLog (v : Via) (uuid off len : Nat)
  /-- TRANSLATE_ADDRESS (R241): Returns the DRAM location and share of a DPA. -/
  | translateAddress (v : Via) (dpa : Nat)
  /-- SPARE_RANK (R238): Starts a rank spare, or is refused. -/
  | spareRank (v : Via) (c r : Nat)
  /-- GET_MEMORY_ERRORS (R241): Returns a channel's status, errors, marks and PPR list. -/
  | getMemoryErrors (v : Via) (c : Nat)
  /-- GET_FLASH_TARGET (R183): Returns a target's status and calibration. -/
  | getFlashTarget (v : Via) (t : Nat)
  /-- FLASH_DIAGNOSTIC_READ (R182): Reads a page raw or decoded from an idle target. -/
  | flashDiagnosticRead (v : Via) (t b page mode : Nat) (off : Int) (flips : List Nat)
  /-- RETIRE_TARGET (R183): Retires a target with cause COMMANDED, or is refused. -/
  | retireTarget (v : Via) (t : Nat)
  /-- GET_RESKEIN_STATUS (R183): Returns re-skein status and the queued targets. -/
  | getReskeinStatus (v : Via)
  /-- DESIGNATE_REPLICA (R208): Sends DESIGNATE to the peer, or returns PEER_ABSENT with no session. -/
  | designateReplica (v : Via) (share base size : Nat)
  /-- RESUME_SHARE (R219): Moves a HOLD share into catch-up. -/
  | resumeShare (v : Via) (share : Nat) (full : Bool)
  /-- GET_TWINE_STATUS (R219): Returns pair, port, sequence and pairing status. -/
  | getTwineStatus (v : Via)
  /-- GET_PACK_PROFILE (R431): Returns a bay's matched profile or a table entry. -/
  | getPackProfile (v : Via) (sel : Nat)
  /-- GET_BOOT_STATUS (R346): Returns firmware identity, boot, staging and recovery state. -/
  | getBootStatus (v : Via)
  /-- REQUEST_RECOVERY (R346): Sets RECREQ for the next bring-up. -/
  | requestRecovery (v : Via)
  /-- CONFIRM_FIRMWARE (R337): Ends a firmware trial at once. -/
  | confirmFirmware (v : Via)
  /-- LOAD_KEY_SHARE (R353): Loads an owner key share into a slot and tests it against sealed shares. -/
  | loadKeyShare (v : Via) (slot key : Nat)
  /-- CLEAR_KEY_SHARE (R365): Empties a key slot or all slots. -/
  | clearKeyShare (v : Via) (slot : Nat)
  /-- GET_NONCE (R361): Issues a new nonce. -/
  | getNonce (v : Via)
  /-- ENROL_OWNER (R359): Enrols an owner key, needing REPLACE_OWNER when one exists. -/
  | enrolOwner (v : Via) (key : Nat)
  /-- GET_SECURITY_STATUS (R365): Returns security status, slots and owner identifier. -/
  | getSecurityStatus (v : Via)
  /-- CLEAR_RECORDER (R380): An accepted token clears recorder summaries and log in scope. -/
  | clearRecorder (v : Via) (t : Token)
  /-- DISCARD_IMAGE (R362): An accepted token sets DISCPEND and resets the device without a Save. -/
  | discardImage (v : Via) (t : Token)
  /-- UNLOCK_DEBUG (R363): An accepted token unlocks the debug port until bring-up. -/
  | unlockDebug (v : Via) (t : Token)
  /-- TOKEN_SANITIZE (R361): An accepted SANITIZE token permits one Sanitize or Secure Erase within 60 s. -/
  | tokenSanitize (v : Via) (t : Token)
  /-- REPLACE_OWNER (R359): An accepted token permits enrolling a named new owner within 60 s. -/
  | replaceOwner (v : Via) (t : Token)
  /-- CLEAR_OWNER (R361): An accepted token removes the owner. -/
  | clearOwner (v : Via) (t : Token)
  /-- GET_EVENT_LAYOUT (R378): Returns a code's layout. -/
  | getEventLayout (v : Via) (code : Nat)
  /-- GET_EVENT_SUMMARY (R378): Returns a code's summary. -/
  | getEventSummary (v : Via) (code : Nat)
  /-- GET_EVENT_ENTRIES (R378): Returns valid log entries from a SEQ. -/
  | getEventEntries (v : Via) (first count : Nat)
  /-- REQUEST_REMOVAL (R393): A removal request starts the removal hold. -/
  | requestRemoval (v : Via)
  /-- REMOVAL_CANCEL (R394): Cancelling removal ends the hold. -/
  | removalCancel (v : Via)
  /-- SET_LOCATE (R397): Sets locate on or off. -/
  | setLocate (v : Via) (on : Bool)
  /-- GET_READINESS (R397): Returns phase, readiness, admission, attention and panel. -/
  | getReadiness (v : Via)
  /-- GET_BOOT_CONFIGURATION (R413): Returns values in force, next, user mask and factory. -/
  | getBootConfiguration (v : Via) (off : Nat)
  /-- SET_BOOT_CONFIGURATION (R414): Appends a configuration record with masked values. -/
  | setBootConfiguration (v : Via) (off val mask : Nat) (factory : Bool)
  /-- READ_REGISTERS (R415): Performs consecutive BAR0 reads within one block. -/
  | readRegisters (v : Via) (off count : Nat)
  /-- QUEUE_CREATE (R76): Creates an I/O queue with its rings and configuration. -/
  | queueCreate (h tag qid sqb cqb cfg : Nat)
  /-- QUEUE_DELETE (R76): Stops fetch, aborts open tickets and disables the queue. -/
  | queueDelete (h tag qid : Nat)
  /-- REPORT_READ (R85): Writes frontier or loss records into a host buffer. -/
  | reportRead (h tag kind first buf len : Nat)
  /-- SHARE_CREATE (R30): Defines a share in VOLATILE, HELD, WRITETHRU or TWINED mode. -/
  | shareCreate (h tag n base size cfg grants : Nat) (peer : Option Nat)
  /-- SHARE_MODE (R30): Changes a share's mode as the table of allowed changes permits. -/
  | shareMode (h tag n target : Nat) (peer : Option Nat)
  /-- PROMOTE (R214): Changes a LOST or STALE REPLICA share to HELD at once. -/
  | promote (h tag n : Nat)
  /-- SEAL (R354): Starts sealing a HELD share, optionally owner-sealed under a key slot. -/
  | shareSeal (h tag n : Nat) (owner : Bool)
  /-- UNSEAL (R355): Returns a SEALED share to HELD if its key share checks. -/
  | shareUnseal (h tag n slot : Nat)
  /-- SHARE_DELETE (R30): Undefines a share and releases its image entries. -/
  | shareDelete (h tag n : Nat)
  /-- SHARE_SET (R75): Changes a share's grants, WT_CAP, RPRI or HOT. -/
  | shareSet (h tag n flags cfg grants : Nat)
  /-- TEST_START (R411): Accepts a test of a flash, memory, oscillator or SP unit. -/
  | testStart (h tag cls unit : Nat) (disrupt : Bool)
  /-- TEST_STATUS (R411): Returns a test's state, progress and faults, freeing its number at a final state. -/
  | testStatus (h tag n : Nat)
  /-- TEST_ABORT (R411): Ends a test. -/
  | testAbort (h tag n : Nat)
  /-- PACK_TEST (R257): Accepts a load-transfer test of a bay into its wait step. -/
  | packTest (h tag bay depth power : Nat)
  /-- PACK_PAUSE (R268): Requests a pause, or cancels a pause or test. -/
  | packPause (h tag bay : Nat) (cancel : Bool)
  /-- PACK_STATUS (R268): Returns the bay's test progress and state. -/
  | packStatus (h tag bay : Nat)
  /-- PACK_RELEASE (R265): Releases a bay for removal, or undoes the release. -/
  | packRelease (h tag bay : Nat) (undo : Bool)
  /-- FW_STAGE (R340): Writes a firmware part into the inactive block, verifying after the last part. -/
  | fwStage (h tag addr len off : Nat) (last : Bool) (hdr : FwHeader)
  /-- FW_ACTIVATE (R341): Activates the staged block online or at the next bring-up. -/
  | fwActivate (h tag : Nat) (online : Bool)
  /-- FW_STATUS (R340): Returns staging status. -/
  | fwStatus (h tag : Nat)
  /-- SP_RELOAD (R338): Commands a reload of one SP. -/
  | spReload (h tag n : Nat)
  /-- MP_RESTART (R339): Posts its completion and then restarts the MP. -/
  | mpRestart (h tag : Nat)
  /-- SHR_CFG_EN_WRITE (R34): Writing SHR_CFG_n.EN to 1 defines the share and locks its registers, or is refused.
  -/
  | shrCfgEnWrite (n val : Nat)
  /-- TWINE_IDE_ACTIVE (R198): The Twine IDE stream becomes active and the session step proceeds. -/
  | twineIdeActive (p serial : Nat)
  /-- SEC_NONCE_READ (R361): A read of SEC_NONCE_0 issues and latches a new nonce. -/
  | secNonceRead (h : Nat)
  /-- REGISTER_WRITE (R401): A BAR0 write to a register without a row of its own updates the fields its access and
  lock permit, or is discarded if malformed. -/
  | registerWrite (h bar off size val : Nat)
  /-- SPDM_DOE_MESSAGE (R356): An SPDM or IDE_KM request arrives over DOE at a head and is answered, setting up or
  ending the head's IDE streams. -/
  | spdmDoeMessage (h : Nat) (m : DoeMsg)
  /-- SERVICE_INPUT_VALID (R273): Service input becomes valid; by phase this starts power-up and bring-up, a warm
  return from LINGER, or is only recorded during a Save. -/
  | serviceInputValid (ticks : Nat)
  /-- WAKE_N_FALL (R273): WAKE_N falls; in OFF or DORMANT it is an on request (latched while input is absent), and
  in standby it wakes the controller. -/
  | wakeNFall (ticks : Nat)
  /-- COMPARATOR_TRIP (R111): Save comparator A or B trips after its deglitch; this starts a Save in SERVICE or
  RESTORE, stops bring-up into DORMANT, or is only recorded. -/
  | comparatorTrip (b ticks : Nat)
  /-- LATCH_OPEN (R395): The ejector latch opens; while LED_SAFE is dark in SERVICE or RESTORE a Save starts with
  reason LATCH, and otherwise it is only recorded. -/
  | latchOpen (ticks : Nat)
  /-- RESET_N_ASSERT (R385): RESET_N goes low; the device reset acts by phase: Save with reason RESET, deferral
  during a Save, DRAM-held reset from LINGER, or a boot-chain hold. -/
  | resetNAssert (ticks : Nat)
  /-- RESET_N_RELEASE (R385): RESET_N rises; a held on request acts, or the boot chain restarts from ROM start,
  and the forced-abort timer clears. -/
  | resetNRelease (ticks : Nat)
  /-- GEN_RST_WRITE (R384): A GEN_RST write with KEY 0xA5 and DEVRST 1 requests a software reset; any other KEY
  has no effect. -/
  | genRstWrite (sb : Bool) (val ticks : Nat)
  /-- RESET_DATAGRAM (R384): A UDP datagram to port 7416 carrying the magic value and serial causes a software
  reset while NETRST is 1; any other datagram is discarded. -/
  | resetDatagram (payload : List Byte)
  /-- FORCED_ABORT (R124): The RESET_N low timer reaches 10 s in SAVE; the Save is truncated with result 3 and the
  controller resets with DRAM lost. -/
  | forcedAbort (commits : List Nat)
  /-- MANIFEST_CLOSED (R150): An anchor copy of the Save's manifest reads back valid; DRAM enters self-refresh,
  and the device enters LINGER or BRINGUP. -/
  | manifestClosed (flips : List (List Nat))
  /-- SAVE_BUS_WARNING (R120): Save-bus warning held for 1 ms during streaming cuts R_S by a quarter, and again
  after each further 1 ms while it holds. -/
  | saveBusWarning (mv : Nat)
  /-- SAVE_BUS_LOW (R120): Save-bus low held for 100 µs stops new Skeins, lists unstreamed units UNSAVED and
  begins truncation. -/
  | saveBusLow (mv : Nat)
  /-- RAIL_POWER_GOOD (R274): A rail reports power-good; the sequence advances to the next rail or step. -/
  | railPowerGood (slot mv : Nat)
  /-- RAIL_FAULT (R281): A rail leaves its fault window or loses power-good; the response depends on group and
  phase and may act as a power-loss trigger. -/
  | railFault (slot kind : Nat)
  /-- RAIL_WARNING (R280): A rail passes a warning limit for its hold time, or a regulator reports a warning, and
  event 0xA004 is recorded. -/
  | railWarning (slot kind reading : Nat)
  /-- OFF_WAIT_EXPIRY (R278): t_OFF_MIN expires in OFF_WAIT, ONPEND clears and power-up step 1 begins. -/
  | offWaitExpiry (ticks : Nat)
  /-- PMBUS_STATUS_POLL (R272): Every 10 ms STATUS_WORD is read from every PMBus slave, and telemetry every 100
  ms. -/
  | pmbusStatusPoll (status : List (Nat × Nat)) (tele : List (Nat × Nat × Nat))
  /-- LB_ALERT (R272): LB_ALERT_N falls and the alerting slave is read through the Alert Response Address within 1
  ms. -/
  | lbAlert (slot status : Nat)
  /-- HOLDUP_MEASUREMENT (R283): The save bus falls from 36.0 V to 30.0 V during a POWER Save; capacitance and
  hold-up are computed and MR_HOLDUP is updated. -/
  | holdupMeasurement (tm : Nat) (packHigh : Bool)
  /-- OP_CHANGE_COMPLETE (R290): A frequency or voltage step of an operating-point change ends, and the next step
  or a held request proceeds. -/
  | opChangeComplete (mv : Nat)
  /-- TEMPERATURE_SAMPLE (R425): Die sensors are sampled every 1 ms; Tj sets the thermal cap and at 110 °C acts as
  a power-loss trigger. -/
  | temperatureSample (readings : List Int)
  /-- LOCKSTEP_MISMATCH (R329): SP1 and its checker disagree; both halt and an SP1 reload starts. -/
  | lockstepMismatch (pc : Nat)
  /-- SP_WATCHDOG_EXPIRY (R329): An SP watchdog expires and that SP's reload starts. -/
  | spWatchdogExpiry (n : Nat)
  /-- SRAM_UNCORRECTABLE (R328): An uncorrectable SRAM error in a processor is treated as that processor's
  watchdog expiring. -/
  | sramUncorrectable (p : Nat)
  /-- EXECUTE_FAULT (R329): An instruction fetch from outside the processor's SRAM or ROM faults and is treated as
  a watchdog expiry. -/
  | executeFault (p addr : Nat)
  /-- SP_RELOAD_COMPLETE (R338): A reloaded SP reports ready; its readiness bits are restored and event 0xD003 is
  recorded. -/
  | spReloadComplete (n : Nat) (storeOk : Bool)
  /-- CLOCK_CHECK_RETRY (R296): Every 100 ms in BOSC_START the BOSC lock check is retried against REFCLK_P/N. -/
  | clockCheckRetry (ref : Bool)
  /-- BOSC_START_CHECK_PASS (R296): BOSC passes its lock check; all PLLs lock on BOSC and the clock state becomes
  BOSC. -/
  | boscStartCheckPass (lfo : Int)
  /-- BOSC_MONITOR_TRIP (R296): The BOSC monitor trips; PLLs and Twine SerDes move to REFCLK_P/N or the LFO and
  the fallback Weir loads. -/
  | boscMonitorTrip (test : Nat)
  /-- REFCLK_MONITOR_TRIP (R296): The REFCLK_P/N monitor trips; head links go down, or in fallback the standby
  PLLs move to the LFO. -/
  | refclkMonitorTrip (test : Nat)
  /-- PLL_LOCK_LOSS (R295): A PLL loses lock and relocks, or after a third loss in 1 s moves to the next source.
  -/
  | pllLockLoss (p : Nat)
  /-- PTP_SYNC (R301): A PTP Sync message updates the servo, trims and lock state, stepping or slewing the
  counter. -/
  | ptpSync (off freq logInt : Int) (ticks : Nat)
  /-- PTP_ANNOUNCE (R301): A PTP Announce message is taken for transmitter selection and currentUtcOffset. -/
  | ptpAnnounce (id rank utcOff : Nat)
  /-- PTM_REQUEST (R301): Every 10 ms SP5 issues a PTM request and disciplines the counter rate. -/
  | ptmRequest (enabled : Bool) (freq : Int)
  /-- COMPATIBILITY_TRIM (R298): Every 10 min BOSC and AOSC are trimmed against REFCLK_P/N, unless spreading is
  seen. -/
  | compatibilityTrim (spread : Nat) (change : Int) (period : Nat)
  /-- LFO_TRIM (R297): Every 10 min the LFO is trimmed against BOSC. -/
  | lfoTrim (trim : Int)
  /-- CK_SET_WRITE (R302): A write of CK_SET sets the counter from UTC, or is ignored while PTP is LOCKED. -/
  | ckSetWrite (utc : Nat)
  /-- CK_PTP_WRITE (R308): A write to CK_PTP restarts the PTP port. -/
  | ckPtpWrite (val : Nat)
  /-- CK_CMON_WRITE (R300): A CK_CMON write changes CLKMON_OUT's source or divisor at the next falling edge, or
  holds the pin low and sets ERR. -/
  | ckCmonWrite (val : Nat)
  /-- ALARM_FIRED (R305): The armed alarm reaches its time or tick count; FIRED sets, and asleep it acts as a
  wake. -/
  | alarmFired (ticks : Nat)
  /-- HOST_WRITE (R41): A whole, checked CXL.mem write enters ingress, reserves its dirty-map entry, counts in
  residue and is completed. -/
  | hostWrite (h hpa : Nat) (data : BitVec 512) (be : BitVec 64) (poison : Bool)
  /-- HOST_READ (R44): A CXL.mem read is answered at fixed latency, forwarded, poisoned, or made to wait on a
  demand fetch. -/
  | hostRead (h hpa wait : Nat) (err : LineError)
  /-- HEAD_LINK_UP (R53): A head link reaches L0; the readiness bit sets and queues resume, rewriting unreleased
  completions. -/
  | headLinkUp (h width rate : Nat) (flit256 : Bool)
  /-- LINK_RECOVERY (R53): A head link enters recovery; requests and posting pause and resume if L0 returns within
  DOWN_TO. -/
  | linkRecovery (h replays : Nat) (enters : Bool)
  /-- LINK_DOWN_TIMEOUT (R53): Recovery exceeds HP_CTL_k.DOWN_TO and the head is treated as link down. -/
  | linkDownTimeout (h : Nat)
  /-- SURPRISE_LINK_DOWN (R53): A head link drops; received requests go into ingress, unsent completions are
  dropped and queues are suspended. -/
  | surpriseLinkDown (h : Nat)
  /-- IDE_INTEGRITY_FAILURE (R45): An IDE MAC fails at a head; unverified requests are discarded, the stream ends
  and the link is treated as down. -/
  | ideIntegrityFailure (h : Nat)
  /-- VIRAL (R54): A head enters Viral; later writes are discarded and reads poisoned until conventional reset. -/
  | viral (h : Nat)
  /-- HP_PERST_ASSERT (R385): PERST# or hot reset of head k resets the head's CXL.io state and disables its
  queues. -/
  | hpPerstAssert (h : Nat)
  /-- HP_PERST_RELEASE (R385): PERST# of head k is released and the head trains. -/
  | hpPerstRelease (h : Nat)
  /-- HEAD_FLR (R53): An FLR of a head function aborts its mailbox command and disables its queues. -/
  | headFlr (h : Nat)
  /-- GPF_PHASE1 (R46): GPF Phase 1 is answered within 1 µs and counted. -/
  | gpfPhase1 (h : Nat)
  /-- GPF_PHASE2 (R46): GPF Phase 2 is answered once credited writes have entered ingress. -/
  | gpfPhase2 (h : Nat)
  /-- HP_CTL_RETRAIN (R56): Writing HP_CTL_k.RETRAIN retrains the head as Head Retrain does. -/
  | hpCtlRetrain (h val : Nat)
  /-- SQ_TAIL_WRITE (R64): A submission tail doorbell advances the queue, or moves it to ERROR for an invalid
  value. -/
  | sqTailWrite (h q val : Nat)
  /-- CQ_HEAD_WRITE (R64): A completion head doorbell releases completion slots; a backward value is counted as
  stale. -/
  | cqHeadWrite (h q val : Nat)
  /-- INL_TAG_WRITE (R65): Holds the tag of the next inline commit. -/
  | inlTagWrite (h q val : Nat)
  /-- INL_CMD_WRITE (R65): Captures an inline commit, holds one until R61 permits, or faults or overruns. -/
  | inlCmdWrite (h q : Nat) (tag : Option Nat) (val : Nat)
  /-- INLINE_COMMIT_RELEASE (R65): A held inline commit is captured once R61 permits. -/
  | inlineCommitRelease (q : Nat)
  /-- DESCRIPTOR_FETCH (R62): The engine fetches descriptors round-robin from ACTIVE queues with room under R61
  and captures them. -/
  | descriptorFetch (q : Nat) (ds : List Desc) (fail : Nat)
  /-- QUE_ACTL_WRITE (R86): Writing QUE_ACTL.EN to 1 enables the admin queue, and writing it to 0 deletes it and
  unlocks the ring registers. -/
  | queActlWrite (h val : Nat)
  /-- INTERRUPT_AGGREGATION_TIMEOUT (R79): AGGT µs pass since the oldest unsignalled completion and the queue's
  vector is signalled. -/
  | interruptAggregationTimeout (q : Nat)
  /-- COMMIT (R71): Captures a ticket at a level, completing at capture or when the level holds. -/
  | commit (q tag share level off len : Nat) (u : Bool)
  /-- FENCE (R80): Completes once every earlier ticket of the queue has completed, optionally barring fetch. -/
  | fence (q tag : Nat) (b u : Bool)
  /-- RELEASE (R96): Requests a release of a 4 KiB-aligned range from the dirty set and image, through a walk. -/
  | release (q tag share off len : Nat) (u : Bool)
  /-- RELEASE_CAPTURE (R96): A waiting RELEASE is captured once covering tickets complete and a walk register is
  free. -/
  | releaseCapture (q seq : Nat)
  /-- RELEASE_WALK_END (R96): A release walk finishes its range; RELEASE_RUN is logged and the RELEASE completes
  DONE. -/
  | releaseWalkEnd (r : Nat)
  /-- PROBE (R73): Reports which levels would hold now and the dirty units of the range. -/
  | probe (q tag share off len : Nat) (u : Bool)
  /-- FULL_SYNC_COMMIT (R209): The acknowledged sequence reaches JOIN after a full sync, and the HELD to TWINED
  change commits. -/
  | fullSyncCommit (n : Nat)
  /-- SEAL_COMMIT (R30): A SEAL commits once the share's dirty units are drained and their Skeins committed. -/
  | sealCommit (n : Nat)
  /-- TEST_BEGIN (R108): A waiting test or pack test begins once residue lies below the sluice mark with the test
  counted. -/
  | testBegin (which : Nat)
  /-- SKEIN_START (R104): The Millrace takes a generation, charges the bucket and reads selected units into a
  Skein once tokens, limits and partial-Skein rules allow. -/
  | skeinStart (bad : List Nat)
  /-- SKEIN_COMMIT (R432): All Strands of a Skein have programmed; the index is updated, units become CLEAN and
  the satisfied tickets complete. -/
  | skeinCommit (gen : Nat)
  /-- MR_MARKS_WRITE (R110): A write to MR_MARKS takes effect, or is ignored with event 0x3008 if the marks are
  not ordered. -/
  | mrMarksWrite (val : Nat)
  /-- RECORD_SKEIN_COMMIT (R144): A RECORD Skein commits in order and FC_LSN advances. -/
  | recordSkeinCommit (gen : Nat)
  /-- ANCHOR_READBACK (R150): Anchor copies are read back; a valid copy establishes the checkpoint, or new copies
  are written at k + 1. -/
  | anchorReadback (flips : List (List Nat))
  /-- FIRST_ADMISSION_COMPLETE (R389): The first all-ZERO pass's anchor reads back; the IMAGE_ID is confirmed and
  PERSIST sets. -/
  | firstAdmissionComplete (flips : List (List Nat))
  /-- PREPARATION_COMPLETE (R156): Journal read, index load and replay end, and the data stage opens. -/
  | preparationComplete (bad : List Nat) (lost : List (Nat × Nat))
  /-- EAGER_READ_COMPLETE (R158): An eager Strand read finishes, installs its slots and may make a share READY. -/
  | eagerReadComplete (gen strand : Nat) (reads : List (List Nat)) (others bad : List Nat)
  /-- DEMAND_FETCH_COMPLETE (R162): A demand fetch installs its unit, answers waiting reads and merges waiting
  writes. -/
  | demandFetchComplete (u : Nat) (flips others : List Nat) (bad : Bool) (us : Nat)
  /-- MEMORY_TRAINING_COMPLETE (R227): All memory channels have trained or short-retrained, or bring-up requests
  recovery. -/
  | memoryTrainingComplete (rate : Option Nat) (cap ranks : Nat) (good : List Nat)
  /-- MEMORY_LINK_ERROR (R228): A CA parity or write CRC error is retried, and after 3 failures starts a short
  retrain. -/
  | memoryLinkError (c cause tries : Nat) (retrained : Bool)
  /-- PATROL_SCRUB (R233): Patrol scrub reads every active line once per period. -/
  | patrolScrub (found : List (Nat × LineError)) (reserve : List (Nat × ReserveError))
  /-- HEAL_COMPLETE (R235): An uncorrectable CLEAN unit is reread from flash and rewritten in DRAM. -/
  | healComplete (u : Nat) (flips others : List Nat) (bad : Bool)
  /-- SPARE_POINTER_CHECKPOINT (R238): Every 1 s the rank copy pointer is checkpointed to the hidden reserve. -/
  | sparePointerCheckpoint (ptr : Nat)
  /-- MODULE_TEMPERATURE_POLL (R239): Every 100 ms module temperatures are read and the refresh interval adjusted.
  -/
  | moduleTemperaturePoll (temps : List (Option Int))
  /-- FLASH_TRAINING_COMPLETE (R173): A flash channel trains to a rate, retiring failed volumes or the channel. -/
  | flashTrainingComplete (c : Nat) (rate : Option Nat) (dies : List (Nat × Nat × Nat × Nat)) (failed : List Nat) (found : List (Nat × Nat × Nat × Nat))
  /-- ZQ_CALIBRATION (R173): ZQ calibration repeats every 10 min or on a 10 °C die temperature move. -/
  | zqCalibration (t : Nat)
  /-- COMMAND_TIMEOUT (R175): A flash command exceeds twice its limit; Reset LUN is issued and the operation
  fails. -/
  | commandTimeout (t op b gen : Nat) (resetDone : Bool)
  /-- STRAND_PROGRAM_FAIL (R187): A Strand program fails; outside a Save the Skein is abandoned and the block
  grown bad, and in a Save R122 applies. -/
  | strandProgramFail (gen strand : Nat)
  /-- BLOCK_ERASE_COMPLETE (R186): An erase finishes, and the erased probe and seal program follow, or an attempt
  fails. -/
  | blockEraseComplete (b : Nat) (ok : Bool) (zeros : List Nat)
  /-- SEAL_VERIFY (R134): A seal page reads back verified and SEALED is appended, or the attempt fails. -/
  | sealVerify (b : Nat) (flips : List Nat)
  /-- ERASE_RESUME (R178): A suspended erase resumes once no higher-priority work waits on its target. -/
  | eraseResume (t : Nat)
  /-- READ_CALIBRATION (R180): Every INTERVAL hours read-level offsets are calibrated for each age bin. -/
  | readCalibration (t bin : Nat) (counts : List Nat)
  /-- TWINE_LINK_UP (R198): A Twine port reaches L0 and begins Hello. -/
  | twineLinkUp (p width rate : Nat) (flit : Bool)
  /-- TWINE_LINK_DOWN (R199): A Twine link goes down; the pair degrades, or becomes ABSENT and starts LOSS_TO. -/
  | twineLinkDown (p : Nat)
  /-- TWINE_IDE_FAIL (R217): A Twine IDE integrity failure ends the stream and takes the link down. -/
  | twineIdeFail (p : Nat)
  /-- HELLO (R206): A received HELLO records the peer serial and sets personalities, or holds the port for
  loopback or mismatch. -/
  | hello (p serial seen : Nat)
  /-- SESSION (R206): A SESSION message opens or confirms a session and resets sequences. -/
  | session (p n : Nat) (confirm : Bool)
  /-- STATE (R215): A STATE message updates the record of the partner share, and at session opening drives
  reunion. -/
  | state (share partner role pstate : Nat) (lossrep last incons : Bool) (pairid : Nat)
  /-- LINK_JOIN (R203): A second link joins the session once its copy on the established link has arrived. -/
  | linkJoin (p seq : Nat)
  /-- MARK_INTERVAL (R201): Every 250 ns while lines flow, a MARK is sent on every link. -/
  | markInterval (n0 n1 : Nat)
  /-- MARK (R202): A received MARK may advance the received prefix, and an ACK is sent. -/
  | mark (p seq : Nat)
  /-- ACK (R202): A received ACK advances the acknowledged sequence and completes TWINED tickets, syncs and catch-
  ups. -/
  | ack (prefix_ session : Nat)
  /-- REPLICA_WRITE (R200): An inbound Twine write into the replica window enters ingress, or is refused. -/
  | replicaWrite (p share off : Nat) (lines : List (BitVec 512 × Bool))
  /-- RELEASE_MESSAGE (R203): A Twine RELEASE loads a walk register and starts the walk when every link's copy has
  arrived. -/
  | releaseMessage (p seq share units first : Nat)
  /-- SAVING (R213): A received SAVING makes the pair LOST at once. -/
  | saving (p : Nat)
  /-- DESIGNATE (R208): The peer accepts or refuses making its share a REPLICA and replies. -/
  | designate (share peer pairid base size : Nat)
  /-- DESIGNATE_RESP (R208): A reply completes Designate Replica with its status. -/
  | designateResp (pairid status : Nat)
  /-- JOIN (R206): The replica becomes LIVE and INCONS clears. -/
  | join (p seq share : Nat)
  /-- UNPAIR (R206): The replica becomes STALE. -/
  | unpair (p seq share : Nat)
  /-- CATCHUP_BEGIN (R206): The replica enters CATCHUP with INCONS set. -/
  | catchupBegin (p seq share : Nat) (full : Bool)
  /-- CATCHUP_END (R206): The replica becomes LIVE with INCONS clear. -/
  | catchupEnd (p seq share : Nat)
  /-- PACK_PRESENT_DEBOUNCE (R248): PRSNT_N has been low for 100 ms and SBS identification begins. -/
  | packPresentDebounce (bay ticks : Nat)
  /-- PACK_IDENTIFIED (R248): A profile matches; the wake reference is taken and charging or precharge begins. -/
  | packIdentified (bay : Nat) (id : PackId) (volt : Nat)
  /-- IDENT_TIMEOUT (R248): No profile or answer within 1 s, and the bay is UNPROFILED. -/
  | identTimeout (bay : Nat)
  /-- PACK_REMOVED (R263): PRSNT_N rises; the fallback Weir loads, the charger stops and SP4 drops the bay. -/
  | packRemoved (bay ticks : Nat)
  /-- ESTIMATOR_UPDATE (R250): Every 1 ms SP4 advances charge and RC voltages and recomputes P_D and E_U. -/
  | estimatorUpdate (a b : BaySense)
  /-- SBS_POLL (R246): The pack monitor is polled for temperature, voltage, current and status. -/
  | sbsPoll (bay : Nat) (ans : Option SbsData)
  /-- PRECHARGE_COMPLETE (R248): The pack voltage reaches V_DEEP and charging begins. -/
  | prechargeComplete (bay volt : Nat)
  /-- PRECHARGE_TIMEOUT (R248): Precharge has run 2 h and the bay enters FAULT. -/
  | prechargeTimeout (bay : Nat)
  /-- CHARGE_COMPLETE (R248): Float voltage with low current for 60 s sets FULL and FLOAT. -/
  | chargeComplete (bay : Nat)
  /-- FLOAT_DROP (R248): Voltage 1 % below float for 10 s returns the bay to CHARGE. -/
  | floatDrop (bay : Nat)
  /-- PAUSE_ATTEMPT (R253): Every 10 min the pause conditions are tried and a pause may begin. -/
  | pauseAttempt (bay : Nat)
  /-- PAUSE_COMPLETE (R252): After 20 min of rest a reference point is taken. -/
  | pauseComplete (bay volt : Nat)
  /-- PAUSE_ABORT (R248): Current reaches C_D/1000 during a pause, which ends without a reference. -/
  | pauseAbort (bay : Nat)
  /-- TEST_DISCHARGE_END (R257): The counted charge reaches the planned depth and rest 2 begins. -/
  | testDischargeEnd (bay dv di : Nat)
  /-- INHIBIT_CLEAR (R248): The inhibit cause has been absent 60 s and charging resumes. -/
  | inhibitClear (bay : Nat)
  /-- REFERENCE_AGE_7_DAYS (R253): Seven days pass without a reference point and event 0x9005 is recorded. -/
  | referenceAge7Days (bay : Nat)
  /-- SB_SET_POINTER (R312): SB command 0x20 sets the register-window pointer. -/
  | sbSetPointer (off pec : Nat)
  /-- SB_REG_READ (R314): SB command 0x21 reads the register at the pointer, returning BUSY after 2 ms. -/
  | sbRegRead (late : Bool)
  /-- SB_REG_WRITE (R313): SB command 0x22 writes one register once the block, PEC and STOP arrive. -/
  | sbRegWrite (off val pec : Nat) (stop : Bool)
  /-- MCTP_PACKET (R315): An MCTP packet is assembled into a message and dispatched as control or CXL command. -/
  | mctpPacket (dst src seq tag : Nat) (som eom pec : Bool) (body : List Byte)
  /-- SET_ENDPOINT_ID (R315): Assigns the MCTP endpoint ID. -/
  | setEndpointId (eid : Nat)
  /-- GET_MCTP_VERSION_SUPPORT (R315): Returns supported MCTP versions. -/
  | getMctpVersionSupport (ty : Nat)
  /-- ALERT_RESPONSE (R311): An Alert Response read returns the SB target address and SB_ALERT_N rises. -/
  | alertResponse (lost : Bool)
  /-- SB_TARGET_TIMEOUT (R324): SCL is low 25 ms and the SB target logic resets. -/
  | sbTargetTimeout (cmd : Nat)
  /-- CONTROLLER_TIMEOUT (R318): A low period reaches 35 ms and the transaction fails with TIMEOUT. -/
  | controllerTimeout (i target : Nat) (sdaLow : Bool)
  /-- ARBITRATION_LOSS (R320): The controller reads 0 where it sent 1 and releases the bus, or fails with ARB_SR.
  -/
  | arbitrationLoss (i target : Nat) (stop : Bool)
  /-- ARBITRATION_BACKOFF_EXPIRY (R320): After STOP, bus free and a random backoff, the transaction restarts. -/
  | arbitrationBackoffExpiry (i : Nat)
  /-- NACK_RETRY (R324): 1 ms after an unacknowledged address the transaction is retried, or fails. -/
  | nackRetry (i target : Nat)
  /-- SDA_STUCK (R324): SDA has been low 35 ms while idle and bus recovery pulses begin. -/
  | sdaStuck (i : Nat)
  /-- BUS_RECOVERY_RETRY (R324): Recovery is retried 10 ms apart, then every 1 s in FAULT. -/
  | busRecoveryRetry (i : Nat) (pulses : Option Nat)
  /-- ALARM_WARNING_RECEIVED (R325): A pack write to 0x10 is acknowledged, discarded and counted. -/
  | alarmWarningReceived (i : Nat)
  /-- FW_CTL_RECREQ (R343): Writing RECREQ requests recovery at the next bring-up. -/
  | fwCtlRecreq (val : Nat)
  /-- TFTP_BLOCK (R344): A TFTP data block of a recovery image arrives. -/
  | tftpBlock (n len : Nat) (hdr : FwHeader)
  /-- RECOVERY_IMAGE_RECEIVED (R344): A complete recovery image is written, verified and activated on trial, or
  discarded. -/
  | recoveryImageReceived (xport : Nat) (hdr : FwHeader)
  /-- DRBG_HEALTH_FAILURE (R358): A noise-source health test fails and the DRBG stops. -/
  | drbgHealthFailure (test : Nat)
  /-- DRBG_RETRY (R358): The health test is retried 1 s after a failure. -/
  | drbgRetry (ok : Bool)
  /-- EV_LSEL_WRITE (R377): A write of EV_LSEL starts a fetch of a log entry. -/
  | evLselWrite (val : Nat)
  /-- BUTTON_PRESS_RELEASE (R391): A service button press shorter than 1 s toggles locate on release. -/
  | buttonPressRelease (ms : Nat)
  /-- TOUCH_MEASURE (R392): Every 10 ms TOUCH_SNS is measured, and a touch acknowledges or silences attention. -/
  | touchMeasure (count : Nat)
  /-- TEST_COMPLETE (R190): A running self-test ends, passing or failing, and a TESTING target returns to HEALTHY
  or retires and its channel is unbound. -/
  | testComplete (n : Nat) (passed : Bool) (faults : Nat) (causes : List (Nat × Nat))
  /-- HDM_DECODER_COMMIT (R39): A host commits an HDM decoder, which fails with Commit Error on overlap or locks
  on commit. -/
  | hdmDecoderCommit (h i base size ways gran dpa : Nat) (lock : Bool)
  /-- MGT_ETH_LINK_CHANGE (R387): The management Ethernet link comes up or goes down, changing the MGTETH
  readiness bit and PTP, TFTP and reset-datagram service. -/
  | mgtEthLinkChange (up : Bool)
  /-- MSIX_VECTOR_UNMASK (R407): A host unmasks an MSI-X vector or function in BAR4 and any pending message is
  sent. -/
  | msixVectorUnmask (h : Nat) (vec : Option Nat)
  /-- SCAN_MEDIA_COMPLETE (R47): A background Scan Media scan of DRAM lines finishes, its findings enter the
  poison list and the background command ends. -/
  | scanMediaComplete (h : Nat) (found : List Nat)
  /-- ENERGY_GONE (R17): All pack and input energy is gone while DORMANT, and the device falls to OFF. -/
  | energyGone
  /-- SAVE_START_RECORD (R114): Once ingress has drained and SP1 is ready, the save-start record is programmed and
  streaming begins at R_S, after any merge wait. -/
  | saveStartRecord
  /-- TRUNCATED_MANIFEST_CLOSE (R120): Once the Skeins in flight have committed or been abandoned, a truncated
  manifest closes with result 2. -/
  | truncatedManifestClose
  /-- ENERGY_FAIL (R120): The Save can no longer program before a manifest closes; the last closed manifest stands
  and the Save is unclosed. -/
  | energyFail
  /-- LINGER_TIMER_EXPIRY (R126): The Linger timer expires and passage to DORMANT begins. -/
  | lingerTimerExpiry
  /-- LINGER_ENERGY_LIMIT (R126): E_U falls below E_LIM in LINGER and passage to DORMANT begins. -/
  | lingerEnergyLimit
  /-- STANDBY_ENTRY (R288): The CORE vote has read IDLE for the STBY delay with zero residue, and the controller
  enters DEEP standby. -/
  | standbyEntry
  /-- MP_WATCHDOG_EXPIRY (R339): The MP watchdog expires and an MP restart starts. -/
  | mpWatchdogExpiry
  /-- MP_RESTART_COMPLETE (R339): The restarted MP image runs again after ROM verification, and pending MP work
  resumes. -/
  | mpRestartComplete
  /-- TRIAL_CONFIRM_TIMEOUT (R337): Trial firmware has run CONFIRM seconds in SERVICE without faults, and a swap
  record clearing TRIAL is written. -/
  | trialConfirmTimeout
  /-- REFCLK_RETURN (R296): REFCLK_P/N passes its monitor for 10 ms outside SAVE, and clocks in LFO_FB return to
  REFCLK_FB. -/
  | refclkReturn
  /-- BOSC_RETURN (R296): A restarted BOSC passes its checks for 60 s in SERVICE or RESTORE, and the PLLs switch
  hitlessly back to BOSC. -/
  | boscReturn
  /-- LFO_MONITOR_TRIP (R295): The LFO misses an edge and is removed from every fallback order until bring-up. -/
  | lfoMonitorTrip
  /-- AOSC_MONITOR_TRIP (R295): The AOSC frequency check fails and later sleeps are given unknown uncertainty. -/
  | aoscMonitorTrip
  /-- ANNOUNCE_TIMEOUT (R301): No Announce arrives within announceReceiptTimeout and the servo leaves LOCKED. -/
  | announceTimeout
  /-- CK_TIME_READ (R301): A read of CK_TIME latches CK_TFRAC and CK_UNC for the same instant. -/
  | ckTimeRead
  /-- PPS_PULSE (R304): At each whole second of the counter PPS_OUT rises for WIDTH, unless it is suppressed. -/
  | ppsPulse
  /-- PARTIAL_SKEIN_TIMEOUT (R93): Eligible units have waited 100 µs with a class 1 or 2 unit, or 1 s in any case,
  and a partial Skein may start. -/
  | partialSkeinTimeout
  /-- WEIR_CANDIDATE (R100): Every 1 ms SP0 computes the Weir terms and fallbacks and offers a candidate that
  lowers at once or rises after confirmation. -/
  | weirCandidate
  /-- BUCKET_FILL (R104): Every 1 ms the wear bucket gains RATE × 1 ms, up to DEPTH. -/
  | bucketFill
  /-- AGE_SWEEP (R90): The hardware age sweep clamps the STAMP of units aged 512 s or more. -/
  | ageSweep
  /-- BUCKET_RECORD_WRITE (R110): Every 10 min in SERVICE and RESTORE the MP writes the bucket record to NOR. -/
  | bucketRecordWrite
  /-- JOURNAL_FLUSH_TIMEOUT (R144): 10 ms after the oldest waiting record the journal tail is written out as a
  RECORD Skein. -/
  | journalFlushTimeout
  /-- INDEX_SEGMENT_COMMIT (R141): An INDEX Skein of an index pass commits, INDEX_SEG is appended and the pass
  continues or ends with CKPT_END and an anchor. -/
  | indexSegmentCommit
  /-- ADMISSION_EVALUATE (R389): Every 100 ms the admission conditions are evaluated, and persistence is latched
  once all hold. -/
  | admissionEvaluate
  /-- RANK_SPARE_COPY_END (R238): The rank copy finishes and the old rank is spared out. -/
  | rankSpareCopyEnd
  /-- RESKEIN_START (R192): A target reaches the head of the re-skein queue and its bundles are dissolved. -/
  | reskeinStart
  /-- RESKEIN_RELOCATE_END (R192): Relocation of a retired target's live units ends and the pass wait begins. -/
  | reskeinRelocateEnd
  /-- RESKEIN_CHECKPOINT_WRITE (R193): Every 10 s the re-skein checkpoint is written to NOR. -/
  | reskeinCheckpointWrite
  /-- LOSS_TIMEOUT (R213): LOSS_TO expires in ABSENT and the pair becomes LOST. -/
  | lossTimeout
  /-- HELLO_INTERVAL (R206): Every 1 ms until Hello ends, HELLO is sent. -/
  | helloInterval
  /-- TWIN_MAP_SWAP (R210): Every 1 ms, if the previous twin map is clear, the maps swap. -/
  | twinMapSwap
  /-- SB_READ_STATUS (R312): SB command 0x23 returns the last write status. -/
  | sbReadStatus
  /-- GET_ENDPOINT_ID (R315): Returns the endpoint ID. -/
  | getEndpointId
  /-- GET_ENDPOINT_UUID (R315): Returns the endpoint UUID. -/
  | getEndpointUuid
  /-- GET_MESSAGE_TYPE_SUPPORT (R315): Returns supported message types. -/
  | getMessageTypeSupport
  /-- SB_REPEATED_START (R323): A repeated start in the ninth clock discards the byte in progress. -/
  | sbRepeatedStart
  /-- TFTP_RETRANSMIT (R344): After 1 s without data TFTP retransmits, and after 5 tries restarts in 10 s. -/
  | tftpRetransmit
  /-- NONCE_EXPIRY (R361): A nonce expires after 300 s. -/
  | nonceExpiry
  /-- DRBG_RESEED (R358): The DRBG reseeds every 60 s or 2^20 requests. -/
  | drbgReseed
  /-- OCCURRENCE_PROCESS (R371): The MP processes a queued occurrence into its summary and logs it. -/
  | occurrenceProcess
  /-- RECORDER_CHECKPOINT (R374): Every CKPT minutes a recorder checkpoint of all summaries is written. -/
  | recorderCheckpoint
  /-- DEVICE_LIMIT_EPISODE_END (R375): The device-wide bucket holds a token again and 0xF005 is raised. -/
  | deviceLimitEpisodeEnd
  /-- EV_S_0_READ (R377): A read of EV_S_0 latches a summary, advancing CODE with ITER. -/
  | evS0Read
  /-- LOG_ENTRY_FETCH_COMPLETE (R377): The entry is in EV_L_0 to EV_L_7 and EV_LSTS is updated. -/
  | logEntryFetchComplete
  /-- BUTTON_HOLD_3S (R391): A press reaching 3 s requests or cancels removal. -/
  | buttonHold3s
  /-- REMOVAL_SAFE (R394): The safe conditions hold; LED_SAFE lights and RMTO starts. -/
  | removalSafe
  /-- REMOVAL_TIMEOUT (R394): RMTO expires in SAFE and the hold ends. -/
  | removalTimeout
  /-- MODULE_UNSEATED (R395): PRSNT_N rises; recorded, with attention when LED_SAFE is dark. -/
  | moduleUnseated
  /-- MODULE_SEATED (R395): PRSNT_N falls and heads and Twine ports may train. -/
  | moduleSeated
  /-- COPY_ENGINE_SCAN_END (R211): The copy engine finishes scanning a share for a catch-up or full sync and sends
  CATCHUP_END or JOIN. -/
  | copyEngineScanEnd
  /-- NOR_OPERATION_COMPLETE (R334): A boot-store program or erase finishes and FW_NOR.STATE returns to IDLE or a
  suspended state, letting the next queued write or read proceed. -/
  | norOperationComplete
  /-- OPERATING_SECONDS_WRITE (R369): Every hour OPSEC is rewritten to the NOR identity sector. -/
  | operatingSecondsWrite
  deriving DecidableEq, Repr

end Sys2Proof
end

