-- ==== Sys2Proof/Decode.lean ====
section
/-! DEFINITION. The words of the opcode table. The table names the block's commands and gives none of them bits, so no word spells a command:
a register write, a descriptor, a mailbox opcode and an MCTP message are read where they arrive (Machine/Registers.lean, Fetch.lean,
TwoWire.lean). -/

namespace Sys2Proof

/-- The command that a word of so many bits spells by the table's bits: none, for no row gives any. -/
def decodeTableWord (_nbits _w : Nat) : Option Instr := none

end Sys2Proof
end

