-- ==== Sys2Proof/Machine/Maps.lean ====
section
/-! DEFINITION. Reading and updating the two containers of the state: maps keyed by a number and maps over ranges. -/

namespace Sys2Proof

/-- The value at a key, or the default. -/
def FMap.get {α : Type} (d : α) : FMap α → Nat → α
  | [], _ => d
  | (k, v) :: m, x => if k = x then v else FMap.get d m x

/-- Whether a key is listed. -/
def FMap.has {α : Type} : FMap α → Nat → Bool
  | [], _ => false
  | (k, _) :: m, x => k == x || FMap.has m x

/-- The value at a key, if listed. -/
def FMap.find {α : Type} : FMap α → Nat → Option α
  | [], _ => none
  | (k, v) :: m, x => if k = x then some v else FMap.find m x

/-- The map with a key set to a value, keys kept rising. -/
def FMap.put {α : Type} : FMap α → Nat → α → FMap α
  | [], x, y => [(x, y)]
  | (k, v) :: m, x, y =>
    if x < k then (x, y) :: (k, v) :: m
    else if x = k then (x, y) :: m
    else (k, v) :: FMap.put m x y

/-- The map without a key. -/
def FMap.del {α : Type} : FMap α → Nat → FMap α
  | [], _ => []
  | (k, v) :: m, x => if k = x then FMap.del m x else (k, v) :: FMap.del m x

/-- The map with the value at a key changed. -/
def FMap.modify {α : Type} (d : α) (m : FMap α) (x : Nat) (f : α → α) : FMap α :=
  FMap.put m x (f (FMap.get d m x))

/-- The value at a number, or the default. -/
def Segs.get {α : Type} (d : α) : Segs α → Nat → α
  | [], _ => d
  | (a, b, v) :: m, x => if a ≤ x ∧ x < b then v else Segs.get d m x

/-- The part of one entry outside a range. -/
def Segs.cutOne {α : Type} (lo hi a b : Nat) (v : α) : Segs α :=
  (if a < min b lo then [(a, min b lo, v)] else []) ++ (if max a hi < b then [(max a hi, b, v)] else [])

/-- The map with nothing covered in a range. -/
def Segs.cut {α : Type} (lo hi : Nat) : Segs α → Segs α
  | [] => []
  | (a, b, v) :: m => Segs.cutOne lo hi a b v ++ Segs.cut lo hi m

/-- The map with every number of a range set to one value. -/
def Segs.fill {α : Type} (m : Segs α) (lo hi : Nat) (v : α) : Segs α :=
  if lo < hi then (lo, hi, v) :: Segs.cut lo hi m else m

/-- The map with one number set. -/
def Segs.put {α : Type} (m : Segs α) (x : Nat) (v : α) : Segs α := Segs.fill m x (x + 1) v

/-- The entries of a map restricted to a range. -/
def Segs.within {α : Type} (lo hi : Nat) : Segs α → Segs α
  | [] => []
  | (a, b, v) :: m =>
    if max a lo < min b hi then (max a lo, min b hi, v) :: Segs.within lo hi m else Segs.within lo hi m

/-- How many numbers of a range an entry whose value passes the test covers. -/
def Segs.count {α : Type} (p : α → Bool) (lo hi : Nat) : Segs α → Nat
  | [] => 0
  | (a, b, v) :: m =>
    (if p v then min b hi - max a lo else 0) + Segs.count p lo hi m

/-- The map with every covered value of a range changed. -/
def Segs.mapIn {α : Type} (f : α → α) (lo hi : Nat) : Segs α → Segs α
  | [] => []
  | (a, b, v) :: m =>
    Segs.cutOne lo hi a b v ++
      (if max a lo < min b hi then [(max a lo, min b hi, f v)] else []) ++ Segs.mapIn f lo hi m

/-- The numbers of a range whose covering entry passes the test, up to a limit, in entry order. -/
def Segs.collect {α : Type} (p : α → Bool) (lo hi : Nat) : Nat → Segs α → List Nat
  | _, [] => []
  | lim, (a, b, v) :: m =>
    let n := if p v then min lim (min b hi - max a lo) else 0
    (List.range n).map (· + max a lo) ++ Segs.collect p lo hi (lim - n) m

end Sys2Proof
end

