-- ==== Sys2Proof/Config.lean ====
section
/-! DEFINITION. What one device fixes (the fuse row) and the values the spec leaves open. Each is a constant without a body:
no proof can see what it is. -/

namespace Sys2Proof

/-- R9: the factory fuse row, by the bit address of the register field it is copied to. -/
opaque Config.fuse : Nat → Nat

/-- R358: the random values the DRBG draws, by the number of draws made before. -/
opaque Config.drbg : Nat → Nat

/-- A value the spec leaves open: the n-th one taken in a run. -/
opaque Config.free : Nat → Nat

/-- R370: the position and width of each data item of an event code in its two data words, fixed in firmware. -/
opaque Config.evLayout : Nat → List (Nat × Nat)

/-- R370: the item of an event code that is its measure, or 0xFF for the interval since its previous occurrence. -/
opaque Config.evItem : Nat → Nat

/-- R370: whether the measure of an event code is signed. -/
opaque Config.evSigned : Nat → Bool

/-- R370: the histogram BASE of an event code. -/
opaque Config.evBase : Nat → Nat

/-- R311: the levels of the straps SB_AS[1:0]. -/
opaque Config.straps : Nat

/-- R113, R168, R349: whether a check of the n-th start of the boot chain passes: 0 the reconstruction of the device root key, 1 and 2 the tests
of Save comparators A and B, 3 the CRC of the restore map. -/
opaque Config.selfTest : Nat → Nat → Bool

/-- R37: the PCIe vendor identifier assigned to Ahnarhus, which the spec does not give (log 215). -/
opaque Config.vendorId : BitVec 16

/-- R188: whether the seal of a free block holds when it is verified again, by the draws before and the block (log 214). -/
opaque Config.sealHolds : Nat → Nat → Bool

/-- R175: the die profile of the JEDEC manufacturer and device identifiers that READ ID returns, none where no record matches: limits in ns of page
read, program, erase, suspend and resume, the plane count, and the ladder's offsets (log 215). -/
opaque Config.dieProfile : Nat → Option (List Nat)

/-- R349: the device root key, by byte. -/
opaque Config.deviceRootKey : Nat → Nat

/-- R350: HMAC-SHA-384 of a key and a message, by byte. -/
opaque Config.hmac384 : List Nat → List Nat → Nat → Nat

/-- R138, R149: AES-256-GMAC under a key, of an initialisation vector and additional data. -/
opaque Config.gmac : List Nat → List Nat → List Nat → Nat

/-- R139, R232: AES-256-XTS under a key, of a tweak and a data unit, by byte. -/
opaque Config.xts : List Nat → Nat → List Nat → Nat → Nat

/-- R360: whether words 8 to 19 of a token sign its words 0 to 7 under an owner key, from the key and the 20 words. -/
opaque Config.ownerSigns : Nat → List Nat → Bool

/-- R359: the SHA-384 of an owner key, its first byte lowest. -/
opaque Config.keyDigest : Nat → Nat

/-- R315: the UUID of the MCTP endpoint, as 16 bytes. -/
opaque Config.endpointUuid : Nat

/-- R315: the version entries of MCTP and of each message type. -/
opaque Config.mctpVersions : Nat → List Nat

/-- R225: the fixed hash of a channel address to bank group, bank, row and column. -/
opaque Config.dramHash : Nat → List Nat

/-- R300: the frequency in Hz of the core, management, memory and flash PLL outputs offered to CLKMON_OUT, by PLL. -/
opaque Config.pllFreq : Nat → Nat

/-- R247: the profile table of the boot block: how many profiles it holds, and the numbers of one by item: 0 C_D in 0.01 mAh, 1 V_NOM in mV,
2 P_RATE in W, 3 V_DEEP in mV, 4 float voltage in mV, 5 charge limit in mA, 6 full-scale current in mA, 7 and 8 charge temperature limits in
0.1 °C, 9 the largest time constant in s. -/
opaque Config.profileCount : Nat
opaque Config.profile : Nat → Nat → Int

/-- R247: the names a profile is matched on, as words. -/
opaque Config.profileNames : Nat → List Nat

/-- R250: the six model tables of a profile, each 16 temperatures by 11 charges: OCV, R0, R1, R2, τ1, τ2. -/
opaque Config.profileTable : Nat → List Nat

/-- R250, R256: e^(−t/τ) in 10^-9, for t in ns and τ in ms: the spec does not say how the firmware rounds it. -/
opaque Config.decay : Nat → Nat → Nat

/-- R254: the charge q0(T) as a fraction in 10^-5 at which the modelled terminal voltage under P_LOAD equals V_SD, from the profile, the
temperature, P_LOAD, the time in ms, V_SD and k_R. -/
opaque Config.emptyCharge : List Int → Nat

/-- R254: E_R in µJ, from the same and the learned capacity and present charge. -/
opaque Config.packEnergy : List Int → Nat

/-- R256: the charge as a fraction in 10^-5 at which E_U would equal a given energy, from the same, the reserve and that energy in µJ. -/
opaque Config.chargeFor : List Int → Nat

end Sys2Proof
end

