-- ==== Sys2Proof/Machine/RegMap.lean ====
section
/-! DEFINITION. The BAR0 registers of R406 as fields: for every field its register's byte offset, its lowest bit, its
width, its access code (R7), the value it takes at reset (R9, R403; the factory value where the map says NOR) and, for
an indexed register, its stride and count. Head-scoped registers are indexed by the reading head, with a stride beyond BAR0. -/

namespace Sys2Proof.Machine

/-- R7: the access codes of register and field maps. -/
inductive Acc | ro | rw | rwl | w1c | w1s | wo | rc
  deriving DecidableEq, Repr

/-- R9, R403: where a field's reset value comes from. -/
inductive Src | const | nor | fuse | head
  deriving DecidableEq, Repr

/-- One field of the register map of R406. -/
structure Field where
  /-- byte offset in BAR0 of the field's register (of index 0) -/
  off : Nat
  /-- lowest bit of the field in its 64-bit register -/
  lo : Nat
  /-- number of bits -/
  width : Nat
  /-- access code -/
  acc : Acc
  /-- reset value, or the factory value of a NOR field -/
  rst : Nat
  /-- source of the reset value -/
  src : Src
  /-- bytes from one index to the next; 0 when not indexed -/
  stride : Nat
  /-- number of indices -/
  count : Nat
  deriving DecidableEq, Repr

/-- R34: SHR_READY[63:0] BITS, access RO, reset 0x0. Bit n refers to share n, as set out in R33 and R34. A share is
counted when its mode is HELD, TWINED, REPLICA or WRITETHRU. -/
def F.SHR_READY_BITS : Field := ⟨0x20000, 0, 64, .ro, 0, .const, 0x0, 1⟩
/-- R34: SHR_DEFINED[63:0] BITS, access RO, reset 0x0. Bit n refers to share n, as set out in R33 and R34. A share is
counted when its mode is HELD, TWINED, REPLICA or WRITETHRU. -/
def F.SHR_DEFINED_BITS : Field := ⟨0x20008, 0, 64, .ro, 0, .const, 0x0, 1⟩
/-- R34: SHR_COUNTED[63:0] BITS, access RO, reset 0x0. Bit n refers to share n, as set out in R33 and R34. A share is
counted when its mode is HELD, TWINED, REPLICA or WRITETHRU. -/
def F.SHR_COUNTED_BITS : Field := ⟨0x20010, 0, 64, .ro, 0, .const, 0x0, 1⟩
/-- R34: SHR_CAP[47:32] FREE, access RO, reset 0x0. Unassigned capacity in 256 MiB units -/
def F.SHR_CAP_FREE : Field := ⟨0x20018, 32, 16, .ro, 0, .const, 0x0, 1⟩
/-- R34: SHR_CAP[15:0] VISIBLE, access RO, reset 0x0. Host-visible capacity in 256 MiB units, set during bring-up:
installed DRAM less the hidden reserve -/
def F.SHR_CAP_VISIBLE : Field := ⟨0x20018, 0, 16, .ro, 0, .const, 0x0, 1⟩
/-- R34: SHR_CHG[63:0] FLAGS, access W1C, reset 0x0. Bit n is set when share n changes readiness state or mode -/
def F.SHR_CHG_FLAGS : Field := ⟨0x20020, 0, 64, .w1c, 0, .const, 0x0, 1⟩
/-- R34: SHR_BASE_n[43:28] ADDR, access RWL, reset 0x0. Base, or size, in 256 MiB units; the register reads as the
byte value -/
def F.SHR_BASE_ADDR : Field := ⟨0x20100, 28, 16, .rwl, 0, .const, 0x40, 64⟩
/-- R34: SHR_SIZE_n[43:28] ADDR, access RWL, reset 0x0. Base, or size, in 256 MiB units; the register reads as the
byte value -/
def F.SHR_SIZE_ADDR : Field := ⟨0x20108, 28, 16, .rwl, 0, .const, 0x40, 64⟩
/-- R34: SHR_CFG_n[63] EN, access RWL, reset 0. Writing 1 defines the share and locks its registers; the write is
refused and EN stays 0 if R21 or R26 fails -/
def F.SHR_CFG_EN : Field := ⟨0x20110, 63, 1, .rwl, 0, .const, 0x40, 64⟩
/-- R34: SHR_CFG_n[39:32] WT_CAP, access RWL, reset 0x10. WRITETHRU in-flight cap in 4 MiB units, from 4 MiB to 1,020
MiB; 0 acts as 1. Default 64 MiB -/
def F.SHR_CFG_WT_CAP : Field := ⟨0x20110, 32, 8, .rwl, 16, .const, 0x40, 64⟩
/-- R34: SHR_CFG_n[22:20] RPRI, access RWL, reset 0b011. Restore priority, 7 highest -/
def F.SHR_CFG_RPRI : Field := ⟨0x20110, 20, 3, .rwl, 3, .const, 0x40, 64⟩
/-- R34: SHR_CFG_n[16] HOT, access RWL, reset 0. 1 selects hot restore for the share -/
def F.SHR_CFG_HOT : Field := ⟨0x20110, 16, 1, .rwl, 0, .const, 0x40, 64⟩
/-- R34: SHR_CFG_n[2:0] MODE, access RWL, reset 0b000. Mode at definition: 0, 1 or 4 only; other values refuse EN with
reason NOT_ALLOWED -/
def F.SHR_CFG_MODE : Field := ⟨0x20110, 0, 3, .rwl, 0, .const, 0x40, 64⟩
/-- R34: SHR_HEADS_n[31:0] GRANT, access RWL, reset 0x0. Bits 2k+1:2k hold the grant for head index k, encoded as in
R23 -/
def F.SHR_HEADS_GRANT : Field := ⟨0x20118, 0, 32, .rwl, 0, .const, 0x40, 64⟩
/-- R34: SHR_STATUS_n[63:56] REFUSE, access RO, reset 0x00. Reason for the most recent refusal, coded as in R32 -/
def F.SHR_STATUS_REFUSE : Field := ⟨0x20120, 56, 8, .ro, 0, .const, 0x40, 64⟩
/-- R34: SHR_STATUS_n[55:48] PROG, access RO, reset 0x00. Progress of the change in progress, in percent, from 0 to
100 -/
def F.SHR_STATUS_PROG : Field := ⟨0x20120, 48, 8, .ro, 0, .const, 0x40, 64⟩
/-- R34: SHR_STATUS_n[34:32] TARGET, access RO, reset 0b111. Mode sought by the change in progress; 0b111 when none -/
def F.SHR_STATUS_TARGET : Field := ⟨0x20120, 32, 3, .ro, 7, .const, 0x40, 64⟩
/-- R34: SHR_STATUS_n[23:20] STATE, access RO, reset 0x0. Readiness state, coded as in R33 -/
def F.SHR_STATUS_STATE : Field := ⟨0x20120, 20, 4, .ro, 0, .const, 0x40, 64⟩
/-- R34: SHR_STATUS_n[2:0] MODE, access RO, reset 0b000. Mode in force, coded as in R25 -/
def F.SHR_STATUS_MODE : Field := ⟨0x20120, 0, 3, .ro, 0, .const, 0x40, 64⟩
/-- R34: SHR_DIRTY_n[63:0] UNITS, access RO, reset 0x0. Drain units of the share counted in residue: dirty units, or
in-flight units for WRITETHRU -/
def F.SHR_DIRTY_UNITS : Field := ⟨0x20128, 0, 64, .ro, 0, .const, 0x40, 64⟩
/-- R34: SHR_VIOL_n[63:32] RD, access RC, reset 0x0. Reads returned poisoned under R23; saturates at 0xFFFF_FFFF -/
def F.SHR_VIOL_RD : Field := ⟨0x20130, 32, 32, .rc, 0, .const, 0x40, 64⟩
/-- R34: SHR_VIOL_n[31:0] WR, access RC, reset 0x0. Writes discarded under R23; saturates at 0xFFFF_FFFF -/
def F.SHR_VIOL_WR : Field := ⟨0x20130, 0, 32, .rc, 0, .const, 0x40, 64⟩
/-- R34: SHR_EPOCH_n[31:0] EPOCH, access RO, reset 0x0. Count of committed changes since definition; saved and
restored with the share table -/
def F.SHR_EPOCH_EPOCH : Field := ⟨0x20138, 0, 32, .ro, 0, .const, 0x40, 64⟩
/-- R56: HP_SELF[3:0] INDEX, access RO, reset per head. Head index of the function through which the register is read
-/
def F.HP_SELF_INDEX : Field := ⟨0x10000, 0, 4, .ro, 0, .head, 0x100000, 16⟩
/-- R56: HP_PORT_CFG[7] EN, access RWL, reset NOR. 1 enables the port; factory value 1 -/
def F.HP_PORT_CFG_EN : Field := ⟨0x10008, 7, 1, .rwl, 1, .nor, 0x1, 8⟩
/-- R56: HP_PORT_CFG[6] BIF, access RWL, reset NOR. 1 bifurcates the port into two x8 heads; factory value 0 -/
def F.HP_PORT_CFG_BIF : Field := ⟨0x10008, 6, 1, .rwl, 0, .nor, 0x1, 8⟩
/-- R56: HP_PORT_CFG[1:0] MAXRATE, access RWL, reset NOR. Highest rate: 0b00 8 GT/s, 0b01 16 GT/s, 0b10 32 GT/s, 0b11
64 GT/s; factory value 0b11 -/
def F.HP_PORT_CFG_MAXRATE : Field := ⟨0x10008, 0, 2, .rwl, 3, .nor, 0x1, 8⟩
/-- R56: HP_PRESENT[31:16] UP, access RO, reset 0x0. Bit 16+k set while head k has its link in L0 -/
def F.HP_PRESENT_UP : Field := ⟨0x10010, 16, 16, .ro, 0, .const, 0x0, 1⟩
/-- R56: HP_PRESENT[15:0] EN, access RO, reset 0x0. Bit k set when head k exists and is enabled -/
def F.HP_PRESENT_EN : Field := ⟨0x10010, 0, 16, .ro, 0, .const, 0x0, 1⟩
/-- R56: HP_CHG[15:0] FLAGS, access W1C, reset 0x0. Bit k is set when HP_LINK_k.STATE, VIRAL or IDEFAIL changes. The
change is signalled on MSI-X vector 0 of every head. -/
def F.HP_CHG_FLAGS : Field := ⟨0x10018, 0, 16, .w1c, 0, .const, 0x0, 1⟩
/-- R56: HP_LINK_k[23] VIRAL, access RO, reset 0. Head in Viral (R54) -/
def F.HP_LINK_VIRAL : Field := ⟨0x10100, 23, 1, .ro, 0, .const, 0x40, 16⟩
/-- R56: HP_LINK_k[22] IDEFAIL, access RO, reset 0. IDE integrity failure since the last link up -/
def F.HP_LINK_IDEFAIL : Field := ⟨0x10100, 22, 1, .ro, 0, .const, 0x40, 16⟩
/-- R56: HP_LINK_k[21] IDE, access RO, reset 0. IDE streams active -/
def F.HP_LINK_IDE : Field := ⟨0x10100, 21, 1, .ro, 0, .const, 0x40, 16⟩
/-- R56: HP_LINK_k[20] FLIT256, access RO, reset 0. 1 for 256-byte FLIT mode, 0 for 68-byte -/
def F.HP_LINK_FLIT256 : Field := ⟨0x10100, 20, 1, .ro, 0, .const, 0x40, 16⟩
/-- R56: HP_LINK_k[19:15] WIDTH, access RO, reset 0x0. Trained width in lanes: 8 or 16 -/
def F.HP_LINK_WIDTH : Field := ⟨0x10100, 15, 5, .ro, 0, .const, 0x40, 16⟩
/-- R56: HP_LINK_k[9:8] RATE, access RO, reset 0b00. Trained rate, encoded as MAXRATE -/
def F.HP_LINK_RATE : Field := ⟨0x10100, 8, 2, .ro, 0, .const, 0x40, 16⟩
/-- R56: HP_LINK_k[2:0] STATE, access RO, reset 0b000. 0 disabled, 1 detect, 2 training, 3 up, 4 recovery, 5 down -/
def F.HP_LINK_STATE : Field := ⟨0x10100, 0, 3, .ro, 0, .const, 0x40, 16⟩
/-- R56: HP_CTL_k[63] RETRAIN, access WO, reset 0. Writing 1 retrains the head as Head Retrain does, at the MAXRATE
limit -/
def F.HP_CTL_RETRAIN : Field := ⟨0x10108, 63, 1, .wo, 0, .const, 0x40, 16⟩
/-- R56: HP_CTL_k[23:16] DOWN_TO, access RW, reset 0x30. Recovery time after which the link is treated as down, in ms,
from 8 ms to 255 ms; values below 8 act as 8. Default 48 ms. -/
def F.HP_CTL_DOWN_TO : Field := ⟨0x10108, 16, 8, .rw, 48, .const, 0x40, 16⟩
/-- R56: HP_CRED_k[47:32] ADV, access RO, reset 0x0. Write credits of the head: 8,192 for x16, 4,096 for x8 -/
def F.HP_CRED_ADV : Field := ⟨0x10110, 32, 16, .ro, 0, .const, 0x40, 16⟩
/-- R56: HP_CRED_k[31:16] WHELD, access RO, reset 0x0. Credits currently withheld by the Sluice -/
def F.HP_CRED_WHELD : Field := ⟨0x10110, 16, 16, .ro, 0, .const, 0x40, 16⟩
/-- R56: HP_CRED_k[15:0] OCC, access RO, reset 0x0. Ingress lines occupied by the head -/
def F.HP_CRED_OCC : Field := ⟨0x10110, 0, 16, .ro, 0, .const, 0x40, 16⟩
/-- R56: HP_LAT_k[47:32] MAXRD, access RC, reset 0x0. Largest read latency since last read, in ns; saturates at 0xFFFF
-/
def F.HP_LAT_MAXRD : Field := ⟨0x10118, 32, 16, .rc, 0, .const, 0x40, 16⟩
/-- R56: HP_LAT_k[15:0] IDLE, access RO, reset 0x0. Idle read latency of the trained configuration in ns, from R36,
plus the IDE increment when IDE is active -/
def F.HP_LAT_IDLE : Field := ⟨0x10118, 0, 16, .ro, 0, .const, 0x40, 16⟩
/-- R56: HP_LERR_k[63:48] DOWN, access RC, reset 0x0. Link-down events; saturates at 0xFFFF -/
def F.HP_LERR_DOWN : Field := ⟨0x10120, 48, 16, .rc, 0, .const, 0x40, 16⟩
/-- R56: HP_LERR_k[47:32] RECOV, access RC, reset 0x0. Recoveries that returned to L0; saturates at 0xFFFF -/
def F.HP_LERR_RECOV : Field := ⟨0x10120, 32, 16, .rc, 0, .const, 0x40, 16⟩
/-- R56: HP_LERR_k[31:0] REPLAY, access RC, reset 0x0. FLIT replays; saturates at 0xFFFF_FFFF -/
def F.HP_LERR_REPLAY : Field := ⟨0x10120, 0, 32, .rc, 0, .const, 0x40, 16⟩
/-- R56: HP_POIS_k[63:32] RXPOIS, access RC, reset 0x0. Poisoned writes received; saturates at 0xFFFF_FFFF -/
def F.HP_POIS_RXPOIS : Field := ⟨0x10128, 32, 32, .rc, 0, .const, 0x40, 16⟩
/-- R56: HP_POIS_k[31:0] TXPOIS, access RC, reset 0x0. Reads answered with poison, for any cause; saturates at
0xFFFF_FFFF -/
def F.HP_POIS_TXPOIS : Field := ⟨0x10128, 0, 32, .rc, 0, .const, 0x40, 16⟩
/-- R56: HP_GPF_k[63:32] PH2, access RO, reset 0x0. GPF Phase 2 requests since bring-up -/
def F.HP_GPF_PH2 : Field := ⟨0x10130, 32, 32, .ro, 0, .const, 0x40, 16⟩
/-- R56: HP_GPF_k[31:0] PH1, access RO, reset 0x0. GPF Phase 1 requests since bring-up -/
def F.HP_GPF_PH1 : Field := ⟨0x10130, 0, 32, .ro, 0, .const, 0x40, 16⟩
/-- R56: HP_SHUT_k[63:32] DSC, access RO, reset 0x0. Dirty shutdown count under R48; loaded from the manifest, 0 for a
device never saved -/
def F.HP_SHUT_DSC : Field := ⟨0x10138, 32, 32, .ro, 0, .const, 0x40, 16⟩
/-- R56: HP_SHUT_k[0] DIRTY, access RO, reset 0. Shutdown state: 1 Dirty, 0 Clean; loaded from the manifest -/
def F.HP_SHUT_DIRTY : Field := ⟨0x10138, 0, 1, .ro, 0, .const, 0x40, 16⟩
/-- R86: QUE_TKT[57:37] PEAK, access RC, reset 0x0. Highest OPEN since last read -/
def F.QUE_TKT_PEAK : Field := ⟨0x30000, 37, 21, .rc, 0, .const, 0x0, 1⟩
/-- R86: QUE_TKT[36:16] OPEN, access RO, reset 0x0. Contexts in use -/
def F.QUE_TKT_OPEN : Field := ⟨0x30000, 16, 21, .ro, 0, .const, 0x0, 1⟩
/-- R86: QUE_TKT[15:0] CACHED, access RO, reset 0x0. Contexts in use held on die -/
def F.QUE_TKT_CACHED : Field := ⟨0x30000, 0, 16, .ro, 0, .const, 0x0, 1⟩
/-- R86: QUE_SEL[11:0] QID, access RW, reset 0x000. Queue shown by the QUE_Q_* registers -/
def F.QUE_SEL_QID : Field := ⟨0x30008, 0, 12, .rw, 0, .const, 0x0, 1⟩
/-- R86: QUE_ASQB[63:12] ADDR, access RWL, reset 0x0. Host physical address of the ring, bits 63:12 -/
def F.QUE_ASQB_ADDR : Field := ⟨0x30010, 12, 52, .rwl, 0, .const, 0x100000, 16⟩
/-- R86: QUE_ACQB[63:12] ADDR, access RWL, reset 0x0. Host physical address of the ring, bits 63:12 -/
def F.QUE_ACQB_ADDR : Field := ⟨0x30018, 12, 52, .rwl, 0, .const, 0x100000, 16⟩
/-- R86: QUE_ACTL[63] EN, access RW, reset 0. 1 enables the admin queue (R59) -/
def F.QUE_ACTL_EN : Field := ⟨0x30020, 63, 1, .rw, 0, .const, 0x100000, 16⟩
/-- R86: QUE_ACTL[55:48] AGGT, access RWL, reset 0x00. Moderation time in µs; 0 disables the time limit -/
def F.QUE_ACTL_AGGT : Field := ⟨0x30020, 48, 8, .rwl, 0, .const, 0x100000, 16⟩
/-- R86: QUE_ACTL[47:40] AGGC, access RWL, reset 0x01. Moderation count -/
def F.QUE_ACTL_AGGC : Field := ⟨0x30020, 40, 8, .rwl, 1, .const, 0x100000, 16⟩
/-- R86: QUE_ACTL[35] IEN, access RWL, reset 1. 1 enables interrupts -/
def F.QUE_ACTL_IEN : Field := ⟨0x30020, 35, 1, .rwl, 1, .const, 0x100000, 16⟩
/-- R86: QUE_ACTL[34:24] VEC, access RWL, reset 0x001. MSI-X vector, 1 to 2,047 -/
def F.QUE_ACTL_VEC : Field := ⟨0x30020, 24, 11, .rwl, 1, .const, 0x100000, 16⟩
/-- R86: QUE_ACTL[11:0] DEPTHM1, access RWL, reset 0x03F. Depth less one, 1 to 4,095; default 64 entries -/
def F.QUE_ACTL_DEPTHM1 : Field := ⟨0x30020, 0, 12, .rwl, 63, .const, 0x100000, 16⟩
/-- R86: QUE_ERRC[63:32] FOREIGN, access RC, reset 0x0. Doorbell writes discarded under R63, R65 and R60: writes to
queues not owned, and writes to queues not ACTIVE other than CQ_HEAD writes in ERROR; saturates at 0xFFFF_FFFF -/
def F.QUE_ERRC_FOREIGN : Field := ⟨0x30028, 32, 32, .rc, 0, .const, 0x100000, 16⟩
/-- R86: QUE_ERRC[31:0] STALE, access RC, reset 0x0. Backward CQ_HEAD writes; saturates at 0xFFFF_FFFF -/
def F.QUE_ERRC_STALE : Field := ⟨0x30028, 0, 32, .rc, 0, .const, 0x100000, 16⟩
/-- R86: QUE_RPT[63] LOSS, access RO, reset 0. The loss report holds at least one record for this head -/
def F.QUE_RPT_LOSS : Field := ⟨0x30030, 63, 1, .ro, 0, .const, 0x100000, 16⟩
/-- R86: QUE_RPT[62] TRUNC, access RO, reset 0. As the report header -/
def F.QUE_RPT_TRUNC : Field := ⟨0x30030, 62, 1, .ro, 0, .const, 0x100000, 16⟩
/-- R86: QUE_RPT[61] OVF, access RO, reset 0. As the report header -/
def F.QUE_RPT_OVF : Field := ⟨0x30030, 61, 1, .ro, 0, .const, 0x100000, 16⟩
/-- R86: QUE_RPT[60:58] SOURCE, access RO, reset 0b000. As the report header -/
def F.QUE_RPT_SOURCE : Field := ⟨0x30030, 58, 3, .ro, 0, .const, 0x100000, 16⟩
/-- R86: QUE_RPT[31:0] LOSSN, access RO, reset 0x0. Loss records available to this head -/
def F.QUE_RPT_LOSSN : Field := ⟨0x30030, 0, 32, .ro, 0, .const, 0x100000, 16⟩
/-- R86: QUE_ALLOC_k[28:16] COUNT, access RWL, reset NOR. Queues owned, 0 to 4,096; factory value the default of R58,
computed from the bifurcation in force at each bring-up -/
def F.QUE_ALLOC_COUNT : Field := ⟨0x30100, 16, 13, .rwl, 0, .nor, 0x8, 16⟩
/-- R86: QUE_ALLOC_k[11:0] FIRST, access RWL, reset NOR. First queue, which is the admin queue; factory value the
default of R58, computed from the bifurcation in force at each bring-up -/
def F.QUE_ALLOC_FIRST : Field := ⟨0x30100, 0, 12, .rwl, 0, .nor, 0x8, 16⟩
/-- R86: QUE_Q_CFG[63:60] HEAD, access RO, reset 0x0. Owning head index -/
def F.QUE_Q_CFG_HEAD : Field := ⟨0x30200, 60, 4, .ro, 0, .const, 0x0, 1⟩
/-- R86: QUE_Q_CFG[59] LDPOL, access RO, reset 0. Link-down policy of R81 -/
def F.QUE_Q_CFG_LDPOL : Field := ⟨0x30200, 59, 1, .ro, 0, .const, 0x0, 1⟩
/-- R86: QUE_Q_CFG[58] IEN, access RO, reset 0. Interrupts enabled -/
def F.QUE_Q_CFG_IEN : Field := ⟨0x30200, 58, 1, .ro, 0, .const, 0x0, 1⟩
/-- R86: QUE_Q_CFG[50:40] VEC, access RO, reset 0x000. MSI-X vector -/
def F.QUE_Q_CFG_VEC : Field := ⟨0x30200, 40, 11, .ro, 0, .const, 0x0, 1⟩
/-- R86: QUE_Q_CFG[39:32] AGGT, access RO, reset 0x00. Moderation time in µs -/
def F.QUE_Q_CFG_AGGT : Field := ⟨0x30200, 32, 8, .ro, 0, .const, 0x0, 1⟩
/-- R86: QUE_Q_CFG[31:24] AGGC, access RO, reset 0x00. Moderation count -/
def F.QUE_Q_CFG_AGGC : Field := ⟨0x30200, 24, 8, .ro, 0, .const, 0x0, 1⟩
/-- R86: QUE_Q_CFG[15:0] DEPTHM1, access RO, reset 0x0000. Depth less one -/
def F.QUE_Q_CFG_DEPTHM1 : Field := ⟨0x30200, 0, 16, .ro, 0, .const, 0x0, 1⟩
/-- R86: QUE_Q_STS[63:61] STATE, access RO, reset 0b000. State, coded as in R60 -/
def F.QUE_Q_STS_STATE : Field := ⟨0x30208, 61, 3, .ro, 0, .const, 0x0, 1⟩
/-- R86: QUE_Q_STS[60:56] ERR, access RO, reset 0x00. ERROR reason: 0x01 BAD_SQ_DB, 0x02 BAD_CQ_DB, 0x03 FETCH, 0x04
POST, 0x05 INLINE_OVERRUN -/
def F.QUE_Q_STS_ERR : Field := ⟨0x30208, 56, 5, .ro, 0, .const, 0x0, 1⟩
/-- R86: QUE_Q_STS[52:32] OPEN, access RO, reset 0x0. Open tickets of the queue -/
def F.QUE_Q_STS_OPEN : Field := ⟨0x30208, 32, 21, .ro, 0, .const, 0x0, 1⟩
/-- R86: QUE_Q_STS[31:16] CQT, access RO, reset 0x0000. Completion tail index -/
def F.QUE_Q_STS_CQT : Field := ⟨0x30208, 16, 16, .ro, 0, .const, 0x0, 1⟩
/-- R86: QUE_Q_STS[15:0] SQH, access RO, reset 0x0000. Submission head index -/
def F.QUE_Q_STS_SQH : Field := ⟨0x30208, 0, 16, .ro, 0, .const, 0x0, 1⟩
/-- R86: QUE_Q_LAST[47:0] SEQ, access RO, reset 0x0. LAST, FRONTH or FRONT of the selected queue (R83); after a Save,
the saved values under R82 -/
def F.QUE_Q_LAST_SEQ : Field := ⟨0x30210, 0, 48, .ro, 0, .const, 0x0, 1⟩
/-- R86: QUE_Q_FRONTH[47:0] SEQ, access RO, reset 0x0. LAST, FRONTH or FRONT of the selected queue (R83); after a
Save, the saved values under R82 -/
def F.QUE_Q_FRONTH_SEQ : Field := ⟨0x30218, 0, 48, .ro, 0, .const, 0x0, 1⟩
/-- R86: QUE_Q_FRONT[47:0] SEQ, access RO, reset 0x0. LAST, FRONTH or FRONT of the selected queue (R83); after a Save,
the saved values under R82 -/
def F.QUE_Q_FRONT_SEQ : Field := ⟨0x30220, 0, 48, .ro, 0, .const, 0x0, 1⟩
/-- R110: MR_WEIR[63] OVH, access RO, reset 0. 1 while residue exceeds the Weir -/
def F.MR_WEIR_OVH : Field := ⟨0x40000, 63, 1, .ro, 0, .const, 0x0, 1⟩
/-- R110: MR_WEIR[58:56] FBSET, access RO, reset 0b000. Fallback event set in force (R101); 0 when none -/
def F.MR_WEIR_FBSET : Field := ⟨0x40000, 56, 3, .ro, 0, .const, 0x0, 1⟩
/-- R110: MR_WEIR[55:52] BIND, access RO, reset 0x7. 0 ceiling, 1 power, 2 energy, 3 window, 4 clock, 5 hold-up, 6
fallback, 7 not yet computed; among terms equal to the Weir, the lowest code (R100) -/
def F.MR_WEIR_BIND : Field := ⟨0x40000, 52, 4, .ro, 7, .const, 0x0, 1⟩
/-- R110: MR_WEIR[15:0] WEIR, access RO, reset 0x0. Weir in force, in GiB -/
def F.MR_WEIR_WEIR : Field := ⟨0x40000, 0, 16, .ro, 0, .const, 0x0, 1⟩
/-- R110: MR_RESIDUE[63:32] PEAK, access RC, reset 0x0. Highest UNITS since last read -/
def F.MR_RESIDUE_PEAK : Field := ⟨0x40008, 32, 32, .rc, 0, .const, 0x0, 1⟩
/-- R110: MR_RESIDUE[31:0] UNITS, access RO, reset 0x0. Residue in 4 KiB units (R89) -/
def F.MR_RESIDUE_UNITS : Field := ⟨0x40008, 0, 32, .ro, 0, .const, 0x0, 1⟩
/-- R110: MR_WEIR_CEIL[15:0] CEIL, access RW, reset NOR. Ceiling in GiB; factory value 320 (0x0140); 0 acts as 1 -/
def F.MR_WEIR_CEIL_CEIL : Field := ⟨0x40010, 0, 16, .rw, 320, .nor, 0x0, 1⟩
/-- R110: MR_MARKS[63:48] HYST, access RW, reset NOR. Stall release hysteresis in MiB; factory value 256 (0x0100) -/
def F.MR_MARKS_HYST : Field := ⟨0x40018, 48, 16, .rw, 256, .nor, 0x0, 1⟩
/-- R110: MR_MARKS[31:24] SLUICE, access RW, reset NOR. Sluice mark, percent of the Weir; factory value 75 (0x4B) -/
def F.MR_MARKS_SLUICE : Field := ⟨0x40018, 24, 8, .rw, 75, .nor, 0x0, 1⟩
/-- R110: MR_MARKS[23:16] HIGH, access RW, reset NOR. High mark, percent; factory value 50 (0x32) -/
def F.MR_MARKS_HIGH : Field := ⟨0x40018, 16, 8, .rw, 50, .nor, 0x0, 1⟩
/-- R110: MR_MARKS[15:8] LOW, access RW, reset NOR. Low mark, percent; factory value 20 (0x14) -/
def F.MR_MARKS_LOW : Field := ⟨0x40018, 8, 8, .rw, 20, .nor, 0x0, 1⟩
/-- R110: MR_SAVEPWR[63:48] WINDOW, access RWL, reset NOR. T_WIN in ms, 500 ms to 10,000 ms; factory value 2,000
(0x07D0) -/
def F.MR_SAVEPWR_WINDOW : Field := ⟨0x40020, 48, 16, .rwl, 2000, .nor, 0x0, 1⟩
/-- R110: MR_SAVEPWR[43:40] NF, access RWL, reset NOR. N_F, 1 to 8; factory value 3 -/
def F.MR_SAVEPWR_NF : Field := ⟨0x40020, 40, 4, .rwl, 3, .nor, 0x0, 1⟩
/-- R110: MR_SAVEPWR[31:16] PFIX, access RWL, reset NOR. P_FIX in W; factory value 240 (0x00F0) -/
def F.MR_SAVEPWR_PFIX : Field := ⟨0x40020, 16, 16, .rwl, 240, .nor, 0x0, 1⟩
/-- R110: MR_SAVEPWR[15:0] KP, access RWL, reset NOR. K_P in 0.01 W per GB/s; factory value 100 (0x0064) -/
def F.MR_SAVEPWR_KP : Field := ⟨0x40020, 0, 16, .rwl, 100, .nor, 0x0, 1⟩
/-- R110: MR_TERMS[63:48] WP, access RO, reset 0xFFFF. Power term in GiB, rounded down; saturates at 0xFFFE; 0xFFFF
until first computed -/
def F.MR_TERMS_WP : Field := ⟨0x40028, 48, 16, .ro, 65535, .const, 0x0, 1⟩
/-- R110: MR_TERMS[47:32] WE, access RO, reset 0xFFFF. Energy term, as WP -/
def F.MR_TERMS_WE : Field := ⟨0x40028, 32, 16, .ro, 65535, .const, 0x0, 1⟩
/-- R110: MR_TERMS[31:16] WT, access RO, reset 0xFFFF. Window term, as WP -/
def F.MR_TERMS_WT : Field := ⟨0x40028, 16, 16, .ro, 65535, .const, 0x0, 1⟩
/-- R110: MR_TERMS[15:0] WC, access RO, reset 0xFFFF. Clock term, as WP; 0xFFFF while not applied -/
def F.MR_TERMS_WC : Field := ⟨0x40028, 0, 16, .ro, 65535, .const, 0x0, 1⟩
/-- R110: MR_RATES[63:48] RP, access RO, reset 0x0. Power-limited save rate, in 0.1 GB/s -/
def F.MR_RATES_RP : Field := ⟨0x40030, 48, 16, .ro, 0, .const, 0x0, 1⟩
/-- R110: MR_RATES[47:32] RFL, access RO, reset 0x0. R_FL, in 0.1 GB/s; 1,800 with every target healthy -/
def F.MR_RATES_RFL : Field := ⟨0x40030, 32, 16, .ro, 0, .const, 0x0, 1⟩
/-- R110: MR_RATES[31:16] RCAP, access RO, reset 0x0. R_CAP, in 0.1 GB/s -/
def F.MR_RATES_RCAP : Field := ⟨0x40030, 16, 16, .ro, 0, .const, 0x0, 1⟩
/-- R110: MR_RATES[15:0] WH, access RO, reset 0x0. Hold-up term in MiB, rounded down; 1,029 on the reference module -/
def F.MR_RATES_WH : Field := ⟨0x40030, 0, 16, .ro, 0, .const, 0x0, 1⟩
/-- R110: MR_HOLDUP[63] SRC, access RO, reset 0. 0 factory figure from the fuse row; 1 measured by the power sequencer
-/
def F.MR_HOLDUP_SRC : Field := ⟨0x40038, 63, 1, .ro, 0, .const, 0x0, 1⟩
/-- R110: MR_HOLDUP[19:0] THU, access RO, reset fuse. t_HU in µs -/
def F.MR_HOLDUP_THU : Field := ⟨0x40038, 0, 20, .ro, Config.fuse (0x2001C0), .fuse, 0x0, 1⟩
/-- R110: MR_FB_n[15:0] WEIR, access RO, reset 0x0. Weir in GiB as if the events of set n had occurred: bit 0 pack A
removed, bit 1 pack B removed, bit 2 BOSC lost -/
def F.MR_FB_WEIR : Field := ⟨0x40040, 0, 16, .ro, 0, .const, 0x8, 8⟩
/-- R110: MR_WEAR[63:32] DEPTH, access RW, reset NOR. Bucket depth in GB, 1 GB to 100,000 GB; factory value 4,000
(0x0FA0) -/
def F.MR_WEAR_DEPTH : Field := ⟨0x40080, 32, 32, .rw, 4000, .nor, 0x0, 1⟩
/-- R110: MR_WEAR[31:0] RATE, access RW, reset NOR. Fill rate in MB/s of programmed flash, 100 MB/s to 7,000 MB/s,
values outside clamped; factory value 2,000 (0x07D0) -/
def F.MR_WEAR_RATE : Field := ⟨0x40080, 0, 32, .rw, 2000, .nor, 0x0, 1⟩
/-- R110: MR_BUCKET[63:0] TOKENS, access RO, reset NOR. Tokens in bytes, two's complement. The MP writes a bucket
record to the NOR parameter sectors every 10 min in SERVICE and RESTORE, and at power-down step 6 (R276, R334), which
follows every Save program. It keeps one record slot free for the step 6 write, so that write needs no erase. The
value is kept in retention through LINGER and taken up at a warm return. At a Save's close it is also left in the
hidden reserve, and taken up from there when bring-up adopts DRAM (R168). Every other bring-up restores it from the
newest bucket record. Equal to DEPTH on a device that has no record. -/
def F.MR_BUCKET_TOKENS : Field := ⟨0x40088, 0, 64, .ro, 4000000000000, .nor, 0x0, 1⟩
/-- R110: MR_DRAIN[63:61] STATE, access RO, reset 0b100. 0 IDLE, 1 NORMAL, 2 PRESSURE, 3 OVERHANG, 4 PAUSED -/
def F.MR_DRAIN_STATE : Field := ⟨0x40090, 61, 3, .ro, 4, .const, 0x0, 1⟩
/-- R110: MR_DRAIN[40:32] INFL, access RO, reset 0x0. Skeins in flight, 0 to 256 -/
def F.MR_DRAIN_INFL : Field := ⟨0x40090, 32, 9, .ro, 0, .const, 0x0, 1⟩
/-- R110: MR_DRAIN[31:0] RATE, access RO, reset 0x0. Programmed rate over the last second, in MB/s -/
def F.MR_DRAIN_RATE : Field := ⟨0x40090, 0, 32, .ro, 0, .const, 0x0, 1⟩
/-- R110: MR_AGE[40:32] HOTX, access RW, reset NOR. Extra deferral of HOT units in s, 0 s to 511 s; factory value 24
-/
def F.MR_AGE_HOTX : Field := ⟨0x40098, 32, 9, .rw, 24, .nor, 0x0, 1⟩
/-- R110: MR_AGE[24:16] MAXAGE, access RW, reset NOR. Age at which a unit enters class 3, in s, up to 511 s; 0
disables class 3; factory value 300 (0x12C) -/
def F.MR_AGE_MAXAGE : Field := ⟨0x40098, 16, 9, .rw, 300, .nor, 0x0, 1⟩
/-- R110: MR_AGE[8:0] SETTLE, access RW, reset NOR. Age at which a cold unit enters class 4, in s, 1 s to 511 s;
factory value 8 -/
def F.MR_AGE_SETTLE : Field := ⟨0x40098, 0, 9, .rw, 8, .nor, 0x0, 1⟩
/-- R110: MR_GEN[47:0] NEXT, access RO, reset 0x0. Next generation to be assigned; loaded from the image during bring-
up -/
def F.MR_GEN_NEXT : Field := ⟨0x400A0, 0, 48, .ro, 0, .const, 0x0, 1⟩
/-- R110: MR_SLUICE[63] STALL, access RO, reset 0. 1 while the Sluice stalls (R103) -/
def F.MR_SLUICE_STALL : Field := ⟨0x400A8, 63, 1, .ro, 0, .const, 0x0, 1⟩
/-- R110: MR_SLUICE[51:48] STEP, access RO, reset 0xF. Curve step 0 to 7, 8 when stalled, 0xF below the sluice mark -/
def F.MR_SLUICE_STEP : Field := ⟨0x400A8, 48, 4, .ro, 15, .const, 0x0, 1⟩
/-- R110: MR_SLUICE[15:0] HEADS, access RO, reset 0x0. Bit k set while head k is paced or stalled -/
def F.MR_SLUICE_HEADS : Field := ⟨0x400A8, 0, 16, .ro, 0, .const, 0x0, 1⟩
/-- R110: MR_COUNT[63:32] REL, access RC, reset 0x0. Units made CLEAN from DIRTY, DRAINING or REDIRTY by release
walks; units already CLEAN that a walk marks RELEASED are not counted; saturates at 0xFFFF_FFFF -/
def F.MR_COUNT_REL : Field := ⟨0x400B0, 32, 32, .rc, 0, .const, 0x0, 1⟩
/-- R110: MR_COUNT[31:0] DRN, access RC, reset 0x0. Units made CLEAN by Skein commits; saturates at 0xFFFF_FFFF -/
def F.MR_COUNT_DRN : Field := ⟨0x400B0, 0, 32, .rc, 0, .const, 0x0, 1⟩
/-- R110: MR_RELQ[4:0] PEND, access RO, reset 0x0. Release walks in progress, 0 to 16 -/
def F.MR_RELQ_PEND : Field := ⟨0x400B8, 0, 5, .ro, 0, .const, 0x0, 1⟩
/-- R110: MR_TEST[17] PACKB, access RO, reset 0. A load-transfer test on pack B is counted -/
def F.MR_TEST_PACKB : Field := ⟨0x400C0, 17, 1, .ro, 0, .const, 0x0, 1⟩
/-- R110: MR_TEST[16] PACKA, access RO, reset 0. A load-transfer test on pack A is counted -/
def F.MR_TEST_PACKA : Field := ⟨0x400C0, 16, 1, .ro, 0, .const, 0x0, 1⟩
/-- R110: MR_TEST[10:0] TGT, access RO, reset 0x0. Targets counted as retired for tests, 0 to 1,024 -/
def F.MR_TEST_TGT : Field := ⟨0x400C0, 0, 11, .ro, 0, .const, 0x0, 1⟩
/-- R130: SPN_SAVE[63:60] RESULT, access RO, reset 0x0. 0 none, 1 closed, 2 truncated for energy, 3 truncated by
forced abort, 4 unclosed -/
def F.SPN_SAVE_RESULT : Field := ⟨0x50000, 60, 4, .ro, 0, .const, 0x0, 1⟩
/-- R130: SPN_SAVE[59:56] REASON, access RO, reset 0x0. 1 POWER, 2 LATCH, 3 RESET -/
def F.SPN_SAVE_REASON : Field := ⟨0x50000, 56, 4, .ro, 0, .const, 0x0, 1⟩
/-- R130: SPN_SAVE[50] PWRBACK, access RO, reset 0. Service input returned during the Save -/
def F.SPN_SAVE_PWRBACK : Field := ⟨0x50000, 50, 1, .ro, 0, .const, 0x0, 1⟩
/-- R130: SPN_SAVE[49] DEFER, access RO, reset 0. A reset was deferred (R123) -/
def F.SPN_SAVE_DEFER : Field := ⟨0x50000, 49, 1, .ro, 0, .const, 0x0, 1⟩
/-- R130: SPN_SAVE[48] OVH, access RO, reset 0. The Save began in overhang (R121) -/
def F.SPN_SAVE_OVH : Field := ⟨0x50000, 48, 1, .ro, 0, .const, 0x0, 1⟩
/-- R130: SPN_SAVE[47] TRIGA, access RO, reset 0. Comparator A tripped -/
def F.SPN_SAVE_TRIGA : Field := ⟨0x50000, 47, 1, .ro, 0, .const, 0x0, 1⟩
/-- R130: SPN_SAVE[46] TRIGB, access RO, reset 0. Comparator B tripped -/
def F.SPN_SAVE_TRIGB : Field := ⟨0x50000, 46, 1, .ro, 0, .const, 0x0, 1⟩
/-- R130: SPN_SAVE[45] TRIGL, access RO, reset 0. Ejector latch opened -/
def F.SPN_SAVE_TRIGL : Field := ⟨0x50000, 45, 1, .ro, 0, .const, 0x0, 1⟩
/-- R130: SPN_SAVE[44] PACKLOSS, access RO, reset 0. A pack was removed during the Save -/
def F.SPN_SAVE_PACKLOSS : Field := ⟨0x50000, 44, 1, .ro, 0, .const, 0x0, 1⟩
/-- R130: SPN_SAVE[43] CLKLOSS, access RO, reset 0. BOSC was lost during the Save -/
def F.SPN_SAVE_CLKLOSS : Field := ⟨0x50000, 43, 1, .ro, 0, .const, 0x0, 1⟩
/-- R130: SPN_SAVE[42] SPRLD, access RO, reset 0. SP1 reloaded during the Save -/
def F.SPN_SAVE_SPRLD : Field := ⟨0x50000, 42, 1, .ro, 0, .const, 0x0, 1⟩
/-- R130: SPN_SAVE[31:0] COUNT, access RO, reset 0x0. Saves since manufacture; saturates at 0xFFFF_FFFF -/
def F.SPN_SAVE_COUNT : Field := ⟨0x50000, 0, 32, .ro, 0, .const, 0x0, 1⟩
/-- R130: SPN_PLD[63] CHKB, access RO, reset 0. Comparator B passed its bring-up test (R113) -/
def F.SPN_PLD_CHKB : Field := ⟨0x50008, 63, 1, .ro, 0, .const, 0x0, 1⟩
/-- R130: SPN_PLD[62] CHKA, access RO, reset 0. Comparator A passed its bring-up test -/
def F.SPN_PLD_CHKA : Field := ⟨0x50008, 62, 1, .ro, 0, .const, 0x0, 1⟩
/-- R130: SPN_PLD[47:40] DGB, access RWL, reset NOR. Comparator B deglitch in 0.1 µs, from 0.5 µs to 25.5 µs; values
below 5 act as 5; factory value 10 (0x0A) -/
def F.SPN_PLD_DGB : Field := ⟨0x50008, 40, 8, .rwl, 10, .nor, 0x0, 1⟩
/-- R130: SPN_PLD[39:32] DGA, access RWL, reset NOR. Comparator A deglitch, as DGB; factory value 20 (0x14) -/
def F.SPN_PLD_DGA : Field := ⟨0x50008, 32, 8, .rwl, 20, .nor, 0x0, 1⟩
/-- R130: SPN_PLD[31:16] THB, access RWL, reset NOR. Comparator B threshold at VINB_SNS in mV, from 500 mV to 1,200
mV; factory value 925 (0x039D) -/
def F.SPN_PLD_THB : Field := ⟨0x50008, 16, 16, .rwl, 925, .nor, 0x0, 1⟩
/-- R130: SPN_PLD[15:0] THA, access RWL, reset NOR. Comparator A threshold at VINA_SNS in mV, from 500 mV to 1,200 mV;
factory value 950 (0x03B6) -/
def F.SPN_PLD_THA : Field := ⟨0x50008, 0, 16, .rwl, 950, .nor, 0x0, 1⟩
/-- R130: SPN_LINGER[63:32] LIMIT, access RO, reset 0x0. E_LIM in J for the Weir now in force (R126) -/
def F.SPN_LINGER_LIMIT : Field := ⟨0x50010, 32, 32, .ro, 0, .const, 0x0, 1⟩
/-- R130: SPN_LINGER[15:0] TIME, access RW, reset NOR. Linger time in s, from 0 s to 3,600 s, with larger values
clamped; 0 passes straight to DORMANT; factory value 60 (0x003C) -/
def F.SPN_LINGER_TIME : Field := ⟨0x50010, 0, 16, .rw, 60, .nor, 0x0, 1⟩
/-- R130: SPN_STIME[63:32] TOTAL, access RO, reset 0x0. Trigger to the end of the Save, in µs -/
def F.SPN_STIME_TOTAL : Field := ⟨0x50018, 32, 32, .ro, 0, .const, 0x0, 1⟩
/-- R130: SPN_STIME[31:0] STREAM, access RO, reset 0x0. Duration of streaming, in µs -/
def F.SPN_STIME_STREAM : Field := ⟨0x50018, 0, 32, .ro, 0, .const, 0x0, 1⟩
/-- R130: SPN_SUNITS[63:32] LOST, access RO, reset 0x0. Units listed UNSAVED or DRAM_UNCORRECTABLE -/
def F.SPN_SUNITS_LOST : Field := ⟨0x50020, 32, 32, .ro, 0, .const, 0x0, 1⟩
/-- R130: SPN_SUNITS[31:0] SAVED, access RO, reset 0x0. Units streamed into committed Skeins -/
def F.SPN_SUNITS_SAVED : Field := ⟨0x50020, 0, 32, .ro, 0, .const, 0x0, 1⟩
/-- R130: SPN_SRATE[63:48] START, access RO, reset 0x0. R_S at the trigger, in 0.1 GB/s -/
def F.SPN_SRATE_START : Field := ⟨0x50028, 48, 16, .ro, 0, .const, 0x0, 1⟩
/-- R130: SPN_SRATE[47:32] MIN, access RO, reset 0x0. Lowest R_S during the Save, in 0.1 GB/s -/
def F.SPN_SRATE_MIN : Field := ⟨0x50028, 32, 16, .ro, 0, .const, 0x0, 1⟩
/-- R130: SPN_SRATE[25:24] OP, access RO, reset 0b00. Lowest operating point used: 1 OP1, 2 OP2, 3 OP3 -/
def F.SPN_SRATE_OP : Field := ⟨0x50028, 24, 2, .ro, 0, .const, 0x0, 1⟩
/-- R130: SPN_SRATE[23:16] DROOP, access RO, reset 0x00. Rate reductions under R120; saturates at 0xFF -/
def F.SPN_SRATE_DROOP : Field := ⟨0x50028, 16, 8, .ro, 0, .const, 0x0, 1⟩
/-- R130: SPN_SRES[63:48] WEIR, access RO, reset 0x0. Weir in force at the trigger, in GiB -/
def F.SPN_SRES_WEIR : Field := ⟨0x50030, 48, 16, .ro, 0, .const, 0x0, 1⟩
/-- R130: SPN_SRES[31:0] RESID, access RO, reset 0x0. Residue at the trigger, in 4 KiB units -/
def F.SPN_SRES_RESID : Field := ⟨0x50030, 0, 32, .ro, 0, .const, 0x0, 1⟩
/-- R130: SPN_FLICK[7:4] NF, access RO, reset 0x0. N_F in force, copied from MR_SAVEPWR -/
def F.SPN_FLICK_NF : Field := ⟨0x50038, 4, 4, .ro, 0, .const, 0x0, 1⟩
/-- R130: SPN_FLICK[3:0] CONSEC, access RO, reset 0x0. Saves since the packs last reached full charge; saturates at
0xF -/
def F.SPN_FLICK_CONSEC : Field := ⟨0x50038, 0, 4, .ro, 0, .const, 0x0, 1⟩
/-- R130: SPN_GEN[47:0] GEN, access RO, reset 0x0. Generation of the newest closed or truncated manifest -/
def F.SPN_GEN_GEN : Field := ⟨0x50040, 0, 48, .ro, 0, .const, 0x0, 1⟩
/-- R171: SPN_RST[63:61] STAGE, access RO, reset 0b000. 0 none, 1 preparation, 2 data stage, 3 resumed in SERVICE, 4
complete -/
def F.SPN_RST_STAGE : Field := ⟨0x50100, 61, 3, .ro, 0, .const, 0x0, 1⟩
/-- R171: SPN_RST[60:58] CLASS, access RO, reset 0b000. Image class, coded as in R154 -/
def F.SPN_RST_CLASS : Field := ⟨0x50100, 58, 3, .ro, 0, .const, 0x0, 1⟩
/-- R171: SPN_RST[57] ADOPT, access RO, reset 0. DRAM adopted under R168 -/
def F.SPN_RST_ADOPT : Field := ⟨0x50100, 57, 1, .ro, 0, .const, 0x0, 1⟩
/-- R171: SPN_RST[47:0] GEN, access RO, reset 0x0. GEN of the anchor chosen -/
def F.SPN_RST_GEN : Field := ⟨0x50100, 0, 48, .ro, 0, .const, 0x0, 1⟩
/-- R171: SPN_RUNITS[63:32] TOTAL, access RO, reset 0x0. Units ABSENT when the data stage opened -/
def F.SPN_RUNITS_TOTAL : Field := ⟨0x50108, 32, 32, .ro, 0, .const, 0x0, 1⟩
/-- R171: SPN_RUNITS[31:0] DONE, access RO, reset 0x0. Units installed -/
def F.SPN_RUNITS_DONE : Field := ⟨0x50108, 0, 32, .ro, 0, .const, 0x0, 1⟩
/-- R171: SPN_RLOSS[63:32] UNREC, access RO, reset 0x0. Units recorded UNRECOVERABLE -/
def F.SPN_RLOSS_UNREC : Field := ⟨0x50110, 32, 32, .ro, 0, .const, 0x0, 1⟩
/-- R171: SPN_RLOSS[31:0] TAGMIS, access RO, reset 0x0. Units recorded TAG_MISMATCH -/
def F.SPN_RLOSS_TAGMIS : Field := ⟨0x50110, 0, 32, .ro, 0, .const, 0x0, 1⟩
/-- R171: SPN_RBLD[63:32] STRANDS, access RO, reset 0x0. Strands rebuilt from parity -/
def F.SPN_RBLD_STRANDS : Field := ⟨0x50118, 32, 32, .ro, 0, .const, 0x0, 1⟩
/-- R171: SPN_RBLD[31:0] RETRY, access RO, reset 0x0. Reads that used read-retry -/
def F.SPN_RBLD_RETRY : Field := ⟨0x50118, 0, 32, .ro, 0, .const, 0x0, 1⟩
/-- R171: SPN_RTIME[63:32] PREP, access RO, reset 0x0. Preparation, in ms -/
def F.SPN_RTIME_PREP : Field := ⟨0x50120, 32, 32, .ro, 0, .const, 0x0, 1⟩
/-- R171: SPN_RTIME[31:0] DATA, access RO, reset 0x0. Data stage, in ms; runs while STAGE is 2 or 3 -/
def F.SPN_RTIME_DATA : Field := ⟨0x50120, 0, 32, .ro, 0, .const, 0x0, 1⟩
/-- R171: SPN_FETCH[63:48] MAXLAT, access RC, reset 0x0. Longest demand fetch since last read, in µs; saturates at
0xFFFF -/
def F.SPN_FETCH_MAXLAT : Field := ⟨0x50128, 48, 16, .rc, 0, .const, 0x0, 1⟩
/-- R171: SPN_FETCH[47:32] PEND, access RO, reset 0x0. Demand fetches pending -/
def F.SPN_FETCH_PEND : Field := ⟨0x50128, 32, 16, .ro, 0, .const, 0x0, 1⟩
/-- R171: SPN_FETCH[31:0] COUNT, access RO, reset 0x0. Demand fetches completed; saturates at 0xFFFF_FFFF -/
def F.SPN_FETCH_COUNT : Field := ⟨0x50128, 0, 32, .ro, 0, .const, 0x0, 1⟩
/-- R171: SPN_RCTL[6:0] FETCHLIM, access RW, reset NOR. Read-started fetches per head, 1 to 64; 0 acts as 1, and
larger values as 64; factory value 64 -/
def F.SPN_RCTL_FETCHLIM : Field := ⟨0x50130, 0, 7, .rw, 64, .nor, 0x0, 1⟩
/-- R195: FC_CFG[50:48] MAXRATE, access RWL, reset NOR. Highest interface rate, coded as in R173; factory value 0b110
-/
def F.FC_CFG_MAXRATE : Field := ⟨0x60000, 48, 3, .rwl, 6, .nor, 0x0, 1⟩
/-- R195: FC_CFG[47:40] BADMAX, access RWL, reset NOR. Grown bad blocks above which a target retires, 1 to 255;
factory value 113 (0x71) -/
def F.FC_CFG_BADMAX : Field := ⟨0x60000, 40, 8, .rwl, 113, .nor, 0x0, 1⟩
/-- R195: FC_CFG[31:16] WEARLIM, access RWL, reset NOR. pSLC erase limit in cycles; factory value 30,000 (0x7530) -/
def F.FC_CFG_WEARLIM : Field := ⟨0x60000, 16, 16, .rwl, 30000, .nor, 0x0, 1⟩
/-- R195: FC_CFG[15:8] ERSMAX, access RW, reset NOR. Erase suspends in SERVICE, RESTORE and BRINGUP, 1 to 64; factory
value 16 (0x10) -/
def F.FC_CFG_ERSMAX : Field := ⟨0x60000, 8, 8, .rw, 16, .nor, 0x0, 1⟩
/-- R195: FC_CFG[7:4] PGMMAX, access RW, reset NOR. Program suspends, 0 to 15; factory value 4 -/
def F.FC_CFG_PGMMAX : Field := ⟨0x60000, 4, 4, .rw, 4, .nor, 0x0, 1⟩
/-- R195: FC_UP[63:0] BITS, access RO, reset 0x0. Bit nn refers to FCnn. FC_UP: the channel is trained and not
retired. FC_BOUND: c_ch = 0 (R191). -/
def F.FC_UP_BITS : Field := ⟨0x60008, 0, 64, .ro, 0, .const, 0x0, 1⟩
/-- R195: FC_BOUND[63:0] BITS, access RO, reset 0x0. Bit nn refers to FCnn. FC_UP: the channel is trained and not
retired. FC_BOUND: c_ch = 0 (R191). -/
def F.FC_BOUND_BITS : Field := ⟨0x60010, 0, 64, .ro, 0, .const, 0x0, 1⟩
/-- R195: FC_CEIL[63:48] RFL, access RO, reset 0x0. R_FL in 0.1 GB/s, rounded down; equals MR_RATES.RFL -/
def F.FC_CEIL_RFL : Field := ⟨0x60018, 48, 16, .ro, 0, .const, 0x0, 1⟩
/-- R195: FC_CEIL[47:32] BUS, access RO, reset 0x0. 180 GB/s × Σ c_ch ÷ 64, in 0.1 GB/s -/
def F.FC_CEIL_BUS : Field := ⟨0x60018, 32, 16, .ro, 0, .const, 0x0, 1⟩
/-- R195: FC_CEIL[31:16] POOL, access RO, reset 0x0. P_PAY ÷ (N_F × T_WIN), in 0.1 GB/s; saturates at 0xFFFF -/
def F.FC_CEIL_POOL : Field := ⟨0x60018, 16, 16, .ro, 0, .const, 0x0, 1⟩
/-- R195: FC_CEIL[6:0] USABLE, access RO, reset 0x0. Channels with c_ch > 0, 0 to 64 -/
def F.FC_CEIL_USABLE : Field := ⟨0x60018, 0, 7, .ro, 0, .const, 0x0, 1⟩
/-- R195: FC_POOL[63:32] PAY, access RO, reset 0x0. P_PAY in GB -/
def F.FC_POOL_PAY : Field := ⟨0x60020, 32, 32, .ro, 0, .const, 0x0, 1⟩
/-- R195: FC_POOL[31:0] LISTED, access RO, reset 0x0. Blocks on the erasing list awaiting erase or seal -/
def F.FC_POOL_LISTED : Field := ⟨0x60020, 0, 32, .ro, 0, .const, 0x0, 1⟩
/-- R195: FC_SUSP[63:48] ERSX, access RC, reset 0x0. Erases that used ERSMAX suspends; saturates at 0xFFFF -/
def F.FC_SUSP_ERSX : Field := ⟨0x60028, 48, 16, .rc, 0, .const, 0x0, 1⟩
/-- R195: FC_SUSP[47:32] PGMX, access RC, reset 0x0. Programs that used PGMMAX suspends; saturates at 0xFFFF -/
def F.FC_SUSP_PGMX : Field := ⟨0x60028, 32, 16, .rc, 0, .const, 0x0, 1⟩
/-- R195: FC_SUSP[7:4] UNSUSP, access RO, reset 0x0. Targets now in unsuspendable work -/
def F.FC_SUSP_UNSUSP : Field := ⟨0x60028, 4, 4, .ro, 0, .const, 0x0, 1⟩
/-- R195: FC_SUSP[3:0] ULIM, access RO, reset 0xF. Limit of R179; 0xF while no share is HOT -/
def F.FC_SUSP_ULIM : Field := ⟨0x60028, 0, 4, .ro, 15, .const, 0x0, 1⟩
/-- R195: FC_RRT[63:56] INTERVAL, access RW, reset NOR. Calibration interval in h, 1 h to 255 h; 0 acts as 1; factory
value 24 (0x18) -/
def F.FC_RRT_INTERVAL : Field := ⟨0x60030, 56, 8, .rw, 24, .nor, 0x0, 1⟩
/-- R195: FC_RRT[47:32] REFRESH, access RC, reset 0x0. Blocks marked for refresh; saturates at 0xFFFF -/
def F.FC_RRT_REFRESH : Field := ⟨0x60030, 32, 16, .rc, 0, .const, 0x0, 1⟩
/-- R195: FC_RRT[31:0] RETRY, access RC, reset 0x0. Reads that needed a retry; saturates at 0xFFFF_FFFF -/
def F.FC_RRT_RETRY : Field := ⟨0x60030, 0, 32, .rc, 0, .const, 0x0, 1⟩
/-- R195: FC_WEAR[63:48] MAX, access RO, reset 0x0. Highest erase count of any usable block -/
def F.FC_WEAR_MAX : Field := ⟨0x60038, 48, 16, .ro, 0, .const, 0x0, 1⟩
/-- R195: FC_WEAR[47:32] MEAN, access RO, reset 0x0. Mean erase count of usable blocks -/
def F.FC_WEAR_MEAN : Field := ⟨0x60038, 32, 16, .ro, 0, .const, 0x0, 1⟩
/-- R195: FC_WEAR[31:0] BAD, access RO, reset 0x0. Grown bad blocks, device-wide -/
def F.FC_WEAR_BAD : Field := ⟨0x60038, 0, 32, .ro, 0, .const, 0x0, 1⟩
/-- R195: FC_ERR[63:48] TMO, access RC, reset 0x0. Command timeouts; saturates at 0xFFFF -/
def F.FC_ERR_TMO : Field := ⟨0x60040, 48, 16, .rc, 0, .const, 0x0, 1⟩
/-- R195: FC_ERR[47:32] UNCOR, access RC, reset 0x0. Strands not intact after retry; saturates at 0xFFFF -/
def F.FC_ERR_UNCOR : Field := ⟨0x60040, 32, 16, .rc, 0, .const, 0x0, 1⟩
/-- R195: FC_ERR[31:16] ERSF, access RC, reset 0x0. Failed erase attempts; saturates at 0xFFFF -/
def F.FC_ERR_ERSF : Field := ⟨0x60040, 16, 16, .rc, 0, .const, 0x0, 1⟩
/-- R195: FC_ERR[15:0] PGMF, access RC, reset 0x0. Program failures; saturates at 0xFFFF -/
def F.FC_ERR_PGMF : Field := ⟨0x60040, 0, 16, .rc, 0, .const, 0x0, 1⟩
/-- R195: FC_RSK[63:61] STATE, access RO, reset 0b000. 0 idle, 1 dissolve, 2 relocate, 3 pass wait, 4 held by R193 -/
def F.FC_RSK_STATE : Field := ⟨0x60048, 61, 3, .ro, 0, .const, 0x0, 1⟩
/-- R195: FC_RSK[60:56] QUEUED, access RO, reset 0x0. Targets queued behind the one in work, 0 to 31 -/
def F.FC_RSK_QUEUED : Field := ⟨0x60048, 56, 5, .ro, 0, .const, 0x0, 1⟩
/-- R195: FC_RSK[55:46] TARGET, access RO, reset 0x0. Target in work -/
def F.FC_RSK_TARGET : Field := ⟨0x60048, 46, 10, .ro, 0, .const, 0x0, 1⟩
/-- R195: FC_RSK[43:24] BUNDLE, access RO, reset 0x0. Checkpointed next bundle -/
def F.FC_RSK_BUNDLE : Field := ⟨0x60048, 24, 20, .ro, 0, .const, 0x0, 1⟩
/-- R195: FC_RSK[23:16] PROG, access RO, reset 0x00. Relocation progress in percent -/
def F.FC_RSK_PROG : Field := ⟨0x60048, 16, 8, .ro, 0, .const, 0x0, 1⟩
/-- R195: FC_RSK[15:0] RATE, access RW, reset NOR. Relocation payload rate in 0.1 GB/s, 1 to 60; larger values act as
60; factory value 40 (0x0028) -/
def F.FC_RSK_RATE : Field := ⟨0x60048, 0, 16, .rw, 40, .nor, 0x0, 1⟩
/-- R195: FC_RET[63:48] WAITQ, access RO, reset 0x0. Retired targets waiting outside the full re-skein queue (R192) -/
def F.FC_RET_WAITQ : Field := ⟨0x60050, 48, 16, .ro, 0, .const, 0x0, 1⟩
/-- R195: FC_RET[47:32] ABSENT, access RO, reset 0x0. Targets ABSENT -/
def F.FC_RET_ABSENT : Field := ⟨0x60050, 32, 16, .ro, 0, .const, 0x0, 1⟩
/-- R195: FC_RET[31:16] RETIRED, access RO, reset 0x0. Targets RETIRED or RETIRED_BOUND -/
def F.FC_RET_RETIRED : Field := ⟨0x60050, 16, 16, .ro, 0, .const, 0x0, 1⟩
/-- R195: FC_RET[15:0] BOUNDT, access RO, reset 0x0. Targets RETIRED_BOUND, TESTING or EXCLUDED -/
def F.FC_RET_BOUNDT : Field := ⟨0x60050, 0, 16, .ro, 0, .const, 0x0, 1⟩
/-- R195: FC_PROT[63] ARMED, access RO, reset 0. Protection map loaded (R185) -/
def F.FC_PROT_ARMED : Field := ⟨0x60058, 63, 1, .ro, 0, .const, 0x0, 1⟩
/-- R195: FC_PROT[31:0] FAULTS, access RC, reset 0x0. Commands refused under R184; saturates at 0xFFFF_FFFF -/
def F.FC_PROT_FAULTS : Field := ⟨0x60058, 0, 32, .rc, 0, .const, 0x0, 1⟩
/-- R195: FC_LSN[63:0] LSN, access RO, reset 0x0. Highest LSN lying in a committed RECORD Skein -/
def F.FC_LSN_LSN : Field := ⟨0x60060, 0, 64, .ro, 0, .const, 0x0, 1⟩
/-- R195: FC_SEL[9:0] TGT, access RW, reset 0x000. Target shown by FC_T_STS and FC_T_CAL -/
def F.FC_SEL_TGT : Field := ⟨0x60100, 0, 10, .rw, 0, .const, 0x0, 1⟩
/-- R195: FC_T_STS[63:61] STATE, access RO, reset 0b000. 0 ABSENT, 1 HEALTHY, 2 TESTING, 3 RETIRED_BOUND, 4 RETIRED, 5
EXCLUDED -/
def F.FC_T_STS_STATE : Field := ⟨0x60108, 61, 3, .ro, 0, .const, 0x0, 1⟩
/-- R195: FC_T_STS[60:57] CAUSE, access RO, reset 0x0. Retirement cause, coded as in R189; 0 when not retired -/
def F.FC_T_STS_CAUSE : Field := ⟨0x60108, 57, 4, .ro, 0, .const, 0x0, 1⟩
/-- R195: FC_T_STS[56:54] CHRATE, access RO, reset 0b000. Trained rate of the target's channel, coded as in R173 -/
def F.FC_T_STS_CHRATE : Field := ⟨0x60108, 54, 3, .ro, 0, .const, 0x0, 1⟩
/-- R195: FC_T_STS[47:32] BAD, access RO, reset 0x0. Grown bad blocks of the target -/
def F.FC_T_STS_BAD : Field := ⟨0x60108, 32, 16, .ro, 0, .const, 0x0, 1⟩
/-- R195: FC_T_STS[31:16] FREE, access RO, reset 0x0. Sealed blocks in no bundle -/
def F.FC_T_STS_FREE : Field := ⟨0x60108, 16, 16, .ro, 0, .const, 0x0, 1⟩
/-- R195: FC_T_STS[15:0] ERSCNT, access RO, reset 0x0. Highest erase count of the target's usable blocks -/
def F.FC_T_STS_ERSCNT : Field := ⟨0x60108, 0, 16, .ro, 0, .const, 0x0, 1⟩
/-- R195: FC_T_CAL[63:48] AGE, access RO, reset 0x0. Hours since the target's last calibration; saturates at 0xFFFF -/
def F.FC_T_CAL_AGE : Field := ⟨0x60110, 48, 16, .ro, 0, .const, 0x0, 1⟩
/-- R195: FC_T_CAL[31:0] OFFS, access RO, reset 0x0. Eight 4-bit two's-complement offsets; bin b at bits 4b+3:4b, bins
in the order of R180 -/
def F.FC_T_CAL_OFFS : Field := ⟨0x60110, 0, 32, .ro, 0, .const, 0x0, 1⟩
/-- R221: TW_CTL[63:62] EN, access RWL, reset NOR. Bit 62+p enables port p; factory value 0b11 -/
def F.TW_CTL_EN : Field := ⟨0x70000, 62, 2, .rwl, 3, .nor, 0x0, 1⟩
/-- R221: TW_CTL[61:60] MAXRATE1, access RWL, reset NOR. Port 1 limit: 0b01 16 GT/s, 0b10 32 GT/s, 0b11 64 GT/s; 0b00
acts as 0b01; factory value 0b11 -/
def F.TW_CTL_MAXRATE1 : Field := ⟨0x70000, 60, 2, .rwl, 3, .nor, 0x0, 1⟩
/-- R221: TW_CTL[59:58] MAXRATE0, access RWL, reset NOR. Port 0, as MAXRATE1 -/
def F.TW_CTL_MAXRATE0 : Field := ⟨0x70000, 58, 2, .rwl, 3, .nor, 0x0, 1⟩
/-- R221: TW_CTL[57] IDEREQ, access RWL, reset NOR. 1 requires IDE (R217); factory value 1 -/
def F.TW_CTL_IDEREQ : Field := ⟨0x70000, 57, 1, .rwl, 1, .nor, 0x0, 1⟩
/-- R221: TW_CTL[47:32] LOSS_TO, access RW, reset NOR. Loss timeout in ms, 0 ms to 10,000 ms, larger values clamped;
factory value 100 (0x0064) -/
def F.TW_CTL_LOSS_TO : Field := ⟨0x70000, 32, 16, .rw, 100, .nor, 0x0, 1⟩
/-- R221: TW_ACCEPT[63:0] MASK, access RW, reset NOR. Bit n lets the peer designate share n; factory value 0 -/
def F.TW_ACCEPT_MASK : Field := ⟨0x70008, 0, 64, .rw, 0, .nor, 0x0, 1⟩
/-- R221: TW_PAIR[63:61] STATE, access RO, reset 0b000. 0 NONE, 1 PAIRED, 2 DEGRADED, 3 ABSENT, 4 LOST -/
def F.TW_PAIR_STATE : Field := ⟨0x70010, 61, 3, .ro, 0, .const, 0x0, 1⟩
/-- R221: TW_PAIR[60:59] PERS, access RO, reset 0b00. 0 none, 1 downstream, 2 upstream -/
def F.TW_PAIR_PERS : Field := ⟨0x70010, 59, 2, .ro, 0, .const, 0x0, 1⟩
/-- R221: TW_PAIR[58:57] LINKS, access RO, reset 0b00. Bit 57+p set while port p carries the session -/
def F.TW_PAIR_LINKS : Field := ⟨0x70010, 57, 2, .ro, 0, .const, 0x0, 1⟩
/-- R221: TW_PAIR[31:0] SESSION, access RO, reset 0x0. Current or last session -/
def F.TW_PAIR_SESSION : Field := ⟨0x70010, 0, 32, .ro, 0, .const, 0x0, 1⟩
/-- R221: TW_PEER[63:0] VALUE, access RO, reset 0x0. Peer serial of the last session; or the sequence of R201 or R202
in the current session, holding the last value while no session is open -/
def F.TW_PEER_VALUE : Field := ⟨0x70018, 0, 64, .ro, 0, .const, 0x0, 1⟩
/-- R221: TW_OSEQ[63:0] VALUE, access RO, reset 0x0. Peer serial of the last session; or the sequence of R201 or R202
in the current session, holding the last value while no session is open -/
def F.TW_OSEQ_VALUE : Field := ⟨0x70020, 0, 64, .ro, 0, .const, 0x0, 1⟩
/-- R221: TW_ASEQ[63:0] VALUE, access RO, reset 0x0. Peer serial of the last session; or the sequence of R201 or R202
in the current session, holding the last value while no session is open -/
def F.TW_ASEQ_VALUE : Field := ⟨0x70028, 0, 64, .ro, 0, .const, 0x0, 1⟩
/-- R221: TW_ISEQ[63:0] VALUE, access RO, reset 0x0. Peer serial of the last session; or the sequence of R201 or R202
in the current session, holding the last value while no session is open -/
def F.TW_ISEQ_VALUE : Field := ⟨0x70030, 0, 64, .ro, 0, .const, 0x0, 1⟩
/-- R221: TW_COPY[63:61] KIND, access RO, reset 0b000. 0 idle, 1 full sync, 2 catch-up, 3 full catch-up -/
def F.TW_COPY_KIND : Field := ⟨0x70038, 61, 3, .ro, 0, .const, 0x0, 1⟩
/-- R221: TW_COPY[60:55] SHARE, access RO, reset 0x0. Share being copied -/
def F.TW_COPY_SHARE : Field := ⟨0x70038, 55, 6, .ro, 0, .const, 0x0, 1⟩
/-- R221: TW_COPY[54:48] WAIT, access RO, reset 0x0. Shares waiting, 0 to 64 -/
def F.TW_COPY_WAIT : Field := ⟨0x70038, 48, 7, .ro, 0, .const, 0x0, 1⟩
/-- R221: TW_COPY[47:40] PROG, access RO, reset 0x00. Scan progress in percent -/
def F.TW_COPY_PROG : Field := ⟨0x70038, 40, 8, .ro, 0, .const, 0x0, 1⟩
/-- R221: TW_COPY[39:0] UNITS, access RO, reset 0x0. Units sent as data in this copy -/
def F.TW_COPY_UNITS : Field := ⟨0x70038, 0, 40, .ro, 0, .const, 0x0, 1⟩
/-- R221: TW_CNT[63:48] DISC, access RC, reset 0x0. Inbound writes and messages discarded; saturates at 0xFFFF -/
def F.TW_CNT_DISC : Field := ⟨0x70040, 48, 16, .rc, 0, .const, 0x0, 1⟩
/-- R221: TW_CNT[47:32] OVFL, access RC, reset 0x0. Outbound overflows; saturates at 0xFFFF -/
def F.TW_CNT_OVFL : Field := ⟨0x70040, 32, 16, .rc, 0, .const, 0x0, 1⟩
/-- R221: TW_CNT[31:16] LOSS, access RC, reset 0x0. Peer losses; saturates at 0xFFFF -/
def F.TW_CNT_LOSS : Field := ⟨0x70040, 16, 16, .rc, 0, .const, 0x0, 1⟩
/-- R221: TW_CNT[15:0] IDEF, access RC, reset 0x0. IDE failures; saturates at 0xFFFF -/
def F.TW_CNT_IDEF : Field := ⟨0x70040, 0, 16, .rc, 0, .const, 0x0, 1⟩
/-- R221: TW_TMAP[31:0] UNITS, access RO, reset 0x0. Units set in either twin map -/
def F.TW_TMAP_UNITS : Field := ⟨0x70048, 0, 32, .ro, 0, .const, 0x0, 1⟩
/-- R221: TW_PORT_p[23] IDE, access RO, reset 0. IDE stream active -/
def F.TW_PORT_IDE : Field := ⟨0x70100, 23, 1, .ro, 0, .const, 0x8, 2⟩
/-- R221: TW_PORT_p[22] IDEFAIL, access RO, reset 0. IDE failure since the last L0 -/
def F.TW_PORT_IDEFAIL : Field := ⟨0x70100, 22, 1, .ro, 0, .const, 0x8, 2⟩
/-- R221: TW_PORT_p[21] MISMATCH, access RO, reset 0. Held under R196, other controller -/
def F.TW_PORT_MISMATCH : Field := ⟨0x70100, 21, 1, .ro, 0, .const, 0x8, 2⟩
/-- R221: TW_PORT_p[20] LOOPBACK, access RO, reset 0. Held under R196, own serial -/
def F.TW_PORT_LOOPBACK : Field := ⟨0x70100, 20, 1, .ro, 0, .const, 0x8, 2⟩
/-- R221: TW_PORT_p[19:15] WIDTH, access RO, reset 0x0. Trained width: 4, 8 or 16 -/
def F.TW_PORT_WIDTH : Field := ⟨0x70100, 15, 5, .ro, 0, .const, 0x8, 2⟩
/-- R221: TW_PORT_p[9:8] RATE, access RO, reset 0b00. Trained rate, encoded as MAXRATE -/
def F.TW_PORT_RATE : Field := ⟨0x70100, 8, 2, .ro, 0, .const, 0x8, 2⟩
/-- R221: TW_PORT_p[2:0] STATE, access RO, reset 0b000. 0 disabled, 1 detect, 2 training, 3 up, 4 recovery, 5 down, 6
held -/
def F.TW_PORT_STATE : Field := ⟨0x70100, 0, 3, .ro, 0, .const, 0x8, 2⟩
/-- R221: TW_S_n[63:0] PAIR, access RO, reset 0x0. Pairing word of share n in the layout of R207; loaded from the
share table at bring-up -/
def F.TW_S_PAIR : Field := ⟨0x70200, 0, 64, .ro, 0, .const, 0x8, 64⟩
/-- R243: MC_CFG[63:61] MAXRATE, access RWL, reset NOR. Highest rate, coded as in R223; factory value 0b011 -/
def F.MC_CFG_MAXRATE : Field := ⟨0x80000, 61, 3, .rwl, 3, .nor, 0x0, 1⟩
/-- R243: MC_CFG[60] SPARE, access RWL, reset NOR. 1 reserves rank 1 of every channel as spare (R226); factory value 0
-/
def F.MC_CFG_SPARE : Field := ⟨0x80000, 60, 1, .rwl, 0, .nor, 0x0, 1⟩
/-- R243: MC_STAT[63:61] RATE, access RO, reset 0b000. Trained rate, coded as in R223 -/
def F.MC_STAT_RATE : Field := ⟨0x80008, 61, 3, .ro, 0, .const, 0x0, 1⟩
/-- R243: MC_STAT[60] LFO, access RO, reset 0. Fallback rate in use (R224) -/
def F.MC_STAT_LFO : Field := ⟨0x80008, 60, 1, .ro, 0, .const, 0x0, 1⟩
/-- R243: MC_STAT[47:24] FAILED, access RO, reset 0x0. Bit 24+c set while MCc is FAILED -/
def F.MC_STAT_FAILED : Field := ⟨0x80008, 24, 24, .ro, 0, .const, 0x0, 1⟩
/-- R243: MC_STAT[23:0] UP, access RO, reset 0x0. Bit c set while MCc is trained and not FAILED -/
def F.MC_STAT_UP : Field := ⟨0x80008, 0, 24, .ro, 0, .const, 0x0, 1⟩
/-- R243: MC_SCRUB[63:56] PERIOD, access RW, reset NOR. Patrol period in h, 1 h to 255 h; 0 acts as 1; factory value
24 (0x18) -/
def F.MC_SCRUB_PERIOD : Field := ⟨0x80010, 56, 8, .rw, 24, .nor, 0x0, 1⟩
/-- R243: MC_SCRUB[55] STRETCH, access RO, reset 0. Period stretched under R233 -/
def F.MC_SCRUB_STRETCH : Field := ⟨0x80010, 55, 1, .ro, 0, .const, 0x0, 1⟩
/-- R243: MC_SCRUB[31:24] PROG, access RO, reset 0x00. Progress of the current pass, in percent -/
def F.MC_SCRUB_PROG : Field := ⟨0x80010, 24, 8, .ro, 0, .const, 0x0, 1⟩
/-- R243: MC_SCRUB[23:0] PASSES, access RO, reset 0x0. Passes completed since bring-up; saturates at 0xFF_FFFF -/
def F.MC_SCRUB_PASSES : Field := ⟨0x80010, 0, 24, .ro, 0, .const, 0x0, 1⟩
/-- R243: MC_THR[63:48] DEVCE, access RW, reset NOR. CEs on one device in 24 h before marking; factory value 4,096
(0x1000) -/
def F.MC_THR_DEVCE : Field := ⟨0x80018, 48, 16, .rw, 4096, .nor, 0x0, 1⟩
/-- R243: MC_THR[47:40] DEVPAT, access RW, reset NOR. Device patterns before marking; factory value 16 (0x10) -/
def F.MC_THR_DEVPAT : Field := ⟨0x80018, 40, 8, .rw, 16, .nor, 0x0, 1⟩
/-- R243: MC_THR[39:32] ROWCE, access RW, reset NOR. CEs in one row before sPPR; factory value 4 -/
def F.MC_THR_ROWCE : Field := ⟨0x80018, 32, 8, .rw, 4, .nor, 0x0, 1⟩
/-- R243: MC_ERR[63:32] CE, access RC, reset 0x0. Corrected lines; saturates at 0xFFFF_FFFF -/
def F.MC_ERR_CE : Field := ⟨0x80020, 32, 32, .rc, 0, .const, 0x0, 1⟩
/-- R243: MC_ERR[31:16] UE, access RC, reset 0x0. Uncorrectable lines; saturates at 0xFFFF -/
def F.MC_ERR_UE : Field := ⟨0x80020, 16, 16, .rc, 0, .const, 0x0, 1⟩
/-- R243: MC_ERR[15:0] HEAL, access RC, reset 0x0. Units healed; saturates at 0xFFFF -/
def F.MC_ERR_HEAL : Field := ⟨0x80020, 0, 16, .rc, 0, .const, 0x0, 1⟩
/-- R243: MC_SPARE[63:61] STATE, access RO, reset 0b000. 0 idle, 1 copying, 2 stopped by a Save -/
def F.MC_SPARE_STATE : Field := ⟨0x80028, 61, 3, .ro, 0, .const, 0x0, 1⟩
/-- R243: MC_SPARE[60:56] CHAN, access RO, reset 0x0. Channel being spared, 0 to 23 -/
def F.MC_SPARE_CHAN : Field := ⟨0x80028, 56, 5, .ro, 0, .const, 0x0, 1⟩
/-- R243: MC_SPARE[55] RANK, access RO, reset 0. Rank being spared -/
def F.MC_SPARE_RANK : Field := ⟨0x80028, 55, 1, .ro, 0, .const, 0x0, 1⟩
/-- R243: MC_SPARE[54:48] PROG, access RO, reset 0x0. Copy progress in percent -/
def F.MC_SPARE_PROG : Field := ⟨0x80028, 48, 7, .ro, 0, .const, 0x0, 1⟩
/-- R243: MC_SPARE[15:0] RATE, access RW, reset NOR. Copy rate in 0.1 GB/s, 1 to 160; larger values act as 160;
factory value 40 (0x0028) -/
def F.MC_SPARE_RATE : Field := ⟨0x80028, 0, 16, .rw, 40, .nor, 0x0, 1⟩
/-- R243: MC_SEL[4:0] CHAN, access RW, reset 0x00. Channel shown, 0 to 23; larger values act as 23 -/
def F.MC_SEL_CHAN : Field := ⟨0x80100, 0, 5, .rw, 0, .const, 0x0, 1⟩
/-- R243: MC_C_STS[63:61] STATE, access RO, reset 0b000. 0 absent, 1 training, 2 up, 3 retraining, 4 FAILED, 5 self-
refresh -/
def F.MC_C_STS_STATE : Field := ⟨0x80108, 61, 3, .ro, 0, .const, 0x0, 1⟩
/-- R243: MC_C_STS[55:48] TEMP, access RO, reset 0x00. Module temperature in °C, two's complement -/
def F.MC_C_STS_TEMP : Field := ⟨0x80108, 48, 8, .ro, 0, .const, 0x0, 1⟩
/-- R243: MC_C_STS[47:32] CAP, access RO, reset 0x0. Installed capacity in GiB -/
def F.MC_C_STS_CAP : Field := ⟨0x80108, 32, 16, .ro, 0, .const, 0x0, 1⟩
/-- R243: MC_C_STS[31:30] RANKS, access RO, reset 0b00. Ranks present, 1 or 2 -/
def F.MC_C_STS_RANKS : Field := ⟨0x80108, 30, 2, .ro, 0, .const, 0x0, 1⟩
/-- R243: MC_C_STS[29:28] SPARED, access RO, reset 0b00. Bit 28+r set when rank r is spared out -/
def F.MC_C_STS_SPARED : Field := ⟨0x80108, 28, 2, .ro, 0, .const, 0x0, 1⟩
/-- R243: MC_C_ERR[63:48] CE, access RC, reset 0x0. Corrected lines; saturates at 0xFFFF -/
def F.MC_C_ERR_CE : Field := ⟨0x80110, 48, 16, .rc, 0, .const, 0x0, 1⟩
/-- R243: MC_C_ERR[47:32] UE, access RC, reset 0x0. Uncorrectable lines; saturates at 0xFFFF -/
def F.MC_C_ERR_UE : Field := ⟨0x80110, 32, 16, .rc, 0, .const, 0x0, 1⟩
/-- R243: MC_C_ERR[31:16] PPRS, access RO, reset 0x0. sPPR repairs since manufacture -/
def F.MC_C_ERR_PPRS : Field := ⟨0x80110, 16, 16, .ro, 0, .const, 0x0, 1⟩
/-- R243: MC_C_ERR[15:8] PPRH, access RO, reset 0x00. Hard PPR repairs since manufacture; saturates at 0xFF -/
def F.MC_C_ERR_PPRH : Field := ⟨0x80110, 8, 8, .ro, 0, .const, 0x0, 1⟩
/-- R243: MC_C_ERR[7:0] RETRY, access RC, reset 0x00. Parity and CRC retries; saturates at 0xFF -/
def F.MC_C_ERR_RETRY : Field := ⟨0x80110, 0, 8, .rc, 0, .const, 0x0, 1⟩
/-- R243: MC_C_ERAS[19:15] R1S1, access RO, reset NOR. Rank 1, subchannel 1: bit 4 marked, bits 3:0 device 0 to 9 -/
def F.MC_C_ERAS_R1S1 : Field := ⟨0x80118, 15, 5, .ro, 0, .nor, 0x0, 1⟩
/-- R243: MC_C_ERAS[14:10] R1S0, access RO, reset NOR. Rank 1, subchannel 0, as R1S1 -/
def F.MC_C_ERAS_R1S0 : Field := ⟨0x80118, 10, 5, .ro, 0, .nor, 0x0, 1⟩
/-- R243: MC_C_ERAS[9:5] R0S1, access RO, reset NOR. Rank 0, subchannel 1, as R1S1 -/
def F.MC_C_ERAS_R0S1 : Field := ⟨0x80118, 5, 5, .ro, 0, .nor, 0x0, 1⟩
/-- R243: MC_C_ERAS[4:0] R0S0, access RO, reset NOR. Rank 0, subchannel 0, as R1S1 -/
def F.MC_C_ERAS_R0S0 : Field := ⟨0x80118, 0, 5, .ro, 0, .nor, 0x0, 1⟩
/-- R270: EN_CTL[63:48] VSD, access RWL, reset NOR. V_SD in mV, 10,000 mV to 30,000 mV; factory value 16,000 (0x3E80)
-/
def F.EN_CTL_VSD : Field := ⟨0x90000, 48, 16, .rwl, 16000, .nor, 0x0, 1⟩
/-- R270: EN_CTL[47:40] TFAIL, access RW, reset NOR. Fallback temperature in °C, two's complement; factory value 0 -/
def F.EN_CTL_TFAIL : Field := ⟨0x90000, 40, 8, .rw, 0, .nor, 0x0, 1⟩
/-- R270: EN_CTL[39:32] UFLOOR, access RW, reset NOR. Uncertainty floor in 0.1 %, 5 to 80; factory value 10 -/
def F.EN_CTL_UFLOOR : Field := ⟨0x90000, 32, 8, .rw, 10, .nor, 0x0, 1⟩
/-- R270: EN_CTL[31:24] TDEPTH, access RW, reset NOR. Test depth in percent, 20 to 60; factory value 40 (0x28) -/
def F.EN_CTL_TDEPTH : Field := ⟨0x90000, 24, 8, .rw, 40, .nor, 0x0, 1⟩
/-- R270: EN_CTL[23:12] TPWR, access RW, reset NOR. Test discharge power in W; factory value 150 (0x096) -/
def F.EN_CTL_TPWR : Field := ⟨0x90000, 12, 12, .rw, 150, .nor, 0x0, 1⟩
/-- R270: EN_CTL[11:0] DORMI, access RW, reset NOR. Dormant draw per pack in µA; factory value 25 -/
def F.EN_CTL_DORMI : Field := ⟨0x90000, 0, 12, .rw, 25, .nor, 0x0, 1⟩
/-- R270: EN_SUM[63:48] PD, access RO, reset 0x0. Σ P_D in W -/
def F.EN_SUM_PD : Field := ⟨0x90008, 48, 16, .ro, 0, .const, 0x0, 1⟩
/-- R270: EN_SUM[33:32] READY, access RO, reset 0b00. Bit 32+b set when bay b has settled (R266) -/
def F.EN_SUM_READY : Field := ⟨0x90008, 32, 2, .ro, 0, .const, 0x0, 1⟩
/-- R270: EN_SUM[31:0] EU, access RO, reset 0x0. Σ E_U in J -/
def F.EN_SUM_EU : Field := ⟨0x90008, 0, 32, .ro, 0, .const, 0x0, 1⟩
/-- R270: EN_CFG_b[63:48] SHUNT, access RWL, reset NOR. Shunt in µΩ; factory value 500 (0x01F4) -/
def F.EN_CFG_SHUNT : Field := ⟨0x90100, 48, 16, .rwl, 500, .nor, 0x80, 2⟩
/-- R270: EN_CFG_b[47:40] VDIV, access RWL, reset NOR. PKA_VSNS divider ratio; factory value 20 (0x14) -/
def F.EN_CFG_VDIV : Field := ⟨0x90100, 40, 8, .rwl, 20, .nor, 0x80, 2⟩
/-- R270: EN_CFG_b[39:24] ICHG, access RW, reset NOR. Charge current limit in mA; factory value 520 (0x0208) -/
def F.EN_CFG_ICHG : Field := ⟨0x90100, 24, 16, .rw, 520, .nor, 0x80, 2⟩
/-- R270: EN_CFG_b[23:8] RSV, access RW, reset NOR. Fixed reserve in J; factory value 6,300 (0x189C) -/
def F.EN_CFG_RSV : Field := ⟨0x90100, 8, 16, .rw, 6300, .nor, 0x80, 2⟩
/-- R270: EN_STS_b[63:60] STATE, access RO, reset 0x0. 0 ABSENT, 1 IDENT, 2 UNPROFILED, 3 PRECHARGE, 4 CHARGE, 5
FLOAT, 6 PAUSE, 7 TEST, 8 INHIBIT, 9 FAULT -/
def F.EN_STS_STATE : Field := ⟨0x90108, 60, 4, .ro, 0, .const, 0x80, 2⟩
/-- R270: EN_STS_b[59:57] TSTEP, access RO, reset 0b000. 0 none, 1 wait, 2 rest 1, 3 discharge, 4 rest 2, 5 learn -/
def F.EN_STS_TSTEP : Field := ⟨0x90108, 57, 3, .ro, 0, .const, 0x80, 2⟩
/-- R270: EN_STS_b[56] SAFE, access RO, reset 0. R265 -/
def F.EN_STS_SAFE : Field := ⟨0x90108, 56, 1, .ro, 0, .const, 0x80, 2⟩
/-- R270: EN_STS_b[55] RELEASED, access RO, reset 0. PACK_RELEASE in effect -/
def F.EN_STS_RELEASED : Field := ⟨0x90108, 55, 1, .ro, 0, .const, 0x80, 2⟩
/-- R270: EN_STS_b[54] LOSTLRN, access RO, reset 0. R262 -/
def F.EN_STS_LOSTLRN : Field := ⟨0x90108, 54, 1, .ro, 0, .const, 0x80, 2⟩
/-- R270: EN_STS_b[53] SBSLOST, access RO, reset 0. Monitor silent -/
def F.EN_STS_SBSLOST : Field := ⟨0x90108, 53, 1, .ro, 0, .const, 0x80, 2⟩
/-- R270: EN_STS_b[52] PROVIS, access RO, reset 0. Last reference provisional -/
def F.EN_STS_PROVIS : Field := ⟨0x90108, 52, 1, .ro, 0, .const, 0x80, 2⟩
/-- R270: EN_STS_b[51] NEWPACK, access RO, reset 0. R260 -/
def F.EN_STS_NEWPACK : Field := ⟨0x90108, 51, 1, .ro, 0, .const, 0x80, 2⟩
/-- R270: EN_STS_b[50] FULL, access RO, reset 0. R248 -/
def F.EN_STS_FULL : Field := ⟨0x90108, 50, 1, .ro, 0, .const, 0x80, 2⟩
/-- R270: EN_STS_b[49] PAUSEREQ, access RO, reset 0. Pause requested -/
def F.EN_STS_PAUSEREQ : Field := ⟨0x90108, 49, 1, .ro, 0, .const, 0x80, 2⟩
/-- R270: EN_STS_b[47:40] PROFILE, access RO, reset 0x00. Index of the matched profile -/
def F.EN_STS_PROFILE : Field := ⟨0x90108, 40, 8, .ro, 0, .const, 0x80, 2⟩
/-- R270: EN_STS_b[39:32] CAUSE, access RO, reset 0x00. FAULT or INHIBIT cause, from *Energy faults* -/
def F.EN_STS_CAUSE : Field := ⟨0x90108, 32, 8, .ro, 0, .const, 0x80, 2⟩
/-- R270: EN_MEAS_b[63:48] VOLT, access RO, reset 0x0. Terminal voltage in mV -/
def F.EN_MEAS_VOLT : Field := ⟨0x90110, 48, 16, .ro, 0, .const, 0x80, 2⟩
/-- R270: EN_MEAS_b[47:32] CURR, access RO, reset 0x0. Current in mA, two's complement, positive for discharge -/
def F.EN_MEAS_CURR : Field := ⟨0x90110, 32, 16, .ro, 0, .const, 0x80, 2⟩
/-- R270: EN_MEAS_b[31:16] TEMP, access RO, reset 0x0. Temperature in 0.1 °C, two's complement -/
def F.EN_MEAS_TEMP : Field := ⟨0x90110, 16, 16, .ro, 0, .const, 0x80, 2⟩
/-- R270: EN_MEAS_b[15:14] TSRC, access RO, reset 0b00. 0 SBS, 1 PKA_TSNS, 2 TFAIL -/
def F.EN_MEAS_TSRC : Field := ⟨0x90110, 14, 2, .ro, 0, .const, 0x80, 2⟩
/-- R270: EN_SOC_b[63:52] SOC, access RO, reset 0x0. Reported rescaled charge in 0.1 % (R255) -/
def F.EN_SOC_SOC : Field := ⟨0x90118, 52, 12, .ro, 0, .const, 0x80, 2⟩
/-- R270: EN_SOC_b[51:40] SOCM, access RO, reset 0x0. Model rescaled charge in 0.1 % -/
def F.EN_SOC_SOCM : Field := ⟨0x90118, 40, 12, .ro, 0, .const, 0x80, 2⟩
/-- R270: EN_SOC_b[39:32] SOH, access RO, reset 0x00. C_L ÷ C_D in percent -/
def F.EN_SOC_SOH : Field := ⟨0x90118, 32, 8, .ro, 0, .const, 0x80, 2⟩
/-- R270: EN_SOC_b[31:22] UNC, access RO, reset 0x0. σ in 0.01 % -/
def F.EN_SOC_UNC : Field := ⟨0x90118, 22, 10, .ro, 0, .const, 0x80, 2⟩
/-- R270: EN_SOC_b[21:0] REFAGE, access RO, reset 0x0. Minutes since the last reference point; saturates at 0x3F_FFFF
-/
def F.EN_SOC_REFAGE : Field := ⟨0x90118, 0, 22, .ro, 0, .const, 0x80, 2⟩
/-- R270: EN_PWR_b[63:48] PD, access RO, reset 0x0. P_D in W, as counted in EN_SUM -/
def F.EN_PWR_PD : Field := ⟨0x90120, 48, 16, .ro, 0, .const, 0x80, 2⟩
/-- R270: EN_PWR_b[47:32] PMODEL, access RO, reset 0x0. P_MODEL in W -/
def F.EN_PWR_PMODEL : Field := ⟨0x90120, 32, 16, .ro, 0, .const, 0x80, 2⟩
/-- R270: EN_PWR_b[31:16] PRATE, access RO, reset 0x0. P_RATE in W, from the profile -/
def F.EN_PWR_PRATE : Field := ⟨0x90120, 16, 16, .ro, 0, .const, 0x80, 2⟩
/-- R270: EN_PWR_b[15:0] LOAD, access RO, reset 0x0. P_LOAD in W -/
def F.EN_PWR_LOAD : Field := ⟨0x90120, 0, 16, .ro, 0, .const, 0x80, 2⟩
/-- R270: EN_ENG_b[63:32] ER, access RO, reset 0x0. E_R in J -/
def F.EN_ENG_ER : Field := ⟨0x90128, 32, 32, .ro, 0, .const, 0x80, 2⟩
/-- R270: EN_ENG_b[31:0] EU, access RO, reset 0x0. E_U in J, as counted in EN_SUM -/
def F.EN_ENG_EU : Field := ⟨0x90128, 0, 32, .ro, 0, .const, 0x80, 2⟩
/-- R270: EN_RSV_b[59:40] FIX, access RO, reset 0x0. Fixed part in J -/
def F.EN_RSV_FIX : Field := ⟨0x90130, 40, 20, .ro, 0, .const, 0x80, 2⟩
/-- R270: EN_RSV_b[39:20] UNC, access RO, reset 0x0. Uncertainty part in J -/
def F.EN_RSV_UNC : Field := ⟨0x90130, 20, 20, .ro, 0, .const, 0x80, 2⟩
/-- R270: EN_RSV_b[19:0] TEST, access RO, reset 0x0. Test part in J -/
def F.EN_RSV_TEST : Field := ⟨0x90130, 0, 20, .ro, 0, .const, 0x80, 2⟩
/-- R270: EN_LRN_b[63:48] TESTS, access RO, reset 0x0. Accepted tests on this pack -/
def F.EN_LRN_TESTS : Field := ⟨0x90138, 48, 16, .ro, 0, .const, 0x80, 2⟩
/-- R270: EN_LRN_b[47:32] KR, access RO, reset 0x0. k_R in units of 1/1,024 -/
def F.EN_LRN_KR : Field := ⟨0x90138, 32, 16, .ro, 0, .const, 0x80, 2⟩
/-- R270: EN_LRN_b[31:0] CAP, access RO, reset 0x0. C_L in 0.01 mAh -/
def F.EN_LRN_CAP : Field := ⟨0x90138, 0, 32, .ro, 0, .const, 0x80, 2⟩
/-- R270: EN_Q_b[63:0] COUNT, access RO, reset 0x0. Charge counted since bring-up in µC, two's complement, positive
for discharge -/
def F.EN_Q_COUNT : Field := ⟨0x90140, 0, 64, .ro, 0, .const, 0x80, 2⟩
/-- R270: EN_ID_b[63:48] SERIAL, access RO, reset 0x0. SBS SerialNumber -/
def F.EN_ID_SERIAL : Field := ⟨0x90148, 48, 16, .ro, 0, .const, 0x80, 2⟩
/-- R270: EN_ID_b[47:32] MDATE, access RO, reset 0x0. SBS ManufactureDate -/
def F.EN_ID_MDATE : Field := ⟨0x90148, 32, 16, .ro, 0, .const, 0x80, 2⟩
/-- R270: EN_ID_b[31:16] CYCLES, access RO, reset 0x0. SBS CycleCount -/
def F.EN_ID_CYCLES : Field := ⟨0x90148, 16, 16, .ro, 0, .const, 0x80, 2⟩
/-- R270: EN_ID_b[15:8] SPEC, access RO, reset 0x00. SBS SpecificationInfo bits 7:0 -/
def F.EN_ID_SPEC : Field := ⟨0x90148, 8, 8, .ro, 0, .const, 0x80, 2⟩
/-- R293: PW_CTL[63:48] TOFFMIN, access RW, reset NOR. t_OFF_MIN in ms, 50 ms to 10,000 ms; factory value 200 (0x00C8)
-/
def F.PW_CTL_TOFFMIN : Field := ⟨0xA0000, 48, 16, .rw, 200, .nor, 0x0, 1⟩
/-- R293: PW_CTL[47:32] STBY, access RW, reset NOR. Standby delay in s; 0 disables standby; factory value 0 -/
def F.PW_CTL_STBY : Field := ⟨0xA0000, 32, 16, .rw, 0, .nor, 0x0, 1⟩
/-- R293: PW_CTL[31:30] OPMAX, access RW, reset NOR. Highest operating point allowed: 0 OP0 to 3 OP3; factory value 0
-/
def F.PW_CTL_OPMAX : Field := ⟨0xA0000, 30, 2, .rw, 0, .nor, 0x0, 1⟩
/-- R293: PW_CTL[29:28] RETRY, access RWL, reset NOR. Power-up retries of R275, 0 to 3; factory value 3 -/
def F.PW_CTL_RETRY : Field := ⟨0xA0000, 28, 2, .rwl, 3, .nor, 0x0, 1⟩
/-- R293: PW_STATE[63:61] PSTATE, access RO, reset 0b000. Power state, coded as in R285 -/
def F.PW_STATE_PSTATE : Field := ⟨0xA0008, 61, 3, .ro, 0, .const, 0x0, 1⟩
/-- R293: PW_STATE[60:58] SEQ, access RO, reset 0b000. 0 ON, 1 POWERING_UP, 2 POWERING_DOWN, 3 OFF_WAIT, 4 partial
sequence of R279 -/
def F.PW_STATE_SEQ : Field := ⟨0xA0008, 58, 3, .ro, 0, .const, 0x0, 1⟩
/-- R293: PW_STATE[57:54] STEP, access RO, reset 0x0. Step in progress: 1 to 8 of power-up or power-down; for partial
sequences 1 to 3 for S1 to S3 and 4 to 6 for L1 to L3 -/
def F.PW_STATE_STEP : Field := ⟨0xA0008, 54, 4, .ro, 0, .const, 0x0, 1⟩
/-- R293: PW_STATE[53] ONPEND, access RO, reset 0. On request pending (R278) -/
def F.PW_STATE_ONPEND : Field := ⟨0xA0008, 53, 1, .ro, 0, .const, 0x0, 1⟩
/-- R293: PW_STATE[52] STBY, access RO, reset 0. Standby in force (R288) -/
def F.PW_STATE_STBY : Field := ⟨0xA0008, 52, 1, .ro, 0, .const, 0x0, 1⟩
/-- R293: PW_DOM[51:0] DOM, access RO, reset 0x0. Bits 2d+1:2d give domain d as 0 off, 1 on, 2 retention, 3 clock-
gated. d is 0 for PD_MGT, 1 for PD_CORE, 2 to 9 for PD_HP0–PD_HP7, 10 and 11 for PD_TW0–PD_TW1, 12 to 17 for
PD_MCG0–PD_MCG5 and 18 to 25 for PD_FCG0–PD_FCG7 -/
def F.PW_DOM_DOM : Field := ⟨0xA0010, 0, 52, .ro, 0, .const, 0x0, 1⟩
/-- R293: PW_VOTE[17:0] VOTES, access RO, reset 0x0. Three bits per group, state coded as in R285: MGT 2:0, CORE 5:3,
HP 8:6, TW 11:9, MCG 14:12, FCG 17:15 -/
def F.PW_VOTE_VOTES : Field := ⟨0xA0018, 0, 18, .ro, 0, .const, 0x0, 1⟩
/-- R293: PW_OP[63:62] CUR, access RO, reset 0b11. Operating point in force -/
def F.PW_OP_CUR : Field := ⟨0xA0020, 62, 2, .ro, 3, .const, 0x0, 1⟩
/-- R293: PW_OP[61:60] TARGET, access RO, reset 0b11. Operating point sought -/
def F.PW_OP_TARGET : Field := ⟨0xA0020, 60, 2, .ro, 3, .const, 0x0, 1⟩
/-- R293: PW_OP[59] BUSY, access RO, reset 0. A change of R290 is in progress -/
def F.PW_OP_BUSY : Field := ⟨0xA0020, 59, 1, .ro, 0, .const, 0x0, 1⟩
/-- R293: PW_OP[58:57] THERM, access RO, reset 0b00. Thermal cap (R289) -/
def F.PW_OP_THERM : Field := ⟨0xA0020, 57, 2, .ro, 0, .const, 0x0, 1⟩
/-- R293: PW_OP[56:55] CAP, access RO, reset 0b00. Cap in force -/
def F.PW_OP_CAP : Field := ⟨0xA0020, 55, 2, .ro, 0, .const, 0x0, 1⟩
/-- R293: PW_OP[31:16] HELD, access RC, reset 0x0. Requests refused or held under R290; saturates at 0xFFFF -/
def F.PW_OP_HELD : Field := ⟨0xA0020, 16, 16, .rc, 0, .const, 0x0, 1⟩
/-- R293: PW_OP[15:0] VCORE, access RO, reset 0x0. VDD_CORE as read, in mV -/
def F.PW_OP_VCORE : Field := ⟨0xA0020, 0, 16, .ro, 0, .const, 0x0, 1⟩
/-- R293: PW_VIN[63:48] VALID, access RWL, reset NOR. Validity threshold at the input in mV; factory value 40,000
(0x9C40) -/
def F.PW_VIN_VALID : Field := ⟨0xA0028, 48, 16, .rwl, 40000, .nor, 0x0, 1⟩
/-- R293: PW_VIN[47:32] DEB, access RWL, reset NOR. Validity hold in ms, 10 ms to 1,000 ms; factory value 50 (0x0032)
-/
def F.PW_VIN_DEB : Field := ⟨0xA0028, 32, 16, .rwl, 50, .nor, 0x0, 1⟩
/-- R293: PW_VIN[31:16] VIN, access RO, reset 0x0. Service input in 10 mV -/
def F.PW_VIN_VIN : Field := ⟨0xA0028, 16, 16, .ro, 0, .const, 0x0, 1⟩
/-- R293: PW_VIN[15:8] DIV, access RWL, reset NOR. VINA_SNS divider ratio; factory value 40 (0x28) -/
def F.PW_VIN_DIV : Field := ⟨0xA0028, 8, 8, .rwl, 40, .nor, 0x0, 1⟩
/-- R293: PW_VIN[0] OK, access RO, reset 0. Service input valid (R273) -/
def F.PW_VIN_OK : Field := ⟨0xA0028, 0, 1, .ro, 0, .const, 0x0, 1⟩
/-- R293: PW_SBUS[63:48] SBUS, access RO, reset 0x0. Save bus in 10 mV -/
def F.PW_SBUS_SBUS : Field := ⟨0xA0030, 48, 16, .ro, 0, .const, 0x0, 1⟩
/-- R293: PW_SBUS[47:32] WARN, access RWL, reset NOR. Warning offset above V_SD in mV; factory value 1,000 (0x03E8) -/
def F.PW_SBUS_WARN : Field := ⟨0xA0030, 32, 16, .rwl, 1000, .nor, 0x0, 1⟩
/-- R293: PW_SBUS[31:16] LOW, access RWL, reset NOR. Low offset above V_SD in mV, below WARN; factory value 300
(0x012C) -/
def F.PW_SBUS_LOW : Field := ⟨0xA0030, 16, 16, .rwl, 300, .nor, 0x0, 1⟩
/-- R293: PW_SBUS[15:8] DIV, access RWL, reset NOR. SBUS_SNS divider ratio; factory value 40 (0x28) -/
def F.PW_SBUS_DIV : Field := ⟨0xA0030, 8, 8, .rwl, 40, .nor, 0x0, 1⟩
/-- R293: PW_SBUS[1] LOWIND, access RO, reset 0. Save-bus low holds -/
def F.PW_SBUS_LOWIND : Field := ⟨0xA0030, 1, 1, .ro, 0, .const, 0x0, 1⟩
/-- R293: PW_SBUS[0] WARNIND, access RO, reset 0. Save-bus warning holds -/
def F.PW_SBUS_WARNIND : Field := ⟨0xA0030, 0, 1, .ro, 0, .const, 0x0, 1⟩
/-- R293: PW_HOLD[63:48] CAP, access RO, reset NOR. C of the newest valid measurement in 0.1 mF; 0 when none -/
def F.PW_HOLD_CAP : Field := ⟨0xA0038, 48, 16, .ro, 0, .nor, 0x0, 1⟩
/-- R293: PW_HOLD[47:32] TM, access RO, reset NOR. t_M of that measurement in 0.1 ms -/
def F.PW_HOLD_TM : Field := ⟨0xA0038, 32, 16, .ro, 0, .nor, 0x0, 1⟩
/-- R293: PW_HOLD[29:27] N, access RO, reset NOR. Measurements kept, 0 to 4 -/
def F.PW_HOLD_N : Field := ⟨0xA0038, 27, 3, .ro, 0, .nor, 0x0, 1⟩
/-- R293: PW_FAULT[63:60] KIND, access RO, reset 0x0. 0 none, 1 under-voltage, 2 over-voltage, 3 power-good lost, 4
power-good timeout, 5 PMBus fault bit, 6 slave silent, 7 thermal -/
def F.PW_FAULT_KIND : Field := ⟨0xA0040, 60, 4, .ro, 0, .const, 0x0, 1⟩
/-- R293: PW_FAULT[59:56] SLOT, access RO, reset 0x0. Slot of the last fault -/
def F.PW_FAULT_SLOT : Field := ⟨0xA0040, 56, 4, .ro, 0, .const, 0x0, 1⟩
/-- R293: PW_FAULT[55:52] STEP, access RO, reset 0x0. PW_STATE.STEP at the fault -/
def F.PW_FAULT_STEP : Field := ⟨0xA0040, 52, 4, .ro, 0, .const, 0x0, 1⟩
/-- R293: PW_FAULT[51:49] SEQ, access RO, reset 0b000. PW_STATE.SEQ at the fault -/
def F.PW_FAULT_SEQ : Field := ⟨0xA0040, 49, 3, .ro, 0, .const, 0x0, 1⟩
/-- R293: PW_FAULT[15:0] COUNT, access RC, reset 0x0. Rail faults since last read; saturates at 0xFFFF -/
def F.PW_FAULT_COUNT : Field := ⟨0xA0040, 0, 16, .rc, 0, .const, 0x0, 1⟩
/-- R293: PW_SNAP[63:60] STORED, access RO, reset NOR. Snapshots in the NOR store, 0 to 8 -/
def F.PW_SNAP_STORED : Field := ⟨0xA0048, 60, 4, .ro, 0, .nor, 0x0, 1⟩
/-- R293: PW_SNAP[47:32] SUPPR, access RC, reset 0x0. Snapshots suppressed by R284; saturates at 0xFFFF -/
def F.PW_SNAP_SUPPR : Field := ⟨0xA0048, 32, 16, .rc, 0, .const, 0x0, 1⟩
/-- R293: PW_SNAP[31:0] COUNT, access RO, reset NOR. Snapshots since manufacture; saturates at 0xFFFF_FFFF -/
def F.PW_SNAP_COUNT : Field := ⟨0xA0048, 0, 32, .ro, 0, .nor, 0x0, 1⟩
/-- R293: PW_RAIL_i[63:57] ADDR, access RWL, reset NOR. 7-bit PMBus address -/
def F.PW_RAIL_ADDR : Field := ⟨0xA0100, 57, 7, .rwl, 0, .nor, 0x10, 16⟩
/-- R293: PW_RAIL_i[56:53] PAGE, access RWL, reset NOR. PMBus page -/
def F.PW_RAIL_PAGE : Field := ⟨0xA0100, 53, 4, .rwl, 0, .nor, 0x10, 16⟩
/-- R293: PW_RAIL_i[52:50] GRP, access RWL, reset NOR. 0 module, 1 MGT, 2 CORE, 3 HP, 4 TW, 5 MCG, 6 FCG -/
def F.PW_RAIL_GRP : Field := ⟨0xA0100, 50, 3, .rwl, 0, .nor, 0x10, 16⟩
/-- R293: PW_RAIL_i[47:32] VNOM, access RWL, reset NOR. Nominal in mV; ignored for the VDD_CORE slot -/
def F.PW_RAIL_VNOM : Field := ⟨0xA0100, 32, 16, .rwl, 0, .nor, 0x10, 16⟩
/-- R293: PW_RAIL_i[31:28] STEP, access RWL, reset NOR. Power-up step, 1 to 7, as R274 -/
def F.PW_RAIL_STEP : Field := ⟨0xA0100, 28, 4, .rwl, 0, .nor, 0x10, 16⟩
/-- R293: PW_RAIL_i[27:24] ORDER, access RWL, reset NOR. Position within the step, 0 first -/
def F.PW_RAIL_ORDER : Field := ⟨0xA0100, 24, 4, .rwl, 0, .nor, 0x10, 16⟩
/-- R293: PW_RAIL_i[23] EN, access RWL, reset NOR. Slot populated -/
def F.PW_RAIL_EN : Field := ⟨0xA0100, 23, 1, .rwl, 0, .nor, 0x10, 16⟩
/-- R293: PW_RAIL_i[22] PMB, access RWL, reset NOR. Slot answers PMBus; 0 for pins and ADC only -/
def F.PW_RAIL_PMB : Field := ⟨0xA0100, 22, 1, .rwl, 0, .nor, 0x10, 16⟩
/-- R293: PW_RAIL_i[21] CORE, access RWL, reset NOR. Slot is VDD_CORE; exactly one slot may set it -/
def F.PW_RAIL_CORE : Field := ⟨0xA0100, 21, 1, .rwl, 0, .nor, 0x10, 16⟩
/-- R293: PW_RMON_i[63:48] VOUT, access RO, reset 0x0. Rail voltage from the monitor ADC, in mV -/
def F.PW_RMON_VOUT : Field := ⟨0xA0108, 48, 16, .ro, 0, .const, 0x10, 16⟩
/-- R293: PW_RMON_i[47:32] IOUT, access RO, reset 0x0. READ_IOUT in 0.1 A; 0 without PMBus -/
def F.PW_RMON_IOUT : Field := ⟨0xA0108, 32, 16, .ro, 0, .const, 0x10, 16⟩
/-- R293: PW_RMON_i[31:24] TEMP, access RO, reset 0x00. READ_TEMPERATURE_1 in °C, two's complement -/
def F.PW_RMON_TEMP : Field := ⟨0xA0108, 24, 8, .ro, 0, .const, 0x10, 16⟩
/-- R293: PW_RMON_i[23:16] STAT, access RO, reset 0x00. Low byte of the last STATUS_WORD -/
def F.PW_RMON_STAT : Field := ⟨0xA0108, 16, 8, .ro, 0, .const, 0x10, 16⟩
/-- R293: PW_RMON_i[1] FAULT, access RO, reset 0. A fault of R280 holds -/
def F.PW_RMON_FAULT : Field := ⟨0xA0108, 1, 1, .ro, 0, .const, 0x10, 16⟩
/-- R293: PW_RMON_i[0] PG, access RO, reset 0. RAIL_PG[i] -/
def F.PW_RMON_PG : Field := ⟨0xA0108, 0, 1, .ro, 0, .const, 0x10, 16⟩
/-- R308: CK_STS[63:61] STATE, access RO, reset 0b000. 0 LFO_ONLY, 1 BOSC_START, 2 BOSC, 3 REFCLK_FB, 4 LFO_FB -/
def F.CK_STS_STATE : Field := ⟨0xB0000, 61, 3, .ro, 0, .const, 0x0, 1⟩
/-- R308: CK_STS[60:58] TSRC, access RO, reset 0b000. 0 unknown, 1 holdover, 2 host, 3 PTM, 4 PTP -/
def F.CK_STS_TSRC : Field := ⟨0xB0000, 58, 3, .ro, 0, .const, 0x0, 1⟩
/-- R308: CK_STS[57] HOLDOVER, access RO, reset 1. R302 -/
def F.CK_STS_HOLDOVER : Field := ⟨0xB0000, 57, 1, .ro, 1, .const, 0x0, 1⟩
/-- R308: CK_STS[56] DEGRADED, access RO, reset 0. Clocks degraded (R98) -/
def F.CK_STS_DEGRADED : Field := ⟨0xB0000, 56, 1, .ro, 0, .const, 0x0, 1⟩
/-- R308: CK_STS[55] CLKFAULT, access RO, reset 0. Clock fault at bring-up (R296) -/
def F.CK_STS_CLKFAULT : Field := ⟨0xB0000, 55, 1, .ro, 0, .const, 0x0, 1⟩
/-- R308: CK_STS[54] REFOK, access RO, reset 0. REFCLK_P/N monitor passes -/
def F.CK_STS_REFOK : Field := ⟨0xB0000, 54, 1, .ro, 0, .const, 0x0, 1⟩
/-- R308: CK_STS[53] BOSCOK, access RO, reset 0. BOSC monitor passes -/
def F.CK_STS_BOSCOK : Field := ⟨0xB0000, 53, 1, .ro, 0, .const, 0x0, 1⟩
/-- R308: CK_STS[51:48] LOCK, access RO, reset 0x0. Locked: bit 48 core, 49 management, 50 memory, 51 flash -/
def F.CK_STS_LOCK : Field := ⟨0xB0000, 48, 4, .ro, 0, .const, 0x0, 1⟩
/-- R308: CK_STS[47:32] TRIPS, access RC, reset 0x0. Monitor trips; saturates at 0xFFFF -/
def F.CK_STS_TRIPS : Field := ⟨0xB0000, 32, 16, .rc, 0, .const, 0x0, 1⟩
/-- R308: CK_STS[31:16] EPOCH, access RO, reset NOR. Backward steps since manufacture -/
def F.CK_STS_EPOCH : Field := ⟨0xB0000, 16, 16, .ro, 0, .nor, 0x0, 1⟩
/-- R308: CK_CTL[63:62] TRIM, access RW, reset NOR. 0 auto, 1 native only, 2 compatibility only, 3 hold; factory value
0 -/
def F.CK_CTL_TRIM : Field := ⟨0xB0008, 62, 2, .rw, 0, .nor, 0x0, 1⟩
/-- R308: CK_CTL[61] PTPEN, access RW, reset NOR. 1 enables the PTP port; factory value 1 -/
def F.CK_CTL_PTPEN : Field := ⟨0xB0008, 61, 1, .rw, 1, .nor, 0x0, 1⟩
/-- R308: CK_CTL[60] PTMEN, access RW, reset NOR. 1 enables PTM discipline; factory value 0 -/
def F.CK_CTL_PTMEN : Field := ⟨0xB0008, 60, 1, .rw, 0, .nor, 0x0, 1⟩
/-- R308: CK_CTL[59:56] PTMHEAD, access RW, reset NOR. Head index used for PTM; factory value 0 -/
def F.CK_CTL_PTMHEAD : Field := ⟨0xB0008, 56, 4, .rw, 0, .nor, 0x0, 1⟩
/-- R308: CK_CTL[47:32] STEPTH, access RW, reset NOR. Step threshold in µs, 1 µs to 65,535 µs; 0 acts as 1; factory
value 1,000 (0x03E8) -/
def F.CK_CTL_STEPTH : Field := ⟨0xB0008, 32, 16, .rw, 1000, .nor, 0x0, 1⟩
/-- R308: CK_TRIM[63:48] BOSC, access RO, reset NOR. BOSC trim in force, in 0.1 ppm, two's complement -/
def F.CK_TRIM_BOSC : Field := ⟨0xB0010, 48, 16, .ro, Config.fuse (0x5800B0), .nor, 0x0, 1⟩
/-- R308: CK_TRIM[47:40] LFO, access RO, reset NOR. LFO trim in 0.1 %, two's complement -/
def F.CK_TRIM_LFO : Field := ⟨0xB0010, 40, 8, .ro, Config.fuse (0x5800A8), .nor, 0x0, 1⟩
/-- R308: CK_TRIM[39:38] SRC, access RO, reset 0b00. 0 factory, 1 native, 2 compatibility -/
def F.CK_TRIM_SRC : Field := ⟨0xB0010, 38, 2, .ro, 0, .const, 0x0, 1⟩
/-- R308: CK_TRIM[37] SPREAD, access RO, reset 0. REFCLK_P/N spreading seen (R298) -/
def F.CK_TRIM_SPREAD : Field := ⟨0xB0010, 37, 1, .ro, 0, .const, 0x0, 1⟩
/-- R308: CK_TRIM[36:16] AGE, access RO, reset 0x0. Minutes since the last trim; saturates at 0x1F_FFFF -/
def F.CK_TRIM_AGE : Field := ⟨0xB0010, 16, 21, .ro, 0, .const, 0x0, 1⟩
/-- R308: CK_AOSC[47:0] PERIOD, access RO, reset NOR. AOSC period in ns: bits 47:16 integer, 15:0 fraction; factory
value 30,517.578125 ns (0x7735_9400) -/
def F.CK_AOSC_PERIOD : Field := ⟨0xB0018, 0, 48, .ro, 2000000000, .nor, 0x0, 1⟩
/-- R308: CK_TIME[63:0] NS, access RO, reset 0x0. Counter in ns (R301); a read latches CK_TFRAC and CK_UNC -/
def F.CK_TIME_NS : Field := ⟨0xB0020, 0, 64, .ro, 0, .const, 0x0, 1⟩
/-- R308: CK_TFRAC[63:32] FRAC, access RO, reset 0x0. Fraction of a ns, latched with CK_TIME -/
def F.CK_TFRAC_FRAC : Field := ⟨0xB0028, 32, 32, .ro, 0, .const, 0x0, 1⟩
/-- R308: CK_UNC[63:60] CLASS, access RO, reset 0x0. Rate class of R302; 0 while PTP is LOCKED -/
def F.CK_UNC_CLASS : Field := ⟨0xB0030, 60, 4, .ro, 0, .const, 0x0, 1⟩
/-- R308: CK_UNC[47:0] UNC, access RO, reset 0xFFFF_FFFF_FFFF. Uncertainty in ns; all ones when unknown -/
def F.CK_UNC_UNC : Field := ⟨0xB0030, 0, 48, .ro, 281474976710655, .const, 0x0, 1⟩
/-- R308: CK_SET[63:0] UTCNS, access WO, reset 0x0. UTC ns since the Unix epoch; acts under R302 -/
def F.CK_SET_UTCNS : Field := ⟨0xB0038, 0, 64, .wo, 0, .const, 0x0, 1⟩
/-- R308: CK_PTP[63:56] DOMAIN, access RW, reset NOR. domainNumber; factory value 0 -/
def F.CK_PTP_DOMAIN : Field := ⟨0xB0040, 56, 8, .rw, 0, .nor, 0x0, 1⟩
/-- R308: CK_PTP[55:54] TRANS, access RW, reset NOR. 0 Ethernet, 1 UDP/IPv4, 2 UDP/IPv6; factory value 1 -/
def F.CK_PTP_TRANS : Field := ⟨0xB0040, 54, 2, .rw, 1, .nor, 0x0, 1⟩
/-- R308: CK_PTP[53] DELAY, access RW, reset NOR. 0 end-to-end, 1 peer-to-peer; factory value 0 -/
def F.CK_PTP_DELAY : Field := ⟨0xB0040, 53, 1, .rw, 0, .nor, 0x0, 1⟩
/-- R308: CK_PTP[52:50] PSTATE, access RO, reset 0b000. 0 disabled, 1 listening, 2 uncalibrated, 3 time receiver, 4
faulty -/
def F.CK_PTP_PSTATE : Field := ⟨0xB0040, 50, 3, .ro, 0, .const, 0x0, 1⟩
/-- R308: CK_PTP[47:32] UTCOFF, access RO, reset NOR. currentUtcOffset in s; factory value 37 (0x0025) -/
def F.CK_PTP_UTCOFF : Field := ⟨0xB0040, 32, 16, .ro, 37, .nor, 0x0, 1⟩
/-- R308: CK_SERVO[63:62] SSTATE, access RO, reset 0b00. 0 FREE, 1 ACQUIRE, 2 LOCKED -/
def F.CK_SERVO_SSTATE : Field := ⟨0xB0048, 62, 2, .ro, 0, .const, 0x0, 1⟩
/-- R308: CK_SERVO[61:32] FREQ, access RO, reset 0x0. Frequency correction in 0.001 ppm, two's complement -/
def F.CK_SERVO_FREQ : Field := ⟨0xB0048, 32, 30, .ro, 0, .const, 0x0, 1⟩
/-- R308: CK_SERVO[31:0] OFFSET, access RO, reset 0x0. Last offset in ns, two's complement; saturates -/
def F.CK_SERVO_OFFSET : Field := ⟨0xB0048, 0, 32, .ro, 0, .const, 0x0, 1⟩
/-- R308: CK_PPS[63] EN, access RW, reset NOR. 1 enables PPS_OUT; factory value 0 -/
def F.CK_PPS_EN : Field := ⟨0xB0050, 63, 1, .rw, 0, .nor, 0x0, 1⟩
/-- R308: CK_PPS[62] HOLD, access RW, reset NOR. 1 keeps pulses in holdover; factory value 0 -/
def F.CK_PPS_HOLD : Field := ⟨0xB0050, 62, 1, .rw, 0, .nor, 0x0, 1⟩
/-- R308: CK_PPS[47:32] WIDTH, access RW, reset NOR. Pulse width in ms, 1 ms to 999 ms; factory value 100 (0x0064) -/
def F.CK_PPS_WIDTH : Field := ⟨0xB0050, 32, 16, .rw, 100, .nor, 0x0, 1⟩
/-- R308: CK_PPS[31:0] COUNT, access RO, reset 0x0. Pulses since bring-up -/
def F.CK_PPS_COUNT : Field := ⟨0xB0050, 0, 32, .ro, 0, .const, 0x0, 1⟩
/-- R308: CK_CMON[63:60] SEL, access RW, reset 0x0. 0 off, 1 REFCLK_P/N, 2 BOSC, 3 LFO, 4 AOSC, 5 core PLL, 6
management PLL, 7 memory PLL, 8 flash PLL, 9 time tick -/
def F.CK_CMON_SEL : Field := ⟨0xB0058, 60, 4, .rw, 0, .const, 0x0, 1⟩
/-- R308: CK_CMON[16] ERR, access RO, reset 0. Output held low (R300) -/
def F.CK_CMON_ERR : Field := ⟨0xB0058, 16, 1, .ro, 0, .const, 0x0, 1⟩
/-- R308: CK_CMON[15:0] DIV, access RW, reset 0x0000. Divisor less one -/
def F.CK_CMON_DIV : Field := ⟨0xB0058, 0, 16, .rw, 0, .const, 0x0, 1⟩
/-- R308: CK_ALARM[63:0] AT, access RW, reset 0x0. Alarm time in counter ns -/
def F.CK_ALARM_AT : Field := ⟨0xB0060, 0, 64, .rw, 0, .const, 0x0, 1⟩
/-- R308: CK_ALCTL[63] ARM, access RW, reset 0. Alarm armed; clears when it fires -/
def F.CK_ALCTL_ARM : Field := ⟨0xB0068, 63, 1, .rw, 0, .const, 0x0, 1⟩
/-- R308: CK_ALCTL[62] FIRED, access W1C, reset 0. The alarm has fired -/
def F.CK_ALCTL_FIRED : Field := ⟨0xB0068, 62, 1, .w1c, 0, .const, 0x0, 1⟩
/-- R308: CK_ALCTL[47:32] DORMINT, access RW, reset NOR. DORMANT wake interval in h; 0 none; factory value 24 (0x0018)
-/
def F.CK_ALCTL_DORMINT : Field := ⟨0xB0068, 32, 16, .rw, 24, .nor, 0x0, 1⟩
/-- R308: CK_ALCTL[31:0] WAKES, access RO, reset 0x0. Alarm wakes since bring-up -/
def F.CK_ALCTL_WAKES : Field := ⟨0xB0068, 0, 32, .ro, 0, .const, 0x0, 1⟩
/-- R308: CK_SLEEP[63] VALID, access RO, reset 0. The last rest is known (R303) -/
def F.CK_SLEEP_VALID : Field := ⟨0xB0070, 63, 1, .ro, 0, .const, 0x0, 1⟩
/-- R308: CK_SLEEP[47:0] TICKS, access RO, reset 0x0. AOSC ticks of the last sleep -/
def F.CK_SLEEP_TICKS : Field := ⟨0xB0070, 0, 48, .ro, 0, .const, 0x0, 1⟩
/-- R327: TWB_SB[63:57] ADDR, access RO, reset 0x00. Target address in force (R311) -/
def F.TWB_SB_ADDR : Field := ⟨0xC0000, 57, 7, .ro, 0, .const, 0x0, 1⟩
/-- R327: TWB_SB[56] ASRC, access RWL, reset NOR. 0 straps, 1 NADDR; factory value 0 -/
def F.TWB_SB_ASRC : Field := ⟨0xC0000, 56, 1, .rwl, 0, .nor, 0x0, 1⟩
/-- R327: TWB_SB[55:49] NADDR, access RWL, reset NOR. Address used when ASRC is 1; factory value 0x60 -/
def F.TWB_SB_NADDR : Field := ⟨0xC0000, 49, 7, .rwl, 96, .nor, 0x0, 1⟩
/-- R327: TWB_SB[48] PECREQ, access RW, reset NOR. 1 requires PEC on register writes; factory value 1 -/
def F.TWB_SB_PECREQ : Field := ⟨0xC0000, 48, 1, .rw, 1, .nor, 0x0, 1⟩
/-- R327: TWB_SB[47] MCTPEN, access RWL, reset NOR. 1 enables MCTP; factory value 1 -/
def F.TWB_SB_MCTPEN : Field := ⟨0xC0000, 47, 1, .rwl, 1, .nor, 0x0, 1⟩
/-- R327: TWB_SB[39:32] EID, access RO, reset 0x00. MCTP endpoint ID; 0 until assigned -/
def F.TWB_SB_EID : Field := ⟨0xC0000, 32, 8, .ro, 0, .const, 0x0, 1⟩
/-- R327: TWB_SB[31:16] WRMASK, access RW, reset NOR. Bit b enables SB writes to the block at offset b × 0x1_0000,
except the TWB block; factory value 0x0000 -/
def F.TWB_SB_WRMASK : Field := ⟨0xC0000, 16, 16, .rw, 0, .nor, 0x0, 1⟩
/-- R327: TWB_SB[2:0] ALMASK, access RW, reset NOR. Alert causes: bit 0 phase, bit 1 readiness, bit 2 LED_ATTN;
factory value 0b111 -/
def F.TWB_SB_ALMASK : Field := ⟨0xC0000, 0, 3, .rw, 7, .nor, 0x0, 1⟩
/-- R327: TWB_SB_ERR[63:48] RSACK, access RC, reset 0x0. Repeated starts in an acknowledge slot (R323); saturates at
0xFFFF -/
def F.TWB_SB_ERR_RSACK : Field := ⟨0xC0008, 48, 16, .rc, 0, .const, 0x0, 1⟩
/-- R327: TWB_SB_ERR[47:32] TMO, access RC, reset 0x0. Target timeouts; saturates at 0xFFFF -/
def F.TWB_SB_ERR_TMO : Field := ⟨0xC0008, 32, 16, .rc, 0, .const, 0x0, 1⟩
/-- R327: TWB_SB_ERR[31:16] PECERR, access RC, reset 0x0. Transactions with PEC missing or wrong; saturates at 0xFFFF
-/
def F.TWB_SB_ERR_PECERR : Field := ⟨0xC0008, 16, 16, .rc, 0, .const, 0x0, 1⟩
/-- R327: TWB_SB_ERR[15:0] ARBL, access RC, reset 0x0. Arbitration losses while sending MCTP; saturates at 0xFFFF -/
def F.TWB_SB_ERR_ARBL : Field := ⟨0xC0008, 0, 16, .rc, 0, .const, 0x0, 1⟩
/-- R327: TWB_LB[63] MULTI, access RWL, reset NOR. 1 when segment 0 is shared with another controller (R321); factory
value 0 -/
def F.TWB_LB_MULTI : Field := ⟨0xC0010, 63, 1, .rwl, 0, .nor, 0x0, 1⟩
/-- R327: TWB_LB[62:60] RETRY, access RW, reset NOR. Address retries on LB, EBA and EBB, 0 to 7; factory value 3 -/
def F.TWB_LB_RETRY : Field := ⟨0xC0010, 60, 3, .rw, 3, .nor, 0x0, 1⟩
/-- R327: TWB_LB_ERR[63:48] ARBL, access RC, reset 0x0. Arbitration losses; saturates at 0xFFFF -/
def F.TWB_LB_ERR_ARBL : Field := ⟨0xC0018, 48, 16, .rc, 0, .const, 0x0, 1⟩
/-- R327: TWB_LB_ERR[47:32] ARBSR, access RC, reset 0x0. ARB_SR errors; saturates at 0xFFFF -/
def F.TWB_LB_ERR_ARBSR : Field := ⟨0xC0018, 32, 16, .rc, 0, .const, 0x0, 1⟩
/-- R327: TWB_LB_ERR[31:16] TMO, access RC, reset 0x0. Controller timeouts; saturates at 0xFFFF -/
def F.TWB_LB_ERR_TMO : Field := ⟨0xC0018, 16, 16, .rc, 0, .const, 0x0, 1⟩
/-- R327: TWB_LB_ERR[15:0] NACK, access RC, reset 0x0. Transactions failed for NACK; saturates at 0xFFFF -/
def F.TWB_LB_ERR_NACK : Field := ⟨0xC0018, 0, 16, .rc, 0, .const, 0x0, 1⟩
/-- R327: TWB_EB[63] PECB, access RO, reset 0. PEC in use on EBB (R246) -/
def F.TWB_EB_PECB : Field := ⟨0xC0020, 63, 1, .ro, 0, .const, 0x0, 1⟩
/-- R327: TWB_EB[62] PECA, access RO, reset 0. PEC in use on EBA -/
def F.TWB_EB_PECA : Field := ⟨0xC0020, 62, 1, .ro, 0, .const, 0x0, 1⟩
/-- R327: TWB_EB[47:32] ALERTS, access RC, reset 0x0. AlarmWarning messages discarded, both interfaces; saturates at
0xFFFF -/
def F.TWB_EB_ALERTS : Field := ⟨0xC0020, 32, 16, .rc, 0, .const, 0x0, 1⟩
/-- R327: TWB_EB[31:16] TMO, access RC, reset 0x0. Controller timeouts, both interfaces; saturates at 0xFFFF -/
def F.TWB_EB_TMO : Field := ⟨0xC0020, 16, 16, .rc, 0, .const, 0x0, 1⟩
/-- R327: TWB_EB[15:0] NACK, access RC, reset 0x0. Transactions failed for NACK, both interfaces; saturates at 0xFFFF
-/
def F.TWB_EB_NACK : Field := ⟨0xC0020, 0, 16, .rc, 0, .const, 0x0, 1⟩
/-- R327: TWB_STS[63:48] RECOV, access RC, reset 0x0. Recoveries under R324; saturates at 0xFFFF -/
def F.TWB_STS_RECOV : Field := ⟨0xC0028, 48, 16, .rc, 0, .const, 0x0, 1⟩
/-- R327: TWB_STS[13:0] STATE, access RO, reset 0x0. Bits 2i+1:2i give interface i, numbered as in R326: 0 IDLE, 1
BUSY, 2 RECOVERING, 3 FAULT -/
def F.TWB_STS_STATE : Field := ⟨0xC0028, 0, 14, .ro, 0, .const, 0x0, 1⟩
/-- R348: FW_ID[63:56] TRAIN, access RO, reset 0x00. Train of the running MP image -/
def F.FW_ID_TRAIN : Field := ⟨0xD0000, 56, 8, .ro, 0, .const, 0x0, 1⟩
/-- R348: FW_ID[55:48] MINOR, access RO, reset 0x00. Minor version -/
def F.FW_ID_MINOR : Field := ⟨0xD0000, 48, 8, .ro, 0, .const, 0x0, 1⟩
/-- R348: FW_ID[47:32] BUILD, access RO, reset 0x0. Build -/
def F.FW_ID_BUILD : Field := ⟨0xD0000, 32, 16, .ro, 0, .const, 0x0, 1⟩
/-- R348: FW_ID[31:16] ROMVER, access RO, reset fuse. Burryn ROM version -/
def F.FW_ID_ROMVER : Field := ⟨0xD0000, 16, 16, .ro, Config.fuse (0x680010), .fuse, 0x0, 1⟩
/-- R348: FW_ID[15:0] SVN, access RO, reset 0x0. SVN of the running image -/
def F.FW_ID_SVN : Field := ⟨0xD0000, 0, 16, .ro, 0, .const, 0x0, 1⟩
/-- R348: FW_BOOT[63] ACTIVE, access RO, reset 0. Block running: 0 A, 1 B -/
def F.FW_BOOT_ACTIVE : Field := ⟨0xD0008, 63, 1, .ro, 0, .const, 0x0, 1⟩
/-- R348: FW_BOOT[62] TRIAL, access RO, reset 0. Block on trial (R337) -/
def F.FW_BOOT_TRIAL : Field := ⟨0xD0008, 62, 1, .ro, 0, .const, 0x0, 1⟩
/-- R348: FW_BOOT[61:60] ATTEMPTS, access RO, reset 0b00. From the swap record -/
def F.FW_BOOT_ATTEMPTS : Field := ⟨0xD0008, 60, 2, .ro, 0, .const, 0x0, 1⟩
/-- R348: FW_BOOT[59:56] CAUSE, access RO, reset 0x0. Last change of block: 0 none, 1 activation, 2 reversion, 3
verification failure, 4 recovery -/
def F.FW_BOOT_CAUSE : Field := ⟨0xD0008, 56, 4, .ro, 0, .const, 0x0, 1⟩
/-- R348: FW_BOOT[55] AVALID, access RO, reset 0. Block A verifies -/
def F.FW_BOOT_AVALID : Field := ⟨0xD0008, 55, 1, .ro, 0, .const, 0x0, 1⟩
/-- R348: FW_BOOT[54] BVALID, access RO, reset 0. Block B verifies -/
def F.FW_BOOT_BVALID : Field := ⟨0xD0008, 54, 1, .ro, 0, .const, 0x0, 1⟩
/-- R348: FW_BOOT[31:0] SWAPSEQ, access RO, reset 0x0. SEQ of the newest valid swap record -/
def F.FW_BOOT_SWAPSEQ : Field := ⟨0xD0008, 0, 32, .ro, 0, .const, 0x0, 1⟩
/-- R348: FW_CTL[63:48] CONFIRM, access RW, reset NOR. Trial confirmation time in s, 10 s to 3,600 s; factory value 60
(0x003C) -/
def F.FW_CTL_CONFIRM : Field := ⟨0xD0010, 48, 16, .rw, 60, .nor, 0x0, 1⟩
/-- R348: FW_CTL[47] RECREQ, access W1S, reset 0. Recovery at the next bring-up (R343); held in PD_AON retention -/
def F.FW_CTL_RECREQ : Field := ⟨0xD0010, 47, 1, .w1s, 0, .const, 0x0, 1⟩
/-- R348: FW_PROC[27:0] STATE, access RO, reset 0x0. Bits 4p+3:4p for processor p, with 0 MP and 1 to 6 for SP0–SP5: 0
stopped, 1 loading, 2 running, 3 reloading or restarting -/
def F.FW_PROC_STATE : Field := ⟨0xD0018, 0, 28, .ro, 0, .const, 0x0, 1⟩
/-- R348: FW_RLD[63:48] LSMIS, access RC, reset 0x0. SP1 lockstep mismatches; saturates at 0xFFFF -/
def F.FW_RLD_LSMIS : Field := ⟨0xD0020, 48, 16, .rc, 0, .const, 0x0, 1⟩
/-- R348: FW_RLD[47:32] MPRST, access RC, reset 0x0. MP restarts; saturates at 0xFFFF -/
def F.FW_RLD_MPRST : Field := ⟨0xD0020, 32, 16, .rc, 0, .const, 0x0, 1⟩
/-- R348: FW_RLD[31:0] SPRLD, access RC, reset 0x0. SP reloads, all SPs; saturates at 0xFFFF_FFFF -/
def F.FW_RLD_SPRLD : Field := ⟨0xD0020, 0, 32, .rc, 0, .const, 0x0, 1⟩
/-- R348: FW_STG[63:61] STATE, access RO, reset 0b000. 0 idle, 1 staging, 2 staged, 3 activating, 4 trial, 5 reverting
-/
def F.FW_STG_STATE : Field := ⟨0xD0028, 61, 3, .ro, 0, .const, 0x0, 1⟩
/-- R348: FW_STG[60] ONLINE, access RO, reset 0. Activation is online -/
def F.FW_STG_ONLINE : Field := ⟨0xD0028, 60, 1, .ro, 0, .const, 0x0, 1⟩
/-- R348: FW_STG[59:56] VERR, access RO, reset 0x0. 0 none, 1 header, 2 digest, 3 ECDSA, 4 LMS, 5 SVN, 6 layout -/
def F.FW_STG_VERR : Field := ⟨0xD0028, 56, 4, .ro, 0, .const, 0x0, 1⟩
/-- R348: FW_STG[31:0] BYTES, access RO, reset 0x0. Bytes staged -/
def F.FW_STG_BYTES : Field := ⟨0xD0028, 0, 32, .ro, 0, .const, 0x0, 1⟩
/-- R348: FW_NOR[63:61] STATE, access RO, reset 0b000. 0 IDLE, 1 PROGRAM, 2 ERASE, 3 PROGRAM_SUSPENDED, 4
ERASE_SUSPENDED, 5 NESTED_PROGRAM (R334) -/
def F.FW_NOR_STATE : Field := ⟨0xD0030, 61, 3, .ro, 0, .const, 0x0, 1⟩
/-- R348: FW_NOR[47:32] BUSFLT, access RC, reset 0x0. Busy reads faulted; saturates at 0xFFFF -/
def F.FW_NOR_BUSFLT : Field := ⟨0xD0030, 32, 16, .rc, 0, .const, 0x0, 1⟩
/-- R348: FW_NOR[31:16] XFLT, access RC, reset 0x0. Execute faults (R329); saturates at 0xFFFF -/
def F.FW_NOR_XFLT : Field := ⟨0xD0030, 16, 16, .rc, 0, .const, 0x0, 1⟩
/-- R348: FW_NOR[15:0] WPFLT, access RC, reset 0x0. Writes refused by protection; saturates at 0xFFFF -/
def F.FW_NOR_WPFLT : Field := ⟨0xD0030, 0, 16, .rc, 0, .const, 0x0, 1⟩
/-- R348: FW_WP[6:0] AREA, access RO, reset 0x7F. 1 while protected: bit 0 block A, 1 block B, 2 swap records, 3
parameter sectors, 4 event area, 5 snapshot store, 6 reserved area -/
def F.FW_WP_AREA : Field := ⟨0xD0038, 0, 7, .ro, 127, .const, 0x0, 1⟩
/-- R348: FW_REC[63:60] CAUSE, access RO, reset 0x0. 0 none; 1 to 7 in the order of R343 -/
def F.FW_REC_CAUSE : Field := ⟨0xD0040, 60, 4, .ro, 0, .const, 0x0, 1⟩
/-- R348: FW_REC[59:58] XPORT, access RO, reset 0b00. 0 none, 1 mailbox, 2 SB, 3 TFTP -/
def F.FW_REC_XPORT : Field := ⟨0xD0040, 58, 2, .ro, 0, .const, 0x0, 1⟩
/-- R348: FW_REC[57:50] PROG, access RO, reset 0x00. Transfer progress in percent -/
def F.FW_REC_PROG : Field := ⟨0xD0040, 50, 8, .ro, 0, .const, 0x0, 1⟩
/-- R348: FW_REC[31:0] BYTES, access RO, reset 0x0. Bytes received -/
def F.FW_REC_BYTES : Field := ⟨0xD0040, 0, 32, .ro, 0, .const, 0x0, 1⟩
/-- R367: SEC_STS[63] PUFOK, access RO, reset 0. DRK reconstructed (R349) -/
def F.SEC_STS_PUFOK : Field := ⟨0xE0000, 63, 1, .ro, 0, .const, 0x0, 1⟩
/-- R367: SEC_STS[62] DRBGOK, access RO, reset 0. DRBG running (R358) -/
def F.SEC_STS_DRBGOK : Field := ⟨0xE0000, 62, 1, .ro, 0, .const, 0x0, 1⟩
/-- R367: SEC_STS[61] OWNED, access RO, reset NOR. An owner is enrolled -/
def F.SEC_STS_OWNED : Field := ⟨0xE0000, 61, 1, .ro, 0, .nor, 0x0, 1⟩
/-- R367: SEC_STS[60] DEBUG, access RO, reset 0. Debug unlocked (R363) -/
def F.SEC_STS_DEBUG : Field := ⟨0xE0000, 60, 1, .ro, 0, .const, 0x0, 1⟩
/-- R367: SEC_STS[59] DISCPEND, access RO, reset 0. Discard pending (R362) -/
def F.SEC_STS_DISCPEND : Field := ⟨0xE0000, 59, 1, .ro, 0, .const, 0x0, 1⟩
/-- R367: SEC_STS[58] LOCKOUT, access RO, reset 0. Key-share lockout in force until the next bring-up (R355) -/
def F.SEC_STS_LOCKOUT : Field := ⟨0xE0000, 58, 1, .ro, 0, .const, 0x0, 1⟩
/-- R367: SEC_STS[47:32] AUTHFAIL, access RC, reset 0x0. Rejected tokens; saturates at 0xFFFF -/
def F.SEC_STS_AUTHFAIL : Field := ⟨0xE0000, 32, 16, .rc, 0, .const, 0x0, 1⟩
/-- R367: SEC_STS[31:16] UNSEALFAIL, access RC, reset 0x0. Failed key-share checks; saturates at 0xFFFF -/
def F.SEC_STS_UNSEALFAIL : Field := ⟨0xE0000, 16, 16, .rc, 0, .const, 0x0, 1⟩
/-- R367: SEC_STS[15:0] SVNMIN, access RO, reset fuse. Minimum SVN -/
def F.SEC_STS_SVNMIN : Field := ⟨0xE0000, 0, 16, .ro, Config.fuse (0x700000), .fuse, 0x0, 1⟩
/-- R367: SEC_CTL[63:60] SEALSLOT, access RW, reset 0x0. Slot used by an owner SEAL; read once, when the SEAL is
accepted (R354) -/
def F.SEC_CTL_SEALSLOT : Field := ⟨0xE0008, 60, 4, .rw, 0, .const, 0x0, 1⟩
/-- R367: SEC_SLOT[31:16] MATCHED, access RO, reset 0x0. Bit 16+k set while slot k yields the CHECK of an owner-sealed
share -/
def F.SEC_SLOT_MATCHED : Field := ⟨0xE0010, 16, 16, .ro, 0, .const, 0x0, 1⟩
/-- R367: SEC_SLOT[15:0] LOADED, access RO, reset 0x0. Bit k set while slot k holds a key share -/
def F.SEC_SLOT_LOADED : Field := ⟨0xE0010, 0, 16, .ro, 0, .const, 0x0, 1⟩
/-- R367: SEC_AUTH[63] GO, access WO, reset 0. Writing 1 checks the token in SEC_TOKEN_0 to SEC_TOKEN_19 -/
def F.SEC_AUTH_GO : Field := ⟨0xE0018, 63, 1, .wo, 0, .const, 0x0, 1⟩
/-- R367: SEC_AUTH[62:59] RESULT, access RO, reset 0x0. 0 none, 1 accepted, 2 signature, 3 nonce, 4 serial, 5 format,
6 phase, 7 locked out -/
def F.SEC_AUTH_RESULT : Field := ⟨0xE0018, 59, 4, .ro, 0, .const, 0x0, 1⟩
/-- R367: SEC_AUTH[7:0] LASTOP, access RO, reset 0x00. OP of the last token checked -/
def F.SEC_AUTH_LASTOP : Field := ⟨0xE0018, 0, 8, .ro, 0, .const, 0x0, 1⟩
/-- R367: SEC_OWNER[63:0] KEYID, access RO, reset NOR. Bits 63:0 of the SHA-384 of the owner key; 0 when none -/
def F.SEC_OWNER_KEYID : Field := ⟨0xE0020, 0, 64, .ro, 0, .nor, 0x0, 1⟩
/-- R367: SEC_NONCE_w[63:0] NONCE, access RO, reset 0x0. Nonce bits 64w+63:64w; a read of SEC_NONCE_0 issues a new
nonce (R361) -/
def F.SEC_NONCE_NONCE : Field := ⟨0xE0040, 0, 64, .ro, 0, .const, 0x8, 4⟩
/-- R367: SEC_TOKEN_w[63:0] WORD, access WO, reset 0x0. Token word w (R360) -/
def F.SEC_TOKEN_WORD : Field := ⟨0xE0100, 0, 64, .wo, 0, .const, 0x8, 20⟩
/-- R382: EV_STS[63] AVAIL, access RO, reset 0. Window served (R377) -/
def F.EV_STS_AVAIL : Field := ⟨0xF0000, 63, 1, .ro, 0, .const, 0x0, 1⟩
/-- R382: EV_STS[62] CLOSED, access RO, reset 0. The previous session ended in CLOSE -/
def F.EV_STS_CLOSED : Field := ⟨0xF0000, 62, 1, .ro, 0, .const, 0x0, 1⟩
/-- R382: EV_STS[47:32] CLEARS, access RO, reset NOR. Clears since manufacture -/
def F.EV_STS_CLEARS : Field := ⟨0xF0000, 32, 16, .ro, 0, .nor, 0x0, 1⟩
/-- R382: EV_STS[31:16] PEND, access RO, reset 0x0. Occurrences queued in the on-die buffer -/
def F.EV_STS_PEND : Field := ⟨0xF0000, 16, 16, .ro, 0, .const, 0x0, 1⟩
/-- R382: EV_STS[15:0] CODES, access RO, reset 0x0. Codes with a summary -/
def F.EV_STS_CODES : Field := ⟨0xF0000, 0, 16, .ro, 0, .const, 0x0, 1⟩
/-- R382: EV_CFG[63:56] BURST, access RW, reset NOR. Per-code bucket depth, 1 to 255; factory value 16 (0x10) -/
def F.EV_CFG_BURST : Field := ⟨0xF0008, 56, 8, .rw, 16, .nor, 0x0, 1⟩
/-- R382: EV_CFG[55:48] RATE, access RW, reset NOR. Per-code refill in entries per s, 1 to 8, larger values acting as
8; factory value 1 -/
def F.EV_CFG_RATE : Field := ⟨0xF0008, 48, 8, .rw, 1, .nor, 0x0, 1⟩
/-- R382: EV_CFG[47:32] CKPT, access RW, reset NOR. Checkpoint interval in min, 10 min to 1,440 min; factory value 60
(0x003C) -/
def F.EV_CFG_CKPT : Field := ⟨0xF0008, 32, 16, .rw, 60, .nor, 0x0, 1⟩
/-- R382: EV_SEL[63] ITER, access RW, reset 0. Reads of EV_S_0 advance CODE (R377) -/
def F.EV_SEL_ITER : Field := ⟨0xF0010, 63, 1, .rw, 0, .const, 0x0, 1⟩
/-- R382: EV_SEL[15:0] CODE, access RW, reset 0x0000. Code whose summary is latched -/
def F.EV_SEL_CODE : Field := ⟨0xF0010, 0, 16, .rw, 0, .const, 0x0, 1⟩
/-- R382: EV_LSEL[31:0] SEQ, access RW, reset 0x0. Entry to fetch; a write starts the fetch -/
def F.EV_LSEL_SEQ : Field := ⟨0xF0018, 0, 32, .rw, 0, .const, 0x0, 1⟩
/-- R382: EV_LSTS[63:62] STATUS, access RO, reset 0b00. 0 fetching, 1 ready, 2 GONE, 3 skipped slot -/
def F.EV_LSTS_STATUS : Field := ⟨0xF0020, 62, 2, .ro, 0, .const, 0x0, 1⟩
/-- R382: EV_RANGE[63:32] NEWEST, access RO, reset 0x0. SEQ of the newest valid entry -/
def F.EV_RANGE_NEWEST : Field := ⟨0xF0028, 32, 32, .ro, 0, .const, 0x0, 1⟩
/-- R382: EV_RANGE[31:0] OLDEST, access RO, reset 0x0. SEQ of the oldest readable entry -/
def F.EV_RANGE_OLDEST : Field := ⟨0xF0028, 0, 32, .ro, 0, .const, 0x0, 1⟩
/-- R382: EV_S_w[63:0] WORD, access RO, reset 0x0. Word w of the latched summary (R371); a read of EV_S_0 latches -/
def F.EV_S_WORD : Field := ⟨0xF0100, 0, 64, .ro, 0, .const, 0x8, 32⟩
/-- R382: EV_L_w[63:0] WORD, access RO, reset 0x0. Word w of the fetched entry (R372) -/
def F.EV_L_WORD : Field := ⟨0xF0200, 0, 64, .ro, 0, .const, 0x8, 8⟩
/-- R399: GEN_ID[63:48] PART, access RO, reset 0x9416. Part number -/
def F.GEN_ID_PART : Field := ⟨0x0, 48, 16, .ro, 37910, .const, 0x0, 1⟩
/-- R399: GEN_ID[47:40] STEP, access RO, reset 0xA1. Silicon step -/
def F.GEN_ID_STEP : Field := ⟨0x0, 40, 8, .ro, 161, .const, 0x0, 1⟩
/-- R399: GEN_ID[39:32] GRADE, access RO, reset fuse. 0x00 CR9416-A1-C, 0x01 CR9416-A1-I -/
def F.GEN_ID_GRADE : Field := ⟨0x0, 32, 8, .ro, Config.fuse (0x20), .fuse, 0x0, 1⟩
/-- R399: GEN_SERIAL[63:0] SERIAL, access RO, reset fuse. 64-bit device serial (R196, R360) -/
def F.GEN_SERIAL_SERIAL : Field := ⟨0x8, 0, 64, .ro, Config.fuse (0x40), .fuse, 0x0, 1⟩
/-- R399: GEN_PHASE[63:61] PHASE, access RO, reset 0b001. Phase code (R17) -/
def F.GEN_PHASE_PHASE : Field := ⟨0x10, 61, 3, .ro, 1, .const, 0x0, 1⟩
/-- R399: GEN_PHASE[60:58] PREV, access RO, reset 0b000. Previous phase -/
def F.GEN_PHASE_PREV : Field := ⟨0x10, 58, 3, .ro, 0, .const, 0x0, 1⟩
/-- R399: GEN_PHASE[57:52] CAUSE, access RO, reset 0x00. 0x01 power-up from OFF, 0x02 WAKE_N, 0x03 alarm, 0x04 service
input, 0x05 power-loss trigger, 0x06 latch, 0x07 device reset, 0x08 manifest closed, 0x09 forced abort, 0x0A Linger
timer, 0x0B Linger limit, 0x0C Save result 2 or 3, 0x0D bring-up done, 0x0E restore complete, 0x0F recovery cause,
0x10 recovery ended -/
def F.GEN_PHASE_CAUSE : Field := ⟨0x10, 52, 6, .ro, 0, .const, 0x0, 1⟩
/-- R399: GEN_PHASE[47:0] SINCE, access RO, reset 0x0. Low 48 bits of the time counter at entry -/
def F.GEN_PHASE_SINCE : Field := ⟨0x10, 0, 48, .ro, 0, .const, 0x0, 1⟩
/-- R399: GEN_READY[63:0] BITS, access RO, reset 0x0. Readiness vector (R387) -/
def F.GEN_READY_BITS : Field := ⟨0x18, 0, 64, .ro, 0, .const, 0x0, 1⟩
/-- R399: GEN_RCHG[63:0] FLAGS, access W1C, reset 0x0. Bit n set when GEN_READY bit n changes -/
def F.GEN_RCHG_FLAGS : Field := ⟨0x20, 0, 64, .w1c, 0, .const, 0x0, 1⟩
/-- R399: GEN_ADMIT[63] ADMITTED, access RO, reset 0. Persistence admitted (R389) -/
def F.GEN_ADMIT_ADMITTED : Field := ⟨0x28, 63, 1, .ro, 0, .const, 0x0, 1⟩
/-- R399: GEN_ADMIT[62] FIRST, access RO, reset 0. First admission under a new IMAGE_ID in progress -/
def F.GEN_ADMIT_FIRST : Field := ⟨0x28, 62, 1, .ro, 0, .const, 0x0, 1⟩
/-- R399: GEN_ADMIT[8:0] BLOCK, access RO, reset 0x1FF. Bit set while its condition of R388 is unmet -/
def F.GEN_ADMIT_BLOCK : Field := ⟨0x28, 0, 9, .ro, 511, .const, 0x0, 1⟩
/-- R399: GEN_LOCK[15:0] BLOCKS, access RO, reset 0x0. Bit b set once every RWL field of the block at b × 0x1_0000
that locks at bring-up or admission has locked; per-share and per-queue locks show in SHR and QUE -/
def F.GEN_LOCK_BLOCKS : Field := ⟨0x30, 0, 16, .ro, 0, .const, 0x0, 1⟩
/-- R399: GEN_RST[63:56] KEY, access WO, reset 0x00. Must be 0xA5 for DEVRST to act -/
def F.GEN_RST_KEY : Field := ⟨0x38, 56, 8, .wo, 0, .const, 0x0, 1⟩
/-- R399: GEN_RST[0] DEVRST, access WO, reset 0. 1 requests a software reset (R384) -/
def F.GEN_RST_DEVRST : Field := ⟨0x38, 0, 1, .wo, 0, .const, 0x0, 1⟩
/-- R399: GEN_CFG[63:48] RMTO, access RW, reset NOR. Removal hold timeout in s, 10 s to 3,600 s; factory value 300
(0x012C) -/
def F.GEN_CFG_RMTO : Field := ⟨0x40, 48, 16, .rw, 300, .nor, 0x0, 1⟩
/-- R399: GEN_CFG[47] NETRST, access RWL, reset NOR. 1 accepts the reset datagram; factory value 0 -/
def F.GEN_CFG_NETRST : Field := ⟨0x40, 47, 1, .rwl, 0, .nor, 0x0, 1⟩
/-- R399: GEN_CFG[46:40] TOUCHTH, access RW, reset NOR. Touch threshold in percent of baseline, 5 to 100; factory
value 20 (0x14) -/
def F.GEN_CFG_TOUCHTH : Field := ⟨0x40, 40, 7, .rw, 20, .nor, 0x0, 1⟩
/-- R399: GEN_PANEL[63:62] RMV, access RW, reset 0b00. 0 NONE, 1 DRAINING, 2 SAFE; writing 1 requests removal, writing
0 cancels -/
def F.GEN_PANEL_RMV : Field := ⟨0x48, 62, 2, .rw, 0, .const, 0x0, 1⟩
/-- R399: GEN_PANEL[61] LOCATE, access RW, reset 0. Locate in force -/
def F.GEN_PANEL_LOCATE : Field := ⟨0x48, 61, 1, .rw, 0, .const, 0x0, 1⟩
/-- R399: GEN_PANEL[60:58] STAT, access RO, reset 0b000. LED_STAT pattern: 0 off, 1 on, 2 1 Hz, 3 4 Hz, 4 flash, 5
wink, 6 double flash, 7 alternate -/
def F.GEN_PANEL_STAT : Field := ⟨0x48, 58, 3, .ro, 0, .const, 0x0, 1⟩
/-- R399: GEN_PANEL[57:55] ATTN, access RO, reset 0b000. LED_ATTN pattern, coded as STAT -/
def F.GEN_PANEL_ATTN : Field := ⟨0x48, 55, 3, .ro, 0, .const, 0x0, 1⟩
/-- R399: GEN_PANEL[54:52] SAFE, access RO, reset 0b000. LED_SAFE pattern, coded as STAT -/
def F.GEN_PANEL_SAFE : Field := ⟨0x48, 52, 3, .ro, 0, .const, 0x0, 1⟩
/-- R399: GEN_PANEL[47:32] PRESSES, access RC, reset 0x0. Button presses; saturates at 0xFFFF -/
def F.GEN_PANEL_PRESSES : Field := ⟨0x48, 32, 16, .rc, 0, .const, 0x0, 1⟩
/-- R399: GEN_PANEL[31:16] TOUCHES, access RC, reset 0x0. Touches; saturates at 0xFFFF -/
def F.GEN_PANEL_TOUCHES : Field := ⟨0x48, 16, 16, .rc, 0, .const, 0x0, 1⟩
/-- R399: GEN_ATTN[63:48] CAUSE, access RO, reset 0x0. Causes present, numbered as in R392 -/
def F.GEN_ATTN_CAUSE : Field := ⟨0x50, 48, 16, .ro, 0, .const, 0x0, 1⟩
/-- R399: GEN_ATTN[47:32] NEW, access W1C, reset 0x0. Causes not yet acknowledged -/
def F.GEN_ATTN_NEW : Field := ⟨0x50, 32, 16, .w1c, 0, .const, 0x0, 1⟩
/-- R399: GEN_ATTN[31:16] SIL, access W1S, reset 0x0. Causes silenced; a bit clears when its cause clears -/
def F.GEN_ATTN_SIL : Field := ⟨0x50, 16, 16, .w1s, 0, .const, 0x0, 1⟩
/-- R399: GEN_PINS[31:16] PERST, access RO, reset 0x0. Debounced level of HP_PERST_N[15:0] -/
def F.GEN_PINS_PERST : Field := ⟨0x58, 16, 16, .ro, 0, .const, 0x0, 1⟩
/-- R399: GEN_PINS[7] RESET, access RO, reset 0. RESET_N level -/
def F.GEN_PINS_RESET : Field := ⟨0x58, 7, 1, .ro, 0, .const, 0x0, 1⟩
/-- R399: GEN_PINS[6] WAKE, access RO, reset 0. WAKE_N level -/
def F.GEN_PINS_WAKE : Field := ⟨0x58, 6, 1, .ro, 0, .const, 0x0, 1⟩
/-- R399: GEN_PINS[5] FREC, access RO, reset 0. FORCE_REC_N level at PD_MGT power-up -/
def F.GEN_PINS_FREC : Field := ⟨0x58, 5, 1, .ro, 0, .const, 0x0, 1⟩
/-- R399: GEN_PINS[4] PRSNT, access RO, reset 0. PRSNT_N level -/
def F.GEN_PINS_PRSNT : Field := ⟨0x58, 4, 1, .ro, 0, .const, 0x0, 1⟩
/-- R399: GEN_PINS[3] LATCH, access RO, reset 0. LATCH_N level -/
def F.GEN_PINS_LATCH : Field := ⟨0x58, 3, 1, .ro, 0, .const, 0x0, 1⟩
/-- R399: GEN_PINS[2] PACKA, access RO, reset 0. PACKA_PRSNT_N level -/
def F.GEN_PINS_PACKA : Field := ⟨0x58, 2, 1, .ro, 0, .const, 0x0, 1⟩
/-- R399: GEN_PINS[1] PACKB, access RO, reset 0. PACKB_PRSNT_N level -/
def F.GEN_PINS_PACKB : Field := ⟨0x58, 1, 1, .ro, 0, .const, 0x0, 1⟩
/-- R399: GEN_PINS[0] BTN, access RO, reset 0. SVC_BTN_N level -/
def F.GEN_PINS_BTN : Field := ⟨0x58, 0, 1, .ro, 0, .const, 0x0, 1⟩

/-- The fields of the SHR block. -/
def fieldsSHR : List Field :=
  [F.SHR_READY_BITS, F.SHR_DEFINED_BITS, F.SHR_COUNTED_BITS, F.SHR_CAP_FREE, F.SHR_CAP_VISIBLE, F.SHR_CHG_FLAGS,
   F.SHR_BASE_ADDR, F.SHR_SIZE_ADDR, F.SHR_CFG_EN, F.SHR_CFG_WT_CAP, F.SHR_CFG_RPRI, F.SHR_CFG_HOT, F.SHR_CFG_MODE,
   F.SHR_HEADS_GRANT, F.SHR_STATUS_REFUSE, F.SHR_STATUS_PROG, F.SHR_STATUS_TARGET, F.SHR_STATUS_STATE, F.SHR_STATUS_MODE,
   F.SHR_DIRTY_UNITS, F.SHR_VIOL_RD, F.SHR_VIOL_WR, F.SHR_EPOCH_EPOCH]

/-- The fields of the HP block. -/
def fieldsHP : List Field :=
  [F.HP_SELF_INDEX, F.HP_PORT_CFG_EN, F.HP_PORT_CFG_BIF, F.HP_PORT_CFG_MAXRATE, F.HP_PRESENT_UP, F.HP_PRESENT_EN,
   F.HP_CHG_FLAGS, F.HP_LINK_VIRAL, F.HP_LINK_IDEFAIL, F.HP_LINK_IDE, F.HP_LINK_FLIT256, F.HP_LINK_WIDTH,
   F.HP_LINK_RATE, F.HP_LINK_STATE, F.HP_CTL_RETRAIN, F.HP_CTL_DOWN_TO, F.HP_CRED_ADV, F.HP_CRED_WHELD,
   F.HP_CRED_OCC, F.HP_LAT_MAXRD, F.HP_LAT_IDLE, F.HP_LERR_DOWN, F.HP_LERR_RECOV, F.HP_LERR_REPLAY, F.HP_POIS_RXPOIS,
   F.HP_POIS_TXPOIS, F.HP_GPF_PH2, F.HP_GPF_PH1, F.HP_SHUT_DSC, F.HP_SHUT_DIRTY]

/-- The fields of the QUE block. -/
def fieldsQUE : List Field :=
  [F.QUE_TKT_PEAK, F.QUE_TKT_OPEN, F.QUE_TKT_CACHED, F.QUE_SEL_QID, F.QUE_ASQB_ADDR, F.QUE_ACQB_ADDR, F.QUE_ACTL_EN,
   F.QUE_ACTL_AGGT, F.QUE_ACTL_AGGC, F.QUE_ACTL_IEN, F.QUE_ACTL_VEC, F.QUE_ACTL_DEPTHM1, F.QUE_ERRC_FOREIGN,
   F.QUE_ERRC_STALE, F.QUE_RPT_LOSS, F.QUE_RPT_TRUNC, F.QUE_RPT_OVF, F.QUE_RPT_SOURCE, F.QUE_RPT_LOSSN,
   F.QUE_ALLOC_COUNT, F.QUE_ALLOC_FIRST, F.QUE_Q_CFG_HEAD, F.QUE_Q_CFG_LDPOL, F.QUE_Q_CFG_IEN, F.QUE_Q_CFG_VEC,
   F.QUE_Q_CFG_AGGT, F.QUE_Q_CFG_AGGC, F.QUE_Q_CFG_DEPTHM1, F.QUE_Q_STS_STATE, F.QUE_Q_STS_ERR, F.QUE_Q_STS_OPEN,
   F.QUE_Q_STS_CQT, F.QUE_Q_STS_SQH, F.QUE_Q_LAST_SEQ, F.QUE_Q_FRONTH_SEQ, F.QUE_Q_FRONT_SEQ]

/-- The fields of the MR block. -/
def fieldsMR : List Field :=
  [F.MR_WEIR_OVH, F.MR_WEIR_FBSET, F.MR_WEIR_BIND, F.MR_WEIR_WEIR, F.MR_RESIDUE_PEAK, F.MR_RESIDUE_UNITS,
   F.MR_WEIR_CEIL_CEIL, F.MR_MARKS_HYST, F.MR_MARKS_SLUICE, F.MR_MARKS_HIGH, F.MR_MARKS_LOW, F.MR_SAVEPWR_WINDOW,
   F.MR_SAVEPWR_NF, F.MR_SAVEPWR_PFIX, F.MR_SAVEPWR_KP, F.MR_TERMS_WP, F.MR_TERMS_WE, F.MR_TERMS_WT, F.MR_TERMS_WC,
   F.MR_RATES_RP, F.MR_RATES_RFL, F.MR_RATES_RCAP, F.MR_RATES_WH, F.MR_HOLDUP_SRC, F.MR_HOLDUP_THU, F.MR_FB_WEIR,
   F.MR_WEAR_DEPTH, F.MR_WEAR_RATE, F.MR_BUCKET_TOKENS, F.MR_DRAIN_STATE, F.MR_DRAIN_INFL, F.MR_DRAIN_RATE,
   F.MR_AGE_HOTX, F.MR_AGE_MAXAGE, F.MR_AGE_SETTLE, F.MR_GEN_NEXT, F.MR_SLUICE_STALL, F.MR_SLUICE_STEP,
   F.MR_SLUICE_HEADS, F.MR_COUNT_REL, F.MR_COUNT_DRN, F.MR_RELQ_PEND, F.MR_TEST_PACKB, F.MR_TEST_PACKA,
   F.MR_TEST_TGT]

/-- The fields of the SPN block. -/
def fieldsSPN : List Field :=
  [F.SPN_SAVE_RESULT, F.SPN_SAVE_REASON, F.SPN_SAVE_PWRBACK, F.SPN_SAVE_DEFER, F.SPN_SAVE_OVH, F.SPN_SAVE_TRIGA,
   F.SPN_SAVE_TRIGB, F.SPN_SAVE_TRIGL, F.SPN_SAVE_PACKLOSS, F.SPN_SAVE_CLKLOSS, F.SPN_SAVE_SPRLD, F.SPN_SAVE_COUNT,
   F.SPN_PLD_CHKB, F.SPN_PLD_CHKA, F.SPN_PLD_DGB, F.SPN_PLD_DGA, F.SPN_PLD_THB, F.SPN_PLD_THA, F.SPN_LINGER_LIMIT,
   F.SPN_LINGER_TIME, F.SPN_STIME_TOTAL, F.SPN_STIME_STREAM, F.SPN_SUNITS_LOST, F.SPN_SUNITS_SAVED, F.SPN_SRATE_START,
   F.SPN_SRATE_MIN, F.SPN_SRATE_OP, F.SPN_SRATE_DROOP, F.SPN_SRES_WEIR, F.SPN_SRES_RESID, F.SPN_FLICK_NF,
   F.SPN_FLICK_CONSEC, F.SPN_GEN_GEN, F.SPN_RST_STAGE, F.SPN_RST_CLASS, F.SPN_RST_ADOPT, F.SPN_RST_GEN,
   F.SPN_RUNITS_TOTAL, F.SPN_RUNITS_DONE, F.SPN_RLOSS_UNREC, F.SPN_RLOSS_TAGMIS, F.SPN_RBLD_STRANDS, F.SPN_RBLD_RETRY,
   F.SPN_RTIME_PREP, F.SPN_RTIME_DATA, F.SPN_FETCH_MAXLAT, F.SPN_FETCH_PEND, F.SPN_FETCH_COUNT, F.SPN_RCTL_FETCHLIM]

/-- The fields of the FC block. -/
def fieldsFC : List Field :=
  [F.FC_CFG_MAXRATE, F.FC_CFG_BADMAX, F.FC_CFG_WEARLIM, F.FC_CFG_ERSMAX, F.FC_CFG_PGMMAX, F.FC_UP_BITS,
   F.FC_BOUND_BITS, F.FC_CEIL_RFL, F.FC_CEIL_BUS, F.FC_CEIL_POOL, F.FC_CEIL_USABLE, F.FC_POOL_PAY, F.FC_POOL_LISTED,
   F.FC_SUSP_ERSX, F.FC_SUSP_PGMX, F.FC_SUSP_UNSUSP, F.FC_SUSP_ULIM, F.FC_RRT_INTERVAL, F.FC_RRT_REFRESH,
   F.FC_RRT_RETRY, F.FC_WEAR_MAX, F.FC_WEAR_MEAN, F.FC_WEAR_BAD, F.FC_ERR_TMO, F.FC_ERR_UNCOR, F.FC_ERR_ERSF,
   F.FC_ERR_PGMF, F.FC_RSK_STATE, F.FC_RSK_QUEUED, F.FC_RSK_TARGET, F.FC_RSK_BUNDLE, F.FC_RSK_PROG, F.FC_RSK_RATE,
   F.FC_RET_WAITQ, F.FC_RET_ABSENT, F.FC_RET_RETIRED, F.FC_RET_BOUNDT, F.FC_PROT_ARMED, F.FC_PROT_FAULTS,
   F.FC_LSN_LSN, F.FC_SEL_TGT, F.FC_T_STS_STATE, F.FC_T_STS_CAUSE, F.FC_T_STS_CHRATE, F.FC_T_STS_BAD, F.FC_T_STS_FREE,
   F.FC_T_STS_ERSCNT, F.FC_T_CAL_AGE, F.FC_T_CAL_OFFS]

/-- The fields of the TW block. -/
def fieldsTW : List Field :=
  [F.TW_CTL_EN, F.TW_CTL_MAXRATE1, F.TW_CTL_MAXRATE0, F.TW_CTL_IDEREQ, F.TW_CTL_LOSS_TO, F.TW_ACCEPT_MASK,
   F.TW_PAIR_STATE, F.TW_PAIR_PERS, F.TW_PAIR_LINKS, F.TW_PAIR_SESSION, F.TW_PEER_VALUE, F.TW_OSEQ_VALUE,
   F.TW_ASEQ_VALUE, F.TW_ISEQ_VALUE, F.TW_COPY_KIND, F.TW_COPY_SHARE, F.TW_COPY_WAIT, F.TW_COPY_PROG, F.TW_COPY_UNITS,
   F.TW_CNT_DISC, F.TW_CNT_OVFL, F.TW_CNT_LOSS, F.TW_CNT_IDEF, F.TW_TMAP_UNITS, F.TW_PORT_IDE, F.TW_PORT_IDEFAIL,
   F.TW_PORT_MISMATCH, F.TW_PORT_LOOPBACK, F.TW_PORT_WIDTH, F.TW_PORT_RATE, F.TW_PORT_STATE, F.TW_S_PAIR]

/-- The fields of the MC block. -/
def fieldsMC : List Field :=
  [F.MC_CFG_MAXRATE, F.MC_CFG_SPARE, F.MC_STAT_RATE, F.MC_STAT_LFO, F.MC_STAT_FAILED, F.MC_STAT_UP, F.MC_SCRUB_PERIOD,
   F.MC_SCRUB_STRETCH, F.MC_SCRUB_PROG, F.MC_SCRUB_PASSES, F.MC_THR_DEVCE, F.MC_THR_DEVPAT, F.MC_THR_ROWCE,
   F.MC_ERR_CE, F.MC_ERR_UE, F.MC_ERR_HEAL, F.MC_SPARE_STATE, F.MC_SPARE_CHAN, F.MC_SPARE_RANK, F.MC_SPARE_PROG,
   F.MC_SPARE_RATE, F.MC_SEL_CHAN, F.MC_C_STS_STATE, F.MC_C_STS_TEMP, F.MC_C_STS_CAP, F.MC_C_STS_RANKS,
   F.MC_C_STS_SPARED, F.MC_C_ERR_CE, F.MC_C_ERR_UE, F.MC_C_ERR_PPRS, F.MC_C_ERR_PPRH, F.MC_C_ERR_RETRY,
   F.MC_C_ERAS_R1S1, F.MC_C_ERAS_R1S0, F.MC_C_ERAS_R0S1, F.MC_C_ERAS_R0S0]

/-- The fields of the EN block. -/
def fieldsEN : List Field :=
  [F.EN_CTL_VSD, F.EN_CTL_TFAIL, F.EN_CTL_UFLOOR, F.EN_CTL_TDEPTH, F.EN_CTL_TPWR, F.EN_CTL_DORMI, F.EN_SUM_PD,
   F.EN_SUM_READY, F.EN_SUM_EU, F.EN_CFG_SHUNT, F.EN_CFG_VDIV, F.EN_CFG_ICHG, F.EN_CFG_RSV, F.EN_STS_STATE,
   F.EN_STS_TSTEP, F.EN_STS_SAFE, F.EN_STS_RELEASED, F.EN_STS_LOSTLRN, F.EN_STS_SBSLOST, F.EN_STS_PROVIS,
   F.EN_STS_NEWPACK, F.EN_STS_FULL, F.EN_STS_PAUSEREQ, F.EN_STS_PROFILE, F.EN_STS_CAUSE, F.EN_MEAS_VOLT,
   F.EN_MEAS_CURR, F.EN_MEAS_TEMP, F.EN_MEAS_TSRC, F.EN_SOC_SOC, F.EN_SOC_SOCM, F.EN_SOC_SOH, F.EN_SOC_UNC,
   F.EN_SOC_REFAGE, F.EN_PWR_PD, F.EN_PWR_PMODEL, F.EN_PWR_PRATE, F.EN_PWR_LOAD, F.EN_ENG_ER, F.EN_ENG_EU,
   F.EN_RSV_FIX, F.EN_RSV_UNC, F.EN_RSV_TEST, F.EN_LRN_TESTS, F.EN_LRN_KR, F.EN_LRN_CAP, F.EN_Q_COUNT, F.EN_ID_SERIAL,
   F.EN_ID_MDATE, F.EN_ID_CYCLES, F.EN_ID_SPEC]

/-- The fields of the PW block. -/
def fieldsPW : List Field :=
  [F.PW_CTL_TOFFMIN, F.PW_CTL_STBY, F.PW_CTL_OPMAX, F.PW_CTL_RETRY, F.PW_STATE_PSTATE, F.PW_STATE_SEQ, F.PW_STATE_STEP,
   F.PW_STATE_ONPEND, F.PW_STATE_STBY, F.PW_DOM_DOM, F.PW_VOTE_VOTES, F.PW_OP_CUR, F.PW_OP_TARGET, F.PW_OP_BUSY,
   F.PW_OP_THERM, F.PW_OP_CAP, F.PW_OP_HELD, F.PW_OP_VCORE, F.PW_VIN_VALID, F.PW_VIN_DEB, F.PW_VIN_VIN,
   F.PW_VIN_DIV, F.PW_VIN_OK, F.PW_SBUS_SBUS, F.PW_SBUS_WARN, F.PW_SBUS_LOW, F.PW_SBUS_DIV, F.PW_SBUS_LOWIND,
   F.PW_SBUS_WARNIND, F.PW_HOLD_CAP, F.PW_HOLD_TM, F.PW_HOLD_N, F.PW_FAULT_KIND, F.PW_FAULT_SLOT, F.PW_FAULT_STEP,
   F.PW_FAULT_SEQ, F.PW_FAULT_COUNT, F.PW_SNAP_STORED, F.PW_SNAP_SUPPR, F.PW_SNAP_COUNT, F.PW_RAIL_ADDR,
   F.PW_RAIL_PAGE, F.PW_RAIL_GRP, F.PW_RAIL_VNOM, F.PW_RAIL_STEP, F.PW_RAIL_ORDER, F.PW_RAIL_EN, F.PW_RAIL_PMB,
   F.PW_RAIL_CORE, F.PW_RMON_VOUT, F.PW_RMON_IOUT, F.PW_RMON_TEMP, F.PW_RMON_STAT, F.PW_RMON_FAULT, F.PW_RMON_PG]

/-- The fields of the CK block. -/
def fieldsCK : List Field :=
  [F.CK_STS_STATE, F.CK_STS_TSRC, F.CK_STS_HOLDOVER, F.CK_STS_DEGRADED, F.CK_STS_CLKFAULT, F.CK_STS_REFOK,
   F.CK_STS_BOSCOK, F.CK_STS_LOCK, F.CK_STS_TRIPS, F.CK_STS_EPOCH, F.CK_CTL_TRIM, F.CK_CTL_PTPEN, F.CK_CTL_PTMEN,
   F.CK_CTL_PTMHEAD, F.CK_CTL_STEPTH, F.CK_TRIM_BOSC, F.CK_TRIM_LFO, F.CK_TRIM_SRC, F.CK_TRIM_SPREAD, F.CK_TRIM_AGE,
   F.CK_AOSC_PERIOD, F.CK_TIME_NS, F.CK_TFRAC_FRAC, F.CK_UNC_CLASS, F.CK_UNC_UNC, F.CK_SET_UTCNS, F.CK_PTP_DOMAIN,
   F.CK_PTP_TRANS, F.CK_PTP_DELAY, F.CK_PTP_PSTATE, F.CK_PTP_UTCOFF, F.CK_SERVO_SSTATE, F.CK_SERVO_FREQ,
   F.CK_SERVO_OFFSET, F.CK_PPS_EN, F.CK_PPS_HOLD, F.CK_PPS_WIDTH, F.CK_PPS_COUNT, F.CK_CMON_SEL, F.CK_CMON_ERR,
   F.CK_CMON_DIV, F.CK_ALARM_AT, F.CK_ALCTL_ARM, F.CK_ALCTL_FIRED, F.CK_ALCTL_DORMINT, F.CK_ALCTL_WAKES,
   F.CK_SLEEP_VALID, F.CK_SLEEP_TICKS]

/-- The fields of the TWB block. -/
def fieldsTWB : List Field :=
  [F.TWB_SB_ADDR, F.TWB_SB_ASRC, F.TWB_SB_NADDR, F.TWB_SB_PECREQ, F.TWB_SB_MCTPEN, F.TWB_SB_EID, F.TWB_SB_WRMASK,
   F.TWB_SB_ALMASK, F.TWB_SB_ERR_RSACK, F.TWB_SB_ERR_TMO, F.TWB_SB_ERR_PECERR, F.TWB_SB_ERR_ARBL, F.TWB_LB_MULTI,
   F.TWB_LB_RETRY, F.TWB_LB_ERR_ARBL, F.TWB_LB_ERR_ARBSR, F.TWB_LB_ERR_TMO, F.TWB_LB_ERR_NACK, F.TWB_EB_PECB,
   F.TWB_EB_PECA, F.TWB_EB_ALERTS, F.TWB_EB_TMO, F.TWB_EB_NACK, F.TWB_STS_RECOV, F.TWB_STS_STATE]

/-- The fields of the FW block. -/
def fieldsFW : List Field :=
  [F.FW_ID_TRAIN, F.FW_ID_MINOR, F.FW_ID_BUILD, F.FW_ID_ROMVER, F.FW_ID_SVN, F.FW_BOOT_ACTIVE, F.FW_BOOT_TRIAL,
   F.FW_BOOT_ATTEMPTS, F.FW_BOOT_CAUSE, F.FW_BOOT_AVALID, F.FW_BOOT_BVALID, F.FW_BOOT_SWAPSEQ, F.FW_CTL_CONFIRM,
   F.FW_CTL_RECREQ, F.FW_PROC_STATE, F.FW_RLD_LSMIS, F.FW_RLD_MPRST, F.FW_RLD_SPRLD, F.FW_STG_STATE, F.FW_STG_ONLINE,
   F.FW_STG_VERR, F.FW_STG_BYTES, F.FW_NOR_STATE, F.FW_NOR_BUSFLT, F.FW_NOR_XFLT, F.FW_NOR_WPFLT, F.FW_WP_AREA,
   F.FW_REC_CAUSE, F.FW_REC_XPORT, F.FW_REC_PROG, F.FW_REC_BYTES]

/-- The fields of the SEC block. -/
def fieldsSEC : List Field :=
  [F.SEC_STS_PUFOK, F.SEC_STS_DRBGOK, F.SEC_STS_OWNED, F.SEC_STS_DEBUG, F.SEC_STS_DISCPEND, F.SEC_STS_LOCKOUT,
   F.SEC_STS_AUTHFAIL, F.SEC_STS_UNSEALFAIL, F.SEC_STS_SVNMIN, F.SEC_CTL_SEALSLOT, F.SEC_SLOT_MATCHED, F.SEC_SLOT_LOADED,
   F.SEC_AUTH_GO, F.SEC_AUTH_RESULT, F.SEC_AUTH_LASTOP, F.SEC_OWNER_KEYID, F.SEC_NONCE_NONCE, F.SEC_TOKEN_WORD]

/-- The fields of the EV block. -/
def fieldsEV : List Field :=
  [F.EV_STS_AVAIL, F.EV_STS_CLOSED, F.EV_STS_CLEARS, F.EV_STS_PEND, F.EV_STS_CODES, F.EV_CFG_BURST, F.EV_CFG_RATE,
   F.EV_CFG_CKPT, F.EV_SEL_ITER, F.EV_SEL_CODE, F.EV_LSEL_SEQ, F.EV_LSTS_STATUS, F.EV_RANGE_NEWEST, F.EV_RANGE_OLDEST,
   F.EV_S_WORD, F.EV_L_WORD]

/-- The fields of the GEN block. -/
def fieldsGEN : List Field :=
  [F.GEN_ID_PART, F.GEN_ID_STEP, F.GEN_ID_GRADE, F.GEN_SERIAL_SERIAL, F.GEN_PHASE_PHASE, F.GEN_PHASE_PREV,
   F.GEN_PHASE_CAUSE, F.GEN_PHASE_SINCE, F.GEN_READY_BITS, F.GEN_RCHG_FLAGS, F.GEN_ADMIT_ADMITTED, F.GEN_ADMIT_FIRST,
   F.GEN_ADMIT_BLOCK, F.GEN_LOCK_BLOCKS, F.GEN_RST_KEY, F.GEN_RST_DEVRST, F.GEN_CFG_RMTO, F.GEN_CFG_NETRST,
   F.GEN_CFG_TOUCHTH, F.GEN_PANEL_RMV, F.GEN_PANEL_LOCATE, F.GEN_PANEL_STAT, F.GEN_PANEL_ATTN, F.GEN_PANEL_SAFE,
   F.GEN_PANEL_PRESSES, F.GEN_PANEL_TOUCHES, F.GEN_ATTN_CAUSE, F.GEN_ATTN_NEW, F.GEN_ATTN_SIL, F.GEN_PINS_PERST,
   F.GEN_PINS_RESET, F.GEN_PINS_WAKE, F.GEN_PINS_FREC, F.GEN_PINS_PRSNT, F.GEN_PINS_LATCH, F.GEN_PINS_PACKA,
   F.GEN_PINS_PACKB, F.GEN_PINS_BTN]

/-- R406: every field of BAR0, block by block. -/
def allFields : List Field :=
  fieldsSHR ++
  fieldsHP ++
  fieldsQUE ++
  fieldsMR ++
  fieldsSPN ++
  fieldsFC ++
  fieldsTW ++
  fieldsMC ++
  fieldsEN ++
  fieldsPW ++
  fieldsCK ++
  fieldsTWB ++
  fieldsFW ++
  fieldsSEC ++
  fieldsEV ++
  fieldsGEN

end Sys2Proof.Machine
end

