-- ==== Sys2Proof/Machine/State.lean ====
section
/-! DEFINITION. The state of the CR9416 as plain data: the register file, the DRAM, the dirty map and index, the queues and
tickets, and what each subsystem holds beside its registers; the reasons a command can stop; the state after reset. -/

namespace Sys2Proof.Machine

/-- What a mailbox command returns (R47, R408, R412). -/
inductive Ret where
  | success | background | invalidInput | unsupported | internalError | retryRequired | busy | mediaDisabled
  | invalidPhysicalAddress | invalidSecurityState | invalidSlot | fwTransferOutOfOrder | fwTransferInProgress
  | fwAuthFailed | fwRollback | incorrectPassphrase | invalidHandle | invalidPayloadLength
  deriving DecidableEq, Repr

/-- What the controller sends out while a command runs. -/
inductive Msg where
  /-- a mailbox answer at head k or over MCTP: return code and output words -/
  | reply (v : Via) (r : Ret) (out : List Nat)
  /-- a completion entry of queue q written into slot i of its ring (R67): its four words -/
  | completion (q i : Nat) (words : List Nat)
  /-- an MSI-X message of head h (R79, R407) -/
  | msix (h vec : Nat)
  /-- a write completion returned at head h (R41) -/
  | writeDone (h : Nat)
  /-- read data returned at head h, poisoned or not (R44) -/
  | readData (h : Nat) (data : BitVec 512) (poison : Bool)
  /-- a GPF answer at head h: phase 1 or 2 (R46) -/
  | gpf (h ph : Nat)
  /-- words written to host memory of head h (R85) -/
  | hostWrite (h addr : Nat) (words : List Nat)
  /-- words read from a register or latched window -/
  | regData (words : List Nat)
  /-- a message sent on a Twine port: its type, the port, its words (R206) -/
  | twine (ty port : Nat) (words : List Nat)
  /-- a line written to the replica window over a Twine port (R200) -/
  | twineWrite (port addr : Nat) (data : BitVec 512) (poison : Bool)
  /-- bytes answered on a two-wire bus -/
  | bus (iface : Nat) (bytes : List Nat)
  /-- a datagram or frame on the management Ethernet -/
  | net (words : List Nat)
  /-- an SPDM or IDE_KM answer at head h (R356) -/
  | doe (h : Nat) (words : List Nat)
  deriving DecidableEq, Repr

/-- R87, R88: the dirty-map entry of one drain unit; `st` is 0 CLEAN, 1 DIRTY, 2 DRAINING, 3 REDIRTY. -/
structure UnitSt where
  st : Nat := 0
  stamp : Nat := 0
  hot : Bool := false
  wanted : Bool := false
  keep : Bool := false
  deriving DecidableEq, Repr

/-- R94: a location-index entry. -/
inductive IdxEntry where
  | zero
  | released
  | slot (gen n : Nat)
  deriving DecidableEq, Repr

/-- R96: a release walk: its unit range, and the share and ticket it answers (queue and sequence), or the Twine sequence. -/
structure Walk where
  share : Nat
  lo : Nat
  hi : Nat
  qid : Nat
  seq : Nat
  /-- the walk carries out a RELEASE received over Twine (R203) -/
  twine : Bool
  /-- of such a walk: bit p: the copy on port p has come, so a later write on that link sets KEEP -/
  links : Nat
  deriving DecidableEq, Repr

/-- R70, R77: the kinds of ticket. -/
inductive TKind | commit | fence | release | admin
  deriving DecidableEq, Repr

/-- R70 to R77: a captured ticket whose completion is not yet posted. -/
structure Ticket where
  qid : Nat
  seq : Nat
  tag : Nat
  kind : TKind
  level : Nat
  share : Nat
  /-- first unit of the range -/
  lo : Nat
  /-- unit after the range -/
  hi : Nat
  /-- R70: first 64-byte line of the range -/
  line0 : Nat := 0
  /-- R70: line after the range -/
  line1 : Nat := 0
  /-- capture generation (R71) -/
  gen : Nat
  /-- the outbound Twine sequence it waits for (R71); none while it waits for its share's CATCHUP_END to be sent (R212) -/
  oseq : Option Nat
  /-- the unit ranges a FLASH ticket still waits for -/
  wait : List (Nat × Nat)
  urgent : Bool
  inl : Bool
  /-- R77: 1 holds one of the common contexts, 2 one of its head's admin contexts, 0 none -/
  ctx : Nat
  /-- submission head index after its entry was consumed (R67) -/
  sqhd : Nat
  /-- for a waiting RELEASE: its walk has begun (R96) -/
  walking : Bool
  /-- the operation code of an admin operation in progress; 1 on a RELEASE that waited for a walk register (R109) -/
  op : Nat
  /-- when its entry was captured or began to wait (R109) -/
  since : Nat
  /-- status, reason, result and time stamp once decided and not yet posted (R81) -/
  outcome : Option (Nat × Nat × Nat × Nat)
  deriving DecidableEq, Repr

/-- R57 to R67, R83: a queue pair. -/
structure Queue where
  /-- R60: 0 DISABLED, 1 ACTIVE, 2 ERROR, 3 DELETING, 4 SUSPENDED -/
  state : Nat := 0
  err : Nat := 0
  head : Nat := 0
  admin : Bool := false
  depth : Nat := 0
  sqBase : Nat := 0
  cqBase : Nat := 0
  vec : Nat := 0
  aggc : Nat := 0
  aggt : Nat := 0
  ien : Bool := false
  ldpol : Bool := false
  sqTail : Nat := 0
  sqHead : Nat := 0
  cqTail : Nat := 0
  cqHead : Nat := 0
  phase : Bool := true
  /-- completions posted and not signalled (R79) -/
  unsig : Nat := 0
  /-- sequence of the last entry captured: LAST -/
  last : Nat := 0
  /-- sequences that hold back FRONT (R83) -/
  holdF : List Nat := []
  /-- sequences that hold back FRONTH (R83) -/
  holdH : List Nat := []
  /-- sequences since the last FENCE that completed other than DONE (R73) -/
  fails : List Nat := []
  /-- sequence of an open FENCE with B set (R80) -/
  barrier : Option Nat := none
  /-- tag held in INL_TAG (R65) -/
  inlTag : Option Nat := none
  /-- an inline commit held in the doorbell page: tag and word (R65) -/
  held : Option (Option Nat × Nat) := none
  /-- fetch and posting paused while the head's link is in recovery (R81) -/
  paused : Bool := false
  /-- the queue was in ERROR when its link went down (R81) -/
  wasErr : Bool := false
  /-- R67, R79: SHARE, LEVEL and U of the fetched entry being taken -/
  submitted : Option (Nat × Nat × Bool) := none
  /-- R82: its frontiers are those a Save left, and it has not been created again -/
  saved : Bool := false
  /-- captured a TWINED COMMIT (R85) -/
  twin : Bool := false
  /-- completion entries posted and not yet released, oldest first, as slot and words (R81) -/
  ring : List (Nat × List Nat) := []
  deriving DecidableEq, Repr

/-- R84: the frontiers a Save wrote for a queue. -/
structure Frontier where
  qid : Nat
  head : Nat
  twin : Bool
  last : Nat
  fronth : Nat
  front : Nat
  deriving DecidableEq, Repr

/-- R85, R165: a loss record; `cause` is 1 UNSAVED, 2 UNRECOVERABLE, 3 TAG_MISMATCH, 4 DRAM_UNCORRECTABLE. -/
structure LossRec where
  share : Nat
  /-- first unit -/
  lo : Nat
  units : Nat
  cause : Nat
  lgen : Nat
  deriving DecidableEq, Repr

/-- R85: what REPORT_READ and QUE_RPT report. -/
structure Report where
  /-- 0 none, 1 restore, 2 warm return, 3 adoption -/
  source : Nat := 0
  trunc : Bool := false
  ovf : Bool := false
  gen : Nat := 0
  xunits : Nat := 0
  fronts : List Frontier := []
  losses : List LossRec := []
  /-- grants of each share in the saved share table -/
  grants : FMap Nat := []
  deriving DecidableEq, Repr

/-- R50: a poison-list record; source 0 Injected, 1 External, 2 Internal. -/
structure PoisonRec where
  /-- first 64-byte line -/
  line : Nat
  len : Nat
  source : Nat
  deriving DecidableEq, Repr

/-- R39: an HDM decoder of a head. -/
structure Decoder where
  base : Nat := 0
  size : Nat := 0
  ways : Nat := 1
  gran : Nat := 256
  dpa : Nat := 0
  committed : Bool := false
  lock : Bool := false
  error : Bool := false
  deriving DecidableEq, Repr

/-- R379: one record of a CXL event log. -/
structure CxlRec where
  handle : Nat
  code : Nat
  data : List Nat
  time : Nat
  deriving DecidableEq, Repr

/-- What a head holds beside its registers. -/
structure Head where
  decoders : FMap Decoder := []
  /-- R407: vectors whose mask bit is clear -/
  unmasked : List Nat := []
  /-- MSI-X function mask -/
  fmask : Bool := false
  /-- R407: pending bits -/
  msixPend : List Nat := []
  /-- R47: the background command running: opcode, first unit address and length -/
  bg : Option (Nat × Nat × Nat) := none
  /-- results of the last Scan Media: lines found -/
  scan : List Nat := []
  /-- a Head Retrain in progress was issued through this mailbox, and its rate limit (R51) -/
  retrain : Option (Via × Nat) := none
  /-- FLIT fetch and posting run only while the CXL.io function is enumerated -/
  enumerated : Bool := false
  /-- R379: event records by severity 0 to 3 -/
  logs : FMap (List CxlRec) := []
  logOvf : FMap Nat := []
  logNext : Nat := 1
  /-- R379: event interrupt policy by severity -/
  policy : FMap Nat := []
  /-- R356: SPDM session state: 0 none, 1 negotiating, 2 open -/
  spdm : Nat := 0
  /-- IDE_KM: streams being set up or active -/
  ideKeys : Nat := 0
  /-- R401: the time of the last event 0x1007 -/
  badAt : Option Nat := none
  deriving DecidableEq, Repr

/-- R99, R100, R101: what SP0 and the comparator hold beside the MR registers. -/
structure Millrace where
  /-- candidates above the value in force, in order, with their BIND (R100) -/
  rising : List (Nat × Nat) := []
  /-- the events of the fallback set that the inputs of SP0's candidates reflect (R101) -/
  reflected : Nat := 0
  /-- a partial Skein may start (R93) -/
  partialOk : Bool := false
  /-- when the overhang began, and the units drained before it (R109) -/
  ovhAt : Nat := 0
  ovhFrom : Nat := 0
  /-- units made CLEAN by Skein commits, in all (R109) -/
  drained : Nat := 0
  /-- time and bytes of the programs of the last second, newest first (R110) -/
  progs : List (Nat × Nat) := []
  /-- the bucket a Save left in the hidden reserve at its close (R110) -/
  reserve : Option Int := none
  /-- signed wear bucket in bytes (R104, R105) -/
  bucket : Int := 4000000000000
  /-- the bucket has been below minus DEPTH in this episode (R105) -/
  debtSeen : Bool := false
  /-- the newest bucket record in NOR (R110) -/
  record : Option Int := none
  /-- a test or pack test waits to begin, so the Millrace drains in PRESSURE (R108) -/
  testWaits : Bool := false
  deriving DecidableEq, Repr

/-- R143: what a journal record carries beside the numbers of its header words. -/
inductive JPay where
  | none
  /-- LSA: the label storage area's bytes by offset -/
  | cells (l : List Host.Cell)
  | poison (l : List PoisonRec)
  | fronts (l : List Frontier)
  | losses (trunc ovf : Bool) (xunits : Nat) (l : List LossRec)
  /-- R216: session, received prefix, peer serial of each share, designations as partner share and PAIRID, and the twin map -/
  | twin (session prefix_ : Nat) (serials : FMap Nat) (desigs : List (Nat × Nat)) (runs : Segs Bool)
  deriving DecidableEq, Repr

/-- R142, R143: a journal record: its log sequence number, type code, arguments and payload. An ERASING or SEALED item may
stand for as many records of consecutive blocks as `count` says, with consecutive log sequence numbers. -/
structure JRec where
  lsn : Nat
  ty : Nat
  args : List Nat
  pay : JPay
  count : Nat
  deriving DecidableEq, Repr

/-- R137, R138: a slot of a DATA Skein: its unit and share, its poisoned lines, and the unit's bytes by offset as they were
read. `moved` marks a unit relocated while CLEAN (R95, R192), with the index entry it had. -/
structure Slot where
  unit : Nat
  share : Nat
  pmask : Nat
  cells : List Host.Cell
  moved : Option IdxEntry
  /-- R351: the KGEN of its share when it was read -/
  kgen : Nat := 0
  deriving DecidableEq, Repr

/-- R137: a Skein: its generation, type (1 DATA, 2 INDEX, 3 RECORD), place, and content by type. -/
structure Skein where
  gen : Nat
  ty : Nat
  bundle : Nat
  page : Nat
  /-- DATA: the slots in order; none once a release walk made the slot void (R146) -/
  slots : List (Option Slot)
  /-- RECORD: the records it carries -/
  recs : List JRec
  /-- INDEX: segment, SNAP and entries (R140, R141) -/
  seg : Nat
  snap : Nat
  entries : Segs IdxEntry
  /-- Strands that failed to program -/
  failed : List Nat
  /-- DATA: the slots as programmed; a slot later made void keeps its place (R146) -/
  prog : List Slot := []
  /-- R137: the IMAGE_ID it was programmed under, and the blocks of its bundle's members -/
  imageId : Nat := 0
  members : List Nat := []
  /-- R142: RECORD: generation, bundle and page of the RECORD Skein before it -/
  prev : Nat × Nat × Nat := (0, 0, 0)
  /-- R144: RECORD: abandoned, its page left undecodable -/
  dead : Bool := false
  /-- R140: INDEX: bundle and page of the Skeins its entries name, by generation, when it was programmed -/
  locs : FMap (Nat × Nat) := []
  deriving DecidableEq, Repr

/-- R135: a bundle: its use (1 DATA and INDEX, 2 journal), its 32 member blocks, its next page, and whether it takes no
further pages. -/
structure Bundle where
  use : Nat
  members : List Nat
  next : Nat
  closed : Bool
  /-- the last log sequence number a journal bundle holds -/
  lastLsn : Nat
  deriving DecidableEq, Repr

/-- R148, R149: an anchor: its generation, kind (1 CHECKPOINT, 2 MANIFEST, 3 TRUNCATED), result and reason, what it names, and
the pages its copies were written to. -/
structure Anchor where
  gen : Nat
  kind : Nat
  result : Nat
  reason : Nat
  imageId : Nat
  prev : Nat
  prevman : Nat
  cklsn : Nat
  lastLsn : Nat
  nextGen : Nat
  units : Nat
  time : Nat
  /-- the index segments of the pass it names -/
  pass : Nat
  /-- copies that read back valid -/
  good : Nat
  /-- the block and page of each copy -/
  copies : List (Nat × Nat)
  /-- R149: where the RECORD Skeins holding CKLSN and LASTLSN lie, and the hours and power cycles at the anchor -/
  ckloc : Nat := 0
  lastloc : Nat := 0
  hours : Nat := 0
  cycles : Nat := 0
  /-- R149: blocks per target and pages per block -/
  geo : Nat × Nat := (2264, 1152)
  deriving DecidableEq, Repr

/-- R131 to R153: the image. What stands on flash: the committed Skeins, the journal, the bundles, the anchors, the index
segments. What the hidden reserve holds: the journal tail, the Skeins in flight, the pass in progress. -/
structure Image where
  /-- the next log sequence number (R132) -/
  nextLsn : Nat := 1
  /-- records in the journal tail, oldest first, not yet in a RECORD Skein (R144) -/
  tail : List JRec := []
  /-- Skeins in flight, oldest first -/
  flight : List Skein := []
  /-- committed DATA and INDEX Skeins, by generation -/
  skeins : FMap Skein := []
  /-- the journal on flash, oldest first -/
  log : List JRec := []
  bundles : FMap Bundle := []
  /-- the bundle DATA and INDEX Skeins go to, and the current and announced journal bundles -/
  dataB : Option Nat := none
  jb : Option Nat := none
  jnext : Option Nat := none
  /-- the index pass: its number, and the CKPT_BEGIN of the pass in progress (R141) -/
  pass : Nat := 0
  passLsn : Option Nat := none
  /-- the pass in progress has written all its segments and waits for its anchor -/
  passEnd : Bool := false
  /-- the segments of each pass, as pass, segment and generation -/
  segs : List (Nat × Nat × Nat) := []
  passAt : Nat := 0
  /-- anchors that read back valid, newest first -/
  anchors : List Anchor := []
  /-- the anchor programmed and not yet read back -/
  anchorW : Option Anchor := none
  /-- the anchor block and next page of each anchor target (R148) -/
  anchorPos : FMap (Nat × Nat) := []
  /-- NOR: the current IMAGE_ID and whether it is confirmed (R131) -/
  imageId : Option (Nat × Bool) := none
  /-- LOSS and FRONTIERS of the newest manifest, with its generation (R141) -/
  manGen : Nat := 0
  /-- R142: generation, bundle and page of the last RECORD Skein committed under this IMAGE_ID -/
  lastRec : Nat × Nat × Nat := (0, 0, 0)
  /-- R133 to R139: Skeins programmed to blocks not erased since, newest first; a member erased since reads 2^32 -/
  written : List Skein := []
  /-- R148, R149: anchors programmed, with the copies whose blocks are not erased since, newest first -/
  anchored : List Anchor := []
  /-- R141: a segment of the pass in progress that waits for a bundle -/
  segDue : Option Nat := none
  /-- R132: the next generation as the image gives it at bring-up -/
  nextGen : Nat := 1
  deriving DecidableEq, Repr

/-- R111 to R128: a Save in progress, beside the SPN registers. -/
structure Saving where
  /-- the save-start record is programmed (R114) -/
  started : Bool := false
  /-- save-bus low or a forced abort: no new Skein starts (R120, R124) -/
  cut : Bool := false
  /-- result the manifest will carry -/
  result : Nat := 1
  startAt : Nat := 0
  streamAt : Nat := 0
  /-- save rate and ceiling in bytes/s (R118) -/
  rs : Nat := 0
  rcap : Nat := 0
  op : Nat := 1
  /-- Linger limit in J for the Weir and merge allowance at the trigger (R126) -/
  elim : Nat := 0
  /-- FRONTIERS and LOSS, computed late -/
  losses : List LossRec := []
  saved : Nat := 0
  /-- TWINSEQ: acknowledged and outbound sequences at the trigger -/
  aseq : Nat := 0
  oseq : Nat := 0
  /-- shutdown states Dirty when the Save began (R48) -/
  dirtyHeads : Nat := 0
  /-- first admission had not read back (R389): the Save writes nothing -/
  empty : Bool := false
  /-- a manifest or truncated anchor is programmed -/
  closing : Bool := false
  /-- when LINGER began (R126) -/
  lingerAt : Nat := 0
  /-- COMMITs open at the trigger, which a loss holds back (R84) -/
  opens : List Ticket := []
  /-- the loss records of the manifest but for the units this Save left unsaved (R126) -/
  stood : List LossRec := []
  /-- the early close-out records are written (R116) -/
  early : Bool := false
  /-- E_U fell below E_LIM before LINGER, or its time is 0 (R126) -/
  brief : Bool := false
  /-- the first return to SERVICE after this Save has not yet come (R48), and its result and whether it was closed -/
  owed : Bool := false
  deriving DecidableEq, Repr
/-- R161: a line write that waits in ingress for its unit's fetch. -/
structure WaitLine where
  head : Nat
  line : Nat
  data : BitVec 512
  be : BitVec 64
  poison : Bool
  deriving DecidableEq, Repr

/-- R161: a demand fetch: the reads that wait on it, as head and line, and whether a read started it and at which head. -/
structure Fetch where
  readers : List (Nat × Nat)
  byRead : Option Nat
  /-- R163: its order of arrival, and the fetches ahead of it on its target then -/
  seq : Nat := 0
  ahead : Nat := 0
  /-- R162: its Strand read has been issued -/
  sent : Bool := false
  /-- R175, R179: its Strand is not read: the unit is rebuilt at once -/
  atOnce : Bool := false
  deriving DecidableEq, Repr

/-- R154 to R171: what restore holds beside the SPN registers. -/
structure Restore where
  /-- the image step of bring-up has ended (R386) -/
  imageDone : Bool := false
  /-- the restore map: 1 ABSENT, 2 ZEROING, otherwise PRESENT (R157) -/
  rmap : Segs Nat := []
  /-- demand fetches, by unit -/
  fetches : FMap Fetch := []
  /-- writes that wait for a fetch, oldest first -/
  waits : List WaitLine := []
  /-- units handed to the eager restore at first priority (R161) -/
  handed : List Nat := []
  /-- R47: lines poisoned by Inject Poison in units not yet in DRAM -/
  injected : List Nat := []
  /-- R48: heads whose shutdown state was Dirty when the last Save began -/
  dirty : Nat := 0
  /-- R156: preparation is running and the image class is known; the journal's extent applied -/
  ready : Bool := false
  /-- losses found in the manifest restored: units listed UNSAVED or DRAM_UNCORRECTABLE (R159) -/
  listed : List LossRec := []
  /-- time preparation and the data stage began -/
  prepAt : Nat := 0
  dataAt : Nat := 0
  /-- the report's SOURCE when service begins -/
  source : Nat := 0
  deriving DecidableEq, Repr
/-- R134, R186: a block: 0 not accounted for, 1 listed, 2 on the erasing list on flash and erasing, 3 seal programmed, 4 sealed
and free, 5 member of a bundle, 6 anchor block in use, 7 grown bad, 8 erase suspended. -/
structure Blk where
  st : Nat := 0
  /-- erase count -/
  ers : Nat := 0
  /-- failed attempts of the erase in progress -/
  tries : Nat := 0
  /-- suspensions of the erase in progress; of an anchor block in use, its newest anchor's generation -/
  tag : Nat := 0
  /-- R134: the log sequence number of its newest ERASING record, less the block address -/
  erLsn : Int := 0
  /-- R134: TIME and LSN of the seal page 0 holds -/
  sealPage : Option (Nat × Nat) := none
  /-- R181: Strand reads since its erase, and whether it is marked for refresh -/
  reads : Nat := 0
  marked : Bool := false
  /-- R188: sealed before this bring-up: its seal is verified again when it joins a bundle -/
  again : Bool := false
  deriving DecidableEq, Repr

/-- R172, R173: a flash channel. -/
structure Chan where
  trained : Bool := false
  /-- trained rate, coded as in R173 -/
  rate : Nat := 0
  retired : Bool := false
  deriving DecidableEq, Repr

/-- R180, R189, R190: a target. -/
structure Target where
  /-- 0 ABSENT, 1 HEALTHY, 2 TESTING, 3 RETIRED_BOUND, 4 RETIRED, 5 EXCLUDED -/
  state : Nat := 0
  cause : Nat := 0
  /-- R190: a cause met in SAVE -/
  held : Nat := 0
  /-- read-level offsets of the eight age bins, as 4-bit two's complement -/
  offs : List Nat := []
  calAt : Nat := 0
  /-- R180: when each age bin was last calibrated -/
  binAt : FMap Nat := []
  /-- time of the last command timeout -/
  tmoAt : Option Nat := none
  /-- blocks with a Strand not intact after retry, with times (R189) -/
  uncor : List (Nat × Nat) := []
  /-- the suspended erase (R178) -/
  susp : Option Nat := none
  /-- R178: suspensions of the program in progress -/
  pgm : Nat := 0
  deriving DecidableEq, Repr

/-- R172 to R195: what the flash complex holds beside the FC registers. -/
structure Flash where
  /-- the save ceiling R_FL in bytes/s (R191) -/
  rfl : Nat := 0
  chans : FMap Chan := []
  tgts : FMap Target := []
  blocks : Segs Blk := []
  /-- R192: the re-skein queue, the target in work first, and retired targets waiting outside it -/
  queue : List Nat := []
  waitq : List Nat := []
  rskAt : Nat := 0
  rskMoved : Nat := 0
  rskTotal : Nat := 0
  /-- the pass after which re-skeining completes (R192) -/
  rskPass : Nat := 0
  /-- checkpoint in the hidden reserve and in NOR: state and next bundle (R193) -/
  ckpt : Nat × Nat := (0, 0)
  ckptNor : Nat × Nat := (0, 0)
  /-- bundles whose live units are to be relocated (R159, R181) -/
  reclaim : List Nat := []
  /-- R155, R175: blocks per target and pages per block of the dies found at this bring-up -/
  geo : Option (Nat × Nat) := none
  /-- R190: a retirement found in a Save waits to be recorded in NOR -/
  norOwed : Bool := false
  /-- R175: reads that timed out, as generation and Strand -/
  tmoReads : List (Nat × Nat) := []
  deriving DecidableEq, Repr
/-- R201, R203: one item of an outbound buffer, in order: a line with its sequence, share, line offset in the share, data and
poison; or a sequenced message with its sequence, type and payload words. -/
inductive OutItem where
  | line (seq share off : Nat) (data : BitVec 512) (poison : Bool)
  | msg (seq ty : Nat) (words : List Nat)
  deriving DecidableEq, Repr

/-- R206: a sequenced message of which a copy has arrived: sequence, type, payload, and the links whose copy has come. -/
structure InMsg where
  seq : Nat
  ty : Nat
  words : List Nat
  /-- bit p: the copy on port p has arrived -/
  links : Nat
  /-- it has taken effect -/
  done : Bool
  deriving DecidableEq, Repr

/-- R208: a designation sent and answered, kept for its PAIRID: own share, partner share, PAIRID, base and size. -/
structure Desig where
  own : Nat
  peer : Nat
  pairid : Nat
  size : Nat
  /-- accepted by the peer -/
  ok : Bool
  /-- the mailbox whose Designate Replica waits for the reply -/
  via : Option Via
  deriving DecidableEq, Repr

/-- R206, R208: the latest STATE received for a PAIRID: the partner's share, its own partner field, role, pairing state and flags. -/
structure PeerShare where
  share : Nat
  partner : Nat
  role : Nat
  pstate : Nat
  lossrep : Bool
  incons : Bool
  deriving DecidableEq, Repr

/-- R200, R203: an inbound write: port, receiving share, first line in the share, and its lines with their poison. -/
structure InWrite where
  port : Nat
  share : Nat
  line : Nat
  lines : List (BitVec 512 × Bool)
  deriving DecidableEq, Repr

/-- R203: what arrived on a joining link: a write, or a RELEASE copy of port, sequence, share, units and first unit. -/
inductive JoinItem
  | write (w : InWrite)
  | release (p seq share units first : Nat)
  deriving DecidableEq, Repr

/-- R196 to R219: what Twine holds beside the TW registers. -/
structure Twine where
  /-- outbound buffers of ports 0 and 1, oldest first (R204) -/
  q0 : List OutItem := []
  q1 : List OutItem := []
  /-- R202: the last MARK received on each link -/
  mark0 : Nat := 0
  mark1 : Nat := 0
  /-- sequenced messages of which copies have arrived and which have not been passed by P (R203) -/
  inbox : List InMsg := []
  /-- a HELLO has been received on the port (bit p) -/
  hello : Nat := 0
  /-- R196: the serial last received on each port -/
  serial0 : Nat := 0
  serial1 : Nat := 0
  /-- the twin map: current and previous bitmap, and the end of the previous (R210) -/
  mapCur : Segs Bool := []
  mapPrev : Segs Bool := []
  prevEnd : Nat := 0
  /-- shares waiting for the copy engine's catch-up, and for its full sync (R211) -/
  catchups : List Nat := []
  syncs : List Nat := []
  /-- the share the copy engine works on, and whether every unit is copied (FULL) -/
  copying : Option (Nat × Bool) := none
  /-- R211: runs of units the scan in progress has still to send, ascending, and how many it began with -/
  left : List (Nat × Nat) := []
  scan : Nat := 0
  /-- sequence of the CATCHUP_END sent for a share, not yet acknowledged -/
  catchEnd : FMap Nat := []
  /-- R220: units sent as data and the start of a share's copy whose scan has ended -/
  copied : FMap (Nat × Nat) := []
  /-- sequence of the JOIN sent for a share, not yet acknowledged -/
  joinSeq : FMap Nat := []
  /-- R208: designations held, latest first -/
  desigs : List Desig := []
  /-- latest STATE for a PAIRID -/
  peers : FMap PeerShare := []
  /-- R216: the serial of each paired share's peer, as saved -/
  pairSerial : FMap Nat := []
  /-- runs of the saved twin map not yet taken up (R216) -/
  runs : FMap (List (Nat × Nat)) := []
  /-- the peer's STATE messages of this session have been received in full (R215) -/
  reunited : Bool := false
  /-- links whose inbound lines and marks count: bit p (R203, LINK_JOIN) -/
  inLinks : Nat := 0
  /-- what arrived on a joining link before its LINK_JOIN took effect -/
  held : List JoinItem := []
  /-- the session number sent and not yet confirmed -/
  offered : Option Nat := none
  /-- shares whose catch-up or sync clears LOSSREP when it completes (R207), and when each copy began -/
  clears : List Nat := []
  copyAt : Nat := 0
  /-- RELEASEs received that wait for a walk register: since when, and the links (bit p) whose credits are withheld (R109, R203) -/
  relWait : FMap (Nat × Nat) := []
  /-- the time at which event 0x7008 was last recorded (R200) -/
  refusedAt : Option Nat := none
  /-- a share placed in CATCHUP by Resume Share with FULL (R219) -/
  fulls : List Nat := []
  /-- replicas whose full sync is in progress, and replicas in a FULL catch-up or sync (R207, R209) -/
  syncIn : List Nat := []
  fullIn : List Nat := []
  /-- the peer-loss transition waits for SP3, with its cause (R213) -/
  lossDue : Option Nat := none
  /-- R14, R218: pairing work that waits for SP3, oldest first -/
  later : List Instr := []
  deriving DecidableEq, Repr
/-- R222 to R239: a memory channel beside the MC registers. -/
structure McChan where
  /-- 0 absent, 1 training, 2 up, 3 retraining, 4 FAILED, 5 self-refresh -/
  state : Nat := 0
  temp : Int := 0
  cap : Nat := 0
  ranks : Nat := 0
  /-- bit r: rank r is spared out -/
  spared : Nat := 0
  /-- rank 1 holds the data and rank 0 is the spare (R238) -/
  swap : Bool := false
  ce : Nat := 0
  ue : Nat := 0
  pprs : Nat := 0
  pprh : Nat := 0
  retry : Nat := 0
  /-- R228: failures in a row of the retry in progress, and times of failed retrains -/
  fails : Nat := 0
  retrains : List Nat := []
  /-- R236: repaired rows kept in NOR: rank, subchannel, device, row -/
  rows : List (Nat × Nat × Nat × Nat) := []
  /-- marks by rank and subchannel (2 × rank + subchannel), as mark bit 4 and device (R237); kept in NOR -/
  marks : FMap Nat := []
  /-- refresh interval halved (R239) -/
  hot : Bool := false
  deriving DecidableEq, Repr

/-- R222 to R242: what the memory complex holds beside the MC registers. -/
structure MemCh where
  /-- every channel has trained (R227) -/
  trained : Bool := false
  chans : FMap McChan := []
  /-- R235: corrected errors of each device in the last 24 h, as time, row and whether a device pattern; the device number is
  ((channel × 2 + rank) × 2 + subchannel) × 10 + device -/
  ces : FMap (List (Nat × Nat × Bool)) := []
  /-- units to be healed (R235) -/
  heals : List Nat := []
  /-- the rank copy begun and not ended, as channel and rank (R238); its pointer in bytes and the pointer's checkpoint -/
  spare : Option (Nat × Nat) := none
  ptr : Nat := 0
  ptrCkpt : Nat := 0
  /-- R240: corrected errors since bring-up on VOLATILE lines and on all others -/
  ceVol : Nat := 0
  cePer : Nat := 0
  deriving DecidableEq, Repr
/-- R261: a learning record kept in NOR. -/
structure LearnRec where
  seq : Nat
  mdate : Nat
  serial : Nat
  tests : Nat
  kr : Nat
  cap : Nat
  time : Nat
  deriving DecidableEq, Repr

/-- R244 to R267: what the estimator and hardware hold of a bay beside the EN registers. -/
structure Bay where
  /-- the charger and transfer pins: CHG_EN, and XFER -/
  chg : Bool := false
  xfer : Bool := false
  /-- the charge or test current in mA that PKA_ISET asks for -/
  iset : Nat := 0
  /-- P_D in W before the sums count it (R256) -/
  pd : Nat := 0
  /-- the monitor's last readings (R246): temperature in 0.1 °C, voltage in mV, current in mA (positive for charge); none while it is silent;
  and the last BatteryStatus -/
  sbsT : Option Int := none
  sbsV : Option Nat := none
  sbsI : Option Int := none
  status : Nat := 0
  /-- charge in the pack in µC (R250) -/
  q : Int := 0
  /-- modelled RC voltages in µV (R250) -/
  v1 : Int := 0
  v2 : Int := 0
  /-- σ in 0.01 % at a time, from which it grows (R253), without the standing additions -/
  sig : Nat := 0
  sigAt : Nat := 0
  /-- the last true reference point, the last warning of its age, and the last pause attempt -/
  refAt : Option Nat := none
  warnAt : Nat := 0
  /-- first estimate made (R266) -/
  first : Bool := false
  /-- the bay's charger is held off until service input returns (R248) -/
  held : Bool := false
  /-- R267: +2 % taken for a voltage discrepancy; a discharge alarm holds, and since when it is clear -/
  discr : Bool := false
  dalarm : Bool := false
  dclear : Option Nat := none
  /-- R267: since when the monitor is silent, voltages differ, currents differ, the residual is exceeded, the float voltage is off, and a
  current flows with CHG_EN low: times by number 0 to 5; numbers 16 to 21 mark those acted on -/
  since : FMap Nat := []
  /-- identity: names matched are the profile's; the pack's own capacity at identification in 0.01 mAh -/
  fcc : Nat := 0
  /-- R257: test power in W, planned charge in J, charge fraction F1 in 10^-5, its reference floor in 0.01 %, and EN_Q when discharge began -/
  tpwr : Nat := 0
  plan : Nat := 0
  f1 : Nat := 0
  floor1 : Nat := 0
  tq : Int := 0
  kmeas : Nat := 1024
  /-- R261, R262: the first words of the bay's two NOR sub-sectors, empty where erased; a record waiting to be written; the write-intent bit;
  time of the last accepted learning -/
  recs : List (List Nat) := [[], []]
  pend : Option LearnRec := none
  intent : Bool := false
  learnAt : Nat := 0
  /-- energy and state of charge slewed (R255): E_U in µJ, SOC as a fraction in 10^-12, and when last updated -/
  eu : Nat := 0
  soc : Nat := 0
  at_ : Nat := 0
  /-- pack temperature 10 min ago, in 0.1 °C, and when taken (R253) -/
  tOld : Int := 0
  tAt : Nat := 0
  /-- retained for DORMANT (R266): charge, σ, time -/
  kept : Option (Int × Nat × Nat) := none
  deriving DecidableEq, Repr
/-- R284: a snapshot: its cause (1 rail fault, 2 Save trigger, 3 power-up retry) and slot, the time and uncertainty, the phase, power
state, sequencer state and step, operating point and junction temperature, and the readings: PW_RMON_i of all slots, PW_VIN, PW_SBUS. -/
structure Snapshot where
  cause : Nat
  slot : Nat
  time : Nat
  unc : Nat
  phase : Nat
  pstate : Nat
  seq : Nat
  step : Nat
  op : Nat
  tj : Int
  readings : List Nat
  deriving DecidableEq, Repr

/-- R276, R277: a power-down under way: its steps still to run, the one in progress first; the phase left; whether the alarm is armed at step 6;
when it began, how many steps were skipped, and the snapshots and events held where step 6 was. -/
structure Down where
  left : List Nat
  phase : Nat
  arm : Bool
  at_ : Nat
  skipped : Nat
  held : Bool
  deriving DecidableEq, Repr

/-- R271 to R292: what the power unit holds beside the PW registers. -/
structure Power where
  /-- the power-down under way (R276) -/
  down : Option Down := none
  /-- junction temperature last sampled, in °C (R425) -/
  tj : Int := 0
  /-- the sequencer has reached ON (R278) -/
  seqOn : Bool := false
  /-- Save comparators A and B stand tripped (R111) -/
  cmpA : Bool := false
  cmpB : Bool := false
  /-- R273: a fall of WAKE_N waits for service input -/
  wake : Bool := false
  /-- R385: an on request waits for RESET_N to rise; RESET_N is low, and since when (R124) -/
  onHeld : Bool := false
  resetLow : Bool := false
  /-- R274: the power-up step in progress, 0 none, and its slots that report power-good; the last step done -/
  up : Nat := 1
  good : List Nat := []
  done : Nat := 0
  /-- R275: power-up attempts failed -/
  tries : Nat := 0
  /-- groups left off until the next power-up, and groups raised once more after a fault (R275, R281) -/
  off : List Nat := []
  again : List Nat := []
  /-- time the last power-down ended (R278) -/
  offAt : Nat := 0
  /-- the phase cause of the on request that waits in OFF_WAIT -/
  cause : Nat := 0
  /-- woken by the alarm with service input absent (R17) -/
  alarmWake : Bool := false
  /-- R284: the NOR snapshot store, newest first, and snapshots not yet written; when each slot and cause last took one -/
  snaps : List Snapshot := []
  snapPend : List Snapshot := []
  snapAt : FMap Nat := []
  /-- R283: the last hold-up measurements, in 0.1 ms, newest first -/
  holdups : List Nat := []
  /-- R272, R280: reads in a row that each PMBus slave has not answered, and the STATUS_WORD last read of each -/
  silent : FMap Nat := []
  words : FMap Nat := []
  /-- DRAM holds its contents, in self-refresh or in use, since it was last powered -/
  dram : Bool := false
  /-- R290: the operating point asked for during a change -/
  opWait : Option Nat := none
  /-- the first half of the change in progress is done -/
  opHalf : Bool := false
  deriving DecidableEq, Repr
/-- R294 to R305: what the clock and time unit holds beside the CK registers. -/
structure Clock where
  /-- the time counter: whole nanoseconds, and the fraction in 2^-32 ns (R301) -/
  ns : Nat := 0
  frac : Nat := 0
  /-- the model's own: nanoseconds elapsed, which no step of the counter moves; every interval is measured in them -/
  mono : Nat := 0
  /-- what the last read of CK_TIME latched for CK_TFRAC and CK_UNC (R301) -/
  latch : Option (Nat × Nat) := none
  /-- uncertainty not yet a whole ns, in 10^-9 ns (R302) -/
  uncAcc : Nat := 0
  /-- R295: the LFO is removed from the fallback orders; the AOSC check has failed -/
  lfoOut : Bool := false
  aoscOut : Bool := false
  /-- R296: failed BOSC start checks in a row; when event 0xB004 was last recorded; the state REFCLK_FB was reached from BOSC_START -/
  starts : Nat := 0
  faultAt : Option Nat := none
  fromStart : Bool := false
  /-- R295: times of lock losses of each PLL: 0 core, 1 management, 2 memory, 3 flash -/
  losses : FMap (List Nat) := []
  /-- PLLs that cannot lock even on the LFO (R295) -/
  stopped : List Nat := []
  /-- sources a PLL has moved past after three losses of lock, by PLL (R295) -/
  plls : FMap Nat := []
  /-- R301: Syncs in a row below 1 µs, above 100 µs, and with a correction above 1,000 ppm -/
  good : Nat := 0
  bad : Nat := 0
  wild : Nat := 0
  /-- R297: corrections of the last 64 Syncs, in 0.001 ppm, newest first -/
  corr : List Int := []
  /-- the time elapsed and the AOSC count at the last Sync -/
  syncAt : Option (Nat × Nat) := none
  /-- when PTP was last LOCKED, and when BOSC was last trimmed natively (R298, R302) -/
  lockedAt : Option Nat := none
  nativeAt : Option Nat := none
  /-- when PERIOD was last trimmed (R302) -/
  periodAt : Option Nat := none
  trimAt : Nat := 0
  /-- R297: a wake of a known rest not yet corrected: its length in ns -/
  wakeRest : Option Nat := none
  /-- the first offset after that wake, in ns -/
  firstOff : Option Int := none
  /-- R299: when the user record of the trims was last written -/
  norAt : Option Nat := none
  /-- the Announce transmitter selected -/
  master : Option Nat := none
  /-- the rank of its data set; lower is better -/
  masterRank : Nat := 0
  /-- R303: what the entry to sleep latched: counter, AOSC count, uncertainty and class -/
  sleep : Option (Nat × Nat × Nat × Nat) := none
  /-- R305: an alarm is armed in sleep -/
  armed : Bool := false
  /-- the newest time stamp kept in NOR (R303) -/
  norTime : Nat := 0
  /-- R304: when the last pulse began -/
  ppsAt : Option Nat := none
  deriving DecidableEq, Repr
/-- R320, R324: a controller transaction that has met a loss of arbitration or an unacknowledged address: its target address, consecutive
losses, unacknowledged attempts, whether it is the one retry after ARB_SR, and what it waits for: 0 nothing, 1 its backoff, 2 a draw for its
backoff, and until when. -/
structure BusTx where
  target : Nat
  losses : Nat := 0
  nacks : Nat := 0
  sr : Bool := false
  wait : Nat := 0
  due : Nat := 0
  deriving DecidableEq, Repr

/-- R315: an MCTP message being assembled: source endpoint, tag, next packet sequence and the bytes so far. -/
structure Assembly where
  src : Nat
  tag : Nat
  seq : Nat
  bytes : List Byte
  deriving DecidableEq, Repr

/-- R309 to R326: what the two-wire interfaces hold beside the TWB registers. -/
structure TwoWire where
  /-- SB_ALERT_N is pulled low (R311) -/
  alert : Bool := false
  /-- interface states: 0 SB, 1 to 4 LB segments 0 to 3, 5 EBA, 6 EBB; each 0 IDLE, 1 BUSY, 2 RECOVERING, 3 FAULT -/
  states : FMap Nat := []
  /-- R312: the register pointer, and the status of the last register or pointer write -/
  ptr : Nat := 0
  status : Nat := 0
  /-- the MCTP message being assembled -/
  asm : Option Assembly := none
  /-- transactions in trouble, by interface -/
  txs : FMap BusTx := []
  /-- R324: recovery attempts failed in a row, by interface -/
  tries : FMap Nat := []
  deriving DecidableEq, Repr

/-- An interface is in FAULT (R324). -/
def TwoWire.faulted (t : TwoWire) (i : Nat) : Bool := FMap.get 0 t.states i == 3
/-- R335: what a boot block holds: the first check that fails (0: it verifies), and its header's version words. -/
structure BootBlock where
  verr : Nat := 1
  train : Nat := 0
  minor : Nat := 0
  build : Nat := 0
  svn : Nat := 0
  layout : Nat := 0
  deriving DecidableEq, Repr

/-- R337: the newest valid swap record. -/
structure SwapRec where
  seq : Nat
  svn : Nat
  attempts : Nat
  trial : Bool
  active : Nat
  deriving DecidableEq, Repr

/-- R340: a part being written to the boot block: its length, whether it is the last and then what the block verifies to, and the ticket
(queue and sequence) or mailbox that answers when it is read back. -/
structure StagePart where
  len : Nat
  last : Bool
  blk : BootBlock
  ticket : Option (Nat × Nat)
  via : Option Via
  deriving DecidableEq, Repr

/-- R328 to R348: what the processors and the boot store hold beside the FW registers. -/
structure Firmware where
  blkA : BootBlock := { verr := 0, train := 3 }
  blkB : BootBlock := {}
  swap : Option SwapRec := none
  /-- LAYOUT of the running firmware, and of the firmware that saved the hidden reserve (R341) -/
  layout : Nat := 0
  savedLayout : Nat := 0
  /-- starts of the boot chain since manufacture -/
  boots : Nat := 0
  /-- R343: MP watchdog expiries in this bring-up -/
  mpExp : Nat := 0
  /-- R339: the MP failed verification on restart -/
  mpDead : Bool := false
  /-- R337: when the trial's confirmation time last began, and SP reloads since it began -/
  trialAt : Nat := 0
  trialRld : FMap Nat := []
  /-- R337: the MP restart in progress is the activating one (R341), and SPs an activation has still to reload -/
  activating : Bool := false
  toReload : List Nat := []
  /-- reloads of each SP since manufacture (R346) -/
  reloads : FMap Nat := []
  /-- why each processor is absent and since when: cause 1 lockstep, 2 watchdog, 3 command, 4 SRAM, 5 execute fault, 6 activation -/
  cause : FMap (Nat × Nat) := []
  /-- R338: commanded reloads that wait, as SP and the queue and sequence of its ticket -/
  wanted : List (Nat × Option (Nat × Nat)) := []
  /-- the ticket of the commanded reload in progress -/
  doing : Option (Nat × Nat) := none
  /-- R340: the staging in progress: its slot (0 A, 1 B) -/
  slot : Option Nat := none
  /-- who stages: a mailbox by bgKey, or 32 + head for an admin queue -/
  xfer : Option Nat := none
  /-- the part being written -/
  part : Option StagePart := none
  /-- R334: suspensions of the erase in progress -/
  susp : Nat := 0
  /-- R344: next TFTP block, and retransmissions made -/
  tftp : Nat := 1
  tries : Nat := 0
  /-- R343: FORCE_REC_N was low at power-up -/
  forceRec : Bool := false
  deriving DecidableEq, Repr
/-- R349 to R366: what the security unit holds beside the SEC registers. -/
structure Security where
  /-- the key word of each share (R352, R353): OWNER flag, CHECK and KGEN -/
  keyw : FMap Nat := []
  /-- R353: the owner key share in each loaded slot -/
  slots : FMap Nat := []
  /-- R354: the CHECK computed when a SEAL in progress was accepted, by share -/
  seals : FMap Nat := []
  /-- R361: the current nonce and when it was issued -/
  nonce : Option (Nat × Nat) := none
  /-- tokens rejected and key checks failed since bring-up -/
  rejected : Nat := 0
  failed : Nat := 0
  /-- R361: until when a SANITIZE token permits, and on which mailbox; a REPLACE_OWNER token's parameter and until when -/
  sanitize : Option (Nat × Nat) := none
  replace : Option (Nat × Nat) := none
  /-- R362: blocks of usable targets must all be erased and sealed before persistence is admitted -/
  erasing : Bool := false
  /-- R358: requests and time since the last reseed -/
  seededAt : Nat := 0
  seeds : Nat := 0
  /-- R359: the enrolled owner's public key -/
  owner : Option Nat := none
  /-- R358: commands that wait for a draw while the DRBG is stopped -/
  waits : List Instr := []
  /-- R34: counted units of a share when its SEAL was accepted -/
  sealFrom : FMap Nat := []
  /-- RGEN, held in PD_AON retention (R351) -/
  rgen : Nat := 0
  deriving DecidableEq, Repr
/-- R369: the stamp of an occurrence. -/
structure Stamp where
  time : Nat := 0
  unc : Nat := 0
  opsec : Nat := 0
  cycles : Nat := 0
  deriving DecidableEq, Repr

/-- R368, R369: one queued occurrence of an event: its code, the two data words under its layout, its stamp, the phase, and
whether it took a token of its code's bucket. -/
structure Occ where
  code : Nat
  d0 : Nat
  d1 : Nat
  stamp : Stamp
  phase : Nat
  /-- the code's COUNT after this occurrence -/
  count : Nat
  token : Bool
  deriving DecidableEq, Repr

/-- R371: the summary of one code, with its bucket (R375) in units of 10^-9 token and the time it was last filled. -/
structure Summary where
  seq : Nat := 0
  count : Nat := 0
  suppr : Nat := 0
  unbinned : Nat := 0
  dropped : Nat := 0
  seen : Bool := false
  first : Stamp := {}
  last : Stamp := {}
  min : Int := 0
  minAt : Stamp := {}
  max : Int := 0
  maxAt : Stamp := {}
  /-- the 16 bins -/
  hist : List Nat := []
  /-- occurrences not logged since the code's previous OCC entry -/
  skip : Nat := 0
  /-- COUNT at the last OCC or TALLY entry of the code -/
  logged : Nat := 0
  bucket : Nat := 16000000000
  bucketAt : Nat := 0
  deriving DecidableEq, Repr

/-- R372: a log entry: type (1 OCC, 2 TALLY, 3 CKPT_BEGIN, 4 SUMMARY, 5 CKPT_END, 6 SESSION, 7 CLOSE, 8 CLEAR), and words 1 to 6. -/
structure LogEntry where
  seq : Nat
  code : Nat
  typ : Nat
  phase : Nat
  xtrm : Bool
  crit : Bool
  part : Nat
  body : List Nat
  deriving DecidableEq, Repr

/-- R368 to R382: the event unit and the recorder. -/
structure Recorder where
  /-- the on-die buffer, oldest first (R369) -/
  queue : List Occ := []
  /-- occurrences held in PD_AON retention, and the COUNT of each code whose further occurrences are counted only (R277) -/
  aon : List Occ := []
  aonCount : FMap Nat := []
  /-- the summaries, by code -/
  sums : FMap Summary := []
  /-- the log, newest first -/
  log : List LogEntry := []
  /-- sequence of the next entry -/
  next : Nat := 0
  /-- the summaries as the standing checkpoint holds them, and the sequence of its CKPT_BEGIN (R374) -/
  ckpt : FMap Summary := []
  ckptSeq : Option Nat := none
  /-- device-wide bucket in units of 10^-9 token, and when it was last filled (R375) -/
  devBucket : Nat := 4096000000000
  devAt : Nat := 0
  /-- entries dropped in the episode running; none when no episode runs -/
  episode : Option Nat := none
  /-- operating time in ns since manufacture (R369), and the seconds stored in the NOR identity sector -/
  opsNs : Nat := 0
  opsStored : Nat := 0
  cycles : Nat := 0
  /-- latched summary words EV_S_0 to EV_S_31 -/
  sumWin : List Nat := []
  /-- entry words EV_L_0 to EV_L_7 -/
  entWin : List Nat := []
  /-- an entry fetch in progress -/
  fetch : Bool := false
  deriving DecidableEq, Repr
/-- R384 to R397: what the panel and bring-up hold beside the GEN registers. -/
structure Panel where
  /-- the management Ethernet link is up (R387) -/
  ethUp : Bool := false
  /-- panel inputs are sampled and the touch baseline is set (R387) -/
  ready : Bool := false
  /-- R393: when the removal hold began and the residue then -/
  holdAt : Nat := 0
  holdFrom : Nat := 0
  /-- the press in progress has acted at 3 s (R391) -/
  acted : Bool := false
  /-- R392: how long the touch in progress has lasted, in 10 ms, and whether it counted as a touch -/
  touch : Nat := 0
  /-- the touch baseline, in 10^-4 counts -/
  touchBase : Option Nat := none
  /-- causes that stand until acknowledged, seated or the next bring-up: of bits 5, 8, 10, 13 and 14 of R392 -/
  latched : List Nat := []
  /-- R389: ROM start, event 0xF10C recorded, and the state of the first admission -/
  romAt : Nat := 0
  blocked : Bool := false
  /-- when the condition under attention cause 3 began -/
  stallAt : Option Nat := none
  /-- R389: the first admission's DRBG draw is made and its pass is being written -/
  first : Bool := false
  deriving DecidableEq, Repr
/-- R411: a self-test: its number, class, unit, disruption, state (1 waiting, 2 running, 3 passed, 4 failed, 5 aborted), progress and
faults found. -/
structure Trial where
  cls : Nat
  unit : Nat
  disrupt : Bool
  st : Nat
  prog : Nat
  faults : Nat
  deriving DecidableEq, Repr

/-- The whole state of the controller. -/
structure State where
  /-- commands waiting, first in first out -/
  pending : List Instr
  /-- commands that wait for the MP to return (R15), with the head they came through, 16 for MCTP, and SHARE, LEVEL and U of a fetched entry -/
  mpWait : List (Nat × Instr × Option (Nat × Nat × Bool))
  /-- what the last command sent out -/
  out : List Msg
  /-- the model's own: how many free values have been taken -/
  freeCtr : Nat
  /-- draws made from the DRBG (R358) -/
  drbgCtr : Nat
  /-- the register fields written since reset, by bit address (R406) -/
  regs : FMap Nat
  /-- R414: user values of the configuration record, by BAR0 offset -/
  norVal : FMap Nat
  /-- R414: user masks of the configuration record, by BAR0 offset -/
  norMask : FMap Nat
  /-- DRAM, by device physical address -/
  mem : List Host.Cell
  /-- lines held poisoned (R52) -/
  poisoned : Segs Bool
  poisonList : List PoisonRec
  /-- R50: poisoned lines found while the list was full, which join it as space frees -/
  poisonWait : List PoisonRec
  /-- R50: time of the poison list's overflow -/
  poisonOvf : Option Nat
  dmap : Segs UnitSt
  index : Segs IdxEntry
  walks : FMap Walk
  queues : FMap Queue
  tickets : List Ticket
  /-- R78: the pool has been exhausted in the episode running -/
  poolOut : Bool
  /-- R62: the queue that had the engine's last turn -/
  turnQ : Nat
  heads : FMap Head
  /-- R49: label storage areas, head k at k × 128 KiB -/
  lsa : List Host.Cell
  report : Report
  mr : Millrace
  /-- R47: alert thresholds kept in NOR: life used, high and low temperature -/
  alerts : List Nat
  /-- R10: the user calibration record in NOR, by quantity: user gain in 2^-16 and user offset. Quantities: 0 BOSC trim, 1 LFO trim,
  2 AOSC period, 3 and 4 terminal voltage of packs A and B, 5 and 6 their shunt current -/
  calib : FMap (Nat × Int)
  im : Image
  sv : Saving
  rs : Restore
  fc : Flash
  tw : Twine
  mc : MemCh
  /-- R244: bays A and B -/
  bayA : Bay
  bayB : Bay
  pw : Power
  ck : Clock
  twb : TwoWire
  fw : Firmware
  sec : Security
  ev : Recorder
  pan : Panel
  /-- R411: the tests, by number -/
  trials : FMap Trial
  deriving DecidableEq, Repr

/-- The reasons a command can stop with a fault. No command of this block stops the machine, so there is none the meanings
raise but this one. -/
inductive Fault where
  /-- Raised by an operation the spec gives no effect at all on a unit it calls absent; safe: the machine stops where the
  hardware may go on. -/
  | absentUnit
  deriving DecidableEq, Repr

/-- The reasons a command can be refused. -/
inductive Refusal where
  /-- No meaning written for the command; safe: nothing can be proved of its effect. -/
  | notModelled (mnemonic : String)
  deriving DecidableEq, Repr

/-- R271: the factory slots: nominal in mV (0 for VDD_CORE), power-up step, position in the step, group. -/
def railTable : List (Nat × Nat × Nat × Nat) :=
  [(12000, 1, 0, 0), (750, 2, 0, 1), (1800, 2, 1, 1), (0, 3, 0, 2), (850, 6, 0, 3), (1200, 6, 1, 3), (850, 7, 0, 4), (1200, 7, 1, 4),
   (750, 4, 0, 5), (1100, 4, 1, 5), (12000, 4, 2, 5), (750, 5, 0, 6), (2500, 5, 1, 6), (1200, 5, 2, 6)]

/-- R271, R293: the factory values of PW_RAIL_0 to PW_RAIL_13: CORE, PMB, EN, ORDER, STEP, VNOM and GRP; every slot answers PMBus. -/
def railFactory : FMap Nat :=
  ((List.range 14).zip railTable).flatMap fun e =>
    let k := (0xA0100 + 16 * e.1) * 8
    [(k + 21, if e.2.1 = 0 then 1 else 0), (k + 22, 1), (k + 23, 1), (k + 24, e.2.2.2.1), (k + 28, e.2.2.1), (k + 32, e.2.1),
     (k + 50, e.2.2.2.2)]

/-- The controller right after reset (R403): phase BRINGUP, every register at its Reset value, every queue, ticket and map
empty. -/
def State.reset : State :=
  { pending := [], mpWait := [], out := [], freeCtr := 0, drbgCtr := 0,
    -- R58: the default queue allocation of the factory bifurcation; R271: the factory slots of the reference module
    regs := ((List.range 8).flatMap fun p => [((0x30100 + 8 * p) * 8, 512 * p), ((0x30100 + 8 * p) * 8 + 16, 512)]) ++ railFactory,
    norVal := [], norMask := [],
    mem := [], poisoned := [], poisonList := [], poisonWait := [], poisonOvf := none, dmap := [], index := [], walks := [],
    queues := [], tickets := [], poolOut := false, turnQ := 4095, heads := [], lsa := [], report := {}, mr := {}
    , alerts := []
    , calib := []
    , im := {}
    , sv := {}
    , rs := {}
    , fc := {}
    , tw := {}
    , mc := {}
    , bayA := {}
    , bayB := {}
    , pw := {}
    , ck := {}
    , twb := {}
    , fw := {}
    , sec := {}
    , ev := {}
    , pan := {}
    , trials := []
  }

end Sys2Proof.Machine
end

