-- ==== Sys2Proof/Machine/Ops.lean ====
section
/-! DEFINITION. The named operations every meaning is built from: reading and writing register fields, DRAM lines, what the
controller sends out, MSI-X, occurrences of events, and the change of phase. -/

namespace Sys2Proof

/-- The head index a mailbox command acts as (R415, R316). -/
def Via.idx : Via → Nat
  | .head k => k
  | .mctp _ => 0

namespace Machine

/-- The key a mailbox's background command is held under: its head, or 16 for MCTP. -/
def bgKey : Via → Nat
  | .head k => k
  | .mctp _ => 16

/-- What a command answers. -/
abbrev Answer := Host.Outcome State Fault Refusal

/-- The bit address of the i-th instance of a field in BAR0. -/
def Field.key (f : Field) (i : Nat) : Nat := (f.off + f.stride * i) * 8 + f.lo

/-- The value of the i-th instance of a field. -/
def State.rdi (s : State) (f : Field) (i : Nat) : Nat := FMap.get f.rst s.regs (f.key i) % 2 ^ f.width

/-- Sets the i-th instance of a field. -/
def State.wri (s : State) (f : Field) (i v : Nat) : State :=
  { s with regs := FMap.put s.regs (f.key i) (v % 2 ^ f.width) }

/-- The value of a field. -/
def State.rd (s : State) (f : Field) : Nat := s.rdi f 0

/-- Sets a field. -/
def State.wr (s : State) (f : Field) (v : Nat) : State := s.wri f 0 v

/-- Whether a one-bit field reads 1. -/
def State.flag (s : State) (f : Field) : Bool := s.rd f == 1

/-- Whether the i-th instance of a one-bit field reads 1. -/
def State.flagi (s : State) (f : Field) (i : Nat) : Bool := s.rdi f i == 1

/-- Adds to the i-th instance of a count, which saturates (R402). -/
def State.addi (s : State) (f : Field) (i n : Nat) : State := s.wri f i (min (s.rdi f i + n) (2 ^ f.width - 1))

/-- Adds one to a count, which saturates. -/
def State.bump (s : State) (f : Field) : State := s.addi f 0 1

/-- Adds one to the i-th instance of a count. -/
def State.bumpi (s : State) (f : Field) (i : Nat) : State := s.addi f i 1

/-- Sets one bit of a field. -/
def State.setBit (s : State) (f : Field) (b : Nat) (v : Bool) : State :=
  s.wr f (if v then natSetBit (s.rd f) b else natClearBit (s.rd f) b)

/-- R406: where the register at a BAR0 offset, seen through head k, holds instances of a field: index and lowest bit. -/
def Field.spots (f : Field) (k off : Nat) : List (Nat × Nat) :=
  if f.stride = 0 then (if off = f.off then [(0, f.lo)] else [])
  else if f.stride = 1 then (if off = f.off then (List.range f.count).map fun i => (i, f.lo + 8 * i) else [])
  else if f.stride = 0x100000 then (if off = f.off then [(k, f.lo)] else [])
  else if off < f.off then []
  else if (off - f.off) % f.stride = 0 ∧ (off - f.off) / f.stride < f.count then [((off - f.off) / f.stride, f.lo)]
  else []

/-- The stated ranges of fields whose map says nothing of a value outside: offset, lowest bit, least and greatest value. -/
def fieldLimits : List (Nat × Nat × Nat × Nat) :=
  [(0x40020, 48, 500, 10000), (0x40020, 40, 1, 8), (0x40080, 32, 1, 100000), (0x40080, 0, 100, 7000), (0x40098, 0, 1, 511),
   (0x50008, 16, 500, 1200), (0x50008, 0, 500, 1200), (0x50010, 0, 0, 3600), (0x60000, 40, 1, 255), (0x60000, 8, 1, 64),
   (0x60048, 0, 1, 60), (0x70000, 32, 0, 10000), (0x80028, 0, 1, 160), (0x90000, 48, 10000, 30000), (0x90000, 32, 5, 80),
   (0x90000, 24, 20, 60), (0xA0000, 48, 50, 10000), (0xA0028, 32, 10, 1000), (0xA0100, 28, 1, 7), (0xB0050, 32, 1, 999),
   (0xD0010, 48, 10, 3600), (0xF0008, 56, 1, 255), (0xF0008, 48, 1, 8), (0xF0008, 32, 10, 1440), (0x40, 48, 10, 3600), (0x40, 40, 5, 100)]

/-- R401: a value written to a field; where the map states a range and nothing more, the nearest limit applies. -/
def Field.limit (f : Field) (v : Nat) : Nat :=
  match fieldLimits.find? fun e => e.1 == f.off && e.2.1 == f.lo with
  | some (_, _, lo, hi) => max lo (min hi v)
  | none => v

/-- The start of a command: nothing sent yet. -/
def State.begin (s : State) : State := { s with out := [] }

/-- Sends something out. -/
def State.send (s : State) (m : Msg) : State := { s with out := s.out ++ [m] }

/-- R6: words as bytes, least significant first. -/
def wordBytes (ws : List Nat) : List Nat := ws.flatMap fun w => (List.range 8).map fun i => w / 256 ^ i % 256

/-- Answers a mailbox command. Over MCTP (R317) an output of more than 8,160 bytes is refused, unless an offset was given: then the answer is
the output's length and its bytes from that offset up to the limit. -/
def State.reply (s : State) (v : Via) (r : Ret) (ws : List Nat) : State :=
  match v with
  | .head _ => s.send (.reply v r ws)
  | .mctp (some p) => s.send (.reply v r (8 * ws.length :: ((wordBytes ws).drop p).take 8156))
  | .mctp none => if 8160 < 8 * ws.length then s.send (.reply v .invalidPayloadLength []) else s.send (.reply v r ws)

/-- R317: over MCTP an answer that can be continued holds at most so many items. -/
def mctpMost (v : Via) (n most : Nat) : Nat :=
  match v with
  | .head _ => n
  | .mctp _ => min n most

/-- What an answer leaves, what it sent out following what was sent before. -/
def State.act (s : State) (a : Answer) : State :=
  match a with
  | .next t => { t with out := s.out ++ t.out }
  | _ => s

/-- Applies a function to the state once for each number of a list, in order. -/
def State.forEach (s : State) (l : List Nat) (f : State → Nat → State) : State := l.foldl f s

/-- Applies a function when a condition holds. -/
def State.whenB (s : State) (c : Bool) (f : State → State) : State := if c then f s else s

/-- Takes the next free value. -/
def State.skipFree (s : State) : State := { s with freeCtr := s.freeCtr + 1 }

/-- The free value the next taking gives. -/
def State.freeVal (s : State) : Nat := Config.free s.freeCtr

/-- What a page or an image whose bytes the message does not show holds: free values. -/
def State.freeList (s : State) (n : Nat) : List Nat := (List.range n).map fun i => Config.free (s.freeCtr + i)

/-- The number the next DRBG draw gives (R358). -/
def State.drbgVal (s : State) : Nat := Config.drbg s.drbgCtr

/-- Takes a DRBG draw. -/
def State.skipDrbg (s : State) : State := { s with drbgCtr := s.drbgCtr + 1 }

/-! ### Calibration (R10) -/

/-- A signed value in a field of w bits, two's complement. -/
def signedIn (w : Nat) (v : Int) : Nat := (v % (2 ^ w : Int)).toNat

/-- The signed value of a field of w bits. -/
def signedOf (w v : Nat) : Int := if 2 ^ (w - 1) ≤ v then (v : Int) - 2 ^ w else v

/-- A value held to plus or minus a bound. -/
def clampInt (b : Int) (v : Int) : Int := max (-b) (min b v)

/-- R10: the user gain, in 2^-16, and the user offset of a quantity; with no valid user record 1 and 0. -/
def State.userCal (s : State) (q : Nat) : Nat × Int := FMap.get (65536, 0) s.calib q

/-- R10: the effective value of a calibrated quantity: the factory value times the user gain, and the user offset. -/
def State.effective (s : State) (q : Nat) (factory : Int) : Int := factory * (s.userCal q).1 / 65536 + (s.userCal q).2

/-- R10, R299: the user offset of a quantity that makes its effective value `v`. -/
def State.userLearn (s : State) (q : Nat) (factory v : Int) : State :=
  { s with calib := FMap.put s.calib q ((s.userCal q).1, v - factory * (s.userCal q).1 / 65536) }

/-- R299: the factory values of the trims of BOSC and the LFO, and of the AOSC period. -/
def trimFactory (q : Nat) : Int :=
  if q = 0 then signedOf 16 (F.CK_TRIM_BOSC.rst % 2 ^ 16) else if q = 1 then signedOf 8 (F.CK_TRIM_LFO.rst % 2 ^ 8)
  else (F.CK_AOSC_PERIOD.rst : Nat)

/-! ### Phases and processors (R14 to R17) -/

/-- R17: the phase codes. -/
abbrev phOff : Nat := 0
abbrev phBringup : Nat := 1
abbrev phService : Nat := 2
abbrev phSave : Nat := 3
abbrev phLinger : Nat := 4
abbrev phDormant : Nat := 5
abbrev phRestore : Nat := 6
abbrev phRecovery : Nat := 7

/-- The current phase. -/
def State.phase (s : State) : Nat := s.rd F.GEN_PHASE_PHASE

/-- The phase is SERVICE or RESTORE. -/
def State.serving (s : State) : Bool := s.phase == phService || s.phase == phRestore

/-- R393: a removal hold is in force. -/
def State.removing (s : State) : Bool := s.rd F.GEN_PANEL_RMV != 0

/-- R348: the state of processor p, 0 the MP and 1 to 6 SP0 to SP5: 0 stopped, 1 loading, 2 running, 3 reloading. -/
def State.proc (s : State) (p : Nat) : Nat := natField (s.rd F.FW_PROC_STATE) (4 * p) 4

/-- Sets the state of processor p. -/
def State.setProc (s : State) (p v : Nat) : State :=
  s.wr F.FW_PROC_STATE (s.rd F.FW_PROC_STATE - s.proc p * 16 ^ p + (v % 16) * 16 ^ p)

/-- The MP runs. -/
def State.mpRuns (s : State) : Bool := s.proc 0 == 2

/-- SPn runs. -/
def State.spRuns (s : State) (n : Nat) : Bool := s.proc (n + 1) == 2

/-! ### Power domains (R19, R293) -/

/-- R293: the state of domain d in PW_DOM: 0 off, 1 on, 2 retention, 3 clock-gated. d is 0 PD_MGT, 1 PD_CORE, 2 to 9 PD_HP0 to PD_HP7, 10
and 11 PD_TW0 and PD_TW1, 12 to 17 PD_MCG0 to PD_MCG5, 18 to 25 PD_FCG0 to PD_FCG7. -/
def State.dom (s : State) (d : Nat) : Nat := natField (s.rd F.PW_DOM_DOM) (2 * d) 2

/-- Sets the state of a domain. -/
def State.setDom (s : State) (d v : Nat) : State :=
  s.wr F.PW_DOM_DOM (s.rd F.PW_DOM_DOM - s.dom d * 4 ^ d + (v % 4) * 4 ^ d)

/-- Sets the state of every domain of a list. -/
def State.setDoms (s : State) (l : List Nat) (v : Nat) : State := s.forEach l fun a d => a.setDom d v

/-- The domains of the heads, the Twine ports, the memory groups and the flash groups. -/
def domsHP : List Nat := (List.range 8).map (· + 2)
def domsTW : List Nat := [10, 11]
def domsMCG : List Nat := (List.range 6).map (· + 12)
def domsFCG : List Nat := (List.range 8).map (· + 18)

/-! ### Heads and MSI-X (R35, R407) -/

/-- R35, R56: head index k exists in the bifurcation in force and is enabled. -/
def State.headExists (s : State) (k : Nat) : Bool :=
  k < 16 && s.flagi F.HP_PORT_CFG_EN (k % 8) && (k < 8 || s.flagi F.HP_PORT_CFG_BIF (k % 8))

/-- R35, R58: head index k exists in the bifurcation in force, whether or not its port is enabled. -/
def State.headIndex (s : State) (k : Nat) : Bool := k < 8 || (k < 16 && s.flagi F.HP_PORT_CFG_BIF (k % 8))

/-- What head k holds beside its registers. -/
def State.head (s : State) (k : Nat) : Head := FMap.get {} s.heads k

/-- Changes what head k holds. -/
def State.setHead (s : State) (k : Nat) (h : Head) : State := { s with heads := FMap.put s.heads k h }

/-- The link of head k is in L0. -/
def State.headUp (s : State) (k : Nat) : Bool := s.rdi F.HP_LINK_STATE k == 3

/-- R407: signals a vector of head k: a masked vector sets its pending bit; otherwise the message leaves while the link is up. -/
def State.msix (s : State) (k vec : Nat) : State :=
  let h := s.head k
  if h.fmask || !(h.unmasked.contains vec) then
    s.setHead k { h with msixPend := if h.msixPend.contains vec then h.msixPend else vec :: h.msixPend }
  else if s.headUp k then s.send (.msix k vec) else s

/-- R407: signals vector 0 of every head. -/
def State.msix0 (s : State) : State :=
  s.forEach (List.range 16) fun t k => if t.headExists k then t.msix k 0 else t

/-- R311: pulls SB_ALERT_N low for an alert cause (0 phase, 1 readiness, 2 LED_ATTN) that TWB_SB.ALMASK enables. -/
def State.sbAlert (s : State) (cause : Nat) : State :=
  if natBit (s.rd F.TWB_SB_ALMASK) cause then { s with twb := { s.twb with alert := true } } else s

/-- R324: an interface changes state. -/
def State.setBus (s : State) (i st : Nat) : State := { s with twb := { s.twb with states := FMap.put s.twb.states i st } }

/-- R324: a transaction on an interface is over: unless the interface recovers or is in FAULT it is IDLE. -/
def State.busFree (s : State) (i : Nat) : State :=
  let t : State := { s with twb := { s.twb with txs := FMap.del s.twb.txs i } }
  if FMap.get 0 t.twb.states i = 1 then t.setBus i 0 else t

/-! ### The event unit (R368, R369, R375) -/

/-- R370: the data items of an occurrence packed under the layout of its code into two words. -/
def packItems (lay : List (Nat × Nat)) (items : List Nat) : Nat :=
  ((lay.zip items).foldl (fun a p => a + (p.2 % 2 ^ p.1.2) * 2 ^ p.1.1) 0) % 2 ^ 128

/-- R369: the stamp of an occurrence raised now. -/
def State.stamp (s : State) : Stamp :=
  { time := s.ck.ns, unc := s.rd F.CK_UNC_UNC, opsec := s.ev.opsNs / 1000000000, cycles := s.ev.cycles }

/-- R375: a bucket refilled for the time since it was last filled. -/
def refill (depth rate level since now : Nat) : Nat := min (depth * 1000000000) (level + rate * (now - since))

/-- R375: EV_CFG.RATE, larger values acting as 8 and 0 as the nearest limit. -/
def State.evRate (s : State) : Nat := max 1 (min 8 (s.rd F.EV_CFG_RATE))

/-- R375: EV_CFG.BURST, at least 1. -/
def State.evBurst (s : State) : Nat := max 1 (s.rd F.EV_CFG_BURST)

/-- R369, R371, R375: one raising of an event code: its COUNT increments, its bucket gives a token if it holds one, and the
occurrence is queued for the MP unless the on-die buffer of 4,096 is full. -/
def State.event (s : State) (code : Nat) (items : List Nat) : State :=
  let now := s.ck.mono
  let u := FMap.get {} s.ev.sums code
  let lvl := refill s.evBurst s.evRate u.bucket u.bucketAt now
  let tok := decide (1000000000 ≤ lvl)
  let u1 := { u with seq := u.seq + 1, count := u.count + 1, bucketAt := now,
                     bucket := if tok then lvl - 1000000000 else lvl }
  let d := packItems (Config.evLayout code) items
  if s.ev.queue.length < 4096 then
    let o : Occ := { code := code, d0 := d % 2 ^ 64, d1 := d / 2 ^ 64, stamp := s.stamp, phase := s.phase, count := u1.count, token := tok }
    { s with ev := { s.ev with queue := s.ev.queue ++ [o], sums := FMap.put s.ev.sums code u1 } }
  else
    let u2 := { u1 with suppr := u1.suppr + 1, unbinned := u1.unbinned + 1, dropped := u1.dropped + 1, skip := u1.skip + 1 }
    { s with ev := { s.ev with sums := FMap.put s.ev.sums code u2 } }

/-- R392: an attention cause that stands until acknowledged, seated or the next bring-up. -/
def State.latchAttn (s : State) (b : Nat) : State :=
  if s.pan.latched.contains b then s else { s with pan := { s.pan with latched := b :: s.pan.latched } }

/-! ### Phase change -/

/-- R17: the controller enters a phase: GEN_PHASE takes the old and new phase, the cause and the time of entry; event 0xF002
is recorded; a trial's time in SERVICE starts (R337); SB_ALERT_N falls when its phase cause is enabled (R311). -/
def State.enterPhase (s : State) (p cause : Nat) : State :=
  let old := s.phase
  let s : State := if p = phService then { s with fw := { s.fw with trialAt := s.ck.mono } } else s
  (((((s.event 0xF002 [old, p, cause]).wr F.GEN_PHASE_PREV old).wr F.GEN_PHASE_PHASE p).wr F.GEN_PHASE_CAUSE cause).wr
    F.GEN_PHASE_SINCE s.ck.ns).sbAlert 0

/-! ### The mailboxes (R47, R316, R344) -/

/-- How RECOVERY answers a command (R344): served, Media Disabled, or Unsupported. -/
inductive MbClass | recovery | memory | other
  deriving DecidableEq, Repr

/-- A command can arrive this way: the head's link is in L0 with PD_MGT powered, or MCTP is enabled and has an endpoint ID (R315). -/
def State.viaOpen (s : State) (v : Via) : Bool :=
  s.phase != phOff && s.phase != phDormant &&
  match v with
  | .head k => s.headExists k && s.headUp k
  | .mctp _ => s.dom 0 == 1 && s.flag F.TWB_SB_MCTPEN && s.rd F.TWB_SB_EID != 0

/-- R15, R316, R344: a mailbox command arrives. In RECOVERY it is answered by its class; while the MP is absent it waits; in
SAVE and LINGER only status commands are answered and others return Busy; otherwise it runs. -/
def State.mbox (s : State) (v : Via) (c : Instr) (cls : MbClass) (status : Bool) (f : State → State) : State :=
  let t := s.begin
  if !t.viaOpen v then t
  else if t.phase == phRecovery then
    match cls with
    | .recovery => f t
    | .memory => t.reply v .mediaDisabled []
    | .other => t.reply v .unsupported []
  else if !t.mpRuns then { t with mpWait := t.mpWait ++ [(bgKey v, c, none)] }
  else if (t.phase == phSave || t.phase == phLinger) && !status then t.reply v .busy []
  else f t

/-! ### The boot store (R334) -/

/-- R334: a program of the boot store begins: from IDLE, or nested in an erase, which is suspended unless it has been 64 times. -/
def State.norProgram (s : State) : State :=
  if s.rd F.FW_NOR_STATE = 0 then s.wr F.FW_NOR_STATE 1
  else if s.rd F.FW_NOR_STATE = 2 ∧ s.fw.susp < 64 then State.wr { s with fw := { s.fw with susp := s.fw.susp + 1 } } F.FW_NOR_STATE 5
  else s

/-! ### The DRBG (R358) -/

/-- R358: the outcome r of a command c on s; while the DRBG is stopped, a command that would draw waits instead. -/
def State.whenDrbg (s : State) (c : Instr) (r : State) : State :=
  if s.flag F.SEC_STS_DRBGOK || r.drbgCtr == s.drbgCtr then r
  else { s with out := [], sec := { s.sec with waits := s.sec.waits ++ [c] } }

/-! ### DRAM (R24, R42, R52) -/

/-- One byte of DRAM; a byte nothing has written reads zero (R30). -/
def memByte (m : List Host.Cell) (a : Nat) : Byte := FMap.get 0 m a

/-- Writes one byte, keeping the canonical form: zero bytes are not listed. -/
def memPut (m : List Host.Cell) (a : Nat) (b : Byte) : List Host.Cell :=
  if b = 0 then FMap.del m a else FMap.put m a b

/-- R5: byte i of a 64-byte line. -/
def lineByte (d : BitVec 512) (i : Nat) : Byte := BitVec.ofNat 8 (d.toNat / 256 ^ i)

/-- The bytes of a line joined, byte 0 lowest (R6). -/
def joinBytes : List Byte → Nat
  | [] => 0
  | b :: bs => b.toNat + 256 * joinBytes bs

/-- A number as n bytes, least significant first (R6). -/
def toBytes : Nat → Nat → List Byte
  | 0, _ => []
  | n + 1, v => BitVec.ofNat 8 v :: toBytes n (v / 256)

/-- Writes consecutive bytes. -/
def memWrite (m : List Host.Cell) (a : Nat) : List Byte → List Host.Cell
  | [] => m
  | b :: bs => memWrite (memPut m a b) (a + 1) bs

/-- Reads consecutive bytes. -/
def memRead (m : List Host.Cell) (a : Nat) : Nat → List Byte
  | 0 => []
  | n + 1 => memByte m a :: memRead m (a + 1) n

/-- R42: writes the enabled bytes of a line, from byte i on. -/
def memWriteLine (m : List Host.Cell) (a : Nat) (d : BitVec 512) (be : BitVec 64) : Nat → List Host.Cell
  | 0 => m
  | n + 1 =>
    let m' := memWriteLine m a d be n
    if be.getLsbD n then memPut m' (a + n) (lineByte d n) else m'

/-- The content of a line. -/
def memLine (m : List Host.Cell) (a : Nat) : BitVec 512 := BitVec.ofNat 512 (joinBytes (memRead m a 64))

/-- DRAM with the bytes of a range zero. -/
def memZero (m : List Host.Cell) (lo hi : Nat) : List Host.Cell := m.filter fun c => c.1 < lo || hi ≤ c.1

/-- The cells of a range. -/
def memCells (m : List Host.Cell) (lo hi : Nat) : List Host.Cell := m.filter fun c => lo ≤ c.1 && c.1 < hi

/-- The canonical form of a byte memory: addresses strictly rising, no byte that reads as an unlisted one does. -/
def memSorted : List Host.Cell → Bool
  | [] => true
  | [c] => decide (c.2 ≠ 0)
  | c :: d :: m => decide (c.2 ≠ 0) && decide (c.1 < d.1) && memSorted (d :: m)

/-- The canonical form of a byte memory. -/
abbrev Memory.wf (m : List Host.Cell) : Prop := memSorted m = true

end Machine

end Sys2Proof
end

