-- ==== Sys2Proof/Machine/Keys.lean ====
section
/-! DEFINITION. The keys derived from the device root key, and what they protect: the unseal check, slot and anchor tags, and ciphertext
(R138, R139, R232, R349 to R354). -/

namespace Sys2Proof.Machine

/-- R6: the n low bytes of a number, least significant first. -/
def leBytes (n v : Nat) : List Nat := (List.range n).map fun i => v / 256 ^ i % 256

/-- The n low bytes of a number, most significant first. -/
def beBytes (n v : Nat) : List Nat := (leBytes n v).reverse

/-- The number of bytes whose least significant stands first. -/
def leNat (l : List Nat) : Nat := l.foldr (fun b a => b % 256 + 256 * a) 0

/-- R350: the ASCII codes of a label. -/
def ascii (l : String) : List Nat := l.toList.map Char.toNat

/-- R350: the KDF in counter mode: the blocks of HMAC-SHA-384 over counter, label, zero, context and output length in bits. -/
def kdf (key label ctx : List Nat) (bits : Nat) : List Nat :=
  ((List.range (ceilDiv bits 384)).flatMap fun i =>
    let m := beBytes 4 (i + 1) ++ label ++ [0] ++ ctx ++ beBytes 4 bits
    (List.range 48).map fun j => Config.hmac384 key m j % 256).take (bits / 8)

/-- R349: the 256-bit device root key. -/
def drk : List Nat := (List.range 32).map fun i => Config.deviceRootKey i % 256

/-- R350: the image root key of an IMAGE_ID, and under it the tag key and the metadata key. -/
def imageRootKey (id : Nat) : List Nat := kdf drk (ascii "LAOLO") (leBytes 16 id) 256
def imageTagKey (id : Nat) : List Nat := kdf (imageRootKey id) (ascii "TAG") [] 256
def imageMetaKey (id : Nat) : List Nat := kdf (imageRootKey id) (ascii "META") [] 512

/-- R350: the key DK_n of share n under its KGEN. -/
def shareKey (n kgen : Nat) : List Nat := kdf drk (ascii "SHARE") (leBytes 1 n ++ leBytes 5 kgen) 512

/-- R350: the key of the hidden reserve under RGEN. -/
def reserveKey (rgen : Nat) : List Nat := kdf drk (ascii "RESERVE") (leBytes 8 rgen) 512

/-- R350: the bits from which the identity key is generated. -/
def identitySeed : List Nat := kdf drk (ascii "IDENTITY") [] 448

/-- R350, R352: the CHECK of a share under an owner key share: bits 22:0 of the unseal check. -/
def unsealCheck (id n kgen key : Nat) : Nat :=
  leNat (kdf drk (ascii "UNSEAL") (leBytes 16 id ++ leBytes 1 n ++ leBytes 5 kgen ++ leBytes 32 key) 256) % 2 ^ 23

/-- R139, R232: the ciphertext of a data unit. -/
def xts (key : List Nat) (tweak : Nat) (data : List Nat) : List Nat :=
  (List.range data.length).map fun i => Config.xts key tweak data i % 256

/-- R232: a 64-byte line of share n as DRAM holds it: its tweak is its device physical address over 64. -/
def lineCipher (n kgen line : Nat) (data : List Nat) : List Nat := xts (shareKey n kgen) line data

/-- R138: the tag of a slot or an anchor: GMAC under the image tag key with GEN in bytes 0 to 5 and a number in byte 6 of the 96-bit IV. -/
def imageTag (id gen n : Nat) (ad : List Nat) : Nat :=
  Config.gmac (imageTagKey id) (leBytes 6 gen ++ leBytes 1 n ++ List.replicate 5 0) ad % 2 ^ 128

end Sys2Proof.Machine
end

