-- ==== Sys2Proof/Machine/TwineOps.lean ====
section
/-! DEFINITION. The operations over Twine that other units use: pairing words, the outbound sequence, lines and sequenced
messages, the twin map, and entry to catch-up (R201 to R212). -/

namespace Sys2Proof.Machine

/-! ### Pairing words (R207) -/

/-- R207: pairing states. -/
abbrev psNone : Nat := 0
abbrev psPending : Nat := 1
abbrev psSync : Nat := 2
abbrev psLive : Nat := 3
abbrev psCatchup : Nat := 4
abbrev psLost : Nat := 5
abbrev psStale : Nat := 6
abbrev psHold : Nat := 7
abbrev psPromoted : Nat := 8

/-- The pairing word of share n. -/
def State.pair (s : State) (n : Nat) : Nat := s.rdi F.TW_S_PAIR n

/-- ROLE: 0 none, 1 primary, 2 replica. -/
def State.role (s : State) (n : Nat) : Nat := natField (s.pair n) 62 2

/-- PSTATE. -/
def State.pstate (s : State) (n : Nat) : Nat := natField (s.pair n) 58 4

/-- INCONS, MAPOVF, LOSSREP, PEERSHR and PAIRID. -/
def State.incons (s : State) (n : Nat) : Bool := natBit (s.pair n) 57
def State.mapovf (s : State) (n : Nat) : Bool := natBit (s.pair n) 56
def State.lossrep (s : State) (n : Nat) : Bool := natBit (s.pair n) 55
def State.peershr (s : State) (n : Nat) : Nat := natField (s.pair n) 48 6
def State.pairid (s : State) (n : Nat) : Nat := natField (s.pair n) 0 32

/-- A pairing word from its fields. -/
def pairWord (role pstate : Nat) (incons mapovf lossrep : Bool) (peershr pairid : Nat) : Nat :=
  role % 4 * 2 ^ 62 + pstate % 16 * 2 ^ 58 + bit01 incons * 2 ^ 57 + bit01 mapovf * 2 ^ 56 + bit01 lossrep * 2 ^ 55 +
    peershr % 64 * 2 ^ 48 + pairid % 2 ^ 32

/-! ### Sessions (R199, R206) -/

/-- R199: a session is open: the pair is PAIRED or DEGRADED. -/
def State.session (s : State) : Bool := s.rd F.TW_PAIR_STATE == 1 || s.rd F.TW_PAIR_STATE == 2

/-- The lowest port that carries the session. -/
def State.sessionPort (s : State) : Nat := if natBit (s.rd F.TW_PAIR_LINKS) 0 then 0 else 1

/-- R206: the STATE message of a share. -/
def State.stateMsg (s : State) (n : Nat) (last : Bool) : Msg :=
  .twine 0x03 s.sessionPort [n + s.peershr n * 2 ^ 6 + s.role n * 2 ^ 12 + s.pstate n * 2 ^ 14 + bit01 (s.lossrep n) * 2 ^ 18 +
    bit01 last * 2 ^ 19 + bit01 (s.incons n) * 2 ^ 20 + s.pairid n * 2 ^ 32]

/-- R206: while a session is open, a STATE message with LAST tells the peer of a share's change. -/
def State.tellShare (s : State) (n : Nat) : State :=
  if s.session && s.role n != 0 then s.send (s.stateMsg n true) else s

/-- R206: a share was deleted or unpaired: STATE with ROLE 0 and its former PAIRID. -/
def State.tellGone (s : State) (n pairid peershr : Nat) : State :=
  if s.session then s.send (.twine 0x03 s.sessionPort [n + peershr * 2 ^ 6 + 2 ^ 19 + pairid % 2 ^ 32 * 2 ^ 32]) else s

/-- Sets the pairing word of a share and tells the peer of the change. -/
def State.setPair (s : State) (n w : Nat) : State :=
  if s.pair n = w then s else (s.wri F.TW_S_PAIR n w).tellShare n

/-- Sets PSTATE. -/
def State.setPstate (s : State) (n p : Nat) : State :=
  s.setPair n (pairWord (s.role n) p (s.incons n) (s.mapovf n) (s.lossrep n) (s.peershr n) (s.pairid n))

/-- Sets INCONS. -/
def State.setIncons (s : State) (n : Nat) (b : Bool) : State :=
  s.setPair n (pairWord (s.role n) (s.pstate n) b (s.mapovf n) (s.lossrep n) (s.peershr n) (s.pairid n))

/-- Sets MAPOVF. -/
def State.setMapovf (s : State) (n : Nat) (b : Bool) : State :=
  s.setPair n (pairWord (s.role n) (s.pstate n) (s.incons n) b (s.lossrep n) (s.peershr n) (s.pairid n))

/-- Sets LOSSREP. -/
def State.setLossrep (s : State) (n : Nat) (b : Bool) : State :=
  s.setPair n (pairWord (s.role n) (s.pstate n) (s.incons n) (s.mapovf n) b (s.peershr n) (s.pairid n))

/-! ### The outbound stream (R201, R203, R204) -/

/-- Port p carries the session. -/
def State.linkIn (s : State) (p : Nat) : Bool := natBit (s.rd F.TW_PAIR_LINKS) p

/-- R201: the port a line of a unit travels on: on two links the lower-numbered port for an even unit. -/
def State.portOf (s : State) (unit : Nat) : Nat :=
  if s.linkIn 0 && s.linkIn 1 then unit % 2 else if s.linkIn 1 then 1 else 0

/-- Appends an item to the outbound buffer of a port. -/
def State.pushOut (s : State) (p : Nat) (i : OutItem) : State :=
  if p = 0 then { s with tw := { s.tw with q0 := s.tw.q0 ++ [i] } } else { s with tw := { s.tw with q1 := s.tw.q1 ++ [i] } }

/-- R204: the outbound buffer of a port holds 16 MiB, that is 262,144 lines. -/
def State.outFull (s : State) (p : Nat) : Bool :=
  decide (262144 ≤ (if p = 0 then s.tw.q0.length else s.tw.q1.length))

/-- R203: a sequenced message takes the next sequence and is queued on every link of the session. -/
def State.sendSeq (s : State) (ty : Nat) (ws : List Nat) : State :=
  let q := s.rd F.TW_OSEQ_VALUE + 1
  let t := s.wr F.TW_OSEQ_VALUE q
  let t := if s.linkIn 0 then t.pushOut 0 (.msg q ty (q :: ws)) else t
  if s.linkIn 1 then t.pushOut 1 (.msg q ty (q :: ws)) else t

/-- The sequence of an item. -/
def OutItem.seq : OutItem → Nat
  | .line q _ _ _ _ => q
  | .msg q _ _ => q

/-- R201: a MARK on port p, with the sequence before the first item still waiting there. -/
def State.sendMark (s : State) (p : Nat) : State :=
  if s.linkIn p then
    s.send (.twine 0x10 p [match (if p = 0 then s.tw.q0 else s.tw.q1).head? with | some i => i.seq - 1 | none => s.rd F.TW_OSEQ_VALUE])
  else s

/-- R201: a MARK goes out on every link of the session. -/
def State.sendMarks (s : State) : State := if s.session then (s.sendMark 0).sendMark 1 else s

/-- First drain unit of share n, and the unit after its last: 256 MiB is 65,536 units. -/
def State.shLo (s : State) (n : Nat) : Nat := s.rdi F.SHR_BASE_ADDR n * 65536
def State.shHi (s : State) (n : Nat) : Nat := (s.rdi F.SHR_BASE_ADDR n + s.rdi F.SHR_SIZE_ADDR n) * 65536

/-- R211: the runs to copy: every unit under FULL, otherwise the units set in either twin map, ascending. -/
def State.copyRuns (s : State) (n : Nat) (full : Bool) : List (Nat × Nat) :=
  if full then [(s.shLo n, s.shHi n)]
  else
    let set := (s.tw.mapPrev.filter fun e => e.2.2).foldl (fun (m : Segs Bool) e => Segs.fill m e.1 e.2.1 true) s.tw.mapCur
    ((Segs.within (s.shLo n) (s.shHi n) set).filter fun e => e.2.2).map fun e => (e.1, e.2.1)

/-- Units of a list of runs. -/
def runUnits (l : List (Nat × Nat)) : Nat := (l.map fun r => r.2 - r.1).foldl (· + ·) 0

/-- R211: the scan of share n begins, or begins again. -/
def State.startScan (s : State) (n : Nat) (full : Bool) : State :=
  let l := s.copyRuns n full
  { s with tw := { s.tw with copying := some (n, full), left := l, scan := runUnits l } }

/-- R221: progress of the scan in percent. -/
def State.scanProg (s : State) : Nat :=
  if s.tw.copying.isNone then 0 else if s.tw.scan = 0 then 100 else (s.tw.scan - runUnits s.tw.left) * 100 / s.tw.scan

/-- R211: the copy engine takes its next share: catch-ups first, in ascending share number; it sends CATCHUP_BEGIN. -/
def State.copyNext (s : State) : State :=
  if !s.session || s.tw.copying.isSome then s
  else
    let pick := fun (l : List Nat) => l.foldl (fun a k => match a with | none => some k | some j => some (min j k)) none
    match pick s.tw.catchups with
    | some n =>
      let full := s.mapovf n || s.tw.fulls.contains n ||
        (match FMap.find s.tw.peers (s.pairid n) with | some p => p.lossrep | none => false)
      let t := s.sendSeq 0x24 [s.peershr n + bit01 full * 2 ^ 8]
      let t := t.startScan n full
      let t := { t with tw := { t.tw with catchups := t.tw.catchups.filter (· != n), copyAt := s.ck.mono,
                                          clears := if full then n :: t.tw.clears else t.tw.clears } }
      ((((t.wr F.TW_COPY_KIND (if full then 3 else 2)).wr F.TW_COPY_SHARE n).wr F.TW_COPY_PROG 0).wr F.TW_COPY_UNITS 0).wr
        F.TW_COPY_WAIT (t.tw.catchups.length + t.tw.syncs.length)
    | none =>
      match pick s.tw.syncs with
      | none => ((s.wr F.TW_COPY_KIND 0).wr F.TW_COPY_WAIT 0).wr F.TW_COPY_PROG 0
      | some n =>
        let t := s.sendSeq 0x24 [s.peershr n + 2 ^ 8]
        let t := t.startScan n true
        let t := { t with tw := { t.tw with syncs := t.tw.syncs.filter (· != n), copyAt := s.ck.mono } }
        ((((t.wr F.TW_COPY_KIND 1).wr F.TW_COPY_SHARE n).wr F.TW_COPY_PROG 0).wr F.TW_COPY_UNITS 0).wr F.TW_COPY_WAIT
          (t.tw.catchups.length + t.tw.syncs.length)

/-- R211: a share enters catch-up and waits for the copy engine; a catch-up of it already begun starts again. -/
def State.enterCatchup (s : State) (n : Nat) : State :=
  let t := s.setPstate n psCatchup
  let run := match t.tw.copying with | some (m, _) => m == n | none => false
  if run then t.startScan n (match t.tw.copying with | some (_, f) => f | none => false)
  else if t.tw.catchups.contains n then t
  else { t with tw := { t.tw with catchups := n :: t.tw.catchups, catchEnd := FMap.del t.tw.catchEnd n } }

/-- R209, R211: a full sync whose JOIN went out after lines that were not sent waits for the copy engine again. -/
def State.againSync (s : State) (n : Nat) : State :=
  { s with tw := { s.tw with syncs := n :: s.tw.syncs, joinSeq := FMap.del s.tw.joinSeq n } }

/-- R211: lines of a full sync were not sent: its scan starts again; a sync whose JOIN is out is synced anew. -/
def State.restartSync (s : State) (n : Nat) : State :=
  match s.tw.copying with
  | some (m, f) => if m = n then s.startScan n f else if FMap.has s.tw.joinSeq n then s.againSync n else s
  | none => if FMap.has s.tw.joinSeq n then s.againSync n else s

/-- R204, R211: lines of share n were not sent: a TWINED share in the stream enters catch-up, and a full sync starts again. -/
def State.streamCut (s : State) (n : Nat) : State :=
  if s.role n != 1 then s
  else if s.rdi F.SHR_STATUS_MODE n == 2 && (s.pstate n == psLive || s.pstate n == psCatchup) then s.enterCatchup n
  else if s.pstate n == psSync then s.restartSync n else s

/-- R204: a line finds its outbound buffer full: every TWINED share in the stream enters catch-up, OVFL counts and event 0x7006 is
recorded; the scan of a full sync starts again. -/
def State.outOverflow (s : State) (port : Nat) : State :=
  let t := (s.bump F.TW_CNT_OVFL).event 0x7006 [port]
  (t.forEach (List.range 64) State.streamCut).copyNext

/-- R201, R210: a line accepted at ingress for a share with ROLE primary sets its unit's bit in the current twin map and, while a
session is open and the share streams, takes the next outbound sequence and joins its port's buffer. The lines of a share in HOLD or LOST take none
(DEDUCED, log 222). -/
def State.twineLine (s : State) (n line base : Nat) (d : BitVec 512) (poison : Bool) : State :=
  if s.role n != 1 then s
  else
    let t := { s with tw := { s.tw with mapCur := Segs.put s.tw.mapCur (line / 64) true } }
    if !(t.session && (t.pstate n == psLive || t.pstate n == psSync || t.pstate n == psCatchup)) then t
    else
      let p := t.portOf (line / 64)
      if t.outFull p then t.outOverflow p
      else
        let q := t.rd F.TW_OSEQ_VALUE + 1
        (t.wr F.TW_OSEQ_VALUE q).pushOut p (.line q (t.peershr n) (line - base) d poison)

end Sys2Proof.Machine
end

