-- ==== Sys2Proof/Machine/UnitOps.lean ====
section
/-! DEFINITION. The operations over shares, drain units, residue, the Weir and the Sluice (R21 to R34, R87 to R106). -/

namespace Sys2Proof.Machine

/-! ### Shares (R21 to R33) -/

/-- R25: mode codes. -/
abbrev mdVolatile : Nat := 0
abbrev mdHeld : Nat := 1
abbrev mdTwined : Nat := 2
abbrev mdReplica : Nat := 3
abbrev mdWritethru : Nat := 4
abbrev mdSealed : Nat := 5

/-- R33: readiness states. -/
abbrev shUndefined : Nat := 0
abbrev shPending : Nat := 1
abbrev shRestoring : Nat := 2
abbrev shHot : Nat := 3
abbrev shReady : Nat := 4
abbrev shSyncing : Nat := 5
abbrev shChanging : Nat := 6
abbrev shLocked : Nat := 7

/-- The mode in force and the readiness state of share n. -/
def State.shMode (s : State) (n : Nat) : Nat := s.rdi F.SHR_STATUS_MODE n
def State.shState (s : State) (n : Nat) : Nat := s.rdi F.SHR_STATUS_STATE n

/-- Share n is defined. -/
def State.shDefined (s : State) (n : Nat) : Bool := n < 64 && s.shState n != shUndefined

/-- R34: a mode that counts in residue. -/
def countedMode (m : Nat) : Bool := m == mdHeld || m == mdTwined || m == mdReplica || m == mdWritethru

/-- R34: share n is counted. -/
def State.counted (s : State) (n : Nat) : Bool := s.shDefined n && countedMode (s.shMode n)

/-- R33: share n permits host access. -/
def State.shOpen (s : State) (n : Nat) : Bool :=
  n < 64 && [shHot, shReady, shSyncing, shChanging].contains (s.shState n)

/-- R21: the share a drain unit belongs to. -/
def State.shareOf (s : State) (u : Nat) : Option Nat :=
  (List.range 64).find? fun n => s.shDefined n && s.shLo n ≤ u && u < s.shHi n

/-- R23: the grant of head k on share n: 1 read-only, 2 read-write, 0 and 3 none. -/
def State.grant (s : State) (n k : Nat) : Nat := natField (s.rdi F.SHR_HEADS_GRANT n) (2 * k) 2

/-- R33: a share changes readiness state: SHR_CHG takes its bit and vector 0 of every head is signalled. -/
def State.setShState (s : State) (n st : Nat) : State :=
  if s.shState n = st then s
  else (((s.wri F.SHR_STATUS_STATE n st).setBit F.SHR_CHG_FLAGS n true)).msix0

/-- R34: a share changes mode; SHR_CHG takes its bit. -/
def State.setShMode (s : State) (n m : Nat) : State :=
  if s.shMode n = m then s
  else (((s.wri F.SHR_STATUS_MODE n m).setBit F.SHR_CHG_FLAGS n true)).msix0

/-- R29 to R31: the change in progress on share n ends. -/
def State.endChange (s : State) (n : Nat) : State := (s.wri F.SHR_STATUS_TARGET n 7).wri F.SHR_STATUS_PROG n 0

/-- R30, R31: a change is in progress on share n. -/
def State.changing (s : State) (n : Nat) : Bool := s.rdi F.SHR_STATUS_TARGET n != 7

/-- Some share is HOT (R98). -/
def State.anyHot (s : State) : Bool := (List.range 64).any fun n => s.shState n == shHot

/-- R131: the IMAGE_ID as a number; 0 with none. -/
def State.imageNum (s : State) : Nat := match s.im.imageId with | some (i, _) => i | none => 0

/-- R350, R354: the CHECK of share n under an owner key share: the low 23 bits of the unseal check. -/
def State.checkOf (s : State) (n key : Nat) : Nat :=
  unsealCheck s.imageNum n (natField (FMap.get 0 s.sec.keyw n) 0 40) key

/-- R352: share n is owner-sealed. -/
def State.ownerSealed (s : State) (n : Nat) : Bool := natBit (FMap.get 0 s.sec.keyw n) 40

/-- R354: an owner key share yields the CHECK of share n. -/
def State.yields (s : State) (n key : Nat) : Bool := s.checkOf n key == natField (FMap.get 0 s.sec.keyw n) 41 23

/-- R352, R354: the key share of share n counts as present: it is not owner-sealed, or a loaded slot yields its CHECK. -/
def State.keyHere (s : State) (n : Nat) : Bool := !s.ownerSealed n || s.sec.slots.any fun e => s.yields n e.2

/-! ### Drain units (R87 to R90) -/

/-- The current second, modulo 1,024 (R87). -/
def State.nowSec (s : State) : Nat := s.ck.mono / 1000000000 % 1024

/-- The dirty-map entry of a unit. -/
def State.unit (s : State) (u : Nat) : UnitSt := Segs.get {} s.dmap u

/-- Sets the dirty-map entry of a unit. -/
def State.setUnit (s : State) (u : Nat) (e : UnitSt) : State := { s with dmap := Segs.put s.dmap u e }

/-- R89: residue in units: units DIRTY, DRAINING or REDIRTY. Only units of counted shares are in those states (R88). -/
def State.residue (s : State) : Nat := (s.dmap.map fun e => if e.2.2.st != 0 then e.2.1 - e.1 else 0).foldl (· + ·) 0

/-- R34: SHR_DIRTY_n: counted units of a share. -/
def State.shDirty (s : State) (n : Nat) : Nat :=
  if s.shDefined n then Segs.count (fun e => e.st != 0) (s.shLo n) (s.shHi n) s.dmap else 0

/-- R96, R203: the unit lies in the part of a release walk's range that its walker has not reached; for a RELEASE received over Twine a
write on a link counts only once that link's copy has come. -/
def State.walkHit (s : State) (u : Nat) (port : Option Nat) : Bool :=
  s.walks.any fun w => w.2.lo ≤ u && u < w.2.hi && (match port with | some p => !w.2.twine || natBit w.2.links p | none => true)

/-- R88, R90, R96: the entry of a unit of a counted share after a write in second `sec`. -/
def UnitSt.written (e : UnitSt) (sec : Nat) (hit : Bool) : UnitSt :=
  let later := sec != e.stamp
  let k := e.keep || hit
  if e.st = 0 then { st := 1, stamp := sec, hot := false, wanted := false, keep := k }
  else if e.st = 2 then { e with st := 3, hot := true, keep := k }
  else { e with hot := e.hot || later, keep := k }

/-- R88: a write marks a unit; `port` is the Twine port it came by, if any. -/
def State.markUnit (s : State) (u : Nat) (port : Option Nat) : State :=
  s.setUnit u ((s.unit u).written s.nowSec (s.walkHit u port))

/-- R146: the slots of Skeins in flight whose unit lies in a range become void. -/
def Skein.void (k : Skein) (lo hi : Nat) : Skein :=
  { k with slots := k.slots.map fun x => match x with | some u => if lo ≤ u.unit ∧ u.unit < hi then none else some u | none => none }

/-- R146: every slot in flight of a unit range becomes void. -/
def State.voidSlots (s : State) (lo hi : Nat) : State := { s with im := { s.im with flight := s.im.flight.map fun k => k.void lo hi } }

/-- R88: the units of a range leave residue with all flags clear; no Skein in flight revives them. -/
def State.cleanRange (s : State) (lo hi : Nat) : State := State.voidSlots { s with dmap := Segs.cut lo hi s.dmap } lo hi

/-- R94: the index entries of a range set to one value. -/
def State.setIndex (s : State) (lo hi : Nat) (e : IdxEntry) : State :=
  { s with index := match e with | .zero => Segs.cut lo hi s.index | _ => Segs.fill s.index lo hi e }

/-- The location-index entry of a unit. -/
def State.idx (s : State) (u : Nat) : IdxEntry := Segs.get .zero s.index u

/-! ### The Weir (R98 to R101) -/

/-- R98: the inputs of the Weir: deliverable power in W, usable energy in J, save ceiling in bytes/s, whether clocks are degraded. -/
structure WeirIn where
  pd : Nat
  eu : Nat
  rfl : Nat
  degraded : Bool
  deriving DecidableEq, Repr

/-- R99: the terms of the Weir, each times `k` so that no rounding enters the comparison. -/
structure WeirTerms where
  k : Nat
  wp : Nat
  we : Nat
  wt : Nat
  wc : Option Nat
  wh : Nat
  ceil : Nat
  rcap : Nat
  deriving DecidableEq, Repr

/-- R110: T_WIN in ms, held to its range. -/
def State.tWin (s : State) : Nat := max 500 (min 10000 (s.rd F.MR_SAVEPWR_WINDOW))

/-- R110: N_F, held to its range. -/
def State.nF (s : State) : Nat := max 1 (min 8 (s.rd F.MR_SAVEPWR_NF))

/-- R98: T_MRG in ns: 25 µs for each ingress line of the enabled ports while a share is HOT. -/
def State.tMrg (s : State) : Nat :=
  if s.anyHot then 25000 * 8192 * ((List.range 8).filter fun p => s.flagi F.HP_PORT_CFG_EN p).length else 0

/-- R99: the terms for given inputs. MR_SAVEPWR.KP has no stated range, and the terms divide by K_P: 0 acts as 1 (DESIGN CHOICE, log 189). -/
def State.weirTerms (s : State) (i : WeirIn) : WeirTerms :=
  let nf := s.nF
  let kp := max 1 (s.rd F.MR_SAVEPWR_KP)
  let win := s.tWin
  let pfix := s.rd F.MR_SAVEPWR_PFIX
  let mrg := s.tMrg
  let k := 1000000000 * nf * kp
  let rcap := if i.degraded then min i.rfl 20000000000 else i.rfl
  { k := k
    wp := (i.pd - pfix) * win * 100000000 * nf * 1000000000
    we := (i.eu * 1000000000 - nf * pfix * (win * 1000000 + 50000000 + mrg)) * 100 * 1000000000
    wt := i.rfl * (win - 60) * 1000000 * nf * kp
    wc := if s.ck.stopped.any (· != 1) then some 0 else if i.degraded then some (20000000000 * (win - 60) * 1000000 * nf * kp) else none
    wh := rcap * (s.rd F.MR_HOLDUP_THU * 1000 - 110000000 - mrg) * nf * kp
    ceil := max 1 (s.rd F.MR_WEIR_CEIL_CEIL) * 2 ^ 30 * k
    rcap := rcap }

/-- R99: the Weir before rounding, times `k`. -/
def WeirTerms.weir (t : WeirTerms) : Nat :=
  let w := min (min (max t.wp t.wh) (max t.we t.wh)) (min t.wt t.ceil)
  match t.wc with | none => w | some c => min w c

/-- R99: the Weir in whole GiB. -/
def WeirTerms.gib (t : WeirTerms) : Nat := t.weir / (t.k * 2 ^ 30)

/-- R100: the BIND code of the term that decided: the lowest code among the terms equal to the Weir. -/
def WeirTerms.bind (t : WeirTerms) : Nat :=
  let w := t.weir
  if t.ceil = w then 0
  else if t.wp = w ∧ t.wh ≤ t.wp then 1
  else if t.we = w ∧ t.wh ≤ t.we then 2
  else if t.wt = w then 3
  else if t.wc = some w then 4
  else 5

/-- R98, R101: the inputs in force, or as if the events of a set had occurred: bit 0 pack A removed, bit 1 pack B, bit 2 BOSC lost. -/
def State.weirIn (s : State) (ev : Nat) : WeirIn :=
  let a := if natBit ev 0 then 0 else 1
  let b := if natBit ev 1 then 0 else 1
  { pd := a * s.rdi F.EN_PWR_PD 0 + b * s.rdi F.EN_PWR_PD 1
    eu := a * s.rdi F.EN_ENG_EU 0 + b * s.rdi F.EN_ENG_EU 1
    rfl := s.fc.rfl
    degraded := s.flag F.CK_STS_DEGRADED || natBit ev 2 }

/-! ### Attention (R390, R392) -/

/-- R420: Tj lies below the lower bound of the ordering code. -/
def State.tooCold (s : State) : Bool := decide (s.pw.tj < -40) || (decide (s.pw.tj < 0) && s.rd F.GEN_ID_GRADE != 1)

/-- R392: attention cause b is present. -/
def State.attnCause (s : State) (b : Nat) : Bool :=
  match b with
  | 0 => s.pan.blocked && !s.flag F.GEN_ADMIT_ADMITTED
  | 1 => s.flag F.CK_STS_CLKFAULT || s.rd F.CK_STS_STATE == 3 || s.rd F.CK_STS_STATE == 4
  | 2 => [0, 1].any fun i => let st := s.rdi F.EN_STS_STATE i
      st == 9 || st == 2 || (st != 0 && st != 1 && s.rdi F.EN_SOC_SOH i != 0 && decide (s.rdi F.EN_SOC_SOH i < 80))
  | 3 => match s.pan.stallAt with | some a => decide (a + 10000000000 ≤ s.ck.mono) | none => false
  | 4 => s.fc.tgts.any fun e => e.2.state == 3
  | 5 => s.rd F.MC_STAT_FAILED != 0 || s.pan.latched.contains 5
  | 6 => !s.pw.off.isEmpty
  | 7 => (s.rd F.TW_PAIR_STATE == 4 && (List.range 64).any fun n => s.shDefined n && s.role n != 0) ||
      [0, 1].any fun p => s.flagi F.TW_PORT_MISMATCH p || s.flagi F.TW_PORT_LOOPBACK p
  | 8 => s.phase == phRecovery || s.fw.mpDead || s.pan.latched.contains 8
  | 9 => !(s.flag F.SEC_STS_PUFOK && s.flag F.SEC_STS_DRBGOK)
  | 11 => s.report.trunc || s.report.losses.any fun l => FMap.get 0 s.report.grants l.share != 0
  | 12 => s.rd F.PW_OP_THERM != 0 || (s.mc.chans.any fun e => decide (95 < e.2.temp)) || s.tooCold
  | n => s.pan.latched.contains n

/-- R392: the causes present, as GEN_ATTN.CAUSE shows them. -/
def State.attnCauses (s : State) : Nat := ((List.range 15).filter s.attnCause).foldl (fun a b => a + 2 ^ b) 0

/-- R390: LED_ATTN by attention: 3 (4 Hz), 1 (on) or 0. -/
def State.ledByAttn (s : State) : Nat :=
  let live := fun v => Nat.land v (Nat.xor (s.rd F.GEN_ATTN_SIL) (2 ^ 16 - 1))
  if live (s.rd F.GEN_ATTN_NEW) ≠ 0 then 3 else if live (s.rd F.GEN_ATTN_CAUSE) ≠ 0 then 1 else 0

/-- R390: LED_ATTN's pattern, but for locate. -/
def State.ledAttn (s : State) : Nat :=
  let p := s.phase
  if p = phOff ∨ p = phDormant ∨ p = phLinger then 0 else if p = phRecovery then 1 else s.ledByAttn

/-- R392: a cause that arises is NEW, and one that clears is silenced no longer; LED_ATTN lighting pulls SB_ALERT_N where enabled (R311). -/
def State.settleAttn (s : State) : State :=
  let c := s.attnCauses
  let old := s.rd F.GEN_ATTN_CAUSE
  if c = old then s
  else
    let rise := Nat.land c (Nat.xor old (2 ^ 16 - 1))
    let t := ((s.wr F.GEN_ATTN_CAUSE c).wr F.GEN_ATTN_NEW (Nat.lor (s.rd F.GEN_ATTN_NEW) rise)).wr F.GEN_ATTN_SIL
      (Nat.land (s.rd F.GEN_ATTN_SIL) c)
    if s.ledAttn = 0 ∧ t.ledAttn ≠ 0 then t.sbAlert 2 else t

/-- The Weir in force, in bytes. -/
def State.weirBytes (s : State) : Nat := s.rd F.MR_WEIR_WEIR * 2 ^ 30

/-! ### The Sluice (R102, R103) -/

/-- R102: heads, while powered (R19), that hold a read-write grant on a counted share. -/
def State.sluiceHeads (s : State) : List Nat :=
  (List.range 16).filter fun k => s.headExists k && s.dom (2 + k % 8) == 1 && (List.range 64).any fun n => s.counted n && s.grant n k == 2

/-- R102, R103: the step of the Sluice: 0 to 7, 8 stalled, 15 below the sluice mark. -/
def State.sluiceStep (s : State) : Nat :=
  let r := s.residue * 4096
  let w := s.weirBytes
  let ms := w * s.rd F.MR_MARKS_SLUICE
  if w ≤ r then 8
  else if s.flag F.MR_SLUICE_STALL && decide (w < r + s.rd F.MR_MARKS_HYST * 2 ^ 20) then 8
  else if r * 100 < ms then 15
  else 8 * (r * 100 - ms) / (w * 100 - ms)

/-- R43: the write credits of a head: 8,192 for x16, 4,096 for x8. -/
def State.headCredits (s : State) (k : Nat) : Nat := if s.flagi F.HP_PORT_CFG_BIF (k % 8) then 4096 else 8192

/-- R91: the drain state: 0 IDLE, 1 NORMAL, 2 PRESSURE, 3 OVERHANG, 4 PAUSED. -/
def State.drainState (s : State) : Nat :=
  let r := s.residue * 4096
  let w := s.weirBytes
  if !s.spRuns 0 || !s.serving then 4
  else if s.removing || decide (w < r) then 3
  else if s.mr.testWaits || decide (w * s.rd F.MR_MARKS_HIGH ≤ r * 100) then 2
  else if w * s.rd F.MR_MARKS_LOW ≤ r * 100 then 1
  else 0

/-- R394: the safe conditions: nothing dirty, no Skein in flight, no release walk, and hold-up or energy for 112 ms. -/
def State.removalSafe (s : State) : Bool :=
  s.residue == 0 && s.rd F.MR_DRAIN_INFL == 0 && s.walks.isEmpty &&
    (decide (112000 ≤ s.rd F.MR_HOLDUP_THU) || decide (s.rd F.MR_SAVEPWR_PFIX * 112 ≤ s.rd F.EN_SUM_EU * 1000))

/-- R101: the inputs of SP0's next candidate reflect an event. -/
def State.reflectEvent (s : State) (b : Nat) : State := { s with mr := { s.mr with reflected := natSetBit s.mr.reflected b } }

/-! ### The wear bucket (R104, R105) -/

/-- R110: MR_WEAR.DEPTH in bytes. -/
def State.wearDepth (s : State) : Nat := max 1 (min 100000 (s.rd F.MR_WEAR_DEPTH)) * 1000000000

/-- R110: MR_DRAIN.RATE: MB programmed over the last second. -/
def State.drainRate (s : State) : Nat :=
  ((s.mr.progs.filter fun p => decide (s.ck.mono < p.1 + 1000000000)).map Prod.snd).foldl (· + ·) 0 / 1000000

/-- R104, R105, R110: programmed flash debited from the bucket; below minus DEPTH event 0x3006 is recorded. The programs of the last second
are kept for MR_DRAIN.RATE. -/
def State.debit (s : State) (n : Nat) : State :=
  let b := s.mr.bucket - (n : Int)
  let low := decide (b < -(s.wearDepth : Int))
  let progs := (s.ck.mono, n) :: s.mr.progs.filter fun p => decide (s.ck.mono < p.1 + 1000000000)
  let t := { s with mr := { s.mr with bucket := b, debtSeen := low, progs := progs } }
  if low && !s.mr.debtSeen then t.event 0x3006 [(b % (2 ^ 64 : Int)).toNat] else t

end Sys2Proof.Machine
end

