-- ==== Sys2Proof/Machine/FlashOps.lean ====
section
/-! DEFINITION. The flash complex's operations: channels, targets, blocks, the save ceiling and the pool (R172 to R195). -/

namespace Sys2Proof.Machine

/-! ### Targets and blocks (R132, R172, R189, R190) -/

/-- R190: target states. -/
abbrev tgAbsent : Nat := 0
abbrev tgHealthy : Nat := 1
abbrev tgTesting : Nat := 2
abbrev tgBound : Nat := 3
abbrev tgRetired : Nat := 4
abbrev tgExcluded : Nat := 5

/-- The target T and its state; channel c; the block at an address. -/
def State.tgt (s : State) (t : Nat) : Target := FMap.get {} s.fc.tgts t
def State.chan (s : State) (c : Nat) : Chan := FMap.get {} s.fc.chans c
def State.blk (s : State) (b : Nat) : Blk := Segs.get {} s.fc.blocks b

/-- Sets a target, a channel, a block. -/
def State.setTgt (s : State) (t : Nat) (x : Target) : State := { s with fc := { s.fc with tgts := FMap.put s.fc.tgts t x } }
def State.setChan (s : State) (c : Nat) (x : Chan) : State := { s with fc := { s.fc with chans := FMap.put s.fc.chans c x } }
def State.setBlk (s : State) (b : Nat) (x : Blk) : State := { s with fc := { s.fc with blocks := Segs.put s.fc.blocks b x } }

/-- R132: the target of a block address, and the channel of a target. -/
def blkTgt (b : Nat) : Nat := b / 4096
def tgtChan (t : Nat) : Nat := t / 16

/-- R133: blocks of the reference die. -/
def blocksPerTarget : Nat := 2264

/-- R148: blocks 0 to 7 of volume 0 of every channel are anchor blocks. -/
def anchorBlk (b : Nat) : Bool := b / 4096 % 16 == 0 && decide (b % 4096 < 8)

/-- A target is HEALTHY. -/
def State.healthy (s : State) (t : Nat) : Bool := (s.tgt t).state == tgHealthy

/-- The targets of channel c. -/
def chanTgts (c : Nat) : List Nat := (List.range 16).map (· + 16 * c)

/-- R19: flash channel c is known to hold no volume. -/
def State.chanEmpty (s : State) (c : Nat) : Bool := (chanTgts c).all fun t => FMap.has s.fc.tgts t && (s.tgt t).state == tgAbsent

/-- R19: flash group g has a channel that is not known to be unpopulated. -/
def State.groupHeld (s : State) (g : Nat) : Bool := !((List.range 8).all fun i => s.chanEmpty (8 * g + i))

/-- R19: the domains of the flash groups that are ever On. -/
def State.fcgDoms (s : State) : List Nat := domsFCG.filter fun d => s.groupHeld (d - 18)

/-- R190: a channel is bound while any of its targets is RETIRED_BOUND, TESTING or EXCLUDED. -/
def State.chanBound (s : State) (c : Nat) : Bool :=
  (chanTgts c).any fun t => [tgBound, tgTesting, tgExcluded].contains (s.tgt t).state

/-- R173: the rate of a code in MT/s. -/
def rateMT (r : Nat) : Nat := [800, 1200, 1600, 1600, 2400, 3200, 3600].getD r 0

/-- R191: the share of the save ceiling of channel c, times 36,000. -/
def State.chanShare (s : State) (c : Nat) : Nat :=
  let x := s.chan c
  if !x.trained || x.retired || s.chanBound c then 0 else rateMT x.rate * min 10 ((chanTgts c).filter s.healthy).length

/-- R191: channels with a share above 0, and the bus term in bytes/s. -/
def State.usable (s : State) : Nat := ((List.range 64).filter fun c => s.chanShare c != 0).length
def State.busTerm (s : State) : Nat :=
  180000000000 * (((List.range 64).map s.chanShare).foldl (· + ·) 0) / (36000 * 64)

/-! ### Errors of a page read (R133, R134) -/

/-- R133: the bits of each of a page's 16 codewords that read other than programmed, from the bit places read wrong; a place named twice
reads right again. -/
def codewordErrors (flips : List Nat) : List Nat :=
  (List.range 16).map fun i => ((flips.filter fun x => x / 9328 == i).eraseDups.filter fun x => flips.count x % 2 == 1).length

/-- R133, R134: every codeword of a page is corrected with at most n bits: 72 is what the inner code corrects, 8 what a seal may need. -/
def pageDecodes (n : Nat) (flips : List Nat) : Bool := (codewordErrors flips).all fun e => decide (e ≤ n)

/-! ### The pool (R95, R191) -/

/-- Sealed free blocks of the HEALTHY targets, anchor blocks apart. -/
def State.sealedFree (s : State) : Nat :=
  (s.fc.tgts.map fun e => if e.2.state == tgHealthy then
    Segs.count (fun (b : Blk) => b.st == 4) (e.1 * 4096 + (if e.1 % 16 = 0 then 8 else 0)) (e.1 * 4096 + 4096) s.fc.blocks
    else 0).foldl (· + ·) 0

/-- R95, R191: P_PAY: the payload of the pre-erased Skein space: whole bundles of sealed blocks, and the pages left in the open one. -/
def State.payBytes (s : State) : Nat :=
  let left := match s.im.dataB with
    | some b => match FMap.find s.im.bundles b with
      | some x => if x.closed then 0 else 1152 - x.next
      | none => 0
    | none => 0
  (s.sealedFree / 32 * 1151 + left) * 458752

/-- Blocks on the erasing list (R195). -/
def State.listed (s : State) : Nat :=
  (s.fc.blocks.map fun e => if [1, 2, 3, 8].contains e.2.2.st then e.2.1 - e.1 else 0).foldl (· + ·) 0

/-- R191: the pool term in bytes/s. -/
def State.poolTerm (s : State) : Nat := s.payBytes * 1000 / (s.nF * s.tWin)

/-- R191: R_FL. -/
def State.ceilNow (s : State) : Nat := if s.usable < 32 then 0 else min s.busTerm s.poolTerm

/-- Targets in a state of a list. -/
def State.countTgts (s : State) (l : List Nat) : Nat := (s.fc.tgts.filter fun e => l.contains e.2.state).length

/-- R191, R195: SP2 recomputes R_FL after a change; FC_BOUND, FC_CEIL, FC_POOL and FC_RET follow; a change of 1 % or more is event
0x600A. -/
def State.ceilUpdate (s : State) (cause : Nat) : State :=
  if !s.spRuns 2 then s
  else
    let old := s.fc.rfl
    let new := s.ceilNow
    let bound := (List.range 64).foldl (fun a c => if s.chanShare c = 0 then a + 2 ^ c else a) 0
    let up := (List.range 64).foldl (fun a c => if (s.chan c).trained && !(s.chan c).retired then a + 2 ^ c else a) 0
    let t : State := { s with fc := { s.fc with rfl := new } }
    let t := ((t.wr F.FC_BOUND_BITS bound).wr F.FC_UP_BITS up).wr F.FC_CEIL_RFL (new / 100000000)
    let t := ((t.wr F.FC_CEIL_BUS (s.busTerm / 100000000)).wr F.FC_CEIL_POOL (min 0xFFFF (s.poolTerm / 100000000))).wr
      F.FC_CEIL_USABLE s.usable
    let t := (t.wr F.FC_POOL_PAY (s.payBytes / 1000000000)).wr F.FC_POOL_LISTED s.listed
    let t := (((t.wr F.FC_RET_WAITQ s.fc.waitq.length).wr F.FC_RET_ABSENT (1024 - s.countTgts [1, 2, 3, 4, 5])).wr F.FC_RET_RETIRED
      (s.countTgts [tgBound, tgRetired])).wr F.FC_RET_BOUNDT (s.countTgts [tgBound, tgTesting, tgExcluded])
    if old ≠ new ∧ old ≤ 100 * (max old new - min old new) then (t.event 0x600A [old / 100000000, new / 100000000, cause]).settleAttn else t.settleAttn

/-! ### The save rate (R118, R119, R290) -/

/-- R290: a change of operating point is sought; one asked for during a change waits. -/
def State.seekOp (s : State) (op : Nat) : State :=
  if s.flag F.PW_OP_BUSY then { s with pw := { s.pw with opWait := some op } }
  else if s.rd F.PW_OP_CUR = op then s.wr F.PW_OP_TARGET op
  else State.wr { s.wr F.PW_OP_TARGET op with pw := { s.pw with opHalf := false } } F.PW_OP_BUSY 1

/-- R118: R_P in bytes/s. -/
def State.packRate (s : State) (pd : Nat) : Nat := (pd - s.rd F.MR_SAVEPWR_PFIX) * 100000000000 / max 1 (s.rd F.MR_SAVEPWR_KP)

/-- R118: R_S and R_CAP in bytes/s from the inputs in force. -/
def State.saveRate (s : State) : Nat × Nat :=
  let i := s.weirIn 0
  let w := s.weirTerms i
  (if w.wp ≤ w.wh then w.rcap else min w.rcap (s.packRate i.pd), w.rcap)

/-- R118: the save operating point of a rate. -/
def saveOp (rs : Nat) : Nat := if 90000000000 < rs then 1 else if 30000000000 < rs then 2 else 3

/-- R118, R119, R129: the rate in force becomes lower; the operating point moves down with it, never up. Cause 1 pack removal, 2 BOSC loss, 3
target retirement, 4 save-bus warning. -/
def State.lowerRate (s : State) (rs rcap cause : Nat) : State :=
  if s.sv.rs ≤ rs then { s with sv := { s.sv with rcap := min s.sv.rcap rcap } }
  else
    let op := max s.sv.op (saveOp rs)
    let t : State := { s with sv := { s.sv with rs := rs, rcap := min s.sv.rcap rcap, op := op } }
    let t := (t.wr F.SPN_SRATE_MIN (min (t.rd F.SPN_SRATE_MIN) (rs / 100000000))).wr F.SPN_SRATE_OP op
    (t.event 0x4007 [cause, rs / 100000000]).seekOp op

/-- R119: R_S is recomputed after an event in a Save. -/
def State.recompute (s : State) (cause : Nat) : State :=
  if s.phase = phSave then s.lowerRate s.saveRate.1 s.saveRate.2 cause else s

/-! ### Blocks (R176, R186, R187) -/

/-- R195: FC_WEAR follows the erase counts of usable blocks and the grown bad blocks. -/
def State.wearUpdate (s : State) : State :=
  let l := s.fc.blocks.filter fun e => e.2.2.st != 7
  let n := (l.map fun e => e.2.1 - e.1).foldl (· + ·) 0
  let sum := (l.map fun e => (e.2.1 - e.1) * e.2.2.ers).foldl (· + ·) 0
  let bad := (s.fc.blocks.map fun e => if e.2.2.st == 7 then e.2.1 - e.1 else 0).foldl (· + ·) 0
  ((s.wr F.FC_WEAR_MAX ((l.map fun e => e.2.2.ers).foldl max 0)).wr F.FC_WEAR_MEAN (sum / max 1 n)).wr F.FC_WEAR_BAD bad

/-- R176, R186, R187: a block is grown bad and never used again. -/
def State.growBad (s : State) (b : Nat) : State :=
  let x := s.blk b
  if x.st = 7 then s
  else ((s.setBlk b { x with st := 7 }).event 0x6005 [blkTgt b, b % 4096, x.ers]).wearUpdate

/-- Grown bad blocks of a target. -/
def State.badOf (s : State) (t : Nat) : Nat := Segs.count (fun (b : Blk) => b.st == 7) (t * 4096) (t * 4096 + 4096) s.fc.blocks

/-- R176: the sealed block of lowest erase count of a target, anchor blocks apart. -/
def State.bestBlock (s : State) (t : Nat) : Option Nat :=
  let l := ((Segs.within (t * 4096) (t * 4096 + 4096) s.fc.blocks).filter fun e => e.2.2.st == 4).flatMap fun e =>
    let lo := if t % 16 = 0 then max e.1 (t * 4096 + 8) else e.1
    if lo < e.2.1 then [(lo, e.2.2.ers)] else []
  (l.foldl (fun a p => match a with | none => some p | some q => if p.2 < q.2 then some p else some q) none).map Prod.fst

/-- A list turned by n places. -/
def rotate {α : Type} (l : List α) (n : Nat) : List α := l.drop (n % max 1 l.length) ++ l.take (n % max 1 l.length)

/-- A block of channel c for a bundle: from one of its HEALTHY targets with a sealed block; which target is left open. -/
def State.chanBlock (s : State) (c r : Nat) : Option Nat :=
  if (s.chan c).retired || !(s.chan c).trained then none
  else (rotate (chanTgts c) r).findSome? fun t => if s.healthy t then s.bestBlock t else none

/-- R178: FC_CFG.ERSMAX, 1 to 64, and FC_CFG.PGMMAX. -/
def State.ersMax (s : State) : Nat := max 1 (min 64 (s.rd F.FC_CFG_ERSMAX))
def State.pgmMax (s : State) : Nat := s.rd F.FC_CFG_PGMMAX

/-- R184: a block is protected: a bundle names it, it is an anchor block in use, or it lies in the bad-block table. -/
def State.isProtected (s : State) (b : Nat) : Bool := [5, 6, 7].contains (s.blk b).st

/-- R135, R176: 32 sealed blocks on 32 distinct channels; which channels is left open. -/
def State.pickBlocks (s : State) (r : Nat) : Option (List Nat) :=
  let l := (rotate (List.range 64) r).filterMap fun c => s.chanBlock c (r / 64)
  if l.length < 32 then none else some (l.take 32)

end Sys2Proof.Machine
end

