-- ==== Sys2Proof/Machine/Recorder.lean ====
section
/-! DEFINITION. The event recorder: summaries, the log in NOR, checkpoints, rebuild, the EV window and the recorder commands
(R368 to R382), and the generic CXL event logs (R379). -/

namespace Sys2Proof.Machine

/-- R370: the critical codes. -/
def criticalCode (c : Nat) : Bool := [0xF002, 0x4001, 0x4002, 0x4003, 0x4004, 0xE003, 0xE004, 0xF004].contains c

/-- R371: one step of CRC-32C over a byte. -/
def crcByte (c b : Nat) : Nat :=
  (List.range 8).foldl (fun x _ => if x % 2 = 1 then Nat.xor (x / 2) 0x82F63B78 else x / 2) (Nat.xor c b)

/-- R371, R372: CRC-32C of a list of bytes. -/
def crc32c (bs : List Nat) : Nat := Nat.xor (bs.foldl crcByte 0xFFFFFFFF) 0xFFFFFFFF

/-- R369: a stamp as TIME, OPSEC with CYCLES, and UNC. -/
def Stamp.words (p : Stamp) : List Nat :=
  [p.time % 2 ^ 64, (p.opsec % 2 ^ 32) * 2 ^ 32 + p.cycles % 2 ^ 32, p.unc % 2 ^ 48]

/-- Two's complement of an integer in 64 bits. -/
def int64 (x : Int) : Nat := (x % (2 ^ 64 : Int)).toNat

/-- R371: the 32 words of a summary record. -/
def Summary.words (code : Nat) (u : Summary) : List Nat :=
  let b := fun i => u.hist.getD i 0 % 2 ^ 32
  let ws := [code * 2 ^ 48 + u.seq % 2 ^ 32, u.count % 2 ^ 64, u.suppr % 2 ^ 64,
      (u.unbinned % 2 ^ 32) * 2 ^ 32 + u.dropped % 2 ^ 32] ++ u.first.words ++ u.last.words ++
    [int64 u.min] ++ u.minAt.words.take 2 ++ [int64 u.max] ++ u.maxAt.words.take 2 ++
    (List.range 8).map (fun i => b (2 * i) + b (2 * i + 1) * 2 ^ 32) ++
    [(Config.evItem code % 256) * 2 ^ 56 + bit01 (Config.evSigned code) * 2 ^ 55 + Config.evBase code % 2 ^ 48,
     0, 0, 0, 0, 0, 0]
  ws ++ [crc32c (wordBytes ws)]

/-- R372: the eight words of a log entry. -/
def LogEntry.words (e : LogEntry) : List Nat :=
  let w0 := e.code % 2 ^ 16 * 2 ^ 48 + e.typ % 16 * 2 ^ 44 + e.phase % 16 * 2 ^ 40 + bit01 e.xtrm * 2 ^ 39 +
    bit01 e.crit * 2 ^ 38 + e.part % 8 * 2 ^ 35 + e.seq % 2 ^ 32
  let ws := w0 :: (List.range 6).map fun i => e.body.getD i 0
  ws ++ [crc32c ((wordBytes (ws ++ [0xA5A55A5A * 2 ^ 32])).take 60) + 0xA5A55A5A * 2 ^ 32]

/-- R370, R371: the measure of an occurrence: its selected item, or the interval in ms since the previous occurrence. -/
def measure (code d : Nat) (time : Nat) (u : Summary) : Option Int :=
  if Config.evItem code = 0xFF then
    if u.seen then some (((time - u.last.time) / 1000000 : Nat) : Int) else none
  else
    match (Config.evLayout code)[Config.evItem code]? with
    | none => none
    | some (pos, w) =>
      let v := natField d pos w
      if Config.evSigned code && natBit v (w - 1) then some ((v : Int) - (2 ^ w : Nat)) else some (v : Int)

/-- R371: the bin of a measure. -/
def histBin (code : Nat) (m : Int) : Nat :=
  ((List.range 15).filter fun i => Config.evBase code * 2 ^ i ≤ m.natAbs).length

/-- R371: the number of binned occurrences. -/
def Summary.binned (u : Summary) : Nat := u.hist.foldl (· + ·) 0

/-- R371: an occurrence with a measure binned, or counted as unbinned; both saturate together at 2^32 - 1. -/
def Summary.bin (u : Summary) (code : Nat) (m : Option Int) : Summary :=
  if u.binned + u.unbinned + 1 > 2 ^ 32 - 1 then u
  else match m with
    | none => { u with unbinned := u.unbinned + 1 }
    | some x =>
      let b := histBin code x
      { u with hist := (List.range 16).map fun i => u.hist.getD i 0 + (if i = b then 1 else 0) }

/-- R371: whether a measure sets a new MIN or MAX. -/
def Summary.extreme (u : Summary) (m : Option Int) : Bool :=
  match m with
  | none => false
  | some x => !u.seen || decide (x < u.min) || decide (u.max < x)

/-- R371: FIRST, LAST and the extremes after an occurrence. -/
def Summary.note (u : Summary) (st : Stamp) (m : Option Int) : Summary :=
  let v := { u with seq := u.seq + 1, first := if u.seen then u.first else st, last := st, seen := true }
  match m with
  | none => v
  | some x =>
    let v := if !u.seen || x < u.min then { v with min := x, minAt := st } else v
    if !u.seen || u.max < x then { v with max := x, maxAt := st } else v

/-- R372: the oldest entry the ring still holds with a write pointer in entry n's sector: the sector after it is erased. -/
def ringFloor (n : Nat) : Nat := (n / 1024 - 254) * 1024

/-- R372: appends an entry; entering a sector, the sector after it is erased and the oldest readable entry moves up. -/
def State.logRaw (s : State) (e : LogEntry) : State :=
  let n := s.ev.next
  let l := (({ e with seq := n } : LogEntry) :: s.ev.log).filter fun x => decide (ringFloor n ≤ x.seq)
  (({ s with ev := { s.ev with log := l, next := n + 1 } }).wr F.EV_RANGE_NEWEST n).wr F.EV_RANGE_OLDEST
    (max (s.rd F.EV_RANGE_OLDEST) (ringFloor n))

/-- R372: TIME, and CYCLES, of the newest entry that carries a stamp; a SUMMARY entry carries none. -/
def State.newestStamped (s : State) : Option (Nat × Nat) :=
  (s.ev.log.find? fun e => e.typ != 4).map fun e => (e.body.getD 0 0, e.body.getD 1 0 % 2 ^ 32)

/-- R372: an entry of a type, stamped now. -/
def State.entryNow (s : State) (typ code d4 d5 cnt : Nat) : LogEntry :=
  { seq := 0, code := code, typ := typ, phase := s.phase, xtrm := false, crit := criticalCode code, part := 0,
    body := s.stamp.words ++ [d4, d5, cnt] }

/-- R374: the SUMMARY entries of one code, six parts. -/
def State.logSummary (s : State) (p : Nat × Summary) : State :=
  s.forEach (List.range 6) fun t i =>
    t.logRaw { seq := 0, code := p.1, typ := 4, phase := t.phase, xtrm := false, crit := criticalCode p.1, part := i,
               body := ((p.2.words p.1).drop (6 * i)).take 6 }

/-- R374: writes a checkpoint of all summaries, which then stands, and records event 0xF001. -/
def State.checkpoint (s : State) : State :=
  let first := s.ev.next
  let sums := s.ev.sums
  let t := s.logRaw (s.entryNow 3 0 0 0 0)
  let t := sums.foldl State.logSummary t
  let t := t.logRaw (t.entryNow 5 0 0 0 0)
  let t := { t with ev := { t.ev with ckpt := sums, ckptSeq := some first } }
  (t.event 0xF001 [t.ev.next - first, t.freeVal]).skipFree

/-- R374: the erased space ahead would reach the sector of the standing checkpoint. -/
def State.ckptDue (s : State) : Bool :=
  let n := s.ev.next
  n % 1024 == 0 && (match s.ev.ckptSeq with | none => false | some q => q / 1024 + 255 ≤ n / 1024)

/-- R372, R374: writes an entry, a checkpoint first where the ring requires one. -/
def State.logWrite (s : State) (e : LogEntry) : State :=
  if s.ckptDue then s.checkpoint.logRaw e else s.logRaw e

/-- R375: the device-wide bucket filled up to now. -/
def State.devLevel (s : State) : Nat := refill 4096 32 s.ev.devBucket s.ev.devAt s.ck.mono

/-- R371, R375: the MP processes one occurrence: its summary is updated, and it is logged when it is critical, sets an extreme or
took a token, unless the device-wide bucket is empty. -/
def State.processOcc (s : State) (o : Occ) : State :=
  let u := FMap.get {} s.ev.sums o.code
  let m := measure o.code (o.d0 + o.d1 * 2 ^ 64) o.stamp.time u
  let x := u.extreme m
  let crit := criticalCode o.code
  let want := crit || x || o.token
  let dev := want && !crit && o.code != 0xF005
  let lvl := s.devLevel
  let full := dev && decide (lvl < 1000000000)
  let go := want && !full
  let v := (u.bin o.code m).note o.stamp m
  let t := if dev then
      { s with ev := { s.ev with devAt := s.ck.mono, devBucket := if full then lvl else lvl - 1000000000,
                                 episode := if full then some (s.ev.episode.getD 0 + 1) else s.ev.episode } }
    else s
  if go then
    let e : LogEntry := {
      seq := 0, code := o.code, typ := 1, phase := o.phase, xtrm := x, crit := crit, part := 0
      body := [o.stamp.time % 2 ^ 64, (o.stamp.opsec % 2 ^ 32) * 2 ^ 32 + o.stamp.cycles % 2 ^ 32,
               min u.skip 0xFFFF * 2 ^ 48 + o.stamp.unc % 2 ^ 48, o.d0, o.d1, o.count] }
    ({ t with ev := { t.ev with sums := FMap.put t.ev.sums o.code { v with skip := 0, logged := o.count } } }).logWrite e
  else
    let w := { v with suppr := v.suppr + 1, skip := v.skip + 1, dropped := if full then v.dropped + 1 else v.dropped }
    { t with ev := { t.ev with sums := FMap.put t.ev.sums o.code w } }

/-- R372, R376: the boot store can take entry writes: not in SAVE or LINGER (R334). -/
def State.logOpen (s : State) : Bool := s.phase != phSave && s.phase != phLinger && s.phase != phOff && s.phase != phDormant

/-! ### Rebuild at bring-up (R376) and closing (R374) -/

/-- R376 step 3: a later OCC entry applied to the summaries. -/
def applyOcc (sums : FMap Summary) (e : LogEntry) : FMap Summary :=
  let u := FMap.get {} sums e.code
  let w := fun i => e.body.getD i 0
  let st : Stamp := { time := w 0, opsec := w 1 / 2 ^ 32, cycles := w 1 % 2 ^ 32, unc := w 2 % 2 ^ 48 }
  let m := measure e.code (w 3 + w 4 * 2 ^ 64) (w 0) u
  let v := (u.bin e.code m).note st m
  FMap.put sums e.code { v with count := max u.count (w 5), logged := w 5 }

/-- R376 step 3: a later TALLY entry applied: no count is lowered. -/
def applyTally (sums : FMap Summary) (e : LogEntry) : FMap Summary :=
  let u := FMap.get {} sums e.code
  let w := fun i => e.body.getD i 0
  FMap.put sums e.code { u with count := max u.count (w 5), suppr := max u.suppr (w 3), dropped := max u.dropped (w 4 % 2 ^ 32),
                                logged := w 5 }

/-- R380: the summaries that the scope of a clear (PARAM word 6) covers. -/
def clearHits (scope c : Nat) : Bool := (scope % 2 ^ 16 == 0 || c == scope % 2 ^ 16) && c != 0xF004 && c != 0xE003

/-- R380: the summaries in the scope of a clear return to zero; SEQ counts the change. -/
def clearSums (sums : FMap Summary) (scope : Nat) : FMap Summary :=
  if natBit scope 16 then
    sums.map fun p => if clearHits scope p.1 then (p.1, { seq := p.2.seq + 1, bucket := p.2.bucket, bucketAt := p.2.bucketAt }) else p
  else sums

/-- R376 step 3, R380: a later entry applied: OCC, TALLY, and a CLEAR, which has cleared what stood before it (DEDUCED, log 210). -/
def applyEntry (sums : FMap Summary) (e : LogEntry) : FMap Summary :=
  if e.typ = 1 then applyOcc sums e else if e.typ = 2 then applyTally sums e
  else if e.typ = 8 then clearSums sums (e.body.getD 3 0) else sums

/-- R376 step 3: whatever COUNT exceeds the bin total by is unbinned; buckets start full. -/
def Summary.settle (u : Summary) (burst now : Nat) : Summary :=
  { u with unbinned := Nat.max u.unbinned (u.count - u.binned), bucket := burst * 1000000000, bucketAt := now, skip := 0 }

/-- R376 steps 1 to 3: the summaries rebuilt from the standing checkpoint and the entries after it. -/
def State.rebuilt (s : State) : FMap Summary :=
  let from0 := s.ev.ckptSeq.getD 0
  let later := (s.ev.log.filter fun e => from0 ≤ e.seq).reverse
  (later.foldl applyEntry s.ev.ckpt).map fun p => (p.1, p.2.settle s.evBurst s.ck.mono)

/-- R277, R376: a code's COUNT is raised to a later one held in PD_AON retention. -/
def raiseCount (sums : FMap Summary) (p : Nat × Nat) : FMap Summary :=
  let u := FMap.get {} sums p.1
  FMap.put sums p.1 { u with count := max u.count p.2 }

/-- R277, R376: the summaries rebuilt, their counts raised to those of the occurrences held in PD_AON. -/
def State.rebuiltHeld (s : State) : FMap Summary :=
  s.ev.aonCount.foldl raiseCount ((s.ev.aon.map fun o => (o.code, o.count)).foldl raiseCount s.rebuilt)

/-- R376: the recorder's part of a bring-up: the ring's bounds, rebuild, the occurrences held in PD_AON, SESSION, and event 0xF003 when the
previous session has no CLOSE; then its window is served. -/
def State.recorderRebuild (s : State) : State :=
  let closed := match s.ev.log with | [] => true | e :: _ => e.typ == 7
  let cyc := match s.newestStamped with | some p => p.2 | none => 0
  let cleared := match s.ev.log.find? fun e => e.typ == 8 && natBit (e.body.getD 3 0) 17 with | some e => e.seq | none => 0
  let t := { s with ev := { s.ev with sums := s.rebuiltHeld, aon := [], aonCount := [] } }
  let t := match s.ev.log.head?, s.ev.log.getLast? with
    | some e, some e' => (t.wr F.EV_RANGE_NEWEST e.seq).wr F.EV_RANGE_OLDEST (max e'.seq cleared)
    | _, _ => t
  let t := s.ev.aon.foldl State.processOcc t
  let t := t.logWrite (t.entryNow 6 0 (bit01 closed) 0 0)
  let t := if closed then t else (t.event 0xF003 [cyc]).latchAttn 10
  (t.wr F.EV_STS_AVAIL 1).wr F.EV_STS_CLOSED (bit01 closed)

/-- R371, R375: an occurrence that is counted and never processed. -/
def State.unbinnedOcc (s : State) (o : Occ) : State :=
  let u := FMap.get {} s.ev.sums o.code
  { s with ev := { s.ev with sums := FMap.put s.ev.sums o.code { u with seq := u.seq + 1, suppr := u.suppr + 1, unbinned := u.unbinned + 1 } } }

/-- R374: at power-down step 6: as many queued OCC entries as fit, critical ones first, one TALLY for each code whose COUNT has
changed since its last entry, and CLOSE. How many fit is left open (a free value). -/
def State.recorderClose (s : State) : State :=
  let crit := s.ev.queue.filter fun o => criticalCode o.code
  let rest := s.ev.queue.filter fun o => !criticalCode o.code
  let all := crit ++ rest
  let n := s.freeVal % (all.length + 1)
  let t := { s.skipFree with ev := { s.ev with queue := [] } }
  let t := (all.drop n).foldl State.unbinnedOcc ((all.take n).foldl State.processOcc t)
  let t := t.ev.sums.foldl (fun r p =>
      if p.2.count = p.2.logged then r
      else
        let r' := r.logWrite (r.entryNow 2 p.1 (p.2.suppr % 2 ^ 64) ((p.2.unbinned % 2 ^ 32) * 2 ^ 32 + p.2.dropped % 2 ^ 32) p.2.count)
        { r' with ev := { r'.ev with sums := FMap.put r'.ev.sums p.1 { p.2 with logged := p.2.count } } }) t
  t.logWrite (t.entryNow 7 0 0 0 0)

/-- R380: a CLEAR entry is written: its scope's summaries return to zero but for 0xF004 and 0xE003, queued occurrences of
those codes go with them, and the log in scope ends below the entry; then event 0xF004 is recorded. -/
def State.recorderClear (s : State) (scope owner : Nat) : State :=
  let t := s.logWrite (s.entryNow 8 0 scope owner 0)
  let queue := if natBit scope 16 then t.ev.queue.filter fun o => !clearHits scope o.code else t.ev.queue
  let t : State := { t with ev := { t.ev with sums := clearSums t.ev.sums scope, queue := queue } }
  let t := if natBit scope 17 then t.wr F.EV_RANGE_OLDEST (t.rd F.EV_RANGE_NEWEST) else t
  (t.bump F.EV_STS_CLEARS).event 0xF004 [scope, owner]

/-! ### The commands -/

/-- OCCURRENCE_PROCESS (R371): the MP takes the oldest queued occurrence. -/
def execOccurrenceProcess (s : State) : Answer :=
  let t := s.begin
  match t.ev.queue with
  | [] => .next t
  | o :: q =>
    if t.mpRuns && t.flag F.EV_STS_AVAIL && t.logOpen then
      .next (({ t with ev := { t.ev with queue := q } }).processOcc o)
    else .next t

/-- RECORDER_CHECKPOINT (R374): every CKPT minutes in SERVICE and RECOVERY. -/
def execRecorderCheckpoint (s : State) : Answer :=
  let t := s.begin
  if (t.phase == phService || t.phase == phRecovery) && t.flag F.EV_STS_AVAIL then .next t.checkpoint else .next t

/-- DEVICE_LIMIT_EPISODE_END (R375): the device-wide bucket holds a token again, and 0xF005 is raised once with the entries
dropped in the episode. -/
def execDeviceLimitEpisodeEnd (s : State) : Answer :=
  let t := s.begin
  match t.ev.episode with
  | none => .next t
  | some n =>
    if 1000000000 ≤ t.devLevel then .next (({ t with ev := { t.ev with episode := none } }).event 0xF005 [n]) else .next t

/-- R377: the least code above another that has a summary. -/
def nextCode (sums : FMap Summary) (c : Nat) : Option Nat :=
  ((sums.map Prod.fst).filter fun k => c < k).foldl (fun a k => match a with | none => some k | some j => some (min j k)) none

/-- EV_S_0_READ (R377): a read of EV_S_0 latches the selected summary, first advancing CODE when ITER is set. -/
def execEvS0Read (s : State) : Answer :=
  let t := s.begin
  if !(t.flag F.EV_STS_AVAIL && t.mpRuns) then .next (t.send (.regData [0]))
  else
    let code := if t.flag F.EV_SEL_ITER then nextCode t.ev.sums (t.rd F.EV_SEL_CODE) else
      if FMap.has t.ev.sums (t.rd F.EV_SEL_CODE) then some (t.rd F.EV_SEL_CODE) else none
    match code with
    | none => .next (({ t with ev := { t.ev with sumWin := [] } }).send (.regData [0]))
    | some c =>
      let w := (FMap.get {} t.ev.sums c).words c
      .next ((({ t with ev := { t.ev with sumWin := w } }).wr F.EV_SEL_CODE c).send (.regData [w.getD 0 0]))

/-- EV_LSEL_WRITE (R377): a write of EV_LSEL starts a fetch of that entry. -/
def execEvLselWrite (val : Nat) (s : State) : Answer :=
  let t := s.begin.wr F.EV_LSEL_SEQ val
  .next (({ t with ev := { t.ev with fetch := true } }).wr F.EV_LSTS_STATUS 0)

/-- LOG_ENTRY_FETCH_COMPLETE (R377): the entry is in EV_L_0 to EV_L_7; an entry below OLDEST reads GONE, a slot without a valid
entry reads skipped. The status of a sequence above NEWEST is not stated and is a free value. -/
def execLogEntryFetchComplete (s : State) : Answer :=
  let t := s.begin
  if !t.ev.fetch then .next t
  else
    let q := t.rd F.EV_LSEL_SEQ
    let u := { t with ev := { t.ev with fetch := false } }
    if q < t.rd F.EV_RANGE_OLDEST then .next (u.wr F.EV_LSTS_STATUS 2)
    else match t.ev.log.find? fun e => e.seq == q with
      | some e => .next (({ u with ev := { u.ev with entWin := e.words } }).wr F.EV_LSTS_STATUS 1)
      | none =>
        if q ≤ t.rd F.EV_RANGE_NEWEST then .next (u.wr F.EV_LSTS_STATUS 3)
        else .next ((u.wr F.EV_LSTS_STATUS u.freeVal).skipFree)

/-- GET_EVENT_LAYOUT (R378): the layout of a code. -/
def execGetEventLayout (v : Via) (code : Nat) (s : State) : Answer :=
  .next (s.mbox v (.getEventLayout v code) .other true fun t =>
    t.reply v .success ((Config.evLayout code).flatMap (fun p => [p.1, p.2]) ++
      [Config.evItem code, bit01 (Config.evSigned code), Config.evBase code, bit01 (criticalCode code)]))

/-- GET_EVENT_SUMMARY (R378): the record of a code, or Invalid Input when it has none. -/
def execGetEventSummary (v : Via) (code : Nat) (s : State) : Answer :=
  .next (s.mbox v (.getEventSummary v code) .other true fun t =>
    match FMap.find t.ev.sums code with
    | none => t.reply v .invalidInput []
    | some u => t.reply v .success (u.words code))

/-- GET_EVENT_ENTRIES (R317, R378): valid entries from a sequence onward, in order; over MCTP at most 127. -/
def execGetEventEntries (v : Via) (first count : Nat) (s : State) : Answer :=
  .next (s.mbox v (.getEventEntries v first count) .other true fun t =>
    if count = 0 || 4096 < count then t.reply v .invalidInput []
    else t.reply v .success
      (((t.ev.log.reverse.filter fun e => max first (t.rd F.EV_RANGE_OLDEST) ≤ e.seq).take (mctpMost v count 127)).flatMap LogEntry.words))

/-- OPERATING_SECONDS_WRITE (R369): OPSEC is rewritten to the NOR identity sector. -/
def execOperatingSecondsWrite (s : State) : Answer :=
  let t := s.begin
  if t.mpRuns && t.phase != phSave && t.phase != phLinger then
    .next (State.norProgram { t with ev := { t.ev with opsStored := t.ev.opsNs / 1000000000 } })
  else .next t

/-! ### The generic CXL event logs of a head (R379) -/

/-- R379: a record placed in one log of a head; a full log of 256 records sets Overflow and counts. -/
def State.cxlEvent (s : State) (k sev code : Nat) (data : List Nat) : State :=
  let h := s.head k
  let l := FMap.get [] h.logs sev
  if l.length < 256 then
    s.setHead k { h with
      logs := FMap.put h.logs sev (l ++ [{ handle := h.logNext, code := code, data := data, time := s.ck.ns }])
      logNext := h.logNext % 0xFFFF + 1 }
  else s.setHead k { h with logOvf := FMap.put h.logOvf sev (FMap.get 0 h.logOvf sev + 1) }

/-- A CXL event record as words. -/
def CxlRec.words (r : CxlRec) : List Nat := [r.handle, r.code, r.time] ++ r.data

/-- GET_EVENT_RECORDS (R379): the oldest records of one log, with its overflow count and whether more remain. -/
def execGetEventRecords (v : Via) (log max : Nat) (s : State) : Answer :=
  .next (s.mbox v (.getEventRecords v log max) .other false fun t =>
    if 3 < log then t.reply v .invalidInput []
    else
      let h := t.head v.idx
      let l := FMap.get [] h.logs log
      let max := mctpMost v max 63
      t.reply v .success ([FMap.get 0 h.logOvf log, bit01 (decide (max < l.length)), (l.take max).length] ++
        (l.take max).flatMap CxlRec.words))

/-- CLEAR_EVENT_RECORDS (R379): clears all records of a log, or the oldest ones by their handles in order. -/
def execClearEventRecords (v : Via) (log : Nat) (all : Bool) (handles : List Nat) (s : State) : Answer :=
  .next (s.mbox v (.clearEventRecords v log all handles) .other false fun t =>
    let h := t.head v.idx
    let l := FMap.get [] h.logs log
    if 3 < log then t.reply v .invalidInput []
    else if all then
      (t.setHead v.idx { h with logs := FMap.put h.logs log [], logOvf := FMap.put h.logOvf log 0 }).reply v .success []
    else if (l.take handles.length).map CxlRec.handle = handles then
      (t.setHead v.idx { h with logs := FMap.put h.logs log (l.drop handles.length), logOvf := FMap.put h.logOvf log 0 }).reply
        v .success []
    else t.reply v .invalidHandle [])

/-- GET_EVENT_INTERRUPT_POLICY (R379): the head's policy, by severity. -/
def execGetEventInterruptPolicy (v : Via) (s : State) : Answer :=
  .next (s.mbox v (.getEventInterruptPolicy v) .other false fun t =>
    t.reply v .success ((List.range 4).map fun i => FMap.get 0 (t.head v.idx).policy i))

/-- SET_EVENT_INTERRUPT_POLICY (R379): sets the head's policy, one setting for each severity. -/
def execSetEventInterruptPolicy (v : Via) (settings : List Nat) (s : State) : Answer :=
  .next (s.mbox v (.setEventInterruptPolicy v settings) .other false fun t =>
    if settings.length = 4 then
      (t.setHead v.idx { t.head v.idx with policy := (List.range 4).map fun i => (i, settings.getD i 0) }).reply v .success []
    else t.reply v .invalidInput [])

end Sys2Proof.Machine
end

