-- ==== Sys2Proof/Machine/Records.lean ====
section
/-! DEFINITION. The records of the manifest journal: their types, their words, their length and the payload of a RECORD Skein (R85, R142,
R143, R216). -/

namespace Sys2Proof.Machine

/-- R143: the record types. -/
abbrev jEnd : Nat := 0x00
abbrev jSkeinCommit : Nat := 0x01
abbrev jReleaseRun : Nat := 0x02
abbrev jZeroRun : Nat := 0x03
abbrev jBundleOpen : Nat := 0x04
abbrev jBundleFree : Nat := 0x05
abbrev jErasing : Nat := 0x06
abbrev jSealed : Nat := 0x07
abbrev jEraseList : Nat := 0x08
abbrev jJbundle : Nat := 0x09
abbrev jCkptBegin : Nat := 0x0A
abbrev jIndexSeg : Nat := 0x0B
abbrev jCkptEnd : Nat := 0x0C
abbrev jSaveStart : Nat := 0x0D
abbrev jShareEntry : Nat := 0x0E
abbrev jLsa : Nat := 0x0F
abbrev jPoison : Nat := 0x10
abbrev jShutdown : Nat := 0x11
abbrev jFrontiers : Nat := 0x12
abbrev jLoss : Nat := 0x13
abbrev jTwinseq : Nat := 0x14
abbrev jTwinState : Nat := 0x15
abbrev jClose : Nat := 0x16

/-- R85: a frontier record's four words. -/
def Frontier.words (f : Frontier) : List Nat :=
  [bit01 f.twin * 2 ^ 17 + f.head % 16 * 2 ^ 12 + f.qid % 4096, f.last % 2 ^ 48, f.fronth % 2 ^ 48, f.front % 2 ^ 48]

/-- R85: a loss record's four words. -/
def LossRec.words (l : LossRec) : List Nat :=
  [l.units % 2 ^ 32 * 2 ^ 32 + l.cause % 256 * 2 ^ 8 + l.share % 64, l.lo * 4096 % 2 ^ 44, l.lgen % 2 ^ 48, 0]

/-- R143: a poison record's two words. -/
def PoisonRec.words (p : PoisonRec) : List Nat := [p.line * 64 % 2 ^ 44, p.len % 2 ^ 16 + p.source % 4 * 2 ^ 16]

/-- R143: a location: bundle and page. -/
def location (b p : Nat) : Nat := b % 2 ^ 20 * 2 ^ 44 + p % 2 ^ 11 * 2 ^ 32

/-- R143: 4-byte values, two to a word. -/
def packPairs : List Nat → List Nat
  | a :: b :: l => (a % 2 ^ 32 + b % 2 ^ 32 * 2 ^ 32) :: packPairs l
  | [a] => [a % 2 ^ 32]
  | [] => []

/-- A list brought to a length, with a filler. -/
def fitTo (n fill : Nat) (l : List Nat) : List Nat := l.take n ++ List.replicate (n - l.length) fill

/-- R216: a run of the twin map: share, count less one, first unit. -/
def twinRun (share : Nat) (r : Nat × Nat × Bool) : Nat := share % 64 * 2 ^ 58 + (r.2.1 - r.1 - 1) % 2 ^ 26 * 2 ^ 32 + r.1 % 2 ^ 32

/-- R143: the blocks of runs given as first block and count in turn. -/
def runBlocks : List Nat → List Nat
  | lo :: n :: l => (List.range n).map (· + lo) ++ runBlocks l
  | _ => []

/-- R143: words W2 onward of a record of numbers only, by its type. -/
def recBody (ty : Nat) (a : List Nat) : List Nat :=
  let w := fun i => a.getD i 0
  if ty = jSkeinCommit then
    [w 0 % 2 ^ 48, location (w 1) (w 2) + w 3 % 2 ^ 32] ++ packPairs (fitTo 112 0xFFFFFFFF (a.drop 4))
  else if ty = jReleaseRun ∨ ty = jZeroRun then [w 0 % 2 ^ 32 + w 2 % 64 * 2 ^ 32, w 1 % 2 ^ 32]
  else if ty = jBundleOpen then (w 0 % 2 ^ 20 + w 1 % 16 * 2 ^ 20) :: packPairs (fitTo 32 0 (a.drop 2))
  else if ty = jEraseList then (runBlocks a).length % 2 ^ 32 :: packPairs (runBlocks a)
  else if ty = jIndexSeg then [w 0 % 2 ^ 32 + w 1 % 2 ^ 32 * 2 ^ 32, location (w 2) (w 3), w 4 % 2 ^ 48, w 5 % 2 ^ 64]
  else if ty = jCkptEnd then [w 0 % 2 ^ 32, w 1 % 2 ^ 32]
  else if ty = jSaveStart then
    [w 0 % 16 * 2 ^ 56 + w 1 % 8 * 2 ^ 45 + w 2 % 2 ^ 16, w 3 % 2 ^ 64, w 4 % 2 ^ 16, w 5 % 2 ^ 64]
  else if ty = jClose then [w 0 % 2 ^ 48 + w 1 % 16 * 2 ^ 60, w 2 % 2 ^ 64, w 3 % 2 ^ 64, w 4 % 2 ^ 64]
  else a.map (· % 2 ^ 64)

/-- R143, R216: words W2 onward of each record that an item of the journal stands for: one record, but one for each block of an ERASING or
SEALED run. -/
def JRec.bodies (r : JRec) : List (List Nat) :=
  let w := fun i => r.args.getD i 0
  match r.pay with
  | .cells l =>
    let byte := fun (i : Nat) => ((l.find? fun c => c.1 == w 0 * 131072 + i).map fun c => c.2.toNat).getD 0
    [w 0 % 16 :: (List.range 16384).map fun i => (List.range 8).foldl (fun a j => a + byte (8 * i + j) * 256 ^ j) 0]
  | .poison l => [(w 0 % 2 ^ 32 * 2 ^ 32 + l.length) :: l.flatMap PoisonRec.words]
  | .fronts l => [[w 1 % 2 ^ 32 * 2 ^ 32 + l.length, w 0 % 2 ^ 48] ++ l.flatMap Frontier.words]
  | .losses tr ov x l => [[w 1 % 2 ^ 32 * 2 ^ 32 + l.length, w 0 % 2 ^ 48, bit01 tr + bit01 ov * 2, x % 2 ^ 64] ++ l.flatMap LossRec.words]
  | .twin ses pre ser des runs =>
    let first := if w 0 = 0 then
        [ses % 2 ^ 32, pre % 2 ^ 64] ++ (List.range 64).map (fun n => FMap.get 0 ser n % 2 ^ 64) ++
          (List.range 64).map fun n => match des.find? fun d => d.1 == n with | some d => d.2 % 2 ^ 32 * 2 ^ 32 + 1 | none => 0
      else []
    [(w 0 % 2 ^ 32 * 2 ^ 32 + runs.length) :: first ++ ((r.args.drop 1).zip runs).map fun p => twinRun p.1 p.2]
  | .none =>
    if r.ty = jErasing ∨ r.ty = jSealed then
      (List.range r.count).map fun i => [(w 0 + i) % 2 ^ 32 + w 2 % 2 ^ 32 * 2 ^ 32]
    else [recBody r.ty r.args]

/-- R143: the length of a body in words, without writing it out. -/
def JRec.bodyLen (r : JRec) : Nat :=
  match r.pay with
  | .cells _ => 16385
  | .poison l => 1 + 2 * l.length
  | .fronts l => 2 + 4 * l.length
  | .losses _ _ _ l => 4 + 4 * l.length
  | .twin _ _ _ _ runs => (if r.args.getD 0 0 = 0 then 131 else 1) + runs.length
  | .none =>
    if r.ty = jErasing ∨ r.ty = jSealed then 1
    else if r.ty = jEraseList then 1 + ((runBlocks r.args).length + 1) / 2
    else (recBody r.ty r.args).length

/-- R142: the length in 8-byte words of the records an item stands for, their headers included. -/
def JRec.words (r : JRec) : Nat := (2 + r.bodyLen) * r.count

/-- R142: a record: header, log sequence number and body; its CRC is taken with the CRC field zero. -/
def recWords (ty lsn : Nat) (body : List Nat) : List Nat :=
  let h := ty % 2 ^ 16 * 2 ^ 48 + (body.length + 2) % 2 ^ 16 * 2 ^ 32
  (h + crc32c (wordBytes (h :: lsn % 2 ^ 64 :: body))) :: lsn % 2 ^ 64 :: body

/-- R142: the END record, one word long. -/
def endWord : Nat := 2 ^ 32 + crc32c (wordBytes [2 ^ 32])

/-- R142: the words of an item's records. -/
def JRec.ser (r : JRec) : List Nat := (r.bodies.zip (List.range r.bodies.length)).flatMap fun p => recWords r.ty (r.lsn + p.2) p.1

/-- R142: words of payload after the header of a RECORD Skein. -/
abbrev recRoom : Nat := 57336

/-- R142: the payload of a RECORD Skein: its 64-byte header, the records, END where there is room, and zeros. -/
def Skein.recPayload (k : Skein) : List Nat :=
  let body := k.recs.flatMap JRec.ser
  let first := match k.recs.head? with | some r => r.lsn | none => 0
  let last := match k.recs.getLast? with | some r => r.lsn + r.count - 1 | none => 0
  let n := (k.recs.map JRec.count).foldl (· + ·) 0
  [first % 2 ^ 64, last % 2 ^ 64, k.prev.1 % 2 ^ 48, location k.prev.2.1 k.prev.2.2, n % 2 ^ 32 * 2 ^ 32, 0, 0, 0] ++
    fitTo recRoom 0 (body ++ [endWord])

/-- A list cut into runs whose sizes add up to a room each. -/
def packBy {α : Type} (cap : Nat) (size : α → Nat) : Nat → List α → List α → List (List α)
  | _, acc, [] => [acc.reverse]
  | room, acc, x :: l =>
    if size x ≤ room then packBy cap size (room - size x) (x :: acc) l else acc.reverse :: packBy cap size (cap - size x) [x] l

/-- A list in pieces of at most n, one at least. -/
def pieces {α : Type} (n : Nat) (l : List α) : List (List α) := packBy n (fun _ => 1) n [] l

/-- A list with its places. -/
def indexed {α : Type} (l : List α) : List (Nat × α) := (List.range l.length).zip l

/-- The items at the front of the tail that one RECORD Skein holds (R142). -/
def fitRecs : Nat → List JRec → List JRec
  | _, [] => []
  | room, r :: l => if r.words ≤ room then r :: fitRecs (room - r.words) l else []

end Sys2Proof.Machine
end

