-- ==== Sys2Proof/Machine/ImageOps.lean ====
section
/-! DEFINITION. The journal of the flash image as other units write it (R143, R144). -/

namespace Sys2Proof.Machine

/-- R132: a record joins the journal tail with the next log sequence number. -/
def State.append (s : State) (ty : Nat) (args : List Nat) (pay : JPay) (count : Nat) : State :=
  { s with im := { s.im with tail := s.im.tail ++ [{ lsn := s.im.nextLsn, ty := ty, args := args, pay := pay, count := count }],
                             nextLsn := s.im.nextLsn + count } }

/-- R144: the words waiting in the tail. -/
def State.tailWords (s : State) : Nat := (s.im.tail.map JRec.words).foldl (· + ·) 0

/-- The bundle b. -/
def State.bundle (s : State) (b : Nat) : Bundle :=
  FMap.get { use := 0, members := [], next := 0, closed := true, lastLsn := 0 } s.im.bundles b

/-- Sets the bundle b. -/
def State.setBundle (s : State) (b : Nat) (x : Bundle) : State := { s with im := { s.im with bundles := FMap.put s.im.bundles b x } }

/-- A bundle takes further pages: open, not full, every member's target HEALTHY. -/
def State.takesPages (s : State) (b : Nat) : Bool :=
  let x := s.bundle b
  !x.closed && decide (x.next ≤ 1151) && x.members.all fun m => s.healthy (blkTgt m)

/-- The lowest bundle number not in use. -/
def State.freeBundle (s : State) : Nat :=
  ((List.range (s.im.bundles.length + 1)).find? fun b => !FMap.has s.im.bundles b).getD 0

/-- R188: a free block whose seal fails verification is listed again, to be erased. -/
def State.relist (s : State) (m : Nat) : State :=
  let x := s.blk m
  State.append (s.setBlk m { x with st := 1, tries := 0, tag := 0, again := false, erLsn := (s.im.nextLsn : Int) - m }) jErasing
    [m, 1, x.ers] .none 1

/-- R188: the seals of blocks sealed before this bring-up are verified again as they join a bundle; whether one holds is left open. Those that
fail are listed again, and there is no bundle; the others need no further check. -/
def State.verifySeals (s : State) (l : List Nat) : State × Bool :=
  let old := l.filter fun m => (s.blk m).again
  if old.isEmpty then (s, true)
  else
    let bad := old.filter fun m => !Config.sealHolds s.freeCtr m
    let t := bad.foldl State.relist s.skipFree
    ((old.filter fun m => !bad.contains m).foldl (fun (a : State) m => a.setBlk m { a.blk m with again := false }) t, bad.isEmpty)

/-- R135: a bundle is opened over 32 sealed blocks by a BUNDLE_OPEN record; its number, if blocks are to be had in so many attempts. -/
def State.openWithin (s : State) (use : Nat) : Nat → State × Option Nat
  | 0 => (s, none)
  | n + 1 => match s.pickBlocks s.freeVal with
    | none => (s, none)
    | some l =>
      let (t, ok) := s.skipFree.verifySeals l
      if !ok then t.openWithin use n
      else
        let b := t.freeBundle
        let t := t.forEach l fun a m => a.setBlk m { a.blk m with st := 5 }
        let t := (t.setBundle b { use := use, members := l, next := 1, closed := false, lastLsn := 0 }).ceilUpdate 0
        (t.append jBundleOpen (b :: use :: l) .none 1, some b)

/-- R135: a bundle is opened. -/
def State.openBundle (s : State) (use : Nat) : State × Option Nat := s.openWithin use 64

/-- R93, R132: the next generation is taken. -/
def State.takeGen (s : State) : State := s.wr F.MR_GEN_NEXT (s.rd F.MR_GEN_NEXT + 1)

/-- R135: the next page of a bundle is taken. -/
def State.takePage (s : State) (b : Nat) : State :=
  let x := s.bundle b
  s.setBundle b { x with next := x.next + 1, closed := x.closed || decide (1151 ≤ x.next) }

/-- R135: the bundle the next DATA or INDEX Skein goes to. -/
def State.dataBundle (s : State) : State × Option Nat :=
  match s.im.dataB with
  | some b =>
    if s.takesPages b then (s, some b)
    else
      let (t, r) := s.openBundle 1
      ({ t with im := { t.im with dataB := r } }, r)
  | none =>
    let (t, r) := s.openBundle 1
    ({ t with im := { t.im with dataB := r } }, r)

/-- R152: a JBUNDLE record naming a bundle as last opened lies on flash. -/
def State.jbundleOnFlash (s : State) (b : Nat) : Bool :=
  match s.im.log.reverse.find? fun r => (r.ty == jJbundle || r.ty == jBundleFree) && r.args == [b] with
  | some r => r.ty == jJbundle
  | none => false

/-- R143, R152, R192: the journal bundle that follows the current one is open and named by a JBUNDLE: as soon as one can be opened, and anew
when the one announced takes no pages. -/
def State.announce (s : State) : State :=
  if (match s.im.jnext with | some n => s.takesPages n | none => false) then s
  else
    let (u, r) := s.openBundle 2
    match r with
    | some n => State.append { u with im := { u.im with jnext := some n } } jJbundle [n] .none 1
    | none => u

/-- R144, R187: the bundle RECORD Skeins go to: the current one, the announced one once that takes no pages, or a new one when there is
neither. -/
def State.currentJournal (s : State) : State × Option Nat :=
  let open_ := fun (r : Option Nat) => match r with | some b => s.takesPages b | none => false
  if open_ s.im.jb then (s, s.im.jb)
  else if open_ s.im.jnext then ({ s with im := { s.im with jb := s.im.jnext, jnext := none } }, s.im.jnext)
  else
    let (t, r) := s.openBundle 2
    ({ t with im := { t.im with jb := r } }, r)

/-- R143, R152: the journal bundle the next RECORD Skein goes to; its last 51 pages wait until the JBUNDLE that names the following one lies on
flash. -/
def State.journalBundle (s : State) : State × Option Nat :=
  let (t, cur) := s.currentJournal
  match cur with
  | none => (t, none)
  | some b =>
    let t := t.announce
    if 1101 ≤ (t.bundle b).next then
      match t.im.jnext with
      | some n => if t.jbundleOnFlash n then (t, some b) else (t, none)
      | none => (t, none)
    else (t, some b)

/-- R135: the block Strand j of a Skein lies on: member (j + page) mod 32 of its bundle. -/
def State.strandBlk (s : State) (k : Skein) (j : Nat) : Option Nat := (s.bundle k.bundle).members[(j + k.page) % 32]?

/-! ### Work on a target (R177 to R179) -/

/-- A Strand or an anchor copy is being programmed on target T. -/
def State.programsOn (s : State) (t : Nat) : Bool :=
  (s.im.flight.any fun k => k.members.any fun m => blkTgt m == t) ||
    (match s.im.anchorW with | some a => a.copies.any fun c => blkTgt c.1 == t | none => false)

/-- R177, R178: the erase that runs on target T: of the blocks whose ERASING records lie on flash the first listed, unless one is suspended; a
program goes before one that may still be suspended. -/
def State.erasing (s : State) (t : Nat) : Option (Nat × Blk) :=
  if (s.tgt t).susp.isSome then none
  else
    let l := (Segs.within (t * 4096) (t * 4096 + 4096) s.fc.blocks).filter fun e => e.2.2.st == 2
    match l.foldl (fun (a : Option (Nat × Blk)) e => match a with
      | none => some (e.1, e.2.2)
      | some x => if e.2.2.erLsn + e.1 < x.2.erLsn + x.1 then some (e.1, e.2.2) else a) none with
    | some e => if s.ersMax ≤ e.2.tag ∨ s.programsOn t = false then some e else none
    | none => none

/-- R178: the erase in progress of target T is suspended, unless it has used ERSMAX suspends. -/
def State.suspendErase (s : State) (t : Nat) : State :=
  match s.erasing t with
  | none => s
  | some (b, x) =>
    if s.ersMax ≤ x.tag then s
    else
      let r := (s.setBlk b { x with st := 8, tag := x.tag + 1 }).setTgt t { s.tgt t with susp := some b }
      if x.tag + 1 = s.ersMax then r.bump F.FC_SUSP_ERSX else r

/-- R179, R195: FC_SUSP.ULIM: 4 − m while a share is HOT, and 15 otherwise. -/
def State.hardLimit (s : State) : Nat := if s.anyHot then 4 - s.countTgts [tgBound, tgTesting, tgExcluded] else 15

/-- R179: the targets in unsuspendable work: a nested program, an erase that has used ERSMAX suspends, and programs that have used PGMMAX, of
which those beyond the limit wait suspended. -/
def State.hardTgts (s : State) : List Nat :=
  let l := s.fc.tgts.map Prod.fst
  let held := l.filter fun t =>
    (s.programsOn t && (s.tgt t).susp.isSome) || (match s.erasing t with | some e => decide (s.ersMax ≤ e.2.tag) | none => false)
  let most := l.filter fun t => !held.contains t && s.programsOn t && decide (s.pgmMax ≤ (s.tgt t).pgm)
  held ++ (if s.anyHot && s.phase != phSave then most.take (s.hardLimit - held.length) else most)

/-- R179: programs to some blocks would not take the nested ones beyond the limit. -/
def State.workFits (s : State) (ms : List Nat) : Bool :=
  if !s.anyHot || s.phase == phSave then true
  else
    let nest := (ms.map blkTgt).filter fun t => !s.hardTgts.contains t &&
      ((s.tgt t).susp.isSome || match s.erasing t with | some e => decide (e.2.tag < s.ersMax) | none => false)
    nest.isEmpty || decide (s.hardTgts.length + nest.length ≤ s.hardLimit)

/-- R178: programs to some blocks begin: an erase in progress on their targets is suspended, and the programs nest in it. -/
def State.startPrograms (s : State) (ms : List Nat) : State :=
  ms.foldl (fun (a : State) m =>
    let t := blkTgt m
    let a := if a.programsOn t then a else a.setTgt t { a.tgt t with pgm := 0 }
    a.suspendErase t) s

/-- A Skein joins those in flight: its Strands are programmed to the members of its bundle under the current IMAGE_ID. -/
def State.fly (s : State) (k : Skein) : State :=
  let k : Skein := { k with imageId := s.imageNum, members := (s.bundle k.bundle).members }
  let t := s.startPrograms k.members
  { t with im := { t.im with flight := t.im.flight ++ [k], written := k :: t.im.written } }

/-- R142: the RECORD Skein before the next one: the newest in flight, or the last committed. -/
def State.prevRec (s : State) : Nat × Nat × Nat :=
  match (s.im.flight.filter fun k => k.ty == 3).getLast? with
  | some k => (k.gen, k.bundle, k.page)
  | none => s.im.lastRec

/-- R142, R144: the front of the tail, as far as one Skein holds it, is written out as a RECORD Skein, which joins the Skeins in flight. -/
def State.flushOne (s : State) : State :=
  let (t, r) := s.journalBundle
  match (match r with | some b => if t.workFits (t.bundle b).members then r else none | none => none) with
  | none => t
  | some b =>
    let recs := match fitRecs recRoom t.im.tail with | [] => t.im.tail.take 1 | l => l
    let last := match recs.getLast? with | some r => r.lsn + r.count - 1 | none => 0
    let k : Skein := { gen := t.rd F.MR_GEN_NEXT, ty := 3, bundle := b, page := (t.bundle b).next, slots := [], recs := recs, seg := 0,
                       snap := 0, entries := [], failed := [], prev := t.prevRec }
    let t : State := { t with im := { t.im with tail := t.im.tail.drop recs.length } }
    let t := ((t.fly k).takeGen.takePage b).setBundle b { (t.takePage b).bundle b with lastLsn := last }
    if t.phase = phSave ∨ t.im.passEnd = true then t.debit 524288 else t

/-- R142, R144: the tail is written out in as many RECORD Skeins as it needs. -/
def State.flushMany (s : State) : Nat → State
  | 0 => s
  | n + 1 => if s.im.tail.isEmpty then s else s.flushOne.flushMany n

/-- R142, R144: the tail is written out. -/
def State.flushTail (s : State) : State := s.flushMany (s.im.tail.length + 4)

/-- R144: record types whose appending writes the tail out. -/
def flushType (ty : Nat) : Bool := [jErasing, jJbundle, jCkptEnd, jSaveStart, jClose].contains ty

/-- R185: programs and erases are accepted. -/
def State.armed (s : State) : Bool := s.flag F.FC_PROT_ARMED

/-- R144: a record is appended; the tail is written out when 448 KiB wait or the record's type asks. -/
def State.journalP (s : State) (ty : Nat) (args : List Nat) (pay : JPay) (count : Nat) : State :=
  let t := s.append ty args pay count
  if t.armed && (flushType ty || decide (57344 ≤ t.tailWords)) then t.flushTail else t

/-- A record of numbers only. -/
def State.journal (s : State) (ty : Nat) (args : List Nat) : State := s.journalP ty args .none 1

/-- The registers of a share as one word each (R34). -/
def State.shareCfgWord (s : State) (n : Nat) : Nat :=
  s.rdi F.SHR_CFG_EN n * 2 ^ 63 + s.rdi F.SHR_CFG_WT_CAP n * 2 ^ 32 + s.rdi F.SHR_CFG_RPRI n * 2 ^ 20 +
    s.rdi F.SHR_CFG_HOT n * 2 ^ 16 + s.rdi F.SHR_CFG_MODE n

/-- SHR_STATUS_n as a word. -/
def State.shareStatusWord (s : State) (n : Nat) : Nat :=
  s.rdi F.SHR_STATUS_REFUSE n * 2 ^ 56 + s.rdi F.SHR_STATUS_PROG n * 2 ^ 48 + s.rdi F.SHR_STATUS_TARGET n * 2 ^ 32 +
    s.rdi F.SHR_STATUS_STATE n * 2 ^ 20 + s.rdi F.SHR_STATUS_MODE n

/-- R143: the arguments of a SHARE_ENTRY record. -/
def State.shareEntry (s : State) (n : Nat) : List Nat :=
  [n, s.rdi F.SHR_BASE_ADDR n * 2 ^ 28, s.rdi F.SHR_SIZE_ADDR n * 2 ^ 28, s.shareCfgWord n, s.rdi F.SHR_HEADS_GRANT n,
   s.shareStatusWord n, s.rdi F.SHR_EPOCH_EPOCH n, s.pair n, FMap.get 0 s.sec.keyw n]

/-- R30: the commit point of a change: SHR_EPOCH_n increments and the share table is recorded. -/
def State.commitShare (s : State) (n : Nat) : State :=
  let t := s.wri F.SHR_EPOCH_EPOCH n (s.rdi F.SHR_EPOCH_EPOCH n + 1)
  (t.journal jShareEntry (t.shareEntry n)).tellShare n

/-- R30: the whole share begins a lazy zero image: its index reads ZERO and a ZERO_RUN records it. -/
def State.zeroShare (s : State) (n : Nat) : State :=
  let t := (s.cleanRange (s.shLo n) (s.shHi n)).setIndex (s.shLo n) (s.shHi n) .zero
  { t with mem := memZero t.mem (s.shLo n * 4096) (s.shHi n * 4096)
           poisoned := Segs.cut (s.shLo n * 64) (s.shHi n * 64) t.poisoned }.journal jZeroRun [s.shLo n, s.shHi n - s.shLo n, n]

/-- R30: image entries of the whole share are released, as a RELEASE of it would. -/
def State.releaseShare (s : State) (n : Nat) : State :=
  let t := (s.cleanRange (s.shLo n) (s.shHi n)).setIndex (s.shLo n) (s.shHi n) .released
  t.journal jReleaseRun [s.shLo n, s.shHi n - s.shLo n, n]

/-! ### Skeins abandoned and targets retired (R88, R144, R187, R189, R190) -/

/-- The Skein in flight of a generation. -/
def State.inFlight (s : State) (g : Nat) : Option Skein := s.im.flight.find? fun k => k.gen == g

/-- A Skein leaves flight. -/
def State.land (s : State) (g : Nat) : State :=
  let l := s.im.flight.filter fun k => k.gen != g
  ({ s with im := { s.im with flight := l } }).wr F.MR_DRAIN_INFL (l.filter fun (k : Skein) => k.ty == 1).length

/-- R88: the unit of an abandoned DATA slot is DIRTY again; a REDIRTY one is stamped anew. -/
def State.slotBack (s : State) (x : Option Slot) : State :=
  match x with
  | none => s
  | some u =>
    let e := s.unit u.unit
    if u.moved.isSome then s
    else if e.st = 2 then s.setUnit u.unit { e with st := 1 }
    else if e.st = 3 then s.setUnit u.unit { e with st := 1, stamp := s.nowSec }
    else s

/-- R144: the page of an abandoned RECORD Skein is left undecodable. -/
def State.spoil (s : State) (g : Nat) : State :=
  { s with im := { s.im with written := s.im.written.map fun k => if k.gen == g && k.ty == 3 then { k with dead := true } else k } }

/-- R141, R144: a Skein in flight is programmed again at the next page of a bundle, in its place. -/
def State.rewrite (s : State) (k : Skein) (b : Nat) : State :=
  let n : Skein := { k with gen := s.rd F.MR_GEN_NEXT, bundle := b, page := (s.bundle b).next, failed := [], imageId := s.imageNum
                            members := (s.bundle b).members, dead := false }
  let last := match k.recs.getLast? with | some r => r.lsn + r.count - 1 | none => 0
  let s := s.startPrograms n.members
  let t : State := { s with im := { s.im with flight := s.im.flight.map fun x => if x.gen == k.gen then n else x
                                              written := n :: s.im.written } }
  let t := t.takeGen.takePage b
  t.setBundle b { t.bundle b with lastLsn := max (t.bundle b).lastLsn last }

/-- R144: with no journal bundle to be had, a RECORD Skein and those after it leave flight; their records wait in the tail, in order. -/
def State.recall (s : State) (g : Nat) : State :=
  let l := (s.im.flight.dropWhile fun k => k.gen != g).filter fun k => k.ty == 3
  let t := (l.map Skein.gen).foldl State.spoil s
  { t with im := { t.im with tail := l.flatMap Skein.recs ++ t.im.tail
                             flight := t.im.flight.filter fun k => !(l.map Skein.gen).contains k.gen } }

/-- R144, R153: a RECORD Skein is abandoned: its records are written again at the next page with the same numbers; event 0x5104. -/
def State.abandonRecord (s : State) (k : Skein) : State :=
  let first := (k.recs.map JRec.lsn).headD 0
  let last := match k.recs.getLast? with | some r => r.lsn + r.count - 1 | none => 0
  let (t, r) := ((s.spoil k.gen).event 0x5104 [first, last, k.failed.length]).journalBundle
  match r with
  | none => t.recall k.gen
  | some b => t.rewrite k b

/-- R88, R144, R187: a Skein in flight is abandoned: a DATA Skein's units drain again; a RECORD or INDEX Skein is written again. The bundle
takes no further pages. In a Save event 0x4009 is recorded (R129). -/
def State.abandon (s : State) (k : Skein) : State :=
  let t := s.setBundle k.bundle { s.bundle k.bundle with closed := true }
  let t := if s.phase = phSave then t.event 0x4009 [k.gen, k.failed.length] else t
  if k.ty = 1 then (k.slots.foldl State.slotBack t).land k.gen
  else if k.ty = 3 then t.abandonRecord k
  else
    let (u, r) := t.dataBundle
    match r with
    | none => State.land { u with im := { u.im with segDue := some k.seg } } k.gen
    | some b => (u.rewrite k b).ceilUpdate 0

/-- A Skein has a Strand on target T. -/
def State.uses (s : State) (k : Skein) (t : Nat) : Bool := (s.bundle k.bundle).members.any fun m => blkTgt m == t

/-- R175: the Strand of a Skein on a target. -/
def State.strandOn (s : State) (k : Skein) (t : Nat) : Option Nat :=
  (List.range 32).find? fun j => match s.strandBlk k j with | some m => blkTgt m == t | none => false

/-- A Strand of a Skein counted as failed. -/
def Skein.fail (k : Skein) (j : Nat) : Skein := { k with failed := if k.failed.contains j then k.failed else j :: k.failed }

/-- R190: a Skein in flight with a Strand on a target that retires is abandoned, that Strand having failed. -/
def State.abandonOn (s : State) (t g : Nat) : State :=
  match s.inFlight g with
  | some k => match s.strandOn k t with | some j => s.abandon (k.fail j) | none => s
  | none => s

/-- R189: channel c is retired, and its present targets carry cause CHANNEL. -/
def State.endChan (s : State) (c cause : Nat) : State :=
  let t := (s.setChan c { s.chan c with retired := true }).event 0x6008 [c, cause]
  t.forEach ((chanTgts c).filter fun x => (s.tgt x).state != tgAbsent) fun a x => a.setTgt x { a.tgt x with cause := 6 }

/-- R189: the channel of a retired target is retired when every present target of it is. -/
def State.retireChan (s : State) (c cause : Nat) : State :=
  let present := (chanTgts c).filter fun t => (s.tgt t).state != tgAbsent
  if !(s.chan c).retired && !present.isEmpty && present.all fun t => [tgBound, tgRetired].contains (s.tgt t).state then s.endChan c cause
  else s

/-- R189, R190, R192: the target becomes RETIRED_BOUND with a cause, binds its channel, and is queued for re-skeining; its Strands in flight
count as failed; the retirement is recorded in NOR. -/
def State.bindTarget (s : State) (t cause : Nat) : State :=
  let x := s.tgt t
  let a := (s.setTgt t { x with state := tgBound, cause := cause, held := 0, susp := none }).event 0x6007 [t, cause]
  let a := if a.fc.queue.length < 32 then { a with fc := { a.fc with queue := a.fc.queue ++ [t] } }
    else { a with fc := { a.fc with waitq := a.fc.waitq ++ [t] } }
  let a := a.wr F.FC_RSK_QUEUED (a.fc.queue.length - 1)
  let a := if a.phase = phSave then a else (a.im.flight.map Skein.gen).foldl (fun r g => r.abandonOn t g) a
  let a := (a.retireChan (tgtChan t) cause).ceilUpdate cause
  if a.phase = phSave then { a with fc := { a.fc with norOwed := true } } else a.norProgram

/-- R190, R334: a retirement that waited is recorded in NOR. -/
def State.norRetire (s : State) : State :=
  if s.fc.norOwed then State.norProgram { s with fc := { s.fc with norOwed := false } } else s

/-- R119, R190: a target is excluded for the rest of a Save; R_S is recomputed. -/
def State.exclude (s : State) (t : Nat) : State :=
  let x := s.tgt t
  if x.state = tgHealthy ∨ x.state = tgTesting then ((s.setTgt t { x with state := tgExcluded }).ceilUpdate 0).recompute 3 else s

/-- R189, R190: a target met a cause of retirement: in SAVE it is excluded with the cause held; otherwise it retires. -/
def State.retire (s : State) (t cause : Nat) : State :=
  let x := s.tgt t
  if x.state = tgAbsent ∨ x.state = tgBound ∨ x.state = tgRetired then s
  else if s.phase = phSave then (s.setTgt t { x with held := if x.held = 0 then cause else x.held }).exclude t
  else s.bindTarget t cause

/-- R187, R189: a block grown bad, and its target retired when more than FC_CFG.BADMAX of its blocks are. -/
def State.badBlock (s : State) (b : Nat) : State :=
  let t := s.growBad b
  if max 1 (t.rd F.FC_CFG_BADMAX) < t.badOf (blkTgt b) then t.retire (blkTgt b) 2 else t

/-! ### Restatement (R141) and anchors (R148 to R150) -/

/-- R141, R143: ERASE_LIST: the blocks listed, as runs of first block and count, in records that a RECORD Skein can hold. -/
def State.eraseList (s : State) : List (List (Nat × Nat)) :=
  packBy 114000 Prod.snd 114000 [] ((s.fc.blocks.filter fun e => [1, 2, 3, 8].contains e.2.2.st).map fun e => (e.1, e.2.1 - e.1))

/-- R141, R143: the erasing list is recorded. -/
def State.eraseRecs (s : State) : State :=
  s.eraseList.foldl (fun a l => a.append jEraseList (l.flatMap fun r => [r.1, r.2]) .none 1) s

/-- R143: SHARE_ENTRY for all 64 shares, LSA for every head index, SHUTDOWN, and TWIN_STATE. -/
def State.tableRecs (s : State) : State :=
  let t := s.forEach (List.range 64) fun a n => a.append jShareEntry (a.shareEntry n) .none 1
  t.forEach (List.range 16) fun a k => a.append jLsa [k] (.cells (memCells a.lsa (k * 131072) ((k + 1) * 131072))) 1

/-- SHUTDOWN: DSC and DIRTY of every head index. -/
def State.shutdownRec (s : State) : State :=
  s.append jShutdown ((List.range 16).map fun k => s.rdi F.HP_SHUT_DSC k * 2 ^ 32 + s.rdi F.HP_SHUT_DIRTY k) .none 1

/-- R216: the runs of the twin map by share, none longer than a run's count holds. -/
def State.twinRuns (s : State) : List (Nat × Nat × Nat × Bool) :=
  let m := s.tw.mapCur ++ s.tw.mapPrev
  (List.range 64).flatMap fun n =>
    (Segs.within (s.shLo n) (s.shHi n) m).flatMap fun e =>
      (List.range (ceilDiv (e.2.1 - e.1) (2 ^ 26))).map fun i => (n, e.1 + i * 2 ^ 26, min e.2.1 (e.1 + (i + 1) * 2 ^ 26), e.2.2)

/-- R216: a share whose runs do not fit sets MAPOVF. -/
def State.twinFit (s : State) : State :=
  s.forEach ((s.twinRuns.drop 1048576).map Prod.fst).eraseDups fun a n => a.setMapovf n true

/-- R216: TWIN_STATE, in parts of 28,000 runs. -/
def State.twinRec (s : State) : State :=
  (indexed (pieces 28000 (s.twinRuns.take 1048576))).foldl (fun a p =>
    a.append jTwinState (p.1 :: p.2.map Prod.fst) (.twin (s.rd F.TW_PAIR_SESSION) (s.rd F.TW_ISEQ_VALUE) s.tw.pairSerial
      (s.tw.desigs.map fun d => (d.peer, d.pairid)) (p.2.map Prod.snd)) 1) s

/-- R143: POISON, in parts of 28,000 records. -/
def State.poisonRecs (s : State) : State :=
  (indexed (pieces 28000 s.poisonList)).foldl (fun a p => a.append jPoison [p.1] (.poison p.2) 1) s

/-- R143: the FRONTIERS and LOSS records of a manifest generation, in parts of 14,000 records. -/
def State.reportJournal (s : State) (g : Nat) (trunc ovf : Bool) (xunits : Nat) (fr : List Frontier) (ls : List LossRec) : State :=
  let t := (indexed (pieces 14000 fr)).foldl (fun a p => a.append jFrontiers [g, p.1] (.fronts p.2) 1) s
  (indexed (pieces 14000 ls)).foldl (fun a p => a.append jLoss [g, p.1] (.losses trunc ovf xunits p.2) 1) t

/-- POISON, and the FRONTIERS and LOSS records of a manifest generation. -/
def State.lateRecs (s : State) (g : Nat) (trunc ovf : Bool) (xunits : Nat) (fr : List Frontier) (ls : List LossRec) : State :=
  s.poisonRecs.reportJournal g trunc ovf xunits fr ls

/-- R141: the records restated at a pass's end. -/
def State.restate (s : State) : State :=
  let t := s.im.bundles.foldl (fun a e => a.append jBundleOpen (e.1 :: e.2.use :: e.2.members) .none 1) s.twinFit
  let t := t.eraseRecs.tableRecs.poisonRecs.shutdownRec.twinRec
  t.reportJournal t.im.manGen t.report.trunc t.report.ovf t.report.xunits t.report.fronts t.report.losses

/-- R148: where the next anchor page of a target is: its current anchor block's next page, or page 1 of the next sealed anchor block. -/
def State.anchorPage (s : State) (t : Nat) : Option (Nat × Nat) :=
  let next := fun (from_ : Nat) => ((List.range 8).map fun i => t * 4096 + (from_ + 1 + i) % 8).find? fun b => (s.blk b).st == 4
  match FMap.find s.im.anchorPos t with
  | some (b, p) => if p ≤ 1151 ∧ (s.blk b).st = 6 then some (b, p) else (next (b % 4096)).map fun b => (b, 1)
  | none => (next 7).map fun b => (b, 1)

/-- R105, R141, R148: one copy of an anchor is programmed on a target, and debited. -/
def State.anchorCopy (s : State) (t g : Nat) : State × List (Nat × Nat) :=
  if !s.healthy t then (s, [])
  else match s.anchorPage t with
    | none => (s, [])
    | some (b, p) =>
      let a := ((s.startPrograms [b]).setBlk b { s.blk b with st := 6, tag := g }).debit 16384
      ({ a with im := { a.im with anchorPos := FMap.put a.im.anchorPos t (b, p + 1) } }, [(b, p)])

/-- R148: the four copies of an anchor at channels k, k + 16, k + 32 and k + 48. -/
def State.anchorCopies (s : State) (k g : Nat) : State × List (Nat × Nat) :=
  (List.range 4).foldl (fun p i => let (a, l) := p.1.anchorCopy ((k % 16 + 16 * i) * 16) g; (a, p.2 ++ l)) (s, [])

/-- R149: where the newest RECORD Skein that holds a log sequence number lies. -/
def State.recLoc (s : State) (lsn : Nat) : Nat :=
  match s.im.written.find? fun k => k.ty == 3 && !k.dead && k.recs.any fun r => decide (r.lsn ≤ lsn) && decide (lsn < r.lsn + r.count) with
  | some k => location k.bundle k.page
  | none => 0

/-- R149, R150: an anchor of a generation already taken, for a pass that CKPT_END or a Save that CLOSE ends at `lsn`, is programmed; it stands
once a copy reads back valid. -/
def State.writeAnchor (s : State) (g kind result reason cklsn pass lsn : Nat) : State :=
  let (t, l) := s.anchorCopies g g
  let a : Anchor := { gen := g, kind := kind, result := result, reason := reason, imageId := s.imageNum
                      prev := (s.im.anchors.map Anchor.gen).headD 0
                      prevman := ((s.im.anchors.filter fun x => x.kind != 1).map Anchor.gen).headD 0
                      cklsn := cklsn, lastLsn := lsn, nextGen := s.rd F.MR_GEN_NEXT, units := s.rd F.SHR_CAP_VISIBLE * 65536
                      time := s.ck.ns, pass := pass, good := 0, copies := l, ckloc := s.recLoc cklsn
                      lastloc := s.recLoc lsn, hours := s.ev.opsNs / 3600000000000, cycles := s.ev.cycles
                      geo := s.fc.geo.getD (blocksPerTarget, 1152) }
  { t with im := { t.im with anchorW := some a, anchored := a :: t.im.anchored } }

/-- The newest valid anchor. -/
def State.anchor (s : State) : Option Anchor := s.im.anchors.head?

/-- R140: segments of the index. -/
def State.segCount (s : State) : Nat := ceilDiv (s.rd F.SHR_CAP_VISIBLE * 65536) 57344

/-- R140: where the Skeins that a list of index entries names lie now. -/
def State.locsOf (s : State) (l : Segs IdxEntry) : FMap (Nat × Nat) :=
  ((l.filterMap fun e => match e.2.2 with | .slot g _ => some g | _ => none).eraseDups).foldl (fun m g =>
    match FMap.find s.im.skeins g with | some k => FMap.put m g (k.bundle, k.page) | none => m) []

/-- R141: a segment's snapshot is read and its INDEX Skein programmed; its programs are debited and never wait. With no bundle to be had the
segment waits for one. -/
def State.startSeg (s : State) (k : Nat) : State :=
  let (t, r) := s.dataBundle
  match (match r with | some b => if t.workFits (t.bundle b).members then r else none | none => none) with
  | none => { t with im := { t.im with segDue := some k } }
  | some b =>
    let l := Segs.within (57344 * k) (57344 * (k + 1)) t.index
    let x : Skein := { gen := t.rd F.MR_GEN_NEXT, ty := 2, bundle := b, page := (t.bundle b).next, slots := [], recs := [], seg := k,
                       snap := t.im.nextLsn - 1, entries := l, failed := [], locs := t.locsOf l }
    let t : State := { t with im := { t.im with segDue := none } }
    (((t.fly x).takeGen.takePage b).debit 524288).ceilUpdate 0

/-- R141: a segment that waits for a bundle is tried again. -/
def State.retrySeg (s : State) : State :=
  match s.im.segDue with
  | some k => if s.serving && s.im.passLsn.isSome then s.startSeg k else { s with im := { s.im with segDue := none } }
  | none => s

/-- R141: the next index pass begins at CKPT_BEGIN with its first segment. -/
def State.beginPass (s : State) : State :=
  let p := s.im.pass + 1
  let t : State := { s with im := { s.im with pass := p, passLsn := some s.im.nextLsn, passEnd := false, passAt := s.ck.mono } }
  (t.journal jCkptBegin [p]).startSeg 0

/-- A CHECKPOINT anchor is programmed and not yet read back. -/
def State.checkpointing (s : State) : Bool := match s.im.anchorW with | some a => a.kind == 1 | none => false

/-- R141, R152, R153: the pass in progress is abandoned; its INDEX Skein in flight is dropped. One whose CHECKPOINT anchor is programmed
stands with it. The causes of event 0x5102 have no numbers in the spec: 1 is a Save's trigger (DESIGN CHOICE, log 201). -/
def State.dropPass (s : State) (cause : Nat) : State :=
  if s.im.passLsn.isNone || s.checkpointing then s
  else
    let n := (s.im.segs.filter fun e => e.1 == s.im.pass).length
    ({ s with im := { s.im with passLsn := none, passEnd := false, segDue := none, segs := s.im.segs.filter fun e => e.1 != s.im.pass,
                                flight := s.im.flight.filter fun k => k.ty != 2 } }).event 0x5102 [s.im.pass, n, cause]

end Sys2Proof.Machine
end

