-- ==== Sys2Proof/Machine/TicketOps.lean ====
section
/-! DEFINITION. The ticket engine's operations: queues, capture, completion entries, frontiers, fences, interrupts, and the ways a
waiting ticket becomes satisfied (R57 to R85). -/

namespace Sys2Proof.Machine

/-! ### Queues (R57 to R61) -/

/-- The queue q. -/
def State.queue (s : State) (q : Nat) : Queue := FMap.get {} s.queues q

/-- Sets the queue q. -/
def State.setQueue (s : State) (q : Nat) (x : Queue) : State := { s with queues := FMap.put s.queues q x }

/-- R57: head k owns queue q. -/
def State.ownsQueue (s : State) (k q : Nat) : Bool :=
  s.headExists k && s.rdi F.QUE_ALLOC_FIRST k ≤ q && q < s.rdi F.QUE_ALLOC_FIRST k + s.rdi F.QUE_ALLOC_COUNT k

/-- R57: the admin queue of head k. -/
def State.adminQueue (s : State) (k : Nat) : Nat := s.rdi F.QUE_ALLOC_FIRST k

/-- R61: tickets of a queue fetched whose completions are not posted. -/
def State.openTickets (s : State) (q : Nat) : Nat := (s.tickets.filter fun t => t.qid == q).length

/-- R61: another entry of queue q may be taken. -/
def State.hasRoom (s : State) (q : Nat) : Bool :=
  decide (s.openTickets q + (s.queue q).ring.length < (s.queue q).depth - 1)

/-- R77: contexts in use from the common pool, and of an admin queue's own sixteen. -/
def State.commonUsed (s : State) : Nat := (s.tickets.filter fun t => t.ctx == 1).length
def State.reserveUsed (s : State) (q : Nat) : Nat := (s.tickets.filter fun t => t.ctx == 2 && t.qid == q).length

/-- R77, R78: a context can be had for queue q. -/
def State.hasContext (s : State) (q : Nat) : Bool :=
  decide (s.commonUsed < 1048320) || ((s.queue q).admin && decide (s.reserveUsed q < 16))

/-- R62, R81: the engine takes entries from queue q. -/
def State.canTake (s : State) (q : Nat) : Bool :=
  (s.queue q).state == 1 && !(s.queue q).paused && s.hasRoom q && s.hasContext q

/-- The kind of context queue q gets (R77). -/
def State.ctxKind (s : State) (q : Nat) : Nat :=
  if s.commonUsed < 1048320 then 1 else if (s.queue q).admin then 2 else 1

/-! ### Frontiers (R83) -/

/-- R83: a frontier: the sequence before the least one that holds it back, or LAST. -/
def frontierOf (last : Nat) (hold : List Nat) : Nat := hold.foldl (fun a q => min a (q - 1)) last

/-- R83: FRONT and FRONTH of a queue. -/
def Queue.front (x : Queue) : Nat := frontierOf x.last x.holdF
def Queue.fronth (x : Queue) : Nat := frontierOf x.last x.holdH

/-! ### Completion (R67, R68, R79, R80) -/

/-- R67: the four words of a completion entry. -/
def completionWords (x : Queue) (t : Ticket) (st rs res ts : Nat) : List Nat :=
  [t.tag % 2 ^ 64, t.sqhd % 2 ^ 16 * 2 ^ 48 + t.seq % 2 ^ 48,
   res % 2 ^ 32 * 2 ^ 32 + bit01 t.inl * 2 ^ 24 + t.share % 64 * 2 ^ 18 + t.level % 4 * 2 ^ 16 + rs % 256 * 2 ^ 8 + st % 256,
   bit01 x.phase * 2 ^ 63 + t.qid % 4096 * 2 ^ 48 + ts % 2 ^ 48]

/-- R79: the queue's vector is signalled and its unsignalled count starts again. -/
def State.signalQueue (s : State) (q : Nat) : State :=
  let x := s.queue q
  (s.setQueue q { x with unsig := 0 }).msix x.head x.vec

/-- R67, R79: the completion entry is written into the ring, and the vector is signalled when moderation or the urgent flag asks. -/
def State.postEntry (s : State) (t : Ticket) (st rs res ts : Nat) : State :=
  let x := s.queue t.qid
  let ws := completionWords x t st rs res ts
  let i := x.cqTail
  let wrap := i + 1 == x.depth
  let y := { x with ring := x.ring ++ [(i, ws)], cqTail := if wrap then 0 else i + 1,
                    phase := if wrap then !x.phase else x.phase, unsig := x.unsig + 1 }
  let r := (s.setQueue t.qid y).send (.completion t.qid i ws)
  if x.ien && (t.urgent || decide (max 1 x.aggc ≤ y.unsig)) then r.signalQueue t.qid else r

/-- R81: completions of the queue can leave: ACTIVE, ERROR or DELETING, with posting not paused. -/
def Queue.posting (x : Queue) : Bool := (x.state == 1 || x.state == 2 || x.state == 3) && !x.paused

/-- R83: the frontiers after the outcome of a ticket is decided: a COMMIT that is ABORTED or LOST holds back both, one that is TWIN_ABSENT holds
back FRONT; a RELEASE that was aborted before its capture goes on holding back both; everything else that completed holds back neither. -/
def Queue.settled (x : Queue) (k : TKind) (seq st : Nat) : Queue :=
  let lost := k == .commit && (st == 2 || st == 3)
  let keepF := lost || (k == .commit && st == 1) || (k == .release && st == 3)
  let keepH := k == .release && st == 3
  let h := if keepH then x.holdH else x.holdH.filter (· != seq)
  { x with holdF := if keepF then x.holdF else x.holdF.filter (· != seq), holdH := if lost then seq :: h else h,
           fails := if st = 0 then x.fails else seq :: x.fails }

/-- R68, R81: the status of a ticket is decided: its frontiers follow; it is posted, or kept until posting resumes. -/
def State.decideTicket (s : State) (t : Ticket) (st rs res : Nat) : State :=
  let r := { s with tickets := s.tickets.filter fun a => !(a.qid == t.qid && a.seq == t.seq) }
  let x := (r.queue t.qid).settled t.kind t.seq st
  let r := r.setQueue t.qid x
  if x.posting then r.postEntry t st rs res s.ck.ns
  else if x.state = 4 || x.paused then
    { r with tickets := r.tickets ++ [{ t with outcome := some (st, rs, res, s.ck.ns), ctx := t.ctx }] }
  else r

/-- R80: an open FENCE of queue q whose earlier tickets have all completed. -/
def State.readyFence (s : State) (q : Nat) : Option Ticket :=
  s.tickets.find? fun f => f.qid == q && f.kind == .fence && f.outcome.isNone &&
    !(s.tickets.any fun a => a.qid == q && decide (a.seq < f.seq) && a.outcome.isNone)

/-- R73, R80: FENCEs whose earlier tickets have completed complete DONE, with the number of tickets since the previous FENCE that
completed other than DONE; a barrier lifts. -/
def State.runFences (s : State) (q : Nat) : Nat → State
  | 0 => s
  | n + 1 =>
    match s.readyFence q with
    | none => s
    | some f =>
      let x := s.queue q
      let bad := (x.fails.filter fun a => decide (a < f.seq)).length
      let y := { x with fails := x.fails.filter fun a => !decide (a < f.seq)
                        barrier := if x.barrier = some f.seq then none else x.barrier }
      ((s.setQueue q y).decideTicket f 0 0 (min bad 0xFFFFFFFF)).runFences q n

/-- R78: an episode of an exhausted pool ends as soon as a common context is free. -/
def State.poolCheck (s : State) : State := if s.commonUsed < 1048320 then { s with poolOut := false } else s

/-- R68, R80: a ticket completes with a status, a reason and a result; FENCEs it held back follow. -/
def State.finish (s : State) (t : Ticket) (st rs res : Nat) : State :=
  let r := s.decideTicket t st rs res
  (r.runFences t.qid (r.tickets.length + 1)).poolCheck

/-- R76, R81: every open ticket of a queue, FENCEs and RELEASEs included, completes ABORTED, in the order of capture; no barrier stands. -/
def State.abortQueue (s : State) (q : Nat) : State :=
  let r := (s.tickets.filter fun t => t.qid == q && t.outcome.isNone).foldl (fun a t => a.decideTicket t 3 0 0) s
  (r.setQueue q { r.queue q with barrier := none }).poolCheck

/-- R77, R86: a ticket takes its context; OPEN and its peak follow, and an exhausted pool is event 0x2102 once an episode. -/
def State.keepTicket (s : State) (t : Ticket) : State :=
  let r : State := { s with tickets := s.tickets ++ [{ t with ctx := s.ctxKind t.qid }] }
  let n := (r.tickets.filter fun a => a.ctx != 0).length
  let r : State := if r.rd F.QUE_TKT_PEAK < n then r.wr F.QUE_TKT_PEAK n else r
  let full : Bool := decide (1048320 ≤ r.commonUsed)
  if full && !r.poolOut then State.event { r with poolOut := true } 0x2102 [n] else r

/-! ### Capture (R70, R80) -/

/-- R65, R67, R80, R83: an entry of queue q is captured: it takes the queue's next sequence; a fetched entry moves the submission head and
keeps the SHARE, LEVEL and U its descriptor gave. A COMMIT holds back FRONT until its level holds; an admin operation holds back both frontiers
until it completes. An entry no descriptor gave has SHARE and LEVEL 0 where its command names none (DESIGN CHOICE, log 186). -/
def State.newTicket (s : State) (q tag : Nat) (k : TKind) (level share : Nat) (u inl : Bool) : State × Ticket :=
  let x := s.queue q
  let hd := if inl then x.sqHead else if x.sqHead + 1 = x.depth then 0 else x.sqHead + 1
  let seq := x.last + 1
  let sub := if inl then (share, level, u) else x.submitted.getD (share, level, u)
  let y := { x with last := seq, sqHead := hd, submitted := if inl then x.submitted else none, twin := x.twin || (k == .commit && level == 2),
                    holdF := if k = .commit ∨ k = .admin then seq :: x.holdF else x.holdF,
                    holdH := if k = .admin then seq :: x.holdH else x.holdH }
  (s.setQueue q y,
   { qid := q, seq := seq, tag := tag, kind := k, level := sub.2.1, share := sub.1, lo := 0, hi := 0, gen := 0, oseq := none,
     wait := [], urgent := sub.2.2, inl := inl, ctx := 0, sqhd := hd, walking := false, op := 0, since := s.ck.mono, outcome := none })

/-- R73: what is wrong with the range of a COMMIT, RELEASE or PROBE from head k, as status and reason (R69, R32). -/
def State.rangeFault (s : State) (k share off len : Nat) (page : Bool) : Option (Nat × Nat) :=
  if !s.shDefined share then some (5, 1)
  else if s.rdi F.SHR_SIZE_ADDR share * 2 ^ 28 < off + len then some (5, 2)
  else if s.grant share k ≠ 2 then some (5, 3)
  else if page && (off % 4096 != 0 || len % 4096 != 0) then some (5, 4)
  else if len = 0 then some (5, 5)
  else if !s.shOpen share then some (4, 6)
  else none

/-- R25: the mode of a share accepts a ticket level. -/
def modeAccepts (m level : Nat) : Bool :=
  if m = mdHeld ∨ m = mdWritethru then level == 1 || level == 3
  else if m = mdTwined then level == 1 || level == 2 || level == 3
  else false

/-- A SEAL is in progress on a share (R30, R33). -/
def State.sealing (s : State) (n : Nat) : Bool := s.shState n == shChanging && s.rdi F.SHR_STATUS_TARGET n == mdSealed

/-- The units of a byte range of a share: first, and the one after the last. -/
def State.rangeUnits (s : State) (share off len : Nat) : Nat × Nat :=
  (s.shLo share + off / 4096, s.shLo share + (off + len + 4095) / 4096)

/-- R71: the unit runs of a range that are not CLEAN. -/
def State.dirtyRuns (s : State) (lo hi : Nat) : List (Nat × Nat) :=
  ((Segs.within lo hi s.dmap).filter fun e => e.2.2.st != 0).map fun e => (e.1, e.2.1)

/-- R72, R88: a FLASH COMMIT marks its covered units WANTED; a DRAINING one becomes REDIRTY. -/
def State.markWanted (s : State) (lo hi : Nat) : State :=
  let mark := fun (e : UnitSt) => if e.st = 0 then e else { e with wanted := true, st := if e.st = 2 then 3 else e.st }
  { s with dmap := Segs.mapIn mark lo hi s.dmap }

/-- R202, R212: a TWINED ticket on share n holds at outbound sequence q: the pair has its session, the share is LIVE and q is acknowledged. -/
def State.twinHolds (s : State) (n q : Nat) : Bool := s.session && s.pstate n == psLive && decide (q ≤ s.rd F.TW_ASEQ_VALUE)

/-- R71, R212: the sequence a TWINED ticket captured now waits for: the outbound sequence current at capture; in CATCHUP the share's
CATCHUP_END, and while the pair is absent that of the catch-up its reunion brings (none: not yet sent). -/
def State.twinWait (s : State) (n : Nat) : Option Nat :=
  if s.pstate n = psCatchup then FMap.find s.tw.catchEnd n else if s.session then some (s.rd F.TW_OSEQ_VALUE) else none

/-- R71, R73: a COMMIT of head k's queue q is captured. BAD_LEVEL is found before a fault of the range: the spec gives the causes no order
(DESIGN CHOICE, log 182). -/
def State.captureCommit (s : State) (q tag share level off len : Nat) (u inl : Bool) : State :=
  let k := (s.queue q).head
  let (r, t) := s.newTicket q tag .commit level share u inl
  if level = 0 then r.finish t 6 4 0
  else match r.rangeFault k share off len false with
  | some (st, rs) => r.finish t st rs 0
  | none =>
    if r.sealing share then r.finish t 4 8 0
    else if !modeAccepts (r.shMode share) level then r.finish t 4 5 0
    else
      let (lo, hi) := r.rangeUnits share off len
      let t := { t with lo := lo, hi := hi, gen := r.rd F.MR_GEN_NEXT
                        line0 := r.shLo share * 64 + off / 64, line1 := r.shLo share * 64 + (off + len + 63) / 64 }
      if level = 2 then
        if r.pstate share = psLost ∨ r.pstate share = psHold then r.finish t 1 0 0
        else if r.twinHolds share (r.rd F.TW_OSEQ_VALUE) then r.finish t 0 0 0
        else r.sendMarks.keepTicket { t with oseq := r.twinWait share }
      else if level = 1 ∧ r.shMode share ≠ mdWritethru then r.finish t 0 0 0
      else
        let w := r.dirtyRuns lo hi
        if w.isEmpty then r.finish t 0 0 0
        else (r.markWanted lo hi).keepTicket { t with wait := w }

/-- R73, R77, R80: a FENCE of queue q is captured: it takes a context while an earlier ticket of the queue is open. -/
def State.captureFence (s : State) (q tag share level : Nat) (b u inl : Bool) : State :=
  let (r, t) := s.newTicket q tag .fence level share u inl
  if r.tickets.any fun a => a.qid == q && a.outcome.isNone then
    (if b then r.setQueue q { r.queue q with barrier := some t.seq } else r).keepTicket t
  else
    let r : State := { r with tickets := r.tickets ++ [t] }
    r.runFences q (r.tickets.length + 1)

/-- R73: an open FLASH ticket, or HELD ticket on a WRITETHRU share, covers a unit of a range. -/
def State.coveredByFlash (s : State) (lo hi : Nat) : Bool :=
  s.tickets.any fun t => t.kind == .commit && t.outcome.isNone && !t.wait.isEmpty && decide (t.lo < hi) && decide (lo < t.hi)

/-- R96: the lowest free release-walk register. -/
def State.freeWalk (s : State) : Option Nat := (List.range 16).find? fun i => !FMap.has s.walks i

/-- R96, R97: a RELEASE's walk begins; on a TWINED share it is also sent to the peer, in order. -/
def State.startWalk (s : State) (r : Nat) (t : Ticket) : State :=
  let a := { s with walks := FMap.put s.walks r { share := t.share, lo := t.lo, hi := t.hi, qid := t.qid, seq := t.seq, twine := false, links := 0 },
                    tickets := s.tickets.map fun (x : Ticket) => if x.qid == t.qid && x.seq == t.seq then { x with walking := true } else x }
  let a := a.setQueue t.qid { a.queue t.qid with
    holdF := (a.queue t.qid).holdF.filter (· != t.seq), holdH := (a.queue t.qid).holdH.filter (· != t.seq) }
  if a.shMode t.share = mdTwined ∧ a.session = true ∧ (a.pstate t.share = psLive ∨ a.pstate t.share = psCatchup) then
    a.sendSeq 0x12 [a.peershr t.share + (t.hi - t.lo) * 2 ^ 32, t.lo - a.shLo t.share]
  else a

/-- R73, R96: a RELEASE of queue q is taken: it is captured at once, or waits for covering tickets or a walk register. One that waits takes its
sequence when its entry is taken, and later entries go on before its capture: the spec does not say when a waiting RELEASE takes its sequence
(DESIGN CHOICE, log 184). -/
def State.takeRelease (s : State) (q tag share off len : Nat) (u : Bool) : State :=
  let k := (s.queue q).head
  let (r, t) := s.newTicket q tag .release 0 share u false
  match r.rangeFault k share off len true with
  | some (st, rs) => r.finish t st rs 0
  | none =>
    let (lo, hi) := r.rangeUnits share off len
    let t := { t with lo := lo, hi := hi }
    let x := r.queue q
    let r := (r.setQueue q { x with holdF := t.seq :: x.holdF, holdH := t.seq :: x.holdH }).keepTicket
      { t with op := if r.freeWalk.isNone then 1 else 0 }
    match r.freeWalk with
    | some i => if r.coveredByFlash lo hi then r else r.startWalk i t
    | none => r

/-- R73: PROBE's REASON bits for a range. -/
def State.probeBits (s : State) (share lo hi : Nat) : Nat :=
  let m := s.shMode share
  let clean := (s.dirtyRuns lo hi).isEmpty
  let b2 := modeAccepts m 3 && clean
  let b1 := modeAccepts m 2 && s.twinHolds share (s.rd F.TW_OSEQ_VALUE)
  let b0 := modeAccepts m 1 && (m != mdWritethru || b2)
  bit01 b0 + 2 * bit01 b1 + 4 * bit01 b2

/-- R73: a PROBE of queue q: it captures nothing and waits on nothing. -/
def State.takeProbe (s : State) (q tag share level off len : Nat) (u inl : Bool) : State :=
  let k := (s.queue q).head
  let (r, t) := s.newTicket q tag .fence level share u inl
  match r.rangeFault k share off len false with
  | some (st, rs) => r.finish t st rs 0
  | none =>
    let (lo, hi) := r.rangeUnits share off len
    r.finish t 0 (r.probeBits share lo hi) (min (Segs.count (fun e => e.st != 0) lo hi r.dmap) 0xFFFFFFFF)

/-! ### Waiting tickets satisfied (R71, R72, R212) -/

/-- A list of runs without the units of one range. -/
def cutRuns (lo hi : Nat) (l : List (Nat × Nat)) : List (Nat × Nat) :=
  l.flatMap fun r => (if r.1 < min r.2 lo then [(r.1, min r.2 lo)] else []) ++ (if max r.1 hi < r.2 then [(max r.1 hi, r.2)] else [])

/-- R71: units no longer wait in the tickets a test picks. -/
def State.satisfy (s : State) (p : Ticket → Bool) (lo hi : Nat) : State :=
  { s with tickets := s.tickets.map fun t => if p t then { t with wait := cutRuns lo hi t.wait } else t }

/-- A ticket that waited on drain generations and waits no more. -/
def Ticket.flashDone (t : Ticket) (before : List Ticket) : Bool :=
  t.kind == .commit && t.outcome.isNone && t.wait.isEmpty &&
    before.any fun b => b.qid == t.qid && b.seq == t.seq && !b.wait.isEmpty

/-- R71: the tickets that a drain or a walk satisfied complete DONE. -/
def State.flushFlash (s : State) (before : List Ticket) : State :=
  (s.tickets.filter fun t => t.flashDone before).foldl (fun a t => a.finish t 0 0 0) s

/-- R71, R212: TWINED tickets whose sequence is acknowledged complete DONE. -/
def State.flushTwined (s : State) : State :=
  (s.tickets.filter fun t => t.kind == .commit && t.level == 2 && t.outcome.isNone &&
      (match t.oseq with
       | some q => s.twinHolds t.share q || (s.shMode t.share != mdTwined && decide (q ≤ s.rd F.TW_ASEQ_VALUE))
       | none => false)).foldl (fun a t => a.finish t 0 0 0) s

/-- R212: waiting TWINED tickets of a share complete TWIN_ABSENT. -/
def State.twinAbsent (s : State) (n : Nat) : State :=
  (s.tickets.filter fun t => t.kind == .commit && t.level == 2 && t.share == n && t.outcome.isNone).foldl
    (fun a t => a.finish t 1 0 0) s

/-- R68: open COMMITs that cover one of the lines from `lo` to before `hi`, which became uncorrectable, complete LOST. -/
def State.lostLines (s : State) (lo hi : Nat) : State :=
  (s.tickets.filter fun t => t.kind == .commit && t.outcome.isNone && decide (t.line0 < hi) && decide (lo < t.line1)).foldl
    (fun a t => a.finish t 2 0 0) s

/-- R30: tickets in flight on a share. -/
def State.ticketsOn (s : State) (n : Nat) : Bool :=
  s.tickets.any fun t => (t.kind == .commit || t.kind == .release) && t.share == n && t.outcome.isNone

/-! ### Queues under link and head events (R81) -/

/-- The queues of head k that are not DISABLED. -/
def State.queuesOf (s : State) (k : Nat) : List Nat :=
  (s.queues.filter fun e => e.2.head == k && e.2.state != 0).map Prod.fst

/-- R65: a held inline commit is discarded and counted. -/
def State.dropHeld (s : State) (q : Nat) : State :=
  let x := s.queue q
  if x.held.isSome then (s.setQueue q { x with held := none }).addi F.QUE_ERRC_FOREIGN x.head 1 else s

/-- R60, R64: a queue moves to ERROR with a reason. -/
def State.queueError (s : State) (q why : Nat) : State :=
  let r := s.dropHeld q
  (r.setQueue q { r.queue q with state := 2, err := why }).event 0x2101 [q, why]

/-- R81: completed tickets wait for return; LDPOL 1 completes open tickets ABORTED. -/
def State.suspendQueue (s : State) (q : Nat) : State :=
  let r := s.dropHeld q
  let x := r.queue q
  let r := r.setQueue q { x with state := 4, wasErr := x.state == 2, paused := false }
  if x.ldpol && !x.admin then r.abortQueue q else r

/-- Posts the outcomes kept while posting was stopped, in sequence order. -/
def State.postKept (s : State) (q : Nat) : State :=
  let kept := s.tickets.filter fun t => t.qid == q && t.outcome.isSome
  let r := { s with tickets := s.tickets.filter fun t => !(t.qid == q && t.outcome.isSome) }
  (kept.foldl (fun a t => match t.outcome with | some (st, rs, res, ts) => a.postEntry t st rs res ts | none => a) r).poolCheck

/-- R81: the link returned after link down: every entry from the last CQ_HEAD to the tail is rewritten with identical content, posting
resumes, and the vector is signalled. -/
def State.resumeQueue (s : State) (q : Nat) : State :=
  let x := s.queue q
  let r := x.ring.foldl (fun a e => a.send (.completion q e.1 e.2)) s
  let r := r.setQueue q { x with state := if x.wasErr then 2 else 1 }
  let r := r.postKept q
  if x.ien then r.signalQueue q else r

/-- R81: the queues of head k become DISABLED: contexts freed, nothing posted, abandoned tickets counted as ABORTED in the frontiers;
QUE_ACTL.EN clears. -/
def State.disableQueues (s : State) (k : Nat) : State :=
  let r := s.forEach (s.queuesOf k) fun a q =>
    let a := a.dropHeld q
    let a := (a.tickets.filter fun t => t.qid == q).foldl (fun b t => b.setQueue q ((b.queue q).settled t.kind t.seq
      (match t.outcome with | some o => o.1 | none => 3))) a
    let a := { a with tickets := a.tickets.filter fun t => t.qid != q }
    a.setQueue q { a.queue q with state := 0, ring := [], inlTag := none, barrier := none, paused := false, unsig := 0 }
  r.poolCheck.wri F.QUE_ACTL_EN k 0

end Sys2Proof.Machine
end

