-- ==== Sys2Proof/Machine/DramOps.lean ====
section
/-! DEFINITION. DRAM errors, poison and the poison list (R50, R52, R225, R234 to R238, R240). -/

namespace Sys2Proof.Machine

/-! ### Poison (R50, R52) -/

/-- A 64-byte line is held poisoned. -/
def State.linePoisoned (s : State) (line : Nat) : Bool := Segs.get false s.poisoned line

/-- R50: a poison record joins the list unless one covers the line; a full list sets Overflow with its time, and the record waits for space. -/
def State.listPoison (s : State) (line len src : Nat) : State :=
  if (s.poisonList ++ s.poisonWait).any fun p => p.line ≤ line && decide (line + len ≤ p.line + p.len) then s
  else if s.poisonList.length < 65536 then { s with poisonList := s.poisonList ++ [{ line := line, len := len, source := src }] }
  else { s with poisonWait := s.poisonWait ++ [{ line := line, len := len, source := src }]
                poisonOvf := if s.poisonOvf.isSome then s.poisonOvf else some s.ck.ns }

/-- R52: a line becomes poisoned and is listed with its source. -/
def State.poisonLine (s : State) (line src : Nat) : State :=
  State.listPoison { s with poisoned := Segs.put s.poisoned line true } line 1 src

/-- R50: records whose lines are all good again leave the list, and those that waited for space take it; Overflow clears once there is room. -/
def State.prunePoison (s : State) : State :=
  let bad := fun (p : PoisonRec) => Segs.count (fun b => b) p.line (p.line + p.len) s.poisoned != 0
  let l := s.poisonList.filter bad
  let w := s.poisonWait.filter bad
  let all := l ++ w.take (65536 - l.length)
  { s with poisonList := all, poisonWait := w.drop (65536 - l.length), poisonOvf := if all.length < 65536 then none else s.poisonOvf }

/-- R50, R52: the lines of a range are wholly rewritten or cleared. -/
def State.cleanLines (s : State) (lo hi : Nat) : State :=
  if Segs.count (fun b => b) lo hi s.poisoned = 0 then s
  else State.prunePoison { s with poisoned := Segs.cut lo hi s.poisoned }

/-- A unit rewritten as zero. -/
def State.zeroUnit (s : State) (u : Nat) : State :=
  State.cleanLines { s with mem := memZero s.mem (u * 4096) (u * 4096 + 4096) } (u * 64) (u * 64 + 64)

/-- R159: a unit all of whose lines are poisoned, with an Internal record. -/
def State.poisonUnit (s : State) (u : Nat) : State :=
  State.listPoison { s with poisoned := Segs.fill s.poisoned (u * 64) (u * 64 + 64) true } (u * 64) 64 2

/-- R40, R44: a read of head k is answered with poison; what data it carries is left open. -/
def State.answerPoison (s : State) (k : Nat) : State :=
  ((s.send (.readData k (BitVec.ofNat 512 s.freeVal) true)).skipFree).bumpi F.HP_POIS_TXPOIS k

/-! ### Where a line lies (R225) -/

/-- The channel of a unit; the subchannel of a line. -/
def unitChan (u : Nat) : Nat := u % 24
def lineSub (line : Nat) : Nat := line % 2

/-- The memory channel c. -/
def State.mch (s : State) (c : Nat) : McChan := FMap.get {} s.mc.chans c

/-- Sets the memory channel c. -/
def State.setMch (s : State) (c : Nat) (x : McChan) : State := { s with mc := { s.mc with chans := FMap.put s.mc.chans c x } }

/-- R225, R226, R238: the rank of a unit: bit 12 of its channel address on a two-rank module without spare ranks; with spares, the rank in
use, or the spare below the pointer of a copy. -/
def State.unitRank (s : State) (u : Nat) : Nat :=
  let x := s.mch (unitChan u)
  if s.flag F.MC_CFG_SPARE then
    let copied := s.rd F.MC_SPARE_STATE != 0 && s.rd F.MC_SPARE_CHAN == unitChan u && decide (u / 24 * 4096 < s.mc.ptr)
    bit01 (x.swap != copied)
  else if x.ranks = 2 then u / 24 % 2 else 0

/-- The heads granted a share; every head for no share (R240). -/
def State.headsOf (s : State) (n : Option Nat) : List Nat :=
  (List.range 16).filter fun k => s.headExists k && match n with | some i => s.grant i k == 1 || s.grant i k == 2 | none => true

/-- R240: a General Media Event record in the Failure log of every head granted the share of a unit. -/
def State.mediaEvent (s : State) (u : Nat) (kind : Nat) : State :=
  s.forEach (s.headsOf (s.shareOf u)) fun a k => a.cxlEvent k 2 0x8004 [u * 4096, kind]

/-- R240: a DRAM Event record in the Informational log of every head. -/
def State.dramEvent (s : State) (code : Nat) (d : List Nat) : State :=
  s.forEach (s.headsOf none) fun a k => a.cxlEvent k 0 code d

/-! ### Errors and their outcomes (R235) -/

/-- R238: a rank spare starts; it is refused while one runs. -/
def State.startSpare (s : State) (c r : Nat) : State :=
  let t := (((s.wr F.MC_SPARE_STATE 1).wr F.MC_SPARE_CHAN c).wr F.MC_SPARE_RANK r).wr F.MC_SPARE_PROG 0
  (State.event { t with mc := { t.mc with spare := some (c, r), ptr := 0, ptrCkpt := 0 } } 0x8007 [c, r]).dramEvent 0x8007 [c, r]

/-- R238: a spare rank of channel c is free: SPARE is set, rank 1 is not yet in use and no copy runs. -/
def State.spareFree (s : State) (c : Nat) : Bool :=
  s.flag F.MC_CFG_SPARE && (s.mch c).spared == 0 && s.rd F.MC_SPARE_STATE == 0

/-- R237: device d of a rank and subchannel reached a threshold: it is marked; for a second one the rank is spared if a spare is
free, otherwise event 0x8006 is recorded. -/
def State.markDevice (s : State) (c r sub d : Nat) : State :=
  let x := s.mch c
  let m := FMap.get 0 x.marks (2 * r + sub)
  if m = 0 then
    ((s.setMch c { x with marks := FMap.put x.marks (2 * r + sub) (16 + d) }).event 0x8005 [c, r, sub, d]).dramEvent 0x8005 [c, r, sub, d]
  else if m = 16 + d then s
  else if s.spareFree c then s.startSpare c r
  else ((s.event 0x8006 [c, r, sub]).latchAttn 5).settleAttn

/-- R236: a row of a device is repaired by sPPR and listed in NOR. -/
def State.repairRow (s : State) (c r sub d row : Nat) : State :=
  let x := s.mch c
  if s.phase = phSave ∨ x.rows.contains (r, sub, d, row) then s
  else
    ((s.setMch c { x with rows := x.rows ++ [(r, sub, d, row)], pprs := x.pprs + 1 }).event 0x8009 [c, r, d, row]).dramEvent 0x8009
      [c, r, d, row]

/-- R230: the device marked for erasure in the rank and subchannel of a line. -/
def State.lineMark (s : State) (line : Nat) : Option Nat :=
  match FMap.get 0 (s.mch (unitChan (line / 64))).marks (2 * s.unitRank (line / 64) + lineSub line) with
  | 0 => none
  | m => some (m % 16)

/-- R230: what the decoder makes of a codeword: the devices corrected, each with whether it counts as a device pattern, or none where the error is
uncorrectable. Normal mode corrects up to 8 wrong symbols within one device, or up to 4 anywhere; erasure mode up to 4 beside those of the
marked device. -/
def decodeLine (e : LineError) (mark : Option Nat) : Option (List (Nat × Bool)) :=
  let w := (e.wrong.eraseDups.filter fun i => decide (i < 80) && mark != some (i / 8))
  let ds := (w.map (· / 8)).eraseDups
  match mark, ds with
  | none, [d] => some [(d, decide (5 ≤ w.length))]
  | _, _ => if w.length ≤ 4 then some (ds.map fun d => (d, false)) else none

/-- R235: a correction on one device of a line counts over 24 h, and may bring a row repair or a device mark. -/
def State.deviceError (s : State) (line d row : Nat) (pat : Bool) : State :=
  let u := line / 64
  let c := unitChan u
  let r := s.unitRank u
  let sub := lineSub line
  let key := ((c * 2 + r) * 2 + sub) * 10 + d
  let l := (s.ck.mono, row, pat) :: (FMap.get [] s.mc.ces key).filter fun e => decide (s.ck.mono < e.1 + 86400000000000)
  let t : State := { s with mc := { s.mc with ces := FMap.put s.mc.ces key l } }
  let t := if (l.filter fun e => e.2.1 == row).length = t.rd F.MC_THR_ROWCE then t.repairRow c r sub d row else t
  if l.length = t.rd F.MC_THR_DEVCE ∨ (pat = true ∧ (l.filter fun e => e.2.2).length = t.rd F.MC_THR_DEVPAT) then t.markDevice c r sub d
  else t

/-- R234, R235, R240: a corrected line counts once, is written back unchanged, and counts on each device corrected. -/
def State.correctedLine (s : State) (line row : Nat) (ds : List (Nat × Bool)) : State :=
  let u := line / 64
  let x := s.mch (unitChan u)
  let t := (s.setMch (unitChan u) { x with ce := min 0xFFFF (x.ce + 1) }).bump F.MC_ERR_CE
  let vol := match t.shareOf u with | some n => t.shMode n == mdVolatile | none => true
  let t : State := { t with mc := { t.mc with ceVol := t.mc.ceVol + bit01 vol, cePer := t.mc.cePer + bit01 (!vol) } }
  ds.foldl (fun (a : State) d => a.deviceError line d.1 row d.2) t

/-- R235: an uncorrectable line read by a host, patrol, or a scan: it is poisoned and listed Internal; a CLEAN unit with a located copy
is to be healed; a CLEAN unit reading ZERO or RELEASED is rewritten as zero; any other stays poisoned. -/
def State.uncorrectableLine (s : State) (line : Nat) : State :=
  let u := line / 64
  let x := s.mch (unitChan u)
  let t := ((s.setMch (unitChan u) { x with ue := min 0xFFFF (x.ue + 1) }).bump F.MC_ERR_UE).event 0x8004 [line * 64, 0]
  let t := ((t.poisonLine line 2).mediaEvent u 0).lostLines line (line + 1)
  match t.shareOf u with
  | none => t
  | some n =>
    if !(t.counted n || t.shMode n == mdSealed) || (t.unit u).st != 0 then t
    else match t.idx u with
      | .slot _ _ => if t.mc.heals.contains u then t else { t with mc := { t.mc with heals := t.mc.heals ++ [u] } }
      | _ => t.zeroUnit u

/-- R228, R230: a read of a line is uncorrectable: its channel is FAILED, or the decoder's limits are passed. -/
def State.lineBad (s : State) (line : Nat) (e : LineError) : Bool :=
  (s.mch (unitChan (line / 64))).state == 4 || (decodeLine e (s.lineMark line)).isNone

/-- What reading a line finds: its outcome applied. -/
def State.lineRead (s : State) (line : Nat) (e : LineError) : State :=
  if s.lineBad line e then s.uncorrectableLine line
  else match decodeLine e (s.lineMark line) with
    | some (d :: l) => s.correctedLine line e.row (d :: l)
    | _ => s

/-! ### Lines entering DRAM (R42, R52, R157, R161) -/

/-- The restore map's entry of a unit: 0 PRESENT, 1 ABSENT, 2 ZEROING (R157). -/
def State.rmapOf (s : State) (u : Nat) : Nat := Segs.get 0 s.rs.rmap u

/-- R157: a unit becomes PRESENT. -/
def State.setPresent (s : State) (u : Nat) : State :=
  if s.rmapOf u = 0 then s else { s with rs := { s.rs with rmap := Segs.cut u (u + 1) s.rs.rmap } }

/-- R42, R52: a line is written: enabled bytes are merged, poison is marked, and a whole good line clears poison. -/
def State.storeLine (s : State) (line : Nat) (d : BitVec 512) (be : BitVec 64) (poison : Bool) : State :=
  let t : State := { s with mem := memWriteLine s.mem (line * 64) d be 64 }
  if poison then t.poisonLine line 1
  else if be = BitVec.allOnes 64 then t.cleanLines line (line + 1)
  else t

/-- The slot of an ABSENT unit: its Skein and place. -/
def State.slotOf (s : State) (u : Nat) : Option (Skein × Nat × Slot) :=
  match s.idx u with
  | .slot g i => match FMap.find s.im.skeins g with
    | some k => match k.slots[i]? with
      | some (some x) => some (k, i, x)
      | _ => none
    | none => none
  | _ => none

/-- The target that holds the data Strand of a unit's copy. -/
def State.fetchTarget (s : State) (u : Nat) : Option Nat :=
  match s.idx u with
  | .slot g i => match FMap.find s.im.skeins g with
    | some k => (s.strandBlk k (i / 4)).map blkTgt
    | none => none
  | _ => none

/-! ### Reads of Strands (R137, R159, R161 to R163, R175, R178, R179, R181) -/

/-- R137, R189: Strand j of a Skein may be intact: it was programmed, and its target is not retired. -/
def State.strandThere (s : State) (k : Skein) (j : Nat) : Bool :=
  match s.strandBlk k j with
  | some m => !k.failed.contains j && ! [tgAbsent, tgBound, tgRetired].contains (s.tgt (blkTgt m)).state
  | none => false

/-- R136, R159: 28 Strands other than j are intact, where `others` are not. -/
def State.rebuilds (s : State) (k : Skein) (j : Nat) (others : List Nat) : Bool :=
  decide (28 ≤ ((List.range 32).filter fun i => i != j && s.strandThere k i && !others.contains i).length)

/-- R181: a block is marked for refresh: its bundle's live units are to be relocated. -/
def State.refresh (s : State) (b m : Nat) : State :=
  if (s.blk m).marked then s
  else
    let t := (s.setBlk m { s.blk m with marked := true }).bump F.FC_RRT_REFRESH
    if t.fc.reclaim.contains b then t else { t with fc := { t.fc with reclaim := t.fc.reclaim ++ [b] } }

/-- R181: Strand j of a Skein is read so many times, with the errors of the last read: its block counts the reads, and is marked for refresh after
a retry, a codeword with more than 48 corrected bits, or 200,000 reads since its erase. -/
def State.strandReads (s : State) (k : Skein) (j n : Nat) (flips : List Nat) : State :=
  match s.strandBlk k j with
  | none => s
  | some m =>
    let c := (s.blk m).reads + n
    let t := s.setBlk m { s.blk m with reads := c }
    if 1 < n ∨ pageDecodes 48 flips = false ∨ 200000 ≤ c then t.refresh k.bundle m else t

/-- R159, R161: a rebuild reads the other Strands of a Skein. -/
def State.rebuildReads (s : State) (k : Skein) (j : Nat) : State :=
  s.forEach ((List.range 32).filter fun i => i != j && s.strandThere k i) fun a i => a.strandReads k i 1 []

/-- R163: the order of fetches on a target: those started by reads, then those for writes, each in order of arrival. -/
def Fetch.before (f g : Fetch) : Bool :=
  let c := fun (x : Fetch) => if x.byRead.isSome then 0 else 1
  decide (c f < c g) || (c f == c g && decide (f.seq < g.seq))

/-- R14, R162, R163: on every target without a Strand read in progress the first fetch's read is issued; none while SP2 is absent. -/
def State.sendFetches (s : State) : State :=
  if !s.spRuns 2 then s
  else
    let tg := s.rs.fetches.map fun e => (s.fetchTarget e.1, e.2)
    let go := fun (e : Nat × Fetch) =>
      let t := s.fetchTarget e.1
      !e.2.atOnce && !(tg.any fun x => x.1 == t && !x.2.atOnce && (x.2.sent || x.2.before e.2))
    let fs : FMap Fetch := s.rs.fetches.map fun (e : Nat × Fetch) => (e.1, if go e then { e.2 with sent := true } else e.2)
    { s with rs := { s.rs with fetches := fs } }

/-- R175, R179: a fetch of a unit rebuilds at once: its Strand was not programmed, or its target is not HEALTHY or in unsuspendable work. -/
def State.fetchAtOnce (s : State) (u : Nat) : Bool :=
  match s.slotOf u with
  | some (k, i, _) =>
    match s.strandBlk k (i / 4) with
    | some m => !s.strandThere k (i / 4) || !s.healthy (blkTgt m) || s.hardTgts.contains (blkTgt m)
    | none => true
  | none => false

/-- R178: a program in progress on target T is suspended for a read, which counts. -/
def State.suspendProgram (s : State) (t : Nat) : State :=
  let x := s.tgt t
  if s.programsOn t = true ∧ s.phase ≠ phSave ∧ x.susp.isNone = true ∧ x.pgm < s.pgmMax then
    let r := s.setTgt t { x with pgm := x.pgm + 1 }
    if x.pgm + 1 = s.pgmMax then r.bump F.FC_SUSP_PGMX else r
  else s

/-- R162, R178: a read suspends what may be suspended on its target. -/
def State.suspendFor (s : State) (u : Nat) : State :=
  match s.fetchTarget u with
  | none => s
  | some t => if s.programsOn t then s.suspendProgram t else s.suspendErase t

/-- R161, R163, R171, R179: a demand fetch of a unit starts, or is joined. -/
def State.startFetch (s : State) (u : Nat) (reader : Option (Nat × Nat)) : State :=
  match FMap.find s.rs.fetches u with
  | some f =>
    { s with rs := { s.rs with fetches := FMap.put s.rs.fetches u { f with readers := f.readers ++ reader.toList } } }
  | none =>
    let f : Fetch := { readers := reader.toList, byRead := reader.map Prod.fst
                       seq := (s.rs.fetches.map fun e => e.2.seq).foldl max 0 + 1, atOnce := s.fetchAtOnce u }
    let n := (s.rs.fetches.filter fun e => !e.2.atOnce && s.fetchTarget e.1 == s.fetchTarget u && (e.2.sent || e.2.before f)).length
    let t : State := if f.atOnce then s else s.suspendFor u
    let t : State := { t with rs := { t.rs with fetches := FMap.put t.rs.fetches u { f with ahead := if f.atOnce then 0 else n } } }
    t.sendFetches.wr F.SPN_FETCH_PEND t.rs.fetches.length

/-- R157, R161: a write to a line reaches DRAM: a ZEROING unit is zero-filled first; on an ABSENT unit the line waits in ingress for the
unit's fetch. -/
def State.ingressLine (s : State) (head line : Nat) (d : BitVec 512) (be : BitVec 64) (poison : Bool) : State :=
  let u := line / 64
  if s.rmapOf u = 1 then
    let w : WaitLine := { head := head, line := line, data := d, be := be, poison := poison }
    State.startFetch { s with rs := { s.rs with waits := s.rs.waits ++ [w] } } u none
  else if s.rmapOf u = 2 then ((s.zeroUnit u).setPresent u).storeLine line d be poison
  else s.storeLine line d be poison

end Sys2Proof.Machine
end

