-- ==== Sys2Proof/Machine/Sluice.lean ====
section
/-! DEFINITION. What the Millrace selects, and what follows a change of residue or of the Weir: the comparator, the Sluice and the fallback
(R90 to R103, R109, R115, R176, R192). -/

namespace Sys2Proof.Machine

/-! ### Selection (R90 to R95, R115) -/

/-- R90: an age in seconds from a stamp, 512 and more counting as 512. -/
def ageOf (now stamp : Nat) : Nat := min 512 ((now + 1024 - stamp % 1024) % 1024)

/-- A unit eligible for a Skein: its class, how much younger than 512 s it is, and its number. -/
abbrev Cand := Nat × Nat × Nat

/-- R92: order by class, then oldest first, then lowest address. -/
def candBefore (a b : Cand) : Bool :=
  if a.1 ≠ b.1 then decide (a.1 < b.1) else if a.2.1 ≠ b.2.1 then decide (a.2.1 < b.2.1) else decide (a.2.2 < b.2.2)

/-- A candidate put in its place. -/
def candInsert (x : Cand) : List Cand → List Cand
  | [] => [x]
  | y :: l => if candBefore x y then x :: y :: l else y :: candInsert x l

/-- Candidates in order. -/
def candSort (l : List Cand) : List Cand := l.foldr candInsert []

/-- R110: MR_AGE.SETTLE, at least 1. -/
def State.settleAge (s : State) : Nat := max 1 (s.rd F.MR_AGE_SETTLE)

/-- R30, R92: the class of a DIRTY unit; a SEAL drains its share at WRITETHRU priority. -/
def State.classOf (s : State) (u : Nat) (e : UnitSt) : Nat :=
  let age := ageOf s.nowSec e.stamp
  let wt := match s.shareOf u with | some n => s.shMode n == mdWritethru || s.sealing n | none => false
  let mx := s.rd F.MR_AGE_MAXAGE
  if wt then 1 else if e.wanted then 2 else if mx ≠ 0 ∧ mx < age then 3
  else if (e.hot = false ∧ s.settleAge < age) ∨ (e.hot = true ∧ s.settleAge + s.rd F.MR_AGE_HOTX < age) then 4
  else 5

/-- R92: the highest class open in a drain state. -/
def openClass (d : Nat) : Nat := if d = 0 then 3 else if d = 1 then 4 else if d = 4 then 0 else 5

/-- Whether a unit is ABSENT in the restore map (R157). -/
def State.absent (s : State) (u : Nat) : Bool := Segs.get 0 s.rs.rmap u == 1

/-- Up to 112 units of each run of DIRTY entries, as candidates of the classes open; in a Save every class, ordered as R115. A unit whose
fetch has not ended waits for it (R161). -/
def State.dirtyCands (s : State) (save : Bool) : List Cand :=
  (s.dmap.filter fun e => e.2.2.st == 1).flatMap fun e =>
    ((((List.range (e.2.1 - e.1)).map (· + e.1)).filter fun u => !s.absent u).take 112).filterMap fun u =>
      let c := s.classOf u e.2.2
      if save then some (min c 3, 512 - ageOf s.nowSec e.2.2.stamp, u)
      else if c ≤ openClass s.drainState then some (c, 512 - ageOf s.nowSec e.2.2.stamp, u) else none

/-- The live units of a committed DATA Skein: those the index still names in it. -/
def State.liveUnits (s : State) (k : Skein) : List Nat :=
  ((List.range k.slots.length).zip k.slots).filterMap fun p => match p.2 with
    | some x => if s.idx x.unit = .slot k.gen p.1 then some x.unit else none
    | none => none

/-- A unit can be relocated from DRAM: CLEAN and PRESENT, and in no Skein in flight. -/
def State.movable (s : State) (u : Nat) : Bool :=
  (s.unit u).st == 0 && !s.absent u &&
    !(s.im.flight.any fun k => k.slots.any fun x => match x with | some y => y.unit == u | none => false)

/-- The live units of the Skeins of a bundle. -/
def State.liveIn (s : State) (b : Nat) : List Nat :=
  (s.im.skeins.filter fun e => e.2.ty == 1 && e.2.bundle == b).flatMap fun e => s.liveUnits e.2

/-- R192: the bundles naming a target, in ascending number. -/
def State.bundlesOf (s : State) (t : Nat) : List Nat :=
  (s.im.bundles.filter fun e => e.2.use == 1 && e.2.members.any fun m => blkTgt m == t).map Prod.fst

/-- R95: the pre-erased space is short of N_F × R_BUS × T_WIN of payload. -/
def State.poolShort (s : State) : Bool := decide (s.payBytes * 1000 < s.nF * s.busTerm * s.tWin)

/-- R95: live units of the committed Skeins with the fewest live units. -/
def State.reclaimUnits (s : State) : List Nat :=
  let l := (s.im.skeins.filter fun e => e.2.ty == 1).map fun e => s.liveUnits e.2
  let ordered := (candSort (((List.range l.length).zip l).map fun p => (p.2.length, 0, p.1))).filterMap fun c => l[c.2.2]?
  ordered.flatten

/-- The lowest generation among the committed DATA Skeins of a bundle. -/
def State.bundleGen (s : State) (b : Nat) : Nat :=
  ((s.im.skeins.filter fun e => e.2.ty == 1 && e.2.bundle == b).map Prod.fst).foldl min (2 ^ 48)

/-- R176: where the erase counts of a target's usable blocks spread by more than 2,000, the bundle of oldest data among those that hold its
least-erased blocks. -/
def State.spreadBundle (s : State) (t : Nat) : Option Nat :=
  let l := (Segs.within (t * 4096) (t * 4096 + 4096) s.fc.blocks).filter fun e => e.2.2.st != 7
  let hi := (l.map fun e => e.2.2.ers).foldl max 0
  let lo := (l.map fun e => e.2.2.ers).foldl min hi
  if hi ≤ lo + 2000 then none
  else
    let least := l.filter fun e => e.2.2.ers == lo
    let bs := s.im.bundles.filter fun e => e.2.use == 1 && e.2.members.any fun m => least.any fun r => r.1 ≤ m && m < r.2.1
    (bs.foldl (fun a e => match a with
      | none => some e.1
      | some b => if s.bundleGen e.1 < s.bundleGen b then some e.1 else some b) none)

/-- R95, R176, R181, R192: units to be relocated: of the target in re-skeining, of bundles marked for reclaim, of bundles whose blocks wear
unevenly, and while the pool is short of the Skeins chosen. The first three run in SERVICE; re-skeining needs SP1 and pauses in OVERHANG
(R14, R193). -/
def State.moveUnits (s : State) : List Nat :=
  let rsk := if s.phase = phService ∧ s.rd F.FC_RSK_STATE = 2 ∧ s.drainState ≠ 3 ∧ s.spRuns 1 = true then
      match s.fc.queue.head? with | some t => (s.bundlesOf t).flatMap s.liveIn | none => []
    else []
  let rec' := if s.phase = phService then s.fc.reclaim.flatMap s.liveIn else []
  let worn := if s.phase = phService then ((s.fc.tgts.filterMap fun e => s.spreadBundle e.1).flatMap s.liveIn) else []
  let short := if s.poolShort then s.reclaimUnits else []
  (rsk ++ rec' ++ worn ++ short).eraseDups

/-- R92, R192: what relocation takes of a list of live units, whatever their class: a CLEAN unit moves; a DIRTY one is drained as ever. -/
def State.relocs (s : State) (l : List Nat) : List (Nat × Bool) :=
  l.filterMap fun u => if s.movable u then some (u, true) else if (s.unit u).st = 1 ∧ s.absent u = false then some (u, false) else none

/-- R92, R93, R115: up to 112 units for the next Skein, as unit and whether it moves while CLEAN. -/
def State.selection (s : State) : List (Nat × Bool) :=
  let save := s.phase == phSave
  let d := (candSort (s.dirtyCands save)).map fun c => (c.2.2, false)
  (d ++ (if save then [] else (s.relocs s.moveUnits).filter fun p => !d.contains p)).take 112

/-! ### The comparator, the Sluice and the Weir in force (R100 to R103, R109) -/

/-- R93: the wait of a partial Skein starts again once no unit is eligible or 112 are. -/
def State.settlePartial (s : State) : State :=
  if s.mr.partialOk && (s.selection.isEmpty || s.selection.length == 112) then { s with mr := { s.mr with partialOk := false } } else s

/-- R93, R100 to R103, R109, R393: after residue or the Weir changed, the comparator and the Sluice follow: the peak, the overhang, the curve
step and the heads paced, the credits withheld, the drain state. How many credits pacing withholds at an instant is left open. -/
def State.settleMr (s : State) : State :=
  let r := s.residue
  let ovh := decide (s.weirBytes < r * 4096)
  let was := s.flag F.MR_WEIR_OVH
  let t := if s.rd F.MR_RESIDUE_PEAK < r then s.wr F.MR_RESIDUE_PEAK r else s
  let t := if ovh && !was then
      ({ t with mr := { t.mr with ovhAt := s.ck.mono, ovhFrom := s.mr.drained } }).event 0x3003 [r, s.rd F.MR_WEIR_WEIR]
    else if was && !ovh then t.event 0x3004 [s.ck.mono - s.mr.ovhAt, (s.mr.drained - s.mr.ovhFrom) * 4096]
    else t
  let t := t.wr F.MR_WEIR_OVH (bit01 ovh)
  let step := s.sluiceStep
  let hs := if step = 15 then [] else s.sluiceHeads
  let mask := hs.foldl (fun a k => a + 2 ^ k) 0
  let stall := step == 8
  let t := if stall && !s.flag F.MR_SLUICE_STALL && !hs.isEmpty then t.event 0x3005 [mask, r] else t
  let t := ((t.wr F.MR_SLUICE_STEP step).wr F.MR_SLUICE_STALL (bit01 stall)).wr F.MR_SLUICE_HEADS mask
  let hold := s.removing
  let hs := if hold then s.sluiceHeads else hs
  let t := t.forEach (List.range 16) fun a k =>
    if !hs.contains k then (if a.rdi F.HP_CRED_WHELD k = 0 then a else a.wri F.HP_CRED_WHELD k 0)
    else if stall || hold then a.wri F.HP_CRED_WHELD k (a.headCredits k)
    else (a.wri F.HP_CRED_WHELD k (a.freeVal % (a.headCredits k + 1))).skipFree
  let t := t.forEach [0, 1] fun a b =>
    let v := bit01 (a.flagi F.EN_STS_RELEASED b && !ovh && decide (r * 4096 < a.weirBytes))
    if a.rdi F.EN_STS_SAFE b = v then a else a.wri F.EN_STS_SAFE b v
  let t := t.wr F.MR_DRAIN_STATE t.drainState
  let since := if stall then (match s.pan.stallAt with | some a => some a | none => some s.ck.mono) else none
  let t : State := if t.pan.stallAt = since then t else { t with pan := { t.pan with stallAt := since } }
  let t := if t.rd F.GEN_PANEL_RMV = 2 ∧ t.removalSafe = false then t.wr F.GEN_PANEL_RMV 1 else t
  t.settlePartial

/-- R100: the Weir in force changes; a change of 10 % or more is event 0x3001. -/
def State.setWeir (s : State) (w bind : Nat) : State :=
  let old := s.rd F.MR_WEIR_WEIR
  let t := (s.wr F.MR_WEIR_WEIR w).wr F.MR_WEIR_BIND bind
  let t := if old ≠ w ∧ old ≤ 10 * (max w old - min w old) then t.event 0x3001 [old, w, bind] else t
  t.settleMr

/-- R101: an event of the fallback set, in any phase in which the comparator runs and a Weir and its fallbacks have been computed: it joins
the set in force and the hardware loads the lesser of the Weir in force and the fallback value of the set. -/
def State.fallbackWeir (s : State) (b : Nat) : State :=
  if s.rd F.MR_WEIR_BIND = 7 ∨ s.dom 1 ≠ 1 then s
  else
    let set := natSetBit (s.rd F.MR_WEIR_FBSET) b
    let w := min (s.rd F.MR_WEIR_WEIR) (s.rdi F.MR_FB_WEIR set)
    let t := { s with mr := { s.mr with reflected := natClearBit s.mr.reflected b, rising := [] } }
    (((t.wr F.MR_WEIR_FBSET set).event 0x3002 [set, w])).setWeir w 6

end Sys2Proof.Machine
end

