-- ==== Sys2Proof/Machine/Flags.lean ====
section
/-! DEFINITION. The readiness vector and its change flags (R387). -/

namespace Sys2Proof.Machine

/-- R15, R377: the EV window is served: not while the MP restarts. -/
def State.evServed (s : State) : Bool := s.flag F.EV_STS_AVAIL && s.mpRuns

/-- R325: the two-wire pins are driven: PD_MGT runs, and no standby holds. -/
def State.busOn (s : State) : Bool := s.dom 0 == 1 && s.phase != phOff && s.phase != phDormant && s.rd F.PW_STATE_STBY == 0

/-- R15, R325: SB acknowledges its address: not while the MP restarts. -/
def State.sbOn (s : State) : Bool := s.busOn && (s.mpRuns || s.phase == phRecovery) && FMap.get 0 s.twb.states 0 < 2

/-- R387: whether the function of a readiness bit is usable. -/
def State.readyBit (s : State) (b : Nat) : Bool :=
  match b with
  | 0 => s.mpRuns
  | 1 => s.rd F.CK_STS_STATE == 2 || s.rd F.CK_STS_STATE == 3 || s.rd F.CK_STS_STATE == 4
  | 2 => s.rd F.PW_STATE_SEQ == 0 && s.pw.seqOn && s.spRuns 5
  | 3 => s.flag F.SEC_STS_PUFOK && s.flag F.SEC_STS_DRBGOK
  | 4 => s.evServed
  | 5 => s.rd F.CK_UNC_UNC != 2 ^ 48 - 1
  | 6 => s.mc.trained && s.rd F.MC_STAT_FAILED == 0
  | 7 => s.flag F.FC_PROT_ARMED && s.spRuns 2
  | 8 => s.rd F.EN_SUM_READY == 3 && s.spRuns 4
  | 9 => s.spRuns 0 && s.rd F.MR_WEIR_BIND != 7
  | 10 => s.spRuns 0 && s.serving
  | 11 => s.spRuns 1 && s.rs.imageDone
  | 12 => s.flag F.GEN_ADMIT_ADMITTED
  | 13 => s.serving && s.mc.trained
  | 14 => s.session
  | 15 => s.serving && !((List.range 64).any fun n => [shPending, shRestoring, shHot].contains (s.shState n))
  | 16 => s.sbOn
  | 17 => !(s.twb.faulted 1)
  | 18 => !(s.twb.faulted 5)
  | 19 => !(s.twb.faulted 6)
  | 20 => s.pan.ethUp
  | 21 => s.pan.ready
  | 48 => s.linkIn 0 && s.session
  | 49 => s.linkIn 1 && s.session
  | n => if 32 ≤ n ∧ n < 48 then s.headUp (n - 32) && (s.head (n - 32)).enumerated else false

/-- R387: the readiness vector: bits 22 to 31 and 50 to 63 are reserved. -/
def State.readyVec (s : State) : Nat :=
  ((List.range 22 ++ (List.range 18).map (· + 32)).filter s.readyBit).foldl (fun a b => a + 2 ^ b) 0

/-- R387: GEN_READY follows the functions; every change sets the matching bits of GEN_RCHG, signals vector 0 of every head and pulls
SB_ALERT_N low where enabled. Attention follows with it. -/
def State.updReady (s : State) : State :=
  let v := s.readyVec
  let old := s.rd F.GEN_READY_BITS
  let t := if v = old then s
    else (((s.wr F.GEN_READY_BITS v).wr F.GEN_RCHG_FLAGS (Nat.lor (s.rd F.GEN_RCHG_FLAGS) (Nat.xor v old))).msix0).sbAlert 1
  t.settleAttn

end Sys2Proof.Machine
end

