-- ==== Sys2Proof/Machine/BootOps.lean ====
section
/-! DEFINITION. Resets, the boot chain, the power sequencer's steps, snapshots, sleep, and the passage to DORMANT (R9, R274 to R279, R284,
R303, R336, R337, R343, R385, R403). -/

namespace Sys2Proof.Machine

/-! ### Register values that outlive a reset (R9, R403) -/

/-- A bit address is that of an instance of a field. -/
def Field.covers (f : Field) (key : Nat) : Bool :=
  if f.stride = 0 then key == f.key 0
  else decide (f.key 0 ≤ key) && (key - f.key 0) % (8 * f.stride) == 0 && decide ((key - f.key 0) / (8 * f.stride) < f.count)

/-- The fields of a list as the register file holds them. -/
def State.keep (s : State) (l : List Field) : FMap Nat := s.regs.filter fun e => l.any fun f => f.covers e.1

/-- Register values put over others. -/
def State.putRegs (s : State) (l : FMap Nat) : State := { s with regs := l.foldl (fun m e => FMap.put m e.1 e.2) s.regs }

/-- Fields kept in NOR or in PD_AON retention, and the levels of input pins. -/
def fieldsKept : List Field :=
  [F.PW_HOLD_CAP, F.PW_HOLD_TM, F.PW_HOLD_N, F.PW_SNAP_STORED, F.PW_SNAP_COUNT, F.MR_HOLDUP_THU, F.MR_HOLDUP_SRC, F.CK_STS_EPOCH,
   F.CK_PTP_UTCOFF, F.CK_UNC_UNC, F.CK_UNC_CLASS, F.CK_SLEEP_VALID, F.CK_SLEEP_TICKS,
   F.SEC_STS_OWNED, F.SEC_STS_DISCPEND, F.SEC_STS_SVNMIN, F.SEC_OWNER_KEYID, F.EV_STS_CLEARS, F.FW_CTL_RECREQ, F.GEN_PINS_PERST,
   F.GEN_PINS_RESET, F.GEN_PINS_WAKE, F.GEN_PINS_PRSNT, F.GEN_PINS_LATCH, F.GEN_PINS_PACKA, F.GEN_PINS_PACKB, F.GEN_PINS_BTN,
   F.SPN_SAVE_COUNT, F.SPN_FLICK_CONSEC, F.EN_STS_PROVIS, F.EN_STS_PAUSEREQ]

/-- R130: the registers that describe the last Save. -/
def fieldsSave : List Field :=
  [F.SPN_SAVE_RESULT, F.SPN_SAVE_REASON, F.SPN_SAVE_PWRBACK, F.SPN_SAVE_DEFER, F.SPN_SAVE_OVH, F.SPN_SAVE_TRIGA, F.SPN_SAVE_TRIGB,
   F.SPN_SAVE_TRIGL, F.SPN_SAVE_PACKLOSS, F.SPN_SAVE_CLKLOSS, F.SPN_SAVE_SPRLD, F.SPN_STIME_TOTAL, F.SPN_STIME_STREAM, F.SPN_SUNITS_LOST,
   F.SPN_SUNITS_SAVED, F.SPN_SRATE_START, F.SPN_SRATE_MIN, F.SPN_SRATE_OP, F.SPN_SRATE_DROOP, F.SPN_SRES_WEIR, F.SPN_SRES_RESID,
   F.SPN_GEN_GEN]

/-- R130, R403: the fields whose value comes from the image: from the hidden reserve while DRAM is held. -/
def fieldsImage : List Field :=
  fieldsSave ++
  [F.HP_SHUT_DSC, F.HP_SHUT_DIRTY, F.SHR_BASE_ADDR, F.SHR_SIZE_ADDR, F.SHR_CFG_EN, F.SHR_CFG_WT_CAP, F.SHR_CFG_RPRI, F.SHR_CFG_HOT,
   F.SHR_CFG_MODE, F.SHR_HEADS_GRANT, F.SHR_STATUS_REFUSE, F.SHR_STATUS_PROG, F.SHR_STATUS_TARGET, F.SHR_STATUS_STATE, F.SHR_STATUS_MODE,
   F.SHR_EPOCH_EPOCH, F.TW_S_PAIR]

/-- R17: what GEN_PHASE tells of the last transition. -/
def fieldsPhase : List Field := [F.GEN_PHASE_PHASE, F.GEN_PHASE_PREV, F.GEN_PHASE_CAUSE, F.GEN_PHASE_SINCE]

/-- Rail state and readings, which a device reset leaves alone (R385). -/
def fieldsRail : List Field :=
  [F.PW_DOM_DOM, F.PW_RMON_VOUT, F.PW_RMON_IOUT, F.PW_RMON_TEMP, F.PW_RMON_STAT, F.PW_RMON_FAULT, F.PW_RMON_PG, F.PW_VIN_VIN, F.PW_VIN_OK,
   F.PW_SBUS_SBUS, F.TWB_SB_EID]

/-- R9, R414: a NOR field's value at the next bring-up: for each masked bit the user value, for the others the factory value. -/
def State.norField (s : State) (f : Field) (i reg lo : Nat) : Nat :=
  let m := natField (FMap.get 0 s.norMask reg) lo f.width
  let old := FMap.get f.rst State.reset.regs (f.key i) % 2 ^ f.width
  let new := natField (FMap.get 0 s.norVal reg) lo f.width
  if m = 0 then old else f.limit (Nat.lor (Nat.land new m) (Nat.land old (Nat.xor m (2 ^ f.width - 1))))

/-- R414: a field of the configuration record. -/
def Field.inRecord (f : Field) : Bool := f.src == .nor && (f.acc == .rw || f.acc == .rwl)

/-- R9, R414: the fields that the configuration record gives a user value. -/
def State.norRegs (s : State) : FMap Nat :=
  s.norMask.flatMap fun e =>
    (allFields.filter Field.inRecord).flatMap fun f =>
      ((f.spots 0 e.1).filter fun p => natField e.2 p.2 f.width != 0).map fun p => (f.key p.1, s.norField f p.1 e.1 p.2)

/-- R58: the queues of head index k by default, with its port bifurcated or not: first and count. -/
def queueDefaultOf (split : Bool) (k : Nat) : Nat × Nat :=
  if split then (512 * (k % 8) + (if k < 8 then 0 else 256), 256)
  else if k < 8 then (512 * k, 512) else (0, 0)

/-- R58: the queues of head index k by default in the bifurcation in force. -/
def State.queueDefault (s : State) (k : Nat) : Nat × Nat := queueDefaultOf (s.flagi F.HP_PORT_CFG_BIF (k % 8)) k

/-- R58: QUE_ALLOC_k at a bring-up: user values as written for the head indices that exist, unless they overlap or exceed 4,096 queues;
then the defaults, with event 0x2104. -/
def State.allocate (s : State) : State :=
  let user := fun k lo n => natField (FMap.get 0 s.norMask (0x30100 + 8 * k)) lo n != 0
  let of := fun k =>
    if !s.headIndex k then (0, 0)
    else (if user k 0 12 then s.norField F.QUE_ALLOC_FIRST k (0x30100 + 8 * k) 0 else (s.queueDefault k).1,
          if user k 16 13 then s.norField F.QUE_ALLOC_COUNT k (0x30100 + 8 * k) 16 else (s.queueDefault k).2)
  let l := (List.range 16).map of
  let clash := (List.range 16).any fun i => (List.range i).any fun j =>
    let a := l.getD i (0, 0)
    let b := l.getD j (0, 0)
    a.2 != 0 && b.2 != 0 && decide (a.1 < b.1 + b.2) && decide (b.1 < a.1 + a.2)
  let bad := clash || decide (4096 < (l.map Prod.snd).foldl (· + ·) 0)
  let put := fun (a : State) (k : Nat) =>
    let v := if bad then a.queueDefault k else of k
    (a.wri F.QUE_ALLOC_FIRST k v.1).wri F.QUE_ALLOC_COUNT k v.2
  let t := s.forEach (List.range 16) put
  if bad then t.event 0x2104 [] else t

/-- R9, R10, R299: the trims in force after a reset: the factory values under the user record. -/
def State.trimRegs (s : State) : FMap Nat :=
  [(F.CK_TRIM_BOSC.key 0, signedIn 16 (clampInt 20000 (s.effective 0 (trimFactory 0)))),
   (F.CK_TRIM_LFO.key 0, signedIn 8 (s.effective 1 (trimFactory 1))),
   (F.CK_AOSC_PERIOD.key 0, (s.effective 2 (trimFactory 2)).toNat % 2 ^ 48)]

/-! ### Sleep (R303) -/

/-- R296, R307: the clock subsystem's state changes: CK_STS.STATE and DEGRADED, and event 0xB001. Causes: 0 start, 1 BOSC, 2 REFCLK_P/N, 3 return,
4 sleep. -/
def State.clockState (s : State) (st cause : Nat) : State :=
  ((s.event 0xB001 [s.rd F.CK_STS_STATE, st, cause]).wr F.CK_STS_STATE st).wr F.CK_STS_DEGRADED (bit01 (st != 2))

/-- R296: PD_MGT is de-isolated: BOSC is enabled with its trim. -/
def State.boscStart (s : State) : State := if s.rd F.CK_STS_STATE = 0 then s.clockState 1 0 else s

/-- R302: the growth of UNC in 10^-9 for a rate class. -/
def classRate (c : Nat) : Nat := [0, 100, 500, 5000, 310000, 5300000, 5000000, 50000, 20000000].getD c 0

/-- R302: class 7 when PERIOD was trimmed within 30 days, otherwise 8. -/
def State.sleepClass (s : State) : Nat :=
  match s.ck.periodAt with
  | some p => if s.ck.mono < p + 2592000000000000 then 7 else 8
  | none => 8

/-- R296, R303: on entry to SLEEP, DEEP or OFF the counter, UNC and rate class are latched into PD_AON, and BOSC and the PLLs stop; a sleep
already begun goes on. -/
def State.sleepLatch (s : State) : State :=
  if s.ck.sleep.isSome then s
  else
    let t := State.wr { s with ck := { s.ck with sleep := some (s.ck.ns, 0, s.rd F.CK_UNC_UNC, s.sleepClass) } } F.CK_SLEEP_VALID 1
    let t := if t.rd F.CK_STS_STATE = 0 then t else t.clockState 0 4
    (t.wr F.CK_STS_BOSCOK 0).wr F.CK_STS_LOCK 0

/-- R302, R303: on wake the AOSC ticks of the sleep advance the counter and UNC; HOLDOVER sets and event 0xB00D is recorded. -/
def State.sleepWake (s : State) (ticks : Nat) : State :=
  match s.ck.sleep with
  | none => s
  | some (t0, _, unc, cl) =>
    let d := ticks * s.rd F.CK_AOSC_PERIOD / 65536
    let u := if unc = 2 ^ 48 - 1 ∨ s.ck.aoscOut = true then 2 ^ 48 - 1
      else min (2 ^ 48 - 1) (unc + d * classRate cl / 1000000000 + 61000)
    let c := { s.ck with ns := t0 + d, mono := s.ck.mono + d, sleep := none, wakeRest := some d, firstOff := none, starts := 0, master := none }
    let c := { c with syncAt := none, good := 0, bad := 0 }
    let t : State := { s with ck := c }
    let t := ((t.wr F.CK_STS_TSRC 1).wr F.CK_SERVO_SSTATE 0).wr F.CK_STS_LOCK 0
    let t := ((t.wr F.CK_UNC_UNC u).wr F.CK_STS_HOLDOVER 1).wr F.CK_SLEEP_TICKS ticks
    t.event 0xB00D [ticks, u]

/-! ### Snapshots (R284) -/

/-- The readings of R291: PW_RMON of every slot, PW_VIN, PW_SBUS and PW_OP, as words. -/
def State.railWords (s : State) : List Nat :=
  let r := fun (f : Field) (i : Nat) => s.rdi f i * 2 ^ f.lo
  ((List.range 16).map fun i => r F.PW_RMON_VOUT i + r F.PW_RMON_IOUT i + r F.PW_RMON_TEMP i + r F.PW_RMON_STAT i + r F.PW_RMON_FAULT i +
      r F.PW_RMON_PG i) ++
    [r F.PW_VIN_VALID 0 + r F.PW_VIN_DEB 0 + r F.PW_VIN_VIN 0 + r F.PW_VIN_DIV 0 + r F.PW_VIN_OK 0,
     r F.PW_SBUS_SBUS 0 + r F.PW_SBUS_WARN 0 + r F.PW_SBUS_LOW 0 + r F.PW_SBUS_DIV 0 + r F.PW_SBUS_LOWIND 0 + r F.PW_SBUS_WARNIND 0,
     r F.PW_OP_CUR 0 + r F.PW_OP_TARGET 0 + r F.PW_OP_BUSY 0 + r F.PW_OP_THERM 0 + r F.PW_OP_CAP 0 + r F.PW_OP_HELD 0 + r F.PW_OP_VCORE 0]

/-- R284: snapshots held in SRAM are written to the NOR store, which keeps the last 8. -/
def State.snapWrite (s : State) : State :=
  let l := (s.pw.snapPend ++ s.pw.snaps).take 8
  State.wr { s with pw := { s.pw with snaps := l, snapPend := [] } } F.PW_SNAP_STORED l.length

/-- R284: what a snapshot holds beside the readings of the registers: VINB_SNS, and READ_VIN and the four detailed status registers of every PMBus
slave, as the outside answers them (free values, log 224). -/
def State.snapFree (s : State) : List Nat :=
  let n := ((List.range 16).filter fun i => s.flagi F.PW_RAIL_EN i && s.flagi F.PW_RAIL_PMB i).length
  (List.range (1 + 5 * n)).map fun j => Config.free (s.freeCtr + j) % 65536

/-- R284: a snapshot of a slot and cause (cause × 16 + slot) is taken; it is written at once in SERVICE and RECOVERY. -/
def State.snapNow (s : State) (key : Nat) : State :=
  let x : Snapshot := { cause := key / 16, slot := key % 16, time := s.ck.ns, unc := s.rd F.CK_UNC_UNC, phase := s.phase
                        pstate := s.rd F.PW_STATE_PSTATE, seq := s.rd F.PW_STATE_SEQ, step := s.rd F.PW_STATE_STEP
                        op := s.rd F.PW_OP_CUR, tj := s.pw.tj, readings := s.railWords ++ s.snapFree }
  let t : State := { s with pw := { s.pw with snapPend := x :: s.pw.snapPend, snapAt := FMap.put s.pw.snapAt key s.ck.mono }
                            freeCtr := s.freeCtr + s.snapFree.length }
  let t := (t.bump F.PW_SNAP_COUNT).event 0xA00A [t.rd F.PW_SNAP_COUNT + 1, key / 16]
  if t.phase = phService ∨ t.phase = phRecovery then t.snapWrite else t

/-- R284: a snapshot for a cause (1 rail fault, 2 Save trigger, 3 retry) and slot, at most one per rail and cause in any 10 s. -/
def State.snapshot (s : State) (cause slot : Nat) : State :=
  match FMap.find s.pw.snapAt (cause * 16 + slot) with
  | some a => if s.ck.mono < a + 10000000000 then s.bump F.PW_SNAP_SUPPR else s.snapNow (cause * 16 + slot)
  | none => s.snapNow (cause * 16 + slot)

/-! ### Device reset (R385, R403) -/

/-- A flash target after a reset: a test is over, and no erase stays suspended (R178). -/
def Target.afterReset (x : Target) : Target := { x with state := if x.state = 2 then 1 else x.state, susp := none, pgm := 0 }

/-- R152, R178: a block after a reset: a suspended erase and an unverified seal leave it listed, to be erased again. -/
def Blk.afterReset (b : Blk) : Blk := if b.st = 3 ∨ b.st = 8 then { b with st := 2, tries := 0, tag := 0 } else b

/-- R262: a learning record that waits lies in the hidden reserve. -/
def Bay.afterReset (b : Bay) (kept : Bool) : Bay := { b with pend := if kept then b.pend else none }

/-- R184, R403: the image after a reset: what stands on flash, and the frontier of the journal; what lay in flight is gone. -/
def Image.afterReset (m : Image) : Image :=
  { m with tail := [], flight := [], dataB := none, passLsn := none, passEnd := false, segDue := none, anchorW := none,
           nextLsn := match m.log.getLast? with | some r => r.lsn + r.count | none => 1,
           segs := m.segs.filter fun e => match m.anchors.head? with | some a => e.1 == a.pass | none => false }

/-- R110, R385, R403: the controller's logic is reset: registers take their Reset values, but for what NOR, PD_AON retention, the pins and the
flash hold; with `kept`, DRAM and the hidden reserve stand in self-refresh, and the shares it defines are PENDING (R33). The generation number
the next Skein takes is kept (DEDUCED, log 63). -/
def State.resetLogic (s : State) (kept : Bool) : State :=
  let r := State.reset
  let t : State := { r with
    pending := s.pending, out := s.out, freeCtr := s.freeCtr, drbgCtr := s.drbgCtr, norVal := s.norVal, norMask := s.norMask
    mem := if kept then s.mem else [], poisoned := if kept then s.poisoned else []
    poisonList := if kept then s.poisonList else [], poisonWait := if kept then s.poisonWait else []
    poisonOvf := if kept then s.poisonOvf else none
    dmap := if kept then s.dmap else [], index := if kept then s.index else []
    lsa := if kept then s.lsa else [], report := if kept then s.report else {}
    alerts := s.alerts, calib := s.calib
    mr := { r.mr with record := s.mr.record, reserve := if kept then s.mr.reserve else none }
    im := { s.im.afterReset with nextGen := max s.im.nextGen (s.rd F.MR_GEN_NEXT) }
    sv := { owed := s.sv.owed, result := s.sv.result, dirtyHeads := s.sv.dirtyHeads, stood := s.sv.stood }
    rs := if kept then { rmap := s.rs.rmap, dirty := s.rs.dirty, listed := s.rs.listed } else {}
    fc := { s.fc with chans := s.fc.chans.map fun e => (e.1, { e.2 with trained := false }),
                      tgts := s.fc.tgts.map fun e => (e.1, e.2.afterReset), rfl := 0, geo := none, tmoReads := []
                      ckpt := if kept then s.fc.ckpt else s.fc.ckptNor
                      blocks := s.fc.blocks.map fun (e : Nat × Nat × Blk) => (e.1, e.2.1, e.2.2.afterReset) }
    tw := if kept then { mapCur := s.tw.mapCur, mapPrev := s.tw.mapPrev, prevEnd := s.tw.prevEnd, pairSerial := s.tw.pairSerial
                         desigs := s.tw.desigs, runs := s.tw.runs }
      else {}
    mc := { chans := s.mc.chans.map fun e => (e.1, { rows := e.2.rows, marks := e.2.marks, pprs := e.2.pprs, pprh := e.2.pprh
                                                     spared := e.2.spared, swap := e.2.swap, state := if kept then 5 else 0, cap := e.2.cap
                                                     ranks := e.2.ranks : McChan })
            spare := s.mc.spare, ptr := s.mc.ptrCkpt, ptrCkpt := s.mc.ptrCkpt }
    bayA := s.bayA.afterReset kept, bayB := s.bayB.afterReset kept
    pw := { s.pw with up := 1, good := [], done := 0, tries := 0, seqOn := false, opWait := none, opHalf := false
                      dram := kept && s.pw.dram }
    ck := { ns := s.ck.ns, mono := s.ck.mono, aoscOut := s.ck.aoscOut, frac := s.ck.frac, uncAcc := s.ck.uncAcc, norAt := s.ck.norAt
            norTime := s.ck.norTime, armed := s.ck.armed, periodAt := s.ck.periodAt, nativeAt := s.ck.nativeAt, sleep := s.ck.sleep }
    fw := { s.fw with mpExp := 0, mpDead := false, activating := false, toReload := [], cause := [], wanted := [], doing := none
                      slot := none, xfer := none, part := none, susp := 0, tftp := 1, tries := 0 }
    sec := { keyw := if kept then s.sec.keyw else [], erasing := s.sec.erasing, rgen := s.sec.rgen, owner := s.sec.owner }
    ev := { s.ev with sumWin := [], entWin := [], fetch := false } }
  let t := t.putRegs (s.norRegs ++ s.trimRegs ++ s.keep fieldsKept ++ s.keep fieldsRail ++ (if kept then s.keep fieldsImage else []))
  let t : State := { t with mr := { t.mr with bucket := match s.mr.record with | some b => b | none => (t.wearDepth : Int) } }
  (t.forEach (List.range 64) fun a n => if a.rdi F.SHR_STATUS_STATE n = 0 then a else a.wri F.SHR_STATUS_STATE n shPending).allocate

/-! ### The boot chain (R336, R337, R343) -/

/-- R335: boot block b, 0 A and 1 B. -/
def State.block (s : State) (b : Nat) : BootBlock := if b = 0 then s.fw.blkA else s.fw.blkB

/-- R337: a swap record is written: the sequence rises by one. -/
def State.writeSwap (s : State) (active : Nat) (trial : Bool) (attempts cause : Nat) : State :=
  let q := match s.fw.swap with | some r => r.seq + 1 | none => 1
  let r : SwapRec := { seq := q % 2 ^ 32, svn := (s.block active).svn, attempts := attempts, trial := trial, active := active }
  let t : State := { s with fw := { s.fw with swap := some r } }
  let t := ((t.wr F.FW_BOOT_SWAPSEQ r.seq).wr F.FW_BOOT_ATTEMPTS attempts).wr F.FW_BOOT_TRIAL (bit01 trial)
  if cause = 0 then t else t.wr F.FW_BOOT_CAUSE cause

/-- R337: the block the ROM chooses. -/
def State.chooseBlock (s : State) : State × Nat :=
  match s.fw.swap with
  | none => let b := if s.fw.blkA.verr = 0 then 0 else 1; (s.writeSwap b false 0 0, b)
  | some r =>
    if r.trial = false then (s, r.active)
    else if r.attempts < 2 then (s.writeSwap r.active true (r.attempts + 1) 0, r.active)
    else (((s.writeSwap (1 - r.active) false 0 2).event 0xD009 [r.active, 1]).latchAttn 8, 1 - r.active)

/-- R336, R347: the block that verifies: the chosen one, or the other, which a swap record then names; each that fails is event 0xD002. -/
def State.verifyBlocks (s : State) : State × Option Nat :=
  let fails := fun (a : State) (b : Nat) => (a.event 0xD002 [b, (a.block b).verr]).wr F.FW_STG_VERR (a.block b).verr
  let (t, b) := s.chooseBlock
  if (t.block b).verr = 0 then (t, some b)
  else if (t.block (1 - b)).verr = 0 then ((fails t b).writeSwap (1 - b) false 0 3, some (1 - b))
  else (fails (fails t b) (1 - b), none)

/-- FW_ID and FW_BOOT of the running block. -/
def State.runBlock (s : State) (b : Nat) : State :=
  let x := s.block b
  let t := ((s.wr F.FW_ID_TRAIN x.train).wr F.FW_ID_MINOR x.minor).wr F.FW_ID_BUILD x.build
  let t := ((t.wr F.FW_ID_SVN x.svn).wr F.FW_BOOT_ACTIVE b).wr F.FW_BOOT_AVALID (bit01 (s.fw.blkA.verr == 0))
  let t := t.wr F.FW_BOOT_BVALID (bit01 (s.fw.blkB.verr == 0))
  let tr := match s.fw.swap with | some r => r.trial | none => false
  let t := t.event 0xD001 [b, x.train, x.minor, x.build, bit01 tr]
  { t with fw := { t.fw with layout := x.layout, trialAt := t.ck.mono, trialRld := [] } }

/-- R19, R343, R353: RECOVERY is entered for a cause; memory, flash and Twine are switched off and the key slots cleared. -/
def State.enterRecoveryPhase (s : State) (cause : Nat) : State :=
  let t := (((s.wr F.FW_REC_CAUSE cause).wr F.FW_CTL_RECREQ 0).wr F.FW_REC_XPORT 0).wr F.FW_REC_BYTES 0
  let t : State := { t with sec := { t.sec with slots := [] }, pw := { t.pw with dram := false } }
  let t := ((t.wr F.SEC_SLOT_LOADED 0).wr F.SEC_SLOT_MATCHED 0).wr F.FW_PROC_STATE 0
  let t := ((t.setDoms domsTW 0).setDoms domsMCG 0).setDoms domsFCG 0
  ((t.enterPhase phRecovery 0x0F).snapWrite.event 0xD00A [cause]).updReady

/-- R336, R349, R358: the boot chain: ROM start, the blocks chosen and verified, the MP and SPs running, the key unit and DRBG, and the
recorder rebuilt; or RECOVERY. -/
def State.bootChain (s : State) : State :=
  let t : State := { s with fw := { s.fw with boots := s.fw.boots + 1 }, pan := { s.pan with romAt := s.ck.mono, ready := true } }
  let t := (t.wr F.FW_WP_AREA 0x7F).boscStart
  let t := t.wr F.TWB_SB_ADDR (if t.flag F.TWB_SB_ASRC then t.rd F.TWB_SB_NADDR else 0x60 + Config.straps % 4)
  let t := (t.wr F.GEN_PINS_FREC (bit01 (!t.fw.forceRec))).wr F.GEN_PANEL_LOCATE 0
  let ok := Config.selfTest t.fw.boots 0
  let t := (t.wr F.SEC_STS_PUFOK (bit01 ok)).wr F.SEC_STS_DRBGOK 1
  let t := if ok then t else t.event 0xE001 [0]
  if t.pw.off.any fun g => g != 3 && g != 4 then t.enterRecoveryPhase 4
  else if t.flag F.FW_CTL_RECREQ then t.enterRecoveryPhase 5
  else if t.fw.forceRec then t.enterRecoveryPhase 6
  else
    match t.verifyBlocks with
    | (t, none) => t.enterRecoveryPhase 1
    | (t, some b) => (((t.runBlock b).wr F.FW_PROC_STATE 0x2222222).recorderRebuild.snapWrite).updReady

/-! ### Passage to DORMANT (R128, R276) -/

/-- PW_STATE.SEQ and STEP. -/
def State.setSeq (s : State) (seq step : Nat) : State := (s.wr F.PW_STATE_SEQ seq).wr F.PW_STATE_STEP step

/-- R266, R303: what a bay leaves in PD_AON retention. -/
def Bay.sleep (b : Bay) (now : Nat) : Bay :=
  { b with kept := some (b.q, b.sig + (now - b.sigAt) * 5 / 3600000000000, now), chg := false, xfer := false, first := false }

/-- R128, R276, R303, R353: what a power-down leaves: the bucket is written, the counter is latched, DRAM and every domain but PD_AON are
isolated and switched off and the key slots are cleared. -/
def State.intoDormant (s : State) (cause : Nat) : State :=
  let t := s
  let t : State := { t with mr := { t.mr with record := some t.mr.bucket }, bayA := t.bayA.sleep t.ck.mono, bayB := t.bayB.sleep t.ck.mono
                            ck := { t.ck with norTime := t.ck.ns } }
  let t := (t.sleepLatch.enterPhase phDormant cause).resetLogic false
  let t : State := { t with ck := { t.ck with armed := false } }
  let t : State := { t with pw := { t.pw with up := 0, dram := false, off := [], again := [], offAt := t.ck.mono }
                            pan := {}, heads := [] }
  let t := (t.wr F.PW_DOM_DOM 0).wr F.GEN_PHASE_PHASE phDormant
  t.wr F.PW_STATE_PSTATE 4

/-! ### The steps of a power-down (R276 to R278) -/

/-- R274, R276: the power-up step whose rails a power-down step turns off; step 6 turns off none. -/
def downRails (k : Nat) : Nat := [0, 7, 6, 4, 5, 3, 0, 2, 1].getD k 0

/-- The slots whose rails a power-down step turns off. -/
def State.downSlots (s : State) (k : Nat) : List Nat :=
  (List.range 16).filter fun i => s.flagi F.PW_RAIL_EN i && downRails k != 0 && s.rdi F.PW_RAIL_STEP i == downRails k

/-- R276: the steps of a power-down; those whose rails are already off are passed at once. -/
def State.downSteps (s : State) : List Nat :=
  [1, 2, 3, 4, 5, 6, 7, 8].filter fun k => k == 6 || (s.downSlots k).any fun i => s.flagi F.PW_RMON_PG i

/-- R277: a step that turns off regulators depends on V12_IB; step 6 on VDD_MGT and V1P8_IO. -/
def State.stepDepends (s : State) (slot k : Nat) : Bool := if k = 6 then s.rdi F.PW_RAIL_STEP slot == 2 else s.rdi F.PW_RAIL_STEP slot == 1

/-- R277: the steps of a list that depend on a failed rail are skipped, event 0xA005 each. -/
def State.skipSteps (s : State) (d : Down) (slot : Nat) (ks : List Nat) : State :=
  let l := ks.filter fun k => s.stepDepends slot k
  let t := s.forEach l fun a k => a.event 0xA005 [k, slot]
  { t with pw := { t.pw with down := some { d with left := d.left.filter fun k => !l.contains k, skipped := d.skipped + l.length
                                                   held := d.held || l.contains 6 } } }

/-- R276: a power-down begins; R128, R287: its domains are isolated and its switches opened. -/
def State.powerDown (s : State) (cause : Nat) : State :=
  let d : Down := { left := s.downSteps, phase := s.phase, arm := s.flag F.CK_ALCTL_ARM || s.rd F.CK_ALCTL_DORMINT != 0
                    at_ := s.ck.mono, skipped := 0, held := false }
  let t := s.intoDormant cause
  (State.setSeq { t with pw := { t.pw with down := some d } } 2 (d.left.headD 0)).wr F.PW_STATE_ONPEND 0

/-- R128, R276: step 6: snapshots and pending events are written and the alarm is armed. -/
def State.downRecords (s : State) (d : Down) : State :=
  let t := ((s.wr F.GEN_PHASE_PHASE d.phase).snapWrite.recorderClose).wr F.GEN_PHASE_PHASE phDormant
  { t with ck := { t.ck with armed := d.arm } }

/-- R277: step 6 was skipped: the newest snapshot and up to 64 pending events are held in PD_AON retention; events beyond are counted only (DESIGN
CHOICE, log 223). -/
def State.downHold (s : State) : State :=
  let more := (s.ev.queue.drop 64).foldl (fun m o => FMap.put m o.code (max o.count (FMap.get 0 m o.code))) s.ev.aonCount
  { s with pw := { s.pw with snapPend := s.pw.snapPend.take 1 }, ev := { s.ev with queue := [], aon := s.ev.queue.take 64, aonCount := more } }

/-- R276, R278: a power-down ends with event 0xA002: every rail is off; OFF_WAIT where an on request came, else OFF. -/
def State.downEnd (s : State) (d : Down) : State :=
  let t := s.forEach (List.range 16) fun a i => if a.flagi F.PW_RMON_PG i then a.wri F.PW_RMON_PG i 0 else a
  let t := t.event 0xA002 [(t.ck.mono - d.at_) / 1000000, d.skipped]
  let t := if d.held then t.downHold else t
  let t : State := { t with pw := { t.pw with down := none, offAt := t.ck.mono } }
  t.setSeq (if t.flag F.PW_STATE_ONPEND then 3 else 0) 0

/-- R276: the step in progress ends, its rails off, and the next one begins. -/
def State.downStep (s : State) : State :=
  match s.pw.down with
  | none => s
  | some d =>
    match d.left with
    | [] => s.downEnd d
    | k :: l =>
      let t := if k = 6 then s.downRecords d else s.forEach (s.downSlots k) fun a i => a.wri F.PW_RMON_PG i 0
      if l.isEmpty then t.downEnd d
      else (State.setSeq { t with pw := { t.pw with down := some { d with left := l } } } 2 (l.headD 0))

/-- R276: a power-down runs to its end. -/
def State.downRest (s : State) : State := s.forEach (List.range 9) fun a _ => a.downStep

/-- R277: a rail fails during a power-down, which goes on and skips each later step that depends on the rail. -/
def State.downFault (s : State) (slot : Nat) : State :=
  match s.pw.down with
  | none => s
  | some d => s.skipSteps d slot d.left.tail

/-- R17: all energy is gone in DORMANT: OFF, recorded at the next start. PD_AON loses what it retained (R266, R277, R303, R403), and a
power-down under way ends. -/
def State.energyGone (s : State) : State :=
  let t : State := { s with pw := { s.pw with wake := false, onHeld := false, down := none, snapPend := [] }
                            ck := { s.ck with sleep := none, armed := false }
                            ev := { s.ev with aon := [], aonCount := [], queue := [] }
                            bayA := { s.bayA with kept := none, intent := false }, bayB := { s.bayB with kept := none, intent := false } }
  let t := t.forEach (List.range 16) fun a i => if a.flagi F.PW_RMON_PG i then a.wri F.PW_RMON_PG i 0 else a
  let t := (((t.wr F.GEN_PHASE_PREV phDormant).wr F.GEN_PHASE_PHASE phOff).setSeq 0 0).wr F.SEC_STS_DISCPEND 0
  ((t.wr F.FW_CTL_RECREQ 0).wr F.CK_SLEEP_VALID 0).wr F.CK_SLEEP_TICKS 0

/-- R278: an off request in BRINGUP: in POWERING_UP event 0xA008 is recorded and power-down runs; in OFF_WAIT the pending on request is
dropped, no power-down runs and no record is written (DEDUCED, log 178). -/
def State.offRequest (s : State) (cause : Nat) : State :=
  if s.rd F.PW_STATE_SEQ = 3 then s.intoDormant cause
  else if s.rd F.PW_STATE_SEQ = 1 then (s.event 0xA008 [0, s.rd F.PW_STATE_STEP]).powerDown cause
  else s.powerDown cause

/-! ### The power sequencer (R274 to R278, R290) -/

/-- R293: the slots of a power-up step in order, but for groups left off; RECOVERY raises no memory, flash or Twine rail (R19). -/
def State.stepSlots (s : State) (k : Nat) : List Nat :=
  let l := if s.phase = phRecovery ∧ [4, 5, 7].contains k = true then [] else (List.range 16).filter fun i => s.flagi F.PW_RAIL_EN i && s.rdi F.PW_RAIL_STEP i == k && !s.pw.off.contains (s.rdi F.PW_RAIL_GRP i)
  (List.range 16).flatMap fun o => l.filter fun i => s.rdi F.PW_RAIL_ORDER i == o

/-- R289: the cap in force, for a Save its own point. -/
def State.opCap (s : State) : Nat := max (s.rd F.PW_CTL_OPMAX) (s.rd F.PW_OP_THERM)

/-- R113: the comparators are tested at bring-up; one that fails stays armed and event 0x4010 is recorded. -/
def State.testComparators (s : State) : State :=
  let a := Config.selfTest s.fw.boots 1
  let b := Config.selfTest s.fw.boots 2
  let t := (s.wr F.SPN_PLD_CHKA (bit01 a)).wr F.SPN_PLD_CHKB (bit01 b)
  let t := if a then t else t.event 0x4010 [0]
  if b then t else t.event 0x4010 [1]

/-- R404, R405: with the clock on BOSC and their rails on, memory and flash channels begin training and their blocks lock. -/
def State.lockTraining (s : State) : State :=
  if s.rd F.CK_STS_STATE ≠ 2 then s
  else
    let t := if domsMCG.all fun d => s.dom d == 1 then s.setBit F.GEN_LOCK_BLOCKS 8 true else s
    if t.fcgDoms.all fun d => t.dom d == 1 then t.setBit F.GEN_LOCK_BLOCKS 6 true else t

/-- What the end of a power-up step does: the domains its rails feed are de-isolated; step 2 starts the ROM, step 3 frees the comparators'
test (R386). -/
def State.stepDone (s : State) (k : Nat) : State :=
  if k = 2 then
    let t := s.setDom 0 1
    if t.pw.resetLow then t else t.bootChain
  else if k = 3 then (if s.pw.off.contains 2 then s else ((s.setDom 1 1).wr F.PW_OP_CUR 3).testComparators)
  else if s.phase = phRecovery ∧ k ≠ 6 then s
  else if k = 4 then (s.setDoms domsMCG 1).lockTraining
  else if k = 5 then (s.setDoms s.fcgDoms 1).lockTraining
  else if k = 6 then if s.pw.off.contains 3 || s.pw.off.contains 2 then s else s.setDoms (domsHP.filter fun d => s.flagi F.HP_PORT_CFG_EN (d - 2)) 1
  else if k = 7 then if s.pw.off.contains 4 then s else s.setDoms (domsTW.filter fun d => natBit (s.rd F.TW_CTL_EN) (d - 10)) 1
  else s

/-- R274: power-up ends in ON; event 0xA001. -/
def State.powerOn (s : State) : State :=
  ((State.setSeq { s with pw := { s.pw with up := 0, seqOn := true, tries := 0 } } 0 0).event 0xA001
    [0, s.rd F.PW_VIN_OK]).updReady

/-- R274: the steps whose rails all report power-good end one after another; with input absent power-up ends after step 2; step 8 waits
for BOSC and then seeks the operating point. -/
def State.powerAdvance (s : State) : Nat → State
  | 0 => s
  | n + 1 =>
    let k := s.pw.up
    if k = 0 then s
    else if k = 8 then
      if 2 ≤ s.rd F.CK_STS_STATE ∧ s.ck.fromStart = false then
        if s.rd F.PW_OP_CUR = s.opCap then s.powerOn else s.seekOp s.opCap
      else s
    else if (s.stepSlots k).all fun i => s.pw.good.contains i then
      let t := State.stepDone { s with pw := { s.pw with done := k } } k
      if k = 2 ∧ s.flag F.PW_VIN_OK = false then t.powerOn
      else if t.pw.up = 0 then t
      else (State.setSeq { t with pw := { t.pw with up := k + 1 } } 1 (k + 1)).powerAdvance n
    else s

/-- R274: power-up begins at step 1; rails that already report power-good pass. -/
def State.powerUp (s : State) : State :=
  let t : State := { s with pw := { s.pw with up := 1, done := 0, seqOn := false, good := (List.range 16).filter fun i => s.flagi F.PW_RMON_PG i } }
  (t.setSeq 1 1).powerAdvance 9

/-- R17, R385: the controller's logic is reset and the phase is BRINGUP; the boot chain runs from ROM start unless RESET_N is low; rails that
are down are raised. A reset in BRINGUP is no transition of R17. -/
def State.rebirth (s : State) (kept : Bool) (cause : Nat) : State :=
  let t := (s.resetLogic kept).putRegs (s.keep fieldsPhase)
  (if s.phase = phBringup then t else t.enterPhase phBringup cause).powerUp

/-! ### Reloads of a service processor (R14, R338) -/

/-- R14, R122, R338: SPn halts for a cause: its outputs are held, its readiness bits read 0 and its reload begins. Causes: 1 lockstep,
2 watchdog, 3 command, 4 SRAM, 5 execute fault, 6 activation. -/
def State.startReload (s : State) (n cause : Nat) : State :=
  if s.spRuns n then
    let t := s.setProc (n + 1) 3
    let t : State := { t with fw := { t.fw with cause := FMap.put t.fw.cause (n + 1) (cause, t.ck.mono) } }
    let t := if n = 1 ∧ t.phase = phSave then t.wr F.SPN_SAVE_SPRLD 1 else t
    let t := if n = 5 then t.wr F.CK_STS_HOLDOVER 1 else t
    (if n = 0 then t.settleMr else t).updReady
  else s

/-- R338, R341: outside a Save, when no SP is absent, the next reload of an activation or the next commanded one starts. -/
def State.nextReload (s : State) : State :=
  if s.phase = phSave ∨ s.phase = phLinger ∨ !(List.range 6).all s.spRuns then s
  else match s.fw.toReload, s.fw.wanted with
    | n :: l, _ => State.startReload { s with fw := { s.fw with toReload := l, doing := none } } n 6
    | [], (n, k) :: l => State.startReload { s with fw := { s.fw with wanted := l, doing := k } } n 3
    | [], [] => s

/-! ### The panel's LED_SAFE (R390) -/

/-- R390: LED_SAFE's pattern: 0 off, 1 on, 2 1 Hz, 6 double flash. -/
def State.ledSafe (s : State) : Nat :=
  let p := s.phase
  if p = phBringup ∨ p = phLinger ∨ p = phRecovery then 1
  else if p = phService ∨ p = phRestore then
    if s.rd F.GEN_PANEL_RMV = 2 then 1 else if s.rd F.GEN_PANEL_RMV = 1 then 2
    else if s.flagi F.EN_STS_SAFE 0 || s.flagi F.EN_STS_SAFE 1 then 6 else 0
  else 0

/-! ### On requests (R273, R278) -/

/-- R303: the newest time stamp found in NOR: the last power-down's, or that of the recorder's newest entry. -/
def State.newestStamp (s : State) : Nat :=
  match s.newestStamped with
  | some p => max s.ck.norTime p.1
  | none => s.ck.norTime

/-- R17, R274, R302, R303: an on request acts: the sleep is accounted; from OFF the counter starts from the last stamp kept with unknown
uncertainty and the loss of all energy in DORMANT is recorded, with cause 0 (DESIGN CHOICE, log 203: the spec numbers no cause for it);
power-up begins and the phase is BRINGUP. -/
def State.powerStart (s : State) (cause ticks : Nat) : State :=
  let cold := s.phase == phOff
  let w := if cold then
      let t := State.wr (State.wr { s with ck := { s.ck with ns := s.newestStamp, sleep := none, aoscOut := false } } F.CK_UNC_UNC (2 ^ 48 - 1))
        F.CK_SLEEP_VALID 0
      if s.rd F.GEN_PHASE_PREV = phDormant then t.event 0xF002 [phDormant, phOff, 0] else t
    else s.sleepWake ticks
  let t : State := { w with ev := { w.ev with cycles := w.ev.cycles + 1 } }
  let t := (t.wr F.PW_STATE_PSTATE 0).wr F.PW_STATE_ONPEND 0
  let t : State := { t with pw := { t.pw with cause := cause, alarmWake := cause == 3 && !t.flag F.PW_VIN_OK, onHeld := false, wake := false } }
  (t.enterPhase phBringup cause).powerUp

/-- R273, R278, R385: an on request in DORMANT or OFF: held while RESET_N is low; during a power-down it is pending (event 0xA008); it waits in
OFF_WAIT until t_OFF_MIN after the last power-down. -/
def State.onRequest (s : State) (cause ticks : Nat) : State :=
  if s.pw.resetLow then { s with pw := { s.pw with onHeld := true, cause := cause } }
  else if s.rd F.PW_STATE_SEQ = 3 then s
  else if s.pw.down.isSome then
    (State.wr { s with pw := { s.pw with cause := cause } } F.PW_STATE_ONPEND 1).event 0xA008 [1, s.rd F.PW_STATE_STEP]
  else if s.phase = phDormant ∧ ticks * s.rd F.CK_AOSC_PERIOD / 65536 < max 50 (min 10000 (s.rd F.PW_CTL_TOFFMIN)) * 1000000 then
    (State.wr { s with pw := { s.pw with cause := cause } } F.PW_STATE_ONPEND 1).setSeq 3 0
  else s.powerStart cause ticks

end Sys2Proof.Machine
end

