-- ==== Sys2Proof/Machine/Heads.lean ====
section
/-! DEFINITION. The host heads: link events, resets, Viral, Global Persistent Flush, the memory-device mailbox commands that touch no
DRAM, retraining, and the HDM decoders (R35 to R56). -/

namespace Sys2Proof.Machine

/-! ### Links (R36, R53) -/

/-- R56: HP_LINK_k.STATE, VIRAL or IDEFAIL of head k changed: HP_CHG takes its bit and vector 0 of every head is signalled. -/
def State.headChanged (s : State) (k : Nat) : State := (s.setBit F.HP_CHG_FLAGS k true).msix0

/-- HP_LINK_k.STATE takes a value. -/
def State.setLink (s : State) (k st : Nat) : State :=
  let t := if st = 2 ∨ st = 3 then (s.setBit F.GEN_LOCK_BLOCKS 1 true).setBit F.GEN_LOCK_BLOCKS 3 true else s
  if t.rdi F.HP_LINK_STATE k = st then t else (t.wri F.HP_LINK_STATE k st).headChanged k

/-- R36: idle read latency in ns by width and rate. -/
def idleLatency (width rate : Nat) : Nat :=
  if width = 16 then [244, 212, 196, 190].getD rate 0 else [276, 228, 204, 194].getD rate 0

/-- R45: what IDE adds to idle read latency: 4 ns at x16 and 64 GT/s, otherwise a value the spec leaves open. -/
def State.ideIncrement (s : State) (k : Nat) : Nat :=
  if !s.flagi F.HP_LINK_IDE k then 0
  else if s.rdi F.HP_LINK_WIDTH k = 16 ∧ s.rdi F.HP_LINK_RATE k = 3 then 4 else s.freeVal

/-- R36, R56: HP_LAT_k.IDLE follows the trained configuration and IDE. -/
def State.setIdle (s : State) (k : Nat) : State :=
  (s.wri F.HP_LAT_IDLE k (idleLatency (s.rdi F.HP_LINK_WIDTH k) (s.rdi F.HP_LINK_RATE k) + s.ideIncrement k)).skipFree

/-- A demand fetch without the reads of head k. -/
def Fetch.without (f : Fetch) (k : Nat) : Fetch := { f with readers := f.readers.filter fun r => r.1 != k }

/-- R53: the link of head k went down from training, up or recovery: accepted writes stay; unsent read data is dropped; the IDE
stream ends; a retrain fails; queues are suspended (R81); readiness falls. -/
def State.linkDown (s : State) (k : Nat) : State :=
  let t := ((s.bumpi F.HP_LERR_DOWN k).setLink k 5).event 0x1002 [k]
  let t := (t.wri F.HP_LINK_IDE k 0).setIdle k
  let h := t.head k
  let t := match h.retrain with
    | some (v, _) => t.reply v .retryRequired []
    | none => t
  let t := t.setHead k { t.head k with retrain := none, spdm := 0, ideKeys := 0 }
  let fs : FMap Fetch := t.rs.fetches.map fun (e : Nat × Fetch) => (e.1, e.2.without k)
  let t : State := { t with rs := { t.rs with fetches := fs } }
  (t.forEach (t.queuesOf k) State.suspendQueue).updReady

/-- R53, R81: fetch and posting of the head's queues pause, or resume. -/
def State.pauseQueues (s : State) (k : Nat) (b : Bool) : State :=
  let t := s.forEach (s.queuesOf k) fun a q => a.setQueue q { a.queue q with paused := b }
  if b then t else t.forEach (t.queuesOf k) State.postKept

/-- Head k may train: it exists, its domain is on, its PERST# is high and PRSNT_N low (GEN_PINS), the ROM or firmware has opened its head,
and the phase serves hosts, brings up or recovers (R344, R385, R386, R395). -/
def State.mayTrain (s : State) (k : Nat) : Bool :=
  s.headExists k && s.dom (2 + k % 8) == 1 && natBit (s.rd F.GEN_PINS_PERST) k && !s.flag F.GEN_PINS_PRSNT &&
    (s.serving || s.phase == phRecovery || s.phase == phBringup)

/-- HEAD_LINK_UP (R36, R53): the link reaches L0, after recovery or anew, at the highest rate and width shared with the host. -/
def execHeadLinkUp (h width rate : Nat) (flit256 : Bool) (s : State) : Answer :=
  let t := s.begin
  if !t.mayTrain h || t.rdi F.HP_LINK_STATE h == 3 || t.rdi F.HP_LINK_STATE h == 0 then .next t
  else
    let x := t.head h
    let lim := match x.retrain with | some (_, r) => min r (t.rdi F.HP_PORT_CFG_MAXRATE (h % 8)) | none => t.rdi F.HP_PORT_CFG_MAXRATE (h % 8)
    let rt := min rate lim
    let wd := if t.flagi F.HP_PORT_CFG_BIF (h % 8) then 8 else if width < 16 then 8 else 16
    let back := t.rdi F.HP_LINK_STATE h == 4
    let t := ((t.wri F.HP_LINK_RATE h rt).wri F.HP_LINK_WIDTH h wd).wri F.HP_LINK_FLIT256 h (bit01 (rt == 3 || flit256))
    let t := (t.wri F.HP_CRED_ADV h (t.headCredits h)).setLink h 3
    if back then
      let t := ((t.setIdle h).bumpi F.HP_LERR_RECOV h).event 0x1003 [h]
      let t := match x.retrain with | some (v, _) => t.reply v .success [] | none => t
      .next ((t.setHead h { t.head h with retrain := none }).pauseQueues h false)
    else
      let t := if t.flagi F.HP_LINK_IDEFAIL h then (t.wri F.HP_LINK_IDEFAIL h 0).headChanged h else t
      let t := ((t.setIdle h).event 0x1001 [h, rt, wd]).setHead h { t.head h with enumerated := true }
      let t := t.forEach ((t.queuesOf h).filter fun q => (t.queue q).state == 4) State.resumeQueue
      .next t.updReady

/-- R51, R53: the link of head k enters recovery. -/
def State.enterRecovery (s : State) (k : Nat) : State := (s.setLink k 4).pauseQueues k true

/-- LINK_RECOVERY (R53): replays of the link layer are counted; then, unless they were all, the link enters recovery: fetch and posting pause until L0
returns. -/
def execLinkRecovery (h replays : Nat) (enters : Bool) (s : State) : Answer :=
  let t := s.begin
  if t.headUp h then
    let t := t.addi F.HP_LERR_REPLAY h replays
    .next (if enters then t.enterRecovery h else t)
  else .next t

/-- LINK_DOWN_TIMEOUT (R53): recovery exceeded HP_CTL_k.DOWN_TO. -/
def execLinkDownTimeout (h : Nat) (s : State) : Answer :=
  let t := s.begin
  if t.rdi F.HP_LINK_STATE h = 4 then .next (t.linkDown h) else .next t

/-- SURPRISE_LINK_DOWN (R53, R55). -/
def execSurpriseLinkDown (h : Nat) (s : State) : Answer :=
  let t := s.begin
  if t.headUp h || t.rdi F.HP_LINK_STATE h == 4 then .next (t.linkDown h) else .next t

/-- IDE_INTEGRITY_FAILURE (R45): the IDE stream ends, IDEFAIL sets, and the link is treated as down. -/
def execIdeIntegrityFailure (h : Nat) (s : State) : Answer :=
  let t := s.begin
  if t.headUp h && t.flagi F.HP_LINK_IDE h then
    .next ((((t.event 0x1004 [h]).wri F.HP_LINK_IDEFAIL h 1).headChanged h).linkDown h)
  else .next t

/-- VIRAL (R54). -/
def execViral (h : Nat) (s : State) : Answer :=
  let t := s.begin
  if t.headUp h && !t.flagi F.HP_LINK_VIRAL h then .next (((t.wri F.HP_LINK_VIRAL h 1).headChanged h).event 0x1005 [h])
  else .next t

/-! ### Resets of a head (R53, R81, R385) -/

/-- R51, R53: a Head Retrain that the mailbox of head k issued is aborted: the link it retrains goes on, and nothing is answered. -/
def State.dropRetrain (s : State) (k : Nat) : State :=
  { s with heads := s.heads.map fun e => (e.1, match e.2.retrain with
      | some (.head j, _) => if j = k then { e.2 with retrain := none } else e.2
      | _ => e.2) }

/-- R53: the CXL.io function of head k is reset: decoders, MSI-X and its mailbox with the command in progress; its queues become DISABLED (R81);
Viral ends (R54). -/
def State.resetFunction (s : State) (k : Nat) : State :=
  let t := s.disableQueues k
  let h := t.head k
  let t := t.setHead k { h with decoders := [], unmasked := [], fmask := false, msixPend := [], bg := none, enumerated := false,
                                policy := [], spdm := 0, ideKeys := 0 }
  let t := State.dropRetrain { t with mpWait := t.mpWait.filter fun c => c.1 != k } k
  if t.flagi F.HP_LINK_VIRAL k then (t.wri F.HP_LINK_VIRAL k 0).headChanged k else t

/-- HP_PERST_ASSERT (R53, R385): PERST# of head k goes low; a hot reset is treated as this. Where the device serves hosts the link is DOWN as after a
link down; in RECOVERY the head is reset to be trained again. -/
def execHpPerstAssert (h : Nat) (s : State) : Answer :=
  let t := s.begin
  if 16 ≤ h ∨ t.phase = phOff ∨ t.phase = phDormant then .next t
  else
    let t := t.setBit F.GEN_PINS_PERST h false
    if !t.headExists h then .next t
    else if t.serving then
      let t := if t.headUp h || t.rdi F.HP_LINK_STATE h == 4 then t.linkDown h else t
      .next (t.resetFunction h).updReady
    else if t.phase = phRecovery then
      let t := if t.rd F.FW_REC_XPORT == 1 && (t.head h).bg.isSome then (t.wr F.FW_STG_STATE 0).wr F.FW_STG_BYTES 0 else t
      .next ((t.resetFunction h).setLink h 1).updReady
    else .next t

/-- HP_PERST_RELEASE (R385): PERST# rises and the head trains. -/
def execHpPerstRelease (h : Nat) (s : State) : Answer :=
  let t := s.begin
  if 16 ≤ h ∨ t.phase = phOff ∨ t.phase = phDormant then .next t
  else
    let t := t.setBit F.GEN_PINS_PERST h true
    if t.mayTrain h && t.rdi F.HP_LINK_STATE h != 3 && t.rdi F.HP_LINK_STATE h != 4 then .next (t.setLink h 2) else .next t

/-- HEAD_FLR (R53, R81): the mailbox command in progress is aborted and the queues become DISABLED; CXL.mem is unaffected. -/
def execHeadFlr (h : Nat) (s : State) : Answer :=
  let t := s.begin
  if t.headExists h && t.headUp h then
    let t := t.disableQueues h
    let t := t.setHead h { t.head h with bg := none }
    .next (State.dropRetrain { t with mpWait := t.mpWait.filter fun c => c.1 != h } h)
  else .next t

/-! ### Global Persistent Flush (R46) -/

/-- GPF_PHASE1. PH1 and PH2 stop at 0xFFFF_FFFF: HP_GPF_k states no wrap and no saturation (DESIGN CHOICE, log 190). -/
def execGpfPhase1 (h : Nat) (s : State) : Answer :=
  let t := s.begin
  if t.headUp h then .next (((t.bumpi F.HP_GPF_PH1 h).event 0x1006 [h, 1]).send (.gpf h 1)) else .next t

/-- GPF_PHASE2. -/
def execGpfPhase2 (h : Nat) (s : State) : Answer :=
  let t := s.begin
  if t.headUp h then .next (((t.bumpi F.HP_GPF_PH2 h).event 0x1006 [h, 2]).send (.gpf h 2)) else .next t

/-! ### The mailbox (R47 to R51, R316) -/

/-- R316: a command that needs a head context: over MCTP it returns Unsupported. -/
def State.headOnly (s : State) (v : Via) (f : State → Nat → State) : State :=
  match v with
  | .head k => f s k
  | .mctp _ => s.reply v .unsupported []

/-- IDENTIFY_MEMORY_DEVICE (R47): total and persistent-only capacity, volatile-only capacity, partition alignment, LSA size and
poison list maximum. -/
def execIdentifyMemoryDevice (v : Via) (s : State) : Answer :=
  .next (s.mbox v (.identifyMemoryDevice v) .recovery true fun t =>
    t.reply v .success [t.rd F.SHR_CAP_VISIBLE * 2 ^ 28, t.rd F.SHR_CAP_VISIBLE * 2 ^ 28, 0, 0, 131072, 65536])

/-- R37, R38, R46: what the PCIe function of a head presents beside its registers. -/
structure HeadFunction where
  vendor : BitVec 16
  device : BitVec 16
  classCode : BitVec 24
  /-- R37: Memory_Active, and the Memory Active Timeout in seconds -/
  memoryActive : Bool
  activeTimeout : Nat
  /-- R37: a primary mailbox, BAR0, BAR2 and BAR4, the IDE and PTM capabilities and the GPF device DVSEC are present -/
  primaryMailbox : Bool
  bars : List Nat
  ide : Bool
  ptm : Bool
  /-- R46: GPF device DVSEC: Phase 2 duration in ns and power in mW -/
  gpfDuration : Nat
  gpfPower : Nat
  /-- R38: HDM decoders (HDM-H) -/
  hdmDecoders : Nat
  viral : Bool
  /-- R38: features not implemented, whose capability bits read zero -/
  hdmDb : Bool
  mld : Bool
  dynamicCapacity : Bool
  cxlReset : Bool
  secondaryMailbox : Bool
  passphrase : Bool
  deriving DecidableEq, Repr

/-- R37, R38, R46: the function of head k. Memory_Active sets once the share table is loaded and the head's link is up. -/
def State.function (s : State) (k : Nat) : HeadFunction :=
  { vendor := Config.vendorId, device := 0x9416, classCode := 0x050210
    memoryActive := s.rs.imageDone && s.headUp k, activeTimeout := 16
    primaryMailbox := true, bars := [0, 2, 4], ide := true, ptm := true
    gpfDuration := 1000, gpfPower := 0, hdmDecoders := 8, viral := true
    hdmDb := false, mld := false, dynamicCapacity := false, cxlReset := false, secondaryMailbox := false, passphrase := false }

/-- GET_PARTITION_INFO (R47): no partitioning. -/
def execGetPartitionInfo (v : Via) (s : State) : Answer :=
  .next (s.mbox v (.getPartitionInfo v) .memory false fun t => t.reply v .success [0, t.rd F.SHR_CAP_VISIBLE * 2 ^ 28, 0, 0])

/-- SET_PARTITION_INFO (R47). -/
def execSetPartitionInfo (v : Via) (s : State) : Answer :=
  .next (s.mbox v (.setPartitionInfo v) .memory false fun t => t.reply v .unsupported [])

/-- GET_LSA (R49). -/
def execGetLsa (v : Via) (off len : Nat) (s : State) : Answer :=
  .next (s.mbox v (.getLsa v off len) .memory false fun t => t.headOnly v fun t k =>
    if 131072 < off + len then t.reply v .invalidInput []
    else t.reply v .success ((memRead t.lsa (k * 131072 + off) len).map BitVec.toNat))

/-- SET_LSA (R49). -/
def execSetLsa (v : Via) (off : Nat) (data : List Byte) (s : State) : Answer :=
  .next (s.mbox v (.setLsa v off data) .memory false fun t => t.headOnly v fun t k =>
    if 131072 < off + data.length then t.reply v .invalidInput []
    else State.reply { t with lsa := memWrite t.lsa (k * 131072 + off) data } v .success [])

/-- R37: Media Status of a head: 0 not ready, 1 ready, 2 error, 3 disabled. -/
def State.mediaStatus (s : State) (k : Nat) : Nat :=
  if s.phase = phRecovery then 2 else if !s.headExists k then 3
  else if natBit (s.rd F.GEN_READY_BITS) (32 + k) then 1 else 0

/-- GET_HEALTH_INFO (R47): health status, media status, life used in percent, temperature, dirty shutdown count, and the corrected volatile and
persistent error counts (R240). What makes up the health status is not stated: a free value
(log 219). -/
def execGetHealthInfo (v : Via) (s : State) : Answer :=
  .next (s.mbox v (.getHealthInfo v) .memory true fun t =>
    t.skipFree.reply v .success [t.freeVal, t.mediaStatus v.idx, t.rd F.FC_WEAR_MEAN * 100 / max 1 (t.rd F.FC_CFG_WEARLIM), (t.pw.tj % (2 ^ 16 : Int)).toNat,
      t.rdi F.HP_SHUT_DSC v.idx, t.mc.ceVol, t.mc.cePer])

/-- GET_ALERT_CONFIGURATION (R47). -/
def execGetAlertConfiguration (v : Via) (s : State) : Answer :=
  .next (s.mbox v (.getAlertConfiguration v) .memory false fun t => t.reply v .success t.alerts)

/-- SET_ALERT_CONFIGURATION (R47): the thresholds are kept in NOR. -/
def execSetAlertConfiguration (v : Via) (life tempHigh tempLow : Nat) (s : State) : Answer :=
  .next (s.mbox v (.setAlertConfiguration v life tempHigh tempLow) .memory false fun t =>
    State.reply { t with alerts := [life, tempHigh, tempLow] } v .success [])

/-- GET_SHUTDOWN_STATE (R48). -/
def execGetShutdownState (v : Via) (s : State) : Answer :=
  .next (s.mbox v (.getShutdownState v) .memory false fun t => t.headOnly v fun t k =>
    t.reply v .success [t.rdi F.HP_SHUT_DIRTY k])

/-- SET_SHUTDOWN_STATE (R48). -/
def execSetShutdownState (v : Via) (dirty : Bool) (s : State) : Answer :=
  .next (s.mbox v (.setShutdownState v dirty) .memory false fun t => t.headOnly v fun t k =>
    (t.wri F.HP_SHUT_DIRTY k (bit01 dirty)).reply v .success [])

/-- R50, R316: the poison records a head may see: those within shares granted to it; over MCTP all of them. -/
def State.poisonSeen (s : State) (v : Via) (p : PoisonRec) : Bool :=
  match v with
  | .mctp _ => true
  | .head k => match s.shareOf (p.line / 64) with | some n => s.grant n k == 1 || s.grant n k == 2 | none => false

/-- GET_POISON_LIST (R50): records that overlap the range asked for, up to the number asked for, with More Records and Overflow. -/
def execGetPoisonList (v : Via) (dpa len max : Nat) (s : State) : Answer :=
  .next (s.mbox v (.getPoisonList v dpa len max) .memory false fun t =>
    let l := t.poisonList.filter fun p => t.poisonSeen v p && decide (p.line * 64 < dpa + len) && decide (dpa < (p.line + p.len) * 64)
    let max := mctpMost v max 338
    t.reply v .success (bit01 (decide (max < l.length)) :: (match t.poisonOvf with | some n => [1, n] | none => [0, 0]) ++
      (l.take max).flatMap fun p => [p.line * 64, p.len, p.source]))

/-- GET_SCAN_MEDIA_CAPABILITIES (R47): the time a scan of a range takes, which the spec leaves open. -/
def execGetScanMediaCapabilities (v : Via) (dpa len : Nat) (s : State) : Answer :=
  .next (s.mbox v (.getScanMediaCapabilities v dpa len) .memory false fun t =>
    if t.rd F.SHR_CAP_VISIBLE * 2 ^ 28 < dpa + len then t.reply v .invalidInput [] else (t.reply v .success [t.freeVal]).skipFree)

/-- R47: one background command at a time runs at a head. -/
def State.startBg (s : State) (v : Via) (op a b : Nat) (f : State → State) : State :=
  if (s.head (bgKey v)).bg.isSome then s.reply v .busy []
  else
    let h := s.head (bgKey v)
    (f (s.setHead (bgKey v) { h with bg := some (op, a, b) })).reply v .background []

/-- SCAN_MEDIA (R47): a background scan of the DRAM lines of a range. -/
def execScanMedia (v : Via) (dpa len : Nat) (s : State) : Answer :=
  .next (s.mbox v (.scanMedia v dpa len) .memory false fun t =>
    if t.rd F.SHR_CAP_VISIBLE * 2 ^ 28 < dpa + len then t.reply v .invalidInput []
    else t.startBg v 0x4304 dpa len fun t => t.setHead (bgKey v) { t.head (bgKey v) with scan := [] })

/-- GET_SCAN_MEDIA_RESULTS (R47): whether a scan still runs, and the lines found. -/
def execGetScanMediaResults (v : Via) (s : State) : Answer :=
  .next (s.mbox v (.getScanMediaResults v) .memory false fun t =>
    let h := t.head (bgKey v)
    t.reply v .success (bit01 (match h.bg with | some (0x4304, _, _) => true | _ => false) :: h.scan))

/-- The rate code of a rate in GT/s (R56). -/
def rateCode (r : Nat) : Option Nat :=
  if r = 8 then some 0 else if r = 16 then some 1 else if r = 32 then some 2 else if r = 64 then some 3 else none

/-- HEAD_RETRAIN (R51): the head goes through recovery at a limited rate; the command completes when its link returns or times out. The answers R51
does not name are the model's: Retry Required at once for a head not in L0 or already retraining, Invalid Input for an unknown rate or a head that
does not exist (DESIGN CHOICE, log 191). -/
def execHeadRetrain (v : Via) (h rate : Nat) (s : State) : Answer :=
  .next (s.mbox v (.headRetrain v h rate) .other false fun t =>
    match rateCode rate with
    | none => t.reply v .invalidInput []
    | some r =>
      if !t.headExists h then t.reply v .invalidInput []
      else if !t.headUp h || (t.head h).retrain.isSome then t.reply v .retryRequired []
      else (t.setHead h { t.head h with retrain := some (v, r) }).enterRecovery h)

/-- HP_CTL_RETRAIN (R56): a write of HP_CTL_k sets DOWN_TO, and with RETRAIN 1 retrains the head at its MAXRATE limit. -/
def execHpCtlRetrain (h val : Nat) (s : State) : Answer :=
  let t := s.begin
  if !t.headExists h then .next t
  else
    let t := t.wri F.HP_CTL_DOWN_TO h (natField val 16 8)
    if natBit val 63 && t.headUp h then .next (t.enterRecovery h) else .next t

/-- R42, R56: ingress lines a head occupies: writes that wait for a demand fetch. -/
def State.waitOf (s : State) (k : Nat) : Nat := (s.rs.waits.filter fun w => w.head == k).length

/-- R51: the counters of a head as HP_LINK, HP_CRED, HP_LAT, HP_LERR and HP_POIS words. -/
def State.headCounters (s : State) (k : Nat) : List Nat :=
  if !s.headIndex k then [0, 0, 0, 0, 0]
  else
    let r := fun (f : Field) => s.rdi f k * 2 ^ f.lo
    [r F.HP_LINK_VIRAL + r F.HP_LINK_IDEFAIL + r F.HP_LINK_IDE + r F.HP_LINK_FLIT256 + r F.HP_LINK_WIDTH + r F.HP_LINK_RATE +
       r F.HP_LINK_STATE,
     r F.HP_CRED_ADV + r F.HP_CRED_WHELD + s.waitOf k, r F.HP_LAT_MAXRD + r F.HP_LAT_IDLE,
     r F.HP_LERR_DOWN + r F.HP_LERR_RECOV + r F.HP_LERR_REPLAY, r F.HP_POIS_RXPOIS + r F.HP_POIS_TXPOIS]

/-- GET_HEAD_COUNTERS (R51): all 16 heads in one snapshot; nothing is cleared. -/
def execGetHeadCounters (v : Via) (s : State) : Answer :=
  .next (s.mbox v (.getHeadCounters v) .other false fun t => t.reply v .success ((List.range 16).flatMap t.headCounters))

/-! ### HDM decoders (R39) -/

/-- R39: the device range a decoder covers, in bytes: its size over its ways. -/
def Decoder.span (d : Decoder) : Nat := d.size / max 1 d.ways

/-- R39: interleave ways and granularities that are supported, and the alignment of the device base and size. -/
def Decoder.legal (d : Decoder) : Bool :=
  [1, 2, 3, 4, 6, 8, 12, 16].contains d.ways && [256, 512, 1024, 2048, 4096, 8192, 16384].contains d.gran &&
    d.dpa % 2 ^ 28 == 0 && d.size % (2 ^ 28 * d.ways) == 0

/-- R39: two decoders' device ranges overlap. -/
def Decoder.overlaps (a b : Decoder) : Bool := decide (a.dpa < b.dpa + b.span) && decide (b.dpa < a.dpa + a.span)

/-- HDM_DECODER_COMMIT (R39): a locked decoder ignores the write; an overlap or an unsupported setting fails with Commit Error. -/
def execHdmDecoderCommit (h i base size ways gran dpa : Nat) (lock : Bool) (s : State) : Answer :=
  let t := s.begin
  let x := t.head h
  let old := FMap.get {} x.decoders i
  if !t.headExists h || !t.headUp h || decide (8 ≤ i) || (old.committed && old.lock) then .next t
  else
    let d : Decoder := { base := base, size := size, ways := ways, gran := gran, dpa := dpa, committed := true, lock := lock, error := false }
    let clash := x.decoders.any fun e => e.1 != i && e.2.committed && e.2.overlaps d
    let d : Decoder := if d.legal && !clash then d else { d with committed := false, error := true }
    .next (t.setHead h { x with decoders := FMap.put x.decoders i d })

end Sys2Proof.Machine
end

