-- ==== Sys2Proof/Machine/Image.lean ====
section
/-! DEFINITION. The image on flash at work: the journal, the index passes, the anchors, and the freeing of image space
(R141 to R152). -/

namespace Sys2Proof.Machine

/-! ### Freeing (R134, R147, R192) -/

/-- R134: a run of blocks is put on the erasing list by ERASING records. -/
def State.listPart (s : State) (lo n : Nat) : State :=
  let at_ : Int := (s.im.nextLsn : Int) - lo
  let bs := Segs.mapIn (fun (b : Blk) => { b with st := 1, tries := 0, tag := 0, erLsn := at_ }) lo (lo + n) s.fc.blocks
  let t : State := { s with fc := { s.fc with blocks := bs } }
  t.journalP jErasing [lo, n, (s.blk lo).ers] .none n

/-- R134, R142: a run of any length, in parts whose records one RECORD Skein holds. -/
def State.listRun (s : State) (lo n : Nat) : State :=
  s.forEach (List.range (ceilDiv n 16384)) fun a i => a.listPart (lo + i * 16384) (min 16384 (n - i * 16384))

/-- R134, R184: a freed bundle's blocks are unprotected and listed; grown bad ones and those of retired targets are left out. -/
def State.releaseBlocks (s : State) (l : List Nat) : State :=
  (l.filter fun b => (s.blk b).st != 7 && (s.healthy (blkTgt b) || (s.tgt (blkTgt b)).state == tgTesting)).foldl (fun a b => a.listRun b 1) s

/-- R147: something of a bundle is still needed: a live slot, a segment of the pass the newest anchor names or of the pass in progress, a
journal record since that pass's CKPT_BEGIN, or a Skein in flight. -/
def State.bundleLive (s : State) (b : Nat) : Bool :=
  let x := s.bundle b
  let pass := match s.anchor with | some a => a.pass | none => 0
  let ck := match s.anchor with | some a => a.cklsn | none => 0
  s.im.flight.any (fun k => k.bundle == b) || s.im.dataB == some b || s.im.jb == some b || s.im.jnext == some b ||
    (x.use == 2 && decide (ck ≤ x.lastLsn)) ||
    (s.im.skeins.any fun e => e.2.bundle == b &&
      (if e.2.ty = 2 then (s.im.segs.any fun g => g.2.2 == e.1 && (g.1 == pass || g.1 == s.im.pass))
       else ((List.range e.2.slots.length).zip e.2.slots).any fun p => match p.2 with
         | some u => s.idx u.unit == .slot e.1 p.1
         | none => false))

/-- R147: bundles that hold nothing needed are freed by BUNDLE_FREE; their Skeins are forgotten. -/
def State.freeDead (s : State) : State :=
  if !s.im.tail.isEmpty || s.im.flight.any (fun k => k.ty == 3) then s
  else
    let dead := (s.im.bundles.filter fun e => !s.bundleLive e.1).map Prod.fst
    dead.foldl (fun (a : State) b => State.journal { a with im := { a.im with skeins := a.im.skeins.filter fun e => e.2.bundle != b } }
      jBundleFree [b]) s

/-- What follows once a record lies on flash: freed bundles' blocks are listed; listed blocks may be erased. -/
def State.onFlash (s : State) (r : JRec) : State :=
  if r.ty = jBundleFree then
    let b := r.args.headD 0
    let l := (s.bundle b).members
    let t : State := { s with im := { s.im with bundles := FMap.del s.im.bundles b },
                              fc := { s.fc with reclaim := s.fc.reclaim.filter (· != b) } }
    (t.releaseBlocks l).ceilUpdate 0
  else if r.ty = jErasing then
    match r.args with
    | lo :: n :: _ =>
      let bs := Segs.mapIn (fun (b : Blk) => if b.st = 1 then { b with st := 2 } else b) lo (lo + n) s.fc.blocks
      State.ceilUpdate { s with fc := { s.fc with blocks := bs } } 0
    | _ => s
  else if r.ty = jCkptEnd then
    match r.args, s.im.passLsn with
    | p :: _ :: g :: _, some ck => if s.phase = phSave ∨ s.im.passEnd = false then s else s.writeAnchor g 1 0 0 ck p r.lsn
    | _, _ => s
  else if r.ty = jClose then
    match r.args with
    | g :: res :: _ =>
      State.writeAnchor { s with sv := { s.sv with closing := true } } g (if res = 1 then 2 else 3) res (s.rd F.SPN_SAVE_REASON)
        ((s.anchor.map Anchor.cklsn).getD 0) ((s.anchor.map Anchor.pass).getD 0) r.lsn
    | _ => s
  else s

/-- R122, R129, R144: a RECORD Skein commits: its records lie on flash and FC_LSN advances; in a Save one with failed Strands is event
0x4009. -/
def State.commitRecord (s : State) (k : Skein) : State :=
  let t := s.land k.gen
  let t := if k.failed.isEmpty then t else t.event 0x4009 [k.gen, k.failed.length]
  let last := match k.recs.getLast? with | some r => r.lsn + r.count - 1 | none => t.rd F.FC_LSN_LSN
  let t : State := { t with im := { t.im with log := t.im.log ++ k.recs, lastRec := (k.gen, k.bundle, k.page) } }
  let t := k.recs.foldl State.onFlash (t.wr F.FC_LSN_LSN last)
  t.freeDead

/-- Every RECORD Skein in flight commits, in order, up to a number of them. -/
def State.commitRecords (s : State) : Nat → State
  | 0 => s
  | n + 1 => match s.im.flight.find? fun k => k.ty == 3 with
    | some k => (s.commitRecord k).commitRecords n
    | none => s

/-- JOURNAL_FLUSH_TIMEOUT (R144): the tail is written out as a RECORD Skein. -/
def execJournalFlushTimeout (s : State) : Answer :=
  let t := s.begin
  if t.serving && t.armed then .next t.flushTail.retrySeg else .next t

/-- RECORD_SKEIN_COMMIT (R144): a RECORD Skein commits only when it is the oldest in flight. -/
def execRecordSkeinCommit (gen : Nat) (s : State) : Answer :=
  let t := s.begin
  match t.im.flight.find? fun k => k.ty == 3 with
  | some k => if k.gen = gen then .next (t.commitRecord k) else .next t
  | none => .next t

/-! ### Index passes and anchors (R141, R148, R150) -/

/-- INDEX_SEGMENT_COMMIT (R141): the INDEX Skein in flight commits and INDEX_SEG is appended; the next segment follows, or the
restatement and CKPT_END. -/
def execIndexSegmentCommit (s : State) : Answer :=
  let t := s.begin
  match t.im.flight.find? fun k => k.ty == 2 with
  | none => .next t
  | some k =>
    if t.phase = phSave ∨ t.im.passLsn.isNone then .next t
    else
      let t := t.land k.gen
      let t : State := { t with im := { t.im with skeins := FMap.put t.im.skeins k.gen k, segs := t.im.segs ++ [(t.im.pass, k.seg, k.gen)] } }
      let t := t.journal jIndexSeg [k.seg, t.im.pass, k.bundle, k.page, k.gen, k.snap]
      if k.seg + 1 < t.segCount then .next (t.startSeg (k.seg + 1))
      else
        let g := t.rd F.MR_GEN_NEXT
        let t := t.restate.takeGen
        .next (State.journal { t with im := { t.im with passEnd := true } } jCkptEnd [t.im.pass, k.seg + 1, g])

/-- R148: anchor blocks, other than the current one of their target, whose newest anchor is older than two later anchors read back in all
four copies, are erased; not in a Save, which lists no block. -/
def State.eraseAnchors (s : State) : State :=
  if s.phase = phSave then s else
  let full := (s.im.anchors.filter fun a => a.good == 4).map Anchor.gen
  match full with
  | _ :: g2 :: _ =>
    let cur := s.im.anchorPos.map fun e => e.2.1
    let old := (s.fc.blocks.filter fun e => e.2.2.st == 6 && anchorBlk e.1 && decide (e.2.2.tag < g2) && !cur.contains e.1).map Prod.fst
    old.foldl (fun a b => a.listRun b 1) s
  | _ => s

/-- R150: the copies of the anchor that waits are read back, each with the bits that read wrong; one whose page decodes holds what was
programmed, under the current IMAGE_ID, and is valid; each that does not is event 0x5103. How many are valid. -/
def State.readBack (s : State) (a : Anchor) (flips : List (List Nat)) : State × Nat :=
  let l := (indexed a.copies).map fun p => (p.2, pageDecodes 72 (flips.getD p.1 []))
  let t := (l.filter fun p => !p.2).foldl (fun (x : State) p => x.event 0x5103 [blkTgt p.1.1, p.1.2, a.gen]) s
  (t, (l.filter Prod.snd).length)

/-- R150: no copy is valid: four copies are written again at k + 1. -/
def State.rewriteAnchor (s : State) (a : Anchor) : State :=
  let (t, l) := s.anchorCopies (a.gen + 1) a.gen
  let b : Anchor := { a with copies := l }
  { t with im := { t.im with anchorW := some b, anchored := b :: t.im.anchored } }

/-- R150: an anchor stands. -/
def State.standAnchor (s : State) (a : Anchor) (good : Nat) : State :=
  State.eraseAnchors { s with im := { s.im with anchorW := none, anchors := { a with good := good } :: s.im.anchors } }

/-- R192: re-skeining's pass wait ends with the first pass begun after relocation: the target is RETIRED and its channel unbound; the next
target follows, and one waiting outside joins the queue. -/
def State.reskeinDone (s : State) (pass : Nat) : State :=
  if s.rd F.FC_RSK_STATE ≠ 3 ∨ pass < s.fc.rskPass then s
  else match s.fc.queue with
    | [] => s
    | t :: q =>
      let a := s.setTgt t { s.tgt t with state := tgRetired }
      let a := a.event 0x600C [t, s.fc.rskMoved, s.ck.mono - s.fc.rskAt]
      let q := q ++ a.fc.waitq.take 1
      let a : State := { a with fc := { a.fc with queue := q, waitq := a.fc.waitq.drop 1, ckpt := (0, 0), ckptNor := (0, 0) } }
      (((a.wr F.FC_RSK_STATE 0).wr F.FC_RSK_PROG 0).wr F.FC_RSK_QUEUED (q.length - 1)).ceilUpdate 0

/-- R141, R147, R152: a CHECKPOINT anchor stands: its pass is complete and older passes' segments are dead; the next pass begins, but not in a
Save. -/
def State.passDone (s : State) (a : Anchor) (good : Nat) : State :=
  let t := (s.standAnchor a good).event 0x5101 [a.pass, s.ck.mono - s.im.passAt, a.gen]
  let dead := (t.im.segs.filter fun e => e.1 != a.pass).map fun e => e.2.2
  let t : State := { t with im := { t.im with segs := t.im.segs.filter fun e => e.1 == a.pass
                                              skeins := t.im.skeins.filter fun e => !dead.contains e.1
                                              passLsn := none, passEnd := false } }
  if t.phase = phSave then t else (t.reskeinDone a.pass).freeDead.beginPass

/-- ANCHOR_READBACK (R150, R152): the copies of a CHECKPOINT anchor are read back, each with its bits in error. Without a valid copy four are
written again; in a Save the pass is abandoned instead. -/
def execAnchorReadback (flips : List (List Nat)) (s : State) : Answer :=
  let t := s.begin
  match t.im.anchorW with
  | none => .next t
  | some a =>
    let (t, n) := t.readBack a flips
    if n = 0 then
      if t.phase = phSave ∧ a.kind = 1 then .next (State.dropPass { t with im := { t.im with anchorW := none } } 1) else .next (t.rewriteAnchor a)
    else if a.kind = 1 ∧ t.flag F.GEN_ADMIT_FIRST = false then .next (t.passDone a n)
    else .next s.begin

end Sys2Proof.Machine
end

