-- ==== Sys2Proof/Machine/CloseOps.lean ====
section
/-! DEFINITION. The close-out of a Save: its losses, the frontiers it writes, its records and the manifest (R84, R85, R116, R120, R150,
R165). -/

namespace Sys2Proof.Machine

/-! ### Losses (R85, R120, R151, R165) -/

/-- R151, R165: the highest generation among the image copies of a run of units; 0 if none. -/
def State.copyGen (s : State) (lo hi : Nat) : Nat :=
  (Segs.within lo hi s.index).foldl (fun a e => match e.2.2 with | .slot g _ => max a g | _ => a) 0

/-- R120, R151: the units of share n not in a committed Skein, as UNSAVED records. -/
def State.unsavedOf (s : State) (n : Nat) : List LossRec :=
  ((Segs.within (s.shLo n) (s.shHi n) s.dmap).filter fun e => e.2.2.st != 0).map fun e =>
    { share := n, lo := e.1, units := e.2.1 - e.1, cause := 1, lgen := s.copyGen e.1 e.2.1 }

/-- R120: every counted unit not yet streamed. -/
def State.unsaved (s : State) : List LossRec := ((List.range 64).filter s.counted).flatMap s.unsavedOf

/-- R165: the units of a loss record whose newest committed copy is the one its LGEN names, or that have no copy: one drained into a newer
Skein leaves the record. -/
def State.lossRuns (s : State) (l : LossRec) : List LossRec :=
  let newer := (Segs.within l.lo (l.lo + l.units) s.index).filter fun e => match e.2.2 with | .slot g _ => decide (l.lgen < g) | _ => false
  (newer.foldl (fun rs e => cutRuns e.1 e.2.1 rs) [(l.lo, l.lo + l.units)]).map fun r => { l with lo := r.1, units := r.2 - r.1 }

/-- R165: a loss record is not wholly rewritten or cleared: some of its lines are poisoned or its units ABSENT. -/
def State.lossStands (s : State) (l : LossRec) : Bool :=
  Segs.count (fun b => b) (l.lo * 64) ((l.lo + l.units) * 64) s.poisoned != 0 ||
    Segs.count (fun v => v == 1) l.lo (l.lo + l.units) s.rs.rmap != 0

/-- R165: records carried forward into the next manifest. -/
def State.carried (s : State) : List LossRec := (s.report.losses.flatMap s.lossRuns).filter s.lossStands

/-- R165: contiguous units of one share with the same cause merge into one record. -/
def mergeLoss (l : List LossRec) (x : LossRec) : List LossRec :=
  match l.find? fun y => y.share == x.share && y.cause == x.cause && (y.lo + y.units == x.lo || x.lo + x.units == y.lo) with
  | some y => { y with lo := min y.lo x.lo, units := y.units + x.units, lgen := max y.lgen x.lgen } :: l.filter (· != y)
  | none => x :: l

/-- R85: a record joins a report of at most 65,536; units beyond it count in XUNITS, with OVF. -/
def Report.put (r : Report) (x : LossRec) : Report :=
  let l := mergeLoss r.losses x
  if l.length ≤ 65536 then { r with losses := l } else { r with ovf := true, xunits := r.xunits + x.units }

/-- Records merged, in the order of their units. -/
def mergeAll (l : List LossRec) : List LossRec := (l.foldl mergeLoss []).reverse

/-- Units of a list of records. -/
def lossUnits (l : List LossRec) : Nat := (l.map LossRec.units).foldl (· + ·) 0

/-! ### Frontiers (R84) -/

/-- R84: COMMITs of queue q open at the trigger that a loss covers. -/
def State.lostCommits (s : State) (q : Nat) (ls : List LossRec) : List Nat :=
  (s.sv.opens.filter fun t => t.qid == q && ls.any fun l => decide (t.line0 < (l.lo + l.units) * 64) && decide (l.lo * 64 < t.line1)).map Ticket.seq

/-- R84: HELD and FLASH COMMITs of queue q that were open at the trigger: they hold once their lines are saved. -/
def State.savedCommits (s : State) (q : Nat) : List Nat :=
  (s.sv.opens.filter fun t => t.qid == q && t.kind == .commit && t.level != 2).map Ticket.seq

/-- R84, R165: LAST, FRONTH and FRONT of every queue that was not DISABLED, and the records carried forward of queues not created again. A COMMIT open
at the trigger holds back both where a loss covers it; otherwise one at TWINED holds back FRONT alone, and one at HELD or FLASH neither. -/
def State.saveFronts (s : State) (ls : List LossRec) : List Frontier :=
  (s.report.fronts.filter fun f => (s.queue f.qid).saved) ++
  (s.queues.filter fun e => e.2.state != 0).map fun e =>
    let h := s.lostCommits e.1 ls
    let ok := s.savedCommits e.1
    { qid := e.1, head := e.2.head, twin := e.2.twin, last := e.2.last, fronth := frontierOf e.2.last (h ++ e.2.holdH),
      front := frontierOf e.2.last (h ++ e.2.holdF.filter fun q => !ok.contains q) }

/-! ### The close-out records (R116, R150) -/

/-- R116, R150: the early records: SHARE_ENTRY for every share, LSA, SHUTDOWN, TWINSEQ, TWIN_STATE, ERASE_LIST. -/
def State.earlyRecs (s : State) : State :=
  if s.sv.early then s
  else
    let t := (s.twinFit.tableRecs.shutdownRec.append jTwinseq [s.sv.aseq, s.sv.oseq] .none 1).twinRec.eraseRecs
    { t with sv := { t.sv with early := true } }

/-- R117, R151: the units the Save read with an uncorrectable line and streamed, each record with the generation of the newest copy. -/
def State.badRead (s : State) : List LossRec :=
  (s.sv.losses.filter fun l => (s.unit l.lo).st == 0).map fun l => { l with lgen := s.copyGen l.lo (l.lo + l.units) }

/-- R114, R116, R150, R151: streaming has ended: the late records and CLOSE are written out and the manifest's copies programmed. Event 0x4003 is
recorded for every result of 2, that of an exhausted pool (R122) included (DESIGN CHOICE, log 188). -/
def State.closeOut (s : State) (result : Nat) : State :=
  let t := s.earlyRecs
  let g := t.rd F.MR_GEN_NEXT
  let t := t.takeGen
  let cut := if result = 1 then [] else t.unsaved
  let stood := mergeAll (t.carried ++ t.badRead)
  let all := mergeAll (stood ++ cut)
  let ls := all.take 65536
  let x := lossUnits (all.drop 65536)
  let lost := lossUnits (t.badRead ++ cut)
  let fr := t.saveFronts all
  let t := t.lateRecs g (result != 1) (decide (65536 < all.length)) x fr ls
  let us := (t.ck.mono - t.sv.startAt) / 1000
  let t : State := { t with sv := { t.sv with result := result, stood := stood.take 65536 }
                            report := { t.report with source := 0, trunc := result != 1, ovf := decide (65536 < all.length), gen := g
                                                      xunits := x, fronts := fr, losses := ls
                                                      grants := (List.range 64).map fun n => (n, t.rdi F.SHR_HEADS_GRANT n) } }
  let t := (t.wr F.SPN_STIME_STREAM ((t.ck.mono - t.sv.streamAt) / 1000)).wr F.SPN_SUNITS_LOST lost
  let t := if result = 2 then t.event 0x4003 [lost, t.rd F.PW_SBUS_SBUS] else if result = 3 then t.event 0x4004 [lost] else t
  let t := t.journal jClose [g, result, t.sv.saved, lost, us]
  t.commitRecords (t.im.flight.length + 1)

/-- R114: in a Save, streaming ends once every counted unit lies in a committed Skein, or after the pool is exhausted once no DATA Skein
is in flight; after save-bus low the close waits for its own command (R120). -/
def State.streamEnd (s : State) : State :=
  if s.phase = phSave ∧ s.sv.started = true ∧ s.sv.closing = false ∧ s.im.anchorW.isNone = true ∧ s.rs.waits = [] ∧
      (s.im.flight.any fun k => k.ty == 1) = false then
    if s.sv.cut = false ∧ s.residue = 0 then s.closeOut 1
    else if s.sv.cut = false ∧ (s.dataBundle).2.isNone = true then s.closeOut 2
    else s
  else s

end Sys2Proof.Machine
end

