-- ==== Sys2Proof/Machine/Millrace.lean ====
section
/-! DEFINITION. The Millrace and the Weir: Skeins, commits, candidates, the wear bucket, the age sweep and the marks (R87 to R110),
and the Skeins a Save streams (R115). -/

namespace Sys2Proof.Machine

/-! ### Skeins (R93, R104, R432) -/

/-- R138: the slot of a unit read from DRAM now. -/
def State.readSlot (s : State) (u : Nat) (moved : Bool) : Slot :=
  { unit := u, share := (s.shareOf u).getD 0,
    pmask := ((List.range 64).filter fun i => s.linePoisoned (u * 64 + i)).foldl (fun a i => a + 2 ^ i) 0,
    cells := (memCells s.mem (u * 4096) (u * 4096 + 4096)).map fun c => (c.1 - u * 4096, c.2),
    moved := if moved then some (s.idx u) else none, kgen := natField (FMap.get 0 s.sec.keyw ((s.shareOf u).getD 0)) 0 40 }

/-- R88: the selected unit becomes DRAINING; a relocated CLEAN unit keeps its state. -/
def State.drainUnit (s : State) (p : Nat × Bool) : State :=
  if p.2 then s else s.setUnit p.1 { s.unit p.1 with st := 2 }

/-- R117, R235: a unit read for a Skein with an uncorrectable line: the line is saved poisoned; in a Save the unit enters the loss
report. -/
def State.drainError (s : State) (line : Nat) : State :=
  let x := s.mch (unitChan (line / 64))
  let t := ((s.setMch (unitChan (line / 64)) { x with ue := min 0xFFFF (x.ue + 1) }).bump F.MC_ERR_UE).event 0x8004 [line * 64, 0]
  let t := (t.poisonLine line 2).mediaEvent (line / 64) 0
  if t.phase = phSave ∧ (t.sv.losses.any fun l => l.lo == line / 64) = false then
    { t with sv := { t.sv with losses := t.sv.losses ++
      [{ share := (t.shareOf (line / 64)).getD 0, lo := line / 64, units := 1, cause := 4, lgen := 0 }] } }
  else t

/-- R14, R93, R104: a Skein may start now with the units selected; while SP2 is absent no program is scheduled. -/
def State.skeinAllowed (s : State) (n : Nat) : Bool :=
  n != 0 && s.armed && decide (s.rd F.MR_DRAIN_INFL < 256) && s.spRuns 2 &&
    (if s.phase = phSave then s.sv.started && !s.sv.cut && s.rs.waits.isEmpty && s.spRuns 1
     else s.serving && s.spRuns 0 && (n == 112 || s.mr.partialOk) && (s.drainState == 3 || decide (524288 ≤ s.mr.bucket)))

/-- SKEIN_START (R88, R93, R104, R115, R179): the Skein takes its generation and page, its programs are charged, and its units are read. `bad`
are the lines found uncorrectable by that read. -/
def execSkeinStart (bad : List Nat) (s : State) : Answer :=
  let t := s.begin
  let sel := t.selection
  if !t.skeinAllowed sel.length then .next t
  else
    let (t, r) := t.dataBundle
    match r with
    | none => .next t.streamEnd
    | some b =>
      if !t.workFits (t.bundle b).members then .next t else
      let g := t.rd F.MR_GEN_NEXT
      let t := (bad.filter fun l => sel.any fun p => p.1 == l / 64).foldl State.drainError t
      let read := sel.map fun p => t.readSlot p.1 p.2
      let k : Skein := { gen := g, ty := 1, bundle := b, page := (t.bundle b).next, slots := read.map some, recs := [], seg := 0, snap := 0
                         entries := [], failed := [], prog := read }
      let t := (sel.foldl State.drainUnit t).takeGen.takePage b
      let t := t.fly k
      let t : State := { t with mr := { t.mr with partialOk := false } }
      let t := (t.wr F.MR_DRAIN_INFL (t.rd F.MR_DRAIN_INFL + 1)).debit 524288
      .next ((t.ceilUpdate 0).wr F.MR_DRAIN_STATE t.drainState)

/-- PARTIAL_SKEIN_TIMEOUT (R93): between 1 and 111 units have been eligible long enough. -/
def execPartialSkeinTimeout (s : State) : Answer :=
  let t := s.begin
  let n := t.selection.length
  if t.serving && decide (1 ≤ n) && decide (n < 112) then .next { t with mr := { t.mr with partialOk := true } } else .next t

/-- R88, R96: one slot of a committed Skein g: a DRAINING unit becomes CLEAN, KEEP standing for the walk, a REDIRTY one DIRTY; the index names the
slot. A relocated unit's index follows if nothing changed it. A slot whose unit left the counted states is void. Answers whether the slot holds. -/
def State.commitSlot (s : State) (g i : Nat) (x : Option Slot) : State × Bool :=
  match x with
  | none => (s, false)
  | some u =>
    let e := s.unit u.unit
    match u.moved with
    | some old => if s.idx u.unit = old then (s.setIndex u.unit (u.unit + 1) (.slot g i), true) else (s, false)
    | none =>
      if e.st = 2 then
        let t : State := { s with mr := { s.mr with drained := s.mr.drained + 1 }
                                  dmap := if e.keep then Segs.put s.dmap u.unit { keep := true } else Segs.cut u.unit (u.unit + 1) s.dmap }
        ((t.setIndex u.unit (u.unit + 1) (.slot g i)).addi F.MR_COUNT_DRN 0 1, true)
      else if e.st = 3 then
        ((s.setUnit u.unit { e with st := 1, stamp := s.nowSec }).setIndex u.unit (u.unit + 1) (.slot g i), true)
      else (s, false)

/-- The slots of a committed Skein in order, and the unit each holds or none where it is void. -/
def State.commitSlots (s : State) (g : Nat) : Nat → List (Option Slot) → State × List (Option Slot)
  | _, [] => (s, [])
  | i, x :: l =>
    let (t, ok) := s.commitSlot g i x
    let (r, rest) := t.commitSlots g (i + 1) l
    (r, (if ok then x else none) :: rest)

/-- R143: the unit of a slot in SKEIN_COMMIT. -/
def slotUnit (x : Option Slot) : Nat := match x with | some u => u.unit | none => 0xFFFFFFFF

/-- R71: the tickets that a commit of generation g satisfies for a unit. -/
def State.satisfyUnit (s : State) (g : Nat) (x : Option Slot) : State :=
  match x with
  | some u => s.satisfy (fun t => decide (t.gen ≤ g)) u.unit (u.unit + 1)
  | none => s

/-- R192: units of the bundles naming the target in re-skeining that are live no more count as relocated. -/
def State.rskProgress (s : State) : State :=
  match s.fc.queue.head? with
  | some t =>
    if s.rd F.FC_RSK_STATE = 2 then
      let n := s.fc.rskTotal - ((s.bundlesOf t).flatMap s.liveIn).length
      State.wr { s with fc := { s.fc with rskMoved := n } } F.FC_RSK_PROG (min 100 (n * 100 / max 1 s.fc.rskTotal))
    else s
  | none => s

/-- R88, R93, R122: a DATA Skein commits: units, index, journal, tickets and counters; in a Save a Skein with failed Strands is marked
degraded and its bundle is passed to re-skeining. -/
def State.commitData (s : State) (k : Skein) : State :=
  let (t, sl) := s.commitSlots k.gen 0 k.slots
  let mask := k.failed.foldl (fun a i => natSetBit a i) 0
  let t := t.journal jSkeinCommit (k.gen :: k.bundle :: k.page :: mask :: sl.map slotUnit)
  let t := t.land k.gen
  let t : State := { t with im := { t.im with skeins := FMap.put t.im.skeins k.gen { k with slots := sl } } }
  let t := if k.failed.isEmpty then t else
    State.event { t with fc := { t.fc with reclaim := t.fc.reclaim ++ [k.bundle] } } 0x4009 [k.gen, k.failed.length]
  let n := (sl.filter Option.isSome).length
  let t := if t.phase = phSave then (({ t with sv := { t.sv with saved := t.sv.saved + n } } : State)).wr F.SPN_SUNITS_SAVED (t.sv.saved + n)
    else t
  let t := t.rskProgress
  let before := t.tickets
  ((sl.foldl (fun a x => a.satisfyUnit k.gen x) t).flushFlash before).settleMr

/-- R176: a Skein in flight before one of generation g in the same bundle: its pages are programmed first. -/
def State.pageBefore (s : State) (k : Skein) : Bool := s.im.flight.any fun x => x.bundle == k.bundle && decide (x.page < k.page)

/-- SKEIN_COMMIT (R88, R93, R176, R432): every Strand of a DATA Skein in flight has programmed, after those of the pages before it. -/
def execSkeinCommit (gen : Nat) (s : State) : Answer :=
  let t := s.begin
  match t.inFlight gen with
  | some k => if k.ty = 1 ∧ t.pageBefore k = false then .next ((t.commitData k).streamEnd).sendFetches else .next t
  | none => .next t

/-! ### The Weir (R98 to R101) -/

/-- R110: a Weir term in whole GiB, saturating at 0xFFFE. -/
def WeirTerms.gibOf (t : WeirTerms) (x : Nat) : Nat := min 0xFFFE (x / (t.k * 2 ^ 30))

/-- R126: E_LIM in J for a Weir in bytes and the merge allowance now in force. -/
def State.eLim (s : State) (w : Nat) : Nat :=
  s.nF * (s.rd F.MR_SAVEPWR_PFIX * (s.tWin * 1000000 + 50000000 + s.tMrg) * 100 + max 1 (s.rd F.MR_SAVEPWR_KP) * w) / 100000000000

/-- R110: MR_TERMS, MR_RATES and MR_FB_1 to MR_FB_7 from the inputs now in force. -/
def State.weirRegs (s : State) : State :=
  let i := s.weirIn 0
  let w := s.weirTerms i
  let t := (((s.wr F.MR_TERMS_WP (w.gibOf w.wp)).wr F.MR_TERMS_WE (w.gibOf w.we)).wr F.MR_TERMS_WT (w.gibOf w.wt)).wr F.MR_TERMS_WC
    (match w.wc with | some c => w.gibOf c | none => 0xFFFF)
  let t := (((t.wr F.MR_RATES_RP (min 0xFFFF ((i.pd - s.rd F.MR_SAVEPWR_PFIX) * 1000 / max 1 (s.rd F.MR_SAVEPWR_KP)))).wr
    F.MR_RATES_RFL (i.rfl / 100000000)).wr F.MR_RATES_RCAP (w.rcap / 100000000)).wr F.MR_RATES_WH (min 0xFFFF (w.wh / (w.k * 2 ^ 20)))
  t.forEach ((List.range 7).map (· + 1)) fun a n => a.wri F.MR_FB_WEIR n (a.weirTerms (a.weirIn n)).gib

/-- R100: SP0 offers a candidate value with its binding term. -/
def State.offer (s : State) (c bind : Nat) : State :=
  let old := s.rd F.MR_WEIR_WEIR
  if s.rd F.MR_WEIR_BIND = 7 ∨ c < old then State.setWeir { s with mr := { s.mr with rising := [] } } c bind
  else if c = old then (({ s with mr := { s.mr with rising := [] } } : State)).wr F.MR_WEIR_BIND bind
  else
    let l := s.mr.rising ++ [(c, bind)]
    if l.length < 100 then { s with mr := { s.mr with rising := l } }
    else
      let b := l.foldl (fun a x => if x.1 < a.1 then x else a) (c, bind)
      State.setWeir { s with mr := { s.mr with rising := [] } } b.1 b.2

/-- WEIR_CANDIDATE (R99 to R101): SP0 computes the terms, fallbacks and a candidate; while a fallback set stands, a candidate whose inputs
do not reflect all of it is discarded. -/
def execWeirCandidate (s : State) : Answer :=
  let t := s.begin
  if !t.spRuns 0 || !(t.serving || t.phase == phBringup) then .next t
  else
    let w := t.weirTerms (t.weirIn 0)
    let t := t.weirRegs
    let set := t.rd F.MR_WEIR_FBSET
    let held := (List.range 3).any fun b => natBit set b && !natBit t.mr.reflected b
    let t := if held then t
      else State.offer { t.wr F.MR_WEIR_FBSET 0 with mr := { t.mr with reflected := 0 } } w.gib w.bind
    .next t

/-! ### The wear bucket, the age sweep and the marks (R90, R104, R110) -/

/-- BUCKET_FILL (R104): the bucket gains RATE × 1 ms, up to DEPTH. -/
def execBucketFill (s : State) : Answer :=
  let t := s.begin
  if t.phase = phOff ∨ t.phase = phDormant ∨ t.phase = phLinger then .next t
  else
    let add := max 100 (min 7000 (t.rd F.MR_WEAR_RATE)) * 1000
    let b := min (t.wearDepth : Int) (t.mr.bucket + (add : Int))
    .next { t with mr := { t.mr with bucket := b, debtSeen := decide (b < -(t.wearDepth : Int)) } }

/-- R90: the entry of a unit after the sweep visits it in second `now`. -/
def UnitSt.swept (e : UnitSt) (now : Nat) : UnitSt :=
  if e.st != 0 && decide (512 ≤ (now + 1024 - e.stamp % 1024) % 1024) then { e with stamp := (now + 512) % 1024 } else e

/-- AGE_SWEEP (R90): every unit aged 512 s or more takes the stamp of 512 s ago. -/
def execAgeSweep (s : State) : Answer :=
  let t := s.begin
  if t.serving then .next { t with dmap := t.dmap.map fun (e : Nat × Nat × UnitSt) => (e.1, e.2.1, e.2.2.swept t.nowSec) } else .next t

/-- MR_MARKS_WRITE (R110): the marks take effect if 0 < LOW < HIGH < SLUICE < 100; otherwise event 0x3008. -/
def execMrMarksWrite (val : Nat) (s : State) : Answer :=
  let t := s.begin
  let lo := natField val 8 8
  let hi := natField val 16 8
  let sl := natField val 24 8
  if 0 < lo ∧ lo < hi ∧ hi < sl ∧ sl < 100 then
    .next ((((t.wr F.MR_MARKS_LOW lo).wr F.MR_MARKS_HIGH hi).wr F.MR_MARKS_SLUICE sl).wr F.MR_MARKS_HYST (natField val 48 16)).settleMr
  else .next (t.event 0x3008 [val])

/-- BUCKET_RECORD_WRITE (R110): the MP writes the bucket to NOR. -/
def execBucketRecordWrite (s : State) : Answer :=
  let t := s.begin
  if t.serving && t.mpRuns then .next (State.norProgram { t with mr := { t.mr with record := some t.mr.bucket } }) else .next t

end Sys2Proof.Machine
end

