-- ==== Sys2Proof/Machine/Queues.lean ====
section
/-! DEFINITION. Doorbells, inline commits, the I/O operations, queue administration and reports (R57 to R86, R96). -/

namespace Sys2Proof.Machine

/-! ### Taking an entry -/

/-- R62, R69, R78, R80: the engine takes the next unfetched entry of queue q when the queue is ACTIVE, has room and a context, and
no barrier stands. -/
def State.takeEntry (s : State) (q : Nat) (f : State → State) : State :=
  if s.canTake q && (s.queue q).barrier.isNone && (s.queue q).sqHead != (s.queue q).sqTail then f s else s

/-- R69, R410: an I/O operation on an admin queue completes FAULT with reason ADMIN_ONLY. -/
def State.ioEntry (s : State) (q tag share level : Nat) (u : Bool) (f : State → State) : State :=
  if (s.queue q).admin then
    let (r, t) := s.newTicket q tag .admin level share u false
    r.finish t 6 3 0
  else f s

/-- COMMIT (R71, R73). -/
def execCommit (q tag share level off len : Nat) (u : Bool) (s : State) : Answer :=
  .next (s.begin.takeEntry q fun t => t.ioEntry q tag share level u fun t => t.captureCommit q tag share level off len u false)

/-- FENCE (R73, R80). -/
def execFence (q tag : Nat) (b u : Bool) (s : State) : Answer :=
  .next (s.begin.takeEntry q fun t => t.ioEntry q tag 0 0 u fun t => t.captureFence q tag 0 0 b u false)

/-- RELEASE (R73, R96). -/
def execRelease (q tag share off len : Nat) (u : Bool) (s : State) : Answer :=
  .next (s.begin.takeEntry q fun t => t.ioEntry q tag share 0 u fun t => t.takeRelease q tag share off len u)

/-- PROBE (R73). -/
def execProbe (q tag share off len : Nat) (u : Bool) (s : State) : Answer :=
  .next (s.begin.takeEntry q fun t => t.ioEntry q tag share 0 u fun t => t.takeProbe q tag share 0 off len u false)

/-- RELEASE_CAPTURE (R73, R96): a waiting RELEASE is captured once no covering ticket is open and a walk register is free. -/
def execReleaseCapture (q seq : Nat) (s : State) : Answer :=
  let t := s.begin
  match t.tickets.find? fun a => a.qid == q && a.seq == seq && a.kind == .release && !a.walking && a.outcome.isNone with
  | none => .next t
  | some a =>
    match t.freeWalk with
    | none => .next t
    | some i =>
      if t.coveredByFlash a.lo a.hi then .next t
      else
        let t := t.startWalk i a
        .next (if a.op = 1 then t.event 0x3007 [q, t.ck.mono - a.since] else t)

/-! ### Release walks (R88, R96) -/

/-- R96: the units of a range whose KEEP is set, as runs. -/
def State.keptRuns (s : State) (lo hi : Nat) : Segs UnitSt := (Segs.within lo hi s.dmap).filter fun e => e.2.2.keep

/-- R159: ABSENT units of a range made RELEASED are installed as zero: from then on they are zero-filled as ZEROING units are. -/
def State.releaseAbsent (s : State) (lo hi : Nat) : State :=
  let l := (Segs.within lo hi s.rs.rmap).filter fun e => e.2.2 == 1
  if l.isEmpty then s
  else
    let t : State := { s with rs := { s.rs with rmap := l.foldl (fun m e => Segs.fill m e.1 e.2.1 2) s.rs.rmap
                                                handed := s.rs.handed.filter fun u => decide (u < lo) || decide (hi ≤ u) } }
    let t := l.foldl (fun (a : State) e => a.cleanLines (e.1 * 64) (e.2.1 * 64)) t
    t.addi F.SPN_RUNITS_DONE 0 ((l.map fun e => e.2.1 - e.1).foldl (· + ·) 0)

/-- R88, R96: a walk visits its whole range: a unit with KEEP set keeps its state and loses KEEP; every other becomes CLEAN and
RELEASED, leaving residue, and no ticket waits for it any more. -/
def State.walkRange (s : State) (lo hi : Nat) : State :=
  let kept := s.keptRuns lo hi
  let freed := Segs.count (fun e => e.st != 0 && !e.keep) lo hi s.dmap
  let idx := kept.foldl (fun ix e => Segs.within e.1 e.2.1 s.index ++ Segs.cut e.1 e.2.1 ix) (Segs.fill s.index lo hi .released)
  let gone := kept.foldl (fun rs e => cutRuns e.1 e.2.1 rs) [(lo, hi)]
  let held : Segs UnitSt := (kept.filter fun e => e.2.2.st != 0).map fun (e : Nat × Nat × UnitSt) => (e.1, e.2.1, { e.2.2 with keep := false })
  let t : State := { s with dmap := held ++ Segs.cut lo hi s.dmap, index := idx }
  let t := gone.foldl (fun a r => ((a.satisfy (fun _ => true) r.1 r.2).voidSlots r.1 r.2).releaseAbsent r.1 r.2) t
  t.addi F.MR_COUNT_REL 0 freed

/-- R73, R96: the units of the range the walk did not skip for KEEP. -/
def State.walkedUnits (s : State) (lo hi : Nat) : Nat := (hi - lo) - Segs.count (fun e => e.keep) lo hi s.dmap

/-- R143: a RELEASE_RUN for each maximal run made RELEASED. -/
def State.logReleased (s : State) (share lo hi : Nat) (kept : Segs UnitSt) : State :=
  (kept.foldl (fun rs e => cutRuns e.1 e.2.1 rs) [(lo, hi)]).foldl (fun a r => a.journal jReleaseRun [r.1, r.2 - r.1, share]) s

/-! ### Doorbells (R63 to R65) -/

/-- R63: a doorbell write discarded and counted. -/
def State.foreign (s : State) (h : Nat) : State := s.bumpi F.QUE_ERRC_FOREIGN h

/-- A BAR2 access of head h can arrive: its link is in L0. -/
def State.doorbell (s : State) (h : Nat) (f : State → State) : State :=
  if s.headExists h && s.headUp h then f s else s

/-- SQ_TAIL_WRITE (R63, R64): a tail that does not advance has no effect. -/
def execSqTailWrite (h q val : Nat) (s : State) : Answer :=
  .next (s.begin.doorbell h fun t =>
    let x := t.queue q
    if !t.ownsQueue h q || x.state != 1 then t.foreign h
    else if x.depth ≤ val then t.queueError q 1
    else if (x.sqTail + x.depth - x.sqHead) % x.depth < (val + x.depth - x.sqHead) % x.depth then t.setQueue q { x with sqTail := val }
    else t)

/-- CQ_HEAD_WRITE (R63, R64): releases every slot before the new head; a backward value is counted as stale. -/
def execCqHeadWrite (h q val : Nat) (s : State) : Answer :=
  .next (s.begin.doorbell h fun t =>
    let x := t.queue q
    if !t.ownsQueue h q || !(x.state == 1 || x.state == 2) then t.foreign h
    else if x.depth ≤ val then t.queueError q 2
    else
      let n := (val + x.depth - x.cqHead) % x.depth
      if x.ring.length < n then t.bumpi F.QUE_ERRC_STALE h
      else t.setQueue q { x with cqHead := val, ring := x.ring.drop n })

/-- INL_TAG_WRITE (R65). -/
def execInlTagWrite (h q val : Nat) (s : State) : Answer :=
  .next (s.begin.doorbell h fun t =>
    let x := t.queue q
    if !t.ownsQueue h q || x.state != 1 then t.foreign h
    else t.setQueue q { x with inlTag := some val })

/-- R65: an inline commit word is captured with its tag. Of several faults of one word the first of NO_TAG, ADMIN_ONLY, RESERVED_SET and
BAD_OPCODE is reported: the spec gives them no order (DESIGN CHOICE, log 182). -/
def State.captureInline (s : State) (q : Nat) (tag : Option Nat) (w : Nat) : State :=
  let kind := natField w 62 2
  let level := natField w 60 2
  let share := natField w 54 6
  let off := natField w 22 32 * 4096
  let len := (natField w 2 20 + 1) * 4096
  let bad := fun (rs tg : Nat) => let (r, t) := s.newTicket q tg .admin level share false true; r.finish t 6 rs 0
  match tag with
  | none => bad 5 0
  | some tg =>
    if (s.queue q).admin then bad 3 tg
    else if natField w 0 2 != 0 then bad 2 tg
    else if kind = 1 then s.captureCommit q tg share level off len false true
    else if kind = 2 then s.captureFence q tg share level false false true
    else if kind = 3 then s.takeProbe q tg share level off len false true
    else bad 1 tg

/-- R61, R62, R65, R77: an inline commit of an ACTIVE queue can be captured: R61 permits it, and so does the pool: a commit that would need a
context while the common pool is exhausted stays in the doorbell page (DESIGN CHOICE, log 183: the spec says of an exhausted pool only that
nothing is fetched). -/
def State.inlineOpen (s : State) (q : Nat) (tag : Option Nat) (w : Nat) : Bool :=
  (s.queue q).state == 1 && !(s.queue q).paused && s.hasRoom q && decide ((s.captureInline q tag w).commonUsed ≤ 1048320)

/-- R65: the commit held in the doorbell page of queue q is captured, if it can be. -/
def State.releaseInline (s : State) (q : Nat) : State :=
  match (s.queue q).held with
  | none => s
  | some (tg, w) => if s.inlineOpen q tg w then (s.setQueue q { s.queue q with held := none }).captureInline q tg w else s

/-- INL_CMD_WRITE (R65): the commit is captured, or held while R61 does not permit it; a second one held is an overrun. -/
def execInlCmdWrite (h q : Nat) (tag : Option Nat) (val : Nat) (s : State) : Answer :=
  .next (s.begin.doorbell h fun t =>
    let x := t.queue q
    if !t.ownsQueue h q || x.state != 1 then t.foreign h
    else
      let tg := match tag with | some v => some v | none => x.inlTag
      if x.held.isSome then t.queueError q 5
      else
        let t := t.setQueue q { x with inlTag := none }
        if t.inlineOpen q tg val then t.captureInline q tg val
        else t.setQueue q { t.queue q with held := some (tg, val) })

/-- INLINE_COMMIT_RELEASE (R65): a held inline commit is captured once R61 permits. -/
def execInlineCommitRelease (q : Nat) (s : State) : Answer := .next (s.begin.releaseInline q)

/-- INTERRUPT_AGGREGATION_TIMEOUT (R79): AGGT µs passed since the oldest unsignalled completion. -/
def execInterruptAggregationTimeout (q : Nat) (s : State) : Answer :=
  let t := s.begin
  let x := t.queue q
  if x.ien && x.aggt != 0 && x.unsig != 0 && x.posting then .next (t.signalQueue q) else .next t

/-! ### Admin operations (R74 to R76, R85) -/

/-- R74: an admin operation on the admin queue of head h: its entry is taken and its effect follows with its ticket. -/
def State.adminOp (s : State) (h tag share : Nat) (f : State → Ticket → State) : State :=
  let q := s.adminQueue h
  if s.ownsQueue h q && (s.queue q).admin then
    s.takeEntry q fun t => let (r, k) := t.newTicket q tag .admin 0 share false false; f r k
  else s

/-- R15, R74: an admin operation that needs the MP waits while it restarts, with the SHARE, LEVEL and U of its descriptor. It does not hold back the
admin entries after it, and takes its sequence when it starts: the spec gives the order of neither (DESIGN CHOICE, log 185). -/
def State.adminMp (s : State) (c : Instr) (h tag share : Nat) (f : State → Ticket → State) : State :=
  if s.mpRuns then s.adminOp h tag share f
  else
    let x := s.queue (s.adminQueue h)
    let t : State := { s with mpWait := s.mpWait ++ [(h, c, x.submitted)] }
    if x.submitted.isSome then t.setQueue (s.adminQueue h) { x with submitted := none } else t

/-- R15: the first command that waits for the MP starts again, with what its descriptor gave. -/
def State.unwait (s : State) (h : Nat) (sub : Option (Nat × Nat × Bool)) : State :=
  let t : State := { s with mpWait := s.mpWait.drop 1 }
  let q := t.adminQueue h
  if sub.isSome && h < 16 && t.canTake q then t.setQueue q { t.queue q with submitted := sub } else t

/-- R76: q is one of the I/O queues of head h. -/
def State.ioQueueOf (s : State) (h q : Nat) : Bool := s.ownsQueue h q && q != s.adminQueue h

/-- R76: a queue created with its configuration in the layout of QUE_Q_CFG. -/
def newQueue (h : Nat) (admin : Bool) (depth sqb cqb vec aggc aggt : Nat) (ien ldpol : Bool) : Queue :=
  { state := 1, head := h, admin := admin, depth := depth, sqBase := sqb, cqBase := cqb, vec := vec, aggc := aggc, aggt := aggt,
    ien := ien, ldpol := ldpol }

/-- QUEUE_CREATE's effect (R74, R76). -/
def State.queueCreate (s : State) (h : Nat) (k : Ticket) (qid sqb cqb cfg : Nat) : State :=
  if !s.ioQueueOf h qid then s.finish k 5 1 0
  else if (s.queue qid).state != 0 then s.finish k 4 8 0
  else if sqb % 4096 != 0 || cqb % 4096 != 0 || natField cfg 0 16 == 0 || natField cfg 40 11 == 0 then s.finish k 6 6 0
  else
    (s.setQueue qid (newQueue h false (natField cfg 0 16 + 1) sqb cqb (natField cfg 40 11) (natField cfg 24 8) (natField cfg 32 8)
      (natBit cfg 58) (natBit cfg 59))).finish k 0 0 0

/-- QUEUE_CREATE (R76). -/
def execQueueCreate (h tag qid sqb cqb cfg : Nat) (s : State) : Answer :=
  .next (s.begin.adminOp h tag 0 fun t k => t.queueCreate h k qid sqb cqb cfg)

/-- R76: open tickets of a queue complete ABORTED and the queue becomes DISABLED. -/
def State.deleteQueue (s : State) (q : Nat) : State :=
  let r := s.dropHeld q
  let r := (r.setQueue q { r.queue q with state := 3 }).abortQueue q
  r.setQueue q { r.queue q with state := 0, ring := [], inlTag := none, barrier := none, unsig := 0 }

/-- QUEUE_DELETE's effect (R76). -/
def State.queueDelete (s : State) (h : Nat) (k : Ticket) (qid : Nat) : State :=
  if !s.ioQueueOf h qid then s.finish k 5 1 0
  else if (s.queue qid).state = 0 then s.finish k 0 0 0
  else if (s.queue qid).state = 3 then s.finish k 4 8 0
  else
    let n := (s.tickets.filter fun t => t.qid == qid && t.outcome.isNone).length
    (s.deleteQueue qid).finish k 0 0 n

/-- QUEUE_DELETE (R76). -/
def execQueueDelete (h tag qid : Nat) (s : State) : Answer :=
  .next (s.begin.adminOp h tag 0 fun t k => t.queueDelete h k qid)

/-- R85: the records of a kind available to head h. -/
def State.reportRecs (s : State) (h kind : Nat) : List (List Nat) :=
  if kind = 0 then (s.report.fronts.filter fun f => f.head == h).map Frontier.words
  else (s.report.losses.filter fun l =>
      let g := natField (FMap.get 0 s.report.grants l.share) (2 * h) 2
      g == 1 || g == 2).map LossRec.words

/-- R85: the report's header. -/
def State.reportHeader (s : State) (kind total count start : Nat) : List Nat :=
  [total % 2 ^ 32 * 2 ^ 32 + s.report.source % 8 * 2 ^ 10 + bit01 s.report.ovf * 2 ^ 9 + bit01 s.report.trunc * 2 ^ 8 + kind % 256,
   s.report.gen, count % 2 ^ 32 * 2 ^ 32 + start % 2 ^ 32, s.report.xunits]

/-- REPORT_READ's effect (R85). -/
def State.reportRead (s : State) (h : Nat) (k : Ticket) (kind first buf len : Nat) : State :=
  if buf % 32 != 0 || len % 32 != 0 || len < 64 then s.finish k 6 6 0
  else
    let all := s.reportRecs h (kind % 2)
    let recs := (all.drop first).take (len / 32 - 1)
    (s.send (.hostWrite h buf (s.reportHeader (kind % 2) all.length recs.length first ++ recs.flatten))).finish k 0 0 recs.length

/-- REPORT_READ (R85). -/
def execReportRead (h tag kind first buf len : Nat) (s : State) : Answer :=
  .next (s.begin.adminOp h tag 0 fun t k => t.reportRead h k kind first buf len)

/-- QUE_ACTL_WRITE (R57, R59, R86): EN written 1 enables the admin queue of a head that owns queues; that write is ignored while the ticket engine is
not ready. EN written 0 deletes it and unlocks the ring registers; while EN is 1 the other fields keep their values. For a head that owns no queue EN
has no effect (DEDUCED from R57, log 187). -/
def execQueActlWrite (h val : Nat) (s : State) : Answer :=
  let t := s.begin
  if !t.headExists h then .next t
  else
    let en := natBit val 63
    let on := t.flagi F.QUE_ACTL_EN h
    if !t.ownsQueue h (t.adminQueue h) || (en && !natBit (t.rd F.GEN_READY_BITS) 13) then .next t
    else if on then
      if en then .next t
      else .next ((t.deleteQueue (t.adminQueue h)).wri F.QUE_ACTL_EN h 0)
    else
      let t := ((((t.wri F.QUE_ACTL_AGGT h (natField val 48 8)).wri F.QUE_ACTL_AGGC h (natField val 40 8)).wri F.QUE_ACTL_IEN h
        (natField val 35 1)).wri F.QUE_ACTL_VEC h (max 1 (natField val 24 11))).wri F.QUE_ACTL_DEPTHM1 h (max 1 (natField val 0 12))
      if en then
        .next ((t.setQueue (t.adminQueue h) (newQueue h true (t.rdi F.QUE_ACTL_DEPTHM1 h + 1) (t.rdi F.QUE_ASQB_ADDR h * 4096)
          (t.rdi F.QUE_ACQB_ADDR h * 4096) (t.rdi F.QUE_ACTL_VEC h) (t.rdi F.QUE_ACTL_AGGC h) (t.rdi F.QUE_ACTL_AGGT h)
          (t.flagi F.QUE_ACTL_IEN h) false)).wri F.QUE_ACTL_EN h 1)
      else .next t

/-- MSIX_VECTOR_UNMASK (R407): a vector, or the whole function, is unmasked and what was pending is sent. -/
def execMsixVectorUnmask (h : Nat) (vec : Option Nat) (s : State) : Answer :=
  let t := s.begin
  let x := t.head h
  match vec with
  | some v =>
    let t := t.setHead h { x with unmasked := if x.unmasked.contains v then x.unmasked else v :: x.unmasked
                                  msixPend := x.msixPend.filter (· != v) }
    .next (if x.msixPend.contains v then t.msix h v else t)
  | none =>
    let ready := x.msixPend.filter fun v => x.unmasked.contains v
    let t := t.setHead h { x with fmask := false, msixPend := x.msixPend.filter fun v => !x.unmasked.contains v }
    .next (ready.foldl (fun a v => a.msix h v) t)

end Sys2Proof.Machine
end

