-- ==== Sys2Proof/Machine/Shares.lean ====
section
/-! DEFINITION. The share operations (R21, R26, R30 to R34, R75): create, mode change, full-sync commit, delete, settings, and
definition through SHR_CFG_n. -/

namespace Sys2Proof.Machine

/-- R22, R34: host-visible capacity in 256 MiB units. -/
def State.visible (s : State) : Nat := s.rd F.SHR_CAP_VISIBLE

/-- R21: a share of base and size in bytes fits: both multiples of 256 MiB, the size not zero, wholly below the host-visible
capacity and overlapping no other defined share than n. -/
def State.fits (s : State) (n base size : Nat) : Bool :=
  base % 2 ^ 28 == 0 && size % 2 ^ 28 == 0 && size != 0 && decide (base + size ≤ s.visible * 2 ^ 28) &&
    !((List.range 64).any fun m => m != n && s.shDefined m &&
      decide (base < s.shHi m * 4096) && decide (s.shLo m * 4096 < base + size))

/-- R388, R389: persistence is admitted. -/
def State.admitted (s : State) : Bool := s.flag F.GEN_ADMIT_ADMITTED

/-- R32, R74: a share operation is refused with a reason. -/
def State.refuseShare (s : State) (k : Ticket) (n why : Nat) : State := (s.wri F.SHR_STATUS_REFUSE n why).finish k 4 why 0

/-- R351: a share takes a new KGEN, with no owner. -/
def State.newKgen (s : State) (n : Nat) : State :=
  { s.skipDrbg with sec := { s.sec with keyw := FMap.put s.sec.keyw n (s.drbgVal % 2 ^ 40) } }

/-- R34: the registers of share n take a base, size, configuration and grants. -/
def State.setShareRegs (s : State) (n base size wtcap rpri hot mode grants : Nat) : State :=
  (((((((s.wri F.SHR_BASE_ADDR n (base / 2 ^ 28)).wri F.SHR_SIZE_ADDR n (size / 2 ^ 28)).wri F.SHR_CFG_WT_CAP n wtcap).wri
    F.SHR_CFG_RPRI n rpri).wri F.SHR_CFG_HOT n hot).wri F.SHR_CFG_MODE n mode).wri F.SHR_HEADS_GRANT n grants).wri F.SHR_CFG_EN n 1

/-- R30, R33: a share becomes defined in a mode with zero content, and is READY. -/
def State.defineShare (s : State) (n mode : Nat) : State :=
  let t := s.newKgen n
  let t := if mode = mdVolatile then
      { t with mem := memZero t.mem (t.shLo n * 4096) (t.shHi n * 4096)
               poisoned := Segs.cut (t.shLo n * 64) (t.shHi n * 64) t.poisoned }
    else t.zeroShare n
  let t := (((t.wri F.SHR_STATUS_REFUSE n 0).wri F.SHR_EPOCH_EPOCH n 0).endChange n).setShMode n mode
  ((t.setShState n shReady).commitShare n).settleMr

/-- R208: the peer's REPLICA share counts as designated: its latest STATE shows ROLE replica, PSTATE PENDING and a PAIRID held here. -/
def State.designated (s : State) (peer size : Nat) : Option Desig :=
  s.tw.desigs.find? fun d => d.ok && d.peer == peer && (d.size == size || d.size == 0) &&
    (match FMap.find s.tw.peers d.pairid with | some p => p.role == 2 && p.pstate == psPending | none => false)

/-- R207, R209: share n takes up a designation as primary. -/
def State.takeDesig (s : State) (n : Nat) (d : Desig) (p : Nat) : State :=
  let t := { s with tw := { s.tw with desigs := s.tw.desigs.filter fun x => x.pairid != d.pairid,
                                      pairSerial := FMap.put s.tw.pairSerial n (s.rd F.TW_PEER_VALUE) } }
  t.setPair n (pairWord 1 p false false false d.peer d.pairid)

/-- R210: share n leaves its pair: its pairing word clears and its twin-map bits clear; the peer is told. -/
def State.leavePair (s : State) (n : Nat) : State :=
  let id := s.pairid n
  let ps := s.peershr n
  let t := s.wri F.TW_S_PAIR n 0
  let t := { t with tw := { t.tw with
    mapCur := Segs.cut (t.shLo n) (t.shHi n) t.tw.mapCur, mapPrev := Segs.cut (t.shLo n) (t.shHi n) t.tw.mapPrev,
    catchups := t.tw.catchups.filter (· != n), syncs := t.tw.syncs.filter (· != n),
    catchEnd := FMap.del t.tw.catchEnd n, joinSeq := FMap.del t.tw.joinSeq n, pairSerial := FMap.del t.tw.pairSerial n,
    copying := (match t.tw.copying with | some (m, f) => if m = n then none else some (m, f) | none => none) } }
  if id = 0 ∧ ps = 0 then t else t.tellGone n id ps

/-- R30, R32: SHARE_CREATE's effect: a refusal with the first cause that applies, or the share defined. -/
def State.shareCreate (s : State) (k : Ticket) (n base size cfg grants : Nat) (peer : Option Nat) : State :=
  let mode := natField cfg 0 3
  if s.phase ≠ phService then s.refuseShare k n 11
  else if s.changing n || s.removing then s.refuseShare k n 8
  else if s.shDefined n then s.refuseShare k n 5
  else if !(mode == 0 || mode == 1 || mode == 2 || mode == 4) then s.refuseShare k n 5
  else if !s.fits n base size then s.refuseShare k n 10
  else if mode != 0 && !s.admitted then s.refuseShare k n 7
  else
    let r := s.setShareRegs n base size (natField cfg 32 8) (natField cfg 20 3) (natField cfg 16 1) mode grants
    if mode ≠ mdTwined then (r.defineShare n mode).finish k 0 0 0
    else if !s.session then s.refuseShare k n 2
    else match peer.bind fun p => s.designated p size with
      | none => s.refuseShare k n 3
      | some d =>
        let clear := match FMap.find s.tw.peers d.pairid with | some p => !p.incons | none => false
        if !clear then s.refuseShare k n 3
        else
          let r := (r.takeDesig n d psLive).defineShare n mode
          (r.sendSeq 0x22 [d.peer]).finish k 0 0 0

/-- R14, R218: a pairing change asked for while SP3 is absent waits for it. -/
def State.pairLater (s : State) (k : Ticket) (c : Instr) : State :=
  let t := s.keepTicket { k with op := 0x5F }
  { t with tw := { t.tw with later := t.tw.later ++ [c] } }

/-- The admin operation of a tag on share n that waits for SP3. -/
def State.pairOp (s : State) (n tag : Nat) : Option Ticket :=
  s.tickets.find? fun k => k.kind == .admin && k.share == n && k.tag == tag && k.op == 0x5F && k.outcome.isNone

/-- A ticket that waited gives back its context as its operation begins. -/
def State.takeBack (s : State) (k : Ticket) : State :=
  { s with tickets := s.tickets.filter fun t => !(t.qid == k.qid && t.seq == k.seq) }

/-- SHARE_CREATE (R14, R30). -/
def execShareCreate (h tag n base size cfg grants : Nat) (peer : Option Nat) (s : State) : Answer :=
  .next (s.whenDrbg (.shareCreate h tag n base size cfg grants peer)
    (s.begin.adminOp h tag n fun t k =>
      if natField cfg 0 3 = mdTwined ∧ t.spRuns 3 = false then t.pairLater k (.shareCreate h tag n base size cfg grants peer)
      else t.shareCreate k n base size cfg grants peer))

/-- R30: the mode changes SHARE_MODE makes, from and to. -/
def modeChange (a b : Nat) : Bool :=
  [(0, 1), (1, 0), (1, 2), (2, 1), (3, 0), (1, 4), (4, 1)].contains (a, b)

/-- R30: the commit of a mode change: mode in force, register, epoch and share table. -/
def State.commitMode (s : State) (n mode : Nat) : State :=
  (((s.wri F.SHR_CFG_MODE n mode).setShMode n mode).commitShare n).settleMr

/-- R30, R68, R212: a TWINED share becomes HELD: UNPAIR tells the peer its replica is stale. Tickets in flight wait on the sequence they already wait
for; one whose catch-up never ended has lines the peer was not sent, so it completes only under peer loss (DEDUCED, log 193). -/
def State.untwine (s : State) (n : Nat) : State :=
  let r := if s.session then s.sendSeq 0x23 [s.peershr n] else s
  (r.leavePair n).commitMode n mdHeld

/-- R30 to R32: SHARE_MODE's effect. -/
def State.shareMode (s : State) (k : Ticket) (n target : Nat) (peer : Option Nat) : State :=
  let m := s.shMode n
  if !s.shDefined n then s.finish k 5 1 0
  else if s.phase ≠ phService then s.refuseShare k n 11
  else if s.changing n || s.removing then s.refuseShare k n 8
  else if !modeChange m target then s.refuseShare k n 5
  else if s.shState n ≠ shReady then s.refuseShare k n 6
  else if m = 0 then
    if !s.admitted then s.refuseShare k n 7 else (((s.newKgen n).zeroShare n).commitMode n target).finish k 0 0 0
  else if target = 0 ∧ m = mdHeld then
    if s.ticketsOn n then s.refuseShare k n 1 else ((s.releaseShare n).commitMode n target).finish k 0 0 0
  else if target = 0 then
    if s.pstate n = psLost ∨ s.pstate n = psStale ∨ s.role n = 0 ∨ s.rd F.TW_PAIR_STATE = 4 then
      (((s.releaseShare n).leavePair n).commitMode n target).finish k 0 0 0
    else s.refuseShare k n 5
  else if target = mdTwined then
    if !s.session then s.refuseShare k n 2
    else match peer.bind fun p => s.designated p (s.rdi F.SHR_SIZE_ADDR n * 2 ^ 28) with
      | none => s.refuseShare k n 3
      | some d =>
        if (List.range 64).any fun j => s.shState j == shSyncing then s.refuseShare k n 9
        else
          let r := (((s.takeDesig n d psSync).wri F.SHR_STATUS_TARGET n target).wri F.SHR_STATUS_PROG n 0).setShState n shSyncing
          let r := { r with tw := { r.tw with syncs := n :: r.tw.syncs } }
          (r.keepTicket { k with op := 0x51 }).copyNext
  else if m = mdTwined then (s.untwine n).finish k 0 0 0
  else (s.commitMode n target).finish k 0 0 0

/-- SHARE_MODE (R14, R30). -/
def execShareMode (h tag n target : Nat) (peer : Option Nat) (s : State) : Answer :=
  .next (s.whenDrbg (.shareMode h tag n target peer) (s.begin.adminOp h tag n fun t k =>
    if (target = mdTwined ∨ t.shMode n = mdTwined ∨ t.shMode n = mdReplica) ∧ t.spRuns 3 = false then
      t.pairLater k (.shareMode h tag n target peer)
    else t.shareMode k n target peer))

/-- R74: the admin operation of a code in progress on a share. -/
def State.inProgress (s : State) (n op : Nat) : Option Ticket :=
  s.tickets.find? fun t => t.kind == .admin && t.share == n && t.op == op && t.outcome.isNone

/-- R220: a catch-up or full sync has ended: event 0x7005 with its units and duration. -/
def State.copyEnded (s : State) (n : Nat) : State :=
  let c := FMap.get (0, s.ck.mono) s.tw.copied n
  State.event { s with tw := { s.tw with copied := FMap.del s.tw.copied n } } 0x7005 [n, c.1, s.ck.mono - c.2]

/-- FULL_SYNC_COMMIT (R14, R209): the acknowledged sequence has reached JOIN: the share becomes TWINED and LIVE, by SP3. -/
def execFullSyncCommit (n : Nat) (s : State) : Answer :=
  let t := s.begin
  match FMap.find t.tw.joinSeq n with
  | none => .next t
  | some q =>
    if t.pstate n = psSync ∧ q ≤ t.rd F.TW_ASEQ_VALUE ∧ t.spRuns 3 = true then
      let r := { t with tw := { t.tw with joinSeq := FMap.del t.tw.joinSeq n } }
      let r := (((r.setPstate n psLive).setLossrep n false).endChange n).setShState n shReady
      let r := (r.commitMode n mdTwined).copyEnded n
      match r.inProgress n 0x51 with
      | some k => .next (r.finish k 0 0 0)
      | none => .next r
    else .next t

/-- R40, R157, R161: the range of share n is nothing restore waits for any more: its units leave the restore map, lines that waited in ingress for
them are discarded, and reads that waited are answered with poison, as R40 answers a read of no share (DEDUCED, log 220). -/
def State.leaveRestore (s : State) (n : Nat) : State :=
  let out := fun u => decide (u < s.shLo n) || decide (s.shHi n ≤ u)
  let gone := s.rs.fetches.filter fun e => !out e.1
  let t : State := { s with rs := { s.rs with rmap := Segs.cut (s.shLo n) (s.shHi n) s.rs.rmap
                                              fetches := s.rs.fetches.filter fun e => out e.1
                                              waits := s.rs.waits.filter fun w => out (w.line / 64)
                                              handed := s.rs.handed.filter out
                                              injected := s.rs.injected.filter fun l => out (l / 64) } }
  let t := (gone.flatMap fun e => e.2.readers).foldl (fun (a : State) r => a.answerPoison r.1) t
  if gone.isEmpty then t else t.sendFetches.wr F.SPN_FETCH_PEND t.rs.fetches.length

/-- R30: share n becomes undefined, its range unassigned and its DRAM zero. -/
def State.undefineShare (s : State) (n : Nat) : State :=
  let t := s.leaveRestore n
  let t := if t.counted n then t.releaseShare n else t
  let t := if s.role n = 0 then t else t.leavePair n
  let t := { t with mem := memZero t.mem (t.shLo n * 4096) (t.shHi n * 4096)
                    poisoned := Segs.cut (t.shLo n * 64) (t.shHi n * 64) t.poisoned
                    sec := { t.sec with keyw := FMap.del t.sec.keyw n } }
  let t := ((t.setShState n shUndefined).setShMode n 0).commitShare n
  let t := (((((((t.wri F.SHR_BASE_ADDR n 0).wri F.SHR_SIZE_ADDR n 0).wri F.SHR_CFG_EN n 0).wri F.SHR_CFG_WT_CAP n 0x10).wri
    F.SHR_CFG_RPRI n 3).wri F.SHR_CFG_HOT n 0).wri F.SHR_CFG_MODE n 0).wri F.SHR_HEADS_GRANT n 0
  ((t.wri F.SHR_EPOCH_EPOCH n 0).wri F.SHR_STATUS_REFUSE n 0).settleMr

/-- SHARE_DELETE's effect (R30, R32). -/
def State.shareDelete (s : State) (k : Ticket) (n : Nat) : State :=
  let m := s.shMode n
  if !s.shDefined n then s.finish k 5 1 0
  else if s.phase ≠ phService then s.refuseShare k n 11
  else if s.changing n || s.removing then s.refuseShare k n 8
  else if !(m == mdVolatile || m == mdHeld || m == mdWritethru) then s.refuseShare k n 5
  else if ! [shPending, shRestoring, shHot, shReady].contains (s.shState n) then s.refuseShare k n 6
  else if s.ticketsOn n then s.refuseShare k n 1
  else (s.undefineShare n).finish k 0 0 0

/-- SHARE_DELETE (R30). -/
def execShareDelete (h tag n : Nat) (s : State) : Answer :=
  .next (s.begin.adminOp h tag n fun t k => t.shareDelete k n)

/-- SHARE_SET's effect (R75): grants when flag bit 0 is set; WT_CAP, RPRI and HOT when bit 1 is. -/
def State.shareSet (s : State) (k : Ticket) (n flags cfg grants : Nat) : State :=
  if !s.serving then s.refuseShare k n 11
  else if !s.shDefined n then s.finish k 5 1 0
  else
    let t := if natBit flags 0 then s.wri F.SHR_HEADS_GRANT n grants else s
    let t := if natBit flags 1 then
        ((t.wri F.SHR_CFG_WT_CAP n (natField cfg 32 8)).wri F.SHR_CFG_RPRI n (natField cfg 20 3)).wri F.SHR_CFG_HOT n (natField cfg 16 1)
      else t
    t.settleMr.finish k 0 0 0

/-- SHARE_SET (R75). -/
def execShareSet (h tag n flags cfg grants : Nat) (s : State) : Answer :=
  .next (s.begin.adminOp h tag n fun t k => t.shareSet k n flags cfg grants)

/-- R34: a write of SHR_CFG_n with EN 1 defines the share and locks its registers, or is refused with a reason; while EN is 1 the write
has no effect. -/
def State.cfgWrite (t : State) (n val : Nat) : State :=
  if t.flagi F.SHR_CFG_EN n then t
  else
    let mode := natField val 0 3
    let t := (((t.wri F.SHR_CFG_WT_CAP n (natField val 32 8)).wri F.SHR_CFG_RPRI n (natField val 20 3)).wri F.SHR_CFG_HOT n
      (natField val 16 1)).wri F.SHR_CFG_MODE n mode
    let base := t.rdi F.SHR_BASE_ADDR n * 2 ^ 28
    let size := t.rdi F.SHR_SIZE_ADDR n * 2 ^ 28
    if !natBit val 63 then t
    else if t.phase ≠ phService then t.wri F.SHR_STATUS_REFUSE n 11
    else if t.removing then t.wri F.SHR_STATUS_REFUSE n 8
    else if !(mode == 0 || mode == 1 || mode == 4) then t.wri F.SHR_STATUS_REFUSE n 5
    else if !t.fits n base size then t.wri F.SHR_STATUS_REFUSE n 10
    else if mode != 0 && !t.admitted then t.wri F.SHR_STATUS_REFUSE n 7
    else (t.wri F.SHR_CFG_EN n 1).defineShare n mode

/-- SHR_CFG_EN_WRITE (R34). -/
def execShrCfgEnWrite (n val : Nat) (s : State) : Answer := .next (s.whenDrbg (.shrCfgEnWrite n val) (s.begin.cfgWrite n val))

end Sys2Proof.Machine
end

