-- ==== Sys2Proof/Machine/Twine.lean ====
section
/-! DEFINITION. Twine: ports, sessions, reunion, the stream in both directions, sequenced messages, designation, the copy engine,
peer loss and PROMOTE (R196 to R219). -/

namespace Sys2Proof.Machine

/-! ### Peer loss (R31, R213) -/

/-- R31: the full sync of share n is abandoned: it stays HELD, and outside a Save its operation completes TWIN_ABSENT. -/
def State.dropSync (s : State) (n : Nat) (save : Bool) : State :=
  let t := ((s.wri F.TW_S_PAIR n 0).tellGone n (s.pairid n) (s.peershr n)).endChange n
  let t := t.setShState n shReady
  let t : State := { t with tw := { t.tw with syncs := t.tw.syncs.filter (· != n), joinSeq := FMap.del t.tw.joinSeq n
                                              mapCur := Segs.cut (t.shLo n) (t.shHi n) t.tw.mapCur
                                              mapPrev := Segs.cut (t.shLo n) (t.shHi n) t.tw.mapPrev } }
  match t.inProgress n 0x51 with
  | some k => if save then t else t.finish k 1 0 0
  | none => t

/-- R209, R213: what becomes of share n when the peer is lost. -/
def State.shareLost (s : State) (n : Nat) (save : Bool) : State :=
  let p := s.pstate n
  if s.role n = 1 ∧ p = psSync then s.dropSync n save
  else if s.role n = 1 ∧ (p = psLive ∨ p = psCatchup) then
    let t := s.setPstate n psLost
    if save then t else t.twinAbsent n
  else if s.role n = 2 ∧ s.tw.syncIn.contains n then s.setPstate n psPending
  else if s.role n = 2 ∧ (p = psLive ∨ p = psCatchup) then s.setPstate n psLost
  else s

/-- The stream stops: nothing waits outbound or half received, and the copy engine is idle. -/
def State.stopStream (s : State) : State :=
  let t : State := { s with tw := { s.tw with q0 := [], q1 := [], inbox := [], relWait := [], held := [], copying := none, left := [], catchups := [], syncs := [],
                                              catchEnd := [], joinSeq := [], copied := [], inLinks := 0, offered := none, reunited := false } }
  (((t.wr F.TW_COPY_KIND 0).wr F.TW_COPY_WAIT 0).wr F.TW_COPY_PROG 0).wr F.TW_PAIR_LINKS 0

/-- R212: TWINED tickets of shares that have become HELD complete TWIN_ABSENT under peer loss. -/
def State.formerTwined (s : State) : State :=
  (s.tickets.filter fun t => t.kind == .commit && t.level == 2 && t.outcome.isNone && s.shMode t.share != mdTwined).foldl
    (fun a t => a.finish t 1 0 0) s

/-- R213: the pair becomes LOST, by cause 0 timeout, 1 SAVING received, 2 SAVING sent. -/
def State.pairLost (s : State) (cause : Nat) : State :=
  let t := s.stopStream.wr F.TW_PAIR_STATE 4
  let t := t.forEach (List.range 64) fun a n => a.shareLost n (cause == 2)
  let t := if cause = 2 then t else t.formerTwined
  let t : State := { t with tw := { t.tw with syncIn := [], lossDue := none } }
  ((t.bump F.TW_CNT_LOSS).event 0x7004 [cause]).updReady

/-- R14, R213: the transition to LOST waits while SP3 is absent. -/
def State.peerLoss (s : State) (cause : Nat) : State :=
  if s.spRuns 3 then s.pairLost cause else { s with tw := { s.tw with lossDue := some cause } }

/-- R114, R201, R218: at a Save's Twine quiesce a last MARK and SAVING go out on every link and the pair becomes LOST. -/
def State.twineSave (s : State) : State :=
  let q := s.rd F.TW_OSEQ_VALUE
  let t := s.sendMarks
  let t := if t.linkIn 0 then t.send (.twine 0x13 0 [q]) else t
  let t := if t.linkIn 1 then t.send (.twine 0x13 1 [q]) else t
  let st := s.rd F.TW_PAIR_STATE
  if st = 1 ∨ st = 2 ∨ st = 3 then t.pairLost 2 else t

/-! ### Sequenced messages received (R202, R203, R206) -/

/-- R202: P: the least last MARK over the links, held below every sequenced message that has not taken effect. -/
def State.prefixNow (s : State) : Nat :=
  let m := if s.tw.inLinks = 3 then min s.tw.mark0 s.tw.mark1 else if s.tw.inLinks = 2 then s.tw.mark1 else s.tw.mark0
  (s.tw.inbox.filter fun i => !i.done).foldl (fun a i => min a (i.seq - 1)) m

/-- R202: P advances, TW_ISEQ reads it, and an ACK carries it. -/
def State.advance (s : State) : State :=
  let p := s.prefixNow
  if s.rd F.TW_ISEQ_VALUE < p then
    let t := (s.wr F.TW_ISEQ_VALUE p).send (.twine 0x11 s.sessionPort [p, s.rd F.TW_PAIR_SESSION])
    { t with tw := { t.tw with inbox := t.tw.inbox.filter fun i => decide (p < i.seq) } }
  else s

/-- R200: an inbound write is accepted: a REPLICA share whose word has ROLE replica and PSTATE PENDING, LIVE or CATCHUP, whose PAIRID belongs
to the current peer, wholly within its size. -/
def State.acceptsWrite (s : State) (n off len : Nat) : Bool :=
  s.shDefined n && s.shMode n == mdReplica && s.role n == 2 &&
    [psPending, psLive, psCatchup].contains (s.pstate n) &&
    FMap.get 0 s.tw.pairSerial n == s.rd F.TW_PEER_VALUE && decide (off + len ≤ s.rdi F.SHR_SIZE_ADDR n * 2 ^ 28)

/-- R200: the lines of an accepted write enter ingress in order. -/
def State.applyWrite (s : State) (w : InWrite) : State :=
  if s.acceptsWrite w.share (w.line * 64) (w.lines.length * 64) then
    let base := s.shLo w.share * 64 + w.line
    (((List.range w.lines.length).zip w.lines).foldl (fun (a : State) p =>
      (a.markUnit ((base + p.1) / 64) (some w.port)).ingressLine 16 (base + p.1) p.2.1 (BitVec.allOnes 64) p.2.2) s).settleMr
  else
    let t := s.bump F.TW_CNT_DISC
    if (match s.tw.refusedAt with | some a => decide (s.ck.mono < a + 1000000000) | none => false) then t
    else State.event { t with tw := { t.tw with refusedAt := some s.ck.mono } } 0x7008 [w.share, w.line * 64]

/-- R203: a copy of a sequenced message is noted: it has come on the links given. -/
def State.noteCopy (s : State) (bits seq ty : Nat) (ws : List Nat) : State :=
  { s with tw := { s.tw with inbox := match s.tw.inbox.find? fun i => i.seq == seq with
      | some i => s.tw.inbox.map fun x => if x.seq == seq then { i with links := Nat.lor i.links bits } else x
      | none => s.tw.inbox ++ [{ seq := seq, ty := ty, words := ws, links := bits, done := false }] } }

/-- R97, R203: a copy of a RELEASE: the first loads a walk register, and each arms KEEP for its link; with no register free the copy waits and its
link gets no credits; the wait is recorded once a register is free (R109). -/
def State.releaseCopy (s : State) (p seq share units first : Nat) : State :=
  match s.walks.find? fun w => w.2.twine && w.2.seq == seq with
  | some (r, w) =>
    State.noteCopy { s with walks := FMap.put s.walks r { w with links := natSetBit w.links p } } (2 ^ p) seq 0x12 [share, units, first]
  | none =>
    match s.freeWalk, FMap.find s.tw.relWait seq with
    | none, some e => { s with tw := { s.tw with relWait := FMap.put s.tw.relWait seq (e.1, natSetBit e.2 p) } }
    | none, none => { s with tw := { s.tw with relWait := FMap.put s.tw.relWait seq (s.ck.mono, 2 ^ p) } }
    | some r, e =>
      let t : State := match e with
        | some e => State.event { s with tw := { s.tw with relWait := FMap.del s.tw.relWait seq } } 0x3007 [0xFFFF, share, s.ck.mono - e.1]
        | none => s
      let lo := t.shLo share + first
      let w : Walk := { share := share, lo := lo, hi := min (lo + units) (t.shHi share), qid := 0, seq := seq, twine := true, links := 2 ^ p }
      State.noteCopy { t with walks := FMap.put t.walks r w } (2 ^ p) seq 0x12 [share, units, first]

/-- R203: what arrived on a joining link applies, in order. -/
def State.applyHeld (s : State) (i : JoinItem) : State :=
  match i with
  | .write w => s.applyWrite w
  | .release p seq share units first => s.releaseCopy p seq share units first

/-- R203, R206: a sequenced message takes effect. -/
def State.takeMessage (s : State) (m : InMsg) : State :=
  let n := m.words.headD 0
  if m.ty = 0x04 then
    let l := s.tw.held
    l.foldl State.applyHeld { s with tw := { s.tw with inLinks := s.rd F.TW_PAIR_LINKS, held := [] } }
  else if m.ty = 0x12 ∨ s.role n ≠ 2 then s
  else if m.ty = 0x22 then
    let t := (s.setPstate n psLive).setIncons n false
    ({ t with tw := { t.tw with syncIn := t.tw.syncIn.filter (· != n), fullIn := t.tw.fullIn.filter (· != n) } } : State).setLossrep n false
  else if m.ty = 0x23 then s.setPstate n psStale
  else if m.ty = 0x24 then
    let full := m.words.getD 1 0 == 1
    let t : State := { s with tw := { s.tw with syncIn := if s.pstate n = psPending then n :: s.tw.syncIn else s.tw.syncIn
                                                fullIn := if full then n :: s.tw.fullIn else s.tw.fullIn } }
    (t.setPstate n psCatchup).setIncons n true
  else
    let t := (s.setPstate n psLive).setIncons n false
    if t.tw.fullIn.contains n then
      State.setLossrep { t with tw := { t.tw with fullIn := t.tw.fullIn.filter (· != n) } } n false
    else t

/-- R203: a sequenced message whose copy has come on every link is due; SP3 carries out the pairing changes (R14). -/
def State.messageDue (s : State) (i : InMsg) : Bool :=
  !i.done && (i.links / 1) % 4 == s.rd F.TW_PAIR_LINKS && (i.ty == 0x12 || i.ty == 0x04 || s.spRuns 3)

/-- R203: messages due take effect in order of sequence. -/
def State.runInbox (s : State) : Nat → State
  | 0 => s.advance
  | k + 1 =>
    let due := s.tw.inbox.filter s.messageDue
    match due.foldl (fun a i => match a with | none => some i | some j => if i.seq < j.seq then some i else some j) none with
    | none => s.advance
    | some i =>
      let t : State := { s with tw := { s.tw with inbox := s.tw.inbox.map fun x => if x.seq == i.seq then { x with done := true } else x } }
      (t.takeMessage i).runInbox k

/-- R203: a copy of a sequenced message arrives on port p. A LINK_JOIN counts by its copy on the established link. -/
def State.copyArrived (s : State) (p seq ty : Nat) (ws : List Nat) : State :=
  if !s.session || !s.linkIn p then s
  else
    let bits := if ty = 0x04 then s.rd F.TW_PAIR_LINKS else 2 ^ p
    let t := s.noteCopy bits seq ty ws
    t.runInbox (t.tw.inbox.length + 1)

/-! ### Sessions (R196 to R199, R206) -/

/-- This controller's serial. -/
def State.serial (s : State) : Nat := s.rd F.GEN_SERIAL_SERIAL

/-- The serial last received on port p. -/
def State.peerSerial (s : State) (p : Nat) : Nat := if p = 0 then s.tw.serial0 else s.tw.serial1

/-- R198: a port's Hello has ended and its IDE stream is active where required. -/
def State.portReady (s : State) (p : Nat) : Bool :=
  p < 2 && s.rdi F.TW_PORT_STATE p == 3 && natBit s.tw.hello p && (s.flagi F.TW_PORT_IDE p || !s.flag F.TW_CTL_IDEREQ)

/-- R196: a port that reaches another controller than the peer is held. -/
def State.mismatchPort (s : State) (p : Nat) : State :=
  ((s.wri F.TW_PORT_STATE p 6).wri F.TW_PORT_MISMATCH p 1).event 0x700B [p, s.peerSerial p]

/-- R203, R199: a second link to the same peer joins: LINK_JOIN goes out and the two-link mapping begins; the pair is PAIRED. -/
def State.joinLink (s : State) (p : Nat) : State :=
  let t := s.wr F.TW_PAIR_LINKS (natSetBit (s.rd F.TW_PAIR_LINKS) p)
  ((t.sendSeq 0x04 []).wr F.TW_PAIR_STATE 1).updReady

/-- R206: the STATE messages of a session opening: one per share with a ROLE, or one with ROLE 0, LAST on the final one. -/
def State.sendStates (s : State) : State :=
  let l := (List.range 64).filter fun n => s.role n != 0
  if l.isEmpty then s.send (.twine 0x03 s.sessionPort [2 ^ 19])
  else s.forEach l fun a n => a.send (a.stateMsg n (some n == l.getLast?))

/-- R198, R199, R206: a session opens on port p: sequences restart, the peer's records begin again, and STATE messages are exchanged. -/
def State.openSession (s : State) (p n : Nat) : State :=
  let peer := s.peerSerial p
  let tw := { s.tw with q0 := [], q1 := [], mark0 := 0, mark1 := 0, inbox := [], relWait := [], held := [], inLinks := 2 ^ p, offered := none, reunited := false,
                        peers := [], catchups := [], syncs := [], copying := none, left := [], catchEnd := [], joinSeq := [], copied := [], lossDue := none,
                        mapCur := s.tw.mapPrev.foldl (fun m e => if e.2.2 then Segs.fill m e.1 e.2.1 true else m) s.tw.mapCur,
                        mapPrev := [], desigs := if peer = s.rd F.TW_PEER_VALUE then s.tw.desigs else [] }
  let t : State := { s with tw := tw }
  let t := ((t.wr F.TW_OSEQ_VALUE 0).wr F.TW_ASEQ_VALUE 0).wr F.TW_ISEQ_VALUE 0
  let t := (((t.wr F.TW_PAIR_LINKS (2 ^ p)).wr F.TW_PAIR_SESSION n).wr F.TW_PEER_VALUE peer).wr F.TW_PAIR_STATE 2
  let t := (t.event 0x7001 [peer, n, 1]).sendStates
  let o := 1 - p
  (if t.rdi F.TW_PORT_STATE o = 3 ∧ natBit t.tw.hello o = true ∧ t.peerSerial o ≠ peer then t.mismatchPort o
   else if t.portReady o then t.joinLink o else t).updReady

/-- R198: a port that is ready asks for a session when this side has the downstream personality, or joins the one that is open. The number is one
above the highest either side holds; how the peer's is learnt is left open, and it is a free value (log 79). -/
def State.tryOpen (s : State) (p : Nat) : State :=
  if !(s.serving && s.spRuns 3 && s.portReady p) then s
  else if s.session then (if s.linkIn p then s else s.joinLink p)
  else if s.rd F.TW_PAIR_PERS = 1 then
    let n := (max (s.rd F.TW_PAIR_SESSION) (s.freeVal % 2 ^ 32) + 1) % 2 ^ 32
    let t := s.skipFree
    State.send { t with tw := { t.tw with offered := some n } } (.twine 0x02 p [n])
  else s

/-- R198: a phase that opens sessions is entered. -/
def State.twineServe (s : State) : State := (s.tryOpen 0).tryOpen 1

/-- TWINE_LINK_UP (R197, R198): a port reaches L0 and begins Hello; a slower or narrower link, or one outside FLIT mode, is held down. -/
def execTwineLinkUp (p width rate : Nat) (flit : Bool) (s : State) : Answer :=
  let t := s.begin
  let st := t.rdi F.TW_PORT_STATE p
  if 2 ≤ p ∨ !natBit (t.rd F.TW_CTL_EN) p ∨ !(t.serving || t.phase == phBringup) ∨ t.flag F.GEN_PINS_PRSNT ∨ st = 3 ∨ st = 6 then .next t
  else
    let t := t.setBit F.GEN_LOCK_BLOCKS 7 true
    let lim := max 1 (if p = 0 then t.rd F.TW_CTL_MAXRATE0 else t.rd F.TW_CTL_MAXRATE1)
    let t : State := { t with tw := { t.tw with hello := natClearBit t.tw.hello p } }
    if rate = 0 ∨ flit = false ∨ ! [4, 8, 16].contains width then .next (t.wri F.TW_PORT_STATE p 6)
    else .next ((((t.wri F.TW_PORT_STATE p 3).wri F.TW_PORT_WIDTH p width).wri F.TW_PORT_RATE p (min rate lim)).wri F.TW_PORT_IDEFAIL p 0)

/-- TWINE_IDE_ACTIVE (R198, R217): the partner's certificate carries a serial: that of its HELLO, or the port is held. -/
def execTwineIdeActive (p serial : Nat) (s : State) : Answer :=
  let t := s.begin
  if p < 2 ∧ t.rdi F.TW_PORT_STATE p = 3 ∧ natBit t.tw.hello p = true then
    if serial = t.peerSerial p then .next (s.whenDrbg (.twineIdeActive p serial) ((t.skipDrbg.wri F.TW_PORT_IDE p 1).tryOpen p))
    else .next (t.wri F.TW_PORT_STATE p 6)
  else .next t

/-- R199: a link of the session goes down: the other carries everything and every TWINED share enters catch-up (the full sync of a share whose lines
waited for the link starts again: DEDUCED, log 192), or the session ends and the pair is ABSENT. -/
def State.twineDown (s : State) (p cause : Nat) : State :=
  let t := (s.wri F.TW_PORT_STATE p 5).wri F.TW_PORT_IDE p 0
  let t : State := { t with tw := { t.tw with hello := natClearBit t.tw.hello p } }
  if !t.linkIn p then t.updReady
  else if t.linkIn (1 - p) then
    let t := (t.wr F.TW_PAIR_LINKS (2 ^ (1 - p))).wr F.TW_PAIR_STATE 2
    let t : State := { t with tw := { t.tw with q0 := if p = 0 then [] else t.tw.q0, q1 := if p = 0 then t.tw.q1 else []
                                                inLinks := 2 ^ (1 - p)
                                                held := []
                                                inbox := t.tw.inbox.map fun i => { i with links := natClearBit i.links p } } }
    let t := t.event 0x7002 [p]
    let t := t.forEach (List.range 64) State.streamCut
    (t.copyNext.runInbox (t.tw.inbox.length + 1)).updReady
  else ((t.stopStream.wr F.TW_PAIR_STATE 3).event 0x7003 [cause]).updReady

/-- TWINE_LINK_DOWN (R199). -/
def execTwineLinkDown (p : Nat) (s : State) : Answer :=
  let t := s.begin
  let st := t.rdi F.TW_PORT_STATE p
  if p < 2 ∧ (st = 3 ∨ st = 4 ∨ st = 6) then
    .next (((t.wri F.TW_PORT_LOOPBACK p 0).wri F.TW_PORT_MISMATCH p 0).twineDown p 0)
  else .next t

/-- TWINE_IDE_FAIL (R217): the stream ends, the link goes down, IDEFAIL sets, IDEF counts, event 0x7007. -/
def execTwineIdeFail (p : Nat) (s : State) : Answer :=
  let t := s.begin
  if p < 2 ∧ t.flagi F.TW_PORT_IDE p = true then
    .next ((((t.wri F.TW_PORT_IDEFAIL p 1).bump F.TW_CNT_IDEF).event 0x7007 [p]).twineDown p 1)
  else .next t

/-- LOSS_TIMEOUT (R213): LOSS_TO expired while the pair is ABSENT. -/
def execLossTimeout (s : State) : Answer :=
  let t := s.begin
  if t.rd F.TW_PAIR_STATE = 3 then .next (t.peerLoss 0) else .next t

/-- HELLO_INTERVAL (R206): HELLO goes out on every port whose Hello has not ended. -/
def execHelloInterval (s : State) : Answer :=
  .next (s.begin.forEach (List.range 2) fun t p =>
    if t.rdi F.TW_PORT_STATE p = 3 ∧ natBit t.tw.hello p = false then t.send (.twine 0x01 p [t.serial, t.peerSerial p, p + 0x100]) else t)

/-- HELLO (R196, R198): the peer's serial is recorded; an own serial or another controller's holds the port; personalities are set; Hello
ends when the peer names this serial. -/
def execHello (p serial seen : Nat) (s : State) : Answer :=
  let t := s.begin
  if 2 ≤ p ∨ t.rdi F.TW_PORT_STATE p ≠ 3 then .next t
  else if serial = t.serial then .next (((t.wri F.TW_PORT_STATE p 6).wri F.TW_PORT_LOOPBACK p 1).event 0x700A [p])
  else if t.session && serial != t.rd F.TW_PEER_VALUE then
    .next (((t.wri F.TW_PORT_STATE p 6).wri F.TW_PORT_MISMATCH p 1).event 0x700B [p, serial])
  else
    let t : State := { t with tw := { t.tw with serial0 := if p = 0 then serial else t.tw.serial0
                                                serial1 := if p = 0 then t.tw.serial1 else serial
                                                hello := if seen = t.serial then natSetBit t.tw.hello p else t.tw.hello } }
    .next ((t.wr F.TW_PAIR_PERS (if t.serial < serial then 1 else 2)).tryOpen p)

/-- R14, R218: pairing work waits while SP3 is absent. -/
def State.bySp3 (s : State) (c : Instr) (r : State) : State :=
  if s.spRuns 3 then r else { s with tw := { s.tw with later := s.tw.later ++ [c] } }

/-- R198, R206: the upstream side echoes and opens; the downstream side opens at the confirmation of its number. -/
def State.takeSession (t : State) (p n : Nat) (confirm : Bool) : State :=
  if !(t.serving && t.portReady p) || t.session then t
  else if !confirm && t.rd F.TW_PAIR_PERS == 2 then (t.send (.twine 0x02 p [n + 2 ^ 63])).openSession p n
  else if confirm && t.tw.offered == some n then t.openSession p n
  else t

/-- SESSION (R14, R198, R206). -/
def execSession (p n : Nat) (confirm : Bool) (s : State) : Answer :=
  let t := s.begin
  .next (t.bySp3 (.session p n confirm) (t.takeSession p n confirm))

/-! ### Reunion (R215) -/

/-- R215: a primary told that its partner was promoted becomes HELD and its word clears. -/
def State.demote (s : State) (n : Nat) : State :=
  (if s.shMode n = mdTwined then s.untwine n else s.leavePair n).event 0x700C [n]

/-- R215: share n meets the STATE its partner sent in this session. -/
def State.reunite (s : State) (n : Nat) : State :=
  let p := s.pstate n
  match FMap.find s.tw.peers (s.pairid n) with
  | some r =>
    if s.role n = 1 then
      if r.pstate = psPromoted then s.demote n
      else if r.role = 2 ∧ p = psSync then s.dropSync n false
      else if r.role = 2 ∧ [psPending, psLive, psCatchup, psLost].contains r.pstate ∧ [psLive, psCatchup, psLost].contains p then
        if s.lossrep n then (s.setPstate n psHold).twinAbsent n else s.enterCatchup n
      else s
    else if s.role n = 0 ∧ p = psPromoted ∧ r.role = 1 then (s.send (s.stateMsg n true)).wri F.TW_S_PAIR n 0
    else if s.role n = 2 ∧ r.role ≠ 1 then s.setPstate n psStale
    else s
  | none =>
    if s.role n = 1 then
      if p = psSync then s.dropSync n false
      else if p = psLive ∨ p = psCatchup ∨ p = psLost then (s.setPstate n psLost).twinAbsent n else s
    else if s.role n = 2 then s.setPstate n psStale
    else s

/-- R206, R208, R215: the record of the partner share is updated; the last one of a session opening brings reunion. -/
def State.takeState (t : State) (share partner role pstate : Nat) (lossrep last incons : Bool) (pairid : Nat) : State :=
  if !t.session then t
  else
    let r : PeerShare := { share := share, partner := partner, role := role, pstate := pstate, lossrep := lossrep, incons := incons }
    let t : State := if role = 0 ∧ pairid = 0 then t else { t with tw := { t.tw with peers := FMap.put t.tw.peers pairid r } }
    if !t.tw.reunited then
      if last then
        let t : State := { t with tw := { t.tw with reunited := true } }
        (t.forEach ((List.range 64).filter fun n => t.role n != 0 || t.pstate n == psPromoted) State.reunite).copyNext
      else t
    else
      t.forEach ((List.range 64).filter fun n => t.pairid n == pairid && pairid != 0) fun a n =>
        if a.role n = 1 ∧ role = 0 ∧ pstate = psPromoted then a.demote n else a

/-- STATE (R14, R206, R208, R215). -/
def execState (share partner role pstate : Nat) (lossrep last incons : Bool) (pairid : Nat) (s : State) : Answer :=
  let t := s.begin
  .next (t.bySp3 (.state share partner role pstate lossrep last incons pairid)
    (t.takeState share partner role pstate lossrep last incons pairid))

/-- LINK_JOIN (R203): the copy on the established link arrived; what came on the joining link now applies. -/
def execLinkJoin (p seq : Nat) (s : State) : Answer :=
  let t := s.begin
  if natBit t.tw.inLinks p then .next (t.copyArrived p seq 0x04 []) else .next t

/-! ### The stream (R200 to R204) -/

/-- R200, R201: one item leaves on port p. -/
def State.sendItem (s : State) (p : Nat) (i : OutItem) : State :=
  match i with
  | .line _ share off d poison => s.send (.twineWrite p (0x0004000000000000 + share * 2 ^ 44 + off * 64) d poison)
  | .msg _ ty ws => s.send (.twine ty p ws)

/-- R201: n items leave on port p, then a MARK with the sequence before the first still waiting. -/
def State.drainPort (s : State) (p n : Nat) : State :=
  if !s.linkIn p then s
  else
    let q := if p = 0 then s.tw.q0 else s.tw.q1
    let t := (q.take n).foldl (fun a i => a.sendItem p i) s
    let rest := q.drop n
    let t : State := { t with tw := { t.tw with q0 := if p = 0 then rest else t.tw.q0, q1 := if p = 0 then t.tw.q1 else rest } }
    t.sendMark p

/-! ### The copy engine's scan (R28, R209, R211) -/

/-- R211: the next piece of a scan that begins with the run [lo, hi): its first unit, if that crosses as data (not CLEAN, or with a located
copy); otherwise the run up to the next unit that does, which crosses as a RELEASE. -/
def State.nextPiece (s : State) (lo hi : Nat) : Cand :=
  let data := ((Segs.within lo hi s.dmap).filter fun e => e.2.2.st != 0).map (fun e => e.1) ++
    ((Segs.within lo hi s.index).filter fun e => match e.2.2 with | .slot _ _ => true | _ => false).map fun e => e.1
  match data.foldl (fun a x => match a with | none => some x | some y => some (min x y)) none with
  | none => (lo, hi, 0)
  | some x => if x = lo then (lo, lo + 1, 1) else (lo, x, 0)

/-- R211: one piece joins the outbound stream: a unit's 64 lines, or a RELEASE of a run. -/
def State.sendPiece (s : State) (n : Nat) (c : Cand) : State :=
  let base := s.shLo n
  if c.2.2 = 0 then s.sendSeq 0x12 [s.peershr n + (c.2.1 - c.1) * 2 ^ 32, c.1 - base]
  else
    let t := s.forEach (List.range 64) fun a i =>
      let line := c.1 * 64 + i
      let q := a.rd F.TW_OSEQ_VALUE + 1
      (a.wr F.TW_OSEQ_VALUE q).pushOut (a.portOf c.1) (.line q (a.peershr n) (line - base * 64) (memLine a.mem (line * 64)) (a.linePoisoned line))
    t.addi F.TW_COPY_UNITS 0 1

/-- R28: nothing waits in the outbound buffers a piece needs: live lines leave room for it. -/
def State.copyRoom (s : State) (c : Cand) : Bool :=
  let p := s.portOf c.1
  if c.2.2 = 0 then (!s.linkIn 0 || s.tw.q0.isEmpty) && (!s.linkIn 1 || s.tw.q1.isEmpty) else if p = 0 then s.tw.q0.isEmpty else s.tw.q1.isEmpty

/-- R28, R211: the scan's next pieces join the stream while the buffers they need are empty, at most one on each port; an ABSENT unit is fetched
first. -/
def State.copyPieces (s : State) : Nat → State
  | 0 => s
  | k + 1 =>
    match s.tw.copying, s.tw.left with
    | some (n, _), (lo, hi) :: l =>
      let c := s.nextPiece lo hi
      if c.2.2 = 1 ∧ s.absent lo = true then s.startFetch lo none
      else if !s.copyRoom c then s
      else
        let t := s.sendPiece n c
        State.copyPieces { t with tw := { t.tw with left := if c.2.1 = hi then l else (c.2.1, hi) :: l } } k
    | _, _ => s

/-- R28, R211: the copy engine takes its turn of the outbound bandwidth. -/
def State.copyStep (s : State) : State := if s.session then s.copyPieces 3 else s

/-- MARK_INTERVAL (R28, R201): the links have carried this many waiting items since, and a MARK goes out on every link; a copy in progress uses the
bandwidth left. -/
def execMarkInterval (n0 n1 : Nat) (s : State) : Answer :=
  let t := s.begin
  if t.session then .next ((t.drainPort 0 n0).drainPort 1 n1).copyStep else .next t

/-- MARK (R202): a MARK on port p; P may advance and is then acknowledged. -/
def execMark (p seq : Nat) (s : State) : Answer :=
  let t := s.begin
  if t.session && t.linkIn p then
    .next ({ t with tw := { t.tw with mark0 := if p = 0 then max t.tw.mark0 seq else t.tw.mark0
                                      mark1 := if p = 0 then t.tw.mark1 else max t.tw.mark1 seq } } : State).advance
  else .next t

/-- R207, R211: a catch-up whose CATCHUP_END is acknowledged ends: the share is LIVE; a FULL one clears LOSSREP and MAPOVF. -/
def State.catchupDone (s : State) (n : Nat) : State :=
  let t := s.setPstate n psLive
  let t := if t.tw.clears.contains n then (t.setLossrep n false).setMapovf n false else t
  let t : State := { t with tw := { t.tw with clears := t.tw.clears.filter (· != n), fulls := t.tw.fulls.filter (· != n)
                                              catchEnd := FMap.del t.tw.catchEnd n } }
  t.copyEnded n

/-- R14, R211: SP3 ends the catch-ups whose CATCHUP_END is acknowledged. -/
def State.endCatchups (s : State) : State :=
  if s.spRuns 3 then
    s.forEach ((s.tw.catchEnd.filter fun e => decide (e.2 ≤ s.rd F.TW_ASEQ_VALUE)).map Prod.fst) State.catchupDone
  else s

/-- ACK (R202, R210, R211): the acknowledged sequence advances; the previous twin map clears at its end; catch-ups end; tickets complete. -/
def execAck (prefix_ session : Nat) (s : State) : Answer :=
  let t := s.begin
  if !t.session || session != t.rd F.TW_PAIR_SESSION || prefix_ ≤ t.rd F.TW_ASEQ_VALUE then .next t
  else
    let t := t.wr F.TW_ASEQ_VALUE prefix_
    let t : State := if t.tw.prevEnd ≤ prefix_ then { t with tw := { t.tw with mapPrev := [] } } else t
    .next t.endCatchups.flushTwined

/-- R203: a RELEASE that waits for a walk register withholds the credits of its link. -/
def State.creditsHeld (s : State) (p : Nat) : Bool := s.tw.relWait.any fun e => natBit e.2.2 p

/-- REPLICA_WRITE (R200, R103): an inbound write; while the Sluice stalls its credits are withheld, and what comes on a joining link waits. -/
def execReplicaWrite (p share off : Nat) (lines : List (BitVec 512 × Bool)) (s : State) : Answer :=
  let t := s.begin
  if !t.session || !t.linkIn p || t.flag F.MR_SLUICE_STALL || t.creditsHeld p then .next t
  else
    let w : InWrite := { port := p, share := share, line := off / 64, lines := lines }
    if natBit t.tw.inLinks p then .next (t.applyWrite w) else .next { t with tw := { t.tw with held := t.tw.held ++ [.write w] } }

/-- RELEASE_MESSAGE (R97, R203): a copy of a RELEASE; what comes on a joining link waits. -/
def execReleaseMessage (p seq share units first : Nat) (s : State) : Answer :=
  let t := s.begin
  if !t.session || !t.linkIn p || (t.creditsHeld p && !FMap.has t.tw.relWait seq) then .next t
  else if !t.shDefined share || t.role share != 2 then .next (t.bump F.TW_CNT_DISC)
  else if !natBit t.tw.inLinks p then .next { t with tw := { t.tw with held := t.tw.held ++ [.release p seq share units first] } }
  else
    let t := t.releaseCopy p seq share units first
    .next (t.runInbox (t.tw.inbox.length + 1))

/-- SAVING (R213): the peer saves, and the pair becomes LOST at once. -/
def execSaving (p : Nat) (s : State) : Answer :=
  let t := s.begin
  let st := t.rd F.TW_PAIR_STATE
  if p < 2 ∧ (st = 1 ∨ st = 2 ∨ st = 3) then .next (t.peerLoss 1) else .next t

/-- JOIN, UNPAIR, CATCHUP_BEGIN and CATCHUP_END (R203, R206): a copy arrives on port p. -/
def execJoin (p seq share : Nat) (s : State) : Answer := .next (s.begin.copyArrived p seq 0x22 [share])
def execUnpair (p seq share : Nat) (s : State) : Answer := .next (s.begin.copyArrived p seq 0x23 [share])
def execCatchupBegin (p seq share : Nat) (full : Bool) (s : State) : Answer :=
  .next (s.begin.copyArrived p seq 0x24 [share, bit01 full])
def execCatchupEnd (p seq share : Nat) (s : State) : Answer := .next (s.begin.copyArrived p seq 0x25 [share])

/-- TWIN_MAP_SWAP (R210): if the previous map is clear, the maps swap and the outbound sequence becomes its end. -/
def execTwinMapSwap (s : State) : Answer :=
  let t := s.begin
  if t.tw.mapPrev.isEmpty then
    .next { t with tw := { t.tw with mapPrev := t.tw.mapCur, mapCur := [], prevEnd := t.rd F.TW_OSEQ_VALUE } }
  else .next t

/-! ### Designation (R208) -/

/-- R208: why a designation of share n is refused, the first cause that applies; 0 accepts. -/
def State.refuseDesig (s : State) (n base size : Nat) : Nat :=
  if s.phase ≠ phService then 11
  else if !s.admitted then 7
  else if !natBit (s.rd F.TW_ACCEPT_MASK) n || (s.shDefined n && s.shMode n != mdVolatile) then 5
  else if (!s.shDefined n && !s.fits n base size) || (s.shDefined n && s.rdi F.SHR_SIZE_ADDR n * 2 ^ 28 != size) then 10
  else if s.changing n then 8
  else if s.shDefined n && s.ticketsOn n then 1
  else 0

/-- R30, R208: share n becomes an empty REPLICA with the given PAIRID. -/
def State.becomeReplica (s : State) (n peer pairid base size : Nat) : State :=
  let t := if s.shDefined n then s
    else (s.setShareRegs n base size (s.rdi F.SHR_CFG_WT_CAP n) (s.rdi F.SHR_CFG_RPRI n) 0 mdReplica 0).wri F.SHR_STATUS_REFUSE n 0
  let t := (t.newKgen n).zeroShare n
  let t := (t.wri F.SHR_CFG_MODE n mdReplica).setShMode n mdReplica
  let t := (t.endChange n).setShState n shReady
  let t : State := { t with tw := { t.tw with pairSerial := FMap.put t.tw.pairSerial n (t.rd F.TW_PEER_VALUE) } }
  ((t.setPair n (pairWord 2 psPending false false false peer pairid)).commitShare n).settleMr

/-- R32, R208: the peer asks for a replica; accepted or refused, the reply carries the status, and SHR_STATUS.REFUSE a refusal's reason. -/
def State.takeDesignate (t : State) (share peer pairid base size : Nat) : State :=
  if !t.session then t
  else
    let r := t.refuseDesig share base size
    let t := if r = 0 then t.becomeReplica share peer pairid base size else if share < 64 then t.wri F.SHR_STATUS_REFUSE share r else t
    t.send (.twine 0x21 t.sessionPort [share + peer * 2 ^ 6 + pairid * 2 ^ 32, r])

/-- DESIGNATE (R14, R32, R208). -/
def execDesignate (share peer pairid base size : Nat) (s : State) : Answer :=
  let t := s.begin
  .next (t.bySp3 (.designate share peer pairid base size) (t.takeDesignate share peer pairid base size))

/-- DESIGNATE_RESP (R208): the reply completes Designate Replica with its status. -/
def execDesignateResp (pairid status : Nat) (s : State) : Answer :=
  let t := s.begin
  match t.tw.desigs.find? fun d => d.pairid == pairid && d.via.isSome with
  | none => .next t
  | some d =>
    let l := if status = 0 then t.tw.desigs.map fun x => if x.pairid == pairid then { x with ok := true, via := none } else x
      else t.tw.desigs.filter fun x => x.pairid != pairid
    let t : State := { t with tw := { t.tw with desigs := l } }
    match d.via with
    | some v => .next (t.reply v .success [status])
    | none => .next t

/-- R208: DESIGNATE is sent with a new PAIRID; with no session the status is PEER_ABSENT. The sending share it names is left open. -/
def State.designateNow (t : State) (v : Via) (share base size : Nat) : State :=
  if !t.session then t.reply v .success [2]
  else
    let id := t.drbgVal % 2 ^ 32
    let own := t.freeVal % 64
    let d : Desig := { own := own, peer := share, pairid := id, size := size, ok := false, via := some v }
    let t := t.skipDrbg.skipFree
    State.send { t with tw := { t.tw with desigs := d :: t.tw.desigs } }
      (.twine 0x20 t.sessionPort [share + own * 2 ^ 6 + id * 2 ^ 32, base, size])

/-- DESIGNATE_REPLICA (R14, R208, R219). -/
def execDesignateReplica (v : Via) (share base size : Nat) (s : State) : Answer :=
  .next (s.whenDrbg (.designateReplica v share base size) (s.mbox v (.designateReplica v share base size) .other false fun t =>
    t.bySp3 (.designateReplica v share base size) (t.designateNow v share base size)))

/-- R219: a share in HOLD moves to catch-up; its LOSSREP clears when that completes. -/
def State.resumeNow (t : State) (v : Via) (share : Nat) (full : Bool) : State :=
  if 64 ≤ share ∨ t.pstate share ≠ psHold then t.reply v .invalidInput []
  else if !t.session then t.reply v .busy []
  else
    let t : State := { t with tw := { t.tw with clears := share :: t.tw.clears
                                                fulls := if full then share :: t.tw.fulls else t.tw.fulls } }
    ((t.enterCatchup share).copyNext).reply v .success []

/-- RESUME_SHARE (R14, R219). -/
def execResumeShare (v : Via) (share : Nat) (full : Bool) (s : State) : Answer :=
  .next (s.mbox v (.resumeShare v share full) .other false fun t => t.bySp3 (.resumeShare v share full) (t.resumeNow v share full))

/-- R221: TW_PAIR and TW_PORT_p as words. -/
def State.pairWordReg (s : State) : Nat :=
  s.rd F.TW_PAIR_STATE * 2 ^ 61 + s.rd F.TW_PAIR_PERS * 2 ^ 59 + s.rd F.TW_PAIR_LINKS * 2 ^ 57 + s.rd F.TW_PAIR_SESSION
def State.portWordReg (s : State) (p : Nat) : Nat :=
  s.rdi F.TW_PORT_IDE p * 2 ^ 23 + s.rdi F.TW_PORT_IDEFAIL p * 2 ^ 22 + s.rdi F.TW_PORT_MISMATCH p * 2 ^ 21 +
    s.rdi F.TW_PORT_LOOPBACK p * 2 ^ 20 + s.rdi F.TW_PORT_WIDTH p * 2 ^ 15 + s.rdi F.TW_PORT_RATE p * 2 ^ 8 + s.rdi F.TW_PORT_STATE p

/-- GET_TWINE_STATUS (R219): pair, ports, sequences and all 64 pairing words. -/
def execGetTwineStatus (v : Via) (s : State) : Answer :=
  .next (s.mbox v (.getTwineStatus v) .other true fun t =>
    t.reply v .success ([t.pairWordReg, t.portWordReg 0, t.portWordReg 1, t.rd F.TW_OSEQ_VALUE, t.rd F.TW_ASEQ_VALUE, t.rd F.TW_ISEQ_VALUE] ++
      (List.range 64).map t.pair))

/-! ### The end of a copy (R209, R211) -/

/-- COPY_ENGINE_SCAN_END (R209, R211): once every unit and release of the scan is in the stream, it is followed by CATCHUP_END or JOIN; until
then the scan goes on as far as live lines leave room. -/
def execCopyEngineScanEnd (s : State) : Answer :=
  let t := s.begin.copyStep
  match t.tw.copying with
  | none => .next t
  | some (n, _) =>
    if !t.session || !t.tw.left.isEmpty then .next t
    else
      let sync := t.pstate n == psSync
      let t := t.sendSeq (if sync then 0x22 else 0x25) [t.peershr n]
      let q := t.rd F.TW_OSEQ_VALUE
      let t : State := { t with tw := { t.tw with copying := none
                                                  joinSeq := if sync then FMap.put t.tw.joinSeq n q else t.tw.joinSeq
                                                  catchEnd := if sync then t.tw.catchEnd else FMap.put t.tw.catchEnd n q
                                                  copied := FMap.put t.tw.copied n (t.rd F.TW_COPY_UNITS, t.tw.copyAt) } }
      -- R212: tickets that waited for the catch-up wait for its CATCHUP_END
      let t : State := if sync then t else { t with tickets := t.tickets.map fun (k : Ticket) =>
        if k.kind == .commit && k.level == 2 && k.share == n && k.outcome.isNone then { k with oseq := some q } else k }
      .next ((if sync then t.wri F.SHR_STATUS_PROG n 100 else t).copyNext)

/-! ### PROMOTE (R214) -/

/-- R214: the commit of PROMOTE: the share is HELD, its word reads ROLE none and PSTATE PROMOTED, and RESULT bit 0 gives INCONS. Outside
SERVICE it is refused with R31's reason PHASE (DEDUCED, log 221). -/
def State.promote (s : State) (k : Ticket) (n : Nat) : State :=
  if !s.shDefined n then s.finish k 5 1 0
  else if s.phase ≠ phService then s.refuseShare k n 11
  else if s.changing n || s.removing then s.refuseShare k n 8
  else if s.shMode n ≠ mdReplica ∨ !(s.pstate n = psLost ∨ s.pstate n = psStale) then s.refuseShare k n 5
  else if !(s.shState n = shReady ∨ s.shState n = shHot) then s.refuseShare k n 6
  else
    let inc := s.incons n
    let t := s.setPair n (pairWord 0 psPromoted inc false (s.lossrep n) (s.peershr n) (s.pairid n))
    ((t.commitMode n mdHeld).event 0x7009 [n, bit01 inc]).finish k 0 0 (bit01 inc)

/-- PROMOTE (R14, R214): it waits while SP3 is absent. -/
def execPromote (h tag n : Nat) (s : State) : Answer :=
  .next (s.begin.adminOp h tag n fun t k => if t.spRuns 3 then t.promote k n else t.keepTicket { k with op := 0x52 })

/-- R14, R218: one piece of pairing work that waited for SP3. -/
def State.sp3Run (s : State) (c : Instr) : State :=
  match c with
  | .session p n confirm => s.takeSession p n confirm
  | .state share partner role pstate lossrep last incons pairid => s.takeState share partner role pstate lossrep last incons pairid
  | .designate share peer pairid base size => s.takeDesignate share peer pairid base size
  | .designateReplica v share base size => s.designateNow v share base size
  | .resumeShare v share full => s.resumeNow v share full
  | .shareCreate _ tag n base size cfg grants peer => match s.pairOp n tag with
    | some k => (s.takeBack k).shareCreate k n base size cfg grants peer
    | none => s
  | .shareMode _ tag n target peer => match s.pairOp n tag with
    | some k => (s.takeBack k).shareMode k n target peer
    | none => s
  | _ => s

/-- R14, R213: SP3 runs again: a peer loss that waited, PROMOTEs and other pairing work that waited, messages received and sessions proceed. -/
def State.sp3Back (s : State) : State :=
  let t := match s.tw.lossDue with | some c => s.pairLost c | none => s
  let t := (t.tickets.filter fun k => k.op == 0x52 && k.kind == .admin && k.outcome.isNone).foldl (fun a k => a.promote k k.share) t
  let t := t.tw.later.foldl State.sp3Run { t with tw := { t.tw with later := [] } }
  ((t.runInbox (t.tw.inbox.length + 1)).endCatchups.flushTwined).twineServe

end Sys2Proof.Machine
end

