-- ==== Sys2Proof/Machine/SaveOps.lean ====
section
/-! DEFINITION. The start of a Save, its end, Linger, the warm return, and what a power-loss trigger and a device reset do in each phase
(R17, R48, R82, R111 to R128, R169, R385, R394). -/

namespace Sys2Proof.Machine

/-! ### The trigger (R111, R114) -/

/-- The rails that pass a test report no power. -/
def State.dropRails (s : State) (p : Nat → Bool) : State :=
  s.forEach (List.range 16) fun a i => if a.flagi F.PW_RMON_PG i && p i then a.wri F.PW_RMON_PG i 0 else a

/-- R114, R279: rail shed, steps S1 to S3: the heads and Twine ports are isolated, their switches open and their regulators go off. -/
def State.shedRails (s : State) : State :=
  ((s.setDoms domsHP 0).setDoms domsTW 0).dropRails fun i => s.rdi F.PW_RAIL_GRP i == 3 || s.rdi F.PW_RAIL_GRP i == 4

/-- R169: the heads are quiesced: their links, function state, mailboxes and read-started fetches end; accepted writes stay, and every unit that
holds some is fetched. -/
def State.shedHeads (s : State) : State :=
  let t := s.forEach (s.queues.map Prod.fst) State.dropHeld
  let t := t.forEach ((List.range 16).filter s.headExists) fun a k =>
    let a := if a.rdi F.HP_LINK_STATE k = 0 then a else a.wri F.HP_LINK_STATE k 0
    (a.wri F.HP_LINK_IDE k 0).wri F.HP_LINK_VIRAL k 0
  let t : State := { t with
    heads := t.heads.map fun e => (e.1, { scan := e.2.scan, logs := e.2.logs, logOvf := e.2.logOvf, logNext := e.2.logNext : Head })
    mpWait := t.mpWait.filter fun c => c.1 == 16
    queues := t.queues.map fun e => (e.1, { e.2 with paused := true })
    rs := { t.rs with fetches := (t.rs.fetches.filter fun e => t.rs.waits.any fun w => w.line / 64 == e.1).map
                        fun e => (e.1, { e.2 with readers := [], byRead := none }) } }
  let t := t.forEach (t.rs.waits.map fun w => w.line / 64).eraseDups fun a u => if FMap.has a.rs.fetches u then a else a.startFetch u none
  t.sendFetches.wr F.SPN_FETCH_PEND t.rs.fetches.length

/-- R248, R258, R268: what a Save trigger does to bay b: a pause or test ends, FULL clears, the charger is held off. -/
def State.bayTrigger (s : State) (b : Nat) : State :=
  let st := s.rdi F.EN_STS_STATE b
  let off := fun (x : Bay) => { x with chg := false, xfer := false, held := true, plan := 0 }
  let t : State := if b = 0 then { s with bayA := off s.bayA } else { s with bayB := off s.bayB }
  let t := if [4, 5, 6, 7, 8].contains st then ((t.wri F.EN_STS_STATE b 4).wri F.EN_STS_FULL b 0).wri F.EN_STS_CAUSE b 0 else t
  ((t.wri F.EN_STS_TSTEP b 0).wri F.EN_RSV_TEST b 0).wr (if b = 0 then F.MR_TEST_PACKA else F.MR_TEST_PACKB) 0

/-- R108, R411: every test ends at a power-loss trigger; a target under test is not used in the Save: it stays excluded until the Save ends. -/
def State.endTests (s : State) : State :=
  let t : State := { s with trials := s.trials.map fun e => (e.1, if e.2.st = 1 ∨ e.2.st = 2 then { e.2 with st := 5 } else e.2)
                            fc := { s.fc with tgts := s.fc.tgts.map fun (e : Nat × Target) =>
                                     (e.1, if e.2.state = tgTesting then { e.2 with state := tgExcluded } else e.2) }
                            mr := { s.mr with testWaits := false } }
  t.wr F.MR_TEST_TGT 0

/-- R114, R152: an erase in progress is suspended, never to be resumed, and a seal being verified stays unverified: their blocks stay listed
(R178). -/
def State.suspendErases (s : State) : State :=
  { s with fc := { s.fc with tgts := s.fc.tgts.map (fun (e : Nat × Target) => (e.1, { e.2 with susp := none, pgm := 0 }))
                             blocks := s.fc.blocks.map fun (e : Nat × Nat × Blk) => (e.1, e.2.1, e.2.2.afterReset) } }

/-- R394: a removal hold ends with a Save. -/
def State.endHold (s : State) : State := if s.rd F.GEN_PANEL_RMV = 0 then s else s.wr F.GEN_PANEL_RMV 0

/-- R342: staging ends at a Save trigger or a reset. -/
def State.endStaging (s : State) : State :=
  if s.rd F.FW_STG_STATE = 1 then
    let b : BootBlock := { verr := 1 }
    let t : State := if s.fw.slot = some 0 then { s with fw := { s.fw with blkA := b } } else { s with fw := { s.fw with blkB := b } }
    ({ t with fw := { t.fw with slot := none, xfer := none, part := none } } : State).wr F.FW_STG_STATE 0
  else s

/-- R334: at a Save trigger a program in progress completes and an erase is suspended, never to be resumed. -/
def State.norSave (s : State) : State := if s.rd F.FW_NOR_STATE = 2 then s.wr F.FW_NOR_STATE 4 else s

/-- R96: walks in progress end, and with them the KEEP they set. -/
def State.dropWalks (s : State) : State :=
  { s with walks := []
           dmap := (s.dmap.filter fun e => e.2.2.st != 0).map fun (e : Nat × Nat × UnitSt) => (e.1, e.2.1, { e.2.2 with keep := false }) }

/-- R84: COMMITs open at the trigger. -/
def State.openCommits (s : State) : List Ticket := s.tickets.filter fun t => t.kind == .commit && t.outcome.isNone

/-- R130: the Save registers at the trigger; `trig` has bits 0, 1 and 2 for comparators A and B and the latch. -/
def State.saveRegs (s : State) (reason trig rs : Nat) : State :=
  let ovh := decide (s.weirBytes < s.residue * 4096)
  let t := ((s.wr F.SPN_SAVE_RESULT 0).wr F.SPN_SAVE_REASON reason).wr F.SPN_SAVE_PWRBACK 0
  let t := ((t.wr F.SPN_SAVE_DEFER 0).wr F.SPN_SAVE_OVH (bit01 ovh)).wr F.SPN_SAVE_TRIGA (trig % 2)
  let t := ((t.wr F.SPN_SAVE_TRIGB (trig / 2 % 2)).wr F.SPN_SAVE_TRIGL (trig / 4 % 2)).wr F.SPN_SAVE_PACKLOSS 0
  let t := ((t.wr F.SPN_SAVE_CLKLOSS 0).wr F.SPN_SAVE_SPRLD 0).bump F.SPN_SAVE_COUNT
  let t := (t.wr F.SPN_SRES_WEIR (s.rd F.MR_WEIR_WEIR)).wr F.SPN_SRES_RESID s.residue
  let t := t.bump F.SPN_FLICK_CONSEC
  let t := ((t.wr F.SPN_SRATE_START (rs / 100000000)).wr F.SPN_SRATE_MIN (rs / 100000000)).wr F.SPN_SRATE_OP (saveOp rs)
  ((t.wr F.SPN_SRATE_DROOP 0).wr F.SPN_SUNITS_SAVED 0).wr F.SPN_SUNITS_LOST 0

/-- R111, R114, R118, R129, R169, R218, R389: a Save starts in SERVICE or RESTORE. -/
def State.startSave (s : State) (reason trig : Nat) : State :=
  let rs := s.saveRate
  let opens := s.openCommits
  let dirty := (List.range 16).foldl (fun a k => if s.flagi F.HP_SHUT_DIRTY k then a + 2 ^ k else a) 0
  let aseq := s.rd F.TW_ASEQ_VALUE
  let oseq := s.rd F.TW_OSEQ_VALUE
  let elim := s.eLim s.weirBytes
  let empty := s.flag F.GEN_ADMIT_FIRST || !s.armed || !(match s.im.imageId with | some (_, ok) => ok | none => false)
  let t := s.saveRegs reason trig rs.1
  let t := t.event 0x4001 [reason, trig, s.residue, s.rd F.MR_WEIR_WEIR, rs.1 / 100000000, saveOp rs.1]
  let t := t.shedHeads.twineSave.shedRails.forEach [0, 1] fun a p =>
    if a.rdi F.TW_PORT_STATE p = 0 then a else (a.wri F.TW_PORT_STATE p 0).wri F.TW_PORT_IDE p 0
  let t : State := { t.dropWalks with fw := { t.fw with savedLayout := t.fw.layout } }
  let t := t.forEach (List.range 64) fun a n => if a.changing n then (a.endChange n).setShState n shReady else a
  let t := if t.rd F.MC_SPARE_STATE = 1 then t.wr F.MC_SPARE_STATE 2 else t
  let t := (((t.endTests.bayTrigger 0).bayTrigger 1).dropPass 1).suspendErases
  let t := (t.endHold.endStaging.norSave.snapshot 2 0).wr F.PW_STATE_STBY 0
  let t := t.enterPhase phSave (if reason = 1 then 0x05 else if reason = 2 then 0x06 else 0x07)
  let t : State := { t with
    sv := { startAt := t.ck.mono, rs := rs.1, rcap := rs.2, op := saveOp rs.1, elim := elim, aseq := aseq, oseq := oseq
            dirtyHeads := dirty, empty := empty, opens := opens }
    pw := { t.pw with dram := true } }
  ((t.wr F.PW_STATE_PSTATE 0).seekOp (saveOp rs.1)).updReady

/-! ### Back to SERVICE (R48, R85, R126) -/

/-- R48: the dirty shutdown counts at the first return to SERVICE after a Save; `restore`: the return is by restore. -/
def State.countShutdown (s : State) (restore : Bool) : State :=
  if !s.sv.owed then s
  else
    let bad := restore && s.sv.result != 1
    let t := s.forEach ((List.range 16).filter fun k => natBit s.sv.dirtyHeads k) fun a k =>
      if bad || a.report.losses.any fun l => a.grant l.share k == 2 then a.wri F.HP_SHUT_DSC k (a.rdi F.HP_SHUT_DSC k + 1) else a
    { t with sv := { t.sv with owed := false } }

/-- R82: a queue that is DISABLED with the frontiers a Save left. -/
def Frontier.queue (f : Frontier) : Queue :=
  { head := f.head, last := f.last, twin := f.twin, saved := true
    holdF := if f.front < f.last then [f.front + 1] else [], holdH := if f.fronth < f.last then [f.fronth + 1] else [] }

/-- R82: every queue is DISABLED, with the saved frontiers of the newest report, and every ticket context void. -/
def State.voidQueues (s : State) : State :=
  let t : State := { s with tickets := [], poolOut := false, queues := s.report.fronts.foldl (fun m f => FMap.put m f.qid f.queue) [] }
  t.forEach (List.range 16) fun a k => if a.flagi F.QUE_ACTL_EN k then a.wri F.QUE_ACTL_EN k 0 else a

/-- R126: the loss report of a return that finds DRAM held omits the units its Save left unsaved; other records stand. -/
def State.omitUnsaved (s : State) (source : Nat) : State :=
  { s with report := { s.report with source := source, losses := s.sv.stood } }

/-- R190: held causes act when the Save ends; other excluded targets return to HEALTHY. -/
def State.releaseTargets (s : State) : State :=
  let ex := s.fc.tgts.filter fun e => e.2.state == tgExcluded
  (ex.foldl (fun (a : State) e =>
    if e.2.held = 0 then a.setTgt e.1 { a.tgt e.1 with state := tgHealthy } else a.bindTarget e.1 e.2.held) s).ceilUpdate 0

/-- R17, R120, R295: energy or clocks fail before a manifest closes: the last closed one stands and DRAM is lost: DORMANT, and OFF with no input
and no usable pack energy left. R17 numbers no cause for this passage: GEN_PHASE takes 0x0B (DESIGN CHOICE, log 199). -/
def State.failSave (s : State) : State :=
  let gone := s.flag F.PW_VIN_OK == false && s.rd F.EN_SUM_EU == 0
  let t := s.releaseTargets.wr F.SPN_SAVE_RESULT 4
  let t : State := { t with im := { t.im with anchorW := none }, sv := { t.sv with owed := true, result := 4 } }
  let t := t.powerDown 0x0B
  if gone then t.energyGone else t

/-- R53, R127: heads whose link may train begin training; Twine ports that are enabled train. -/
def State.trainLinks (s : State) : State :=
  let t := s.forEach ((List.range 16).filter s.mayTrain) fun a k => if a.rdi F.HP_LINK_STATE k ≤ 1 then a.setLink k 2 else a
  t.forEach [0, 1] fun a p => if a.dom (10 + p) == 1 && a.rdi F.TW_PORT_STATE p == 0 then
    (a.wri F.TW_PORT_STATE p 1).setBit F.GEN_LOCK_BLOCKS 7 true else a

/-- R141, R389: while admitted with nothing in hand, the next index pass begins. -/
def State.resumePass (s : State) : State :=
  let known := match s.im.imageId with | some (_, ok) => ok | none => false
  if s.serving && s.armed && s.flag F.GEN_ADMIT_ADMITTED && known && s.im.passLsn.isNone && s.im.anchorW.isNone then s.beginPass else s

/-- R82, R112, R127, R169: the warm return from LINGER; comparators still tripped at its end start a Save. -/
def State.warmReturn (s : State) (ticks : Nat) : State :=
  let at_ := s.sv.lingerAt
  let t := (s.sleepWake ticks).boscStart
  let t := ((t.setDom 1 1).setDoms domsMCG 1).setDoms t.fcgDoms 1
  let t := (t.setDoms (domsHP.filter fun d => t.flagi F.HP_PORT_CFG_EN (d - 2)) 1).setDoms
    (domsTW.filter fun d => natBit (t.rd F.TW_CTL_EN) (d - 10)) 1
  let t := t.forEach (List.range 16) fun a i => if a.flagi F.PW_RAIL_EN i then a.wri F.PW_RMON_PG i 1 else a
  let t := ((((t.wr F.PW_STATE_PSTATE 0).setSeq 0 0).wr F.PW_OP_CUR t.opCap).wr F.PW_OP_TARGET t.opCap).wr F.PW_OP_BUSY 0
  let t := (t.voidQueues.omitUnsaved 2).countShutdown false
  let t := t.enterPhase phService 0x04
  let t := t.event 0x400B [t.ck.mono - at_]
  let t := if t.rd F.SPN_RST_STAGE = 2 then t.wr F.SPN_RST_STAGE 3 else t
  let t := if t.rd F.MC_SPARE_STATE = 2 then t.wr F.MC_SPARE_STATE 1 else t
  let t : State := { t with bayA := { t.bayA with held := false, chg := t.rdi F.EN_STS_STATE 0 == 4 }
                            bayB := { t.bayB with held := false, chg := t.rdi F.EN_STS_STATE 1 == 4 } }
  let t := if t.rd F.FW_NOR_STATE = 4 then t.wr F.FW_NOR_STATE 0 else t
  let t := ((t.norRetire.snapWrite.trainLinks.resumePass.settleMr).updReady).nextReload
  if t.pw.cmpA || t.pw.cmpB then t.startSave 1 (bit01 t.pw.cmpA + 2 * bit01 t.pw.cmpB) else t

/-! ### The end of a Save and Linger (R123, R125, R126, R279) -/

/-- R279, R126: LINGER is entered; it ends at once with a warm return while service input is valid, and otherwise with passage to DORMANT
when it may not last. The causes event 0x400C carries have no numbers in the spec: 0 is the timer, 1 the energy limit, 2 the Save's result (DESIGN
CHOICE, log 202). -/
def State.enterLinger (s : State) : State :=
  let t := s.event 0x400A [s.rd F.EN_SUM_EU, s.sv.elim]
  let t := t.enterPhase phLinger 0x08
  let t := ((t.setDoms domsFCG 0).setDoms domsMCG 2).setDom 1 2
  let t := t.dropRails fun i => [2, 3, 4, 6].contains (t.rdi F.PW_RAIL_GRP i) ||
    (t.rdi F.PW_RAIL_GRP i == 5 && t.rdi F.PW_RAIL_ORDER i == 0)
  let t : State := { t with sv := { t.sv with lingerAt := t.ck.mono } }
  let t := (t.wr F.PW_STATE_PSTATE 2).sleepLatch.updReady
  if t.flag F.PW_VIN_OK then t.warmReturn 0
  else if t.sv.result = 2 then (t.event 0x400C [2]).powerDown 0x0C
  else if t.rd F.SPN_LINGER_TIME = 0 then (t.event 0x400C [0]).powerDown 0x0A
  else if t.rd F.EN_SUM_EU < t.sv.elim then (t.event 0x400C [1]).powerDown 0x0B
  else t

/-- R17, R110, R123, R125, R126: a Save has ended with a result (0 for the Save of a first admission that had not read back): after a forced abort
and after a reset the device enters BRINGUP; otherwise LINGER, or DORMANT with both packs absent and no input. -/
def State.saveEnd (s : State) (result : Nat) : State :=
  let g := match s.anchor with | some a => if a.kind = 1 then 0 else a.gen | none => 0
  let us := (s.ck.mono - s.sv.startAt) / 1000
  let t := (s.wr F.SPN_SAVE_RESULT result).wr F.SPN_STIME_TOTAL us
  let t := if result = 0 then t else t.wr F.SPN_GEN_GEN g
  let t := if result = 1 then t.event 0x4002 [g, us, s.sv.saved] else t
  let t : State := { t with im := { t.im with manGen := if result = 0 then t.im.manGen else g }
                            sv := { t.sv with owed := result != 0, result := if result = 0 then 1 else result } }
  let t : State := { t.releaseTargets with mr := { t.mr with reserve := some t.mr.bucket } }
  if result = 3 then t.rebirth false 0x09
  else if t.rd F.SPN_SAVE_REASON = 3 ∨ t.flag F.SPN_SAVE_DEFER = true then t.rebirth true 0x08
  else if t.flag F.PW_VIN_OK = false ∧ t.rdi F.EN_STS_STATE 0 = 0 ∧ t.rdi F.EN_STS_STATE 1 = 0 then
    (t.event 0x400C [1]).powerDown 0x0B
  else t.enterLinger

/-! ### Standby left (R288, R303) -/

/-- R288, R303: DEEP is left: the sleep is accounted and the domains the phase requires are on again. -/
def State.wakeDeep (s : State) (ticks : Nat) : State :=
  if s.rd F.PW_STATE_STBY = 0 then s
  else
    let t := (((((s.sleepWake ticks).setDom 0 1).boscStart).setDom 1 1).setDoms domsMCG 1).setDoms s.fcgDoms 1
    let t := (t.setDoms (domsHP.filter fun d => t.flagi F.HP_PORT_CFG_EN (d - 2)) 1).setDoms
      (domsTW.filter fun d => natBit (t.rd F.TW_CTL_EN) (d - 10)) 1
    let t := t.forEach (List.range 16) fun a i => if a.flagi F.PW_RAIL_EN i then a.wri F.PW_RMON_PG i 1 else a
    (((t.wr F.PW_STATE_STBY 0).wr F.PW_STATE_PSTATE 0).event 0xA00B [3, 0]).trainLinks.updReady

/-! ### Triggers and resets by phase (R17, R112, R123, R385) -/

/-- R112, R17: a power-loss trigger or the latch; `trig` as in saveRegs, reason 1 or 2. -/
def State.powerTrigger (s : State) (reason trig ticks : Nat) : State :=
  let mark := fun (a : State) =>
    let a := if natBit trig 0 then a.wr F.SPN_SAVE_TRIGA 1 else a
    let a := if natBit trig 1 then a.wr F.SPN_SAVE_TRIGB 1 else a
    if natBit trig 2 then a.wr F.SPN_SAVE_TRIGL 1 else a
  if s.serving then (s.wakeDeep ticks).startSave reason trig
  else if s.phase = phBringup then (if reason = 1 then s.offRequest 0x05 else s)
  else if s.phase = phSave ∨ s.phase = phRecovery then mark s
  else s

/-- R123, R384, R385: a device reset takes effect; `held`: RESET_N stays low; source of a software reset for event 0x4005. -/
def State.deviceReset (s : State) (source ticks : Nat) : State :=
  if s.serving then (s.wakeDeep ticks).startSave 3 0
  else if s.phase = phBringup then s.rebirth s.pw.dram 0x07
  else if s.phase = phSave then
    if s.flag F.SPN_SAVE_DEFER then s else (s.wr F.SPN_SAVE_DEFER 1).event 0x4005 [source]
  else if s.phase = phLinger then (s.sleepWake ticks).rebirth true 0x07
  else if s.phase = phRecovery then s.rebirth false 0x10
  else s

/-- R362: the reset of an accepted DISCARD_IMAGE in SERVICE: heads and Twine are quiesced, no Save starts, DRAM is treated as lost. -/
def State.discardReset (s : State) : State := s.shedHeads.twineSave.shedRails.rebirth false 0x07

end Sys2Proof.Machine
end

