-- ==== Sys2Proof/Machine/RestoreOps.lean ====
section
/-! DEFINITION. The image step of bring-up, the replay of the journal, the opening and the end of the data stage, and the installation of
units (R145, R146, R154 to R168, R188, R389). -/

namespace Sys2Proof.Machine

/-! ### Held DRAM given up; blocks accounted (R154, R188) -/

/-- The register file without the fields of a list. -/
def State.dropRegs (s : State) (l : List Field) : State := { s with regs := s.regs.filter fun e => !(l.any fun f => f.covers e.1) }

/-- DRAM's content and the hidden reserve are lost. -/
def State.forgetDram (s : State) : State :=
  let t := s.dropRegs fieldsImage
  { t with mem := [], poisoned := [], poisonList := [], poisonOvf := none, dmap := [], index := [], lsa := [], report := {}, tw := {}
           rs := { dirty := s.rs.dirty }, sec := { t.sec with keyw := [] } }

/-- R143: runs given as first block and count in turn, filled with a value. -/
def fillRuns (v : Nat) : List Nat → Segs Nat → Segs Nat
  | lo :: n :: l, m => fillRuns v l (Segs.fill m lo (lo + n) v)
  | _, m => m

/-- R188: blocks whose last erase record in the journal read is ERASING or ERASE_LIST (1), or SEALED (2). -/
def State.eraseMap (s : State) : Segs Nat :=
  s.im.log.foldl (fun m r =>
    if r.ty = jErasing then fillRuns 1 (r.args.take 2) m
    else if r.ty = jSealed then fillRuns 2 (r.args.take 2) m
    else if r.ty = jEraseList then fillRuns 1 r.args m
    else m) []

/-- R188: an erasing record on flash without a seal: the block is erased again. -/
def Blk.redo (b : Blk) : Blk := if b.st = 5 ∨ b.st = 6 ∨ b.st = 7 then b else { b with st := 2, tries := 0, tag := 0 }

/-- Blocks of the bundles known. -/
def State.members (s : State) : List Nat := s.im.bundles.flatMap fun e => e.2.members

/-- R188: SP2 accounts for every block. With no image every block but sealed and bad ones is erased anew; the seal of a sealed one is verified
again when it joins a bundle. -/
def State.account (s : State) (empty : Bool) : State :=
  let s : State := { s with fc := { s.fc with blocks := s.fc.blocks.map fun (e : Nat × Nat × Blk) =>
    (e.1, e.2.1, if e.2.2.st = 4 then { e.2.2 with again := true } else e.2.2) } }
  if empty then
    let f := fun (b : Blk) => if b.st = 4 ∨ b.st = 7 then b else { b with st := 2, tries := 0, tag := 0 }
    { s with fc := { s.fc with blocks := s.fc.blocks.map fun e => (e.1, e.2.1, f e.2.2) } }
  else
    let er := s.eraseMap
    let bs := er.foldl (fun (m : Segs Blk) e => if e.2.2 = 1 then Segs.mapIn Blk.redo e.1 e.2.1 m else m) s.fc.blocks
    let live := s.members
    let bs := bs.flatMap fun (e : Nat × Nat × Blk) =>
      if e.2.2.st = 5 ∧ live.contains e.1 = false then [(e.1, e.2.1, { e.2.2 with st := 4, again := true })] else [e]
    let t : State := { s with fc := { s.fc with blocks := bs } }
    (bs.filter fun e => e.2.2.st == 0 || e.2.2.st == 1 || e.2.2.st == 3 || e.2.2.st == 8).foldl
      (fun (a : State) e => a.listRun e.1 (e.2.1 - e.1)) t

/-- R185: SP2 has loaded the protection map: programs and erases are accepted; a retirement that waited is recorded (R190). -/
def State.armFlash (s : State) (empty : Bool) : State := (((s.account empty).wr F.FC_PROT_ARMED 1).ceilUpdate 0).norRetire

/-! ### The journal read (R145) -/

/-- R145: the RECORD Skein that a page of a journal bundle holds, on blocks none of which was erased since. -/
def State.recordAt (s : State) (b p : Nat) (mem : List Nat) : Option Skein :=
  s.im.written.find? fun k => k.ty == 3 && k.bundle == b && k.page == p && k.imageId == s.imageNum && k.members == mem

/-- R145: records joined to those read so far, newest first: those already read are skipped, and a gap in the LSNs ends the journal. -/
def joinRecs (acc : List JRec) : List JRec → List JRec × Bool
  | [] => (acc, true)
  | r :: l => match acc with
    | [] => joinRecs [r] l
    | x :: _ =>
      if r.lsn + r.count ≤ x.lsn + x.count then joinRecs acc l
      else if r.lsn = x.lsn + x.count then joinRecs (r :: acc) l
      else (acc, false)

/-- R145: the bundle the last JBUNDLE read names, and its members. -/
def namedBundle (acc : List JRec) : Option (Nat × List Nat) :=
  match acc.find? fun r => r.ty == jJbundle with
  | some r =>
    let b := r.args.headD 0
    (acc.find? fun o => o.ty == jBundleOpen && o.args.headD (b + 1) == b).map fun o => (b, o.args.drop 2)
  | none => none

/-- R145: the journal followed page by page from page p of bundle b: a page that cannot be rebuilt, `lost` or left by an abandoned Skein, is skipped;
after the last page, and after an erased one, the bundle named by the last JBUNDLE follows if its first page is programmed; otherwise an erased page
ends the journal. That an erased page with a JBUNDLE already read goes on in its bundle is DEDUCED from R152 (log 213). The records newest first, and
the bundle, page and members where it ended. -/
def State.readPages (s : State) (lost : List (Nat × Nat)) : Nat → Nat → Nat → List Nat → List JRec → List JRec × Nat × Nat × List Nat
  | 0, b, p, mem, acc => (acc, b, p, mem)
  | n + 1, b, p, mem, acc =>
    match (if p ≤ 1151 then s.recordAt b p mem else none) with
    | some k =>
      if k.dead || lost.contains (b, p) then s.readPages lost n b (p + 1) mem acc
      else match joinRecs acc k.recs with
        | (l, true) => s.readPages lost n b (p + 1) mem l
        | (l, false) => (l, b, p, mem)
    | none => match namedBundle acc with
      | some (c, m) => if c ≠ b ∧ (s.recordAt c 1 m).isSome = true then s.readPages lost n c 1 m acc else (acc, b, p, mem)
      | none => (acc, b, p, mem)

/-- R154: the RECORD Skein that an anchor's CKLOC names. -/
def State.rootSkein (s : State) (a : Anchor) : Option Skein :=
  s.im.written.find? fun k => k.ty == 3 && !k.dead && location k.bundle k.page == a.ckloc && k.imageId == s.imageNum &&
    k.members.all fun m => decide (m < 2 ^ 32)

/-- R145, R154: the journal read from an anchor, oldest first, and where it ended. -/
def State.readJournal (s : State) (a : Anchor) (lost : List (Nat × Nat)) : List JRec × Nat × Nat × List Nat :=
  match s.rootSkein a with
  | some k => let (l, e) := s.readPages lost (2 * s.im.written.length + 2) k.bundle k.page k.members []; (l.reverse, e)
  | none => ([], 0, 0, [])

/-- R145: the last page programmed of a bundle of given members. -/
def State.lastPage (s : State) (b : Nat) (mem : List Nat) : Nat :=
  ((s.im.written.filter fun k => k.bundle == b && k.members == mem).map Skein.page).foldl max 0

/-- R147: the highest LSN in a journal bundle of given members. -/
def State.bundleLsn (s : State) (b : Nat) (mem : List Nat) : Nat :=
  ((s.im.written.filter fun k => k.ty == 3 && k.bundle == b && k.members == mem).flatMap fun k =>
    k.recs.map fun r => r.lsn + r.count - 1).foldl max 0

/-- R144, R145: the journal goes on in the bundle where it ended, at the page after the last one programmed; the bundle the last JBUNDLE names
follows. -/
def State.rejoinJournal (s : State) (l : List JRec) (b : Nat) (mem : List Nat) : State :=
  let put := fun (t : State) (c : Nat) (m : List Nat) =>
    let p := t.lastPage c m + 1
    t.setBundle c { use := 2, members := m, next := p, closed := decide (1151 < p), lastLsn := t.bundleLsn c m }
  let ls := s.im.bundles.map fun (e : Nat × Bundle) =>
    (e.1, if e.2.use = 2 then { e.2 with lastLsn := s.bundleLsn e.1 e.2.members } else e.2)
  let t : State := { s with im := { s.im with bundles := ls } }
  let t := if FMap.has t.im.bundles b then State.setBundle { t with im := { t.im with jb := some b } } b ((put t b mem).bundle b)
    else { t with im := { t.im with jb := none } }
  match namedBundle l.reverse with
  | some (c, m) => if c ≠ b ∧ FMap.has t.im.bundles c = true then put { t with im := { t.im with jnext := some c } } c m
    else { t with im := { t.im with jnext := none } }
  | none => { t with im := { t.im with jnext := none } }

/-! ### Replay (R145, R146, R156) -/

/-- R143: a share's registers from its SHARE_ENTRY, but for its readiness (R33). -/
def State.loadShare (s : State) (a : List Nat) : State :=
  match a with
  | [n, base, size, cfg, grants, st, ep, pw, key] =>
    let f := fun (w : Nat) (x : Field) => natField w x.lo x.width
    let t := ((s.wri F.SHR_BASE_ADDR n (base / 2 ^ 28)).wri F.SHR_SIZE_ADDR n (size / 2 ^ 28)).wri F.SHR_CFG_EN n (f cfg F.SHR_CFG_EN)
    let t := ((t.wri F.SHR_CFG_WT_CAP n (f cfg F.SHR_CFG_WT_CAP)).wri F.SHR_CFG_RPRI n (f cfg F.SHR_CFG_RPRI)).wri F.SHR_CFG_HOT n
      (f cfg F.SHR_CFG_HOT)
    let t := ((t.wri F.SHR_CFG_MODE n (f cfg F.SHR_CFG_MODE)).wri F.SHR_HEADS_GRANT n grants).wri F.SHR_EPOCH_EPOCH n ep
    let t := (t.wri F.SHR_STATUS_MODE n (f st F.SHR_STATUS_MODE)).wri F.SHR_STATUS_REFUSE n (f st F.SHR_STATUS_REFUSE)
    { t.wri F.TW_S_PAIR n pw with sec := { t.sec with keyw := FMap.put t.sec.keyw n key } }
  | _ => s

/-- R141, R146: the segments of a pass by the INDEX_SEG records read: generation and SNAP by segment. -/
def segSnaps (pass : Nat) (l : List JRec) : FMap (Nat × Nat) :=
  l.foldl (fun m r => match r.args with
    | [k, p, _, _, g, snap] => if r.ty = jIndexSeg ∧ p = pass then FMap.put m k (g, snap) else m
    | _ => m) []

/-- R146: the index as the segments of a pass hold it. -/
def State.loadIndex (s : State) (segs : FMap (Nat × Nat)) : Segs IdxEntry :=
  segs.foldl (fun ix e => match FMap.find s.im.skeins e.2.1 with
    | some k => k.entries.foldl (fun m x => Segs.fill m x.1 x.2.1 x.2.2) ix
    | none => ix) []

/-- R146: a record of an LSN applied to a run of units: only in the segments whose SNAP it exceeds. -/
def State.replayRun (s : State) (segs : FMap (Nat × Nat)) (lsn lo hi : Nat) (e : IdxEntry) : State :=
  s.forEach ((List.range (ceilDiv hi 57344 - lo / 57344)).map (· + lo / 57344)) fun a k =>
    if (FMap.get (0, 0) segs k).2 < lsn then a.setIndex (max lo (57344 * k)) (min hi (57344 * (k + 1))) e else a

/-- R146: one SKEIN_COMMIT: each non-void slot's unit is LOCATED there. -/
def State.replayCommit (s : State) (segs : FMap (Nat × Nat)) (lsn : Nat) (a : List Nat) : State :=
  match a with
  | g :: _ :: _ :: _ :: us =>
    ((List.range us.length).zip us).foldl (fun (b : State) p =>
      if p.2 = 0xFFFFFFFF then b else b.replayRun segs lsn p.2 (p.2 + 1) (.slot g p.1)) s
  | _ => s

/-- R146, R156: one record of the journal applied. -/
def State.replayRec (s : State) (segs : FMap (Nat × Nat)) (r : JRec) : State :=
  let t := if r.ty = jSkeinCommit then s.replayCommit segs r.lsn r.args
    else if r.ty = jShareEntry then s.loadShare r.args
    else match r.args with
    | lo :: n :: _ =>
      if r.ty = jReleaseRun then s.replayRun segs r.lsn lo (lo + n) .released
      else if r.ty = jZeroRun then s.replayRun segs r.lsn lo (lo + n) .zero
      else if r.ty = jBundleOpen then
        s.setBundle lo { use := n, members := r.args.drop 2, next := 1152, closed := true, lastLsn := r.lsn }
      else if r.ty = jShutdown then
        ((List.range 16).zip r.args).foldl (fun (a : State) p =>
          (a.wri F.HP_SHUT_DSC p.1 (p.2 / 2 ^ 32)).wri F.HP_SHUT_DIRTY p.1 (p.2 % 2)) s
      else s
    | [b] => if r.ty = jBundleFree then { s with im := { s.im with bundles := FMap.del s.im.bundles b } } else s
    | [] => s
  match r.pay with
  | .none => t
  | .cells l =>
    let k := r.args.headD 0
    { t with lsa := l.foldl (fun m c => memPut m c.1 c.2) (memZero t.lsa (k * 131072) ((k + 1) * 131072)) }
  | .poison l => { t with poisonList := if r.args.getD 0 0 = 0 then l else t.poisonList ++ l }
  | .fronts l => { t with report := { t.report with gen := r.args.headD 0, fronts := if r.args.getD 1 0 = 0 then l else t.report.fronts ++ l } }
  | .losses tr ov x l =>
    { t with report := { t.report with trunc := tr, ovf := ov, xunits := x, losses := if r.args.getD 1 0 = 0 then l else t.report.losses ++ l } }
  | .twin ses pre ser des runs =>
    if r.args.getD 0 0 ≠ 0 then { t with tw := { t.tw with mapCur := t.tw.mapCur ++ runs } }
    else
      let ds := des.map fun d => { own := 0, peer := d.1, pairid := d.2, size := 0, ok := true, via := none : Desig }
      let u : State := { t with tw := { t.tw with mapCur := runs, mapPrev := [], pairSerial := ser, desigs := ds } }
      (u.wr F.TW_PAIR_SESSION ses).wr F.TW_ISEQ_VALUE pre

/-- R152, R154: the class and result of an image from the records since its anchor's CKLSN. A CLOSE counts only with a valid anchor of its
generation: one whose copies were never valid left the Save unclosed (DEDUCED, log 211). -/
def imageClass (ckLsn : Nat) (gens : List Nat) (l : List JRec) : Nat × Nat :=
  (l.filter fun r => decide (ckLsn ≤ r.lsn)).foldl (fun c r =>
    if r.ty = jSaveStart then (3, 4)
    else if r.ty = jClose then (match r.args with
      | g :: res :: _ => if !gens.contains g then (3, 4) else if res = 1 then (1, 1) else (2, res)
      | _ => c)
    else if r.ty = jSkeinCommit ∧ (c.1 = 1 ∨ c.1 = 2) then (3, 4)
    else c) (3, 4)

/-- The generations a location index names. -/
def namedGens (ix : Segs IdxEntry) : List Nat := (ix.filterMap fun e => match e.2.2 with | .slot g _ => some g | _ => none).eraseDups

/-- R146, R156: the index is loaded from the segments of the anchor's pass and the journal read is applied; Skeins that the index does not then
name, and segments of other passes, are no part of the image. A defined share is PENDING (R33). -/
def State.replay (s : State) (a : Anchor) (l : List JRec) (b : Nat) (mem : List Nat) : State :=
  let segs := segSnaps a.pass l
  let nxt := match l.getLast? with | some r => r.lsn + r.count | none => 1
  let t : State := { s with index := s.loadIndex segs, im := { s.im with log := l, nextLsn := nxt, bundles := [], pass := max s.im.pass a.pass
                                                                         segs := segs.map fun e => (a.pass, e.1, e.2.1) } }
  let t := (l.foldl (fun a r => a.replayRec segs r) t).rejoinJournal l b mem
  let gens := namedGens t.index
  let segGens := segs.map fun e => e.2.1
  let t : State := { t with im := { t.im with skeins := t.im.skeins.filter fun e => if e.2.ty = 1 then gens.contains e.1 else segGens.contains e.1 } }
  (t.wr F.FC_LSN_LSN (nxt - 1)).forEach (List.range 64) fun a n =>
    let a := a.wri F.SHR_STATUS_TARGET n 7
    if a.shDefined n then a.setShState n shPending else a

/-! ### The registers of the last Save (R130) -/

/-- R130: the registers of the last Save from the journal read: SAVE_START's and, but for an unclosed Save, CLOSE's; what no record carries
reads 0 (DESIGN CHOICE, log 212). -/
def State.loadSave (s : State) (l : List JRec) (result : Nat) : State :=
  let t := (s.wr F.SPN_SAVE_RESULT result).wr F.SPN_GEN_GEN s.im.manGen
  let t := match (l.reverse.find? fun r => r.ty == jSaveStart).map JRec.args with
    | some (reason :: trig :: weir :: resid :: rate :: _) =>
      let t := ((t.wr F.SPN_SAVE_REASON reason).wr F.SPN_SAVE_TRIGA (trig / 4 % 2)).wr F.SPN_SAVE_TRIGB (trig / 2 % 2)
      let t := ((t.wr F.SPN_SAVE_TRIGL (trig % 2)).wr F.SPN_SRES_WEIR weir).wr F.SPN_SRES_RESID resid
      (t.wr F.SPN_SRATE_START rate).wr F.SPN_SAVE_OVH (bit01 (decide (weir * 2 ^ 30 < resid * 4096)))
    | _ => t
  match (if result = 4 then none else (l.reverse.find? fun r => r.ty == jClose).map JRec.args) with
  | some (_ :: _ :: saved :: lost :: us :: _) => ((t.wr F.SPN_SUNITS_SAVED saved).wr F.SPN_SUNITS_LOST lost).wr F.SPN_STIME_TOTAL us
  | _ => t

/-! ### Shares in the data stage (R28, R33, R157, R158, R160) -/

/-- Units of share n that are ABSENT. -/
def State.absentIn (s : State) (n : Nat) : Nat := Segs.count (fun v => v == 1) (s.shLo n) (s.shHi n) s.rs.rmap

/-- Units ABSENT in all. -/
def State.absentAll (s : State) : Nat := (s.rs.rmap.map fun e => if e.2.2 == 1 then e.2.1 - e.1 else 0).foldl (· + ·) 0

/-- The shares defined. -/
def State.shares (s : State) : List Nat := (List.range 64).filter s.shDefined

/-- R28: the share whose turn it is: the highest RPRI, then the lowest number, among those with ABSENT units. -/
def State.turn (s : State) : Option Nat :=
  (s.shares.filter fun n => s.absentIn n != 0).foldl (fun a n => match a with
    | none => some n
    | some m => if s.rdi F.SHR_CFG_RPRI m < s.rdi F.SHR_CFG_RPRI n then some n else some m) none

/-- R26, R33, R354: the state a share without ABSENT units takes. -/
def State.doneState (s : State) (n : Nat) : Nat := if s.shMode n = mdSealed ∧ s.keyHere n = false then shLocked else shReady

/-- R158, R389: a share with no ABSENT unit becomes READY, or LOCKED, once it may. -/
def State.settleShare (s : State) (n : Nat) : State :=
  if [shPending, shRestoring, shHot].contains (s.shState n) && s.absentIn n == 0 && (s.admitted || s.shMode n == mdVolatile) then
    (s.setShState n (s.doneState n)).event 0x5003 [n, s.ck.mono - s.rs.dataAt]
  else s

/-- R160: restore completes: from RESTORE to SERVICE, or in SERVICE after a resumed restore. -/
def State.restoreEnd (s : State) : State :=
  let busy := s.shares.any fun n => [shPending, shRestoring, shHot].contains (s.shState n)
  let stage := s.rd F.SPN_RST_STAGE
  if busy || !(stage == 2 || stage == 3) then s
  else
    let lost := s.rd F.SPN_RLOSS_UNREC + s.rd F.SPN_RLOSS_TAGMIS
    let t := (s.wr F.SPN_RST_STAGE 4).event 0x5004 [s.ck.mono - s.rs.dataAt, lost]
    let t := t.wr F.SPN_RTIME_DATA ((t.ck.mono - t.rs.dataAt) / 1000000)
    if t.phase = phRestore then ((t.enterPhase phService 0x0E).countShutdown (t.rd F.SPN_RST_ADOPT == 0)).updReady else t.updReady

/-- R28, R158, R160: shares follow the units installed; the share in turn becomes RESTORING; restore ends when none is left. -/
def State.settleShares (s : State) : State :=
  let t := s.forEach s.shares State.settleShare
  let t := if t.rd F.SPN_RST_STAGE = 2 ∨ t.rd F.SPN_RST_STAGE = 3 then
      match t.turn with
      | some n => if t.shState n = shPending then t.setShState n shRestoring else t
      | none => t
    else t
  t.restoreEnd.settleMr.updReady

/-- R193: re-skeining resumes from its checkpoint in the hidden reserve, or from NOR when DRAM was not adopted. -/
def State.resumeReskein (s : State) : State :=
  let c := if s.flag F.SPN_RST_ADOPT then s.fc.ckpt else s.fc.ckptNor
  match s.fc.queue.head? with
  | none => s
  | some t =>
    if c.1 = 0 ∨ s.rd F.FC_RSK_STATE ≠ 0 then s
    else
      let a : State := { s with fc := { s.fc with rskAt := s.ck.mono, rskMoved := 0, rskTotal := ((s.bundlesOf t).flatMap s.liveIn).length
                                                  rskPass := s.im.pass + 1 } }
      ((a.wr F.FC_RSK_STATE c.1).wr F.FC_RSK_TARGET t).wr F.FC_RSK_BUNDLE c.2

/-- R17, R53, R198: hosts are served again: Twine opens, links train, the next pass begins. -/
def State.serve (s : State) : State := (s.twineServe.trainLinks.resumePass.resumeReskein.settleMr).updReady

/-- R82, R157, R159, R165: the data stage opens. -/
def State.openData (s : State) : State :=
  let loc := s.shares.flatMap fun n => if s.shMode n = mdVolatile then []
    else (Segs.within (s.shLo n) (s.shHi n) s.index).filter fun e => match e.2.2 with | .slot _ _ => true | _ => false
  let zero := s.shares.foldl (fun (m : Segs Nat) n => Segs.fill m (s.shLo n) (s.shHi n) 2) []
  let rmap := loc.foldl (fun m e => Segs.fill m e.1 e.2.1 1) zero
  let losses := s.report.losses.flatMap s.lossRuns
  let listed := losses.filter fun l => l.cause == 1 || l.cause == 4
  let t : State := { s with rs := { s.rs with rmap := rmap, listed := listed, ready := false, dataAt := s.ck.mono, source := 1 }
                            report := { s.report with losses := losses, source := 1 } }
  let marks := t.poisonList.foldl (fun (m : Segs Bool) p => Segs.fill m p.line (p.line + p.len) true) []
  let marks := rmap.foldl (fun (m : Segs Bool) e => if e.2.2 = 2 then Segs.cut (e.1 * 64) (e.2.1 * 64) m else m) marks
  let t := State.prunePoison { t with poisoned := marks }
  let bare := listed.flatMap fun l => (Segs.within l.lo (l.lo + l.units) rmap).filter fun e => e.2.2 == 2
  let t := bare.foldl (fun (a : State) e => a.forEach ((List.range (e.2.1 - e.1)).map (· + e.1)) fun b u => (b.poisonUnit u).setPresent u) t
  let t := t.forEach t.shares fun a n =>
    if a.shMode n = mdVolatile then (a.setShState n shReady).event 0x5003 [n, 0]
    else a.setShState n (if a.flagi F.SHR_CFG_HOT n then shHot else shPending)
  let n := t.absentAll
  let t := (((t.voidQueues.wr F.SPN_RST_STAGE 2).wr F.SPN_RUNITS_TOTAL n).wr F.SPN_RUNITS_DONE 0).enterPhase phRestore 0x0D
  (t.event 0x5002 [n]).serve.settleShares

/-! ### The image step (R154, R155, R168, R386) -/

/-- Steps 8 and 9 of bring-up have ended with the processors running, and the image step has not yet begun. -/
def State.imageDue (s : State) : Bool :=
  s.phase == phBringup && s.mc.trained && s.mpRuns && s.spRuns 1 && s.spRuns 2 && !s.rs.imageDone && s.rd F.SPN_RST_STAGE == 0 &&
    s.rd F.CK_STS_STATE == 2 && (List.range 64).all fun c => (s.chan c).trained || (s.chan c).retired

/-- R17, R26, R389: a bring-up that leads to SERVICE enters it at once; all but VOLATILE shares wait PENDING for admission. -/
def State.toService (s : State) : State :=
  let t := s.forEach s.shares fun a n => a.setShState n (if a.shMode n = mdVolatile then shReady else shPending)
  let t : State := { t.voidQueues with rs := { t.rs with imageDone := true, dataAt := t.ck.mono } }
  ((t.enterPhase phService 0x0D).snapWrite.countShutdown (t.rd F.SPN_RST_ADOPT == 0)).serve.settleShares

/-- R131, R154: no confirmed image: a provisional identity is erased, and generations start again. -/
def State.emptyImage (s : State) : State :=
  let t := s.forgetDram
  let t : State := { t with im := { written := t.im.written, anchored := t.im.anchored }, sv := { t.sv with owed := false } }
  let t := ((t.wr F.MR_GEN_NEXT 1).wr F.SPN_RST_CLASS 0).wr F.SPN_SAVE_RESULT 0
  ((t.armFlash true).event 0x5001 [0, 0, 0]).toService

/-- R155: the image check requests recovery; the image is untouched. Checks: 0 flash layout, 1 capacity, 2 no valid anchor. -/
def State.imageRecovery (s : State) (check : Nat) : State :=
  ((s.wr F.SPN_RST_CLASS (if check = 2 then 4 else s.rd F.SPN_RST_CLASS)).event 0x5008 [check]).enterRecoveryPhase 2

/-- R155: the flash found at this bring-up differs from what an anchor names. -/
def State.otherFlash (s : State) (a : Anchor) : Bool := match s.fc.geo with | some g => g != a.geo | none => false

/-- R168, R341: DRAM held in self-refresh may be adopted: the generation in the hidden reserve is the newest anchor's, and the restore map passes
its CRC, whose outcome is left open (log 216). -/
def State.adoptable (s : State) (a : Anchor) : Bool :=
  s.pw.dram && s.im.manGen == a.gen && a.kind != 1 && s.fw.layout == s.fw.savedLayout && Config.selfTest s.fw.boots 3

/-- R168: a data stage is resumed by adoption. -/
def State.resumeData (s : State) : State :=
  let t := s.forEach s.shares fun a n =>
    a.setShState n (if a.shMode n = mdVolatile then shReady else if a.absentIn n != 0 && a.flagi F.SHR_CFG_HOT n then shHot else shPending)
  let n := t.absentAll
  let t : State := { t with rs := { t.rs with dataAt := t.ck.mono, ready := false } }
  let t := ((t.voidQueues.wr F.SPN_RST_STAGE 2).wr F.SPN_RUNITS_TOTAL n).enterPhase phRestore 0x0D
  let gone := (t.shares.map fun n => Segs.count (fun v => v == 1 || v == 2) (t.shLo n) (t.shHi n) t.rs.rmap).foldl (· + ·) 0
  (t.event 0x5009 [((t.shares.map fun n => t.shHi n - t.shLo n).foldl (· + ·) 0) - gone]).serve.settleShares

/-- R110, R132, R168: DRAM is adopted, with the bucket and the next generation left in the hidden reserve: PRESENT units and the index are kept;
ABSENT units wait for admission and a resumed data stage. -/
def State.adopt (s : State) (a : Anchor) : State :=
  let t := (((s.wr F.MR_GEN_NEXT s.im.nextGen).wr F.SPN_RST_ADOPT 1).wr F.SPN_RST_GEN a.gen).wr F.SPN_RST_CLASS (if a.result = 1 then 1 else 2)
  let t : State := { t with mr := { t.mr with bucket := t.mr.reserve.getD t.mr.bucket, reserve := none } }
  let t := (t.omitUnsaved 3).armFlash false
  if t.absentAll = 0 then t.toService
  else
    let t : State := { t with rs := { t.rs with imageDone := true, ready := true, source := 3 } }
    if t.admitted then t.resumeData else t.updReady

/-- R351: RGEN is drawn at a bring-up without adoption. -/
def State.drawRgen (s : State) : State := { s.skipDrbg with sec := { s.sec with rgen := s.drbgVal % 2 ^ 64 } }

/-- R154: preparation begins; RGEN is drawn (R351). -/
def State.prepare (s : State) : State :=
  let t := s.forgetDram
  let t : State := { t.drawRgen with rs := { t.rs with prepAt := s.ck.mono }, pw := { t.pw with dram := false } }
  t.wr F.SPN_RST_STAGE 1

/-- The image step (R131, R154, R155, R168, R362): a pending discard and a provisional identity are erased; a confirmed image is adopted,
prepared, or brings recovery. -/
def State.imageTurn (s : State) : State :=
  if s.flag F.SEC_STS_DISCPEND then
    (State.wr { s.drawRgen with im := { s.im with imageId := none } } F.SEC_STS_DISCPEND 0).emptyImage
  else match s.im.imageId with
    | some (_, true) =>
      match s.anchor with
      | none => s.imageRecovery 2
      | some a =>
        if s.otherFlash a then s.imageRecovery 0
        else if s.rd F.SHR_CAP_VISIBLE * 65536 < a.units then s.imageRecovery 1
        else if s.adoptable a then s.adopt a
        else s.prepare
    | _ => s.drawRgen.emptyImage

/-- The image step when it is due; below the lower bound of Tj it waits (R420), and while the DRBG is stopped one that draws RGEN does (R358). -/
def State.imageStep (s : State) : State :=
  if !s.imageDue || s.tooCold then s
  else if s.flag F.SEC_STS_DRBGOK || s.imageTurn.drbgCtr == s.drbgCtr then s.imageTurn
  else s

/-! ### Preparation ends (R156, R165, R166) -/

/-- R154, R156: the newest anchor chosen whose root record can be rebuilt, the journal read and replayed, the image classified, the blocks
accounted. `bad` are the generations of anchors without a valid copy, `lost` the pages that cannot be rebuilt. -/
def State.prepared (s : State) (bad : List Nat) (lost : List (Nat × Nat)) : State :=
  let root := fun (a : Anchor) => match s.rootSkein a with | some k => !lost.contains (k.bundle, k.page) | none => false
  match (s.im.anchors.filter fun a => !bad.contains a.gen).dropWhile fun a => !root a with
  | [] => s.imageRecovery 2
  | a :: l =>
    if s.otherFlash a then s.imageRecovery 0
    else if s.rd F.SHR_CAP_VISIBLE * 65536 < a.units then s.imageRecovery 1
    else
      let (recs, b, _, mem) := s.readJournal a lost
      let c := imageClass a.cklsn ((a :: l).map Anchor.gen) recs
      let man := (((a :: l).filter fun x => x.kind != 1).map Anchor.gen).headD 0
      let t : State := { s with im := { s.im with anchors := a :: l, manGen := man } }
      let t := (t.wr F.MR_GEN_NEXT t.im.nextGen).replay a recs b mem
      let t := (t.armFlash false).loadSave (recs.filter fun r => decide (a.cklsn ≤ r.lsn)) c.2
      let t := if c.1 = 3 then { t with report := { t.report with trunc := true, fronts := [] } } else t
      let t : State := { t with report := { t.report with grants := (List.range 64).map fun n => (n, t.rdi F.SHR_HEADS_GRANT n) }
                                sv := { t.sv with result := c.2, owed := true
                                                  dirtyHeads := (List.range 16).foldl (fun m k =>
                                                    if t.flagi F.HP_SHUT_DIRTY k then m + 2 ^ k else m) 0 } }
      let t := (t.wr F.SPN_RST_CLASS c.1).wr F.SPN_RST_GEN a.gen
      let t := t.wr F.SPN_RTIME_PREP ((t.ck.mono - t.rs.prepAt) / 1000000)
      let t := t.event 0x5001 [c.1, a.gen, t.ck.mono - t.rs.prepAt]
      let t : State := { t with rs := { t.rs with imageDone := true, ready := true, source := 1 } }
      if t.admitted then t.openData else t.updReady

/-! ### Units installed (R138, R159, R161, R165) -/

/-- R159: a unit is listed UNSAVED or DRAM_UNCORRECTABLE. -/
def State.isListed (s : State) (u : Nat) : Bool := s.rs.listed.any fun l => decide (l.lo ≤ u) && decide (u < l.lo + l.units)

/-- R165: a unit enters the loss report; its tickets complete LOST. -/
def State.loseUnit (s : State) (u cause : Nat) : State :=
  let n := (s.shareOf u).getD 0
  let g := match s.idx u with | .slot g _ => g | _ => 0
  let t : State := { s with report := s.report.put { share := n, lo := u, units := 1, cause := cause, lgen := g } }
  let t := if cause = 2 then t.bump F.SPN_RLOSS_UNREC else t.bump F.SPN_RLOSS_TAGMIS
  (t.event 0x5005 [cause, u * 4096]).lostLines (u * 64) (u * 64 + 64)

/-- R159: a unit takes its slot's content, with the lines of PMASK poisoned. -/
def State.fillUnit (s : State) (u : Nat) (x : Slot) : State :=
  let mem := x.cells.foldl (fun m c => memPut m (u * 4096 + c.1) c.2) (memZero s.mem (u * 4096) (u * 4096 + 4096))
  let bad := (List.range 64).filter (natBit x.pmask)
  let t : State := { s with mem := mem, poisoned := Segs.cut (u * 64) (u * 64 + 64) s.poisoned }
  let t := bad.foldl (fun (a : State) i => a.poisonLine (u * 64 + i) 2) t
  let t := (t.rs.injected.filter fun l => l / 64 == u).foldl (fun (a : State) l => a.poisonLine l 0) t
  State.prunePoison { t with rs := { t.rs with injected := t.rs.injected.filter fun l => l / 64 != u } }

/-- R161, R201: a line merged in a unit after its fetch: the copies that wait in the outbound buffers take the merged bytes. -/
def State.patchOut (s : State) (line : Nat) : State :=
  match s.shareOf (line / 64) with
  | none => s
  | some n =>
    if s.role n != 1 then s
    else
      let d := memLine s.mem (line * 64)
      let f := fun (i : OutItem) => match i with
        | .line q sh off x p => if sh = s.peershr n ∧ off = line - s.shLo n * 64 then .line q sh off d p else .line q sh off x p
        | m => m
      { s with tw := { s.tw with q0 := s.tw.q0.map f, q1 := s.tw.q1.map f } }

/-- R161: the lines that waited in ingress for a unit are merged, in order. -/
def State.mergeWaits (s : State) (u : Nat) : State :=
  let l := s.rs.waits.filter fun w => w.line / 64 == u
  let t : State := { s with rs := { s.rs with waits := s.rs.waits.filter fun w => w.line / 64 != u } }
  l.foldl (fun (a : State) w =>
    let b := a.storeLine w.line w.data w.be w.poison
    if w.be = BitVec.allOnes 64 then b else b.patchOut w.line) t

/-- R159, R161: an ABSENT unit is installed: `cause` 0 with its slot's content, 2 or 3 lost; writes that wait are merged. -/
def State.installUnit (s : State) (u cause : Nat) (x : Slot) : State :=
  let t := if s.isListed u then s.poisonUnit u
    else if cause = 0 then s.fillUnit u x
    else (s.loseUnit u cause).poisonUnit u
  let t : State := { (t.setPresent u).bump F.SPN_RUNITS_DONE with
    rs := { (t.setPresent u).rs with handed := t.rs.handed.filter (· != u) } }
  t.mergeWaits u

/-- R181, R189, R194: Strand j of a Skein is not intact after read-retry; 16 such Strands of distinct blocks of a target within 24 h retire it. -/
def State.notIntact (s : State) (k : Skein) (j : Nat) : State :=
  match s.strandBlk k j with
  | none => s
  | some m =>
    let x := s.tgt (blkTgt m)
    let l := (m, s.ck.mono) :: x.uncor.filter fun e => e.1 != m && decide (s.ck.mono < e.2 + 86400000000000)
    let t := (s.setTgt (blkTgt m) { x with uncor := l }).bump F.FC_ERR_UNCOR
    let t := t.event 0x6006 [blkTgt m, m % 4096, k.page]
    if 16 ≤ l.length then t.retire (blkTgt m) 3 else t

/-- R159: a Strand rebuilt from parity: it counts, and its Skein goes to re-skeining. -/
def State.strandRebuilt (s : State) (k : Skein) (j : Nat) : State :=
  let rec_ := if s.fc.reclaim.contains k.bundle then s.fc.reclaim else s.fc.reclaim ++ [k.bundle]
  (State.bump { s with fc := { s.fc with reclaim := rec_ } } F.SPN_RBLD_STRANDS).event 0x5006 [k.bundle, k.page, j]

/-- R181: the reads of a Strand in turn, at most eight: how many are made until one decodes, the errors of the last, and whether it does. -/
def readLadder (reads : List (List Nat)) : Nat × List Nat × Bool :=
  let l := (if reads.isEmpty then [[]] else reads).take 8
  match (indexed l).find? fun p => pageDecodes 72 p.2 with
  | some p => (p.1 + 1, p.2, true)
  | none => (l.length, l.getLastD [], false)

/-- R137, R175, R181, R189: Strand j of a Skein is read with read-retry; whether it is intact. -/
def State.retryRead (s : State) (k : Skein) (j : Nat) (reads : List (List Nat)) : State × Bool :=
  let (n, last, ok) := readLadder reads
  if !s.strandThere k j then (s, false)
  else
    let t := if n = 1 then s else (s.bump F.SPN_RBLD_RETRY).bump F.FC_RRT_RETRY
    let t := t.strandReads k j n last
    let ok := ok && !t.fc.tmoReads.contains (k.gen, j)
    let t : State := { t with fc := { t.fc with tmoReads := t.fc.tmoReads.filter (· != (k.gen, j)) } }
    (if ok then t else t.notIntact k j, ok)

/-- R159: Strand j of a Skein is not intact: it is rebuilt where 28 of the others are; whether it is. -/
def State.tryRebuild (s : State) (k : Skein) (j : Nat) (others : List Nat) : State × Bool :=
  if s.rebuilds k j others then ((s.rebuildReads k j).strandRebuilt k j, true) else (s, false)

/-- R159, R161, R179: a fetch or heal reads a Strand once, unless it rebuilds at once, and rebuilds it where it is not intact; whether
the slot is held. -/
def State.fetchRead (s : State) (atOnce : Bool) (k : Skein) (j : Nat) (flips others : List Nat) : State × Bool :=
  let read := !atOnce && s.strandThere k j
  let t := if read then s.strandReads k j 1 flips else s
  if read && pageDecodes 72 flips then (t, true) else t.tryRebuild k j others

end Sys2Proof.Machine
end

