-- ==== Sys2Proof/Machine/Clock.lean ====
section
/-! DEFINITION. Clocks and time: the monitors, the clock states, trimming, the servo, the time counter and its uncertainty, PPS_OUT,
alarms and CLKMON_OUT (R20, R294 to R308). -/

namespace Sys2Proof.Machine

/-! ### Clock states (R224, R296) -/

/-- The clocks run: no sleep is in force. -/
def State.clocksRun (s : State) : Bool := s.ck.sleep.isNone && s.phase != phOff && s.phase != phDormant

/-- R224: the memory channels move to or from the fallback rate: idle reads take 15 ns longer at it; event 0x800C. -/
def State.memRate (s : State) (lfo : Bool) : State :=
  if s.flag F.MC_STAT_LFO = lfo then s
  else
    let t := (s.wr F.MC_STAT_LFO (bit01 lfo)).event 0x800C [if lfo then 4800 else s.rd F.MC_STAT_RATE]
    t.forEach ((List.range 16).filter fun k => t.headUp k) fun a k =>
      a.wri F.HP_LAT_IDLE k (if lfo then a.rdi F.HP_LAT_IDLE k + 15 else a.rdi F.HP_LAT_IDLE k - 15)

/-- R295, R296: the clock subsystem enters a state. As BOSC fails, a PLL that had moved past REFCLK_P/N stays on the LFO; in a move toward BOSC
every PLL locks on the new reference, one that had stopped too (DEDUCED, log 204). -/
def State.setClock (s : State) (st cause : Nat) : State :=
  let t := s.clockState st cause
  let fell := st = 3 ∧ s.rd F.CK_STS_STATE = 2
  let stay := if fell then s.ck.plls.filter fun e => e.2 == 2 else []
  let t : State := { t with ck := { t.ck with plls := stay } }
  let t : State := if st = 4 ∨ fell then t else { t.wr F.CK_STS_LOCK 15 with ck := { t.ck with stopped := [] } }
  ((t.memRate ((st == 4 || FMap.get 0 stay 2 == 2) && t.mc.trained)).lockTraining).updReady

/-- R295: a monitor trips: it counts and event 0xB002 is recorded. Clocks: 0 REFCLK_P/N, 1 BOSC, 2 to 5 the PLLs, 6 the LFO, 7 the AOSC. -/
def State.trip (s : State) (clock test : Nat) : State := (s.bump F.CK_STS_TRIPS).event 0xB002 [clock, test]

/-- R295: a PLL cannot lock on the LFO: its domain stops. -/
def State.pllStop (s : State) (p : Nat) : State :=
  if s.ck.stopped.contains p then s
  else State.event { s.setBit F.CK_STS_LOCK p false with ck := { s.ck with stopped := p :: s.ck.stopped } } 0xB005 [p]

/-- R20, R295: a PLL moves to the next source: 1 REFCLK_P/N, 2 the LFO; without the LFO its domain stops. -/
def State.pllTo (s : State) (p n : Nat) : State :=
  if n = 2 ∧ s.ck.lfoOut = true then s.pllStop p
  else
    let t : State := { s with ck := { s.ck with plls := FMap.put s.ck.plls p n } }
    if p = 2 then t.memRate (n == 2) else t

/-- R199: both Twine links lose their reference. -/
def State.twineNoRef (s : State) : State :=
  s.forEach [0, 1] fun a p => if [1, 2, 3, 4].contains (a.rdi F.TW_PORT_STATE p) then a.twineDown p 2 else a

/-- R53: the head links lose their reference. -/
def State.headsNoRef (s : State) : State :=
  s.forEach (List.range 16) fun a k => if a.headExists k && decide (2 ≤ a.rdi F.HP_LINK_STATE k) then a.linkDown k else a

/-- R20, R295, R296: the clocks fall to the LFO; without it they stop. -/
def State.toLfo (s : State) (cause : Nat) : State :=
  let t := (s.setClock 4 cause).twineNoRef
  if t.ck.lfoOut then t.forEach [0, 1, 2, 3] State.pllStop else t

/-- R17, R295: a Save whose core, memory or flash PLL has stopped ends unclosed. -/
def State.clockFail (s : State) : State :=
  if s.phase = phSave ∧ s.ck.stopped.any (· != 1) = true then s.failSave else s

/-- R101, R119, R296: BOSC fails: REFCLK_P/N or the LFO drives the PLLs, the fallback Weir loads, a Save goes on at a lower rate. -/
def State.boscTrip (s : State) (test : Nat) : State :=
  let t := (s.trip 1 test).wr F.CK_STS_BOSCOK 0
  let t := if t.flag F.CK_STS_REFOK then t.setClock 3 1 else t.toLfo 1
  let t := (t.fallbackWeir 2).reflectEvent 2
  if t.phase = phSave then ((t.wr F.SPN_SAVE_CLKLOSS 1).recompute 2).clockFail else t

/-- R297, R307: the LFO takes a trim in 0.1 % steps; event 0xB009 with oscillator 1. -/
def State.trimLfo (s : State) (trim : Int) : State :=
  (s.wr F.CK_TRIM_LFO (signedIn 8 trim)).event 0xB009 [1, signedIn 32 (trim - signedOf 8 (s.rd F.CK_TRIM_LFO)), s.rd F.CK_TRIM_SRC]

/-- CLOCK_CHECK_RETRY (R296): the 100 ms retry in BOSC_START fails, with REFCLK_P/N passing or not; after three failures with it passing the
PLLs lock on it. -/
def execClockCheckRetry (ref : Bool) (s : State) : Answer :=
  let t := s.begin
  if t.rd F.CK_STS_STATE ≠ 1 ∨ t.clocksRun = false then .next t
  else if !ref then
    let t := (t.wr F.CK_STS_REFOK 0).wr F.CK_STS_CLKFAULT 1
    let due := match t.ck.faultAt with | some w => decide (w + 10000000000 ≤ t.ck.mono) | none => true
    if due then .next (State.event { t with ck := { t.ck with faultAt := some t.ck.mono } } 0xB004 [0]) else .next t
  else
    let n := t.ck.starts + 1
    let t : State := { t.wr F.CK_STS_REFOK 1 with ck := { t.ck with starts := n } }
    if n < 3 then .next t
    else
      let t := t.event 0xB003 [n]
      .next (State.setClock { t with ck := { t.ck with fromStart := true } } 3 0)

/-- BOSC_START_CHECK_PASS (R274, R296): BOSC passes its check: the PLLs lock on it, the LFO is trimmed against it, and power-up step 8 goes
on. -/
def execBoscStartCheckPass (lfo : Int) (s : State) : Answer :=
  let t := s.begin
  if t.rd F.CK_STS_STATE ≠ 1 ∨ t.clocksRun = false then .next t
  else
    let t := (((t.wr F.CK_STS_REFOK 1).wr F.CK_STS_BOSCOK 1).wr F.CK_STS_CLKFAULT 0).trimLfo lfo
    let t : State := { t with ck := { t.ck with starts := 0, fromStart := false } }
    .next (((t.setClock 2 0).powerAdvance 2).imageStep)

/-- BOSC_MONITOR_TRIP (R295, R296): BOSC's monitor trips: test 0 missing edge, 1 amplitude, 2 frequency. -/
def execBoscMonitorTrip (test : Nat) (s : State) : Answer :=
  let t := s.begin
  if t.rd F.CK_STS_STATE = 2 ∧ t.clocksRun = true then .next (t.boscTrip test) else .next t

/-- REFCLK_MONITOR_TRIP (R20, R295, R296): the head links lose their reference; in REFCLK_FB the PLLs move to the LFO, in BOSC those that had
moved to REFCLK_P/N. -/
def execRefclkMonitorTrip (test : Nat) (s : State) : Answer :=
  let t := s.begin
  if !t.flag F.CK_STS_REFOK || !t.clocksRun then .next t
  else
    let t := ((t.trip 0 test).wr F.CK_STS_REFOK 0).headsNoRef
    if t.rd F.CK_STS_STATE = 3 then .next (t.toLfo 2).clockFail
    else .next (t.forEach ((List.range 4).filter fun p => FMap.get 0 t.ck.plls p == 1) fun a p => a.pllTo p 2).clockFail

/-- REFCLK_RETURN (R296): REFCLK_P/N has passed its monitor for 10 ms; in SAVE no source moves. -/
def execRefclkReturn (s : State) : Answer :=
  let t := s.begin
  if !t.clocksRun then .next t
  else
    let t := t.wr F.CK_STS_REFOK 1
    if t.phase = phSave then .next t
    else
      let t := if t.rd F.CK_STS_STATE = 4 then t.setClock 3 3 else t
      .next (if t.serving then t.trainLinks else t)

/-- BOSC_RETURN (R296): the restarted BOSC has passed its checks for 60 s in SERVICE or RESTORE. -/
def execBoscReturn (s : State) : Answer :=
  let t := s.begin
  if (t.rd F.CK_STS_STATE = 3 ∨ t.rd F.CK_STS_STATE = 4) ∧ t.serving = true ∧ t.clocksRun = true then
    let t : State := { t with ck := { t.ck with fromStart := false } }
    .next (((t.wr F.CK_STS_BOSCOK 1).setClock 2 3).trainLinks)
  else .next t

/-- PLL_LOCK_LOSS (R295): PLL p (0 core, 1 management, 2 memory, 3 flash) loses lock; after its third loss within 1 s it moves to the next
source, and past the LFO its domain stops: of what a stopped domain no longer does, the links, the Weir and a Save follow here (log 205). -/
def execPllLockLoss (p : Nat) (s : State) : Answer :=
  let t := s.begin
  if 4 ≤ p ∨ t.clocksRun = false ∨ t.ck.stopped.contains p = true then .next t
  else
    let l := t.ck.mono :: (FMap.get [] t.ck.losses p).filter fun w => decide (t.ck.mono < w + 1000000000)
    let t := State.trip { t with ck := { t.ck with losses := FMap.put t.ck.losses p (if l.length < 3 then l else []) } } (2 + p) 0
    if l.length < 3 then .next t
    else
      let base := if t.rd F.CK_STS_STATE = 2 then 0 else if t.rd F.CK_STS_STATE = 3 then 1 else 2
      let cur := max base (FMap.get 0 t.ck.plls p)
      let nxt := if cur = 0 ∧ t.flag F.CK_STS_REFOK = true then 1 else 2
      .next (if cur = 2 then t.pllStop p else t.pllTo p nxt).clockFail

/-- LFO_MONITOR_TRIP (R20, R295): the LFO leaves every fallback order until the next bring-up; PLLs that run from it stop: all before a
main PLL has locked and in LFO_FB. -/
def execLfoMonitorTrip (s : State) : Answer :=
  let t := s.begin
  if !t.clocksRun then .next t
  else
    let t := State.trip { t with ck := { t.ck with lfoOut := true } } 6 0
    let main := t.rd F.CK_STS_STATE = 2 ∨ t.rd F.CK_STS_STATE = 3
    .next (t.forEach ((List.range 4).filter fun p => decide (¬ main) || FMap.get 0 t.ck.plls p == 2) State.pllStop).clockFail

/-- AOSC_MONITOR_TRIP (R295): the uncertainty of every later sleep is unknown. -/
def execAoscMonitorTrip (s : State) : Answer :=
  let t := s.begin
  if !t.clocksRun then .next t else .next (State.trip { t with ck := { t.ck with aoscOut := true } } 7 0)

/-! ### The time counter (R301, R302) -/

/-- The servo is LOCKED. -/
def State.ptpLocked (s : State) : Bool := s.rd F.CK_SERVO_SSTATE == 2

/-- R302: the rate class in force: 0 while PTP is LOCKED. -/
def State.rateClass (s : State) : Nat :=
  if s.ptpLocked then 0
  else if s.rd F.CK_STS_TSRC = 3 then 1
  else if s.rd F.CK_STS_STATE = 3 then 5
  else if s.rd F.CK_STS_STATE ≠ 2 then 6
  else if s.rd F.CK_TRIM_SRC = 2 then 4
  else match s.ck.nativeAt with
    | some w => if s.ck.mono < w + 86400000000000 then 2 else 3
    | none => 3

/-- R334: a suspended erase of a part being written goes on once no nested program runs. -/
def State.norResume (s : State) : State := if s.rd F.FW_NOR_STATE = 4 ∧ s.fw.part.isSome = true then s.wr F.FW_NOR_STATE 2 else s

/-- R301, R302, R334: one time tick: a suspended erase goes on, the counter advances by 10 ns times one plus the servo's correction, UNC grows at its
class, and operating time counts. -/
def State.tick (s : State) : State :=
  if !s.clocksRun then s
  else
    let s := s.norResume.settleAttn
    let f := signedOf 30 (s.rd F.CK_SERVO_FREQ)
    let adv := (10 * 2 ^ 32 * (1000000000 + f) / 1000000000).toNat + s.ck.frac
    let acc := s.ck.uncAcc + 10 * classRate s.rateClass
    let unc := s.rd F.CK_UNC_UNC
    let t : State := { s with ck := { s.ck with ns := s.ck.ns + adv / 2 ^ 32, mono := s.ck.mono + adv / 2 ^ 32, frac := adv % 2 ^ 32, uncAcc := acc % 1000000000 }
                              ev := { s.ev with opsNs := s.ev.opsNs + 10 } }
    if unc = 2 ^ 48 - 1 ∨ acc < 1000000000 then t
    else (t.wr F.CK_UNC_UNC (min (2 ^ 48 - 1) (unc + acc / 1000000000))).updReady

/-- R301, R302: the time source changes; HOLDOVER is set whenever it is not PTP. -/
def State.setTsrc (s : State) (v : Nat) : State := (s.wr F.CK_STS_TSRC v).wr F.CK_STS_HOLDOVER (bit01 (v != 4))

/-- R301: the counter is stepped; a step backward increments EPOCH and records event 0xB008. -/
def State.stepTime (s : State) (d : Int) : State :=
  let t : State := { s with ck := { s.ck with ns := ((s.ck.ns : Int) + d).toNat } }
  if d < 0 then
    let e := (t.rd F.CK_STS_EPOCH + 1) % 65536
    (t.wr F.CK_STS_EPOCH e).event 0xB008 [signedIn 64 d, e]
  else t

/-- R301: the source after PTP is lost: PTM where it disciplines, else holdover. -/
def State.lockLost (s : State) (cause : Nat) (sst : Nat) : State :=
  let t := (s.wr F.CK_SERVO_SSTATE sst)
  if s.ptpLocked then ((t.setTsrc 1).event 0xB007 [cause]).updReady else t

/-- R302: the uncertainty is set. -/
def State.setUnc (s : State) (u : Nat) : State :=
  (State.wr { s with ck := { s.ck with uncAcc := 0 } } F.CK_UNC_UNC (min (2 ^ 48 - 1) u)).updReady

/-- R299: the trims in force: of BOSC in 0.1 ppm, of the LFO in 0.1 %, and the AOSC period in 2^-16 ns. -/
def State.trimNow (s : State) (q : Nat) : Int :=
  if q = 0 then signedOf 16 (s.rd F.CK_TRIM_BOSC) else if q = 1 then signedOf 8 (s.rd F.CK_TRIM_LFO) else (s.rd F.CK_AOSC_PERIOD : Nat)

/-- R299: a trim has moved 0.5 ppm since the user record was last written. -/
def State.trimMoved (s : State) (q : Nat) : Bool :=
  let d := (s.trimNow q - s.effective q (trimFactory q)).natAbs
  if q = 0 then decide (5 ≤ d) else if q = 1 then decide (1 ≤ d) else decide (s.rd F.CK_AOSC_PERIOD ≤ 2000000 * d)

/-- R10, R299: the user record takes the learned corrections once a trim has moved 0.5 ppm, at most once an hour, in SERVICE and RESTORE. -/
def State.saveTrims (s : State) : State :=
  let due := match s.ck.norAt with | some w => decide (w + 3600000000000 ≤ s.ck.mono) | none => true
  if s.serving && due && [0, 1, 2].any s.trimMoved then
    let t := s.forEach [0, 1, 2] fun a q => a.userLearn q (trimFactory q) (a.trimNow q)
    State.norProgram { t with ck := { t.ck with norAt := some t.ck.mono } }
  else s

/-- R297, R302, R307: the AOSC period takes a value in 2^-16 ns. A one-shot correction and a compatibility trim are recorded as event 0xB009 with
oscillator 2; the native mean, which moves it at every Sync, is not (DESIGN CHOICE, log 206). -/
def State.trimAosc (s : State) (period : Nat) (method : Option Nat) : State :=
  let t := State.wr { s with ck := { s.ck with periodAt := some s.ck.mono } } F.CK_AOSC_PERIOD period
  match method with
  | some m => t.event 0xB009 [2, signedIn 32 ((period : Int) - s.rd F.CK_AOSC_PERIOD), m]
  | none => t

/-- R297: BOSC's trim moves by `steps` of 0.1 ppm, by a method (1 native, 2 compatibility). -/
def State.trimBosc (s : State) (steps : Int) (method : Nat) : State :=
  let new := clampInt 20000 (signedOf 16 (s.rd F.CK_TRIM_BOSC) + steps)
  let t := ((s.wr F.CK_TRIM_BOSC (signedIn 16 new)).wr F.CK_TRIM_SRC method).event 0xB009 [0, signedIn 32 steps, method]
  ({ t with ck := { t.ck with trimAt := t.ck.mono } } : State).saveTrims

/-- R299: trimming may run: SERVICE or RESTORE, in state BOSC. -/
def State.mayTrim (s : State) : Bool := s.serving && s.rd F.CK_STS_STATE == 2 && s.spRuns 5

/-- R297: the native method at a Sync: BOSC by the mean of 64 corrections beyond 0.2 ppm, the AOSC period by a mean of weight 1/64. -/
def State.nativeTrim (s : State) (freq : Int) (elapsed ticks : Nat) : State :=
  if !(s.ptpLocked && s.mayTrim && decide (s.rd F.CK_CTL_TRIM ≤ 1)) then s
  else
    let l := (freq :: s.ck.corr).take 64
    let mean := (l.foldl (· + ·) 0) / 64
    let t : State := { s with ck := { s.ck with corr := l, nativeAt := some s.ck.mono } }
    let t := if l.length = 64 ∧ 200 < mean.natAbs then
        let steps := mean / 100
        let u := (t.trimBosc steps 1).wr F.CK_SERVO_FREQ (signedIn 30 (freq - steps * 100))
        ({ u with ck := { u.ck with corr := l.map fun c => c - steps * 100 } } : State)
      else t
    if ticks = 0 then t
    else
      let p := t.rd F.CK_AOSC_PERIOD
      let m := elapsed * 65536 / ticks
      (t.trimAosc ((p * 63 + m) / 64) none).saveTrims

/-- R297, R303: the one-shot correction of the AOSC period when PTP first locks after a known rest of at least 1 h. -/
def State.oneShot (s : State) : State :=
  match s.ck.wakeRest, s.ck.firstOff with
  | some r, some o =>
    let t : State := { s with ck := { s.ck with wakeRest := none, firstOff := none } }
    if r < 3600000000000 ∨ s.flag F.CK_SLEEP_VALID = false then t
    else
      let p : Int := t.rd F.CK_AOSC_PERIOD
      (t.trimAosc (p + p * o / r).toNat (some 1)).saveTrims
  | _, _ => s

/-- R301: the servo's state after a Sync with an offset. -/
def State.servoLock (s : State) (off : Int) : State :=
  let small := decide (off.natAbs < 1000)
  let large := decide (100000 < off.natAbs)
  let t : State := { s with ck := { s.ck with good := if small then s.ck.good + 1 else 0, bad := if large then s.ck.bad + 1 else 0 } }
  if t.ptpLocked then
    if 4 ≤ t.ck.bad then ({ t with ck := { t.ck with good := 0, bad := 0 } } : State).lockLost 1 1
    else t.setUnc (100 + off.natAbs)
  else if 8 ≤ t.ck.good then
    let t := ((t.wr F.CK_SERVO_SSTATE 2).setTsrc 4).wr F.CK_PTP_PSTATE 3
    let t := t.event 0xB006 [signedIn 32 off, t.ck.master.getD 0]
    (t.setUnc (100 + off.natAbs)).oneShot
  else t.wr F.CK_SERVO_SSTATE 1

/-- PTP_SYNC (R295, R297, R301): a Sync of the selected transmitter gives the offset in ns (transmitter less counter), the servo's resulting
correction in 0.001 ppm, its logSyncInterval, and the AOSC ticks since the last Sync. -/
def execPtpSync (off freq logInt : Int) (ticks : Nat) (s : State) : Answer :=
  let t := s.begin
  if !t.clocksRun || !t.flag F.CK_CTL_PTPEN || !t.pan.ethUp || t.ck.master.isNone || !t.spRuns 5 || decide (logInt < -4) ||
      decide (1 < logInt) then .next t
  else
    let elapsed := match t.ck.syncAt with | some (w, _) => t.ck.mono - w | none => 0
    let t := if t.ck.firstOff.isNone && t.ck.wakeRest.isSome then { t with ck := { t.ck with firstOff := some off } } else t
    let th := max 1 (t.rd F.CK_CTL_STEPTH) * 1000
    let t := if th < off.natAbs then t.stepTime off else t
    let t := (t.wr F.CK_SERVO_OFFSET (signedIn 32 (clampInt 2147483647 off))).wr F.CK_SERVO_FREQ (signedIn 30 freq)
    let wild := if 1000000 < freq.natAbs then t.ck.wild + 1 else 0
    let known := t.ck.syncAt.isSome
    let t : State := { t with ck := { t.ck with wild := wild, syncAt := some (t.ck.mono, ticks) } }
    let t := (t.servoLock off).nativeTrim freq elapsed (if known then ticks else 0)
    let t := if t.ptpLocked then { t with ck := { t.ck with lockedAt := some t.ck.mono } } else t
    if 8 ≤ wild ∧ t.rd F.CK_STS_STATE = 2 then .next (State.boscTrip { t with ck := { t.ck with wild := 0 } } 2) else .next t

/-- PTP_ANNOUNCE (R301): the better data set (lower rank) is selected, and its currentUtcOffset taken. -/
def execPtpAnnounce (id rank utcOff : Nat) (s : State) : Answer :=
  let t := s.begin
  if !t.clocksRun || !t.flag F.CK_CTL_PTPEN || !t.pan.ethUp || !t.spRuns 5 then .next t
  else if t.ck.master.isNone || t.ck.master == some id || decide (rank < t.ck.masterRank) then
    let t := if t.ck.master = some id then t else (t.wr F.CK_PTP_PSTATE 2)
    .next (State.wr { t with ck := { t.ck with master := some id, masterRank := rank } } F.CK_PTP_UTCOFF utcOff)
  else .next t

/-- ANNOUNCE_TIMEOUT (R301): no Announce within announceReceiptTimeout: the servo leaves LOCKED. -/
def execAnnounceTimeout (s : State) : Answer :=
  let t := s.begin
  if t.ck.master.isNone || !t.clocksRun then .next t
  else
    let t : State := { t with ck := { t.ck with master := none, good := 0, bad := 0, syncAt := none } }
    .next ((t.lockLost 0 0).wr F.CK_PTP_PSTATE 1)

/-- PTM_REQUEST (R301): SP5's request to the PTM root of head CK_CTL.PTMHEAD, where its host has enabled PTM, disciplines the counter's rate. -/
def execPtmRequest (enabled : Bool) (freq : Int) (s : State) : Answer :=
  let t := s.begin
  if !t.clocksRun || !t.flag F.CK_CTL_PTMEN || !t.spRuns 5 || t.ptpLocked then .next t
  else if enabled && t.headUp (t.rd F.CK_CTL_PTMHEAD) then .next ((t.wr F.CK_SERVO_FREQ (signedIn 30 freq)).setTsrc 3)
  else if t.rd F.CK_STS_TSRC = 3 then .next (t.setTsrc 1)
  else .next t

/-! ### Trims (R297 to R299) -/

/-- COMPATIBILITY_TRIM (R298): BOSC's error in 0.1 ppm and the AOSC period are measured against REFCLK_P/N; spreading above 500 ppm is
refused. -/
def execCompatibilityTrim (spread : Nat) (change : Int) (period : Nat) (s : State) : Answer :=
  let t := s.begin
  let free := match t.ck.lockedAt with | some w => decide (w + 3600000000000 ≤ t.ck.mono) | none => true
  if t.mayTrim && t.flag F.CK_STS_REFOK && (t.rd F.CK_CTL_TRIM == 2 || (t.rd F.CK_CTL_TRIM == 0 && free && !t.ptpLocked)) then
    if 500 < spread then .next ((t.wr F.CK_TRIM_SPREAD 1).event 0xB00A [spread])
    else
      .next (((t.wr F.CK_TRIM_SPREAD 0).trimBosc change 2).trimAosc period (some 2)).saveTrims
  else .next t

/-- LFO_TRIM (R297): the LFO's trim in 0.1 % steps, against BOSC. -/
def execLfoTrim (trim : Int) (s : State) : Answer :=
  let t := s.begin
  if t.mayTrim && t.rd F.CK_CTL_TRIM != 3 then
    .next (t.trimLfo trim).saveTrims
  else .next t

/-! ### Host time, reads, PTP port, CLKMON_OUT (R300 to R302, R306, R308) -/

/-- R302: the counter is set from UTC, unless PTP is LOCKED; under PTM the rate stays PTM's. -/
def State.setUtc (s : State) (utc : Nat) : State :=
  if s.ptpLocked then s.event 0xB00B [utc]
  else
    let new := utc + s.rd F.CK_PTP_UTCOFF * 1000000000
    let t := s.stepTime ((new : Int) - s.ck.ns)
    let t := if t.rd F.CK_STS_TSRC = 3 then t else t.setTsrc 2
    t.setUnc 1000000

/-- CK_SET_WRITE (R302): UTC nanoseconds since the Unix epoch are written to CK_SET. -/
def execCkSetWrite (utc : Nat) (s : State) : Answer :=
  let t := s.begin
  if t.clocksRun then .next (t.setUtc utc) else .next t

/-- CK_TIME_READ (R301): the counter is read; the fraction and UNC of the same instant are latched. -/
def execCkTimeRead (s : State) : Answer :=
  let t := s.begin
  if t.clocksRun then .next (State.send { t with ck := { t.ck with latch := some (t.ck.frac, t.rd F.CK_UNC_UNC) } } (.regData [t.ck.ns % 2 ^ 64]))
  else .next t

/-- CK_PTP_WRITE (R308): CK_PTP takes its RW fields and the PTP port restarts. -/
def execCkPtpWrite (val : Nat) (s : State) : Answer :=
  let t := s.begin
  if !t.clocksRun then .next t
  else
    let t := ((t.wr F.CK_PTP_DOMAIN (natField val 56 8)).wr F.CK_PTP_TRANS (natField val 54 2)).wr F.CK_PTP_DELAY (natField val 53 1)
    let t : State := { t with ck := { t.ck with master := none, good := 0, bad := 0, syncAt := none } }
    .next ((t.lockLost 2 0).wr F.CK_PTP_PSTATE (bit01 (t.flag F.CK_CTL_PTPEN)))

/-- R3: the core frequency in Hz of an operating point. -/
def opFreq (op : Nat) : Nat := [1600000000, 1200000000, 800000000, 400000000].getD op 400000000

/-- R3, R300: the frequency in Hz of a source of CLKMON_OUT; 0 while it is stopped. The core PLL on BOSC or REFCLK_P/N runs at the frequency of
the operating point in force. -/
def State.monFreq (s : State) (sel : Nat) : Nat :=
  let slow := fun (p : Nat) => s.rd F.CK_STS_STATE != 2 && s.rd F.CK_STS_STATE != 3 || FMap.get 0 s.ck.plls p == 2
  let pll := fun (p : Nat) => if s.ck.stopped.contains p || !natBit (s.rd F.CK_STS_LOCK) p then 0
    else if p = 0 ∧ slow 0 = false then opFreq (s.rd F.PW_OP_CUR) else Config.pllFreq p
  if sel = 1 then (if s.flag F.CK_STS_REFOK then 100000000 else 0)
  else if sel = 2 then (if s.flag F.CK_STS_BOSCOK then 100000000 else 0)
  else if sel = 3 then (if s.ck.lfoOut then 0 else 50000000)
  else if sel = 4 then 32768
  else if sel = 9 then 100000000
  else if 5 ≤ sel ∧ sel ≤ 8 then pll (sel - 5)
  else 0

/-- R300: CLKMON_OUT is held low in error: its source is stopped, or the divided frequency would exceed 200 MHz. -/
def State.monErr (s : State) : Bool :=
  let f := s.monFreq (s.rd F.CK_CMON_SEL)
  s.rd F.CK_CMON_SEL != 0 && (f == 0 || decide (200000000 * (s.rd F.CK_CMON_DIV + 1) < f))

/-- CK_CMON_WRITE (R300): CLKMON_OUT's source and divisor; the pin is held low and ERR sets above 200 MHz or with a stopped source. -/
def execCkCmonWrite (val : Nat) (s : State) : Answer :=
  let t := s.begin
  if !t.clocksRun then .next t
  else
    let t := (t.wr F.CK_CMON_SEL (natField val 60 4)).wr F.CK_CMON_DIV (natField val 0 16)
    .next (t.wr F.CK_CMON_ERR (bit01 t.monErr))

/-- PPS_PULSE (R304): a whole second of the counter: PPS_OUT rises unless it is held low or the last pulse began within 500 ms. -/
def execPpsPulse (s : State) : Answer :=
  let t := s.begin
  let near := match t.ck.ppsAt with | some w => decide (t.ck.mono < w + 500000000) | none => false
  if t.clocksRun && t.flag F.CK_PPS_EN && (!t.flag F.CK_STS_HOLDOVER || t.flag F.CK_PPS_HOLD) && t.rd F.CK_UNC_UNC != 2 ^ 48 - 1 && !near then
    .next (State.bump { t with ck := { t.ck with ppsAt := some t.ck.mono } } F.CK_PPS_COUNT)
  else .next t

/-- R305: the alarm fires: FIRED sets, ARM clears, event 0xB00C is recorded and vector 0 of every head is signalled. -/
def State.alarm (s : State) : State :=
  (((s.wr F.CK_ALCTL_FIRED 1).wr F.CK_ALCTL_ARM 0).event 0xB00C [s.ck.ns]).msix0

/-- ALARM_FIRED (R273, R288, R305): awake, the counter has reached CK_ALARM; asleep, the AOSC count has, and the alarm wakes the controller. -/
def execAlarmFired (ticks : Nat) (s : State) : Answer :=
  let t := s.begin
  if t.phase = phDormant then
    if t.ck.armed then
      let t : State := { t with ck := { t.ck with armed := false } }
      .next ((t.onRequest 0x03 ticks).bump F.CK_ALCTL_WAKES).alarm
    else .next t
  else if t.flag F.CK_ALCTL_ARM = false ∨ t.phase = phOff then .next t
  else if t.rd F.PW_STATE_STBY ≠ 0 then .next (((t.wakeDeep ticks).alarm).bump F.CK_ALCTL_WAKES)
  else if t.clocksRun = true ∧ t.rd F.CK_ALARM_AT ≤ t.ck.ns then .next t.alarm
  else .next t

/-- R306: CK_STS, CK_TIME, CK_TFRAC, CK_UNC, CK_SERVO and CK_TRIM as words. -/
def State.clockWords (s : State) : List Nat :=
  let r := fun (f : Field) => s.rd f * 2 ^ f.lo
  [r F.CK_STS_STATE + r F.CK_STS_TSRC + r F.CK_STS_HOLDOVER + r F.CK_STS_DEGRADED + r F.CK_STS_CLKFAULT + r F.CK_STS_REFOK + r F.CK_STS_BOSCOK +
     r F.CK_STS_LOCK + r F.CK_STS_TRIPS + r F.CK_STS_EPOCH,
   s.ck.ns % 2 ^ 64, s.ck.frac * 2 ^ 32, s.rateClass * 2 ^ 60 + r F.CK_UNC_UNC, r F.CK_SERVO_SSTATE + r F.CK_SERVO_FREQ + r F.CK_SERVO_OFFSET,
   r F.CK_TRIM_BOSC + r F.CK_TRIM_LFO + r F.CK_TRIM_SRC + r F.CK_TRIM_SPREAD + min 0x1FFFFF ((s.ck.mono - s.ck.trimAt) / 60000000000) * 2 ^ 16]

/-- GET_TIME_STATUS (R306). -/
def execGetTimeStatus (v : Via) (s : State) : Answer :=
  .next (s.mbox v (.getTimeStatus v) .other true fun t => t.reply v .success t.clockWords)

/-- GET_TIMESTAMP (R302): the counter less UTCOFF. -/
def execGetTimestamp (v : Via) (s : State) : Answer :=
  .next (s.mbox v (.getTimestamp v) .other true fun t => t.reply v .success [t.ck.ns - t.rd F.CK_PTP_UTCOFF * 1000000000])

/-- SET_TIMESTAMP (R302). -/
def execSetTimestamp (v : Via) (utc : Nat) (s : State) : Answer :=
  .next (s.mbox v (.setTimestamp v utc) .other false fun t => (t.setUtc utc).reply v .success [])

end Sys2Proof.Machine
end

