-- ==== Sys2Proof/Machine/Power.lean ====
section
/-! DEFINITION. The power unit's commands: rails, regulators, hold-up, standby, operating points and temperature (R271 to R293, R425). -/

namespace Sys2Proof.Machine

/-! ### Rails (R274, R275, R277, R281) -/

/-- The populated slots of a group. -/
def State.groupSlots (s : State) (g : Nat) : List Nat := (List.range 16).filter fun i => s.flagi F.PW_RAIL_EN i && s.rdi F.PW_RAIL_GRP i == g

/-- R274, R280: a rail's nominal in mV; VDD_CORE's is that of the operating point in force. -/
def State.railNominal (s : State) (i : Nat) : Nat :=
  if s.flagi F.PW_RAIL_CORE i then [800, 720, 650, 600].getD (s.rd F.PW_OP_CUR) 600 else s.rdi F.PW_RAIL_VNOM i

/-- R274: the reading lies within 5 % of nominal. -/
def inWindow (nom mv : Nat) : Bool := decide (95 * nom ≤ 100 * mv) && decide (100 * mv ≤ 105 * nom)

/-- R279: the domains a group feeds are on again, for enabled heads and ports. -/
def State.groupOn (s : State) (g : Nat) : State :=
  if g = 3 then (s.setDoms (domsHP.filter fun d => s.flagi F.HP_PORT_CFG_EN (d - 2)) 1).trainLinks
  else if g = 4 then (s.setDoms (domsTW.filter fun d => natBit (s.rd F.TW_CTL_EN) (d - 10)) 1).trainLinks
  else s

/-- RAIL_POWER_GOOD (R274, R281): a rail that has been enabled reports power-good within 5 % of nominal; in power-up the sequence goes on,
and a group raised again after a fault serves once all its rails are good. -/
def execRailPowerGood (slot mv : Nat) (s : State) : Answer :=
  let t := s.begin
  let k := t.pw.up
  let l := t.stepSlots k
  if 16 ≤ slot ∨ !inWindow (t.railNominal slot) mv then .next t
  else if k ≠ 0 then
    if l.contains slot && (l.takeWhile (· != slot)).all fun i => t.pw.good.contains i then
      let t := (t.wri F.PW_RMON_PG slot 1).wri F.PW_RMON_VOUT slot mv
      let t : State := { t with pw := { t.pw with good := slot :: t.pw.good.filter (· != slot) } }
      .next (t.powerAdvance 9)
    else .next t
  else
    let g := t.rdi F.PW_RAIL_GRP slot
    if t.pw.again.contains g && !t.pw.off.contains g && t.serving then
      let t := (t.wri F.PW_RMON_PG slot 1).wri F.PW_RMON_VOUT slot mv
      .next (if (t.groupSlots g).all fun i => t.flagi F.PW_RMON_PG i then t.groupOn g else t)
    else .next t

/-- R281: a group of heads or Twine ports is switched off: its links go down. -/
def State.groupOff (s : State) (g : Nat) : State :=
  let t := s.forEach (s.groupSlots g) fun a i => a.wri F.PW_RMON_PG i 0
  if g = 3 then
    let t := t.forEach ((List.range 16).filter t.headExists) fun a k =>
      let a := if a.headUp k || a.rdi F.HP_LINK_STATE k == 4 then a.linkDown k else a
      if a.rdi F.HP_LINK_STATE k = 0 then a else a.setLink k 0
    t.setDoms domsHP 0
  else
    let t := t.forEach [0, 1] fun a p =>
      let a := if a.rdi F.TW_PORT_STATE p = 3 ∨ a.rdi F.TW_PORT_STATE p = 4 then a.twineDown p 0 else a
      if a.rdi F.TW_PORT_STATE p = 0 then a else a.wri F.TW_PORT_STATE p 0
    t.setDoms domsTW 0

/-- R281: a fault of group HP or TW in service: it is raised once more; after a second fault it stays off until the next power-up. -/
def State.groupFault (s : State) (g : Nat) : State :=
  let t := s.groupOff g
  if t.pw.again.contains g then { t with pw := { t.pw with off := g :: t.pw.off.filter (· != g) } }
  else { t with pw := { t.pw with again := g :: t.pw.again } }

/-- R275: the sequence runs in reverse to the bottom; what DRAM held is lost. -/
def State.unwind (s : State) : State :=
  let t := s.snapWrite
  let u := (t.resetLogic false).putRegs (t.keep fieldsPhase)
  let u := (u.wr F.PW_DOM_DOM 0).forEach (List.range 16) fun a i => if a.flagi F.PW_RMON_PG i then a.wri F.PW_RMON_PG i 0 else a
  { u with pw := { u.pw with up := 0, good := [], tries := t.pw.tries, off := t.pw.off, again := t.pw.again } }

/-- R275, R277: power-up was abandoned with PD_MGT's rails not up, on which step 6 depends: it is skipped (DEDUCED, log 197). -/
def State.downUnpowered (s : State) (slot : Nat) : State :=
  match s.pw.down with
  | none => s
  | some d =>
    if (s.downSlots 7).all fun i => s.flagi F.PW_RMON_PG i then s
    else
      let t := s.event 0xA005 [6, slot]
      { t with pw := { t.pw with down := some { d with left := d.left.filter (· != 6), skipped := d.skipped + 1, held := true } } }

/-- R275: a rail other than HP or TW fails in power-up: retried after t_OFF_MIN up to RETRY times; then PD_AON alone, or step 2 again and
RECOVERY with the failed group off. -/
def State.sequenceFault (s : State) (slot g : Nat) : State :=
  if s.pw.tries < s.rd F.PW_CTL_RETRY then
    let t := (s.snapshot 3 slot).event 0xA006 [s.pw.tries + 1, slot]
    let t := State.unwind { t with pw := { t.pw with tries := s.pw.tries + 1 } }
    (t.wr F.PW_STATE_ONPEND 1).setSeq 3 0
  else
    let t := s.event 0xA007 [2 ^ g]
    if g ≤ 1 then (t.powerDown 0x05).downUnpowered slot
    else
      let t := t.unwind
      State.powerUp { t with pw := { t.pw with tries := 0, off := g :: t.pw.off.filter (· != g) } }

/-- R275, R277, R281, R284: a rail leaves its fault window, loses power-good or reports a fault: snapshot and event 0xA003; the response is that of
its group and phase; a power-down goes on. -/
def State.railFault (s : State) (slot kind : Nat) : State :=
  if 16 ≤ slot ∨ s.flagi F.PW_RAIL_EN slot = false ∨ s.phase = phOff ∨ (s.phase = phDormant ∧ s.pw.down = none) then s
  else
    let g := s.rdi F.PW_RAIL_GRP slot
    let t := ((s.wr F.PW_FAULT_KIND kind).wr F.PW_FAULT_SLOT slot).wr F.PW_FAULT_STEP (s.rd F.PW_STATE_STEP)
    let t := ((t.wr F.PW_FAULT_SEQ (t.rd F.PW_STATE_SEQ)).bump F.PW_FAULT_COUNT).wri F.PW_RMON_FAULT slot 1
    let t := if kind = 3 ∨ kind = 4 then t.wri F.PW_RMON_PG slot 0 else t
    let t := (t.snapshot 1 slot).event 0xA003 [slot, kind, t.rd F.PW_STATE_STEP]
    let linkGroup := g == 3 || g == 4
    if t.phase = phDormant then t.downFault slot
    else if t.phase = phBringup then
      if linkGroup then
        let t := t.groupOff g
        State.powerAdvance { t with pw := { t.pw with off := g :: t.pw.off.filter (· != g) } } 9
      else t.sequenceFault slot g
    else if t.serving then
      if linkGroup then t.groupFault g else t.powerTrigger 1 0 0
    else if t.phase = phLinger ∧ g = 5 then t.powerDown 0x05
    else t

/-- RAIL_FAULT (R275, R277, R280, R281). -/
def execRailFault (slot kind : Nat) (s : State) : Answer := .next (s.begin.railFault slot kind)

/-- RAIL_WARNING (R280, R281): kinds 1 and 2 carry a voltage in mV, kind 7 a temperature in °C. -/
def execRailWarning (slot kind reading : Nat) (s : State) : Answer :=
  let t := s.begin
  if 16 ≤ slot ∨ t.flagi F.PW_RAIL_EN slot = false ∨ t.phase = phOff ∨ t.phase = phDormant then .next t
  else
    let t := if kind = 1 ∨ kind = 2 then t.wri F.PW_RMON_VOUT slot reading
      else if kind = 7 then t.wri F.PW_RMON_TEMP slot reading else t
    .next (t.event 0xA004 [slot, kind, reading])

/-- OFF_WAIT_EXPIRY (R275, R278): t_OFF_MIN has passed since a power-down, which has ended by then: power-up begins. -/
def execOffWaitExpiry (ticks : Nat) (s : State) : Answer :=
  let t := s.begin.downRest
  if t.rd F.PW_STATE_SEQ ≠ 3 then .next t
  else
    let t := (t.wr F.PW_STATE_ONPEND 0).setSeq 0 0
    if t.phase = phDormant then .next (t.powerStart t.pw.cause ticks) else .next t.powerUp

/-! ### PMBus (R272) -/

/-- The slots that answer PMBus. -/
def State.pmbusSlots (s : State) : List Nat := (List.range 16).filter fun i => s.flagi F.PW_RAIL_EN i && s.flagi F.PW_RAIL_PMB i

/-- R280: the fault bits of STATUS_WORD: VOUT, IOUT, INPUT, OFF and TEMPERATURE, at PMBus's places (PRESUMED, log 198). -/
def pmFaults : List Nat := [15, 14, 13, 6, 2]

/-- R280, R281: a STATUS_WORD is read: a fault bit newly set is a fault of kind 5, another bit newly set a warning. -/
def State.statusWord (s : State) (slot w : Nat) : State :=
  let old := FMap.get 0 s.pw.words slot
  let new := (List.range 16).filter fun i => natBit w i && !natBit old i
  let t := State.wri { s with pw := { s.pw with words := FMap.put s.pw.words slot w } } F.PW_RMON_STAT slot (w % 256)
  let t := if new.any fun i => !pmFaults.contains i then t.event 0xA004 [slot, 5, w] else t
  if new.any pmFaults.contains then t.railFault slot 5 else t

/-- PMBUS_STATUS_POLL (R272, R280, R292): STATUS_WORD by slot, and every 100 ms telemetry by slot: READ_IOUT in 0.1 A and READ_TEMPERATURE_1 in
°C. A slave missing from three polls in a row is silent: a warning, with event 0xA00D. -/
def execPmbusStatusPoll (status : List (Nat × Nat)) (tele : List (Nat × Nat × Nat)) (s : State) : Answer :=
  let t := s.begin
  if t.spRuns 5 = false ∨ t.phase = phOff ∨ t.phase = phDormant ∨ t.rd F.PW_STATE_STBY = 1 then .next t
  else
    let l := t.pmbusSlots
    let status := if t.twb.faulted 1 then [] else status
    let t := (status.filter fun e => l.contains e.1).foldl (fun (a : State) e => a.statusWord e.1 e.2) t
    let t := (tele.filter fun e => l.contains e.1).foldl (fun (a : State) e =>
      (a.wri F.PW_RMON_IOUT e.1 e.2.1).wri F.PW_RMON_TEMP e.1 e.2.2) t
    let t := l.foldl (fun (a : State) i =>
      let n := if status.any fun e => e.1 == i then 0 else FMap.get 0 a.pw.silent i + 1
      let a : State := { a with pw := { a.pw with silent := FMap.put a.pw.silent i n } }
      if n = 3 then (a.event 0xA00D [i]).event 0xA004 [i, 6, 0] else a) t
    .next (t.busFree 1)

/-- LB_ALERT (R272): the alerting slave is read through the Alert Response Address. -/
def execLbAlert (slot status : Nat) (s : State) : Answer :=
  let t := s.begin
  if t.spRuns 5 = true ∧ t.pmbusSlots.contains slot = true then .next (t.statusWord slot status) else .next t

/-! ### Hold-up (R283) -/

/-- R283: P_M and the power at R_FL, both in W × 10^11. -/
def State.savePower (s : State) (rate : Nat) : Nat := s.rd F.MR_SAVEPWR_PFIX * 100000000000 + s.rd F.MR_SAVEPWR_KP * rate

/-- R283: V_A² − V_L² in mV². -/
def State.holdSpan (s : State) : Nat :=
  let va := s.rd F.SPN_PLD_THA * s.rd F.PW_VIN_DIV
  let vl := s.rd F.EN_CTL_VSD + s.rd F.PW_SBUS_LOW
  va * va - vl * vl

/-- HOLDUP_MEASUREMENT (R283): t_M in 0.1 ms from 36.0 V to 30.0 V; C and the hold-up follow, the last four are kept, and t_HU is the least of
them and the fuse figure. A measurement with a pack above 30.0 V, or not in a POWER Save without returning input, is discarded. -/
def execHoldupMeasurement (tm : Nat) (packHigh : Bool) (s : State) : Answer :=
  let t := s.begin
  if t.phase ≠ phSave ∨ t.rd F.SPN_SAVE_REASON ≠ 1 ∨ t.flag F.SPN_SAVE_PWRBACK = true ∨ packHigh = true then .next t
  else
    let pm := t.savePower t.sv.rs
    let c := 2 * pm * tm / (396 * 100000000000)
    let hu := tm * 100 * pm * t.holdSpan / (396 * 1000000 * max 1 (t.savePower t.fc.rfl))
    let l := (hu :: t.pw.holdups).take 4
    let fuse := F.MR_HOLDUP_THU.rst % 2 ^ 20
    let least := l.foldl min fuse
    let t : State := { t with pw := { t.pw with holdups := l } }
    let t := ((t.wr F.MR_HOLDUP_THU least).wr F.MR_HOLDUP_SRC (bit01 (decide (least < fuse)))).wr F.PW_HOLD_CAP (min 0xFFFF c)
    .next (((t.wr F.PW_HOLD_TM (min 0xFFFF tm)).wr F.PW_HOLD_N l.length).event 0xA009 [c, tm, hu])

/-! ### Standby (R286, R288) -/

/-- R286: the CORE group votes IDLE in SERVICE. -/
def State.coreIdle (s : State) : Bool :=
  !((List.range 16).any s.headUp) && !s.session && s.tickets.isEmpty && s.drainState == 0 && s.im.flight.isEmpty && s.walks.isEmpty &&
    !(s.trials.any fun e => e.2.st == 2) && s.rd F.FC_RSK_STATE == 0 && !s.anyHot && (s.rd F.SPN_RST_STAGE == 0 || s.rd F.SPN_RST_STAGE == 4)

/-- STANDBY_ENTRY (R288): the CORE vote has read IDLE for PW_CTL.STBY seconds and residue is zero: DEEP. -/
def execStandbyEntry (s : State) : Answer :=
  let t := s.begin
  if t.phase = phService ∧ t.rd F.PW_CTL_STBY ≠ 0 ∧ t.coreIdle = true ∧ t.residue = 0 ∧ t.rd F.PW_STATE_STBY = 0 then
    let old := t.rd F.PW_STATE_PSTATE
    let t := (t.event 0xA00B [old, 3]).updReady
    let t := ((((t.setDoms domsHP 0).setDoms domsTW 0).setDoms domsFCG 0).setDoms domsMCG 2).setDom 1 2
    let t := (t.setDom 0 2).dropRails fun i => [2, 3, 4, 6].contains (t.rdi F.PW_RAIL_GRP i) ||
      (t.rdi F.PW_RAIL_GRP i == 5 && t.rdi F.PW_RAIL_ORDER i == 0)
    let t : State := { t with pw := { t.pw with dram := true } }
    .next ((t.wr F.PW_STATE_PSTATE 3).wr F.PW_STATE_STBY 1).sleepLatch.updReady
  else .next t

/-! ### Operating points and temperature (R289, R290, R425) -/

/-- R289: the cap in force: OPMAX, the thermal cap and, in SAVE, the save operating point. -/
def State.capNow (s : State) : Nat := if s.phase = phSave then max s.opCap s.sv.op else s.opCap

/-- R289, R119: the cap in force follows and the core seeks it; in SAVE it moves downward only. -/
def State.recap (s : State) : State :=
  let c := s.capNow
  let t := s.wr F.PW_OP_CAP s.opCap
  if t.phase = phBringup ∨ t.phase = phLinger ∨ (t.phase = phSave ∧ c ≤ t.rd F.PW_OP_TARGET) then t else t.seekOp c

/-- R290: the change in progress ends; one asked for meanwhile is taken up, and power-up goes on. -/
def State.opDone (s : State) : State :=
  let t := (s.wr F.PW_OP_CUR (s.rd F.PW_OP_TARGET)).wr F.PW_OP_BUSY 0
  let w := t.pw.opWait
  let t : State := { t with pw := { t.pw with opHalf := false, opWait := none } }
  let t := match w with
    | some op => if t.phase = phSave ∧ op < t.rd F.PW_OP_CUR then t else t.seekOp op
    | none => t
  if t.pw.up = 8 then t.powerAdvance 9 else t

/-- OP_CHANGE_COMPLETE (R290): a step of the change ends with VDD_CORE as read: lowering, frequency then voltage; raising, voltage then
frequency, which is held until VDD_CORE reads within 2 % of the new point's voltage. -/
def execOpChangeComplete (mv : Nat) (s : State) : Answer :=
  let t := s.begin.wr F.PW_OP_VCORE mv
  if t.flag F.PW_OP_BUSY = false then .next t
  else
    let nom := [800, 720, 650, 600].getD (t.rd F.PW_OP_TARGET) 600
    let near := decide (98 * nom ≤ 100 * mv) && decide (100 * mv ≤ 102 * nom)
    if t.pw.opHalf then .next t.opDone
    else if t.rd F.PW_OP_TARGET < t.rd F.PW_OP_CUR ∧ near = false then
      .next ((t.bump F.PW_OP_HELD).event 0xA00E [t.rd F.PW_OP_TARGET])
    else .next { t with pw := { t.pw with opHalf := true } }

/-- R289: the thermal cap at a temperature, from the cap before. -/
def thermCap (old : Nat) (tj : Int) : Nat :=
  if 103 ≤ tj then 2 else if 100 ≤ tj then max 1 old else if tj < 95 then 0 else if tj < 98 then min old 1 else old

/-- TEMPERATURE_SAMPLE (R289, R425): Tj is the hottest reading; it sets the thermal cap, and at 110 °C acts as a power-loss trigger. -/
def execTemperatureSample (readings : List Int) (s : State) : Answer :=
  let t := s.begin
  match readings with
  | [] => .next t
  | r :: l =>
    if t.phase = phOff ∨ t.phase = phDormant then .next t
    else
      let tj := l.foldl max r
      let old := t.rd F.PW_OP_THERM
      let new := thermCap old tj
      let t : State := { t with pw := { t.pw with tj := tj } }
      let t := if new = old then t
        else ((t.wr F.PW_OP_THERM new).event 0xA00C [(tj % (2 ^ 16 : Int)).toNat, new]).recap
      if 110 ≤ tj then .next (t.powerTrigger 1 0 0) else .next t.settleAttn.imageStep

/-! ### Commands (R291) -/

/-- A snapshot as words. -/
def Snapshot.words (x : Snapshot) : List Nat :=
  [x.cause, x.slot, x.time, x.unc, x.phase, x.pstate, x.seq, x.step, x.op, (x.tj % (2 ^ 16 : Int)).toNat] ++ x.readings

/-- GET_SNAPSHOT (R291): a stored snapshot by index, 0 the newest. -/
def execGetSnapshot (v : Via) (idx : Nat) (s : State) : Answer :=
  .next (s.mbox v (.getSnapshot v idx) .other true fun t =>
    match t.pw.snaps[idx]? with
    | some x => t.reply v .success x.words
    | none => t.reply v .invalidInput [])

/-- READ_RAILS (R291): the readings of all slots, PW_VIN, PW_SBUS and PW_OP in one reading. -/
def execReadRails (v : Via) (s : State) : Answer :=
  .next (s.mbox v (.readRails v) .other true fun t => t.reply v .success t.railWords)

end Sys2Proof.Machine
end

