-- ==== Sys2Proof/Machine/EnergyOps.lean ====
section
/-! DEFINITION. The pack model and its outputs: interpolation, reference points, uncertainty, energy and power, the sums passed to the Weir,
and the bay states (R247 to R268). -/

namespace Sys2Proof.Machine

/-! ### Bays and profiles (R244, R247) -/

/-- Bay b: 0 A, 1 B. -/
def State.bay (s : State) (b : Nat) : Bay := if b = 0 then s.bayA else s.bayB

/-- Sets what a bay holds. -/
def State.setBay (s : State) (b : Nat) (x : Bay) : State := if b = 0 then { s with bayA := x } else { s with bayB := x }

/-- EN_STS_b.STATE (R248). -/
def State.bayState (s : State) (b : Nat) : Nat := s.rdi F.EN_STS_STATE b

/-- A number of the profile matched in a bay. -/
def State.prof (s : State) (b i : Nat) : Int := Config.profile (s.rdi F.EN_STS_PROFILE b) i

/-- The same, as a natural number. -/
def State.profN (s : State) (b i : Nat) : Nat := (s.prof b i).toNat

/-- R10, R245: a voltage reading of a bay in mV, calibrated. -/
def State.calVolt (s : State) (b v : Nat) : Nat := (s.effective (3 + b) v).toNat

/-- R10, R245: a current reading of a bay in mA, calibrated. -/
def State.calCurr (s : State) (b : Nat) (c : Int) : Int := s.effective (5 + b) c

/-- R251: pack temperature in 0.1 °C. -/
def State.packTemp (s : State) (b : Nat) : Int := signedOf 16 (s.rdi F.EN_MEAS_TEMP b)

/-- Measured current in mA, positive for discharge. -/
def State.packCurr (s : State) (b : Nat) : Int := signedOf 16 (s.rdi F.EN_MEAS_CURR b)

/-! ### The model tables (R250) -/

/-- R250: the temperatures of the tables, in 0.1 °C. -/
def tempPoints : List Int := [-400, -300, -200, -100, 0, 50, 100, 150, 200, 250, 300, 350, 400, 450, 500, 600]

/-- R250: an entry of model table k (0 OCV, 1 R0, 2 R1, 3 R2, 4 τ1, 5 τ2). -/
def tableAt (p k t c : Nat) : Int := ((Config.profileTable p).getD (k * 176 + t * 11 + c) 0 : Nat)

/-- R250: table k of profile p at temperature T in 0.1 °C and charge c in 10^-5, bilinear and held at the ends, times 1,000. -/
def interp (p k : Nat) (temp : Int) (c : Nat) : Int :=
  let x := max (-400) (min 600 temp)
  let i := ((tempPoints.drop 1).take 14).countP fun a => decide (a ≤ x)
  let lo := tempPoints.getD i 0
  let hi := tempPoints.getD (i + 1) 0
  let c := min 100000 c
  let j := min 9 (c / 10000)
  let f : Int := (c - 10000 * j : Nat)
  let at0 := tableAt p k i j * (hi - x) + tableAt p k (i + 1) j * (x - lo)
  let at1 := tableAt p k i (j + 1) * (hi - x) + tableAt p k (i + 1) (j + 1) * (x - lo)
  (at0 * (10000 - f) + at1 * f) * 1000 / ((hi - lo) * 10000)

/-- R252: the open-circuit voltages in µV at a temperature, by charge in steps of 10 %. -/
def ocvRow (p : Nat) (temp : Int) : List Int := (List.range 11).map fun j => interp p 0 temp (10000 * j)

/-- R252: the charge in 10^-5 whose open-circuit voltage is given in µV, and the rise of OCV in µV over the 10 % around it. -/
def ocvInverse (p : Nat) (temp v : Int) : Nat × Int :=
  let row := ocvRow p temp
  let j := ((row.drop 1).take 9).countP fun a => decide (a ≤ v)
  let lo := row.getD j 0
  let d := row.getD (j + 1) 0 - lo
  let f := if d ≤ 0 then 0 else max 0 (min 10000 ((v - lo) * 10000 / d))
  (10000 * j + f.toNat, d)

/-! ### Charge and uncertainty (R252, R253) -/

/-- Learned capacity C_L in µC. -/
def State.capQ (s : State) (b : Nat) : Nat := s.rdi F.EN_LRN_CAP b * 36000

/-- R250: charge as a fraction of C_L, in 10^-5. -/
def State.qFrac (s : State) (b : Nat) : Nat := min 100000 (((s.bay b).q * 100000 / (max 1 (s.capQ b) : Nat)).toNat)

/-- R253: σ in 0.01 %: it grows by 0.05 % an hour, with the standing additions, and never exceeds 8 %. -/
def State.sigma (s : State) (b : Nat) : Nat :=
  let x := s.bay b
  min 800 (x.sig + (s.ck.mono - x.sigAt) * 5 / 3600000000000 + (if s.flagi F.EN_STS_NEWPACK b then 200 else 0) +
    (if s.flagi F.EN_STS_LOSTLRN b then 200 else 0))

/-- R253: σ is written to EN_SOC_b.UNC; reaching 8 % sets PAUSEREQ and event 0x9006 is recorded. -/
def State.putSigma (s : State) (b : Nat) : State :=
  let v := s.sigma b
  let t := s.wri F.EN_SOC_UNC b v
  if v = 800 ∧ s.rdi F.EN_SOC_UNC b ≠ 800 then (t.wri F.EN_STS_PAUSEREQ b 1).event 0x9006 [b] else t

/-- σ takes a value now, without the standing additions. -/
def State.setSigma (s : State) (b v : Nat) : State := (s.setBay b { s.bay b with sig := v, sigAt := s.ck.mono }).putSigma b

/-- R252: the reference floor σ_REF in 0.01 % for a rise of OCV in µV over 10 % of charge. -/
def State.refFloor (s : State) (d : Int) : Nat :=
  max (10 * max 5 (min 80 (s.rd F.EN_CTL_UFLOOR))) (if d ≤ 0 then 800 else (5000000 / d).toNat)

/-- R252, R264: q is set from a terminal voltage in mV corrected by the modelled RC voltages; the charge and the floor. -/
def State.setCharge (s : State) (b volt : Nat) : State × Nat × Nat :=
  let x := s.bay b
  let r := ocvInverse (s.rdi F.EN_STS_PROFILE b) (s.packTemp b) ((volt : Int) * 1000 + x.v1 + x.v2)
  (s.setBay b { x with q := (r.1 * s.capQ b / 100000 : Nat) }, r.1, s.refFloor r.2)

/-- R252: a reference point: σ becomes σ_REF and more as given; event 0x9004. -/
def State.reference (s : State) (b volt extra : Nat) : State :=
  let (t, c, fl) := s.setCharge b volt
  let x := t.bay b
  let t := t.setBay b { x with refAt := some t.ck.mono, warnAt := t.ck.mono, discr := false }
  let t := ((t.wri F.EN_STS_PROVIS b 0).wri F.EN_STS_PAUSEREQ b 0).setSigma b (fl + extra)
  t.event 0x9004 [b, c, t.sigma b]

/-- R264: a provisional reference point: σ 4 % plus the standing additions. -/
def State.provisional (s : State) (b volt : Nat) : State :=
  let (t, c, _) := s.setCharge b volt
  let t := ((t.wri F.EN_STS_PROVIS b 1).wri F.EN_STS_PAUSEREQ b 1).setSigma b 400
  t.event 0x9004 [b, c, t.sigma b]

/-! ### Outputs (R254 to R256) -/

/-- R254: E_FULL in µJ. -/
def State.eFull (s : State) (b : Nat) : Nat := s.rdi F.EN_LRN_CAP b * s.profN b 1 * 36

/-- R254: the rescale load P_LOAD in W. -/
def State.packLoad (s : State) (b : Nat) : Nat := min (s.profN b 2) (s.savePower s.fc.rfl / 100000000000)

/-- R254: what q0(T), E_R and q_P depend on: profile, temperature, P_LOAD, T_WIN + T_RL in ms, V_SD and k_R. -/
def State.modelArgs (s : State) (b : Nat) : List Int :=
  [s.rdi F.EN_STS_PROFILE b, s.packTemp b, s.packLoad b, (s.tWin + 50 : Nat), s.rd F.EN_CTL_VSD, s.rdi F.EN_LRN_KR b]

/-- R256: E_SAVE in µJ for the Weir in force. -/
def State.eSave (s : State) : Nat :=
  s.rd F.MR_SAVEPWR_PFIX * (s.tWin * 1000000 + 50000000 + s.tMrg) / 1000 + s.rd F.MR_SAVEPWR_KP * s.weirBytes / 100000

/-- R254: the parts of the reserve in µJ: fixed, uncertainty and test. -/
def State.reserves (s : State) (b : Nat) : Nat × Nat × Nat :=
  (s.rdi F.EN_CFG_RSV b * 1000000, 3 * s.sigma b * s.eFull b / 10000, s.rdi F.EN_RSV_TEST b * 1000000)

/-- R256, R257: q_P in 10^-5: the charge at which E_U would equal (N_F − 1) × E_SAVE, or the present charge if that is lower; during a
load-transfer test no more than the charge of the planned end. -/
def State.qP (s : State) (b : Nat) : Nat :=
  let (f, u, te) := s.reserves b
  let q := min (s.qFrac b) (Config.chargeFor (s.modelArgs b ++ [(s.rdi F.EN_LRN_CAP b : Int), ((f + u + te : Nat) : Int),
    (((s.nF - 1) * s.eSave : Nat) : Int)]))
  let dq := (s.bay b).plan * 1000000 * 100000 / max 1 (s.eFull b)
  let st := s.rdi F.EN_STS_TSTEP b
  if st = 2 then min q (s.qFrac b - dq) else if st = 3 then min q ((s.bay b).f1 - dq) else q

/-- R256: R_EFF in µΩ at a time in ns and charge, for k_R in 1/1,024. -/
def effR (p : Nat) (temp : Int) (c t kr : Nat) : Int :=
  let part := fun (r tau : Nat) => interp p r temp c * (1000000000 - (Config.decay t (interp p tau temp c).toNat : Int)) / 1000000000
  (interp p 1 temp c + part 2 4 + part 3 5) * kr / 1024

/-- R256: P_MODEL in W at q_P. -/
def State.pModel (s : State) (b : Nat) : Nat :=
  let p := s.rdi F.EN_STS_PROFILE b
  let c := s.qP b
  let vsd : Int := s.rd F.EN_CTL_VSD
  let x := s.bay b
  let drop := if s.packCurr b < 0 then 0 else max 0 (x.v1 + x.v2)
  let r := effR p (s.packTemp b) c ((s.tWin + 50) * 1000000) (s.rdi F.EN_LRN_KR b)
  if r ≤ 0 then 0 else (vsd * (interp p 0 (s.packTemp b) c - vsd * 1000 - drop) / r / 1000).toNat

/-- R254: the model value of rescaled charge, in 10^-12. -/
def State.socModel (s : State) (b : Nat) : Nat :=
  let q0 := Config.emptyCharge (s.modelArgs b)
  (s.qFrac b - q0) * 1000000000000 / max 1 (100000 - q0)

/-- R255: a value that follows a target by at most a step, upward and downward. -/
def slew (old target up down : Nat) : Nat := if old < target then min target (old + up) else max target (old - down)

/-- R254 to R256: the outputs of a bay are recomputed; `direct` at a first estimate, otherwise slewed over the time since the last update. -/
def State.estimate (s : State) (b : Nat) (direct : Bool) : State :=
  let x := s.bay b
  let dt := s.ck.mono - x.at_
  let er := Config.packEnergy (s.modelArgs b ++ [(s.rdi F.EN_LRN_CAP b : Int), (s.qFrac b : Int)])
  let (f, u, te) := s.reserves b
  let target := er - (f + u + te)
  let eu := if direct then target else slew x.eu target (s.eFull b * dt / 12000000000000) (2 ^ 64)
  let sm := if er < 1000000 then 0 else s.socModel b
  let soc := if direct || sm == 0 then sm else slew x.soc sm (dt / 12) (dt / 12)
  let pm := s.pModel b
  let t := s.setBay b { x with eu := eu, soc := soc, at_ := s.ck.mono, pd := min (s.profN b 2) pm }
  let t := (t.wri F.EN_SOC_SOC b (soc / 1000000000)).wri F.EN_SOC_SOCM b (sm / 1000000000)
  let t := ((t.wri F.EN_PWR_PMODEL b (min 0xFFFF pm)).wri F.EN_PWR_PRATE b (s.profN b 2)).wri F.EN_PWR_LOAD b (s.packLoad b)
  ((t.wri F.EN_ENG_ER b (er / 1000000)).wri F.EN_RSV_FIX b (f / 1000000)).wri F.EN_RSV_UNC b (u / 1000000)

/-- R256: the bay counts in the sums. -/
def State.bayCounts (s : State) (b : Nat) : Bool :=
  !([0, 1, 2, 3, 9].contains (s.bayState b)) && !s.flagi F.EN_STS_RELEASED b && !(s.bay b).dalarm && (s.bay b).first

/-- R266: the bay has settled; a pack found below V_DEEP settles with a zero contribution. -/
def State.baySettled (s : State) (b : Nat) : Bool :=
  [0, 2, 3, 9].contains (s.bayState b) || ((s.bay b).first && s.bayState b != 1)

/-- R256, R266: the sums, and P_D and E_U as counted; until every bay has settled they read zero. -/
def State.sums (s : State) : State :=
  let rdy := bit01 (s.baySettled 0) + 2 * bit01 (s.baySettled 1)
  let t := s.wr F.EN_SUM_READY rdy
  let t := t.forEach [0, 1] fun a b =>
    let c := a.bayCounts b && rdy == 3
    (a.wri F.EN_PWR_PD b (if c then (a.bay b).pd else 0)).wri F.EN_ENG_EU b (if c then (a.bay b).eu / 1000000 else 0)
  let t := (t.wr F.EN_SUM_PD (t.rdi F.EN_PWR_PD 0 + t.rdi F.EN_PWR_PD 1)).wr F.EN_SUM_EU (t.rdi F.EN_ENG_EU 0 + t.rdi F.EN_ENG_EU 1)
  t.updReady

/-- R256: the state of health in percent; falling below 80 % is event 0x900E. -/
def State.putSoh (s : State) (b : Nat) : State :=
  let v := min 255 (s.rdi F.EN_LRN_CAP b * 100 / max 1 (s.profN b 0))
  let old := s.rdi F.EN_SOC_SOH b
  let t := s.wri F.EN_SOC_SOH b v
  if v < 80 ∧ (80 ≤ old ∨ old = 0) then t.event 0x900E [b, v] else t

/-! ### Bay states (R248, R249, R258) -/

/-- R249: reaching full charge clears SPN_FLICK.CONSEC. -/
def State.fullCheck (s : State) : State :=
  let l := [0, 1].filter fun b => ! [0, 2, 9].contains (s.bayState b)
  if !l.isEmpty && l.all (fun b => s.flagi F.EN_STS_FULL b) then s.wr F.SPN_FLICK_CONSEC 0 else s

/-- R108: whether a test or pack test waits. -/
def State.setWaits (s : State) : State :=
  { s with mr := { s.mr with testWaits := (s.trials.any fun e => e.2.st == 1) || s.rdi F.EN_STS_TSTEP 0 == 1 || s.rdi F.EN_STS_TSTEP 1 == 1 } }

/-- R257, R258: the load-transfer test of a bay is over. -/
def State.packTestEnd (s : State) (b : Nat) : State :=
  let t := s.setBay b { s.bay b with xfer := false, plan := 0, iset := 0 }
  let t := ((t.wri F.EN_STS_TSTEP b 0).wri F.EN_RSV_TEST b 0).wr (if b = 0 then F.MR_TEST_PACKA else F.MR_TEST_PACKB) 0
  t.setWaits

/-- R248, R265: the charger of a bay is on unless it is held off or the bay released; a pack charges at the lesser of ICHG and the profile
limit, in precharge at C_D/10. -/
def State.charger (s : State) (b : Nat) (pre : Bool) : State :=
  let x := s.bay b
  let on := !x.held && !s.flagi F.EN_STS_RELEASED b && s.phase != phSave && s.phase != phLinger
  let i := if pre then s.profN b 0 / 1000 else min (s.rdi F.EN_CFG_ICHG b) (s.profN b 5)
  s.setBay b { x with chg := on, iset := if on then i else 0 }

/-- The charger of a bay is off. -/
def State.chargerOff (s : State) (b : Nat) : State := s.setBay b { s.bay b with chg := false, xfer := false, iset := 0 }

/-- R248: the bay returns to CHARGE. -/
def State.toCharge (s : State) (b : Nat) : State := ((s.wri F.EN_STS_STATE b 4).wri F.EN_STS_CAUSE b 0).charger b false

/-- R258: a test or pause on the bay ends without learning; a waiting test is abandoned. -/
def State.endTestOrPause (s : State) (b : Nat) : State :=
  let st := s.bayState b
  let t := if s.rdi F.EN_STS_TSTEP b ≠ 0 then s.packTestEnd b else s
  if st = 6 ∨ st = 7 then t.toCharge b else t

/-- R267: the bay enters FAULT with a cause; event 0x900D. -/
def State.bayFault (s : State) (b cause : Nat) : State :=
  let t := (s.endTestOrPause b).chargerOff b
  ((((t.wri F.EN_STS_STATE b 9).wri F.EN_STS_CAUSE b cause).wri F.EN_STS_FULL b 0).event 0x900D [b, cause]).sums

/-- R248, R267: in CHARGE or FLOAT charging is inhibited for a cause. -/
def State.inhibit (s : State) (b cause : Nat) : State :=
  if s.bayState b = 4 ∨ s.bayState b = 5 then ((s.wri F.EN_STS_STATE b 8).wri F.EN_STS_CAUSE b cause).chargerOff b else s

/-- R264, R266: the first estimate of a pack just identified or brought to V_DEEP, by its origin, and its charging. -/
def State.firstEstimate (s : State) (b volt : Nat) : State :=
  let x := s.bay b
  let t :=
    if x.first then s
    else
      let s := s.setBay b { x with v1 := 0, v2 := 0, first := true, kept := none }
      match x.kept, (if s.flag F.CK_SLEEP_VALID then s.ck.wakeRest else none) with
      | some (q, sg, _), some rest =>
        if 7200000000000 ≤ rest then s.reference b volt (if 2592000000000000 < rest then 100 else 0)
        else
          (s.setBay b { s.bay b with q := q - (s.rd F.EN_CTL_DORMI * rest / 1000000000 : Nat) }).setSigma b (sg + rest * 5 / 3600000000000)
      | _, _ => s.provisional b volt
  (((t.putSigma b).estimate b (!x.first)).toCharge b).sums

/-- R267: a condition watched by timer i of a bay: whether it has held for a time and is to be acted on now, once. -/
def State.watch (s : State) (b i : Nat) (cond : Bool) (d : Nat) : State × Bool :=
  let x := s.bay b
  if !cond then (s.setBay b { x with since := FMap.del (FMap.del x.since i) (i + 16) }, false)
  else match FMap.find x.since i with
    | none => (s.setBay b { x with since := FMap.put x.since i s.ck.mono }, false)
    | some a =>
      if a + d ≤ s.ck.mono && !FMap.has x.since (i + 16) then (s.setBay b { x with since := FMap.put x.since (i + 16) s.ck.mono }, true)
      else (s, false)

/-! ### Learning records (R261, R262) -/

/-- R261: a learning record of bay b as the words of its sub-sector. -/
def LearnRec.words (b : Nat) (r : LearnRec) : List Nat :=
  let ws := [0x454E4C52 * 2 ^ 32 + 0x01 * 2 ^ 24 + b % 2, r.seq % 2 ^ 32, r.mdate % 2 ^ 16 * 2 ^ 16 + r.serial % 2 ^ 16,
    r.tests % 2 ^ 16 * 2 ^ 48 + r.kr % 2 ^ 16 * 2 ^ 32 + r.cap % 2 ^ 32, r.time % 2 ^ 64]
  ws ++ [crc32c (wordBytes ws), 2 ^ 64 - 1, 0x5A5AA5A55A5AA5A5]

/-- R262: a record is valid when MAGIC, VERSION, CRC and VALID all match. -/
def learnRead (b : Nat) (ws : List Nat) : Option LearnRec :=
  let w := fun i => ws.getD i 0
  if natField (w 0) 32 32 = 0x454E4C52 ∧ natField (w 0) 24 8 = 1 ∧ w 0 % 2 = b ∧ natField (w 5) 0 32 = crc32c (wordBytes (ws.take 5)) ∧
      w 7 = 0x5A5AA5A55A5AA5A5 then
    some { seq := natField (w 1) 0 32, mdate := natField (w 2) 16 16, serial := natField (w 2) 0 16, tests := natField (w 3) 48 16
           kr := natField (w 3) 32 16, cap := natField (w 3) 0 32, time := w 4 }
  else none

/-- R262: sequence a is newer than b in modulo 2^32 order. -/
def seqNewer (a b : Nat) : Bool := a != b && decide ((a + 2 ^ 32 - b) % 2 ^ 32 < 2 ^ 31)

/-- R262: the bay's newer valid record, with its sub-sector. -/
def State.newestLearn (s : State) (b : Nat) : Option (Nat × LearnRec) :=
  let l := s.bay b
  match learnRead b (l.recs.getD 0 []), learnRead b (l.recs.getD 1 []) with
  | some x, some y => if seqNewer y.seq x.seq then some (1, y) else some (0, x)
  | some x, none => some (0, x)
  | none, some y => some (1, y)
  | none, none => none

/-- R262: the waiting learning record is written over the older or invalid one, when no Save runs and the boot store is idle. -/
def State.writeLearn (s : State) (b : Nat) : State :=
  let x := s.bay b
  match x.pend with
  | none => s
  | some r =>
    if s.phase = phSave ∨ s.phase = phLinger ∨ s.phase = phDormant ∨ s.rd F.FW_NOR_STATE ≠ 0 then s
    else
      let i := match s.newestLearn b with | some p => 1 - p.1 | none => 0
      (s.setBay b { x with recs := (List.range 2).map fun j => if j = i then r.words b else x.recs.getD j [], pend := none, intent := false }).norProgram

end Sys2Proof.Machine
end

