-- ==== Sys2Proof/Machine/Energy.lean ====
section
/-! DEFINITION. The energy packs' commands: insertion, identification, charging, pauses, load-transfer tests, the estimator's update, and the
pack operations (R107, R108, R244 to R268, R431). -/

namespace Sys2Proof.Machine

/-! ### Insertion and removal (R248, R260 to R266) -/

/-- The controller's logic is powered: neither DORMANT nor OFF. -/
def State.awake (s : State) : Bool := s.phase != phOff && s.phase != phDormant

/-- The present pin of a bay holds a level: 0 present. -/
def State.packPin (s : State) (b v : Nat) : State := s.wr (if b = 0 then F.GEN_PINS_PACKA else F.GEN_PINS_PACKB) v

/-- PACK_PRESENT_DEBOUNCE (R248, R288): PRSNT_N has been low for 100 ms: identification begins; standby ends. -/
def execPackPresentDebounce (bay ticks : Nat) (s : State) : Answer :=
  let t := s.begin
  if 2 ≤ bay then .next t
  else
    let t := t.packPin bay 0
    if !t.awake then .next t
    else
      let t := t.wakeDeep ticks
      .next (if t.bayState bay = 0 then ((t.wri F.EN_STS_STATE bay 1).chargerOff bay).sums else t)

/-- R246: a capacity read from the monitor in 0.01 mAh: the unit is mAh, or 10 mWh under CAPACITY_MODE. -/
def PackId.capacity (id : Sys2Proof.PackId) (v vnom : Nat) : Nat := if id.inMwh then v * 1000000 / max 1 vnom else v * 100

/-- R247: the profile of a pack: its three names match, and DesignCapacity and DesignVoltage are the profile's values. Under CAPACITY_MODE the
profile's capacity is its energy in 10 mWh, rounded down (DEDUCED, log 194). -/
def packProfile (id : Sys2Proof.PackId) : Option Nat :=
  (List.range Config.profileCount).find? fun p =>
    let cd := (Config.profile p 0).toNat
    let vn := (Config.profile p 1).toNat
    Config.profileNames p == id.names && id.volt == vn && (if id.inMwh then id.cap == cd * vn / 1000000 else id.cap * 100 == cd)

/-- R260, R262: the learned values of an identified pack: from the newer valid learning record when its identity matches, otherwise those of a new
pack; a lost learning is detected. -/
def State.loadLearning (s : State) (b mdate serial fcc : Nat) : State :=
  let x := s.bay b
  let new := (s.newestLearn b).map Prod.snd
  let lost := (x.recs.any fun ws => !ws.isEmpty && (learnRead b ws).isNone) ||
    (x.intent && x.pend.isNone && (match new with | some r => r.time != x.learnAt | none => true))
  let t := match new with
    | some r =>
      if r.mdate = mdate ∧ r.serial = serial then
        ((((s.wri F.EN_LRN_TESTS b r.tests).wri F.EN_LRN_KR b r.kr).wri F.EN_LRN_CAP b r.cap).wri F.EN_STS_NEWPACK b 0)
      else ((((s.wri F.EN_LRN_TESTS b 0).wri F.EN_LRN_KR b 1024).wri F.EN_LRN_CAP b (min (s.profN b 0) fcc)).wri F.EN_STS_NEWPACK b 1)
    | none => ((((s.wri F.EN_LRN_TESTS b 0).wri F.EN_LRN_KR b 1024).wri F.EN_LRN_CAP b (min (s.profN b 0) fcc)).wri F.EN_STS_NEWPACK b 1)
  let t := t.setBay b { t.bay b with fcc := fcc }
  (if lost then (t.wri F.EN_STS_LOSTLRN b 1).event 0x9009 [b] else t).putSoh b

/-- R248, R260, R264, R266: a pack of profile p is identified: below V_DEEP it precharges, otherwise the first estimate is made and charging
begins. -/
def State.identified (s : State) (bay p : Nat) (id : Sys2Proof.PackId) (volt : Nat) : State :=
  let volt := s.calVolt bay volt
  let t := (s.wri F.EN_STS_PROFILE bay p).wri F.EN_MEAS_VOLT bay volt
  let t := (((t.wri F.EN_ID_SERIAL bay id.serial).wri F.EN_ID_MDATE bay id.mdate).wri F.EN_ID_CYCLES bay id.cycles).wri F.EN_ID_SPEC bay id.spec
  let t := t.wr (if bay = 0 then F.TWB_EB_PECA else F.TWB_EB_PECB) (bit01 (natField id.spec 4 4 == 3))
  let t := (t.event 0x9001 [bay, p, id.serial]).loadLearning bay id.mdate id.serial (PackId.capacity id id.fcc id.volt)
  if volt < t.profN bay 3 then ((t.wri F.EN_STS_STATE bay 3).charger bay true).sums else t.firstEstimate bay volt

/-- R247, R248: no profile matches, or the monitor did not answer: UNPROFILED, with the names read. -/
def State.unprofiled (s : State) (bay : Nat) (names : List Nat) : State := ((s.wri F.EN_STS_STATE bay 2).event 0x9003 (bay :: names)).sums

/-- PACK_IDENTIFIED (R246 to R248): the monitor has answered identification; the terminal voltage in mV is read. -/
def execPackIdentified (bay : Nat) (id : Sys2Proof.PackId) (volt : Nat) (s : State) : Answer :=
  let t := s.begin
  if 2 ≤ bay ∨ t.bayState bay ≠ 1 ∨ t.spRuns 4 = false ∨ t.awake = false then .next t
  else match packProfile id with
    | none => .next (t.unprofiled bay id.names)
    | some p => .next (t.identified bay p id volt)

/-- IDENT_TIMEOUT (R248): no answer within 1 s. -/
def execIdentTimeout (bay : Nat) (s : State) : Answer :=
  let t := s.begin
  if bay < 2 ∧ t.bayState bay = 1 ∧ t.spRuns 4 = true then .next (t.unprofiled bay []) else .next t

/-- R263: what SP4 does when a pack is gone: the bay leaves the sums and the inputs of the Weir reflect it; event 0x9002. -/
def State.dropBay (s : State) (b old : Nat) : State := ((s.event 0x9002 [b, old]).sums).reflectEvent b

/-- PACK_REMOVED (R248, R258, R263, R265, R288): the fallback Weir loads and the charger stops at once; a test in either bay ends; the release
clears; in a Save the rate is recomputed. -/
def execPackRemoved (bay ticks : Nat) (s : State) : Answer :=
  let t := s.begin
  if 2 ≤ bay then .next t
  else
    let t := t.packPin bay 1
    let x := t.bay bay
    let blank : Bay := { recs := x.recs, pend := x.pend, intent := x.intent, learnAt := x.learnAt }
    if !t.awake then .next (t.setBay bay blank)
    else
      let t := t.wakeDeep ticks
      let old := t.bayState bay
      if old = 0 then .next (t.setBay bay blank)
      else
        let t := t.fallbackWeir bay
        let t := if t.rdi F.EN_STS_TSTEP bay = 0 then t else t.packTestEnd bay
        let t := if t.rdi F.EN_STS_TSTEP (1 - bay) = 0 then t else t.endTestOrPause (1 - bay)
        let t := t.setBay bay { blank with recs := (t.bay bay).recs }
        let t := t.forEach [0, 1, 2, 3, 4, 5, 6, 7, 8, 9] fun a i =>
          a.wri ([F.EN_STS_STATE, F.EN_STS_SAFE, F.EN_STS_RELEASED, F.EN_STS_LOSTLRN, F.EN_STS_SBSLOST, F.EN_STS_PROVIS, F.EN_STS_NEWPACK,
            F.EN_STS_FULL, F.EN_STS_PAUSEREQ, F.EN_STS_CAUSE].getD i F.EN_STS_STATE) bay 0
        let t := if t.spRuns 4 then t.dropBay bay old else t
        let t := if t.phase = phSave then (t.wr F.SPN_SAVE_PACKLOSS 1).recompute 1 else t
        .next t.fullCheck

/-! ### Charging (R248) -/

/-- PRECHARGE_COMPLETE (R248, R264): the voltage reaches V_DEEP: the first estimate is made and charging begins. -/
def execPrechargeComplete (bay volt : Nat) (s : State) : Answer :=
  let t := s.begin
  if bay < 2 ∧ t.bayState bay = 3 ∧ t.spRuns 4 = true then .next ((t.wri F.EN_MEAS_VOLT bay (t.calVolt bay volt)).firstEstimate bay (t.calVolt bay volt)) else .next t

/-- PRECHARGE_TIMEOUT (R248): precharge has run 2 h. -/
def execPrechargeTimeout (bay : Nat) (s : State) : Answer :=
  let t := s.begin
  if bay < 2 ∧ t.bayState bay = 3 ∧ t.spRuns 4 = true then .next (t.bayFault bay 1) else .next t

/-- CHARGE_COMPLETE (R248, R249): float voltage with a current below C_D/50 for 60 s. -/
def execChargeComplete (bay : Nat) (s : State) : Answer :=
  let t := s.begin
  if bay < 2 ∧ t.bayState bay = 4 ∧ t.spRuns 4 = true then .next (((t.wri F.EN_STS_FULL bay 1).wri F.EN_STS_STATE bay 5).fullCheck) else .next t

/-- FLOAT_DROP (R248): voltage 1 % below float for 10 s. -/
def execFloatDrop (bay : Nat) (s : State) : Answer :=
  let t := s.begin
  if bay < 2 ∧ t.bayState bay = 5 ∧ t.spRuns 4 = true then .next ((t.wri F.EN_STS_FULL bay 0).toCharge bay) else .next t

/-- INHIBIT_CLEAR (R248): the inhibit cause has been absent for 60 s. -/
def execInhibitClear (bay : Nat) (s : State) : Answer :=
  let t := s.begin
  if bay < 2 ∧ t.bayState bay = 8 ∧ t.spRuns 4 = true then .next (t.toCharge bay) else .next t

/-! ### Pauses and reference points (R252, R253) -/

/-- R253: the Weir computed with this pack's E_U and P_D each lowered by 10 % equals the Weir in force. -/
def State.weirAllows (s : State) (b : Nat) : Bool :=
  let i := s.weirIn 0
  let w := s.weirTerms { i with pd := i.pd - s.rdi F.EN_PWR_PD b / 10, eu := i.eu - s.rdi F.EN_ENG_EU b / 10 }
  w.gib == s.rd F.MR_WEIR_WEIR

/-- R253: every condition of a pause holds. -/
def State.mayPause (s : State) (b : Nat) : Bool :=
  let x := s.bay b
  let temp := s.packTemp b
  s.phase == phService && s.bayState b == 5 && ! [6, 7].contains (s.bayState (1 - b)) &&
    (s.flagi F.EN_STS_PAUSEREQ b || (match x.refAt with | some r => decide (r + 86400000000000 ≤ s.ck.mono) | none => true)) &&
    !s.flagi F.EN_STS_RELEASED 0 && !s.flagi F.EN_STS_RELEASED 1 && decide (100 ≤ temp) && decide (temp ≤ 400) &&
    decide (temp - x.tOld < 20) && decide (x.tOld - temp < 20) && s.weirAllows b

/-- PAUSE_ATTEMPT (R253): the conditions are tried; a pause begins when all hold. -/
def execPauseAttempt (bay : Nat) (s : State) : Answer :=
  let t := s.begin
  if bay < 2 ∧ t.spRuns 4 = true ∧ t.mayPause bay = true then .next ((t.wri F.EN_STS_STATE bay 6).chargerOff bay) else .next t

/-- R259: the check a candidate capacity fails: 1 floors, 2 depth, 3 range, 4 change; 0: it is accepted. -/
def State.learnCheck (s : State) (b fl df c : Nat) : Nat :=
  let cd := s.profN b 0
  let old := s.rdi F.EN_LRN_CAP b
  if 200 < fl ∨ 200 < (s.bay b).floor1 then 1
  else if df < 20000 then 2
  else if c * 2 < cd ∨ cd * 11 < c * 10 then 3
  else if s.rdi F.EN_STS_NEWPACK b = 0 ∧ old < 10 * (max c old - min c old) then 4
  else 0

/-- R257 to R259, R261, R262: step 5: capacity and resistance are learned from the test, or the candidate is rejected; the test is over. -/
def State.learn (s : State) (b c2 fl : Nat) : State :=
  let x := s.bay b
  let df := x.f1 - c2
  let dq := (signedOf 64 (s.rdi F.EN_Q_COUNT b) - x.tq).toNat
  let c := dq * 100000 / (36000 * max 1 df)
  let k := s.learnCheck b fl df c
  let t :=
    if k ≠ 0 then s.event 0x9008 [b, k]
    else
      let kr := max 512 (min 4096 ((s.rdi F.EN_LRN_KR b + x.kmeas) / 2))
      let n := s.rdi F.EN_LRN_TESTS b + 1
      let r : LearnRec := { seq := (match s.newestLearn b with | some p => (p.2.seq + 1) % 2 ^ 32 | none => 1), mdate := s.rdi F.EN_ID_MDATE b,
                            serial := s.rdi F.EN_ID_SERIAL b, tests := n, kr := kr, cap := c, time := s.ck.ns }
      let t := s.setBay b { x with q := (c2 * c * 36000 / 100000 : Nat), pend := some r, intent := true, learnAt := s.ck.mono }
      let t := ((t.wri F.EN_LRN_CAP b c).wri F.EN_LRN_KR b kr).wri F.EN_LRN_TESTS b n
      let t := (t.wri F.EN_STS_NEWPACK b 0).wri F.EN_STS_LOSTLRN b 0
      (((t.event 0x9007 [b, c, kr]).writeLearn b).putSigma b).putSoh b
  (t.packTestEnd b).toCharge b

/-- PAUSE_COMPLETE (R248, R252, R257 to R259): after 20 min of rest the mean terminal voltage in mV gives a reference point; in a test rest 1
leads to the discharge and rest 2 to learning. -/
def execPauseComplete (bay volt : Nat) (s : State) : Answer :=
  let t := s.begin
  if 2 ≤ bay ∨ t.spRuns 4 = false then .next t
  else
    let volt := t.calVolt bay volt
    let st := t.bayState bay
    let ts := t.rdi F.EN_STS_TSTEP bay
    if st = 6 then
      let t := t.reference bay volt 0
      .next ((t.wri F.EN_STS_STATE bay 5).charger bay false)
    else if st = 7 ∧ (ts = 2 ∨ ts = 4) then
      let (u, c, fl) := t.setCharge bay volt
      let t := t.reference bay volt 0
      if ts = 2 then
        let x := t.bay bay
        let t := t.setBay bay { x with f1 := c, floor1 := fl, tq := signedOf 64 (t.rdi F.EN_Q_COUNT bay), xfer := true
                                       iset := x.tpwr * 1000000 / max 1 (u.rdi F.EN_MEAS_VOLT bay) }
        .next (t.wri F.EN_STS_TSTEP bay 3)
      else .next (t.learn bay c fl)
    else .next t

/-- PAUSE_ABORT (R248, R258): the current reaches C_D/1000 in a pause, which ends without a reference; a rest of a test so ended ends the
test. -/
def execPauseAbort (bay : Nat) (s : State) : Answer :=
  let t := s.begin
  if bay < 2 ∧ t.spRuns 4 = true ∧ (t.bayState bay = 6 ∨ (t.bayState bay = 7 ∧ t.rdi F.EN_STS_TSTEP bay ≠ 3)) then .next (t.endTestOrPause bay)
  else .next t

/-- TEST_DISCHARGE_END (R257): the counted charge or the time limit is reached: rest 2 begins. The voltage step in mV over the first 2.05 s and
the current step in mA give the measured ratio of k_R. -/
def execTestDischargeEnd (bay dv di : Nat) (s : State) : Answer :=
  let t := s.begin
  if bay < 2 ∧ t.spRuns 4 = true ∧ t.bayState bay = 7 ∧ t.rdi F.EN_STS_TSTEP bay = 3 then
    let x := t.bay bay
    let r := effR (t.rdi F.EN_STS_PROFILE bay) (t.packTemp bay) x.f1 2050000000 1024
    let km := if di = 0 ∨ r ≤ 0 then t.rdi F.EN_LRN_KR bay else ((dv : Int) * 1000000 * 1024 / (di * r)).toNat
    .next ((t.setBay bay { x with xfer := false, iset := 0, kmeas := km }).wri F.EN_STS_TSTEP bay 4)
  else .next t

/-- REFERENCE_AGE_7_DAYS (R253): 7 days without a reference point, and every 7 days again: event 0x9005. -/
def execReferenceAge7Days (bay : Nat) (s : State) : Answer :=
  let t := s.begin
  if bay < 2 ∧ t.spRuns 4 = true ∧ (t.bay bay).first = true then
    .next ((t.setBay bay { t.bay bay with warnAt := t.ck.mono }).event 0x9005 [bay, t.sigma bay])
  else .next t

/-! ### The estimator (R245, R250, R251, R267) -/

/-- R251: pack temperature from the first source available. -/
def State.putTemp (s : State) (b : Nat) (therm : Option Int) : State :=
  let x := s.bay b
  let (v, src) : Int × Nat := match x.sbsT, therm with
    | some v, _ => (v, 0)
    | none, some v => (v, 1)
    | none, none => (10 * signedOf 8 (s.rd F.EN_CTL_TFAIL), 2)
  let t := (s.wri F.EN_MEAS_TEMP b (signedIn 16 v)).wri F.EN_MEAS_TSRC b src
  if x.tAt + 600000000000 ≤ s.ck.mono then t.setBay b { x with tOld := v, tAt := s.ck.mono } else t

/-- R250: q and the RC voltages advance from the charge counted and the current. -/
def State.advanceModel (s : State) (b : Nat) (dq curr : Int) : State :=
  let x := s.bay b
  let p := s.rdi F.EN_STS_PROFILE b
  let temp := s.packTemp b
  let c := s.qFrac b
  let dt := s.ck.mono - x.at_
  let rc := fun (v : Int) (r tau : Nat) =>
    let e := curr * interp p r temp c * s.rdi F.EN_LRN_KR b / 1024000
    e + (v - e) * Config.decay dt (interp p tau temp c).toNat / 1000000000
  s.setBay b { x with q := x.q - dq, v1 := rc x.v1 2 4, v2 := rc x.v2 3 5 }

/-- R250: the model's terminal voltage in mV. -/
def State.modelVolt (s : State) (b : Nat) (curr : Int) : Int :=
  let x := s.bay b
  let p := s.rdi F.EN_STS_PROFILE b
  let temp := s.packTemp b
  let c := s.qFrac b
  (interp p 0 temp c - curr * interp p 1 temp c * s.rdi F.EN_LRN_KR b / 1024000 - x.v1 - x.v2) / 1000

/-- R267: the voltages, the currents and the residual are compared. -/
def State.senseFaults (s : State) (b volt : Nat) (curr : Int) : State :=
  let x := s.bay b
  let cd := s.profN b 0
  let (t, f1) := s.watch b 1 (match x.sbsV with | some v => decide (300 < max v volt - min v volt) | none => false) 10000000000
  let t := if f1 && !x.discr then ((t.setBay b { t.bay b with discr := true, sig := x.sig + 200 }).event 0x900B [b, 0]) else t
  let (t, f2) := t.watch b 2 (match x.sbsI with | some i => decide ((cd / 2000 + 50 : Nat) < (curr + i).natAbs) | none => false) 60000000000
  let t := if f2 then (t.setSigma b 800).event 0x900B [b, 1] else t
  let res := (t.modelVolt b curr - volt).natAbs
  let (t, f3) := t.watch b 3 (decide (150 < res)) 60000000000
  if f3 then ((t.setSigma b 800).wri F.EN_STS_PAUSEREQ b 1).event 0x9010 [b, res] else t

/-- R267: the float voltage, a charge current with CHG_EN low, and the temperature limits of charging and of a test are watched. -/
def State.chargeFaults (s : State) (b volt : Nat) (curr : Int) : State :=
  let fl := s.profN b 4
  let off := decide (volt * 100 < fl * 99) || decide (fl * 101 < volt * 100)
  let (t, f4) := s.watch b 4 (s.bayState b == 5 && off) 60000000000
  let (t, f5) := t.watch b 5 (!(t.bay b).chg && decide (curr < -((t.profN b 0 / 10000 : Nat) : Int))) 10000000000
  let t := if f4 then t.bayFault b 2 else if f5 then t.bayFault b 3 else t
  let temp := t.packTemp b
  let t := if (t.bayState b = 4 ∨ t.bayState b = 5) ∧ (temp < t.prof b 7 ∨ t.prof b 8 < temp) then
      (t.inhibit b 0x10).event 0x900F [b, signedIn 16 temp]
    else t
  if t.bayState b = 7 ∧ (temp < 150 ∨ 350 < temp) then t.endTestOrPause b else t

/-- R10, R245, R250: one bay's part of the update: the charge counter counts the calibrated samples in hardware; SP4 measures, advances the
model and recomputes. -/
def State.bayUpdate (s : State) (b : Nat) (x : BaySense) : State :=
  let t := s.wri F.EN_Q_COUNT b (signedIn 64 (signedOf 64 (s.rdi F.EN_Q_COUNT b) + x.dq))
  if !t.spRuns 4 || t.bayState b == 0 then t
  else
    let y := t.bay b
    let volt := t.calVolt b x.volt
    let curr := t.calCurr b x.curr
    let low := match y.sbsV with | some v => if FMap.has y.since 17 then min v volt else volt | none => volt
    let t := ((t.wri F.EN_MEAS_VOLT b low).wri F.EN_MEAS_CURR b (signedIn 16 curr)).putTemp b x.therm
    if !(t.bay b).first then t
    else
      let t := ((t.advanceModel b x.dq curr).senseFaults b volt curr).chargeFaults b low curr
      ((t.putSigma b).estimate b false).writeLearn b

/-- R17: after an alarm wake with service input absent, once every bay has settled and no pack waits to be identified, the pack readings are
recorded and the device passes to DORMANT again. -/
def State.alarmSleep (s : State) : State :=
  let wait := [0, 1].any fun b => s.bayState b == 0 && s.rd (if b = 0 then F.GEN_PINS_PACKA else F.GEN_PINS_PACKB) == 0
  if s.phase = phBringup ∧ s.pw.alarmWake = true ∧ s.pw.seqOn = true ∧ s.flag F.PW_VIN_OK = false ∧ s.rd F.EN_SUM_READY = 3 ∧ wait = false then
    s.powerDown 0x03
  else s

/-- ESTIMATOR_UPDATE (R17, R245, R250, R256, R263): both bays are updated and the sums passed to SP0; the inputs then reflect the packs
present. -/
def execEstimatorUpdate (a b : BaySense) (s : State) : Answer :=
  let t := s.begin
  if !t.awake then .next t
  else
    let t := (t.bayUpdate 0 a).bayUpdate 1 b
    if !t.spRuns 4 then .next t else .next ((t.sums.reflectEvent 0).reflectEvent 1).alarmSleep

/-- R267: the alarms of a BatteryStatus word are acted on: alarms newly set record event 0x900C; a charge alarm inhibits charging, a discharge
alarm takes the bay out of the sums until clear for 60 s; any ends a test. -/
def State.sbsAlarms (s : State) (b st : Nat) : State :=
  let x := s.bay b
  let chg := natBit st 15 || natBit st 14 || natBit st 12
  let dis := natBit st 11 || natBit st 4
  let new := [15, 14, 12, 11, 4].any fun i => natBit st i && !natBit x.status i
  let t := if new then s.event 0x900C [b, st] else s
  let y : Bay := if dis then { x with status := st, dalarm := true, dclear := none }
    else if !x.dalarm then { x with status := st }
    else match x.dclear with
      | none => { x with status := st, dclear := some s.ck.mono }
      | some a => if a + 60000000000 ≤ s.ck.mono then { x with status := st, dalarm := false, dclear := none } else { x with status := st }
  let t := t.setBay b y
  let t := if (chg || dis) && t.rdi F.EN_STS_TSTEP b != 0 then t.endTestOrPause b else t
  (if chg then t.inhibit b 0x11 else t).sums

/-- SBS_POLL (R246, R251, R267, R324): the pack monitor's answers, or none, as while its bus is in FAULT; silent for 5 s it is lost. -/
def execSbsPoll (bay : Nat) (ans : Option SbsData) (s : State) : Answer :=
  let t := s.begin
  if 2 ≤ bay ∨ t.spRuns 4 = false ∨ [0, 1, 2].contains (t.bayState bay) = true then .next t
  else
    let t := t.busFree (5 + bay)
    match (if t.twb.faulted (5 + bay) then none else ans) with
    | some d =>
      let t := (t.watch bay 0 false 0).1.wri F.EN_STS_SBSLOST bay 0
      let t := t.setBay bay { t.bay bay with sbsT := some d.temp, sbsV := some d.volt, sbsI := some d.curr }
      let t := match d.cycles with | some c => t.wri F.EN_ID_CYCLES bay c | none => t
      .next ((t.putTemp bay none).sbsAlarms bay d.status)
    | none =>
      let (t, lost) := t.watch bay 0 true 5000000000
      if lost then
        let t := t.setBay bay { t.bay bay with sbsT := none, sbsV := none, sbsI := none }
        .next ((t.wri F.EN_STS_SBSLOST bay 1).event 0x900A [bay])
      else .next t

/-! ### Pack operations (R257, R265, R268, R431) -/

/-- R268: a pack operation: outside SERVICE it is refused with reason PHASE; an absent bay is a range fault. -/
def State.packOp (s : State) (c : Instr) (h tag b : Nat) (f : State → Ticket → State) : State :=
  s.begin.adminMp c h tag 0 fun t k =>
    if t.phase ≠ phService then t.finish k 4 11 0
    else if t.bayState (b % 2) = 0 then t.finish k 5 1 0
    else f t k

/-- PACK_TEST (R257, R268): a load-transfer test is accepted into its wait. -/
def execPackTest (h tag bay depth power : Nat) (s : State) : Answer :=
  .next (s.packOp (.packTest h tag bay depth power) h tag bay fun t k =>
    let b := bay % 2
    if (depth ≠ 0 ∧ (depth < 20 ∨ 60 < depth)) ∨ (power ≠ 0 ∧ (power < 50 ∨ t.profN b 2 < power)) then t.finish k 6 6 0
    else if t.bayState b ≠ 4 ∧ t.bayState b ≠ 5 then t.finish k 4 6 0
    else if t.removing || [0, 1].any fun i => t.rdi F.EN_STS_TSTEP i != 0 || [6, 7].contains (t.bayState i) || t.flagi F.EN_STS_RELEASED i then
      t.finish k 4 8 0
    else
      let d := if depth = 0 then max 20 (min 60 (t.rd F.EN_CTL_TDEPTH)) else depth
      let w := if power = 0 then t.rd F.EN_CTL_TPWR else power
      let t := t.setBay b { t.bay b with tpwr := w, plan := d * t.eFull b / 100000000 }
      ((t.wri F.EN_STS_TSTEP b 1).setWaits.settleMr).finish k 0 0 0)

/-- PACK_PAUSE (R268): a pause is requested, or a pause or test on the bay cancelled. -/
def execPackPause (h tag bay : Nat) (cancel : Bool) (s : State) : Answer :=
  .next (s.packOp (.packPause h tag bay cancel) h tag bay fun t k =>
    let b := bay % 2
    (if cancel then t.endTestOrPause b else t.wri F.EN_STS_PAUSEREQ b 1).finish k 0 0 0)

/-- PACK_STATUS (R268): the bay's state; the percentage of test progress is left open. -/
def execPackStatus (h tag bay : Nat) (s : State) : Answer :=
  .next (s.packOp (.packStatus h tag bay) h tag bay fun t k =>
    let b := bay % 2
    let p := if t.rdi F.EN_STS_TSTEP b = 0 then 0 else t.freeVal % 101
    let r := p * 2 ^ 24 + t.rdi F.EN_STS_LOSTLRN b * 2 ^ 10 + t.rdi F.EN_STS_SAFE b * 2 ^ 9 + t.rdi F.EN_STS_RELEASED b * 2 ^ 8 +
      t.rdi F.EN_STS_TSTEP b * 16 + t.bayState b
    (if t.rdi F.EN_STS_TSTEP b = 0 then t else t.skipFree).finish k 0 0 r)

/-- PACK_RELEASE (R265): the bay counts zero and its charger is off, or the release is undone. -/
def execPackRelease (h tag bay : Nat) (undo : Bool) (s : State) : Answer :=
  .next (s.packOp (.packRelease h tag bay undo) h tag bay fun t k =>
    let b := bay % 2
    if undo then
      if t.flagi F.EN_STS_RELEASED b = false then t.finish k 0 0 0
      else
        let t := t.wri F.EN_STS_RELEASED b 0
        let t := if 4 ≤ t.bayState b ∧ t.bayState b ≤ 8 then t.toCharge b else t
        (t.sums.settleMr).finish k 0 0 0
    else if t.flagi F.EN_STS_RELEASED (1 - b) then t.finish k 4 8 0
    else
      let t := (t.endTestOrPause b).wri F.EN_STS_RELEASED b 1
      ((t.chargerOff b).sums.settleMr).finish k 0 0 0)

/-- GET_PACK_PROFILE (R431): the profile matched in a bay, or an entry of the table by index. -/
def execGetPackProfile (v : Via) (sel : Nat) (s : State) : Answer :=
  .next (s.mbox v (.getPackProfile v sel) .other true fun t =>
    let p : Option Nat := if sel < 2 then (if t.bayState sel ≤ 2 then none else some (t.rdi F.EN_STS_PROFILE sel))
      else if 0x80 ≤ sel ∧ sel - 0x80 < Config.profileCount then some (sel - 0x80) else none
    match p with
    | some p => t.reply v .success (Config.profileNames p ++ (List.range 10).map (fun i => (Config.profile p i % (2 ^ 32 : Int)).toNat) ++
        (List.range 1056).map fun i => (Config.profileTable p).getD i 0)
    | none => t.reply v .invalidInput [])

end Sys2Proof.Machine
end

