-- ==== Sys2Proof/Machine/HostPath.lean ====
section
/-! DEFINITION. CXL.mem writes and reads of the heads, and the mailbox commands that touch DRAM lines (R23 to R25, R39 to R44, R47, R50,
R52, R54, R161, R163). -/

namespace Sys2Proof.Machine

/-! ### Decoding and access (R23, R39, R40) -/

/-- R39: the device byte address a decoder gives a host physical address in its range. -/
def Decoder.dpaOf (d : Decoder) (hpa : Nat) : Option Nat :=
  if d.committed ∧ d.base ≤ hpa ∧ hpa < d.base + d.size then
    let o := hpa - d.base
    some (d.dpa + o / (d.gran * max 1 d.ways) * d.gran + o % max 1 d.gran)
  else none

/-- R39: the 64-byte line a host physical address reaches through the decoders of head k. -/
def State.lineOf (s : State) (k hpa : Nat) : Option Nat := ((s.head k).decoders.findSome? fun e => e.2.dpaOf hpa).map (· / 64)

/-- R25: a mode that lets heads write. -/
def modeWrites (m : Nat) : Bool := m == mdVolatile || m == mdHeld || m == mdTwined || m == mdWritethru

/-- R23, R25, R30: grant and mode let head k write share n; a SEAL in progress refuses writes. -/
def State.writeGranted (s : State) (n k : Nat) : Bool := s.grant n k == 2 && modeWrites (s.shMode n) && !s.sealing n

/-- R23, R25: grant and mode let head k read share n; a SEALED share needs its key share. -/
def State.readGranted (s : State) (n k : Nat) : Bool :=
  (s.grant n k == 1 || s.grant n k == 2) && s.shState n != shLocked && (s.shMode n != mdSealed || s.keyHere n)

/-- R40: head k may write a line. -/
def State.mayWrite (s : State) (k line : Nat) : Bool :=
  match s.shareOf (line / 64) with
  | some n => s.writeGranted n k && s.shOpen n && s.serving
  | none => false

/-- R23, R40: a write the head may not make is discarded; one its grant or mode forbids counts in SHR_VIOL_n.WR. -/
def State.denyWrite (s : State) (k line : Nat) : State :=
  match s.shareOf (line / 64) with
  | some n => if s.writeGranted n k then s else s.bumpi F.SHR_VIOL_WR n
  | none => s

/-! ### Credits (R25, R43, R102, R103) -/

/-- R25: a WRITETHRU share that head k may write holds WT_CAP of units in flight. -/
def State.capHeld (s : State) (k : Nat) : Bool :=
  (List.range 64).any fun n => s.shDefined n && s.shMode n == mdWritethru && s.grant n k == 2 &&
    decide (max 1 (s.rdi F.SHR_CFG_WT_CAP n) * 1024 ≤ s.shDirty n)

/-- R43: ingress lines head k occupies: those that wait for a unit's fetch (R161). -/
def State.ingressUsed (s : State) (k : Nat) : Nat := (s.rs.waits.filter fun w => w.head == k).length

/-- R43: head k holds a write credit. -/
def State.writeCredit (s : State) (k : Nat) : Bool :=
  decide (s.rdi F.HP_CRED_WHELD k + s.ingressUsed k < s.headCredits k) && !s.capHeld k

/-! ### Writes (R41, R42, R52, R89, R201) -/

/-- R41, R89: a permitted line enters ingress from head k: it is marked, streamed where the share is twined, and carried to DRAM. -/
def State.acceptLine (s : State) (k n line : Nat) (d : BitVec 512) (be : BitVec 64) (poison : Bool) : State :=
  let t := if s.counted n then s.markUnit (line / 64) none else s
  let t := t.ingressLine k line d be poison
  let t := t.twineLine n line (t.shLo n * 64) (if t.rmapOf (line / 64) = 1 then d else memLine t.mem (line * 64))
    (poison || t.linePoisoned line)
  if t.counted n then t.settleMr else t

/-- HOST_WRITE (R23, R40 to R43, R52, R54): a whole, checked write; without a credit the host cannot send it. -/
def execHostWrite (h hpa : Nat) (data : BitVec 512) (be : BitVec 64) (poison : Bool) (s : State) : Answer :=
  let t := s.begin
  if !t.headExists h || !t.headUp h || !t.writeCredit h then .next t
  else
    let t := if poison then t.bumpi F.HP_POIS_RXPOIS h else t
    let t := t.send (.writeDone h)
    if t.flagi F.HP_LINK_VIRAL h then .next t
    else match t.lineOf h hpa with
      | none => .next t
      | some line =>
        if t.mayWrite h line then
          match t.shareOf (line / 64) with
          | some n => .next (t.acceptLine h n line data be poison)
          | none => .next t
        else .next (t.denyWrite h line)

/-! ### Reads (R23, R36, R40, R44, R161, R163) -/

/-- R44: HP_LAT_k.MAXRD follows a read answered after the idle latency and the scheduler's wait, in ns. -/
def State.readTime (s : State) (k wait : Nat) : State :=
  s.wri F.HP_LAT_MAXRD k (max (s.rdi F.HP_LAT_MAXRD k) (min 0xFFFF (s.rdi F.HP_LAT_IDLE k + wait)))

/-- R44, R235: a line present in DRAM is read and answered. -/
def State.readLine (s : State) (k line : Nat) (err : LineError) : State :=
  let t := s.lineRead line err
  if s.lineBad line err || s.linePoisoned line then t.answerPoison k else t.send (.readData k (memLine t.mem (line * 64)) false)

/-- R163: the read-started fetches head k holds. -/
def State.readFetches (s : State) (k : Nat) : Nat := (s.rs.fetches.filter fun e => e.2.byRead == some k).length

/-- R163: head k holds a read credit. -/
def State.readCredit (s : State) (k : Nat) : Bool := decide (s.readFetches k < max 1 (min 64 (s.rd F.SPN_RCTL_FETCHLIM)))

/-- HOST_READ (R23, R40, R44, R54, R161): answered from DRAM, forwarded, poisoned, or after a demand fetch; `wait` is the channel
scheduler's wait in ns and `err` the wrong symbols of the codeword read. -/
def execHostRead (h hpa wait : Nat) (err : LineError) (s : State) : Answer :=
  let t := s.begin
  if !t.headExists h || !t.headUp h || !t.readCredit h then .next t
  else if t.flagi F.HP_LINK_VIRAL h then .next ((t.readTime h wait).answerPoison h)
  else match t.lineOf h hpa with
    | none => .next ((t.readTime h wait).answerPoison h)
    | some line =>
      match t.shareOf (line / 64) with
      | none => .next ((t.readTime h wait).answerPoison h)
      | some n =>
        if !t.readGranted n h then .next (((t.bumpi F.SHR_VIOL_RD n).readTime h wait).answerPoison h)
        else if !t.shOpen n || !t.serving then .next ((t.readTime h wait).answerPoison h)
        else if t.rmapOf (line / 64) = 1 then
          if t.rs.handed.contains (line / 64) then .next ((t.readTime h wait).answerPoison h)
          else .next (t.startFetch (line / 64) (some (h, line)))
        else if t.rmapOf (line / 64) = 2 then .next ((t.readTime h wait).send (.readData h 0#512 false))
        else .next ((t.readTime h wait).readLine h line err)

/-! ### Poison commands and scans (R47, R50) -/

/-- INJECT_POISON (R47, R50, R316): the addressed line of a share granted read-write to the head becomes poisoned with source Injected; in a unit
not yet in DRAM it stays so once the unit is installed. -/
def execInjectPoison (v : Via) (dpa : Nat) (s : State) : Answer :=
  .next (s.mbox v (.injectPoison v dpa) .memory false fun t => t.headOnly v fun t k =>
    match t.shareOf (dpa / 4096) with
    | some n =>
      if t.grant n k ≠ 2 then t.reply v .invalidPhysicalAddress []
      else
        let t : State := if t.rmapOf (dpa / 4096) = 1 then { t with rs := { t.rs with injected := dpa / 64 :: t.rs.injected } } else t
        (t.poisonLine (dpa / 64) 0).reply v .success []
    | none => t.reply v .invalidPhysicalAddress [])

/-- CLEAR_POISON (R47, R50, R54, R316): the supplied 64 bytes are written as a host write and the record goes; refused where the head may not
write. From a head in Viral the write is completed and discarded, as any write of it (DEDUCED from R47 and R54, log 218). -/
def execClearPoison (v : Via) (dpa : Nat) (data : BitVec 512) (s : State) : Answer :=
  .next (s.mbox v (.clearPoison v dpa data) .memory false fun t => t.headOnly v fun t k =>
    if t.flagi F.HP_LINK_VIRAL k then t.reply v .success []
    else if t.mayWrite k (dpa / 64) then
      match t.shareOf (dpa / 4096) with
      | some n => (t.acceptLine k n (dpa / 64) data (BitVec.allOnes 64) false).reply v .success []
      | none => t.reply v .invalidPhysicalAddress []
    else (t.denyWrite k (dpa / 64)).reply v .invalidPhysicalAddress [])

/-- SCAN_MEDIA_COMPLETE (R47): the background scan of a mailbox (16 for MCTP) ends; the lines it found uncorrectable enter the poison
list. -/
def execScanMediaComplete (h : Nat) (found : List Nat) (s : State) : Answer :=
  let t := s.begin
  match (t.head h).bg with
  | some (0x4304, dpa, len) =>
    let l := found.filter fun x => decide (dpa / 64 ≤ x) && decide (x * 64 < dpa + len)
    let t := l.foldl State.uncorrectableLine t
    .next (t.setHead h { t.head h with bg := none, scan := l })
  | _ => .next t

end Sys2Proof.Machine
end

