-- ==== Sys2Proof/Machine/Restore.lean ====
section
/-! DEFINITION. Persistence admission, the end of preparation, and the reads of the data stage (R156 to R163, R388, R389). -/

namespace Sys2Proof.Machine

/-! ### Admission (R388, R389) -/

/-- R362: every block of every usable target is erased and sealed, or grown bad. -/
def State.allSealed (s : State) : Bool :=
  s.fc.tgts.all fun e => e.2.state != tgHealthy ||
    Segs.count (fun (b : Blk) => b.st == 4 || b.st == 7) (e.1 * 4096) (e.1 * 4096 + blocksPerTarget) s.fc.blocks == blocksPerTarget

/-- R388: the conditions not met, as bits. -/
def State.unmet (s : State) : Nat :=
  bit01 (s.rd F.CK_STS_STATE != 2) + 2 * bit01 (!(s.flag F.SPN_PLD_CHKA || s.flag F.SPN_PLD_CHKB)) + 4 * bit01 (!s.readyBit 8) +
    8 * bit01 (!s.readyBit 3) + 16 * bit01 (!s.readyBit 6) + 32 * bit01 (!(s.readyBit 7 && decide (32 ≤ s.rd F.FC_CEIL_USABLE))) +
    64 * bit01 (!(s.rs.imageDone || s.rs.ready)) + 128 * bit01 (s.sec.erasing && !s.allSealed) +
    256 * bit01 (!(s.spRuns 0 && s.spRuns 1 && s.spRuns 2 && s.spRuns 4))

/-- R389: persistence is admitted: the data stage that waited opens, shares become ready, index passes resume. -/
def State.grantAdmission (s : State) (first : Bool) : State :=
  let s : State := { s with sec := { s.sec with erasing := false } }
  let t := ((s.wr F.GEN_ADMIT_ADMITTED 1).wr F.GEN_ADMIT_FIRST 0).event 0xF10B [s.ck.mono - s.pan.romAt, bit01 first]
  let t := if t.rs.ready then (if t.flag F.SPN_RST_ADOPT then t.resumeData else t.openData) else t.settleShares
  t.resumePass.updReady

/-- R131, R389: the first admission: a provisional IMAGE_ID is drawn and the all-ZERO pass begins. -/
def State.firstAdmit (s : State) : State :=
  let t : State := { s.skipDrbg with im := { s.im with imageId := some (s.drbgVal % 2 ^ 128, false) } }
  (State.wr { t with pan := { t.pan with first := true } } F.GEN_ADMIT_FIRST 1).beginPass

/-- ADMISSION_EVALUATE (R388, R389): the conditions are evaluated; once all hold, admission is latched, or the first admission begins; a
condition unmet for 10 s is event 0xF10C. -/
def execAdmissionEvaluate (s : State) : Answer :=
  let t := s.begin
  if !t.mpRuns || !(t.phase == phBringup || t.serving) || t.admitted || t.flag F.GEN_ADMIT_FIRST then .next t
  else
    let b := t.unmet
    let t := t.wr F.GEN_ADMIT_BLOCK b
    if b = 0 then
      match t.im.imageId with
      | some (_, true) => .next (t.grantAdmission false)
      | _ => .next t.firstAdmit
    else if t.pan.blocked = false ∧ t.pan.romAt + 10000000000 ≤ t.ck.mono ∧ (t.serving = true ∨ t.rs.ready = true) then
      .next (State.event { t with pan := { t.pan with blocked := true } } 0xF10C [b]).settleAttn
    else .next t

/-- FIRST_ADMISSION_COMPLETE (R131, R389): the copies of the first pass's anchor are read back, each with its bits in error: with a valid one the
IMAGE_ID is confirmed and persistence is admitted. -/
def execFirstAdmissionComplete (flips : List (List Nat)) (s : State) : Answer :=
  let t := s.begin
  if !t.flag F.GEN_ADMIT_FIRST || t.phase == phSave then .next t
  else match t.im.anchorW with
    | none => .next t
    | some a =>
      let (t, n) := t.readBack a flips
      if n = 0 then .next (t.rewriteAnchor a)
      else
        let t : State := { t with im := { t.im with imageId := t.im.imageId.map fun i => (i.1, true) }
                                  pan := { t.pan with first := false } }
        .next ((t.wr F.GEN_ADMIT_FIRST 0).passDone a n |>.grantAdmission true)

/-! ### The end of a release walk (R96) -/

/-- RELEASE_WALK_END (R96, R158, R159): the walk in register r ends: RELEASE_RUN is logged and the RELEASE completes DONE; a share may have no
ABSENT unit left. -/
def execReleaseWalkEnd (r : Nat) (s : State) : Answer :=
  let t := s.begin
  match FMap.find t.walks r with
  | none => .next t
  | some w =>
    if !t.serving then .next t
    else
      let n := t.walkedUnits w.lo w.hi
      let kept := t.keptRuns w.lo w.hi
      let before := t.tickets
      let a : State := { t with walks := FMap.del t.walks r }
      let a := (a.walkRange w.lo w.hi).logReleased w.share w.lo w.hi kept
      let a := match a.tickets.find? fun x => x.qid == w.qid && x.seq == w.seq && x.walking && !w.twine with
        | some x => a.finish x 0 0 (min n 0xFFFFFFFF)
        | none => a
      let a := (a.flushFlash before).settleMr
      .next (if a.rd F.SPN_RST_STAGE = 2 ∨ a.rd F.SPN_RST_STAGE = 3 then a.settleShares else a)

/-! ### Preparation (R156) -/

/-- PREPARATION_COMPLETE (R145, R154 to R156, R166): journal read, index load and replay end; `bad` are the generations of anchors without a valid
copy, `lost` the bundle and page of journal pages that cannot be rebuilt. -/
def execPreparationComplete (bad : List Nat) (lost : List (Nat × Nat)) (s : State) : Answer :=
  let t := s.begin
  if t.phase = phBringup ∧ t.rd F.SPN_RST_STAGE = 1 ∧ t.rs.imageDone = false ∧ t.spRuns 1 = true then .next (t.prepared bad lost) else .next t

/-! ### Reads of the data stage (R158, R159, R161, R162) -/

/-- The data stage runs: in RESTORE, in SERVICE after a resumed restore, or for the fetches a Save waits on. -/
def State.restoring (s : State) : Bool := s.phase == phRestore || (s.phase == phService && s.rd F.SPN_RST_STAGE == 3)

/-- R53, R161, R163: a demand fetch ends: its readers are answered, one whose link is in recovery once that ends, and the next fetch of its
target is issued. -/
def State.endFetch (s : State) (u us : Nat) (lost : Bool) : State :=
  match FMap.find s.rs.fetches u with
  | none => s
  | some f =>
    let t : State := { s with rs := { s.rs with fetches := FMap.del s.rs.fetches u } }
    let t := ((t.wr F.SPN_FETCH_PEND t.rs.fetches.length).bump F.SPN_FETCH_COUNT).wr F.SPN_FETCH_MAXLAT
      (max (t.rd F.SPN_FETCH_MAXLAT) (min us 0xFFFF))
    let t := if 120 < us then t.event 0x5007 [us, f.ahead] else t
    (f.readers.foldl (fun (a : State) r =>
      if !(a.headUp r.1 || a.rdi F.HP_LINK_STATE r.1 == 4) then a
      else if lost || a.linePoisoned r.2 then (a.readTime r.1 (us * 1000)).answerPoison r.1
      else (a.readTime r.1 (us * 1000)).send (.readData r.1 (memLine a.mem (r.2 * 64)) false)) t).sendFetches

/-- R158, R159: one slot an eager read brings in. -/
def State.eagerSlot (s : State) (k : Skein) (j : Nat) (held : Bool) (bad : List Nat) (q : Nat) : State :=
  match k.slots[4 * j + q]? with
  | some (some x) =>
    if s.idx x.unit = .slot k.gen (4 * j + q) ∧ s.absent x.unit = true then
      s.installUnit x.unit (if !held then 2 else if bad.contains q then 3 else 0) x
    else s
  | _ => s

/-- R158, R161: the units the eager restore has still to read, in its order: those handed over, then the ABSENT ones of the share in turn. -/
def State.eagerUnits (s : State) : List Nat :=
  s.rs.handed.reverse ++ (match s.turn with
    | some n => ((Segs.within (s.shLo n) (s.shHi n) s.rs.rmap).filter fun e => e.2.2 == 1).flatMap fun e =>
        (List.range (e.2.1 - e.1)).map (· + e.1)
    | none => [])

/-- R158: an eager read of Strand j of a Skein is under way: of the units to be read, the first on its target lies in it; each target has one
such read at a time. -/
def State.eagerDue (s : State) (k : Skein) (j : Nat) : Bool :=
  match (s.strandBlk k j).map blkTgt with
  | none => false
  | some t => match s.eagerUnits.find? fun u => s.fetchTarget u == some t with
    | some u => (match s.idx u with | .slot g i => g == k.gen && i / 4 == j | _ => false)
    | none => false

/-- EAGER_READ_COMPLETE (R158, R159, R181): Strand j of Skein g is read, each read with its bits in error; `others` are further Strands of the Skein
found not intact, `bad` the slots whose tag or identity does not match. -/
def execEagerReadComplete (gen strand : Nat) (reads : List (List Nat)) (others bad : List Nat) (s : State) : Answer :=
  let t := s.begin
  match FMap.find t.im.skeins gen with
  | none => .next t
  | some k =>
    if t.restoring && t.spRuns 1 && k.ty == 1 && t.eagerDue k strand then
      let (t, ok) := t.retryRead k strand reads
      let (t, held) := if ok then (t, true) else t.tryRebuild k strand others
      .next (t.forEach (List.range 4) fun a q => a.eagerSlot k strand held bad q).settleShares
    else .next t

/-- DEMAND_FETCH_COMPLETE (R159, R161 to R163, R169, R179): the fetch of unit u ends after `us`, its Strand read with the bits in error; `others` are
further Strands found not intact, and `bad` says that tag or identity does not match. Where rebuild fails without read-retry the unit is
handed to the eager restore. -/
def execDemandFetchComplete (u : Nat) (flips others : List Nat) (bad : Bool) (us : Nat) (s : State) : Answer :=
  let t := s.begin
  match FMap.find t.rs.fetches u with
  | none => .next t
  | some f =>
    if !(f.sent || f.atOnce) || !(t.serving || t.phase == phSave) then .next t
    else if t.rmapOf u ≠ 1 then .next (t.endFetch u us false)
    else match t.slotOf u with
      | none => .next ((t.setPresent u).mergeWaits u |>.endFetch u us false)
      | some (k, i, x) =>
        if t.isListed u then
          let t := (t.installUnit u 0 x).endFetch u us false
          if t.phase = phSave then .next t.streamEnd else .next t.settleShares
        else
          let (t, held) := t.fetchRead f.atOnce k (i / 4) flips others
          if held = false ∧ t.phase ≠ phSave then
            .next (State.endFetch { t with rs := { t.rs with handed := u :: t.rs.handed } } u us true)
          else
            let t := (t.installUnit u (if !held then 2 else if bad then 3 else 0) x).endFetch u us false
            if t.phase = phSave then .next t.streamEnd else .next t.settleShares

end Sys2Proof.Machine
end

