-- ==== Sys2Proof/Machine/Firmware.lean ====
section
/-! DEFINITION. The processors' reloads and restarts, the boot store, staging, activation, trials and ROM recovery (R328 to R348). -/

namespace Sys2Proof.Machine

/-! ### Restarts of the MP (R337, R339, R343) -/

/-- R337: a trial reverts: a swap record names the other block with TRIAL clear; event 0xD009 with its cause (1 attempts, 2 MP restart). -/
def State.revertTrial (s : State) (cause : Nat) : State :=
  match s.fw.swap with
  | some r =>
    if r.trial then (((s.writeSwap (1 - r.active) false 0 2).event 0xD009 [r.active, cause]).latchAttn 8).wr F.FW_STG_STATE 5 else s
  | none => s

/-- R339: an MP restart begins for a cause: 1 watchdog, 2 SRAM, 3 execute fault, 4 MP_RESTART, 5 activation; a trial other than the one it
activates reverts (R337). -/
def State.mpRestart (s : State) (cause : Nat) : State :=
  if s.mpRuns then
    let t := ((s.setProc 0 3).bump F.FW_RLD_MPRST).event 0xD005 [cause]
    let t := if cause = 5 then t else t.revertTrial 2
    State.updReady { t with fw := { t.fw with activating := cause == 5 } }
  else s

/-- R343: the MP watchdog, or what counts as it, expires; a third time in one bring-up is a cause of RECOVERY. -/
def State.mpExpire (s : State) (cause : Nat) : State :=
  let n := s.fw.mpExp + 1
  if s.mpRuns = false then s
  else if s.phase = phBringup then
    let t : State := { s with fw := { s.fw with mpExp := n } }
    if n = 3 then (t.mpRestart cause).enterRecoveryPhase 7 else t.mpRestart cause
  else s.mpRestart cause

/-- R328, R329: the watchdog of processor p (0 MP, 1 to 6 SP0 to SP5) counts as expired; SP causes 2, 4 and 5, MP causes 1, 2 and 3. -/
def State.expire (s : State) (p spCause mpCause : Nat) : State :=
  if p = 0 then s.mpExpire mpCause else s.startReload (p - 1) spCause

/-- LOCKSTEP_MISMATCH (R329): SP1 and its checker disagree at a program counter: both halt and SP1 reloads. -/
def execLockstepMismatch (pc : Nat) (s : State) : Answer :=
  let t := s.begin
  if t.spRuns 1 then .next (((t.bump F.FW_RLD_LSMIS).event 0xD004 [pc]).startReload 1 1) else .next t

/-- SP_WATCHDOG_EXPIRY (R329): the watchdog of SPn expires: its reload starts. -/
def execSpWatchdogExpiry (n : Nat) (s : State) : Answer := .next (s.begin.startReload n 2)

/-- MP_WATCHDOG_EXPIRY (R329, R339, R343): an MP restart starts. -/
def execMpWatchdogExpiry (s : State) : Answer := .next (s.begin.mpExpire 1)

/-- SRAM_UNCORRECTABLE (R328): treated as that processor's watchdog expiring. -/
def execSramUncorrectable (p : Nat) (s : State) : Answer := .next (s.begin.expire p 4 2)

/-- EXECUTE_FAULT (R329): an instruction fetch from outside a processor's SRAM or the ROM. -/
def execExecuteFault (p addr : Nat) (s : State) : Answer :=
  let t := s.begin
  if t.proc p = 2 then .next (((t.bump F.FW_NOR_XFLT).event 0xD00C [p, addr]).expire p 5 3) else .next t

/-! ### Ends of reloads and restarts (R338, R339, R341) -/

/-- The ticket of a queue and sequence completes. -/
def State.finishSeq (s : State) (k : Option (Nat × Nat)) (st rs res : Nat) : State :=
  match k.bind fun p => s.tickets.find? fun t => t.qid == p.1 && t.seq == p.2 with
  | some t => s.finish t st rs res
  | none => s

/-- R338: SP2's part of its return: the ceiling, a Save's rate and the waiting demand reads are worked out again. -/
def State.sp2Back (s : State) : State := ((s.ceilUpdate 0).recompute 3).sendFetches

/-- What the return of SPn lets go on: the Millrace, the image step, flash, Twine. -/
def State.spBack (s : State) (n : Nat) : State :=
  let t := if n = 0 then s.settleMr else if n = 2 then s.sp2Back else if n = 3 then s.sp3Back else s
  if t.imageDue then t.imageStep else t

/-- SP_RELOAD_COMPLETE (R338): SPn reports ready: event 0xD003, readiness restored, the commanded reload's ticket DONE; `storeOk` false: the
image store failed its digest and the MP has to reload it, which waits for the MP. -/
def execSpReloadComplete (n : Nat) (storeOk : Bool) (s : State) : Answer :=
  let t := s.begin
  if 6 ≤ n ∨ t.proc (n + 1) ≠ 3 ∨ (storeOk = false ∧ t.mpRuns = false) then .next t
  else
    let (c, at_) := FMap.get (0, t.ck.mono) t.fw.cause (n + 1)
    let k := t.fw.doing
    let last := c == 6 && t.fw.toReload.isEmpty
    let inc := fun (m : FMap Nat) => FMap.put m n (FMap.get 0 m n + 1)
    let t := (t.setProc (n + 1) 2).bump F.FW_RLD_SPRLD
    let t : State := { t with fw := { t.fw with reloads := inc t.fw.reloads, trialRld := if last then [] else inc t.fw.trialRld
                                                trialAt := if last then t.ck.mono else t.fw.trialAt
                                                doing := if c = 3 then none else t.fw.doing } }
    let t := ((t.event 0xD003 [n, c, t.ck.mono - at_]).updReady).spBack n
    let t := if n = 1 ∧ t.phase = phSave then t.event 0x4008 [t.ck.mono - at_] else t
    .next (if c = 3 then (t.finishSeq k 0 0 0).nextReload else t.nextReload)

/-- R337, R341: the block an MP restart starts: the one the swap record names; the activating restart raises ATTEMPTS. -/
def State.restartBlock (s : State) : State × Nat :=
  match s.fw.swap with
  | some r => if s.fw.activating && r.trial then (s.writeSwap r.active true (r.attempts + 1) 0, r.active) else (s, r.active)
  | none => (s, s.rd F.FW_BOOT_ACTIVE)

/-- MP_RESTART_COMPLETE (R339, R341): the ROM verifies the MP image again and starts it; an image that fails leaves the MP in reset. After
an activating restart SP0 to SP5 reload in turn. -/
def execMpRestartComplete (s : State) : Answer :=
  let t := s.begin
  if t.proc 0 ≠ 3 then .next t
  else
    let (t, b) := t.restartBlock
    if (t.block b).verr ≠ 0 then
      .next (State.updReady ((({ t with fw := { t.fw with mpDead := true } } : State).setProc 0 0).wr F.FW_STG_VERR (t.block b).verr))
    else
      let act := t.fw.activating
      let t := if act || b != t.rd F.FW_BOOT_ACTIVE then t.runBlock b else t
      let t := if act then t.wr F.FW_STG_STATE 4 else if t.rd F.FW_STG_STATE = 5 then t.wr F.FW_STG_STATE 0 else t
      let t : State := { t with fw := { t.fw with activating := false, toReload := if act then [0, 1, 2, 3, 4, 5] else t.fw.toReload } }
      let t := (t.setProc 0 2).updReady
      let t := if t.imageDue then t.imageStep else t
      .next t.nextReload

/-! ### Trials (R337) -/

/-- R335, R357: the minimum SVN of 64 one-time bits is raised to a confirmed SVN above it, event 0xE006; a block below it no longer
verifies. -/
def State.raiseSvn (s : State) (svn : Nat) : State :=
  let chk := fun (x : BootBlock) => if x.verr = 0 ∧ x.svn < svn then { x with verr := 5 } else x
  if s.rd F.SEC_STS_SVNMIN < svn then
    State.event (State.wr { s with fw := { s.fw with blkA := chk s.fw.blkA, blkB := chk s.fw.blkB } } F.SEC_STS_SVNMIN svn) 0xE006 [svn]
  else s

/-- R337: a trial ends confirmed: a swap record clears TRIAL; event 0xD008. -/
def State.confirmTrial (s : State) : State :=
  match s.fw.swap with
  | some r =>
    let t := (s.writeSwap r.active false 0 0).event 0xD008 [r.active]
    let t := if t.rd F.FW_STG_STATE = 4 ∨ t.rd F.FW_STG_STATE = 3 then t.wr F.FW_STG_STATE 0 else t
    t.raiseSvn (min 64 r.svn)
  | none => s

/-- A trial runs. -/
def State.onTrial (s : State) : Bool := match s.fw.swap with | some r => r.trial && r.active == s.rd F.FW_BOOT_ACTIVE | none => false

/-- TRIAL_CONFIRM_TIMEOUT (R337): trial firmware has run CONFIRM seconds in SERVICE, and since the last reload of an activation, with all six
SPs loaded, no MP restart, and no SP reloaded more than three times. -/
def execTrialConfirmTimeout (s : State) : Answer :=
  let t := s.begin
  if t.phase = phService ∧ t.onTrial = true ∧ t.mpRuns = true ∧ (List.range 6).all t.spRuns = true ∧
      (t.fw.trialRld.all fun e => decide (e.2 ≤ 3)) = true ∧ t.fw.trialAt + t.rd F.FW_CTL_CONFIRM * 1000000000 ≤ t.ck.mono then .next t.confirmTrial
  else .next t

/-- CONFIRM_FIRMWARE (R346): ends a trial at once; Invalid Input when no trial runs. -/
def execConfirmFirmware (v : Via) (s : State) : Answer :=
  .next (s.mbox v (.confirmFirmware v) .other false fun t =>
    if t.onTrial then (t.confirmTrial).reply v .success [] else t.reply v .invalidInput [])

/-! ### Staging (R333, R335, R340, R342) -/

/-- R335: the boot block a written image makes, with SVN held to the minimum of the fuse row. -/
def State.newBlock (s : State) (h : FwHeader) : BootBlock :=
  { verr := if h.fail ≠ 0 then h.fail else if h.svn < s.rd F.SEC_STS_SVNMIN then 5 else 0
    train := h.train, minor := h.minor, build := h.build, svn := h.svn, layout := h.layout }

/-- Sets a boot block and its valid bit. -/
def State.setBlock (s : State) (b : Nat) (x : BootBlock) : State :=
  let t : State := if b = 0 then { s with fw := { s.fw with blkA := x } } else { s with fw := { s.fw with blkB := x } }
  t.wr (if b = 0 then F.FW_BOOT_AVALID else F.FW_BOOT_BVALID) (bit01 (x.verr == 0))

/-- R340, R344: the block that may be written: the inactive one; in RECOVERY the one the newest swap record does not name, or A. -/
def State.freeBlock (s : State) : Nat :=
  if s.phase = phRecovery then (match s.fw.swap with | some r => 1 - r.active | none => 0) else 1 - s.rd F.FW_BOOT_ACTIVE

/-- R340: another staging runs: by another requester, or a part is still being written. -/
def State.stagingBusy (s : State) (who : Nat) : Bool := s.rd F.FW_STG_STATE == 1 && (s.fw.xfer != some who || s.fw.part.isSome)

/-- R333, R340: a part is written: the block's protection clears, it fails verification until staged, and the sectors are erased. -/
def State.startPart (s : State) (who len : Nat) (last : Bool) (h : FwHeader) (k : Option (Nat × Nat)) (v : Option Via) : State :=
  let b := s.freeBlock
  let t := if s.rd F.FW_STG_STATE = 1 then s else ((s.wr F.FW_STG_BYTES 0).wr F.FW_STG_VERR 0).wr F.FW_STG_ONLINE 0
  let p : StagePart := { len := len, last := last, blk := s.newBlock h, ticket := k, via := v }
  let t := (((t.setBlock b {}).wr F.FW_STG_STATE 1).wr F.FW_NOR_STATE 2).setBit F.FW_WP_AREA b false
  { t with fw := { t.fw with slot := some b, xfer := some who, part := some p, susp := 0 } }

/-- What a part answers: its ticket completes, or its mailbox command's background operation ends. -/
def State.answerPart (s : State) (p : StagePart) (ok : Bool) : State :=
  let t := match p.via with
    | some v =>
      let t := s.setHead (bgKey v) { s.head (bgKey v) with bg := none }
      t.reply v (if ok then .success else .fwAuthFailed) []
    | none => s
  t.finishSeq p.ticket (if ok then 0 else 4) (if ok then 0 else 5) 0

/-- R340: the part in progress is written and read back; the last part verifies the block; event 0xD006. -/
def State.partDone (s : State) (p : StagePart) : State :=
  let b := match s.fw.slot with | some b => b | none => s.freeBlock
  let t := s.wr F.FW_STG_BYTES (s.rd F.FW_STG_BYTES + p.len)
  let t : State := { t with fw := { t.fw with part := none } }
  if !p.last then t.answerPart p true
  else
    let t := (((t.setBlock b p.blk).setBit F.FW_WP_AREA b true).wr F.FW_STG_VERR p.blk.verr).wr F.FW_STG_STATE (if p.blk.verr = 0 then 2 else 0)
    let t : State := { t with fw := { t.fw with xfer := none } }
    ((t.event 0xD006 [t.rd F.FW_STG_BYTES, p.blk.verr])).answerPart p (p.blk.verr == 0)

/-- NOR_OPERATION_COMPLETE (R334, R340): the boot store's program or erase finishes: an erase is followed by its part's program, a nested
program leaves the erase suspended, and the next queued record is written. -/
def execNorOperationComplete (s : State) : Answer :=
  let t := s.begin
  let st := t.rd F.FW_NOR_STATE
  if st = 2 then .next (t.wr F.FW_NOR_STATE (if t.fw.part.isSome then 1 else 0))
  else if st = 5 then .next (t.wr F.FW_NOR_STATE 4)
  else if st = 1 then
    let t := t.wr F.FW_NOR_STATE 0
    let t := match t.fw.part with | some p => t.partDone p | none => t
    .next ((t.writeLearn 0).writeLearn 1)
  else .next t

/-- FW_STAGE (R340): a part of a firmware image is written to the inactive block. -/
def execFwStage (h tag addr len off : Nat) (last : Bool) (hdr : FwHeader) (s : State) : Answer :=
  .next (s.begin.adminMp (.fwStage h tag addr len off last hdr) h tag 0 fun t k =>
    if len % 256 ≠ 0 ∨ 2 ^ 24 < off + len then t.finish k 6 6 0
    else if t.stagingBusy (32 + h) || t.rd F.FW_NOR_STATE != 0 then t.finish k 4 8 0
    else
      let t := t.keepTicket { k with op := 0x80 }
      t.startPart (32 + h) len last hdr (some (k.qid, k.seq)) none)

/-- TRANSFER_FW (R340, R344): CXL actions 0 full, 1 initiate, 2 continue, 3 end, 4 abort; slot 1 is block A and 2 block B. -/
def execTransferFw (v : Via) (action slot off len : Nat) (hdr : FwHeader) (s : State) : Answer :=
  .next (s.mbox v (.transferFw v action slot off len hdr) .recovery false fun t =>
    if action = 4 then
      if t.rd F.FW_STG_STATE = 1 ∧ t.fw.xfer = some (bgKey v) then t.endStaging.reply v .success [] else t.reply v .invalidInput []
    else if t.stagingBusy (bgKey v) || t.rd F.FW_NOR_STATE != 0 then t.reply v .busy []
    else if slot ≠ t.freeBlock + 1 then t.reply v .invalidSlot []
    else if 2 ^ 24 < off + len ∨ 4 < action then t.reply v .invalidInput []
    else if (action = 2 ∨ action = 3) ∧ t.rd F.FW_STG_STATE ≠ 1 then t.reply v .fwTransferOutOfOrder []
    else
      let rec_ := t.phase == phRecovery
      t.startBg v 0x0201 off len fun t =>
        let t := t.startPart (bgKey v) len (action == 0 || action == 3) hdr none (some v)
        if rec_ then
          let n := t.rd F.FW_REC_BYTES + len
          ((t.wr F.FW_REC_BYTES n).wr F.FW_REC_XPORT (match v with | .head _ => 1 | .mctp _ => 2)).wr F.FW_REC_PROG (min 100 (n * 100 / 2 ^ 24))
        else t)

/-- FW_STATUS (R340): RESULT bits 31:0 hold FW_STG bits 63:32. -/
def execFwStatus (h tag : Nat) (s : State) : Answer :=
  .next (s.begin.adminMp (.fwStatus h tag) h tag 0 fun t k =>
    t.finish k 0 0 (t.rd F.FW_STG_STATE * 2 ^ 29 + t.rd F.FW_STG_ONLINE * 2 ^ 28 + t.rd F.FW_STG_VERR * 2 ^ 24))

/-- FW_STG as a word. -/
def State.stgWord (s : State) : Nat :=
  s.rd F.FW_STG_STATE * 2 ^ 61 + s.rd F.FW_STG_ONLINE * 2 ^ 60 + s.rd F.FW_STG_VERR * 2 ^ 56 + s.rd F.FW_STG_BYTES

/-- GET_FW_INFO (R340): the slots: how many, the active one, the staged one, online activation supported, and the version words of both. -/
def execGetFwInfo (v : Via) (s : State) : Answer :=
  .next (s.mbox v (.getFwInfo v) .recovery true fun t =>
    let ver := fun (x : BootBlock) => if x.verr = 0 then x.train * 2 ^ 56 + x.minor * 2 ^ 48 + x.build * 2 ^ 32 + x.svn else 0
    let st := if t.rd F.FW_STG_STATE = 2 then (match t.fw.slot with | some b => b + 1 | none => 0) else 0
    t.reply v .success [2, t.rd F.FW_BOOT_ACTIVE + 1, st, 1, ver t.fw.blkA, ver t.fw.blkB])

/-! ### Activation (R341) -/

/-- R341: the staged block that verifies. -/
def State.stagedBlock (s : State) : Option Nat :=
  if s.rd F.FW_STG_STATE = 2 then s.fw.slot.filter fun b => (s.block b).verr == 0 else none

/-- R341: a swap record names the block with TRIAL set; event 0xD007. -/
def State.activate (s : State) (b : Nat) (online : Bool) : State :=
  let t := (s.writeSwap b true 0 1).event 0xD007 [b, bit01 online]
  (t.wr F.FW_STG_STATE 3).wr F.FW_STG_ONLINE (bit01 online)

/-- FW_ACTIVATE (R341): at the next bring-up, or online by an MP restart into the trial block. -/
def execFwActivate (h tag : Nat) (online : Bool) (s : State) : Answer :=
  .next (s.begin.adminMp (.fwActivate h tag online) h tag 0 fun t k =>
    if t.phase ≠ phService then t.finish k 4 11 0
    else match t.stagedBlock with
      | none => t.finish k 4 6 0
      | some b =>
        if online ∧ (t.block b).layout ≠ t.fw.layout then t.finish k 4 5 0
        else
          let t := (t.activate b online).finish k 0 0 0
          if online then t.mpRestart 5 else t)

/-- ACTIVATE_FW (R340, R341, R344): as FW_ACTIVATE; in RECOVERY only for the next bring-up, which follows at once (R345). -/
def execActivateFw (v : Via) (online : Bool) (slot : Nat) (s : State) : Answer :=
  .next (s.mbox v (.activateFw v online slot) .recovery false fun t =>
    match t.stagedBlock with
    | none => t.reply v .invalidSlot []
    | some b =>
      if slot ≠ b + 1 then t.reply v .invalidSlot []
      else if t.phase = phRecovery then
        if online then t.reply v .invalidInput [] else (((t.activate b false).reply v .success [])).rebirth false 0x10
      else if t.phase ≠ phService then t.reply v .busy []
      else if online ∧ (t.block b).layout ≠ t.fw.layout then t.reply v .invalidInput []
      else
        let t := (t.activate b online).reply v .success []
        if online then t.mpRestart 5 else t)

/-! ### Commanded reloads (R338, R340) -/

/-- SP_RELOAD (R338): DONE when the SP resumes; commanded reloads run one at a time, each when no SP is absent. -/
def execSpReload (h tag n : Nat) (s : State) : Answer :=
  .next (s.begin.adminMp (.spReload h tag n) h tag 0 fun t k =>
    if 6 ≤ n then t.finish k 6 6 0
    else
      let t := t.keepTicket { k with op := 0x83 }
      State.nextReload { t with fw := { t.fw with wanted := t.fw.wanted ++ [(n, some (k.qid, k.seq))] } })

/-- MP_RESTART (R339, R340): the completion is posted, and the restart follows. -/
def execMpRestart (h tag : Nat) (s : State) : Answer :=
  .next (s.begin.adminMp (.mpRestart h tag) h tag 0 fun t k => (t.finish k 0 0 0).mpRestart 4)

/-! ### Recovery (R343 to R346) -/

/-- FW_CTL_RECREQ (R343, R348): a write of FW_CTL: CONFIRM takes its value, RECREQ 1 requests recovery at the next bring-up. -/
def execFwCtlRecreq (val : Nat) (s : State) : Answer :=
  let t := s.begin.wr F.FW_CTL_CONFIRM (natField val 48 16)
  .next (if natBit val 47 then t.wr F.FW_CTL_RECREQ 1 else t)

/-- REQUEST_RECOVERY (R346): sets RECREQ; SERVICE only, otherwise Busy. -/
def execRequestRecovery (v : Via) (s : State) : Answer :=
  .next (s.mbox v (.requestRecovery v) .other false fun t =>
    if t.phase = phService then (t.wr F.FW_CTL_RECREQ 1).reply v .success [] else t.reply v .busy [])

/-- GET_BOOT_STATUS (R346): FW_ID, FW_BOOT, FW_STG, FW_REC, and the reload count of each SP since manufacture. -/
def execGetBootStatus (v : Via) (s : State) : Answer :=
  .next (s.mbox v (.getBootStatus v) .recovery true fun t =>
    let r := fun (f : Field) => t.rd f * 2 ^ f.lo
    t.reply v .success ([r F.FW_ID_TRAIN + r F.FW_ID_MINOR + r F.FW_ID_BUILD + r F.FW_ID_ROMVER + r F.FW_ID_SVN,
        r F.FW_BOOT_ACTIVE + r F.FW_BOOT_TRIAL + r F.FW_BOOT_ATTEMPTS + r F.FW_BOOT_CAUSE + r F.FW_BOOT_AVALID + r F.FW_BOOT_BVALID +
          r F.FW_BOOT_SWAPSEQ, t.stgWord, r F.FW_REC_CAUSE + r F.FW_REC_XPORT + r F.FW_REC_PROG + r F.FW_REC_BYTES] ++
      (List.range 6).map fun n => FMap.get 0 t.fw.reloads n))

/-- R344: a complete recovery image is written; one that verifies is activated on trial and the device enters BRINGUP with event 0xD00B;
another is discarded and recovery goes on. -/
def State.recoverImage (s : State) (xport : Nat) (h : FwHeader) : State :=
  let b := s.freeBlock
  let x := s.newBlock h
  let t := s.wr F.FW_REC_XPORT xport
  if x.verr ≠ 0 then
    let t := (((t.setBlock b {}).wr F.FW_STG_VERR x.verr).wr F.FW_REC_BYTES 0).wr F.FW_REC_PROG 0
    { t with fw := { t.fw with tftp := 1, tries := 0 } }
  else
    let t := ((t.setBlock b x).writeSwap b true 0 4).event 0xD00B [xport, x.train * 2 ^ 24 + x.minor * 2 ^ 16 + x.build]
    t.rebirth false 0x10

/-- RECOVERY_IMAGE_RECEIVED (R344): transport 1 mailbox, 2 SB, 3 TFTP. -/
def execRecoveryImageReceived (xport : Nat) (hdr : FwHeader) (s : State) : Answer :=
  let t := s.begin
  if t.phase = phRecovery then .next (t.recoverImage xport hdr) else .next t

/-- TFTP_BLOCK (R344): data block n of len bytes; the next block in order is taken and acknowledged, and a short block ends the image. -/
def execTftpBlock (n len : Nat) (hdr : FwHeader) (s : State) : Answer :=
  let t := s.begin
  if t.phase ≠ phRecovery ∨ t.pan.ethUp = false ∨ 512 < len then .next t
  else if n ≠ t.fw.tftp then .next t
  else
    let got := t.rd F.FW_REC_BYTES + len
    let t := ((t.wr F.FW_REC_BYTES got).wr F.FW_REC_XPORT 3).wr F.FW_REC_PROG (min 100 (got * 100 / 2 ^ 24))
    let t := State.send { t with fw := { t.fw with tftp := n + 1, tries := 0 } } (.net [4, n])
    .next (if len < 512 then t.recoverImage 3 hdr else t)

/-- TFTP_RETRANSMIT (R344): 1 s without data: retransmitted up to 5 times, then the transfer restarts after 10 s. -/
def execTftpRetransmit (s : State) : Answer :=
  let t := s.begin
  if t.phase ≠ phRecovery ∨ t.pan.ethUp = false then .next t
  else if t.fw.tries < 5 then
    .next (State.send { t with fw := { t.fw with tries := t.fw.tries + 1 } } (.net (if t.fw.tftp = 1 then [1] else [4, t.fw.tftp - 1])))
  else .next (({ t with fw := { t.fw with tftp := 1, tries := 0 } } : State).wr F.FW_REC_BYTES 0)

end Sys2Proof.Machine
end

