-- ==== Sys2Proof/Machine/Operands.lean ====
section
/-! DEFINITION. The operand forms: the fields of a submission descriptor (R66, R74) and the words of an authorization token (R360). -/

namespace Sys2Proof.Machine

/-! ### Descriptors -/

/-- R410: the opcodes of I/O queues and of admin queues. -/
def ioOps : List Nat := [0x01, 0x02, 0x03, 0x04]
def adminOps : List Nat :=
  [0x40, 0x41, 0x42, 0x50, 0x51, 0x52, 0x53, 0x54, 0x55, 0x56, 0x60, 0x61, 0x62, 0x70, 0x71, 0x72, 0x73, 0x80, 0x81, 0x82, 0x83, 0x84]

/-- R66: the fields of word 0. -/
def Desc.op (d : Sys2Proof.Desc) : Nat := natField d.w0 0 8
def Desc.level (d : Sys2Proof.Desc) : Nat := natField d.w0 8 2
def Desc.share (d : Sys2Proof.Desc) : Nat := natField d.w0 10 6
def Desc.b (d : Sys2Proof.Desc) : Bool := natBit d.w0 16
def Desc.u (d : Sys2Proof.Desc) : Bool := natBit d.w0 17

/-- R66: a reserved bit is set: of word 0 above U, of the offset and length of a ranged operation, or of words 4 to 7 of an I/O operation. -/
def Desc.reserved (d : Sys2Proof.Desc) : Bool :=
  let io := ioOps.contains (Desc.op d)
  decide (2 ^ 18 ≤ d.w0) || (io && (d.op4 != 0 || d.op5 != 0 || d.op6 != 0 || d.op7 != 0)) ||
    (io && Desc.op d != 0x02 && (decide (2 ^ 44 ≤ d.op2) || decide (2 ^ 44 ≤ d.op3)))

/-- R74: the peer REPLICA share of OP6, when it is given. -/
def Desc.peer (d : Sys2Proof.Desc) : Option Nat := if natBit d.op6 8 then some (natField d.op6 0 6) else none

/-! ### Tokens -/

/-- R360: the 20 words of a token of an operation. -/
def tokenWords (k : Token) (op : Nat) : List Nat :=
  [k.magic % 2 ^ 32 * 2 ^ 32 + k.version % 2 ^ 8 * 2 ^ 24 + op % 256, k.serial % 2 ^ 64] ++
    (List.range 4).map (fun i => natField k.nonce (64 * i) 64) ++ [k.p6 % 2 ^ 64, k.p7 % 2 ^ 64] ++
    (List.range 12).map fun i => k.sig.getD i 0 % 2 ^ 64

/-- R360: the token that 20 words spell, but for its OP. -/
def tokenOf (w : Nat → Nat) : Token :=
  { magic := w 0 / 2 ^ 32, version := natField (w 0) 24 8, serial := w 1,
    nonce := ((List.range 4).map fun i => w (2 + i) * 2 ^ (64 * i)).foldl (· + ·) 0, p6 := w 6, p7 := w 7,
    sig := (List.range 12).map fun i => w (8 + i) }

end Sys2Proof.Machine
end

