-- ==== Sys2Proof/Machine/Security.lean ====
section
/-! DEFINITION. Sealing, key shares, nonces, owner tokens, the DRBG and the SPDM responder (R349 to R367, R30). -/

namespace Sys2Proof.Machine

/-! ### Sealing (R30, R354, R355) -/

/-- R353, R354: SEC_SLOT follows the loaded slots and what they yield; SEALED shares are LOCKED or READY as their key share is absent or
present. -/
def State.settleKeys (s : State) : State :=
  let loaded := (s.sec.slots.map fun e => 2 ^ (e.1 % 16)).foldl (· + ·) 0
  let hit := fun (k : Nat) => (List.range 64).any fun n => s.shDefined n && s.shMode n == mdSealed && s.ownerSealed n && s.yields n k
  let matched := ((s.sec.slots.filter fun e => hit e.2).map fun e => 2 ^ (e.1 % 16)).foldl (· + ·) 0
  let t := (s.wr F.SEC_SLOT_LOADED loaded).wr F.SEC_SLOT_MATCHED matched
  (t.forEach (List.range 64) fun a n =>
    if a.shMode n == mdSealed && (a.shState n == shReady || a.shState n == shLocked) then a.setShState n (a.doneState n) else a).updReady

/-- SEAL's effect (R30, R354): the CHECK is computed and the share stops taking writes. -/
def State.sealShare (s : State) (k : Ticket) (n : Nat) (owner : Bool) : State :=
  let slot := FMap.find s.sec.slots (s.rd F.SEC_CTL_SEALSLOT)
  if !s.shDefined n then s.finish k 5 1 0
  else if s.phase ≠ phService then s.refuseShare k n 11
  else if s.changing n || s.removing then s.refuseShare k n 8
  else if s.shMode n ≠ mdHeld then s.refuseShare k n 5
  else if s.shState n ≠ shReady then s.refuseShare k n 6
  else if s.ticketsOn n then s.refuseShare k n 1
  else if owner && slot.isNone then s.refuseShare k n 4
  else
    let sl := match slot with
      | some key => if owner then FMap.put s.sec.seals n (s.checkOf n key) else FMap.del s.sec.seals n
      | none => FMap.del s.sec.seals n
    let t : State := { s with sec := { s.sec with seals := sl, sealFrom := FMap.put s.sec.sealFrom n (s.shDirty n) } }
    let t := ((t.wri F.SHR_STATUS_TARGET n mdSealed).wri F.SHR_STATUS_PROG n 0).setShState n shChanging
    t.keepTicket { k with op := 0x53 }

/-- SEAL (R354). -/
def execShareSeal (h tag n : Nat) (owner : Bool) (s : State) : Answer :=
  .next (s.begin.adminOp h tag n fun t k => t.sealShare k n owner)

/-- SEAL_COMMIT (R30, R354): the share's last dirty unit lies in a committed Skein: it becomes SEALED, its key word taking OWNER and the
CHECK computed at acceptance. -/
def execSealCommit (n : Nat) (s : State) : Answer :=
  let t := s.begin
  if t.sealing n && t.shDirty n == 0 then
    let w := natField (FMap.get 0 t.sec.keyw n) 0 40
    let w := match FMap.find t.sec.seals n with
      | some c => w + 2 ^ 40 + c * 2 ^ 41
      | none => w
    let t : State := { t with sec := { t.sec with keyw := FMap.put t.sec.keyw n w, seals := FMap.del t.sec.seals n
                                                  sealFrom := FMap.del t.sec.sealFrom n } }
    let t := (((t.endChange n).setShState n shReady).commitMode n mdSealed).settleKeys
    match t.inProgress n 0x53 with
    | some k => .next (t.finish k 0 0 0)
    | none => .next t
  else .next t

/-- R355: a failed check counts; the eighth since bring-up locks key shares out. -/
def State.failedCheck (s : State) : State :=
  let c := s.sec.failed + 1
  let t := State.bump { s with sec := { s.sec with failed := c } } F.SEC_STS_UNSEALFAIL
  if c = 8 then (t.wr F.SEC_STS_LOCKOUT 1).event 0xE005 [c] else t

/-- UNSEAL's effect (R30, R355). -/
def State.unsealShare (s : State) (k : Ticket) (n slot : Nat) : State :=
  if !s.shDefined n then s.finish k 5 1 0
  else if s.phase ≠ phService then s.refuseShare k n 11
  else if s.changing n || s.removing then s.refuseShare k n 8
  else if s.shMode n ≠ mdSealed then s.refuseShare k n 5
  else if s.shState n ≠ shReady ∧ s.shState n ≠ shLocked then s.refuseShare k n 6
  else if !s.admitted then s.refuseShare k n 7
  else if s.ownerSealed n && s.flag F.SEC_STS_LOCKOUT then s.refuseShare k n 4
  else if s.ownerSealed n && !(match FMap.find s.sec.slots slot with | some key => s.yields n key | none => false) then
    s.failedCheck.refuseShare k n 4
  else
    let w := natField (FMap.get 0 s.sec.keyw n) 0 40
    let t : State := { s with sec := { s.sec with keyw := FMap.put s.sec.keyw n w } }
    ((t.commitMode n mdHeld).settleKeys).finish k 0 0 0

/-- UNSEAL (R355). -/
def execShareUnseal (h tag n slot : Nat) (s : State) : Answer :=
  .next (s.begin.adminOp h tag n fun t k => t.unsealShare k n slot)

/-! ### Key shares (R353, R355, R365) -/

/-- R353: the PCIe IDE stream of the head a command came through is active. -/
def State.ideOn (s : State) (v : Via) : Bool :=
  match v with
  | .head k => natBit (s.head k).ideKeys 2
  | .mctp _ => false

/-- LOAD_KEY_SHARE (R353 to R355): only through a head with IDE; a load that matches none of the LOCKED owner-sealed shares is a failed
check. -/
def execLoadKeyShare (v : Via) (slot key : Nat) (s : State) : Answer :=
  .next (s.mbox v (.loadKeyShare v slot key) .other false fun t =>
    if !t.ideOn v || t.flag F.SEC_STS_LOCKOUT then t.reply v .invalidSecurityState []
    else if 16 ≤ slot then t.reply v .invalidInput []
    else
      let locked := (List.range 64).filter fun n => t.shState n == shLocked && t.ownerSealed n
      let bad := !locked.isEmpty && !(locked.any fun n => t.yields n key)
      let r := if bad then t.failedCheck else t
      let r : State := { r with sec := { r.sec with slots := FMap.put r.sec.slots slot (key % 2 ^ 256) } }
      r.settleKeys.reply v .success [])

/-- CLEAR_KEY_SHARE (R365): a slot, or with 0xFF every slot, is emptied. -/
def execClearKeyShare (v : Via) (slot : Nat) (s : State) : Answer :=
  .next (s.mbox v (.clearKeyShare v slot) .other false fun t =>
    if slot ≠ 0xFF ∧ 16 ≤ slot then t.reply v .invalidInput []
    else
      let l := if slot = 0xFF then [] else FMap.del t.sec.slots slot
      (State.settleKeys { t with sec := { t.sec with slots := l } }).reply v .success [])

/-! ### Nonces and tokens (R360, R361) -/

/-- R361: a new nonce of four DRBG words; only the newest is current. -/
def State.newNonce (s : State) : State :=
  { s.skipDrbg with sec := { s.sec with nonce := some (s.drbgVal % 2 ^ 256, s.ck.mono) } }

/-- The nonce as four words; zeros when none is current. -/
def State.nonceWords (s : State) : List Nat :=
  let v := match s.sec.nonce with | some (n, _) => n | none => 0
  (List.range 4).map fun i => natField v (64 * i) 64

/-- GET_NONCE (R361). -/
def execGetNonce (v : Via) (s : State) : Answer :=
  .next (s.whenDrbg (.getNonce v) (s.mbox v (.getNonce v) .other false fun t => let r := t.newNonce; r.reply v .success r.nonceWords))

/-- SEC_NONCE_READ (R361): a read of SEC_NONCE_0 issues a nonce and latches SEC_NONCE_0 to SEC_NONCE_3. -/
def execSecNonceRead (h : Nat) (s : State) : Answer :=
  let t := s.begin
  if !(t.viaOpen (.head h)) then .next t
  else
    let r := t.newNonce
    let r := r.forEach (List.range 4) fun a i => a.wri F.SEC_NONCE_NONCE i (r.nonceWords.getD i 0)
    .next (s.whenDrbg (.secNonceRead h) (r.send (.regData [r.nonceWords.headD 0])))

/-- NONCE_EXPIRY (R361): a nonce 300 s old is current no longer. -/
def execNonceExpiry (s : State) : Answer :=
  let t := s.begin
  match t.sec.nonce with
  | some (_, a) => if a + 300000000000 ≤ t.ck.mono then .next { t with sec := { t.sec with nonce := none } } else .next t
  | none => .next t

/-- R361: the operations exist, and the phases they are accepted in. -/
def tokenPhase (op ph : Nat) : Bool := ph == phService || ((op == 1 || op == 2) && ph == phRecovery)

/-- R360, R361: the first check that fails: 5 format, 4 serial, 3 nonce, 2 signature, 6 phase; 1 when none does. -/
def State.tokenCheck (s : State) (op : Nat) (k : Token) : Nat :=
  if k.magic ≠ 0x41555448 ∨ k.version ≠ 1 ∨ op = 0 ∨ 6 < op then 5
  else if k.serial ≠ s.rd F.GEN_SERIAL_SERIAL then 4
  else if !(match s.sec.nonce with | some (n, a) => n == k.nonce && decide (s.ck.mono < a + 300000000000) | none => false) then 3
  else if !(match s.sec.owner with | some key => Config.ownerSigns key (tokenWords k op) | none => k.sig.all (· == 0)) then 2
  else if !tokenPhase op s.phase then 6
  else 1

/-- R359: the owner becomes a key, or none; event 0xE007. -/
def State.setOwner (s : State) (key : Option Nat) : State :=
  let id := match key with | some k => Config.keyDigest k % 2 ^ 64 | none => 0
  (((State.wr { s with sec := { s.sec with owner := key, replace := none } } F.SEC_STS_OWNED (bit01 key.isSome)).wr
    F.SEC_OWNER_KEYID id).event 0xE007 [id])

/-- R362: the image is to be discarded: at once by a device reset in SERVICE, in RECOVERY at the next bring-up. -/
def State.discardImage (s : State) : State :=
  let t := s.wr F.SEC_STS_DISCPEND 1
  if t.phase = phService then t.discardReset else t

/-- R361: what an accepted token does. -/
def State.tokenEffect (s : State) (v : Via) (op : Nat) (k : Token) : State :=
  match op with
  | 1 => s.recorderClear k.p6 (s.rd F.SEC_OWNER_KEYID)
  | 2 => s.discardImage
  | 3 => s.wr F.SEC_STS_DEBUG 1
  | 4 => { s with sec := { s.sec with sanitize := some (s.ck.mono + 60000000000, bgKey v) } }
  | 5 => { s with sec := { s.sec with replace := some (k.p6 % 2 ^ 64 + k.p7 % 2 ^ 64 * 2 ^ 64, s.ck.mono + 60000000000) } }
  | _ => s.setOwner none

/-- R361: a token is submitted: its result stands in SEC_AUTH; a nonce it was checked against is used up; after 16 rejections
submissions are refused. `done` answers the submitter before the effect. -/
def State.submitToken (s : State) (v : Via) (op : Nat) (k : Token) (done : State → Nat → State) : State :=
  if 16 ≤ s.sec.rejected then done (s.wr F.SEC_AUTH_RESULT 7) 7
  else
    let r := s.tokenCheck op k
    let t := (s.wr F.SEC_AUTH_RESULT r).wr F.SEC_AUTH_LASTOP op
    let t : State := if r = 5 ∨ r = 4 then t else { t with sec := { t.sec with nonce := none } }
    if r = 1 then State.tokenEffect (done (t.event 0xE003 [op, bgKey v]) r) v op k
    else done (State.event (State.bump { t with sec := { t.sec with rejected := t.sec.rejected + 1 } } F.SEC_STS_AUTHFAIL) 0xE004 [op, r]) r

/-- R365: Authorize with a token of an operation. -/
def State.authorize (s : State) (v : Via) (c : Instr) (op : Nat) (k : Token) : State :=
  s.mbox v c .other false fun t => t.submitToken v op k fun a r => a.reply v .success [r]

/-- CLEAR_RECORDER (R361, R380). -/
def execClearRecorder (v : Via) (k : Token) (s : State) : Answer := .next (s.authorize v (.clearRecorder v k) 1 k)

/-- DISCARD_IMAGE (R361, R362). -/
def execDiscardImage (v : Via) (k : Token) (s : State) : Answer := .next (s.authorize v (.discardImage v k) 2 k)

/-- UNLOCK_DEBUG (R361, R363). -/
def execUnlockDebug (v : Via) (k : Token) (s : State) : Answer := .next (s.authorize v (.unlockDebug v k) 3 k)

/-- TOKEN_SANITIZE (R361). -/
def execTokenSanitize (v : Via) (k : Token) (s : State) : Answer := .next (s.authorize v (.tokenSanitize v k) 4 k)

/-- REPLACE_OWNER (R359, R361). -/
def execReplaceOwner (v : Via) (k : Token) (s : State) : Answer := .next (s.authorize v (.replaceOwner v k) 5 k)

/-- CLEAR_OWNER (R361). -/
def execClearOwner (v : Via) (k : Token) (s : State) : Answer := .next (s.authorize v (.clearOwner v k) 6 k)

/-- ENROL_OWNER (R359): with no owner, on a head with IDE active; with one, within 60 s of a REPLACE_OWNER token that names the key. -/
def execEnrolOwner (v : Via) (key : Nat) (s : State) : Answer :=
  .next (s.mbox v (.enrolOwner v key) .other false fun t =>
    let ok := match t.sec.owner with
      | none => t.ideOn v
      | some _ => match t.sec.replace with
        | some (p, till) => p == Config.keyDigest key % 2 ^ 128 && decide (t.ck.mono ≤ till)
        | none => false
    if ok then (t.setOwner (some key)).reply v .success [] else t.reply v .invalidSecurityState [])

/-- SEC_STS, SEC_SLOT and SEC_OWNER as words. -/
def State.secWords (s : State) : List Nat :=
  let r := fun (f : Field) => s.rd f * 2 ^ f.lo
  [r F.SEC_STS_PUFOK + r F.SEC_STS_DRBGOK + r F.SEC_STS_OWNED + r F.SEC_STS_DEBUG + r F.SEC_STS_DISCPEND + r F.SEC_STS_LOCKOUT +
    r F.SEC_STS_AUTHFAIL + r F.SEC_STS_UNSEALFAIL + r F.SEC_STS_SVNMIN, r F.SEC_SLOT_MATCHED + r F.SEC_SLOT_LOADED, r F.SEC_OWNER_KEYID]

/-- GET_SECURITY_STATUS (R365). -/
def execGetSecurityStatus (v : Via) (s : State) : Answer :=
  .next (s.mbox v (.getSecurityStatus v) .other true fun t => t.reply v .success t.secWords)

/-! ### Sanitize and Secure Erase (R47, R362) -/

/-- R361, R362: Sanitize or Secure Erase: permitted once by a SANITIZE token accepted on the same mailbox within 60 s. -/
def State.eraseAll (s : State) (v : Via) (all : Bool) : State :=
  match s.sec.sanitize with
  | some (till, key) =>
    if key = bgKey v ∧ s.ck.mono ≤ till then
      if s.phase ≠ phService then s.reply v .busy []
      else
        (State.reply { s with sec := { s.sec with sanitize := none, erasing := s.sec.erasing || all } } v .success []).discardImage
    else s.reply v .invalidSecurityState []
  | none => s.reply v .invalidSecurityState []

/-- SANITIZE (R47, R362): as DISCARD_IMAGE, and admission waits until every block of every usable target is erased and sealed. -/
def execSanitize (v : Via) (s : State) : Answer := .next (s.mbox v (.sanitize v) .memory false fun t => t.eraseAll v true)

/-- SECURE_ERASE (R47, R362): as DISCARD_IMAGE. -/
def execSecureErase (v : Via) (s : State) : Answer := .next (s.mbox v (.secureErase v) .memory false fun t => t.eraseAll v false)

/-! ### The DRBG (R358) -/

/-- DRBG_HEALTH_FAILURE (R358): the DRBG stops; event 0xE002. -/
def execDrbgHealthFailure (test : Nat) (s : State) : Answer :=
  let t := s.begin
  if t.phase = phOff ∨ t.phase = phDormant ∨ t.flag F.SEC_STS_DRBGOK = false then .next t
  else .next (((t.wr F.SEC_STS_DRBGOK 0).event 0xE002 [test]).updReady)

/-- DRBG_RETRY (R358): the test is retried; once it passes, what waited for a draw goes on. -/
def execDrbgRetry (ok : Bool) (s : State) : Answer :=
  let t := s.begin
  if ok = false ∨ t.flag F.SEC_STS_DRBGOK ∨ t.phase = phOff ∨ t.phase = phDormant then .next t
  else
    let t := t.wr F.SEC_STS_DRBGOK 1
    let t : State := { t with mpWait := t.mpWait ++ t.sec.waits.map fun c => (16, c, none)
                              sec := { t.sec with waits := [], seededAt := t.ck.mono, seeds := t.drbgCtr } }
    .next t.updReady.imageStep

/-- DRBG_RESEED (R358): every 2^20 requests or 60 s. -/
def execDrbgReseed (s : State) : Answer :=
  let t := s.begin
  if t.flag F.SEC_STS_DRBGOK then .next { t with sec := { t.sec with seededAt := t.ck.mono, seeds := t.drbgCtr } } else .next t

/-! ### The SPDM responder (R356) -/

/-- The response code to a message taken in a session state, with the state after it; none when it is out of order. -/
def doeAnswer (m : DoeMsg) (st : Nat) : Option (Nat × Nat) :=
  match m with
  | .getVersion => some (0x04, 0)
  | .getCapabilities => some (0x61, st)
  | .negotiateAlgorithms => some (0x63, 1)
  | .getDigests => if st = 0 then none else some (0x01, st)
  | .getCertificate => if st = 0 then none else some (0x02, st)
  | .challenge => if st = 0 then none else some (0x03, st)
  | .getMeasurements => if st = 0 then none else some (0x60, st)
  | .keyExchange => if st = 1 then some (0x64, 3) else none
  | .finish => if st = 3 then some (0x65, 2) else none
  | .endSession => if st = 2 then some (0x6C, 1) else none
  | .ideQuery => if st = 2 then some (0x101, st) else none
  | .ideKeyProg _ => if st = 2 then some (0x103, st) else none
  | .ideSetGo _ => if st = 2 then some (0x106, st) else none
  | .ideSetStop _ => if st = 2 then some (0x106, st) else none

/-- R356: the key sets and streams of a head after an IDE_KM message: bits 0 and 1 keyed, 2 and 3 active. -/
def doeKeys (m : DoeMsg) (k : Nat) : Nat :=
  match m with
  | .ideKeyProg i => if i < 2 then natSetBit k i else k
  | .ideSetGo i => if i < 2 ∧ natBit k i then natSetBit k (2 + i) else k
  | .ideSetStop i => if i < 2 then natClearBit (natClearBit k i) (2 + i) else k
  | _ => k

/-- R356: what a response carries beside its code: the measurements report the firmware, SVN, debug state and owner. -/
def State.doeWords (s : State) (m : DoeMsg) : List Nat :=
  match m with
  | .getMeasurements => [s.freeVal, s.rd F.FW_ID_SVN, s.rd F.SEC_STS_DEBUG, s.rd F.SEC_STS_OWNED]
  | .getCertificate => [s.rd F.GEN_SERIAL_SERIAL, s.freeVal]
  | .ideQuery => [(s.rd F.GEN_SERIAL_SERIAL)]
  | _ => [s.freeVal]

/-- SPDM_DOE_MESSAGE (R356): the head answers; a message out of order is answered with ERROR. HP_LINK_k.IDE follows the streams. -/
def execSpdmDoeMessage (h : Nat) (m : DoeMsg) (s : State) : Answer :=
  let t := s.begin
  if !(t.viaOpen (.head h)) || t.phase == phRecovery then .next t
  else if !t.mpRuns then .next { t with mpWait := t.mpWait ++ [(h, .spdmDoeMessage h m, none)] }
  else
    let x := t.head h
    match doeAnswer m x.spdm with
    | none => .next (t.send (.doe h [0x7F, 0x04]))
    | some (code, st) =>
      let k := doeKeys m x.ideKeys
      let t := (t.setHead h { x with spdm := st, ideKeys := k }).send (.doe h (code :: t.doeWords m))
      let t := t.skipFree.wri F.HP_LINK_IDE h (bit01 (natBit k 2 || natBit k 3))
      .next (if k = x.ideKeys then t else t.setIdle h)

end Sys2Proof.Machine
end

