-- ==== Sys2Proof/Machine/Trials.lean ====
section
/-! DEFINITION. Self-tests: their start, what they hold, their status and their end (R107, R108, R190, R257, R411). -/

namespace Sys2Proof.Machine

/-- R411: the flash targets a test counts as retired: class 1 one target, class 2 the healthy targets of a channel. -/
def State.testTgts (s : State) (cls unit : Nat) : List Nat :=
  if cls = 1 then [unit].filter s.healthy else if cls = 2 then (chanTgts unit).filter s.healthy else []

/-- R411: a unit of a class is one the operand can name. -/
def testUnit (cls unit : Nat) : Bool :=
  decide (unit < [0, 1024, 64, 48, 24, 3, 6].getD cls 0)

/-- R411: the unit is there to be tested: a flash unit with a healthy target, a memory unit of an installed channel. -/
def State.testable (s : State) (cls unit : Nat) : Bool :=
  if cls = 1 ∨ cls = 2 then !(s.testTgts cls unit).isEmpty
  else if cls = 3 then decide (unit % 2 < (s.mch (unit / 2)).ranks)
  else if cls = 4 then decide (0 < (s.mch unit).ranks)
  else true

/-- R238, R411: a disruptive test that its class or an unspared rank forbids. -/
def State.testBarred (s : State) (cls unit : Nat) (disrupt : Bool) : Bool :=
  disrupt && (cls == 5 || cls == 6 ||
    (cls == 3 && !natBit (s.mch (unit / 2)).spared (unit % 2)) ||
    (cls == 4 && (List.range (s.mch unit).ranks).any fun r => !natBit (s.mch unit).spared r))

/-- TEST_START (R108, R411): the test is accepted and waits; RESULT is its number. -/
def execTestStart (h tag cls unit : Nat) (disrupt : Bool) (s : State) : Answer :=
  .next (s.begin.adminMp (.testStart h tag cls unit disrupt) h tag 0 fun t k =>
    if t.phase ≠ phService then t.finish k 4 11 0
    else if !testUnit cls unit then t.finish k 6 6 0
    else if t.removing || t.trials.any fun e => e.2.cls == cls && e.2.unit == unit then t.finish k 4 8 0
    else if t.testBarred cls unit disrupt then t.finish k 4 5 0
    else if !t.testable cls unit then t.finish k 4 6 0
    else match (List.range 4).find? fun n => !FMap.has t.trials n with
      | none => t.finish k 4 8 0
      | some n =>
        let x : Trial := { cls := cls, unit := unit, disrupt := disrupt, st := 1, prog := 0, faults := 0 }
        let t : State := { t with trials := FMap.put t.trials n x }
        (t.setWaits.settleMr).finish k 0 0 n)

/-- R107: the flash targets of a test are counted retired: their channels are bound. -/
def State.holdTgts (s : State) (l : List Nat) : State :=
  let t := s.forEach l fun a g => a.setTgt g { a.tgt g with state := tgTesting }
  (t.wr F.MR_TEST_TGT (t.countTgts [tgTesting])).ceilUpdate 0

/-- R108: residue lies below the sluice mark of the Weir computed in a state. -/
def State.belowMark (s : State) : Bool :=
  decide (s.residue * 4096 * 100 < (s.weirTerms (s.weirIn 0)).gib * 2 ^ 30 * s.rd F.MR_MARKS_SLUICE)

/-- R257: the load-transfer test of a bay leaves its wait: rest 1 begins with the charger off, and its planned charge counts as spent. -/
def State.restOne (s : State) (b : Nat) : State :=
  let t := ((s.wri F.EN_STS_TSTEP b 2).wri F.EN_STS_STATE b 7).chargerOff b
  let t := (t.wri F.EN_RSV_TEST b (t.bay b).plan).wr (if b = 0 then F.MR_TEST_PACKA else F.MR_TEST_PACKB) 1
  (t.estimate b false).sums

/-- R257: the wait of the load-transfer test of bay b may end. -/
def State.packReady (s : State) (b : Nat) : Bool :=
  s.rdi F.EN_STS_TSTEP b == 1 && s.bayState b == 5 && ! [6, 7].contains (s.bayState (1 - b)) && decide (150 ≤ s.packTemp b) &&
    decide (s.packTemp b ≤ 350) && s.spRuns 4

/-- TEST_BEGIN (R107, R108, R257): waiting test 0 to 3, or the pack test of bay A (4) or B (5), begins once residue lies below the sluice mark
of the Weir computed with the test counted. -/
def execTestBegin (which : Nat) (s : State) : Answer :=
  let t := s.begin
  if t.phase ≠ phService then .next t
  else if which = 4 ∨ which = 5 then
    let b := which - 4
    if t.packReady b = false then .next t
    else
      let u := t.restOne b
      .next (if u.belowMark then u.setWaits.settleMr else t)
  else match FMap.find t.trials which with
    | none => .next t
    | some x =>
      if x.st ≠ 1 then .next t
      else
        let l := t.testTgts x.cls x.unit
        let u := if l.isEmpty then t else t.holdTgts l
        let v : State := { u with trials := FMap.put u.trials which { x with st := 2 } }
        .next (if u.belowMark then v.setWaits.settleMr else t)

/-- TEST_STATUS (R411): state, progress and faults; a final state frees the number. Progress of a running test is left open. -/
def execTestStatus (h tag n : Nat) (s : State) : Answer :=
  .next (s.begin.adminMp (.testStatus h tag n) h tag 0 fun t k =>
    match FMap.find t.trials (n % 4) with
    | none => t.finish k 0 0 0
    | some x =>
      if x.st = 2 then (t.skipFree).finish k 0 0 (2 + t.freeVal % 101 * 256 + min 0xFFFF x.faults * 65536)
      else
        let u : State := if x.st = 1 then t else { t with trials := FMap.del t.trials (n % 4) }
        u.finish k 0 0 (x.st + x.prog * 256 + min 0xFFFF x.faults * 65536))

/-- R190: the targets of a test return to HEALTHY; their channels are unbound unless another target binds them. -/
def State.freeTgts (s : State) (cls unit : Nat) : State :=
  if cls = 1 ∨ cls = 2 then
    let l := (if cls = 1 then [unit] else chanTgts unit).filter fun g => (s.tgt g).state == tgTesting
    let t := s.forEach l fun a g => a.setTgt g { a.tgt g with state := tgHealthy }
    (t.wr F.MR_TEST_TGT (t.countTgts [tgTesting])).ceilUpdate 0
  else s

/-- TEST_ABORT (R411): the test has ended; its state reads 5. -/
def execTestAbort (h tag n : Nat) (s : State) : Answer :=
  .next (s.begin.adminMp (.testAbort h tag n) h tag 0 fun t k =>
    match FMap.find t.trials (n % 4) with
    | none => t.finish k 0 0 0
    | some x =>
      if x.st = 1 ∨ x.st = 2 then
        let u := t.freeTgts x.cls x.unit
        let u : State := { u with trials := FMap.put u.trials (n % 4) { x with st := 5 } }
        (u.setWaits.settleMr).finish k 0 0 0
      else t.finish k 0 0 0)

/-- TEST_COMPLETE (R190, R411): a running test ends with its verdict and faults found; a target with a cause of R189 retires, the others
return to HEALTHY. -/
def execTestComplete (n : Nat) (passed : Bool) (faults : Nat) (causes : List (Nat × Nat)) (s : State) : Answer :=
  let t := s.begin
  match FMap.find t.trials n with
  | none => .next t
  | some x =>
    if x.st ≠ 2 then .next t
    else
      let u : State := { t with trials := FMap.put t.trials n { x with st := if passed then 3 else 4, prog := 100, faults := faults } }
      let u := (causes.filter fun c => (u.tgt c.1).state == tgTesting).foldl (fun (a : State) c => a.bindTarget c.1 c.2) u
      .next ((u.freeTgts x.cls x.unit).settleMr)

end Sys2Proof.Machine
end

