-- ==== Sys2Proof/Machine/Fetch.lean ====
section
/-! DEFINITION. Fetching descriptors and reading their fields (R62, R66, R69, R74, R410). -/

namespace Sys2Proof.Machine

/-- R69: an entry that completes FAULT with a reason; its SHARE and LEVEL are as submitted. -/
def State.faultEntry (s : State) (q : Nat) (d : Desc) (why : Nat) : State :=
  s.takeEntry q fun t =>
    let (r, k) := t.newTicket q d.tag .admin (Desc.level d) (Desc.share d) (Desc.u d) false
    r.finish k 6 why 0

/-- R73: an I/O operation. -/
def ioAnswer (q : Nat) (d : Desc) (s : State) : Answer :=
  let sh := Desc.share d
  let u := Desc.u d
  if Desc.op d = 0x01 then execCommit q d.tag sh (Desc.level d) d.op2 d.op3 u s
  else if Desc.op d = 0x02 then execFence q d.tag (Desc.b d) u s
  else if Desc.op d = 0x03 then execRelease q d.tag sh d.op2 d.op3 u s
  else execProbe q d.tag sh d.op2 d.op3 u s

/-- R74, R85, R268, R340, R411: an admin operation of head h, its operands read from OP2 to OP6. What a staged image verifies to is not in its
descriptor: free values. -/
def adminAnswer (h : Nat) (d : Desc) (s : State) : Answer :=
  let n := Desc.share d
  match Desc.op d with
  | 0x40 => execQueueCreate h d.tag (natField d.op2 0 12) d.op3 d.op4 d.op5 s
  | 0x41 => execQueueDelete h d.tag (natField d.op2 0 12) s
  | 0x42 => execReportRead h d.tag (natField d.op2 0 1) (natField d.op3 0 32) d.op4 d.op5 s
  | 0x50 => execShareCreate h d.tag n d.op2 d.op3 d.op4 (natField d.op5 0 32) (Desc.peer d) s
  | 0x51 => execShareMode h d.tag n (natField d.op2 0 3) (Desc.peer d) s
  | 0x52 => execPromote h d.tag n s
  | 0x53 => execShareSeal h d.tag n (natBit d.op2 0) s
  | 0x54 => execShareUnseal h d.tag n (natField d.op2 0 8) s
  | 0x55 => execShareDelete h d.tag n s
  | 0x56 => execShareSet h d.tag n (natField d.op2 0 2) d.op4 (natField d.op5 0 32) s
  | 0x60 => execTestStart h d.tag (natField d.op2 0 4) (natField d.op2 16 10) (natBit d.op3 0) s
  | 0x61 => execTestStatus h d.tag (natField d.op2 0 2) s
  | 0x62 => execTestAbort h d.tag (natField d.op2 0 2) s
  | 0x70 => execPackTest h d.tag (natField d.op2 0 1) (natField d.op3 0 8) (natField d.op3 16 16) s
  | 0x71 => execPackPause h d.tag (natField d.op2 0 1) (natBit d.op2 1) s
  | 0x72 => execPackStatus h d.tag (natField d.op2 0 1) s
  | 0x73 => execPackRelease h d.tag (natField d.op2 0 1) (natBit d.op2 1) s
  | 0x80 =>
    let l := s.freeList 6
    let f := fun i => l.getD i 0
    execFwStage h d.tag d.op2 (natField d.op3 0 32) (natField d.op4 0 24) (natBit d.op5 0)
      { fail := f 0 % 7, train := f 1, minor := f 2, build := f 3, svn := f 4, layout := f 5 } { s with freeCtr := s.freeCtr + 6 }
  | 0x81 => execFwActivate h d.tag (natBit d.op2 0) s
  | 0x82 => execFwStatus h d.tag s
  | 0x83 => execSpReload h d.tag (natField d.op2 0 3) s
  | _ => execMpRestart h d.tag s

/-- R66, R69, R410: one fetched descriptor. -/
def State.takeDesc (s : State) (q : Nat) (d : Desc) : State :=
  let x := s.queue q
  let op := Desc.op d
  if !s.canTake q || x.barrier.isSome || x.sqHead == x.sqTail then s
  else if !(ioOps ++ adminOps).contains op then s.faultEntry q d 1
  else if Desc.reserved d then s.faultEntry q d 2
  else if adminOps.contains op != x.admin then s.faultEntry q d 3
  else
    let t := s.setQueue q { x with submitted := some (Desc.share d, Desc.level d, Desc.u d) }
    t.act (if x.admin then adminAnswer x.head d t else ioAnswer q d t)

/-- R62, R80: the engine may take an entry of queue q, which has an unfetched one. -/
def State.fetchable (s : State) (q : Nat) : Bool := s.canTake q && (s.queue q).barrier.isNone && (s.queue q).sqHead != (s.queue q).sqTail

/-- R62: the queues the engine can serve: those with an unfetched entry it may take, or a held inline commit it may capture. -/
def State.serviceable (s : State) (q : Nat) : Bool :=
  s.fetchable q ||
    (match (s.queue q).held with | some (tg, w) => s.inlineOpen q tg w | none => false)

/-- R62: round-robin: the queue whose turn is next, the first that can be served after the one served last. -/
def State.nextTurn (s : State) : Option Nat :=
  let far := fun q => (q + 8191 - s.turnQ) % 4096
  ((s.queues.map Prod.fst).filter s.serviceable).foldl (fun a q => match a with
    | none => some q
    | some p => if far q < far p then some q else some p) none

/-- R62, R81: one turn of the engine: the queue in turn has its held inline commit captured, or at most eight consecutive entries fetched, of which
`ds` are the descriptors read; then its descriptor read fails (3), or the last descriptor meets an internal error (7: FAULT with reason INTERNAL
and event 0x2103, R69; when one arises is left open: DESIGN CHOICE, log 227). -/
def State.turnFetch (s : State) (ds : List Desc) (fail : Nat) : State :=
  match s.nextTurn with
  | none => s
  | some q =>
    let t : State := { s with turnQ := q }
    let u := t.releaseInline q
    if (t.queue q).held.isSome && (u.queue q).held.isNone then u
    else
      let l := ds.take 8
      let n := if fail = 7 then l.length - 1 else l.length
      let t := (l.take n).foldl (fun (a : State) d => a.takeDesc q d) t
      let t := if fail = 7 then (l.drop n).foldl (fun (a : State) d => if a.fetchable q then (a.event 0x2103 [q]).faultEntry q d 7 else a) t else t
      if fail = 3 then t.queueError q 3 else t

/-- DESCRIPTOR_FETCH (R62, R69, R81): the engine's turn at the next queue in round-robin order; with `fail` 4 the write of a completion of queue q
fails instead, and that queue is in ERROR. -/
def execDescriptorFetch (q : Nat) (ds : List Desc) (fail : Nat) (s : State) : Answer :=
  let t := s.begin
  if fail = 4 then .next (if (t.queue q).state = 1 ∧ (t.queue q).paused = false then t.queueError q 4 else t)
  else .next (t.turnFetch ds fail)

end Sys2Proof.Machine
end

