-- ==== Sys2Proof/Machine/Format.lean ====
section
/-! DEFINITION. The bytes of flash pages: the page format with its inner code and scrambling, seals, Strands with their parity, metadata and
tags, and anchors (R133 to R140, R142, R149). -/

namespace Sys2Proof.Machine

/-! ### Carry-less arithmetic (R133, R136) -/

/-- A field element times x, in GF(2^m) with the polynomial `poly`. -/
def gfDouble (m poly a : Nat) : Nat := let d := 2 * a; if 2 ^ m ≤ d then Nat.xor d poly else d

/-- The product in GF(2^m): one step for each bit of b, from the highest. -/
def gfMul (m poly a b : Nat) : Nat :=
  (List.range m).foldl (fun r i => let r := gfDouble m poly r; if natBit b (m - 1 - i) then Nat.xor r a else r) 0

/-- a to the power n. -/
def gfPow (m poly a n : Nat) : Nat :=
  (List.range 15).foldl (fun r i => let r := gfMul m poly r r; if natBit n (14 - i) then gfMul m poly r a else r) 1

/-- R133: GF(2^14) of the inner code; α is 2. -/
abbrev bchPoly : Nat := 2 ^ 14 + 2 ^ 10 + 2 ^ 6 + 2 + 1
def mul14 (a b : Nat) : Nat := gfMul 14 bchPoly a b
def alpha14 (e : Nat) : Nat := gfPow 14 bchPoly 2 (e % 16383)
def inv14 (a : Nat) : Nat := gfPow 14 bchPoly a 16382

/-- R136: GF(2^8) of the outer code; α is 0x02. -/
abbrev rsPoly : Nat := 2 ^ 8 + 2 ^ 4 + 2 ^ 3 + 2 ^ 2 + 1
def mul8 (a b : Nat) : Nat := gfMul 8 rsPoly a b

/-- A polynomial, its constant coefficient first, times x − r (which is x + r). -/
def timesRoot (mul : Nat → Nat → Nat) (p : List Nat) (r : Nat) : List Nat :=
  List.zipWith Nat.xor (0 :: p) (p.map (mul r) ++ [0])

/-- The product of two polynomials over GF(2), as numbers. -/
def clMul (a b : Nat) : Nat :=
  (List.range (Nat.log2 b + 1)).foldl (fun r i => if natBit b i then Nat.xor r (a * 2 ^ i) else r) 0

/-- The remainder of a polynomial below degree n over GF(2) by one of degree d. -/
def clMod (n d p g : Nat) : Nat :=
  (List.range (n - d)).foldl (fun r i => if natBit r (n - 1 - i) then Nat.xor r (g * 2 ^ (n - 1 - i - d)) else r) p

/-! ### The inner code (R133) -/

/-- R133: the minimal polynomial of α^e over GF(2): the product over its conjugates. -/
def minPoly (e : Nat) : Nat :=
  let c := ((List.range 14).map fun i => e * 2 ^ i % 16383).eraseDups
  let p := c.foldl (fun p x => timesRoot mul14 p (alpha14 x)) [1]
  p.foldr (fun b a => b + 2 * a) 0

/-- R133: the generator: the least common multiple of the minimal polynomials of α^1 to α^143, each irreducible. -/
def bchGen : Nat := (((List.range 143).map fun i => minPoly (i + 1)).eraseDups).foldl clMul 1

/-- Bytes as one number, the first most significant. -/
def beNat (l : List Nat) : Nat := l.foldl (fun a b => 256 * a + b % 256) 0

/-- R133: the 126 parity bytes of a codeword's 1,040 bytes: with them the 9,328 bits are a multiple of the generator. Its degree is 1,001, so
the first seven parity bits are 0. -/
def bchParity (data : List Nat) : List Nat := beBytes 126 (clMod 9328 1001 (beNat data * 2 ^ 1008) bchGen)

/-- R133: the syndromes S_1 to S_144 of a received codeword. -/
def syndromes (r : Nat) : List Nat :=
  let bits := (List.range 9328).map fun i => natBit r (9327 - i)
  (List.range 144).map fun j =>
    let a := alpha14 (j + 1)
    bits.foldl (fun s b => let s := mul14 s a; if b then Nat.xor s 1 else s) 0

/-- The error locator of syndromes, its constant coefficient first, with its degree, by one step of Berlekamp and Massey. `c` is the
locator, `b` the one before its last change in length, times the power of x since and divided by its discrepancy. -/
def bmStep (syn : List Nat) (p : List Nat × List Nat × Nat) (n : Nat) : List Nat × List Nat × Nat :=
  let (c, b, l) := p
  let d := (List.range (l + 1)).foldl (fun a i => Nat.xor a (mul14 (c.getD i 0) (syn.getD (n - i) 0))) 0
  if d = 0 then (c, 0 :: b, l)
  else
    let m := max c.length b.length
    let c' := (List.range m).map fun i => Nat.xor (c.getD i 0) (mul14 d (b.getD i 0))
    if 2 * l ≤ n then (c', 0 :: c.map (mul14 (inv14 d)), n + 1 - l) else (c', 0 :: b, l)

/-- The error locator of 144 syndromes and its degree. -/
def locator (syn : List Nat) : List Nat × Nat :=
  let (c, _, l) := (List.range 144).foldl (bmStep syn) ([1], [0, 1], 0)
  (c, l)

/-- The value of a polynomial at a point. -/
def polyAt (p : List Nat) (x : Nat) : Nat := p.foldr (fun c a => Nat.xor c (mul14 a x)) 0

/-- R133: a received codeword decoded: its 1,040 bytes and how many of its bits were corrected, if it has at most 72 errors. -/
def bchDecode (bytes : List Nat) : Option (List Nat × Nat) :=
  let r := beNat bytes
  let syn := syndromes r
  if syn.all (· == 0) then some (bytes.take 1040, 0)
  else
    let (c, l) := locator syn
    let bad := (List.range 9328).filter fun i => polyAt c (alpha14 (16383 - i)) == 0
    if l ≤ 72 ∧ bad.length = l then some ((beBytes 1166 (bad.foldl (fun a i => Nat.xor a (2 ^ i)) r)).take 1040, l) else none

/-! ### The page (R133) -/

/-- One bit of a shift register of n stages with feedback from stages n and k: the bit that leaves, and the stages after. -/
def prbsBit (n k s : Nat) : Nat × Nat :=
  (s / 2 ^ (n - 1) % 2, (2 * s + (if natBit s (n - 1) != natBit s (k - 1) then 1 else 0)) % 2 ^ n)

/-- Bytes of the PRBS x^n + x^k + 1 from a seed, each filled from its most significant bit; newest first, with the register. -/
def prbsRev (n k count seed : Nat) : List Nat × Nat :=
  (List.range count).foldl (fun p _ =>
    let (b, s) := (List.range 8).foldl (fun q _ => let (o, s) := prbsBit n k q.2; (2 * q.1 + o, s)) (0, p.2)
    (b :: p.1, s)) ([], seed)

/-- R133: the bytes of a PRBS. -/
def prbs (n k count seed : Nat) : List Nat := (prbsRev n k count seed).1.reverse

/-- R133: codeword i of a page's 16,384 bytes of payload and 256 of metadata, before encoding. -/
def codeword (content : List Nat) (i : Nat) : List Nat := (content.drop (1024 * i)).take 1024 ++ (content.drop (16384 + 16 * i)).take 16

/-- R133: the scrambling of a page: block within its target, and page. -/
def scramble (block page : Nat) : List Nat := prbs 23 18 18656 (block % 4096 * 2048 + page + 1)

/-- R133: the 18,656 bytes programmed for a page's content. -/
def encodePage (block page : Nat) (content : List Nat) : List Nat :=
  let code := (List.range 16).flatMap fun i => codeword content i ++ bchParity (codeword content i)
  List.zipWith Nat.xor code (scramble block page)

/-- R133: the bytes read from a page decoded: its content in order, and the corrected bits of each codeword. -/
def decodePage (block page : Nat) (raw : List Nat) : Option (List Nat × List Nat) :=
  let code := List.zipWith Nat.xor raw (scramble block page)
  let ws := (List.range 16).filterMap fun i => bchDecode ((code.drop (1166 * i)).take 1166)
  if ws.length = 16 then some ((ws.flatMap fun w => w.1.take 1024) ++ (ws.flatMap fun w => w.1.drop 1024), ws.map Prod.snd) else none

/-! ### Seals and anchors (R134, R149) -/

/-- R134: the content of a seal page; each word of the pattern is filled from its bit 63. -/
def sealContent (block ers time lsn : Nat) : List Nat :=
  let raw := prbs 31 28 16336 ((block + 1) % 2 ^ 31)
  let pat := (List.range 2042).flatMap fun i => ((raw.drop (8 * i)).take 8).reverse
  let ws := [0x5345414C * 2 ^ 32 + 2 ^ 24, block % 2 ^ 32, ers % 2 ^ 32, lsn % 2 ^ 64, time % 2 ^ 64]
  let body := wordBytes ws ++ pat
  body ++ leBytes 8 (crc32c body) ++ List.replicate 256 0

/-- R149: words 0 to 23 of an anchor. -/
def Anchor.words (a : Anchor) : List Nat :=
  [0x4C414E43 * 2 ^ 32 + 2 ^ 24 + a.kind % 256 * 2 ^ 16 + a.result % 16 * 2 ^ 12 + a.reason % 16 * 2 ^ 8, a.gen % 2 ^ 48,
   a.imageId % 2 ^ 64, a.imageId / 2 ^ 64 % 2 ^ 64, a.prev % 2 ^ 48, a.prevman % 2 ^ 48, a.cklsn % 2 ^ 64, a.ckloc, a.lastLsn % 2 ^ 64,
   a.lastloc, a.nextGen % 2 ^ 48, 64 * 2 ^ 56 + 16 * 2 ^ 48 + blocksPerTarget * 2 ^ 32 + 1152 * 2 ^ 16, a.units % 2 ^ 32, a.time % 2 ^ 64,
   a.cycles % 2 ^ 32 * 2 ^ 32 + a.hours % 2 ^ 32] ++ List.replicate 9 0

/-- R149: the content of an anchor page. -/
def Anchor.content (a : Anchor) : List Nat :=
  let tag := imageTag a.imageId a.gen 0xFF (wordBytes a.words)
  let ws := a.words ++ [tag % 2 ^ 64, tag / 2 ^ 64, 0, 0, 0, 0, 0]
  fitTo 16640 0 (wordBytes (ws ++ [crc32c (wordBytes ws)]))

/-! ### Slots (R137 to R140) -/

/-- R137: slots of a Skein that hold content. -/
def Skein.used (k : Skein) : Nat :=
  if k.ty = 1 then k.prog.length else if k.ty = 2 then 112 else min 112 (ceilDiv (8 + (k.recs.map JRec.words).foldl (· + ·) 0) 512)

/-- R140: an index entry of an INDEX Skein as a word; a LOCATED one names where its Skein lay when the segment was programmed. -/
def Skein.entryWord (k : Skein) (e : IdxEntry) : Nat :=
  match e with
  | .zero => 0
  | .released => 2 ^ 62
  | .slot g n =>
    let loc := match FMap.find k.locs g with
      | some p => p.1 % 2 ^ 20 * 2 ^ 42 + p.2 % 2 ^ 11 * 2 ^ 31
      | none => 0
    2 ^ 63 + loc + n % 128 * 2 ^ 24 + g % 2 ^ 24

/-- R140, R142: the words of a slot of an INDEX or RECORD Skein before encipherment. -/
def Skein.slotPlain (k : Skein) (n : Nat) : List Nat :=
  if k.ty = 2 then (List.range 512).map fun i => k.entryWord (Segs.get .zero k.entries (57344 * k.seg + 512 * n + i))
  else if k.ty = 3 then (k.recPayload.drop (512 * n)).take 512
  else List.replicate 512 0

/-- R139: a DATA slot's 4,096 bytes: the unit's lines as DRAM holds them. -/
def Slot.stored (u : Slot) : List Nat :=
  (List.range 64).flatMap fun i => lineCipher u.share u.kgen (u.unit * 64 + i)
    ((List.range 64).map fun j => ((u.cells.find? fun c => c.1 == 64 * i + j).map fun c => c.2.toNat).getD 0)

/-- R139: the 4,096 bytes of slot n as stored; the others are enciphered under the image metadata key, padding as zeros. -/
def Skein.slotBytes (k : Skein) (n : Nat) : List Nat :=
  match (if k.ty = 1 then k.prog[n]? else none) with
  | some u => u.stored
  | none => xts (imageMetaKey k.imageId) (k.gen * 128 + n) (wordBytes (k.slotPlain n))

/-- R137: word 4 + 4q of a slot's descriptor, its PMASK, and the bytes of its additional data after the slot (R138). -/
def Skein.descr (k : Skein) (n : Nat) : Nat × Nat :=
  match (if k.ty = 1 then k.prog[n]? else none) with
  | some u => (bit01 (u.pmask != 0) * 2 ^ 57 + u.share % 64 * 2 ^ 32 + u.unit % 2 ^ 32, u.pmask % 2 ^ 64)
  | none => (bit01 (decide (k.used ≤ n)) * 2 ^ 56 + 0xFFFFFFFF, 0)

/-- R138: the tag of slot n. -/
def Skein.slotTag (k : Skein) (n : Nat) : Nat :=
  let (d, m) := k.descr n
  imageTag k.imageId k.gen n (k.slotBytes n ++ leBytes 4 d ++ [d / 2 ^ 32 % 64, d / 2 ^ 56 % 256, k.ty % 256, 0] ++ leBytes 8 m ++
    leBytes 16 k.imageId)

/-! ### Strands (R135 to R137) -/

/-- R137: words 0 to 23 of data Strand j: the Skein header and four slot descriptors. -/
def Skein.strandHead (k : Skein) (j : Nat) : List Nat :=
  [0x4C414F4C * 2 ^ 32 + 2 ^ 24 + k.ty % 16 * 2 ^ 20 + k.used % 128 * 2 ^ 8, k.gen % 2 ^ 48, k.imageId % 2 ^ 64, k.imageId / 2 ^ 64 % 2 ^ 64] ++
    ((List.range 4).flatMap fun q =>
      let (d, m) := k.descr (4 * j + q)
      let t := k.slotTag (4 * j + q)
      [d, m, t % 2 ^ 64, t / 2 ^ 64]) ++ [0, 0, 0, 0]

/-- R135, R136: the coded span of data Strand j: 16,384 bytes of payload and 192 of metadata. -/
def Skein.dataSpan (k : Skein) (j : Nat) : List Nat :=
  ((List.range 4).flatMap fun q => k.slotBytes (4 * j + q)) ++ wordBytes (k.strandHead j)

/-- R136: the generator of the outer code, its constant coefficient first: roots α^0 to α^3. -/
def rsGen : List Nat := [1, 2, 4, 8].foldl (timesRoot mul8) [1]

/-- R136: one data symbol divided in: the four remainder symbols, the coefficient of x^3 first. -/
def rsStep (p : Nat × Nat × Nat × Nat) (c : Nat) : Nat × Nat × Nat × Nat :=
  let f := Nat.xor c p.1
  (Nat.xor p.2.1 (mul8 f (rsGen.getD 3 0)), Nat.xor p.2.2.1 (mul8 f (rsGen.getD 2 0)), Nat.xor p.2.2.2 (mul8 f (rsGen.getD 1 0)),
   mul8 f (rsGen.getD 0 0))

/-- R136: the four parity symbols at every byte position of the 28 data spans, in order. -/
def rsParity (spans : List (List Nat)) : List (Nat × Nat × Nat × Nat) :=
  spans.foldl (List.zipWith rsStep) (List.replicate 16576 (0, 0, 0, 0))

/-- R136: the coded span of any Strand. -/
def Skein.codedSpan (k : Skein) (j : Nat) : List Nat :=
  if j < 28 then k.dataSpan j
  else
    let p := rsParity ((List.range 28).map k.dataSpan)
    p.map fun x => if j = 28 then x.1 else if j = 29 then x.2.1 else if j = 30 then x.2.2.1 else x.2.2.2

/-- R133, R137: the content of the page Strand j of a Skein lies on: payload, coded metadata, local words 24 to 31. -/
def Skein.strandContent (k : Skein) (j block : Nat) : List Nat :=
  let local_ := [j % 32, location k.bundle k.page + block % 2 ^ 32, k.gen % 2 ^ 48, k.ty % 16, 0, 0, 0]
  let body := k.codedSpan j ++ wordBytes local_
  body ++ leBytes 8 (crc32c body)

/-! ### What a page holds and reads as (R133, R134, R135, R186) -/

/-- The content of a page programmed since its block was erased: a seal, an anchor or a Strand. -/
def State.pageContent (s : State) (block page : Nat) : Option (List Nat) :=
  if page = 0 then (s.blk block).sealPage.map fun p => sealContent block (s.blk block).ers p.1 p.2
  else match s.im.anchored.find? fun a => a.copies.contains (block, page) with
    | some a => some a.content
    | none =>
      match s.im.written.find? fun k => k.page == page && k.members.contains block with
      | some k => some (k.strandContent ((k.members.idxOf block + 32 - page % 32) % 32) block)
      | none => none

/-- R144: a page of an abandoned RECORD Skein, left undecodable. -/
def State.pageSpoilt (s : State) (block page : Nat) : Bool :=
  match s.im.written.find? fun k => k.page == page && k.members.contains block with
  | some k => k.dead
  | none => false

/-- A list of bytes with a bit turned. -/
def flipBit (l : List Nat) (i : Nat) : List Nat := l.modify (i / 8) fun b => Nat.xor b (2 ^ (7 - i % 8))

/-- R133, R144, R186: the bytes a page reads as, with the bits of `flips` turned; an erased page reads all ones; what an undecodable page reads as
is left open. -/
def State.pageRead (s : State) (block page : Nat) (flips : List Nat) : List Nat :=
  let base :=
    if s.pageSpoilt block page then (List.range 18656).map fun i => Config.free (s.freeCtr + i) % 256
    else match s.pageContent block page with
      | some c => encodePage block page c
      | none => List.replicate 18656 0xFF
  flips.foldl flipBit base

/-- R144: the free values taken for an undecodable page are passed over. -/
def State.skipPage (s : State) (block page : Nat) : State :=
  if s.pageSpoilt block page then { s with freeCtr := s.freeCtr + 18656 } else s

end Sys2Proof.Machine
end

