-- ==== Sys2Proof/Machine/Flash.lean ====
section
/-! DEFINITION. The flash complex: channel training, failures, erases and seals, calibration, re-skeining and the flash mailbox commands
(R134, R172 to R194). -/

namespace Sys2Proof.Machine

/-! ### Training (R172, R173) -/

/-- R175: limits of page read, program, erase, suspend and resume, in ns. -/
def dieLimits : List Nat := [18000, 180000, 5000000, 20000, 1000]

/-- R175: a die of these identifiers has a profile that declares no limit above the controller's. -/
def profiled (id : Nat) : Bool :=
  match Config.dieProfile id with
  | some l => (List.range 5).all fun i => decide (l.getD i 0 ≤ dieLimits.getD i 0)
  | none => false

/-- R155: the geometry of a die found joins that of the others: blocks per target and pages per block; (0, 0) once two differ. -/
def State.dieGeo (s : State) (g : Nat × Nat) : State :=
  { s with fc := { s.fc with geo := match s.fc.geo with | some h => some (if h = g then g else (0, 0)) | none => some g } }

/-- R172, R175: a volume of a channel as first found: `dies` are the volumes that answer, with READ ID's identifiers, blocks and pages. One that
does not answer or has no profile is ABSENT (event 0x6002, reason 0 or 1; DESIGN CHOICE, log 208), but a retired one stays retired. -/
def State.findVolume (s : State) (dies : List (Nat × Nat × Nat × Nat)) (x : Nat) : State :=
  let gone := fun (a : State) (why : Nat) =>
    let a := a.event 0x6002 [x, why]
    if (a.tgt x).state = tgBound ∨ (a.tgt x).state = tgRetired then a else a.setTgt x { a.tgt x with state := tgAbsent }
  match dies.find? fun d => d.1 == x % 16 with
  | none => gone s 0
  | some d =>
    if !profiled d.2.1 then gone s 1
    else
      let t := s.dieGeo d.2.2
      if FMap.has t.fc.tgts x = true ∧ (t.tgt x).state ≠ tgAbsent then t else t.setTgt x { t.tgt x with state := tgHealthy }

/-- R172: the volumes of a channel as first found, and the state of blocks first seen. -/
def State.findVolumes (s : State) (c : Nat) (dies : List (Nat × Nat × Nat × Nat)) (found : List (Nat × Nat × Nat × Nat)) : State :=
  let t := s.forEach (chanTgts c) fun a x => a.findVolume dies x
  found.foldl (fun (a : State) e =>
    if e.1 / 65536 = c ∧ Segs.within e.1 (e.1 + e.2.1) a.fc.blocks = [] then
      { a with fc := { a.fc with blocks := Segs.fill a.fc.blocks e.1 (e.1 + e.2.1) { st := e.2.2.1, ers := e.2.2.2 } } }
    else a) t

/-- FLASH_TRAINING_COMPLETE (R19, R172, R173, R175, R189): channel c trains to a rate, or fails at every rate; up to four volumes may have failed
it. `dies` lists the volumes that answer, with identifiers, blocks and pages; `found` block runs first seen, as first block, count, state and
erase count. A group found without a volume is Off from then on. -/
def execFlashTrainingComplete (c : Nat) (rate : Option Nat) (dies : List (Nat × Nat × Nat × Nat)) (failed : List Nat)
    (found : List (Nat × Nat × Nat × Nat)) (s : State) : Answer :=
  let t := s.begin
  if 64 ≤ c ∨ t.phase ≠ phBringup ∨ t.dom (18 + c / 8) ≠ 1 ∨ t.rd F.CK_STS_STATE ≠ 2 ∨ (t.chan c).trained = true ∨
      (t.chan c).retired = true ∨ 4 < failed.length then .next t
  else
    let t := t.findVolumes c dies found
    if t.chanEmpty c then
      let t := t.setChan c { t.chan c with retired := true }
      .next (if t.groupHeld (c / 8) then t else t.setDom (18 + c / 8) 0).imageStep
    else match rate with
    | none =>
      let t := t.forEach ((chanTgts c).filter fun x => (t.tgt x).state != tgAbsent) fun a x => a.retire x 6
      .next ((if (t.chan c).retired then t else t.endChan c 6).ceilUpdate 6).imageStep
    | some r =>
      let r := min r (min 6 (t.rd F.FC_CFG_MAXRATE))
      let t := (t.setChan c { t.chan c with trained := true, rate := r }).event 0x6001 [c, r]
      let bad := (failed.map fun v => 16 * c + v % 16).filter fun x => (t.tgt x).state != tgAbsent
      let t := t.forEach bad fun a x => (a.event 0x6002 [x, 2]).retire x 4
      .next (t.wearUpdate.ceilUpdate 0).imageStep.updReady

/-- ZQ_CALIBRATION (R173): the repeat runs in pre-emptible slices and changes nothing a command can see. -/
def execZqCalibration (_t : Nat) (s : State) : Answer := .next s.begin

/-! ### Failures (R122, R175, R187, R189, R190) -/

/-- R122: in a Save Strand j of a Skein in flight counts as failed; with five the Skein is abandoned. -/
def State.saveStrandFail (s : State) (k : Skein) (j : Nat) : State :=
  let k' := k.fail j
  let t : State := { s with im := { s.im with flight := s.im.flight.map fun x => if x.gen == k.gen then k' else x } }
  if 4 < k'.failed.length then t.abandon k' else t

/-- R122, R187: Strand j of a Skein in flight failed to program. -/
def State.programFail (s : State) (k : Skein) (j : Nat) : State :=
  match s.strandBlk k j with
  | none => s
  | some m =>
    let t := (s.bump F.FC_ERR_PGMF).event 0x6004 [blkTgt m, m % 4096, s.phase]
    if t.phase = phSave then ((t.badBlock m).exclude (blkTgt m)).saveStrandFail k j
    else (t.abandon (k.fail j)).badBlock m

/-- STRAND_PROGRAM_FAIL (R88, R122, R144, R187): a Strand of the Skein of generation g fails to program. -/
def execStrandProgramFail (gen strand : Nat) (s : State) : Answer :=
  let t := s.begin
  match t.inFlight gen with
  | some k => if strand < 32 then .next (t.programFail k strand) else .next t
  | none => .next t

/-- R175, R178: Reset LUN on target t: a suspended erase stays listed and is not resumed. -/
def State.resetLun (s : State) (t : Nat) : State :=
  match (s.tgt t).susp with
  | some b => (s.setBlk b (s.blk b).afterReset).setTgt t { s.tgt t with susp := none }
  | none => s

/-- R122: target t does not respond in a Save: every Strand in flight on it counts as failed, and later Skeins avoid it. -/
def State.saveUnresponsive (s : State) (t : Nat) : State :=
  (s.im.flight.map Skein.gen).foldl (fun (a : State) g => match a.inFlight g with
    | some k => match a.strandOn k t with | some j => a.saveStrandFail k j | none => a
    | none => a) (s.exclude t)

/-- R175: what a timed-out operation leaves: a read (0) its Strand not intact, so that a fetch rebuilds; a program (1) a failed Strand; an erase (2)
its block listed. -/
def State.timedOut (s : State) (t op b gen : Nat) : State :=
  if op = 0 then
    let fs : FMap Fetch := s.rs.fetches.map fun (e : Nat × Fetch) =>
      (e.1, if e.2.sent && s.fetchTarget e.1 == some t then { e.2 with sent := false, atOnce := true } else e.2)
    let s : State := { s with rs := { s.rs with fetches := fs } }
    match (FMap.find s.im.skeins gen).bind fun k => s.strandOn k t with
    | some j => { s with fc := { s.fc with tmoReads := (gen, j) :: s.fc.tmoReads } }
    | none => s
  else if op = 1 then
    if s.phase = phSave then s
    else match s.inFlight gen with
      | some k => match s.strandOn k t with | some j => s.programFail k j | none => s
      | none => s
  else if op = 2 ∧ blkTgt b = t ∧ (s.blk b).st = 2 then s.bump F.FC_ERR_ERSF
  else s

/-- R189: all present volumes of channel c have timed out together, within 1 s (DEDUCED, log 217): the channel is retired. -/
def State.chanTimedOut (s : State) (c : Nat) : Bool :=
  let l := (chanTgts c).filter fun t => (s.tgt t).state != tgAbsent
  !(s.chan c).retired && !l.isEmpty && l.all fun t => match (s.tgt t).tmoAt with | some w => decide (s.ck.mono < w + 1000000000) | none => false

/-- COMMAND_TIMEOUT (R122, R175, R189, R190): a read (0), program (1) or erase (2) on target t overruns; Reset LUN is issued and the operation fails;
a second timeout within 1 s, or a reset that does not complete, retires the target; volumes that all time out together retire their channel. -/
def execCommandTimeout (t op b gen : Nat) (resetDone : Bool) (s : State) : Answer :=
  let a := s.begin
  let x := a.tgt t
  if x.state = tgAbsent ∨ x.state = tgBound ∨ x.state = tgRetired then .next a
  else
    let again := match x.tmoAt with | some w => decide (a.ck.mono < w + 1000000000) | none => false
    let a := ((a.setTgt t { x with tmoAt := some a.ck.mono }).bump F.FC_ERR_TMO).event 0x6003 [t, op]
    let a := (a.resetLun t).timedOut t op b gen
    let a := if a.phase = phSave then a.saveUnresponsive t else a
    let a := if again || !resetDone then a.retire t 1 else a
    if a.chanTimedOut (tgtChan t) then
      let a := a.forEach (chanTgts (tgtChan t)) fun r y => r.retire y 6
      .next ((if (a.chan (tgtChan t)).retired then a else a.endChan (tgtChan t) 6).ceilUpdate 6).sendFetches
    else .next a.sendFetches

/-! ### Erases and seals (R134, R178, R186) -/

/-- R186: an attempt to erase and seal a block failed; after the third the block is grown bad. -/
def State.attemptFail (s : State) (b : Nat) : State :=
  let x := s.blk b
  let t := s.bump F.FC_ERR_ERSF
  if 2 ≤ x.tries then t.badBlock b else t.setBlk b { x with st := 2, tries := x.tries + 1 }

/-- Erases and seals run: programs are accepted and the phase is not SAVE (R115, R185). -/
def State.erases (s : State) (b : Nat) : Bool :=
  s.armed && (s.phase == phBringup || s.serving) && (s.healthy (blkTgt b) || (s.tgt (blkTgt b)).state == tgTesting)

/-- What pages of a block held is gone. -/
def State.forgetBlock (s : State) (b : Nat) : State :=
  let w := (s.im.written.map fun k => { k with members := k.members.map fun m => if m = b then 2 ^ 32 else m }).filter fun k =>
    k.members.any (· != 2 ^ 32)
  let a := (s.im.anchored.map fun k => { k with copies := k.copies.filter fun c => c.1 != b }).filter fun k => !k.copies.isEmpty
  { s with im := { s.im with written := w, anchored := a } }

/-- R186: the erased probe: page 1,151 read raw holds at most 16 zero bits in each codeword's region. -/
def erasedProbe (zeros : List Nat) : Bool :=
  (List.range 16).all fun i => decide ((zeros.filter fun x => x / 9328 == i).eraseDups.length ≤ 16)

/-- R184: an erase addressed to a protected block is refused: PROTECT. -/
def State.protectFault (s : State) (b : Nat) : State := (s.bump F.FC_PROT_FAULTS).event 0x6009 [blkTgt b, b % 4096, 2]

/-- BLOCK_ERASE_COMPLETE (R178, R184, R186): the erase in progress of a target ends with its status, and the zero bits its probe finds; the seal
is then programmed. One addressed to a protected block is refused. -/
def execBlockEraseComplete (b : Nat) (ok : Bool) (zeros : List Nat) (s : State) : Answer :=
  let t := s.begin
  if t.armed = true ∧ t.isProtected b = true then .next (t.protectFault b)
  else match t.erasing (blkTgt b) with
  | none => .next t
  | some (a, x) =>
    if a = b ∧ t.erases b = true then
      let t := t.forgetBlock b
      if ok && erasedProbe zeros then
        let x := { x with reads := 0, marked := false, again := false }
        .next (t.setBlk b { x with st := 3, sealPage := some (t.ck.ns, (x.erLsn + b).toNat) })
      else .next ((State.attemptFail (t.setBlk b { x with sealPage := none }) b).ceilUpdate 0)
    else .next t

/-- SEAL_VERIFY (R134, R176, R186): the seal is read back with its bits in error. With at most 8 in each codeword it is verified, the erase counts and
SEALED follows; a block at its wear limit is grown bad. -/
def execSealVerify (b : Nat) (flips : List Nat) (s : State) : Answer :=
  let t := s.begin
  let x := t.blk b
  if x.st = 3 ∧ t.erases b = true then
    if !pageDecodes 8 flips then .next ((t.attemptFail b).ceilUpdate 0)
    else
      let t := t.setBlk b { x with ers := x.ers + 1, tries := 0, tag := 0 }
      if max 1 (t.rd F.FC_CFG_WEARLIM) ≤ x.ers + 1 then .next ((t.badBlock b).ceilUpdate 0)
      else
        let t := t.setBlk b { t.blk b with st := 4 }
        .next ((t.journal jSealed [b, 1, x.ers + 1]).wearUpdate.ceilUpdate 0).retrySeg
  else .next t

/-- R178: work of higher priority than an erase waits on target t. -/
def State.erasesWait (s : State) (t : Nat) : Bool := s.programsOn t || s.rs.fetches.any fun e => s.fetchTarget e.1 == some t

/-- ERASE_RESUME (R178, R179): the suspended erase of a target runs on once nothing of higher priority waits; one that has used its suspends waits
while the limit of R179 is reached. -/
def execEraseResume (t : Nat) (s : State) : Answer :=
  let a := s.begin
  match (a.tgt t).susp with
  | some b =>
    let hard := decide (a.ersMax ≤ (a.blk b).tag) && a.anyHot && decide (a.hardLimit ≤ a.hardTgts.length)
    if a.erases b && !a.erasesWait t && !hard then .next ((a.setBlk b { a.blk b with st := 2 }).setTgt t { a.tgt t with susp := none })
    else .next a
  | none => .next a

/-- R180: the age bin of a time since a seal. -/
def ageBin (ns : Nat) : Nat :=
  let h := ns / 3600000000000
  if h < 1 then 0 else if h < 24 then 1 else if h < 168 then 2 else if h < 720 then 3 else if h < 4320 then 4 else if h < 8760 then 5
  else if h < 43800 then 6 else 7

/-- R180: an age bin of target t holds a programmed block. -/
def State.binHeld (s : State) (t bin : Nat) : Bool :=
  (Segs.within (t * 4096) (t * 4096 + 4096) s.fc.blocks).any fun e => [5, 6].contains e.2.2.st &&
    (match e.2.2.sealPage with | some p => ageBin (s.ck.ns - p.1) == bin | none => false)

/-- R180: the calibration of an age bin is due: FC_RRT.INTERVAL hours have passed since its last. -/
def State.binDue (s : State) (t bin : Nat) : Bool :=
  match FMap.find (s.tgt t).binAt bin with
  | some a => decide (a + max 1 (s.rd F.FC_RRT_INTERVAL) * 3600000000000 ≤ s.ck.mono)
  | none => true

/-- R180: the place among 16 of the fewest corrected bits; of equal ones the lowest (DESIGN CHOICE, log 209). -/
def fewest (counts : List Nat) : Nat :=
  (List.range 16).foldl (fun b i => if counts.getD i 0 < counts.getD b 0 then i else b) 0

/-- READ_CALIBRATION (R180): a sample page of an age bin that holds programmed blocks is read at the 16 offsets from −8 to +7, with so many corrected
bits at each: the offset with the fewest becomes the bin's, kept in NOR too; a move of 3 steps or more is event 0x600D. -/
def execReadCalibration (t bin : Nat) (counts : List Nat) (s : State) : Answer :=
  let a := s.begin
  let x := a.tgt t
  if a.serving = true ∧ x.state = tgHealthy ∧ bin < 8 ∧ counts.length = 16 ∧ a.binHeld t bin = true ∧ a.binDue t bin = true then
    let old4 := x.offs.getD bin 0
    let old : Int := if 8 ≤ old4 then (old4 : Int) - 16 else old4
    let off : Int := (fewest counts : Int) - 8
    let new4 := (off % 16).toNat
    let offs := (List.range 8).map fun i => if i = bin then new4 else x.offs.getD i 0
    let a := (a.setTgt t { x with offs := offs, calAt := a.ck.mono, binAt := FMap.put x.binAt bin a.ck.mono }).norProgram
    if 3 ≤ (off - old).natAbs then .next (a.event 0x600D [t, bin, new4]) else .next a
  else .next a

/-! ### Re-skeining (R192, R193) -/

/-- Live units of the bundles naming a target. -/
def State.liveOn (s : State) (t : Nat) : List Nat := (s.bundlesOf t).flatMap s.liveIn

/-- R193: the walk's checkpoint: the step and the first bundle that still holds live units. -/
def State.rskCheckpoint (s : State) : State :=
  match s.fc.queue.head? with
  | none => s
  | some t =>
    let b := ((s.bundlesOf t).find? fun b => !(s.liveIn b).isEmpty).getD 0
    State.wr { s with fc := { s.fc with ckpt := (s.rd F.FC_RSK_STATE, b) } } F.FC_RSK_BUNDLE b

/-- R192: a pre-erased bundle, of which no page is programmed, is dissolved: its blocks but the retired target's return to the free pool. -/
def State.dissolve (s : State) (b t : Nat) : State :=
  let x := s.bundle b
  let a : State := { s with im := { s.im with bundles := FMap.del s.im.bundles b, dataB := if s.im.dataB = some b then none else s.im.dataB
                                              jnext := if s.im.jnext = some b then none else s.im.jnext } }
  let a := a.forEach (x.members.filter fun m => blkTgt m != t && (a.blk m).st == 5) fun r m => r.setBlk m { r.blk m with st := 4 }
  a.journal jBundleFree [b]

/-- R192: the dissolve step: open bundles naming the target take no further pages, pre-erased ones are dissolved, and the journal bundle is switched
if it names the target. -/
def State.dissolveAll (s : State) (t : Nat) : State :=
  let named := (s.im.bundles.filter fun e => e.2.members.any fun m => blkTgt m == t).map Prod.fst
  let a := s.forEach (named.filter fun b => (s.bundle b).next != 1) fun r b => r.setBundle b { r.bundle b with closed := true }
  let a := (named.filter fun b => (s.bundle b).next == 1).foldl (fun (r : State) b => r.dissolve b t) a
  (a.announce.currentJournal).1.ceilUpdate 0

/-- RESKEIN_START (R192): the target at the head of the queue is taken and its bundles are dissolved (state 1); relocation begins (state 2). -/
def execReskeinStart (s : State) : Answer :=
  let a := s.begin
  match a.fc.queue.head? with
  | none => .next a
  | some t =>
    if a.phase = phService ∧ a.spRuns 1 = true ∧ a.rd F.FC_RSK_STATE = 0 ∧ a.drainState ≠ 3 then
      let a := (a.wr F.FC_RSK_STATE 1).dissolveAll t
      let a := ((a.wr F.FC_RSK_STATE 2).wr F.FC_RSK_TARGET t).wr F.FC_RSK_PROG 0
      let n := (a.liveOn t).length
      let a : State := { a with fc := { a.fc with rskAt := a.ck.mono, rskMoved := 0, rskTotal := n } }
      .next ((a.event 0x600B [t]).rskCheckpoint)
    else .next a

/-- RESKEIN_RELOCATE_END (R192): no live unit is left in the bundles naming the target: the pass wait begins. -/
def execReskeinRelocateEnd (s : State) : Answer :=
  let a := s.begin
  match a.fc.queue.head? with
  | none => .next a
  | some t =>
    if a.phase = phService ∧ a.spRuns 1 = true ∧ a.rd F.FC_RSK_STATE = 2 ∧ a.liveOn t = [] then
      let a := (a.wr F.FC_RSK_STATE 3).wr F.FC_RSK_PROG 100
      .next (State.rskCheckpoint { a with fc := { a.fc with rskPass := a.im.pass + 1, rskMoved := a.fc.rskTotal } })
    else .next a

/-- RESKEIN_CHECKPOINT_WRITE (R193): the checkpoint is written to NOR. -/
def execReskeinCheckpointWrite (s : State) : Answer :=
  let a := s.begin
  if a.phase = phService ∧ a.rd F.FC_RSK_STATE ≠ 0 then
    let a := a.rskCheckpoint
    .next (State.norProgram { a with fc := { a.fc with ckptNor := a.fc.ckpt } })
  else .next a

/-! ### Flash mailbox commands (R182, R183, R195) -/

/-- R195: FC_T_STS of a target, and FC_T_CAL: hours since calibration and the eight offsets. -/
def State.tgtStatus (s : State) (t : Nat) : Nat :=
  let x := s.tgt t
  let r := Segs.within (t * 4096) (t * 4096 + 4096) s.fc.blocks
  let free := Segs.count (fun (b : Blk) => b.st == 4) (t * 4096) (t * 4096 + 4096) s.fc.blocks
  let mx := (r.filter fun e => e.2.2.st != 7).foldl (fun a e => max a e.2.2.ers) 0
  x.state * 2 ^ 61 + x.cause % 16 * 2 ^ 57 + (s.chan (tgtChan t)).rate % 8 * 2 ^ 54 + s.badOf t % 65536 * 2 ^ 32 + free % 65536 * 2 ^ 16 + mx % 65536
def State.tgtCal (s : State) (t : Nat) : Nat :=
  let x := s.tgt t
  min 0xFFFF ((s.ck.mono - x.calAt) / 3600000000000) * 2 ^ 48 +
    ((List.range 8).map fun i => x.offs.getD i 0 % 16 * 16 ^ i).foldl (· + ·) 0

/-- R192, R193: FC_RSK's STATE: 4 while held. -/
def State.rskState (s : State) : Nat :=
  let st := s.rd F.FC_RSK_STATE
  if st = 2 ∧ (s.phase ≠ phService ∨ s.drainState = 3 ∨ s.spRuns 1 = false) then 4 else st

/-- FC_RSK as a word. -/
def State.rskWord (s : State) : Nat :=
  s.rskState * 2 ^ 61 + s.rd F.FC_RSK_QUEUED * 2 ^ 56 + s.rd F.FC_RSK_TARGET * 2 ^ 46 + s.rd F.FC_RSK_BUNDLE * 2 ^ 24 +
    s.rd F.FC_RSK_PROG * 2 ^ 16 + s.rd F.FC_RSK_RATE

/-- GET_FLASH_TARGET (R183): FC_T_STS and FC_T_CAL of a target. -/
def execGetFlashTarget (v : Via) (t : Nat) (s : State) : Answer :=
  .next (s.mbox v (.getFlashTarget v t) .other false fun a =>
    if 1024 ≤ t then a.reply v .success [5] else a.reply v .success [0, a.tgtStatus t, a.tgtCal t])

/-- R182: a target is idle: no Strand in flight on it, no anchor copy being programmed or read back, no erase, seal or fetch, none suspended. -/
def State.idleTgt (s : State) (t : Nat) : Bool :=
  !s.programsOn t && (s.tgt t).susp.isNone &&
    !((Segs.within (t * 4096) (t * 4096 + 4096) s.fc.blocks).any fun e => [2, 3, 8].contains e.2.2.st) &&
    !(s.rs.fetches.any fun e => s.fetchTarget e.1 == some t)

/-- FLASH_DIAGNOSTIC_READ (R182, R183): a page of an idle target is read raw (mode 0) or decoded (mode 1); `flips` are the bit places of the
page, bytes in order and each from its most significant bit, that read other than programmed. -/
def execFlashDiagnosticRead (v : Via) (t b page mode : Nat) (off : Int) (flips : List Nat) (s : State) : Answer :=
  .next (s.mbox v (.flashDiagnosticRead v t b page mode off flips) .other false fun a =>
    if 1024 ≤ t ∨ blocksPerTarget ≤ b ∨ 1152 ≤ page ∨ 1 < mode ∨ off < -8 ∨ 7 < off then a.reply v .success [5]
    else if (a.tgt t).state = tgAbsent then a.reply v .success [3]
    else if (a.tgt t).state = tgBound ∨ (a.tgt t).state = tgRetired then a.reply v .success [2]
    else if !a.idleTgt t then a.reply v .success [1]
    else if mode = 0 then (a.skipPage (t * 4096 + b) page).reply v .success (0 :: a.pageRead (t * 4096 + b) page flips)
    else if a.pageSpoilt (t * 4096 + b) page then a.reply v .success [4]
    else match decodePage (t * 4096 + b) page (a.pageRead (t * 4096 + b) page flips) with
      | some (content, counts) => a.reply v .success (0 :: (content ++ counts))
      | none => a.reply v .success [4])

/-- RETIRE_TARGET (R183, R190): a target is retired with cause COMMANDED, unless fewer than 32 channels would keep a share of the ceiling. -/
def execRetireTarget (v : Via) (t : Nat) (s : State) : Answer :=
  .next (s.mbox v (.retireTarget v t) .other false fun a =>
    if 1024 ≤ t then a.reply v .success [5]
    else if (a.tgt t).state = tgAbsent then a.reply v .success [3]
    else if (a.tgt t).state = tgBound ∨ (a.tgt t).state = tgRetired then a.reply v .success [2]
    else if a.usable < 32 + (if a.chanShare (tgtChan t) = 0 then 0 else 1) then a.reply v .success [6]
    else (a.retire t 5).reply v .success [0])

/-- GET_RESKEIN_STATUS (R183): FC_RSK and the queued targets. -/
def execGetReskeinStatus (v : Via) (s : State) : Answer :=
  .next (s.mbox v (.getReskeinStatus v) .other false fun a => a.reply v .success (0 :: a.rskWord :: a.fc.queue))

end Sys2Proof.Machine
end

