-- ==== Sys2Proof/Machine/Memory.lean ====
section
/-! DEFINITION. The memory channels: training, link errors, patrol scrub, heals, rank sparing, temperatures and the memory mailbox
commands (R22, R222 to R241). -/

namespace Sys2Proof.Machine

/-! ### Training (R22, R226, R227, R236) -/

/-- R22: host-visible capacity in GiB of the DRAM installed. -/
def visibleGib (installed : Nat) : Nat := installed - ceilDiv installed 384

/-- R236: at a cold bring-up up to four listed rows of a channel are repaired for good; the rest wait. -/
def State.hardRepair (s : State) (c : Nat) : State :=
  let x := s.mch c
  let l := x.rows.take 4
  let t := s.setMch c { x with rows := x.rows.drop 4, pprh := min 255 (x.pprh + l.length) }
  l.foldl (fun (a : State) r => (a.event 0x800A [c, r.1, r.2.2.1, r.2.2.2]).dramEvent 0x800A [c, r.1, r.2.2.1, r.2.2.2]) t

/-- R238: the copy of a rank is over: the spare is in use and the old rank is spared out. -/
def State.spareDone (s : State) (c r : Nat) : State :=
  let x := s.mch c
  let t := s.setMch c { x with spared := natSetBit x.spared r, swap := !x.swap }
  let t := (t.wr F.MC_SPARE_STATE 0).wr F.MC_SPARE_PROG 0
  (State.event { t with mc := { t.mc with spare := none, ptr := 0, ptrCkpt := 0 } } 0x8007 [c, r]).dramEvent 0x8007 [c, r]

/-- R238: the copy that a reset interrupted: it resumes while DRAM is held, and at a cold bring-up the spare is used at once. -/
def State.spareResume (s : State) : State :=
  match s.mc.spare with
  | none => s
  | some (c, r) =>
    if s.pw.dram then ((s.wr F.MC_SPARE_STATE 1).wr F.MC_SPARE_CHAN c).wr F.MC_SPARE_RANK r else s.spareDone c r

/-- MEMORY_TRAINING_COMPLETE (R22, R222, R223, R226, R227, R236, R238): every channel has trained, or one failed at 8,800 MT/s (`rate` none, so
recovery is requested). `cap` is GiB per channel; `good` lists channels whose spared-out rank passes its test. -/
def execMemoryTrainingComplete (rate : Option Nat) (cap ranks : Nat) (good : List Nat) (s : State) : Answer :=
  let t := s.begin
  if t.phase ≠ phBringup ∨ t.mc.trained = true ∨ t.rd F.CK_STS_STATE ≠ 2 ∨ (domsMCG.all fun d => t.dom d == 1) = false then .next t
  else match rate with
    | none => .next ((t.event 0x8001 [0, 0]).enterRecoveryPhase 3)
    | some r =>
      let held := t.pw.dram
      let t := if t.flag F.MC_CFG_SPARE = true ∧ ranks < 2 then (t.event 0x800E [ranks]).wr F.MC_CFG_SPARE 0 else t
      let inst := 24 * (if t.flag F.MC_CFG_SPARE then cap / 2 else cap)
      let t := t.forEach (List.range 24) fun a c =>
        let x := a.mch c
        let a := a.setMch c { x with state := 2, cap := cap, ranks := ranks
                                     spared := if !held && good.contains c then 0 else x.spared }
        if held then a else a.hardRepair c
      let t := ((t.wr F.MC_STAT_RATE (min r (t.rd F.MC_CFG_MAXRATE))).wr F.MC_STAT_UP (2 ^ 24 - 1)).wr F.SHR_CAP_VISIBLE
        (visibleGib inst * 4)
      let t : State := { t with mc := { t.mc with trained := true } }
      .next (t.spareResume.updReady.imageStep)

/-! ### Link errors, scrub, heals (R228, R233, R235) -/

/-- MEMORY_LINK_ERROR (R228): a parity or write CRC error on channel c takes `tries` retries; more than three start a short retrain, which
passes or fails. -/
def execMemoryLinkError (c cause tries : Nat) (retrained : Bool) (s : State) : Answer :=
  let t := s.begin
  let x := t.mch c
  if t.phase ≠ phService ∨ x.state ≠ 2 then .next t
  else
    let x := { x with retry := min 255 (x.retry + min 3 tries) }
    if tries ≤ 3 then .next (t.setMch c x)
    else
      let t := t.event 0x8003 [c, cause]
      if retrained then .next (t.setMch c x)
      else
        let l := t.ck.mono :: x.retrains.filter fun w => decide (t.ck.mono < w + 3600000000000)
        if 2 ≤ l.length then
          let t := (t.setMch c { x with retrains := l, state := 4 }).event 0x8002 [c]
          .next (((t.setBit F.MC_STAT_FAILED c true).setBit F.MC_STAT_UP c false).updReady)
        else .next (t.setMch c { x with retrains := l })

/-- R235, R240: an uncorrectable entry of a structure in the hidden reserve, at a device address: a unit's map or index entry leaves the unit DIRTY
with STAMP 0; a ticket completes ABORTED; a twin-map word sets its 64 units; a restore-map entry makes its unit ABSENT; a structure held twice is read
from its second copy. Event 0x8004 names the structure by its place in that list, 1 to 5 (DESIGN CHOICE, log 195). -/
def State.reserveError (s : State) (dpa : Nat) (e : ReserveError) : State :=
  let c := unitChan (dpa / 4096)
  let x := s.mch c
  let kind := match e with | .unitEntry _ => 1 | .ticket _ _ => 2 | .twinWord _ => 3 | .restoreEntry _ => 4 | .heldTwice => 5
  let t := ((s.setMch c { x with ue := min 0xFFFF (x.ue + 1) }).bump F.MC_ERR_UE).event 0x8004 [dpa, kind]
  let t := t.forEach (t.headsOf none) fun a k => a.cxlEvent k 2 0x8004 [dpa, 0]
  match e with
  | .unitEntry u =>
    match t.shareOf u with
    | some n => if t.counted n then (t.setUnit u { t.unit u with st := 1, stamp := 0 }).settleMr else t
    | none => t
  | .ticket q n =>
    match t.tickets.find? fun k => k.qid == q && k.seq == n && k.outcome.isNone && k.ctx != 0 with
    | some k => t.finish k 3 0 0
    | none => t
  | .twinWord w => { t with tw := { t.tw with mapCur := Segs.fill t.tw.mapCur (w * 64) (w * 64 + 64) true } }
  | .restoreEntry u => if (t.shareOf u).isSome then { t with rs := { t.rs with rmap := Segs.put t.rs.rmap u 1 } } else t
  | .heldTwice => t

/-- PATROL_SCRUB (R233 to R235): a pass over every active line ends; `found` lists the lines in error, `reserve` the structures of the hidden reserve
with an uncorrectable entry, at their device addresses. A period too short for the allowance is stretched. -/
def execPatrolScrub (found : List (Nat × LineError)) (reserve : List (Nat × ReserveError)) (s : State) : Answer :=
  let t := s.begin
  if !t.serving || !t.mc.trained then .next t
  else
    let bytes := 24 * (t.mch 0).cap * 2 ^ 30
    let stretched := decide (6000000000 * 3600 * max 1 (t.rd F.MC_SCRUB_PERIOD) < bytes)
    let t := if stretched && !t.flag F.MC_SCRUB_STRETCH then t.event 0x800D [ceilDiv bytes (6000000000 * 3600)] else t
    let t := (t.wr F.MC_SCRUB_STRETCH (bit01 stretched)).wr F.MC_SCRUB_PROG 0
    let t := found.foldl (fun (a : State) e => a.lineRead e.1 e.2) t
    .next ((reserve.foldl (fun (a : State) e => a.reserveError e.1 e.2) t).bump F.MC_SCRUB_PASSES)

/-- HEAL_COMPLETE (R159, R161, R235, R240): the flash copy of a CLEAN unit with an uncorrectable line is read, with the bits in error, and
rebuilt where it is not intact; `others` are further Strands found not intact, and a copy that fails its checks is not used. -/
def execHealComplete (u : Nat) (flips others : List Nat) (bad : Bool) (s : State) : Answer :=
  let t := s.begin
  if !t.mc.heals.contains u || !t.serving then .next t
  else
    let t : State := { t with mc := { t.mc with heals := t.mc.heals.filter (· != u) } }
    if (t.unit u).st ≠ 0 then .next t
    else match t.slotOf u with
      | none => .next t
      | some (k, i, x) =>
        let (t, held) := t.fetchRead (t.fetchAtOnce u) k (i / 4) flips others
        if held = false ∨ bad = true then .next (t.event 0x8008 [u * 4096])
        else .next (((t.fillUnit u x).bump F.MC_ERR_HEAL).mediaEvent u 1)

/-! ### Rank sparing (R238) -/

/-- RANK_SPARE_COPY_END (R238): the copy has reached the end of the rank. -/
def execRankSpareCopyEnd (s : State) : Answer :=
  let t := s.begin
  if t.rd F.MC_SPARE_STATE = 1 ∧ t.serving = true then .next (t.spareDone (t.rd F.MC_SPARE_CHAN) (t.rd F.MC_SPARE_RANK)) else .next t

/-- SPARE_POINTER_CHECKPOINT (R238): the copy has come to `ptr` bytes, and the pointer is kept in the hidden reserve. -/
def execSparePointerCheckpoint (ptr : Nat) (s : State) : Answer :=
  let t := s.begin
  if t.rd F.MC_SPARE_STATE = 1 ∧ t.serving = true then
    let size := (t.mch (t.rd F.MC_SPARE_CHAN)).cap / 2 * 2 ^ 30
    let p := max t.mc.ptr (min ptr size)
    .next (State.wr { t with mc := { t.mc with ptr := p, ptrCkpt := p } } F.MC_SPARE_PROG (p * 100 / max 1 size))
  else .next t

/-! ### Temperature and mailbox commands (R239, R241) -/

/-- R239: one module's reading in °C; none: its sensor has not answered for 1 s. -/
def State.moduleTemp (s : State) (c : Nat) (r : Option Int) : State :=
  match r with
  | none => s.setMch c { s.mch c with hot := true }
  | some v =>
    let t := s.setMch c { s.mch c with temp := v, hot := decide (85 < v) }
    if 95 < v then t.event 0x800B [c, (v % 256).toNat] else t

/-- MODULE_TEMPERATURE_POLL (R239, R324): the readings of the 24 modules; a segment in FAULT leaves its modules unread. -/
def execModuleTemperaturePoll (temps : List (Option Int)) (s : State) : Answer :=
  let t := s.begin
  if t.serving then
    let t := t.forEach [2, 3, 4] State.busFree
    .next (((List.range 24).zip temps).foldl (fun (a : State) e =>
      a.moduleTemp e.1 (if a.twb.faulted (2 + e.1 / 8) then none else e.2)) t).settleAttn
  else .next t

/-- TRANSLATE_ADDRESS (R225, R241): where a device address lies: channel, rank, subchannel, the hash's bank group, bank, row and column, and the
share or 0xFF. -/
def execTranslateAddress (v : Via) (dpa : Nat) (s : State) : Answer :=
  .next (s.mbox v (.translateAddress v dpa) .memory false fun t =>
    let u := dpa / 4096
    let ca := u / 24 * 4096 + dpa % 4096
    t.reply v .success ([unitChan u, t.unitRank u, lineSub (dpa / 64)] ++ Config.dramHash ca ++ [(t.shareOf u).getD 0xFF]))

/-- SPARE_RANK (R32, R238, R241): a rank is spared, or the command is REFUSED with NOT_ALLOWED or CHANGE_BUSY. -/
def execSpareRank (v : Via) (c r : Nat) (s : State) : Answer :=
  .next (s.mbox v (.spareRank v c r) .memory false fun t =>
    if 24 ≤ c ∨ 2 ≤ r then t.reply v .invalidInput []
    else if t.flag F.MC_CFG_SPARE = false then t.reply v .success [4, 5]
    else if t.rd F.MC_SPARE_STATE ≠ 0 then t.reply v .success [4, 8]
    else if t.spareFree c = false ∨ r ≠ bit01 (t.mch c).swap then t.reply v .success [4, 5]
    else (t.startSpare c r).reply v .success [0, 0])

/-- R243: MC_C_STS, MC_C_ERR and MC_C_ERAS of a channel. -/
def State.chanSts (s : State) (c : Nat) : Nat :=
  let x := s.mch c
  x.state * 2 ^ 61 + (x.temp % 256).toNat * 2 ^ 48 + x.cap % 65536 * 2 ^ 32 + x.ranks % 4 * 2 ^ 30 + x.spared % 4 * 2 ^ 28
def State.chanErr (s : State) (c : Nat) : Nat :=
  let x := s.mch c
  min 0xFFFF x.ce * 2 ^ 48 + min 0xFFFF x.ue * 2 ^ 32 + x.pprs % 65536 * 2 ^ 16 + min 255 x.pprh * 2 ^ 8 + min 255 x.retry
def State.chanEras (s : State) (c : Nat) : Nat :=
  let m := fun i => FMap.get 0 (s.mch c).marks i % 32
  m 3 * 2 ^ 15 + m 2 * 2 ^ 10 + m 1 * 2 ^ 5 + m 0

/-- GET_MEMORY_ERRORS (R241): a channel's status, errors, marks and repaired rows. -/
def execGetMemoryErrors (v : Via) (c : Nat) (s : State) : Answer :=
  .next (s.mbox v (.getMemoryErrors v c) .memory false fun t =>
    if 24 ≤ c then t.reply v .invalidInput []
    else t.reply v .success ([t.chanSts c, t.chanErr c, t.chanEras c] ++
      (t.mch c).rows.flatMap fun r => [r.1, r.2.1, r.2.2.1, r.2.2.2]))

end Sys2Proof.Machine
end

