-- ==== Sys2Proof/Machine/Panel.lean ====
section
/-! DEFINITION. The service panel: button, touch, attention, the removal hold, seating, and the management Ethernet link (R387, R390 to
R399). -/

namespace Sys2Proof.Machine

/-! ### LEDs and GEN words (R390, R399) -/

/-- R390: LED_STAT's pattern, but for locate. -/
def State.ledStat (s : State) : Nat := [0, 2, 1, 3, 4, 0, 5, 2].getD s.phase 0

/-- GEN_PANEL as a word, its LED fields as the LEDs stand: locate alternates LED_STAT and LED_ATTN. -/
def State.panelWord (s : State) : Nat :=
  let r := fun (f : Field) => s.rd f * 2 ^ f.lo
  let loc := s.flag F.GEN_PANEL_LOCATE && s.phase != phOff && s.phase != phDormant
  r F.GEN_PANEL_RMV + r F.GEN_PANEL_LOCATE + (if loc then 7 else s.ledStat) * 2 ^ 58 + (if loc then 7 else s.ledAttn) * 2 ^ 55 +
    s.ledSafe * 2 ^ 52 + r F.GEN_PANEL_PRESSES + r F.GEN_PANEL_TOUCHES

/-- GET_READINESS (R397): GEN_PHASE, GEN_READY, GEN_ADMIT, GEN_ATTN and GEN_PANEL in one reading. -/
def execGetReadiness (v : Via) (s : State) : Answer :=
  .next (s.mbox v (.getReadiness v) .other true fun t =>
    let t := t.settleAttn
    let r := fun (f : Field) => t.rd f * 2 ^ f.lo
    t.reply v .success
      [r F.GEN_PHASE_PHASE + r F.GEN_PHASE_PREV + r F.GEN_PHASE_CAUSE + r F.GEN_PHASE_SINCE, t.rd F.GEN_READY_BITS,
       r F.GEN_ADMIT_ADMITTED + r F.GEN_ADMIT_FIRST + r F.GEN_ADMIT_BLOCK, r F.GEN_ATTN_CAUSE + r F.GEN_ATTN_NEW + r F.GEN_ATTN_SIL,
       t.panelWord])

/-! ### The removal hold (R393, R394) -/

/-- R108, R393: self-tests and pack tests in progress end. -/
def State.stopTests (s : State) : State :=
  let t := (s.trials.filter fun e => e.2.st == 1 || e.2.st == 2).foldl (fun (a : State) e =>
    let a := a.freeTgts e.2.cls e.2.unit
    { a with trials := FMap.put a.trials e.1 { e.2 with st := 5 } }) s
  let t := t.forEach [0, 1] fun a b => if a.rdi F.EN_STS_TSTEP b = 0 then a else a.endTestOrPause b
  t.setWaits

/-- R393: the removal hold begins: SAVING goes out and the Twine ports are held, tests end, credits are withheld. -/
def State.beginHold (s : State) : State :=
  let t := (s.twineSave.stopTests).forEach [0, 1] fun a p =>
    if a.rdi F.TW_PORT_STATE p = 0 then a else (a.wri F.TW_PORT_STATE p 6).wri F.TW_PORT_IDE p 0
  let t : State := { t with pan := { t.pan with holdAt := t.ck.mono, holdFrom := t.residue }, tw := { t.tw with hello := 0 } }
  ((t.wr F.GEN_PANEL_RMV 1).settleMr).updReady

/-- R393: a removal request from a source (0 press, 1 command, 2 register): event 0xF102; accepted in SERVICE and RESTORE. -/
def State.requestHold (s : State) (source : Nat) : State :=
  if s.removing then s
  else
    let t := s.event 0xF102 [source, s.phase, bit01 s.serving]
    if s.serving then t.beginHold else t

/-- R394: the hold ends without a Save for a cause (0 press, 1 command, 2 timeout): event 0xF104; credits return, Twine ports train. -/
def State.releaseHold (s : State) (cause : Nat) : State :=
  if !s.removing then s
  else
    let t := (s.wr F.GEN_PANEL_RMV 0).event 0xF104 [cause]
    let t := t.forEach [0, 1] fun a p => if a.rdi F.TW_PORT_STATE p = 6 then a.wri F.TW_PORT_STATE p 1 else a
    (t.settleMr).updReady

/-- REQUEST_REMOVAL (R393, R397). -/
def execRequestRemoval (v : Via) (s : State) : Answer :=
  .next (s.mbox v (.requestRemoval v) .other false fun t =>
    if t.serving then (t.requestHold 1).reply v .success [] else (t.requestHold 1).reply v .busy [])

/-- REMOVAL_CANCEL (R394, R397): Request Removal with CANCEL. -/
def execRemovalCancel (v : Via) (s : State) : Answer :=
  .next (s.mbox v (.removalCancel v) .other false fun t => (t.releaseHold 1).reply v .success [])

/-- REMOVAL_SAFE (R394): in DRAINING the safe conditions hold: event 0xF103, LED_SAFE on. -/
def execRemovalSafe (s : State) : Answer :=
  let t := s.begin
  if t.rd F.GEN_PANEL_RMV = 1 ∧ t.serving = true ∧ t.removalSafe = true then
    .next ((t.wr F.GEN_PANEL_RMV 2).event 0xF103 [t.pan.holdFrom, t.ck.mono - t.pan.holdAt])
  else .next t

/-- REMOVAL_TIMEOUT (R394): GEN_CFG.RMTO expires in SAFE: the hold ends with attention cause 14. -/
def execRemovalTimeout (s : State) : Answer :=
  let t := s.begin
  if t.rd F.GEN_PANEL_RMV = 2 then .next (((t.releaseHold 2).latchAttn 14).settleAttn) else .next t

/-! ### Button, touch and locate (R391, R392) -/

/-- R387, R391: PD_MGT runs and the panel inputs are sampled. -/
def State.panelOn (s : State) : Bool := s.dom 0 == 1 && s.pan.ready

/-- BUTTON_PRESS_RELEASE (R391): the button is released after a press of so many ms; one shorter than 1 s toggles locate. -/
def execButtonPressRelease (ms : Nat) (s : State) : Answer :=
  let t := s.begin.wr F.GEN_PINS_BTN 1
  let t : State := { t with pan := { t.pan with acted := false } }
  if !t.panelOn then .next t
  else
    let t := t.bump F.GEN_PANEL_PRESSES
    if ms < 1000 then
      let v := 1 - t.rd F.GEN_PANEL_LOCATE
      .next ((t.wr F.GEN_PANEL_LOCATE v).event 0xF101 [v])
    else .next t

/-- BUTTON_HOLD_3S (R391): a press reaches 3 s: a removal request in SERVICE or RESTORE, or the cancellation of one in force; elsewhere
event 0xF102 only. It acts once a press. -/
def execButtonHold3s (s : State) : Answer :=
  let t := s.begin.wr F.GEN_PINS_BTN 0
  if !t.panelOn || t.pan.acted then .next t
  else
    let t : State := { t with pan := { t.pan with acted := true } }
    .next (if t.removing && t.serving then t.releaseHold 0 else t.requestHold 0)

/-- R392: attention is acknowledged: NEW clears; event 0xF105. -/
def State.ackAttn (s : State) : State :=
  let t := s.event 0xF105 [s.rd F.GEN_ATTN_NEW]
  let t : State := { t with pan := { t.pan with latched := t.pan.latched.filter fun b => b != 10 && b != 14 } }
  (t.wr F.GEN_ATTN_NEW 0).settleAttn

/-- R392: attention is silenced: every cause present is set in SIL; event 0xF106. -/
def State.silenceAttn (s : State) : State :=
  let c := s.rd F.GEN_ATTN_CAUSE
  (s.event 0xF106 [c]).wr F.GEN_ATTN_SIL (Nat.lor (s.rd F.GEN_ATTN_SIL) c)

/-- R392: a count lies GEN_CFG.TOUCHTH percent above the baseline. -/
def State.touched (s : State) (base count : Nat) : Bool :=
  decide (base * (100 + max 5 (min 100 (s.rd F.GEN_CFG_TOUCHTH))) ≤ count * 1000000)

/-- R392: the baseline follows a count at 1 % per second, in steps of 10 ms. -/
def touchTrack (base count : Nat) : Nat :=
  let c := count * 10000
  if base ≤ c then min c (base + base / 10000) else max c (base - base / 10000)

/-- TOUCH_MEASURE (R392): one measurement of TOUCH_SNS. Five in a row above the threshold are a touch; at 2 s it silences attention, and one
that ends sooner acknowledges it. -/
def execTouchMeasure (count : Nat) (s : State) : Answer :=
  let t := s.begin
  if !t.panelOn then .next t
  else match t.pan.touchBase with
    | none => .next { t with pan := { t.pan with touchBase := some (count * 10000) } }
    | some base =>
      let t := t.settleAttn
      if t.touched base count then
        let n := t.pan.touch + 1
        let t : State := { t with pan := { t.pan with touch := n } }
        let t := if n = 5 then t.bump F.GEN_PANEL_TOUCHES else t
        .next (if n = 200 then t.silenceAttn else t)
      else
        let n := t.pan.touch
        let t : State := { t with pan := { t.pan with touch := 0, touchBase := some (touchTrack base count) } }
        .next (if 5 ≤ n ∧ n < 200 then t.ackAttn else t)

/-- SET_LOCATE (R397). -/
def execSetLocate (v : Via) (on : Bool) (s : State) : Answer :=
  .next (s.mbox v (.setLocate v on) .other false fun t => (t.wr F.GEN_PANEL_LOCATE (bit01 on)).reply v .success [])

/-! ### Seating and the management link (R387, R395) -/

/-- MODULE_UNSEATED (R395): PRSNT_N rises: event 0xF107, with attention cause 13 when LED_SAFE is dark. -/
def execModuleUnseated (s : State) : Answer :=
  let t := s.begin.wr F.GEN_PINS_PRSNT 1
  if t.phase = phOff ∨ t.phase = phDormant then .next t
  else
    let lit := t.ledSafe
    let t := t.event 0xF107 [lit]
    .next (if lit ≠ 1 then (t.latchAttn 13).settleAttn else t)

/-- MODULE_SEATED (R395): PRSNT_N falls: heads and Twine ports may train. -/
def execModuleSeated (s : State) : Answer :=
  let t := s.begin.wr F.GEN_PINS_PRSNT 0
  if t.phase = phOff ∨ t.phase = phDormant then .next t
  else
    let t : State := { t with pan := { t.pan with latched := t.pan.latched.filter fun b => b != 13 } }
    .next (t.settleAttn.trainLinks)

/-- MGT_ETH_LINK_CHANGE (R387): the management Ethernet link comes up or goes down. -/
def execMgtEthLinkChange (up : Bool) (s : State) : Answer :=
  let t := s.begin
  if t.dom 0 ≠ 1 then .next t else .next (State.updReady { t with pan := { t.pan with ethUp := up } })

end Sys2Proof.Machine
end

