-- ==== Sys2Proof/Machine/Save.lean ====
section
/-! DEFINITION. Power-loss triggers, resets, the Save from its start record to its manifest, Linger, and service input (R17, R111 to R128,
R273, R384, R385, R395). -/

namespace Sys2Proof.Machine

/-! ### Service input, wake and energy (R17, R125, R273) -/

/-- SERVICE_INPUT_VALID (R17, R125, R127, R273): input becomes valid after `ticks` AOSC ticks of sleep: an on request in OFF and DORMANT, a
warm return in LINGER, a record in SAVE with the time from the trigger in µs. In BRINGUP, where a power-up with input absent ended at step 2,
R17 gives no transition: only PW_VIN.OK follows (DESIGN CHOICE, log 200). -/
def execServiceInputValid (ticks : Nat) (s : State) : Answer :=
  let t := s.begin.wr F.PW_VIN_OK 1
  let t : State := { t with pw := { t.pw with cmpA := false, cmpB := false } }
  if t.phase = phOff then .next (t.onRequest 1 ticks)
  else if t.phase = phDormant then .next (t.onRequest (if t.pw.wake then 2 else 4) ticks)
  else if t.phase = phLinger then .next (t.warmReturn ticks)
  else if t.phase = phSave then .next ((t.wr F.SPN_SAVE_PWRBACK 1).event 0x4006 [(t.ck.mono - t.sv.startAt) / 1000])
  else .next t

/-- WAKE_N_FALL (R273, R288): an on request in OFF and DORMANT, latched while input is absent; in standby it wakes the controller. -/
def execWakeNFall (ticks : Nat) (s : State) : Answer :=
  let t := s.begin.wr F.GEN_PINS_WAKE 0
  if t.phase = phOff ∨ t.phase = phDormant then
    if t.flag F.PW_VIN_OK then .next (t.onRequest 2 ticks) else .next { t with pw := { t.pw with wake := true } }
  else if t.phase = phService then .next (t.wakeDeep ticks)
  else .next t

/-- ENERGY_GONE (R17): all energy is gone in DORMANT: OFF. -/
def execEnergyGone (s : State) : Answer :=
  let t := s.begin
  .next (if t.phase = phDormant then t.energyGone else t)

/-! ### Triggers (R111, R112, R395) -/

/-- COMPARATOR_TRIP (R111, R112): comparator A (0) or B (1) trips: service input is absent; a Save in SERVICE and RESTORE, DORMANT in
BRINGUP, a record in SAVE and RECOVERY. -/
def execComparatorTrip (b ticks : Nat) (s : State) : Answer :=
  let t := s.begin.wr F.PW_VIN_OK 0
  let t : State := { t with pw := if b = 0 then { t.pw with cmpA := true } else { t.pw with cmpB := true } }
  .next (t.powerTrigger 1 (if b = 0 then 1 else 2) ticks)

/-- LATCH_OPEN (R111, R395): event 0xF108; a Save with reason LATCH unless LED_SAFE is lit. -/
def execLatchOpen (ticks : Nat) (s : State) : Answer :=
  let t := s.begin.wr F.GEN_PINS_LATCH 1
  if t.phase = phOff ∨ t.phase = phDormant then .next t
  else
    let lit := t.ledSafe
    let t := t.event 0xF108 [lit]
    if lit = 1 ∨ t.phase = phBringup then .next t else .next (t.powerTrigger 2 4 ticks)

/-! ### Resets (R123, R384, R385) -/

/-- RESET_N_ASSERT (R123, R385): RESET_N falls. In BRINGUP the MP is held at ROM start. -/
def execResetNAssert (ticks : Nat) (s : State) : Answer :=
  let t := s.begin.wr F.GEN_PINS_RESET 0
  let t : State := { t with pw := { t.pw with resetLow := true } }
  .next (t.deviceReset 0 ticks)

/-- RESET_N_RELEASE (R385): RESET_N rises: a held on request acts; in BRINGUP and RECOVERY the boot chain runs from ROM start. -/
def execResetNRelease (ticks : Nat) (s : State) : Answer :=
  let t := s.begin.wr F.GEN_PINS_RESET 1
  let t : State := { t with pw := { t.pw with resetLow := false } }
  if (t.phase = phOff ∨ t.phase = phDormant) ∧ t.pw.onHeld = true then .next (t.onRequest t.pw.cause ticks)
  else if t.phase = phBringup ∧ t.mpRuns = false ∧ 2 ≤ t.pw.done then .next ((t.bootChain).powerAdvance 9)
  else .next t

/-- R384: a software reset from a source (0 BAR0, 1 SB, 2 mailbox or MCTP, 3 management port): event 0xF109 and a pulse on RESET_N. -/
def State.softReset (s : State) (source ticks : Nat) : State :=
  if s.phase = phOff ∨ s.phase = phDormant then s else (s.event 0xF109 [source]).deviceReset source ticks

/-- GEN_RST_WRITE (R384, R399): acts only with KEY 0xA5 and DEVRST 1; through SB while TWB_SB.WRMASK enables the GEN block. -/
def execGenRstWrite (sb : Bool) (val ticks : Nat) (s : State) : Answer :=
  let t := s.begin
  if natField val 56 8 = 0xA5 ∧ natBit val 0 = true ∧ (sb = false ∨ natBit (t.rd F.TWB_SB_WRMASK) 0 = true) then
    .next (t.softReset (bit01 sb) ticks)
  else .next t

/-- RESET_DEVICE (R384, R397): Success is returned, then a software reset follows. -/
def execResetDevice (v : Via) (s : State) : Answer :=
  .next (s.mbox v (.resetDevice v) .other false fun t => (t.reply v .success []).softReset 2 0)

/-- RESET_DATAGRAM (R384): acted on only while GEN_CFG.NETRST is 1, with the magic value, zero, and the device serial. -/
def execResetDatagram (payload : List Byte) (s : State) : Answer :=
  let t := s.begin
  let n := joinBytes payload
  if payload.length = 16 ∧ natField n 0 32 = 0x52535444 ∧ natField n 32 32 = 0 ∧ natField n 64 64 = t.rd F.GEN_SERIAL_SERIAL ∧
      t.flag F.GEN_CFG_NETRST = true ∧ t.pan.ethUp = true then .next (t.softReset 3 0)
  else .next t

/-! ### The Save (R114 to R124, R150) -/

/-- R143: the arguments of SAVE_START. -/
def State.saveStartArgs (s : State) : List Nat :=
  [s.rd F.SPN_SAVE_REASON,
   s.rd F.SPN_SAVE_TRIGA * 4 + s.rd F.SPN_SAVE_TRIGB * 2 + s.rd F.SPN_SAVE_TRIGL, s.rd F.SPN_SRES_WEIR, s.rd F.SPN_SRES_RESID,
   s.rd F.SPN_SRATE_START, s.ck.ns]

/-- R114: the save-start record is programmed and streaming begins; below R_CAP the early records go with it (R116). -/
def State.startRecord (s : State) : State :=
  let t := s.journal jSaveStart s.saveStartArgs
  let t := t.commitRecords (t.im.flight.length + 1)
  let t : State := { t with sv := { t.sv with started := true, streamAt := t.ck.mono } }
  if t.sv.rs < t.sv.rcap then t.earlyRecs else t

/-- SAVE_START_RECORD (R114, R389): once ingress has drained and SP1 runs. The Save of a first admission that had not read back writes
nothing and ends; with the core, memory or flash PLL stopped it ends unclosed (R295). -/
def execSaveStartRecord (s : State) : Answer :=
  let t := s.begin
  if t.phase ≠ phSave ∨ t.sv.started = true ∨ t.spRuns 1 = false then .next t
  else if t.sv.empty then .next (t.saveEnd 0)
  else if t.ck.stopped.any (· != 1) then .next t.failSave
  else .next t.startRecord.streamEnd

/-- MANIFEST_CLOSED (R120, R126, R150): the copies of the Save's anchor are read back, each with its bits in error: with a valid one the manifest
is closed and the Save ends; with none four copies are written again. -/
def execManifestClosed (flips : List (List Nat)) (s : State) : Answer :=
  let t := s.begin
  if t.phase ≠ phSave then .next t
  else match t.im.anchorW with
    | none => .next t
    | some a =>
      if a.kind = 1 then .next t
      else
        let (t, n) := t.readBack a flips
        if n = 0 then .next (t.rewriteAnchor a) else .next ((t.standAnchor a n).saveEnd a.result)

/-- SAVE_BUS_WARNING (R120): held for 1 ms during streaming, and after each further 1 ms: R_S × 3/4, no less than R_CAP/16. -/
def execSaveBusWarning (mv : Nat) (s : State) : Answer :=
  let t := (s.begin.wr F.PW_SBUS_SBUS (mv / 10)).wr F.PW_SBUS_WARNIND 1
  if t.phase = phSave ∧ t.sv.started = true ∧ t.sv.closing = false ∧ t.sv.cut = false then
    let rs := max (t.sv.rs * 3 / 4) (t.sv.rcap / 16)
    if rs < t.sv.rs then .next ((t.bump F.SPN_SRATE_DROOP).lowerRate rs t.sv.rcap 4) else .next t
  else .next t

/-- SAVE_BUS_LOW (R120): held for 100 µs during streaming: no new Skein starts and the units not streamed will be listed UNSAVED. -/
def execSaveBusLow (mv : Nat) (s : State) : Answer :=
  let t := ((s.begin.wr F.PW_SBUS_SBUS (mv / 10)).wr F.PW_SBUS_WARNIND 1).wr F.PW_SBUS_LOWIND 1
  if t.phase = phSave ∧ t.sv.started = true ∧ t.sv.closing = false ∧ t.im.anchorW.isNone then
    .next { t with sv := { t.sv with cut := true } }
  else .next t

/-- TRUNCATED_MANIFEST_CLOSE (R120): after save-bus low, once no DATA Skein is in flight, the truncated manifest closes with result 2. -/
def execTruncatedManifestClose (s : State) : Answer :=
  let t := s.begin
  if t.phase = phSave ∧ t.sv.cut = true ∧ t.sv.closing = false ∧ t.im.anchorW.isNone ∧ (t.im.flight.any fun k => k.ty == 1) = false then
    .next (t.closeOut 2)
  else .next t

/-- FORCED_ABORT (R124, R152): RESET_N has been low for 10 s in SAVE: the Skeins in flight listed commit, the others are abandoned, and a
truncated manifest closes with result 3, after one already being closed too. -/
def execForcedAbort (commits : List Nat) (s : State) : Answer :=
  let t := s.begin
  if t.phase ≠ phSave ∨ t.pw.resetLow = false ∨ (t.sv.closing = true ∧ t.sv.result = 3) then .next t
  else if t.sv.empty then .next (t.releaseTargets.rebirth false 0x09)
  else
    let t := if t.sv.started then t else t.startRecord
    let l := t.im.flight.filter fun k => k.ty == 1
    let t := l.foldl (fun a k => if commits.contains k.gen then a.commitData k else a.abandon k) t
    .next (State.closeOut { t with sv := { t.sv with cut := true } } 3)

/-- ENERGY_FAIL (R17, R120): the Save can no longer program. -/
def execEnergyFail (s : State) : Answer :=
  let t := s.begin
  if t.phase = phSave then .next t.failSave else .next t

/-! ### Linger (R126) -/

/-- LINGER_TIMER_EXPIRY (R126): passage to DORMANT begins. -/
def execLingerTimerExpiry (s : State) : Answer :=
  let t := s.begin
  if t.phase = phLinger then .next ((t.event 0x400C [0]).powerDown 0x0A) else .next t

/-- LINGER_ENERGY_LIMIT (R126): E_U lies below E_LIM: passage to DORMANT begins. -/
def execLingerEnergyLimit (s : State) : Answer :=
  let t := s.begin
  if t.phase = phLinger then .next ((t.event 0x400C [1]).powerDown 0x0B) else .next t

end Sys2Proof.Machine
end

