-- ==== Sys2Proof/Machine/Registers.lean ====
section
/-! DEFINITION. Reads and writes of BAR0: what each field reads as at the moment, what a read does, what a write does to the fields its
access and lock permit, and the configuration record (R7, R287, R401 to R406, R409, R413 to R415). -/

namespace Sys2Proof.Machine

/-! ### Fields whose value follows from the rest of the state -/

/-- The sum of powers of two of the numbers below n that pass a test. -/
def bitsOf (n : Nat) (p : Nat → Bool) : Nat := ((List.range n).filter p).foldl (fun a b => a + 2 ^ b) 0

/-- R286, R293: the vote of each domain group, coded as in R285. -/
def State.votes (s : State) : Nat :=
  let sw := fun (l : List Nat) => if l.all fun d => s.dom d == 0 then 4 else 3
  let held := s.phase == phSave || s.phase == phRestore || s.phase == phRecovery || s.phase == phBringup
  let deep := s.rd F.PW_STATE_STBY == 1
  let linger := s.phase == phLinger
  let busy := (s.fc.tgts.any fun e => e.2.state != tgAbsent && !s.idleTgt e.1) || s.trials.any fun e => e.2.st == 2
  let v := if held then [0, 0, 0, 0, 0, 0]
    else if s.phase == phDormant || s.phase == phOff then [4, 4, 4, 4, 4, 4]
    else if linger then [2, 2, sw domsHP, sw domsTW, 2, 4]
    else if deep then [3, 3, sw domsHP, sw domsTW, 3, 4]
    else [0, bit01 s.coreIdle, sw domsHP, sw domsTW, 0, if busy then 0 else 1]
  ((List.range 6).map fun i => v.getD i 0 * 8 ^ i).foldl (· + ·) 0

/-- R34: the progress in percent of a SEAL or a full sync in progress; of another change, as the register holds it. -/
def State.shareProg (s : State) (n : Nat) : Nat :=
  match FMap.find s.sec.sealFrom n, s.sealing n with
  | some m, true => if m = 0 then 100 else (m - s.shDirty n) * 100 / m
  | _, _ =>
    match s.tw.copying with
    | some (c, _) => if c = n ∧ s.shState n = shSyncing then s.scanProg else s.rdi F.SHR_STATUS_PROG n
    | none => s.rdi F.SHR_STATUS_PROG n

/-- R221: units set in either twin map. -/
def State.twinUnits (s : State) : Nat :=
  let on := fun (m : Segs Bool) => ((m.filter fun e => e.2.2).map fun e => e.2.1 - e.1).foldl (· + ·) 0
  let both := ((s.tw.mapPrev.filter fun e => e.2.2).map fun e => Segs.count id e.1 e.2.1 s.tw.mapCur).foldl (· + ·) 0
  on s.tw.mapCur + on s.tw.mapPrev - both

/-- R404, R405: GEN_LOCK: blocks 1, 3, 6, 7 and 8 as latched when they lock; MR, SPN and EN at admission; PW when power-up step 3 begins. -/
def State.locks (s : State) : Nat :=
  bitsOf 16 fun b =>
    if b = 4 ∨ b = 5 ∨ b = 9 then s.flag F.GEN_ADMIT_ADMITTED
    else if b = 10 then decide (3 ≤ s.pw.up) || decide (3 ≤ s.pw.done)
    else natBit (s.rd F.GEN_LOCK_BLOCKS) b

/-- What the SHR, HP and QUE fields read as, seen through head k, where the register file does not hold it. -/
def State.liveHost (s : State) (k : Nat) : List (Field × (Nat → Nat)) :=
  let q := s.rd F.QUE_SEL_QID
  let x := s.queue q
  let losses := (s.reportRecs k 1).length
  let opens := (s.tickets.filter fun t => t.ctx != 0).length
  [(F.SHR_READY_BITS, fun _ => bitsOf 64 s.shOpen), (F.SHR_DEFINED_BITS, fun _ => bitsOf 64 s.shDefined),
   (F.SHR_COUNTED_BITS, fun _ => bitsOf 64 s.counted),
   (F.SHR_CAP_FREE, fun _ => s.rd F.SHR_CAP_VISIBLE -
     (((List.range 64).filter s.shDefined).map fun n => s.rdi F.SHR_SIZE_ADDR n).foldl (· + ·) 0),
   (F.SHR_STATUS_PROG, s.shareProg), (F.SHR_DIRTY_UNITS, s.shDirty),
   (F.HP_SELF_INDEX, fun _ => k), (F.HP_PRESENT_UP, fun _ => bitsOf 16 s.headUp), (F.HP_PRESENT_EN, fun _ => bitsOf 16 s.headExists),
   (F.HP_CRED_OCC, s.waitOf), (F.QUE_TKT_OPEN, fun _ => opens), (F.QUE_TKT_CACHED, fun _ => min opens 32768),
   (F.QUE_RPT_LOSS, fun _ => bit01 (losses != 0)), (F.QUE_RPT_TRUNC, fun _ => bit01 s.report.trunc),
   (F.QUE_RPT_OVF, fun _ => bit01 s.report.ovf), (F.QUE_RPT_SOURCE, fun _ => s.report.source), (F.QUE_RPT_LOSSN, fun _ => losses),
   (F.QUE_Q_CFG_HEAD, fun _ => ((List.range 16).find? fun h => s.ownsQueue h q).getD 0), (F.QUE_Q_CFG_LDPOL, fun _ => bit01 x.ldpol), (F.QUE_Q_CFG_IEN, fun _ => bit01 x.ien),
   (F.QUE_Q_CFG_VEC, fun _ => x.vec), (F.QUE_Q_CFG_AGGT, fun _ => x.aggt), (F.QUE_Q_CFG_AGGC, fun _ => x.aggc),
   (F.QUE_Q_CFG_DEPTHM1, fun _ => x.depth - 1), (F.QUE_Q_STS_STATE, fun _ => x.state), (F.QUE_Q_STS_ERR, fun _ => x.err),
   (F.QUE_Q_STS_OPEN, fun _ => s.openTickets q), (F.QUE_Q_STS_CQT, fun _ => x.cqTail), (F.QUE_Q_STS_SQH, fun _ => x.sqHead),
   (F.QUE_Q_LAST_SEQ, fun _ => x.last), (F.QUE_Q_FRONTH_SEQ, fun _ => x.fronth), (F.QUE_Q_FRONT_SEQ, fun _ => x.front)]

/-- What the MR, SPN, FC, TW, MC and EN fields read as where the register file does not hold it. -/
def State.liveCore (s : State) : List (Field × (Nat → Nat)) :=
  let st := s.tgtStatus (s.rd F.FC_SEL_TGT)
  let cal := s.tgtCal (s.rd F.FC_SEL_TGT)
  let c := min 23 (s.rd F.MC_SEL_CHAN)
  let part := fun (w : Nat) (f : Field) => (f, fun (_ : Nat) => natField w f.lo f.width)
  let stage := s.rd F.SPN_RST_STAGE
  [(F.MR_RESIDUE_UNITS, fun _ => s.residue), (F.MR_BUCKET_TOKENS, fun _ => int64 s.mr.bucket),
   (F.MR_DRAIN_RATE, fun _ => s.drainRate), (F.MR_DRAIN_STATE, fun _ => s.drainState), (F.MR_RELQ_PEND, fun _ => s.walks.length),
   (F.SPN_FLICK_NF, fun _ => s.nF),
   (F.SPN_LINGER_LIMIT, fun _ => if s.rd F.MR_WEIR_BIND = 7 then 0 else min (2 ^ 32 - 1) (s.eLim s.weirBytes)),
   (F.FC_SUSP_UNSUSP, fun _ => s.hardTgts.length), (F.FC_SUSP_ULIM, fun _ => s.hardLimit),
   (F.SPN_RTIME_DATA, fun _ => if stage = 2 ∨ stage = 3 then (s.ck.mono - s.rs.dataAt) / 1000000 else s.rd F.SPN_RTIME_DATA),
   (F.FC_RSK_STATE, fun _ => s.rskState), part st F.FC_T_STS_STATE, part st F.FC_T_STS_CAUSE, part st F.FC_T_STS_CHRATE,
   part st F.FC_T_STS_BAD, part st F.FC_T_STS_FREE, part st F.FC_T_STS_ERSCNT, part cal F.FC_T_CAL_AGE, part cal F.FC_T_CAL_OFFS,
   (F.TW_COPY_PROG, fun _ => s.scanProg), (F.TW_TMAP_UNITS, fun _ => s.twinUnits),
   part (s.chanSts c) F.MC_C_STS_STATE, part (s.chanSts c) F.MC_C_STS_TEMP, part (s.chanSts c) F.MC_C_STS_CAP,
   part (s.chanSts c) F.MC_C_STS_RANKS, part (s.chanSts c) F.MC_C_STS_SPARED, part (s.chanErr c) F.MC_C_ERR_CE,
   part (s.chanErr c) F.MC_C_ERR_UE, part (s.chanErr c) F.MC_C_ERR_PPRS, part (s.chanErr c) F.MC_C_ERR_PPRH,
   part (s.chanErr c) F.MC_C_ERR_RETRY, part (s.chanEras c) F.MC_C_ERAS_R1S1, part (s.chanEras c) F.MC_C_ERAS_R1S0,
   part (s.chanEras c) F.MC_C_ERAS_R0S1, part (s.chanEras c) F.MC_C_ERAS_R0S0,
   (F.EN_SOC_REFAGE, fun b => match (if b = 0 then s.bayA else s.bayB).refAt with
     | some a => min 0x3FFFFF ((s.ck.mono - a) / 60000000000)
     | none => s.rdi F.EN_SOC_REFAGE b)]

/-- What the PW, CK, TWB, EV and GEN fields read as where the register file does not hold it. -/
def State.liveMgt (s : State) : List (Field × (Nat → Nat)) :=
  let loc := s.flag F.GEN_PANEL_LOCATE && s.phase != phOff && s.phase != phDormant
  [(F.PW_VOTE_VOTES, fun _ => s.votes), (F.PW_OP_CAP, fun _ => s.capNow), (F.CK_TRIM_AGE, fun _ => min 0x1FFFFF ((s.ck.mono - s.ck.trimAt) / 60000000000)),
   (F.CK_TIME_NS, fun _ => s.ck.ns), (F.CK_TFRAC_FRAC, fun _ => match s.ck.latch with | some l => l.1 | none => s.rd F.CK_TFRAC_FRAC),
   (F.CK_UNC_UNC, fun _ => match s.ck.latch with | some l => l.2 | none => s.rd F.CK_UNC_UNC), (F.CK_UNC_CLASS, fun _ => s.rateClass),
   (F.CK_CMON_ERR, fun _ => bit01 s.monErr),
   (F.TWB_STS_STATE, fun _ => ((List.range 7).map fun i => FMap.get 0 s.twb.states i % 4 * 4 ^ i).foldl (· + ·) 0),
   (F.EV_STS_PEND, fun _ => s.ev.queue.length), (F.EV_STS_CODES, fun _ => s.ev.sums.length),
   (F.EV_S_WORD, fun i => s.ev.sumWin.getD i 0), (F.EV_L_WORD, fun i => s.ev.entWin.getD i 0),
   (F.GEN_LOCK_BLOCKS, fun _ => s.locks), (F.GEN_PANEL_STAT, fun _ => if loc then 7 else s.ledStat),
   (F.GEN_PANEL_ATTN, fun _ => if loc then 7 else s.ledAttn), (F.GEN_PANEL_SAFE, fun _ => s.ledSafe)]

/-- R7: what the i-th instance of a field reads as, seen through head k. -/
def State.fieldNow (s : State) (k : Nat) (f : Field) (i : Nat) : Nat :=
  match (s.liveHost k ++ s.liveCore ++ s.liveMgt).find? fun e => e.1 == f with
  | some e => e.2 i % 2 ^ f.width
  | none => if f.acc == .wo then 0 else s.rdi f i

/-- R406: the instances of fields that the register at an offset, seen through head k, holds: field, index and lowest bit. -/
def fieldsAt (k off : Nat) : List (Field × Nat × Nat) := allFields.flatMap fun f => (f.spots k off).map fun p => (f, p.1, p.2)

/-- The register at an offset as a word, seen through head k; an unlisted offset reads zero (R401), and so does a register of a head index that does
not exist (R56), and the EV window while the MP restarts (R377). -/
def State.regNow (s : State) (k off : Nat) : Nat :=
  if 0x10100 ≤ off ∧ off < 0x10500 ∧ s.headIndex ((off - 0x10100) / 0x40) = false then 0
  else if off / 0x10000 = 15 ∧ (s.proc 0 = 3 ∨ s.fw.mpDead = true) then 0
  else (fieldsAt k off).foldl (fun a e => a + s.fieldNow k e.1 e.2.1 * 2 ^ e.2.2) 0

/-! ### Reads (R287, R401, R402) -/

/-- The power domain a register lies in. -/
def regDomain (off : Nat) : Nat :=
  let b := off / 0x10000
  if [2, 3, 4, 5, 6, 8].contains b then 1
  else if 0x10100 ≤ off ∧ off < 0x10500 then 2 + (off - 0x10100) / 0x40 % 8
  else if 0x70100 ≤ off ∧ off < 0x70110 then 10 + (off - 0x70100) / 8
  else 0

/-- R287: the register's domain is isolated: off or in retention. -/
def State.isolated (s : State) (off : Nat) : Bool := s.dom (regDomain off) == 0 || s.dom (regDomain off) == 2

/-- R7, R110, R401: the RC fields of a register clear; the highest residue since a read of MR_RESIDUE is at first the residue at that read. -/
def State.clearRc (s : State) (k off : Nat) : State :=
  if off = 0x80110 then
    let c := min 23 (s.rd F.MC_SEL_CHAN)
    s.setMch c { s.mch c with ce := 0, ue := 0, retry := 0 }
  else if off = 0x40008 then s.wr F.MR_RESIDUE_PEAK s.residue
  else (fieldsAt k off).foldl (fun a e => if e.1.acc == .rc then a.wri e.1 e.2.1 0 else a) s

/-- What an answer leaves, with nothing sent. -/
def State.quiet (s : State) (a : Answer) : State :=
  match a with
  | .next t => { t with out := s.out }
  | _ => s

/-- R401: a read of the register at an offset through head k: what it does, and the value. -/
def State.readReg (s : State) (k off : Nat) : State × Nat :=
  if s.isolated off then (s, 0)
  else if off = 0xB0020 then let t := s.quiet (execCkTimeRead s); (t, t.ck.ns % 2 ^ 64)
  else if off = 0xF0100 then let t := s.quiet (execEvS0Read s); (t, if t.evServed then t.ev.sumWin.getD 0 0 else 0)
  else if off = 0xE0040 then
    let t := s.newNonce
    (t.forEach (List.range 4) fun a i => a.wri F.SEC_NONCE_NONCE i (t.nonceWords.getD i 0), t.nonceWords.getD 0 0)
  else
    (s.clearRc k off, s.regNow k off)

/-- R415: consecutive reads in ascending offset. -/
def State.readRegs (s : State) (k off : Nat) : Nat → State × List Nat
  | 0 => (s, [])
  | n + 1 =>
    let (t, v) := s.readReg k off
    let (u, l) := t.readRegs k (off + 8) n
    (u, v :: l)

/-! ### Writes (R7, R401, R404) -/

/-- R404, R405: the i-th instance of an RWL field is locked. -/
def State.lockedNow (s : State) (f : Field) (i : Nat) : Bool :=
  let b := f.off / 0x10000
  if b = 2 then s.flagi F.SHR_CFG_EN i
  else if b = 3 ∧ f.off < 0x30100 then s.flagi F.QUE_ACTL_EN i
  else natBit s.locks b

/-- R404: RWL fields whose writes apply at the next bring-up: the GEN and TWB blocks, HP_PORT_CFG (R56), QUE_ALLOC_k (R86), FC_CFG (R195), TW_CTL
(R221) and MC_CFG (R243). -/
def Field.deferred (f : Field) : Bool :=
  f.acc == .rwl && (f.off < 0x10000 || f.off / 0x10000 == 0xC || [0x10008, 0x30100, 0x60000, 0x70000, 0x80000].contains f.off)

/-- What a write does to one field. -/
def State.writeField (s : State) (f : Field) (i v : Nat) : State :=
  match f.acc with
  | .rw | .wo => s.wri f i (f.limit v)
  | .rwl => if s.lockedNow f i || f.deferred then s else s.wri f i (f.limit v)
  | .w1c => s.wri f i (Nat.land (s.rdi f i) (Nat.xor v (2 ^ f.width - 1)))
  | .w1s => s.wri f i (Nat.lor (s.rdi f i) v)
  | .ro | .rc => s

/-- R414: a register's user value and mask in the configuration record take new masked bits; the record is written, with event 0xD00E. -/
def State.storeConfig (s : State) (off val mask : Nat) (factory : Bool) : State :=
  let old := FMap.get 0 s.norMask off
  let keep := Nat.land (FMap.get 0 s.norVal off) (Nat.xor mask (2 ^ 64 - 1))
  let t : State := { s with
    norMask := FMap.put s.norMask off (if factory then Nat.land old (Nat.xor mask (2 ^ 64 - 1)) else Nat.lor old mask)
    norVal := FMap.put s.norVal off (if factory then keep else Nat.lor keep (Nat.land val mask)) }
  (t.event 0xD00E [off, mask, bit01 factory]).norProgram

/-- The bits of the fields of a register that pass a test. -/
def maskOf (k off : Nat) (p : Field → Nat → Bool) : Nat :=
  (fieldsAt k off).foldl (fun a e => if p e.1 e.2.1 then a + (2 ^ e.1.width - 1) * 2 ^ e.2.2 else a) 0

/-- R401: what a write does to the fields of a register whose access and lock permit it; deferred fields go to the configuration record. -/
def State.writeFields (s : State) (k off val : Nat) : State :=
  let t := (fieldsAt k off).foldl (fun a e => a.writeField e.1 e.2.1 (natField val e.2.2 e.1.width)) s
  let m := maskOf k off fun f i => f.deferred && !s.lockedNow f i
  if m = 0 then t else t.storeConfig off val m false

/-- R360, R361: a write of SEC_AUTH with GO submits the token in SEC_TOKEN. -/
def State.authGo (s : State) (k val : Nat) : State :=
  if !natBit val 63 then s
  else
    let w := fun i => s.rdi F.SEC_TOKEN_WORD i
    s.submitToken (.head k) (natField (w 0) 0 8) (tokenOf w) fun a _ => a

/-- R399: a write of GEN_PANEL: RMV 1 requests removal and 0 cancels it; LOCATE takes its value. -/
def State.panelWrite (s : State) (val : Nat) : State :=
  let t := s.wr F.GEN_PANEL_LOCATE (natField val 61 1)
  if natField val 62 2 = 1 then t.requestHold 2 else if natField val 62 2 = 0 then t.releaseHold 1 else t

/-- R392, R399: a write of GEN_ATTN: NEW bits written 1 are acknowledged, SIL bits written 1 silence causes present. -/
def State.attnWrite (s : State) (val : Nat) : State :=
  let a := Nat.land (natField val 32 16) (s.rd F.GEN_ATTN_NEW)
  let t := if a = 0 then s
    else
      let t := s.event 0xF105 [a]
      let t : State := { t with pan := { t.pan with latched := t.pan.latched.filter fun b => !(natBit a b && (b == 10 || b == 14)) } }
      (t.wr F.GEN_ATTN_NEW (Nat.xor (s.rd F.GEN_ATTN_NEW) a)).settleAttn
  let q := Nat.land (natField val 16 16) (t.rd F.GEN_ATTN_CAUSE)
  if q = 0 then t else (t.event 0xF106 [q]).wr F.GEN_ATTN_SIL (Nat.lor (t.rd F.GEN_ATTN_SIL) q)

/-- What follows a write of a register's fields: residue's marks and Weir limits, the operating point's cap, the PTP port's enable,
and, after a write of EV_SEL, a summary window of which R377 states no value until EV_S_0 is read. -/
def State.afterWrite (old s : State) (off : Nat) : State :=
  if off / 0x10000 = 4 then s.settleMr
  else if off = 0xA0000 then s.recap
  else if off = 0xB0008 ∧ old.rd F.CK_CTL_PTPEN ≠ s.rd F.CK_CTL_PTPEN then
    s.act (execCkPtpWrite (s.rd F.CK_PTP_DOMAIN * 2 ^ 56 + s.rd F.CK_PTP_TRANS * 2 ^ 54 + s.rd F.CK_PTP_DELAY * 2 ^ 53) s)
  else if off = 0xF0010 then { s with ev := { s.ev with sumWin := (s.freeList 32).map (· % 2 ^ 64) }, freeCtr := s.freeCtr + 32 }
  else s.updReady

/-- R401: an 8-byte write of the register at an offset, seen through head k or, with `sb`, through SB. A register whose write is an action
of its own takes that action. -/
def State.writeReg (s : State) (k off val : Nat) (sb : Bool) : State :=
  if s.isolated off then s
  else if off = 0x38 then s.act (execGenRstWrite sb val 0 s)
  else if off = 0x48 then s.panelWrite val
  else if off = 0x50 then s.attnWrite val
  else if 0x10108 ≤ off ∧ off < 0x10508 ∧ (off - 0x10108) % 0x40 = 0 then s.act (execHpCtlRetrain ((off - 0x10108) / 0x40) val s)
  else if 0x20110 ≤ off ∧ off < 0x21110 ∧ (off - 0x20110) % 0x40 = 0 then s.cfgWrite ((off - 0x20110) / 0x40) val
  else if off = 0x30020 then s.act (execQueActlWrite k val s)
  else if off = 0x40018 then s.act (execMrMarksWrite val s)
  else if off = 0xB0038 then s.act (execCkSetWrite val s)
  else if off = 0xB0040 then s.act (execCkPtpWrite val s)
  else if off = 0xB0058 then s.act (execCkCmonWrite val s)
  else if off = 0xD0010 then s.act (execFwCtlRecreq val s)
  else if off = 0xE0018 then s.authGo k val
  else if off = 0xF0018 then s.act (execEvLselWrite val s)
  else s.afterWrite (s.writeFields k off val) off

/-- R401: event 0x1007, at most once per second per head. -/
def State.badAccess (s : State) (h off size : Nat) : State :=
  let x := s.head h
  let due := match x.badAt with | some a => decide (a + 1000000000 ≤ s.ck.mono) | none => true
  if due then (s.setHead h { x with badAt := some s.ck.mono }).event 0x1007 [h, off, size] else s

/-- REGISTER_WRITE (R401): a write through head h of so many bytes at an offset of BAR0, or of BAR2. A BAR0 write of 8 bytes, naturally
aligned, takes effect; any other is discarded. A BAR2 write of 8 bytes to a doorbell, or of 16 bytes to the two inline registers, is that doorbell
write (R63, R65); to any other offset it is discarded, and counted for a queue the head does not own. -/
def execRegisterWrite (h bar off size val : Nat) (s : State) : Answer :=
  let t := s.begin
  if !t.viaOpen (.head h) then .next t
  else if bar = 2 then
    let q := off / 4096
    let r := off % 4096
    if size = 8 ∧ r = 0 then execSqTailWrite h q val s
    else if size = 8 ∧ r = 0x08 then execCqHeadWrite h q val s
    else if size = 8 ∧ r = 0x10 then execInlTagWrite h q val s
    else if size = 8 ∧ r = 0x18 then execInlCmdWrite h q none val s
    else if size = 16 ∧ r = 0x10 then execInlCmdWrite h q (some (val % 2 ^ 64)) (val / 2 ^ 64) s
    else
      let t := if size = 8 ∨ size = 16 then t else t.badAccess h off size
      .next (if t.ownsQueue h q then t else t.foreign h)
  else if bar ≠ 0 then .next t
  else if size ≠ 8 ∨ off % 8 ≠ 0 ∨ 0x100000 ≤ off then .next (t.badAccess h off size)
  else .next (s.whenDrbg (.registerWrite h bar off size val) (t.writeReg h off val false))

/-! ### Mailbox commands (R409, R413 to R415) -/

/-- R9, R403: the factory or constant Reset value of the register at an offset. -/
def State.factoryWord (_s : State) (k off : Nat) : Nat :=
  (fieldsAt k off).foldl (fun a e => a + FMap.get e.1.rst State.reset.regs (e.1.key e.2.1) % 2 ^ e.1.width * 2 ^ e.2.2) 0

/-- R58, R414: the register's value at the next bring-up. -/
def State.nextWord (s : State) (k off : Nat) : Nat :=
  if 0x30100 ≤ off ∧ off < 0x30180 ∧ FMap.get 0 s.norMask off = 0 then
    let h := (off - 0x30100) / 8
    let d := queueDefaultOf (s.norField F.HP_PORT_CFG_BIF (h % 8) 0x10008 (8 * (h % 8) + 6) == 1) h
    d.1 + d.2 * 2 ^ 16
  else
    (fieldsAt k off).foldl (fun a e =>
      a + (if e.1.inRecord then s.norField e.1 e.2.1 off e.2.2 else FMap.get e.1.rst State.reset.regs (e.1.key e.2.1) % 2 ^ e.1.width) *
        2 ^ e.2.2) 0

/-- GET_BOOT_CONFIGURATION (R413): the value in force, the value for the next bring-up, the user mask and the factory value. -/
def execGetBootConfiguration (v : Via) (off : Nat) (s : State) : Answer :=
  .next (s.mbox v (.getBootConfiguration v off) .other true fun t =>
    if (fieldsAt v.idx off).isEmpty then t.reply v .invalidInput []
    else t.reply v .success
      [if t.isolated off then 0 else t.regNow v.idx off, t.nextWord v.idx off, FMap.get 0 t.norMask off, t.factoryWord v.idx off])

/-- SET_BOOT_CONFIGURATION (R414): masked bits of a register go to the configuration record, and RW fields and RWL fields not yet locked
take the new value at once. -/
def execSetBootConfiguration (v : Via) (off val mask : Nat) (factory : Bool) (s : State) : Answer :=
  .next (s.mbox v (.setBootConfiguration v off val mask factory) .other false fun t =>
    let ok := maskOf v.idx off fun f _ => f.inRecord
    if t.phase ≠ phService then t.reply v .busy []
    else if Nat.land mask ok ≠ mask ∨ (bgKey v = 16 ∧ off / 0x10000 = 0xC) then t.reply v .invalidInput []
    else
      let w := Nat.lor (Nat.land (t.regNow v.idx off) (Nat.xor mask (2 ^ 64 - 1))) (Nat.land val mask)
      let u := t.storeConfig off val mask factory
      let u := if factory then u
        else if off = 0x40018 then u.act (execMrMarksWrite w u)
        else if off = 0xB0040 then u.act (execCkPtpWrite w u)
        else (fieldsAt v.idx off).foldl (fun a e =>
          if natField mask e.2.2 e.1.width = 0 ∨ e.1.deferred = true then a else a.writeField e.1 e.2.1 (natField w e.2.2 e.1.width)) u
      (t.afterWrite u off).reply v .success [])

/-- READ_REGISTERS (R415): 1 to 64 consecutive 8-byte reads within one block. -/
def execReadRegisters (v : Via) (off count : Nat) (s : State) : Answer :=
  .next (s.whenDrbg (.readRegisters v off count) (s.mbox v (.readRegisters v off count) .other true fun t =>
    if count = 0 ∨ 64 < count ∨ off % 8 ≠ 0 ∨ 0x100000 ≤ off ∨ off / 0x10000 ≠ (off + 8 * count - 8) / 0x10000 then t.reply v .invalidInput []
    else
      let (u, l) := t.readRegs v.idx off count
      u.reply v .success l))

/-- The UUID of the Command Effects Log (CXL 3.1). -/
def celUuid : Nat := 0x0DA9C0B5BF414B788F7996B1623B3F17

/-- R408, R409, R412: the opcodes the mailbox implements, with their effect flags: 2 immediate configuration change, 4 immediate data change,
8 immediate policy change, 64 background operation. -/
def celEntries : List (Nat × Nat) :=
  [(0x0100, 0), (0x0101, 0), (0x0102, 0), (0x0103, 8), (0x0200, 0), (0x0201, 64), (0x0202, 0), (0x0300, 0), (0x0301, 0), (0x0400, 0),
   (0x0401, 0), (0x4000, 0), (0x4100, 0), (0x4101, 0), (0x4102, 0), (0x4103, 0), (0x4200, 0), (0x4201, 0), (0x4202, 8), (0x4203, 0),
   (0x4204, 0), (0x4300, 0), (0x4301, 0), (0x4302, 4), (0x4303, 0), (0x4304, 64), (0x4305, 0), (0x4400, 64), (0x4401, 64)] ++
  [(0xC000, 0), (0xC001, 0), (0xC002, 0), (0xC003, 0), (0xC005, 0), (0xC006, 0), (0xC007, 0), (0xC010, 2), (0xC011, 0), (0xC060, 0),
   (0xC061, 0), (0xC062, 0), (0xC063, 0), (0xC070, 2), (0xC071, 2), (0xC072, 0), (0xC080, 0), (0xC081, 0), (0xC082, 0), (0xC090, 0),
   (0xC0A0, 0), (0xC0A1, 0), (0xC0B0, 0), (0xC0D0, 0), (0xC0D1, 0), (0xC0D2, 0), (0xC0E0, 0), (0xC0E1, 0), (0xC0E2, 0), (0xC0E3, 0),
   (0xC0E4, 0), (0xC0E5, 0), (0xC0F0, 0), (0xC0F1, 0), (0xC0F2, 0)]

/-- GET_SUPPORTED_LOGS (R409): one log, the Command Effects Log, of 4 bytes for each opcode. -/
def execGetSupportedLogs (v : Via) (s : State) : Answer :=
  .next (s.mbox v (.getSupportedLogs v) .other false fun t => t.reply v .success [1, celUuid, 4 * celEntries.length])

/-- GET_LOG (R409): a part of the Command Effects Log by offset and length in bytes: one word of opcode and effects for each entry. -/
def execGetLog (v : Via) (uuid off len : Nat) (s : State) : Answer :=
  .next (s.mbox v (.getLog v uuid off len) .other false fun t =>
    if uuid ≠ celUuid ∨ 4 * celEntries.length < off + len then t.reply v .invalidInput []
    else
      let b := celEntries.flatMap fun e => [e.1 % 256, e.1 / 256, e.2 % 256, e.2 / 256]
      t.reply v .success ((b.drop off).take len))

end Sys2Proof.Machine
end

