-- ==== Sys2Proof/Machine/TwoWire.lean ====
section
/-! DEFINITION. The two-wire buses: the register window on SB, MCTP, alerts, arbitration, timeouts and recovery (R311 to R327). -/

namespace Sys2Proof.Machine

/-! ### Answers on SB (R325) -/

/-- Bytes answered on SB. -/
def State.sbAnswer (s : State) (l : List Nat) : State := s.send (.bus 0 l)

/-! ### The register window (R312 to R314) -/

/-- R312: the status of the last register or pointer write. -/
def State.sbStatus (s : State) (v : Nat) : State := { s with twb := { s.twb with status := v } }

/-- R312: an offset outside BAR0's sixteen blocks, or misaligned. -/
def sbRange (off : Nat) : Bool := off % 8 != 0 || decide (0x100000 ≤ off)

/-- R312: a transaction whose PEC (0 none, 1 valid, 2 wrong) does not do: it is wrong, or it is missing where it is required. -/
def State.pecBad (s : State) (pec : Nat) (write : Bool) : Bool := pec == 2 || (pec == 0 && write && s.flag F.TWB_SB_PECREQ)

/-- SB_SET_POINTER (R312): command 0x20 sets the register pointer. -/
def execSbSetPointer (off pec : Nat) (s : State) : Answer :=
  let t := s.begin
  if !t.sbOn then .next t
  else if t.pecBad pec false then .next ((t.bump F.TWB_SB_ERR_PECERR).sbStatus 5)
  else if sbRange off then .next (t.sbStatus 4)
  else .next (State.sbStatus { t with twb := { t.twb with ptr := off } } 0)

/-- SB_REG_READ (R312 to R314): command 0x21 reads the register at the pointer, as HP0 would, and the pointer advances; a value that does
not arrive in 2 ms reads BUSY and zero. -/
def execSbRegRead (late : Bool) (s : State) : Answer :=
  let t := s.begin
  if !t.sbOn then .next t
  else if sbRange t.twb.ptr then .next (t.sbAnswer (4 :: List.replicate 8 0))
  else
    let (u, v) := t.readReg 0 t.twb.ptr
    if late || (!t.flag F.SEC_STS_DRBGOK && u.drbgCtr != t.drbgCtr) then .next (t.sbAnswer (1 :: List.replicate 8 0))
    else .next (State.sbAnswer { u with twb := { u.twb with ptr := t.twb.ptr + 8 } } (0 :: wordBytes [v]))

/-- R7, R404: a write can change some field of the register at an offset: none is locked or read-only alone. -/
def State.writable (s : State) (off : Nat) : Bool :=
  (fieldsAt 0 off).any fun e => match e.1.acc with
    | .ro | .rc => false
    | .rwl => !s.lockedNow e.1 e.2.1
    | _ => true

/-- R312: the status of a register write. -/
def State.sbWriteStatus (s : State) (off pec : Nat) : Nat :=
  if s.pecBad pec true then 5
  else if sbRange off then 4
  else if s.phase = phSave ∨ s.phase = phLinger then 3
  else if off / 0x10000 = 12 ∨ natBit (s.rd F.TWB_SB_WRMASK) (off / 0x10000) = false ∨ s.writable off = false then 2
  else 0

/-- SB_REG_WRITE (R312, R313, R345): command 0x22 writes one register once the block, its PEC and STOP have arrived; a write cut short
commits nothing; a refused one is event 0xC007. In RECOVERY a write of FW_CTL with RECREQ 0 ends the recovery. -/
def execSbRegWrite (off val pec : Nat) (stop : Bool) (s : State) : Answer :=
  let t := s.begin
  if !t.sbOn || !stop then .next t
  else
    let st := t.sbWriteStatus off pec
    let t := if st = 5 then t.bump F.TWB_SB_ERR_PECERR else t
    if st ≠ 0 then .next ((t.sbStatus st).event 0xC007 [off, st])
    else
      let u := (t.writeReg 0 off val true).sbStatus 0
      if !t.flag F.SEC_STS_DRBGOK && u.drbgCtr != t.drbgCtr then .next (t.sbStatus 1)
      else if off = 0xD0010 ∧ t.phase = phRecovery ∧ natBit val 47 = false then .next ((u.wr F.FW_CTL_RECREQ 0).rebirth false 0x10)
      else .next u

/-- SB_READ_STATUS (R312): command 0x23. -/
def execSbReadStatus (s : State) : Answer :=
  let t := s.begin
  if t.sbOn then .next (t.sbAnswer [t.twb.status]) else .next t

/-- ALERT_RESPONSE (R311): a read of the Alert Response Address returns the target address, and SB_ALERT_N rises unless another device wins
the arbitration. -/
def execAlertResponse (lost : Bool) (s : State) : Answer :=
  let t := s.begin
  if !t.sbOn || !t.twb.alert || lost then .next t
  else .next (State.sbAnswer { t with twb := { t.twb with alert := false } } [2 * t.rd F.TWB_SB_ADDR])

/-- SB_REPEATED_START (R323): a START in the ninth clock is a repeated start: the byte in progress is discarded. -/
def execSbRepeatedStart (s : State) : Answer :=
  let t := s.begin
  if t.sbOn then .next (t.bump F.TWB_SB_ERR_RSACK) else .next t

/-- SB_TARGET_TIMEOUT (R324): SCL low for 25 ms: the target logic resets and an incomplete write is discarded; event 0xC006. -/
def execSbTargetTimeout (cmd : Nat) (s : State) : Answer :=
  let t := s.begin
  if t.sbOn then .next ((t.bump F.TWB_SB_ERR_TMO).event 0xC006 [cmd]) else .next t

/-! ### MCTP control messages (R315) -/

/-- R315: the MCTP endpoint is served. -/
def State.mctpOn (s : State) : Bool := s.sbOn && s.flag F.TWB_SB_MCTPEN

/-- A control message's answer: command code, completion code, data. -/
def State.control (s : State) (cmd cc : Nat) (l : List Nat) : State := (s.busFree 0).sbAnswer ([0, cmd, cc] ++ l)

/-- SET_ENDPOINT_ID (R315): TWB_SB.EID takes the endpoint ID; event 0xC009. -/
def execSetEndpointId (eid : Nat) (s : State) : Answer :=
  let t := s.begin
  if !t.mctpOn then .next t
  else if eid < 8 ∨ 254 < eid then .next (t.control 1 2 [])
  else .next (((t.wr F.TWB_SB_EID eid).event 0xC009 [eid]).control 1 0 [0, eid, 0])

/-- GET_ENDPOINT_ID (R315). -/
def execGetEndpointId (s : State) : Answer :=
  let t := s.begin
  if t.mctpOn then .next (t.control 2 0 [t.rd F.TWB_SB_EID, 0, 0]) else .next t

/-- GET_ENDPOINT_UUID (R315). -/
def execGetEndpointUuid (s : State) : Answer :=
  let t := s.begin
  if t.mctpOn then .next (t.control 3 0 ((List.range 16).map fun i => natField Config.endpointUuid (8 * (15 - i)) 8)) else .next t

/-- GET_MCTP_VERSION_SUPPORT (R315): the versions of the base specification (0xFF) or of a supported message type. -/
def execGetMctpVersionSupport (ty : Nat) (s : State) : Answer :=
  let t := s.begin
  if !t.mctpOn then .next t
  else if ty ≠ 0xFF ∧ ty ≠ 0 ∧ ty ≠ 8 then .next (t.control 4 0x80 [])
  else .next (t.control 4 0 ((Config.mctpVersions ty).length :: Config.mctpVersions ty))

/-- GET_MESSAGE_TYPE_SUPPORT (R315): types 0x00 and 0x08. -/
def execGetMessageTypeSupport (s : State) : Answer :=
  let t := s.begin
  if t.mctpOn then .next (t.control 5 0 [2, 0x00, 0x08]) else .next t

/-! ### MCTP messages (R315 to R317) -/

/-- A control message: request byte, command code, data; any command but the five returns ERROR_UNSUPPORTED_CMD. -/
def State.runControl (s : State) (l : List Nat) : State :=
  let c := l.getD 1 0
  if c = 1 then s.act (execSetEndpointId (l.getD 3 0) s)
  else if c = 2 then s.act (execGetEndpointId s)
  else if c = 3 then s.act (execGetEndpointUuid s)
  else if c = 4 then s.act (execGetMctpVersionSupport (l.getD 2 0) s)
  else if c = 5 then s.act (execGetMessageTypeSupport s)
  else s.control c 5 []

/-- A number as w bits of two's complement. -/
def signedWord (w v : Nat) : Int := if 2 ^ (w - 1) ≤ v % 2 ^ w then (v % 2 ^ w : Nat) - (2 ^ w : Int) else (v % 2 ^ w : Nat)

/-- The standard commands (R47, R340, R379, R302, R409) over MCTP, by opcode, their inputs as words; none: the opcode is not one of them. -/
def State.runStandard (s : State) (op : Nat) (w : Nat → Nat) (n : Nat) : Option Answer :=
  let v := Via.mctp none
  match op with
  | 0x0100 => some (execGetEventRecords v (w 0) (w 1) s)
  | 0x0101 => some (execClearEventRecords v (w 0) (w 1 == 1) ((List.range (n - 2)).map fun i => w (2 + i)) s)
  | 0x0102 => some (execGetEventInterruptPolicy v s)
  | 0x0103 => some (execSetEventInterruptPolicy v ((List.range n).map w) s)
  | 0x0200 => some (execGetFwInfo v s)
  | 0x0201 =>
    let l := s.freeList 6
    let f := fun i => l.getD i 0
    some (execTransferFw v (w 0) (w 1) (w 2) (w 3) { fail := f 0 % 7, train := f 1, minor := f 2, build := f 3, svn := f 4, layout := f 5 }
      { s with freeCtr := s.freeCtr + 6 })
  | 0x0202 => some (execActivateFw v (w 0 == 0) (w 1) s)
  | 0x0300 => some (execGetTimestamp v s)
  | 0x0301 => some (execSetTimestamp v (w 0) s)
  | 0x0400 => some (execGetSupportedLogs v s)
  | 0x0401 => some (execGetLog v (w 0 + w 1 * 2 ^ 64) (w 2) (w 3) s)
  | 0x4000 => some (execIdentifyMemoryDevice v s)
  | 0x4100 => some (execGetPartitionInfo v s)
  | 0x4101 => some (execSetPartitionInfo v s)
  | 0x4102 => some (execGetLsa v (w 0) (w 1) s)
  | 0x4103 => some (execSetLsa v (w 0) [] s)
  | 0x4200 => some (execGetHealthInfo v s)
  | 0x4201 => some (execGetAlertConfiguration v s)
  | 0x4202 => some (execSetAlertConfiguration v (w 0) (w 1) (w 2) s)
  | 0x4203 => some (execGetShutdownState v s)
  | 0x4204 => some (execSetShutdownState v (w 0 == 1) s)
  | 0x4300 => some (execGetPoisonList v (w 0) (w 1) (w 2) s)
  | 0x4301 => some (execInjectPoison v (w 0) s)
  | 0x4302 => some (execClearPoison v (w 0) 0 s)
  | 0x4303 => some (execGetScanMediaCapabilities v (w 0) (w 1) s)
  | 0x4304 => some (execScanMedia v (w 0) (w 1) s)
  | 0x4305 => some (execGetScanMediaResults v s)
  | 0x4400 => some (execSanitize v s)
  | 0x4401 => some (execSecureErase v s)
  | _ => none

/-- R360: the token whose 20 words a message carries, submitted to Authorize. -/
def State.runToken (s : State) (v : Via) (w : Nat → Nat) : Answer :=
  let k := tokenOf w
  .next (s.begin.authorize v (.clearRecorder v k) (w 0 % 256) k)

/-- The Wimas commands (R412) over MCTP, by opcode, their inputs as words, with the output offset given (R317). -/
def State.runWimas (s : State) (v : Via) (op : Nat) (w : Nat → Nat) : Option Answer :=
  let wide := fun n => ((List.range n).map fun i => w (i + 1) * 2 ^ (64 * i)).foldl (· + ·) 0
  match op with
  | 0xC000 => some (execGetReadiness v s)
  | 0xC001 => some (execResetDevice v s)
  | 0xC002 => some (if natBit (w 0) 0 then execRemovalCancel v s else execRequestRemoval v s)
  | 0xC003 => some (execSetLocate v (w 0 == 1) s)
  | 0xC005 => some (execGetBootConfiguration v (w 0) s)
  | 0xC006 => some (execSetBootConfiguration v (w 0) (w 1) (w 2) (natBit (w 3) 0) s)
  | 0xC007 => some (execReadRegisters v (w 0) (w 1) s)
  | 0xC010 => some (execHeadRetrain v (w 0) (w 1) s)
  | 0xC011 => some (execGetHeadCounters v s)
  | 0xC060 => some (execGetFlashTarget v (w 0) s)
  | 0xC061 =>
    let n := s.freeVal % 149249
    some (execFlashDiagnosticRead v (w 0) (w 1) (w 2) (w 3) (signedWord 64 (w 4)) (s.skipFree.freeList n)
      { s with freeCtr := s.freeCtr + 1 + n })
  | 0xC062 => some (execRetireTarget v (w 0) s)
  | 0xC063 => some (execGetReskeinStatus v s)
  | 0xC070 => some (execDesignateReplica v (w 0) (w 1) (w 2) s)
  | 0xC071 => some (execResumeShare v (w 0) (natBit (w 1) 0) s)
  | 0xC072 => some (execGetTwineStatus v s)
  | 0xC080 => some (execTranslateAddress v (w 0) s)
  | 0xC081 => some (execSpareRank v (w 0) (w 1) s)
  | 0xC082 => some (execGetMemoryErrors v (w 0) s)
  | 0xC090 => some (execGetPackProfile v (w 0) s)
  | 0xC0A0 => some (execGetSnapshot v (w 0) s)
  | 0xC0A1 => some (execReadRails v s)
  | 0xC0B0 => some (execGetTimeStatus v s)
  | 0xC0D0 => some (execGetBootStatus v s)
  | 0xC0D1 => some (execRequestRecovery v s)
  | 0xC0D2 => some (execConfirmFirmware v s)
  | 0xC0E0 => some (execLoadKeyShare v (w 0) (wide 4) s)
  | 0xC0E1 => some (execClearKeyShare v (w 0) s)
  | 0xC0E2 => some (execGetNonce v s)
  | 0xC0E3 => some (s.runToken v w)
  | 0xC0E4 => some (execEnrolOwner v (((List.range 12).map fun i => w i * 2 ^ (64 * i)).foldl (· + ·) 0) s)
  | 0xC0E5 => some (execGetSecurityStatus v s)
  | 0xC0F0 => some (execGetEventLayout v (w 0) s)
  | 0xC0F1 => some (execGetEventSummary v (w 0) s)
  | 0xC0F2 => some (execGetEventEntries v (w 0) (w 1) s)
  | _ => none

/-- R315, R316: a CXL command message: a 12-byte header with the opcode in bytes 3 and 4, then the inputs as 8-byte words; a Wimas command
may end with its 4-byte output offset. An opcode not listed returns Unsupported (R408). -/
def State.runCommand (s : State) (l : List Nat) : State :=
  let op := l.getD 3 0 + 256 * l.getD 4 0
  let p := l.drop 12
  let num := fun (b : List Nat) => b.foldr (fun x a => x + 256 * a) 0
  let w := fun i => num ((p.drop (8 * i)).take 8)
  let v := if p.length % 8 = 4 then Via.mctp (some (num (p.drop (p.length - 4)))) else Via.mctp none
  let t := s.busFree 0
  match t.runStandard op w (p.length / 8) with
  | some a => t.act a
  | none => match t.runWimas v op w with
    | some a => t.act a
    | none => t.reply (.mctp none) .unsupported []

/-- R315: an assembled message: type 0x00 control, type 0x08 a CXL command; the latter only once the endpoint ID is assigned. -/
def State.runMessage (s : State) (l : List Nat) : State :=
  if l.headD 0 = 0 then s.runControl l.tail
  else if l.headD 0 = 8 ∧ s.rd F.TWB_SB_EID ≠ 0 then s.runCommand l.tail
  else s

/-- MCTP_PACKET (R312, R315): a packet of at most 64 bytes with a valid PEC joins the message of its source and tag; its last packet
dispatches the message. A message of more than 8 KiB, or one whose packets do not follow, is discarded with event 0xC008. -/
def execMctpPacket (dst src seq tag : Nat) (som eom pec : Bool) (body : List Byte) (s : State) : Answer :=
  let t := s.begin
  if !t.mctpOn then .next t
  else if !pec then .next (t.bump F.TWB_SB_ERR_PECERR)
  else if 64 < body.length ∨ (dst ≠ 0 ∧ dst ≠ t.rd F.TWB_SB_EID) then .next t
  else
    let drop := fun (a : State) (cause : Nat) => State.event { a with twb := { a.twb with asm := none } } 0xC008 [src, cause]
    let next := if som then some { src := src, tag := tag, seq := (seq + 1) % 4, bytes := body : Assembly }
      else match t.twb.asm with
        | some a => if a.src = src ∧ a.tag = tag ∧ a.seq = seq % 4 then some { a with seq := (seq + 1) % 4, bytes := a.bytes ++ body } else none
        | none => none
    match next with
    | none => .next (drop t 2)
    | some a =>
      if 8192 < a.bytes.length then .next (drop t 1)
      else if eom then .next (State.runMessage { t with twb := { t.twb with asm := none } } (a.bytes.map BitVec.toNat))
      else .next { t with twb := { t.twb with asm := some a } }

/-! ### Arbitration (R320 to R322) -/

/-- The transaction in trouble on an interface. -/
def State.busTx (s : State) (i target : Nat) : BusTx := (FMap.find s.twb.txs i).getD { target := target }

/-- A transaction in trouble is kept, and its interface stays BUSY. -/
def State.keepTx (s : State) (i : Nat) (x : BusTx) : State :=
  State.setBus { s with twb := { s.twb with txs := FMap.put s.twb.txs i x } } i 1

/-- R320, R358: the backoff: the bus-free time and 0 µs to 63 µs from the DRBG; while the DRBG is stopped the draw waits at most 1 s. -/
def State.backoff (s : State) (i : Nat) (x : BusTx) : State :=
  if s.flag F.SEC_STS_DRBGOK then s.skipDrbg.keepTx i { x with wait := 1, due := s.ck.mono + s.drbgVal % 64 * 1000 }
  else s.keepTx i { x with wait := 2, due := s.ck.mono + 1000000000 }

/-- R321: SB, and LB segment 0 with MULTI, have more than one controller. -/
def State.multi (s : State) (i : Nat) : Bool := i == 0 || (i == 1 && s.flag F.TWB_LB_MULTI)

/-- ARBITRATION_LOSS (R320 to R322): the CR9416 as controller of interface i loses arbitration, in a STOP or repeated start or elsewhere.
The loss counts; after eight in a row, or in the retry after ARB_SR, the transaction fails; otherwise it backs off. -/
def execArbitrationLoss (i target : Nat) (stop : Bool) (s : State) : Answer :=
  let t := s.begin
  if !t.busOn || 7 ≤ i || 2 ≤ FMap.get 0 t.twb.states i then .next t
  else
    let x := t.busTx i target
    let t := if i = 0 then t.bump F.TWB_SB_ERR_ARBL else if i < 5 then t.bump F.TWB_LB_ERR_ARBL else t
    let x := { x with losses := x.losses + 1 }
    if x.sr then .next (t.busFree i)
    else if stop && t.multi i then
      let t := if i = 1 then t.bump F.TWB_LB_ERR_ARBSR else t
      .next (((t.event 0xC004 [i, t.freeVal]).skipFree).backoff i { x with sr := true })
    else if x.losses = 8 then .next ((t.busFree i).event 0xC005 [i, target])
    else .next (t.backoff i x)

/-- ARBITRATION_BACKOFF_EXPIRY (R320, R358): the backoff is over and the transaction restarts from its START. -/
def execArbitrationBackoffExpiry (i : Nat) (s : State) : Answer :=
  let t := s.begin
  if !t.busOn then .next t
  else match FMap.find t.twb.txs i with
    | none => .next t
    | some x =>
      if x.wait = 2 ∧ t.flag F.SEC_STS_DRBGOK = true then .next (t.backoff i x)
      else if x.wait ≠ 0 ∧ x.due ≤ t.ck.mono then .next (t.keepTx i { x with wait := 0 })
      else .next t

/-! ### Bus faults (R318, R324) -/

/-- CONTROLLER_TIMEOUT (R318, R324): a low period reaches 35 ms: the transaction fails with cause TIMEOUT, event 0xC003; the interface
recovers when SDA is held low. -/
def execControllerTimeout (i target : Nat) (sdaLow : Bool) (s : State) : Answer :=
  let t := s.begin
  if !t.busOn || 7 ≤ i || 2 ≤ FMap.get 0 t.twb.states i then .next t
  else
    let t := if i = 0 then t else if i < 5 then t.bump F.TWB_LB_ERR_TMO else t.bump F.TWB_EB_TMO
    let t := (t.busFree i).event 0xC003 [i, target]
    .next (if sdaLow then t.setBus i 2 else t)

/-- NACK_RETRY (R324): an address is not acknowledged: the transaction is retried after 1 ms up to TWB_LB.RETRY times, then it fails with
cause NACK. -/
def execNackRetry (i target : Nat) (s : State) : Answer :=
  let t := s.begin
  if !t.busOn || 7 ≤ i || 2 ≤ FMap.get 0 t.twb.states i then .next t
  else
    let x := t.busTx i target
    if x.sr || t.rd F.TWB_LB_RETRY ≤ x.nacks then
      let t := if i = 0 then t else if i < 5 then t.bump F.TWB_LB_ERR_NACK else t.bump F.TWB_EB_NACK
      .next (t.busFree i)
    else .next (t.keepTx i { x with nacks := x.nacks + 1, losses := 0, wait := 0 })

/-- SDA_STUCK (R324): SDA low for 35 ms with no transaction in progress: recovery pulses begin. -/
def execSdaStuck (i : Nat) (s : State) : Answer :=
  let t := s.begin
  if t.busOn && i < 7 && FMap.get 0 t.twb.states i == 0 then
    .next (State.setBus { t with twb := { t.twb with tries := FMap.put t.twb.tries i 0 } } i 2)
  else .next t

/-- BUS_RECOVERY_RETRY (R324): an attempt of up to 9 pulses ends, with SDA high after so many or still low. Three that fail enter FAULT with
event 0xC001; one that succeeds is event 0xC002. -/
def execBusRecoveryRetry (i : Nat) (pulses : Option Nat) (s : State) : Answer :=
  let t := s.begin
  let st := FMap.get 0 t.twb.states i
  if !t.busOn || 7 ≤ i || st < 2 then .next t
  else match pulses with
    | some p =>
      let t : State := { t with twb := { t.twb with tries := FMap.del t.twb.tries i } }
      .next ((((t.setBus i 0).bump F.TWB_STS_RECOV).event 0xC002 [i, p]).updReady)
    | none =>
      let n := FMap.get 0 t.twb.tries i + 1
      let t : State := { t with twb := { t.twb with tries := FMap.put t.twb.tries i n } }
      if st = 2 ∧ 3 ≤ n then .next (((t.setBus i 3).event 0xC001 [i]).updReady) else .next t

/-- ALARM_WARNING_RECEIVED (R325): a pack writes AlarmWarning to address 0x10 on EBA (5) or EBB (6): acknowledged, discarded and counted. -/
def execAlarmWarningReceived (i : Nat) (s : State) : Answer :=
  let t := s.begin
  if t.busOn && (i == 5 || i == 6) then .next (t.bump F.TWB_EB_ALERTS) else .next t

end Sys2Proof.Machine
end

