-- ==== Sys2Proof/Machine/Dispatch.lean ====
section
/-! DEFINITION. The dispatch of every command to its meaning: one arm per constructor of Instr, in the order of the opcode table. -/

namespace Sys2Proof.Machine

/-- The effect of one command on everything but the queue. -/
def exec (i : Instr) (s : State) : Host.Outcome State Fault Refusal :=
  match i with
  | .serviceInputValid ticks => Sys2Proof.Machine.execServiceInputValid ticks s
  | .wakeNFall ticks => Sys2Proof.Machine.execWakeNFall ticks s
  | .energyGone => Sys2Proof.Machine.execEnergyGone s
  | .comparatorTrip b ticks => Sys2Proof.Machine.execComparatorTrip b ticks s
  | .latchOpen ticks => Sys2Proof.Machine.execLatchOpen ticks s
  | .resetNAssert ticks => Sys2Proof.Machine.execResetNAssert ticks s
  | .resetNRelease ticks => Sys2Proof.Machine.execResetNRelease ticks s
  | .genRstWrite sb val ticks => Sys2Proof.Machine.execGenRstWrite sb val ticks s
  | .resetDevice v => Sys2Proof.Machine.execResetDevice v s
  | .resetDatagram payload => Sys2Proof.Machine.execResetDatagram payload s
  | .forcedAbort commits => Sys2Proof.Machine.execForcedAbort commits s
  | .saveStartRecord => Sys2Proof.Machine.execSaveStartRecord s
  | .manifestClosed flips => Sys2Proof.Machine.execManifestClosed flips s
  | .saveBusWarning mv => Sys2Proof.Machine.execSaveBusWarning mv s
  | .saveBusLow mv => Sys2Proof.Machine.execSaveBusLow mv s
  | .truncatedManifestClose => Sys2Proof.Machine.execTruncatedManifestClose s
  | .energyFail => Sys2Proof.Machine.execEnergyFail s
  | .lingerTimerExpiry => Sys2Proof.Machine.execLingerTimerExpiry s
  | .lingerEnergyLimit => Sys2Proof.Machine.execLingerEnergyLimit s
  | .railPowerGood slot mv => Sys2Proof.Machine.execRailPowerGood slot mv s
  | .railFault slot kind => Sys2Proof.Machine.execRailFault slot kind s
  | .railWarning slot kind reading => Sys2Proof.Machine.execRailWarning slot kind reading s
  | .offWaitExpiry ticks => Sys2Proof.Machine.execOffWaitExpiry ticks s
  | .pmbusStatusPoll status tele => Sys2Proof.Machine.execPmbusStatusPoll status tele s
  | .lbAlert slot status => Sys2Proof.Machine.execLbAlert slot status s
  | .holdupMeasurement tm packHigh => Sys2Proof.Machine.execHoldupMeasurement tm packHigh s
  | .standbyEntry => Sys2Proof.Machine.execStandbyEntry s
  | .opChangeComplete mv => Sys2Proof.Machine.execOpChangeComplete mv s
  | .temperatureSample readings => Sys2Proof.Machine.execTemperatureSample readings s
  | .getSnapshot v idx => Sys2Proof.Machine.execGetSnapshot v idx s
  | .readRails v => Sys2Proof.Machine.execReadRails v s
  | .lockstepMismatch pc => Sys2Proof.Machine.execLockstepMismatch pc s
  | .spWatchdogExpiry n => Sys2Proof.Machine.execSpWatchdogExpiry n s
  | .mpWatchdogExpiry => Sys2Proof.Machine.execMpWatchdogExpiry s
  | .sramUncorrectable p => Sys2Proof.Machine.execSramUncorrectable p s
  | .executeFault p addr => Sys2Proof.Machine.execExecuteFault p addr s
  | .spReloadComplete n storeOk => Sys2Proof.Machine.execSpReloadComplete n storeOk s
  | .mpRestartComplete => Sys2Proof.Machine.execMpRestartComplete s
  | .trialConfirmTimeout => Sys2Proof.Machine.execTrialConfirmTimeout s
  | .clockCheckRetry ref => Sys2Proof.Machine.execClockCheckRetry ref s
  | .boscStartCheckPass lfo => Sys2Proof.Machine.execBoscStartCheckPass lfo s
  | .boscMonitorTrip test => Sys2Proof.Machine.execBoscMonitorTrip test s
  | .refclkMonitorTrip test => Sys2Proof.Machine.execRefclkMonitorTrip test s
  | .refclkReturn => Sys2Proof.Machine.execRefclkReturn s
  | .boscReturn => Sys2Proof.Machine.execBoscReturn s
  | .pllLockLoss p => Sys2Proof.Machine.execPllLockLoss p s
  | .lfoMonitorTrip => Sys2Proof.Machine.execLfoMonitorTrip s
  | .aoscMonitorTrip => Sys2Proof.Machine.execAoscMonitorTrip s
  | .ptpSync off freq logInt ticks => Sys2Proof.Machine.execPtpSync off freq logInt ticks s
  | .ptpAnnounce id rank utcOff => Sys2Proof.Machine.execPtpAnnounce id rank utcOff s
  | .announceTimeout => Sys2Proof.Machine.execAnnounceTimeout s
  | .ptmRequest enabled freq => Sys2Proof.Machine.execPtmRequest enabled freq s
  | .compatibilityTrim spread change period => Sys2Proof.Machine.execCompatibilityTrim spread change period s
  | .lfoTrim trim => Sys2Proof.Machine.execLfoTrim trim s
  | .ckSetWrite utc => Sys2Proof.Machine.execCkSetWrite utc s
  | .ckTimeRead => Sys2Proof.Machine.execCkTimeRead s
  | .ckPtpWrite val => Sys2Proof.Machine.execCkPtpWrite val s
  | .ckCmonWrite val => Sys2Proof.Machine.execCkCmonWrite val s
  | .ppsPulse => Sys2Proof.Machine.execPpsPulse s
  | .alarmFired ticks => Sys2Proof.Machine.execAlarmFired ticks s
  | .getTimeStatus v => Sys2Proof.Machine.execGetTimeStatus v s
  | .hostWrite h hpa data be poison => Sys2Proof.Machine.execHostWrite h hpa data be poison s
  | .hostRead h hpa wait err => Sys2Proof.Machine.execHostRead h hpa wait err s
  | .headLinkUp h width rate flit256 => Sys2Proof.Machine.execHeadLinkUp h width rate flit256 s
  | .linkRecovery h replays enters => Sys2Proof.Machine.execLinkRecovery h replays enters s
  | .linkDownTimeout h => Sys2Proof.Machine.execLinkDownTimeout h s
  | .surpriseLinkDown h => Sys2Proof.Machine.execSurpriseLinkDown h s
  | .ideIntegrityFailure h => Sys2Proof.Machine.execIdeIntegrityFailure h s
  | .viral h => Sys2Proof.Machine.execViral h s
  | .hpPerstAssert h => Sys2Proof.Machine.execHpPerstAssert h s
  | .hpPerstRelease h => Sys2Proof.Machine.execHpPerstRelease h s
  | .headFlr h => Sys2Proof.Machine.execHeadFlr h s
  | .gpfPhase1 h => Sys2Proof.Machine.execGpfPhase1 h s
  | .gpfPhase2 h => Sys2Proof.Machine.execGpfPhase2 h s
  | .identifyMemoryDevice v => Sys2Proof.Machine.execIdentifyMemoryDevice v s
  | .getPartitionInfo v => Sys2Proof.Machine.execGetPartitionInfo v s
  | .setPartitionInfo v => Sys2Proof.Machine.execSetPartitionInfo v s
  | .getLsa v off len => Sys2Proof.Machine.execGetLsa v off len s
  | .setLsa v off data => Sys2Proof.Machine.execSetLsa v off data s
  | .getHealthInfo v => Sys2Proof.Machine.execGetHealthInfo v s
  | .getAlertConfiguration v => Sys2Proof.Machine.execGetAlertConfiguration v s
  | .setAlertConfiguration v life tempHigh tempLow => Sys2Proof.Machine.execSetAlertConfiguration v life tempHigh tempLow s
  | .getShutdownState v => Sys2Proof.Machine.execGetShutdownState v s
  | .setShutdownState v dirty => Sys2Proof.Machine.execSetShutdownState v dirty s
  | .getPoisonList v dpa len max => Sys2Proof.Machine.execGetPoisonList v dpa len max s
  | .injectPoison v dpa => Sys2Proof.Machine.execInjectPoison v dpa s
  | .clearPoison v dpa data => Sys2Proof.Machine.execClearPoison v dpa data s
  | .getScanMediaCapabilities v dpa len => Sys2Proof.Machine.execGetScanMediaCapabilities v dpa len s
  | .scanMedia v dpa len => Sys2Proof.Machine.execScanMedia v dpa len s
  | .getScanMediaResults v => Sys2Proof.Machine.execGetScanMediaResults v s
  | .sanitize v => Sys2Proof.Machine.execSanitize v s
  | .secureErase v => Sys2Proof.Machine.execSecureErase v s
  | .headRetrain v h rate => Sys2Proof.Machine.execHeadRetrain v h rate s
  | .hpCtlRetrain h val => Sys2Proof.Machine.execHpCtlRetrain h val s
  | .getHeadCounters v => Sys2Proof.Machine.execGetHeadCounters v s
  | .getEventRecords v log max => Sys2Proof.Machine.execGetEventRecords v log max s
  | .clearEventRecords v log all handles => Sys2Proof.Machine.execClearEventRecords v log all handles s
  | .getEventInterruptPolicy v => Sys2Proof.Machine.execGetEventInterruptPolicy v s
  | .setEventInterruptPolicy v settings => Sys2Proof.Machine.execSetEventInterruptPolicy v settings s
  | .getFwInfo v => Sys2Proof.Machine.execGetFwInfo v s
  | .transferFw v action slot off len hdr => Sys2Proof.Machine.execTransferFw v action slot off len hdr s
  | .activateFw v online slot => Sys2Proof.Machine.execActivateFw v online slot s
  | .getTimestamp v => Sys2Proof.Machine.execGetTimestamp v s
  | .setTimestamp v utc => Sys2Proof.Machine.execSetTimestamp v utc s
  | .getSupportedLogs v => Sys2Proof.Machine.execGetSupportedLogs v s
  | .getLog v uuid off len => Sys2Proof.Machine.execGetLog v uuid off len s
  | .sqTailWrite h q val => Sys2Proof.Machine.execSqTailWrite h q val s
  | .cqHeadWrite h q val => Sys2Proof.Machine.execCqHeadWrite h q val s
  | .inlTagWrite h q val => Sys2Proof.Machine.execInlTagWrite h q val s
  | .inlCmdWrite h q tag val => Sys2Proof.Machine.execInlCmdWrite h q tag val s
  | .inlineCommitRelease q => Sys2Proof.Machine.execInlineCommitRelease q s
  | .descriptorFetch q ds fail => Sys2Proof.Machine.execDescriptorFetch q ds fail s
  | .queActlWrite h val => Sys2Proof.Machine.execQueActlWrite h val s
  | .interruptAggregationTimeout q => Sys2Proof.Machine.execInterruptAggregationTimeout q s
  | .commit q tag share level off len u => Sys2Proof.Machine.execCommit q tag share level off len u s
  | .fence q tag b u => Sys2Proof.Machine.execFence q tag b u s
  | .release q tag share off len u => Sys2Proof.Machine.execRelease q tag share off len u s
  | .releaseCapture q seq => Sys2Proof.Machine.execReleaseCapture q seq s
  | .releaseWalkEnd r => Sys2Proof.Machine.execReleaseWalkEnd r s
  | .probe q tag share off len u => Sys2Proof.Machine.execProbe q tag share off len u s
  | .queueCreate h tag qid sqb cqb cfg => Sys2Proof.Machine.execQueueCreate h tag qid sqb cqb cfg s
  | .queueDelete h tag qid => Sys2Proof.Machine.execQueueDelete h tag qid s
  | .reportRead h tag kind first buf len => Sys2Proof.Machine.execReportRead h tag kind first buf len s
  | .shareCreate h tag n base size cfg grants peer => Sys2Proof.Machine.execShareCreate h tag n base size cfg grants peer s
  | .shareMode h tag n target peer => Sys2Proof.Machine.execShareMode h tag n target peer s
  | .fullSyncCommit n => Sys2Proof.Machine.execFullSyncCommit n s
  | .promote h tag n => Sys2Proof.Machine.execPromote h tag n s
  | .shareSeal h tag n owner => Sys2Proof.Machine.execShareSeal h tag n owner s
  | .sealCommit n => Sys2Proof.Machine.execSealCommit n s
  | .shareUnseal h tag n slot => Sys2Proof.Machine.execShareUnseal h tag n slot s
  | .shareDelete h tag n => Sys2Proof.Machine.execShareDelete h tag n s
  | .shareSet h tag n flags cfg grants => Sys2Proof.Machine.execShareSet h tag n flags cfg grants s
  | .shrCfgEnWrite n val => Sys2Proof.Machine.execShrCfgEnWrite n val s
  | .testStart h tag cls unit disrupt => Sys2Proof.Machine.execTestStart h tag cls unit disrupt s
  | .testBegin which => Sys2Proof.Machine.execTestBegin which s
  | .testStatus h tag n => Sys2Proof.Machine.execTestStatus h tag n s
  | .testAbort h tag n => Sys2Proof.Machine.execTestAbort h tag n s
  | .packTest h tag bay depth power => Sys2Proof.Machine.execPackTest h tag bay depth power s
  | .packPause h tag bay cancel => Sys2Proof.Machine.execPackPause h tag bay cancel s
  | .packStatus h tag bay => Sys2Proof.Machine.execPackStatus h tag bay s
  | .packRelease h tag bay undo => Sys2Proof.Machine.execPackRelease h tag bay undo s
  | .fwStage h tag addr len off last hdr => Sys2Proof.Machine.execFwStage h tag addr len off last hdr s
  | .fwActivate h tag online => Sys2Proof.Machine.execFwActivate h tag online s
  | .fwStatus h tag => Sys2Proof.Machine.execFwStatus h tag s
  | .spReload h tag n => Sys2Proof.Machine.execSpReload h tag n s
  | .mpRestart h tag => Sys2Proof.Machine.execMpRestart h tag s
  | .skeinStart bad => Sys2Proof.Machine.execSkeinStart bad s
  | .partialSkeinTimeout => Sys2Proof.Machine.execPartialSkeinTimeout s
  | .skeinCommit gen => Sys2Proof.Machine.execSkeinCommit gen s
  | .weirCandidate => Sys2Proof.Machine.execWeirCandidate s
  | .bucketFill => Sys2Proof.Machine.execBucketFill s
  | .ageSweep => Sys2Proof.Machine.execAgeSweep s
  | .mrMarksWrite val => Sys2Proof.Machine.execMrMarksWrite val s
  | .bucketRecordWrite => Sys2Proof.Machine.execBucketRecordWrite s
  | .journalFlushTimeout => Sys2Proof.Machine.execJournalFlushTimeout s
  | .recordSkeinCommit gen => Sys2Proof.Machine.execRecordSkeinCommit gen s
  | .indexSegmentCommit => Sys2Proof.Machine.execIndexSegmentCommit s
  | .anchorReadback flips => Sys2Proof.Machine.execAnchorReadback flips s
  | .firstAdmissionComplete flips => Sys2Proof.Machine.execFirstAdmissionComplete flips s
  | .admissionEvaluate => Sys2Proof.Machine.execAdmissionEvaluate s
  | .preparationComplete bad lost => Sys2Proof.Machine.execPreparationComplete bad lost s
  | .eagerReadComplete gen strand reads others bad => Sys2Proof.Machine.execEagerReadComplete gen strand reads others bad s
  | .demandFetchComplete u flips others bad us => Sys2Proof.Machine.execDemandFetchComplete u flips others bad us s
  | .memoryTrainingComplete rate cap ranks good => Sys2Proof.Machine.execMemoryTrainingComplete rate cap ranks good s
  | .memoryLinkError c cause tries retrained => Sys2Proof.Machine.execMemoryLinkError c cause tries retrained s
  | .patrolScrub found reserve => Sys2Proof.Machine.execPatrolScrub found reserve s
  | .healComplete u flips others bad => Sys2Proof.Machine.execHealComplete u flips others bad s
  | .rankSpareCopyEnd => Sys2Proof.Machine.execRankSpareCopyEnd s
  | .sparePointerCheckpoint ptr => Sys2Proof.Machine.execSparePointerCheckpoint ptr s
  | .moduleTemperaturePoll temps => Sys2Proof.Machine.execModuleTemperaturePoll temps s
  | .translateAddress v dpa => Sys2Proof.Machine.execTranslateAddress v dpa s
  | .spareRank v c r => Sys2Proof.Machine.execSpareRank v c r s
  | .getMemoryErrors v c => Sys2Proof.Machine.execGetMemoryErrors v c s
  | .flashTrainingComplete c rate dies failed found => Sys2Proof.Machine.execFlashTrainingComplete c rate dies failed found s
  | .zqCalibration t => Sys2Proof.Machine.execZqCalibration t s
  | .commandTimeout t op b gen resetDone => Sys2Proof.Machine.execCommandTimeout t op b gen resetDone s
  | .strandProgramFail gen strand => Sys2Proof.Machine.execStrandProgramFail gen strand s
  | .blockEraseComplete b ok zeros => Sys2Proof.Machine.execBlockEraseComplete b ok zeros s
  | .sealVerify b flips => Sys2Proof.Machine.execSealVerify b flips s
  | .eraseResume t => Sys2Proof.Machine.execEraseResume t s
  | .readCalibration t bin counts => Sys2Proof.Machine.execReadCalibration t bin counts s
  | .reskeinStart => Sys2Proof.Machine.execReskeinStart s
  | .reskeinRelocateEnd => Sys2Proof.Machine.execReskeinRelocateEnd s
  | .reskeinCheckpointWrite => Sys2Proof.Machine.execReskeinCheckpointWrite s
  | .getFlashTarget v t => Sys2Proof.Machine.execGetFlashTarget v t s
  | .flashDiagnosticRead v t b page mode off flips => Sys2Proof.Machine.execFlashDiagnosticRead v t b page mode off flips s
  | .retireTarget v t => Sys2Proof.Machine.execRetireTarget v t s
  | .getReskeinStatus v => Sys2Proof.Machine.execGetReskeinStatus v s
  | .twineLinkUp p width rate flit => Sys2Proof.Machine.execTwineLinkUp p width rate flit s
  | .twineIdeActive p serial => Sys2Proof.Machine.execTwineIdeActive p serial s
  | .twineLinkDown p => Sys2Proof.Machine.execTwineLinkDown p s
  | .twineIdeFail p => Sys2Proof.Machine.execTwineIdeFail p s
  | .lossTimeout => Sys2Proof.Machine.execLossTimeout s
  | .helloInterval => Sys2Proof.Machine.execHelloInterval s
  | .hello p serial seen => Sys2Proof.Machine.execHello p serial seen s
  | .session p n confirm => Sys2Proof.Machine.execSession p n confirm s
  | .state share partner role pstate lossrep last incons pairid => Sys2Proof.Machine.execState share partner role pstate lossrep last incons pairid s
  | .linkJoin p seq => Sys2Proof.Machine.execLinkJoin p seq s
  | .markInterval n0 n1 => Sys2Proof.Machine.execMarkInterval n0 n1 s
  | .mark p seq => Sys2Proof.Machine.execMark p seq s
  | .ack prefix_ session => Sys2Proof.Machine.execAck prefix_ session s
  | .replicaWrite p share off lines => Sys2Proof.Machine.execReplicaWrite p share off lines s
  | .releaseMessage p seq share units first => Sys2Proof.Machine.execReleaseMessage p seq share units first s
  | .saving p => Sys2Proof.Machine.execSaving p s
  | .designate share peer pairid base size => Sys2Proof.Machine.execDesignate share peer pairid base size s
  | .designateResp pairid status => Sys2Proof.Machine.execDesignateResp pairid status s
  | .join p seq share => Sys2Proof.Machine.execJoin p seq share s
  | .unpair p seq share => Sys2Proof.Machine.execUnpair p seq share s
  | .catchupBegin p seq share full => Sys2Proof.Machine.execCatchupBegin p seq share full s
  | .catchupEnd p seq share => Sys2Proof.Machine.execCatchupEnd p seq share s
  | .twinMapSwap => Sys2Proof.Machine.execTwinMapSwap s
  | .designateReplica v share base size => Sys2Proof.Machine.execDesignateReplica v share base size s
  | .resumeShare v share full => Sys2Proof.Machine.execResumeShare v share full s
  | .getTwineStatus v => Sys2Proof.Machine.execGetTwineStatus v s
  | .packPresentDebounce bay ticks => Sys2Proof.Machine.execPackPresentDebounce bay ticks s
  | .packIdentified bay id volt => Sys2Proof.Machine.execPackIdentified bay id volt s
  | .identTimeout bay => Sys2Proof.Machine.execIdentTimeout bay s
  | .packRemoved bay ticks => Sys2Proof.Machine.execPackRemoved bay ticks s
  | .estimatorUpdate a b => Sys2Proof.Machine.execEstimatorUpdate a b s
  | .sbsPoll bay ans => Sys2Proof.Machine.execSbsPoll bay ans s
  | .prechargeComplete bay volt => Sys2Proof.Machine.execPrechargeComplete bay volt s
  | .prechargeTimeout bay => Sys2Proof.Machine.execPrechargeTimeout bay s
  | .chargeComplete bay => Sys2Proof.Machine.execChargeComplete bay s
  | .floatDrop bay => Sys2Proof.Machine.execFloatDrop bay s
  | .pauseAttempt bay => Sys2Proof.Machine.execPauseAttempt bay s
  | .pauseComplete bay volt => Sys2Proof.Machine.execPauseComplete bay volt s
  | .pauseAbort bay => Sys2Proof.Machine.execPauseAbort bay s
  | .testDischargeEnd bay dv di => Sys2Proof.Machine.execTestDischargeEnd bay dv di s
  | .inhibitClear bay => Sys2Proof.Machine.execInhibitClear bay s
  | .referenceAge7Days bay => Sys2Proof.Machine.execReferenceAge7Days bay s
  | .getPackProfile v sel => Sys2Proof.Machine.execGetPackProfile v sel s
  | .sbSetPointer off pec => Sys2Proof.Machine.execSbSetPointer off pec s
  | .sbRegRead late => Sys2Proof.Machine.execSbRegRead late s
  | .sbRegWrite off val pec stop => Sys2Proof.Machine.execSbRegWrite off val pec stop s
  | .sbReadStatus => Sys2Proof.Machine.execSbReadStatus s
  | .mctpPacket dst src seq tag som eom pec body => Sys2Proof.Machine.execMctpPacket dst src seq tag som eom pec body s
  | .setEndpointId eid => Sys2Proof.Machine.execSetEndpointId eid s
  | .getEndpointId => Sys2Proof.Machine.execGetEndpointId s
  | .getEndpointUuid => Sys2Proof.Machine.execGetEndpointUuid s
  | .getMctpVersionSupport ty => Sys2Proof.Machine.execGetMctpVersionSupport ty s
  | .getMessageTypeSupport => Sys2Proof.Machine.execGetMessageTypeSupport s
  | .alertResponse lost => Sys2Proof.Machine.execAlertResponse lost s
  | .sbRepeatedStart => Sys2Proof.Machine.execSbRepeatedStart s
  | .sbTargetTimeout cmd => Sys2Proof.Machine.execSbTargetTimeout cmd s
  | .controllerTimeout seg target sdaLow => Sys2Proof.Machine.execControllerTimeout seg target sdaLow s
  | .arbitrationLoss seg target stop => Sys2Proof.Machine.execArbitrationLoss seg target stop s
  | .arbitrationBackoffExpiry seg => Sys2Proof.Machine.execArbitrationBackoffExpiry seg s
  | .nackRetry seg target => Sys2Proof.Machine.execNackRetry seg target s
  | .sdaStuck seg => Sys2Proof.Machine.execSdaStuck seg s
  | .busRecoveryRetry seg pulses => Sys2Proof.Machine.execBusRecoveryRetry seg pulses s
  | .alarmWarningReceived seg => Sys2Proof.Machine.execAlarmWarningReceived seg s
  | .getBootStatus v => Sys2Proof.Machine.execGetBootStatus v s
  | .requestRecovery v => Sys2Proof.Machine.execRequestRecovery v s
  | .fwCtlRecreq val => Sys2Proof.Machine.execFwCtlRecreq val s
  | .confirmFirmware v => Sys2Proof.Machine.execConfirmFirmware v s
  | .tftpBlock n len hdr => Sys2Proof.Machine.execTftpBlock n len hdr s
  | .tftpRetransmit => Sys2Proof.Machine.execTftpRetransmit s
  | .recoveryImageReceived xport hdr => Sys2Proof.Machine.execRecoveryImageReceived xport hdr s
  | .loadKeyShare v slot key => Sys2Proof.Machine.execLoadKeyShare v slot key s
  | .clearKeyShare v slot => Sys2Proof.Machine.execClearKeyShare v slot s
  | .getNonce v => Sys2Proof.Machine.execGetNonce v s
  | .secNonceRead h => Sys2Proof.Machine.execSecNonceRead h s
  | .nonceExpiry => Sys2Proof.Machine.execNonceExpiry s
  | .enrolOwner v key => Sys2Proof.Machine.execEnrolOwner v key s
  | .getSecurityStatus v => Sys2Proof.Machine.execGetSecurityStatus v s
  | .clearRecorder v t => Sys2Proof.Machine.execClearRecorder v t s
  | .discardImage v t => Sys2Proof.Machine.execDiscardImage v t s
  | .unlockDebug v t => Sys2Proof.Machine.execUnlockDebug v t s
  | .tokenSanitize v t => Sys2Proof.Machine.execTokenSanitize v t s
  | .replaceOwner v t => Sys2Proof.Machine.execReplaceOwner v t s
  | .clearOwner v t => Sys2Proof.Machine.execClearOwner v t s
  | .drbgHealthFailure test => Sys2Proof.Machine.execDrbgHealthFailure test s
  | .drbgRetry ok => Sys2Proof.Machine.execDrbgRetry ok s
  | .drbgReseed => Sys2Proof.Machine.execDrbgReseed s
  | .occurrenceProcess => Sys2Proof.Machine.execOccurrenceProcess s
  | .recorderCheckpoint => Sys2Proof.Machine.execRecorderCheckpoint s
  | .deviceLimitEpisodeEnd => Sys2Proof.Machine.execDeviceLimitEpisodeEnd s
  | .evS0Read => Sys2Proof.Machine.execEvS0Read s
  | .evLselWrite val => Sys2Proof.Machine.execEvLselWrite val s
  | .logEntryFetchComplete => Sys2Proof.Machine.execLogEntryFetchComplete s
  | .getEventLayout v code => Sys2Proof.Machine.execGetEventLayout v code s
  | .getEventSummary v code => Sys2Proof.Machine.execGetEventSummary v code s
  | .getEventEntries v first count => Sys2Proof.Machine.execGetEventEntries v first count s
  | .buttonPressRelease ms => Sys2Proof.Machine.execButtonPressRelease ms s
  | .buttonHold3s => Sys2Proof.Machine.execButtonHold3s s
  | .touchMeasure count => Sys2Proof.Machine.execTouchMeasure count s
  | .requestRemoval v => Sys2Proof.Machine.execRequestRemoval v s
  | .removalCancel v => Sys2Proof.Machine.execRemovalCancel v s
  | .removalSafe => Sys2Proof.Machine.execRemovalSafe s
  | .removalTimeout => Sys2Proof.Machine.execRemovalTimeout s
  | .moduleUnseated => Sys2Proof.Machine.execModuleUnseated s
  | .moduleSeated => Sys2Proof.Machine.execModuleSeated s
  | .setLocate v on => Sys2Proof.Machine.execSetLocate v on s
  | .getReadiness v => Sys2Proof.Machine.execGetReadiness v s
  | .getBootConfiguration v off => Sys2Proof.Machine.execGetBootConfiguration v off s
  | .setBootConfiguration v off val mask factory => Sys2Proof.Machine.execSetBootConfiguration v off val mask factory s
  | .readRegisters v off count => Sys2Proof.Machine.execReadRegisters v off count s
  | .registerWrite h bar off size val => Sys2Proof.Machine.execRegisterWrite h bar off size val s
  | .copyEngineScanEnd => Sys2Proof.Machine.execCopyEngineScanEnd s
  | .testComplete n passed faults causes => Sys2Proof.Machine.execTestComplete n passed faults causes s
  | .norOperationComplete => Sys2Proof.Machine.execNorOperationComplete s
  | .hdmDecoderCommit h seg base size ways gran dpa lock => Sys2Proof.Machine.execHdmDecoderCommit h seg base size ways gran dpa lock s
  | .spdmDoeMessage h m => Sys2Proof.Machine.execSpdmDoeMessage h m s
  | .mgtEthLinkChange up => Sys2Proof.Machine.execMgtEthLinkChange up s
  | .msixVectorUnmask h vec => Sys2Proof.Machine.execMsixVectorUnmask h vec s
  | .scanMediaComplete h found => Sys2Proof.Machine.execScanMediaComplete h found s
  | .operatingSecondsWrite => Sys2Proof.Machine.execOperatingSecondsWrite s

end Sys2Proof.Machine
end

