-- ==== Sys2Proof/Machine/Step.lean ====
section
/-! DEFINITION. One step: the command at the front of the queue, a command that waited for the MP, or a tick of the time counter. -/

namespace Sys2Proof.Machine

/-- R15, R276, R301: what happens while no command is queued: a power-down under way ends its step; a command that waited for the MP starts once
the MP runs; otherwise the 100 MHz tick of the time counter passes (DESIGN CHOICE, log 1). -/
def State.idle (s : State) : Host.Outcome State Fault Refusal :=
  if s.pw.down.isSome then .next s.begin.downStep
  else match s.mpWait with
  | e :: _ => if s.mpRuns then exec e.2.1 (s.unwait e.1 e.2.2) else .next s.begin.tick
  | [] => .next s.begin.tick

/-- One step: the command at the front of the queue runs, with the queue's rest. Events that R18 ranks come in the order of the queue (DESIGN
CHOICE, log 225). -/
def step (s : State) : Host.Outcome State Fault Refusal :=
  match s.pending with
  | c :: l => exec c { s with pending := l }
  | [] => s.idle

/-- The state with the command a word spells put at the front of its queue; no row of the table gives its bits, so no word spells one. -/
def State.withFetchWord (s : State) (nbits w : Nat) : State :=
  match decodeTableWord nbits w with
  | some c => { s with pending := c :: s.pending }
  | none => s

end Sys2Proof.Machine
end

