-- ==== Sys2Proof/Safety.lean ====
section
/-! DEFINITION. What a safe step is, and the properties of the state that claims speak of. -/

namespace Sys2Proof

open Machine

/-- A step answers a next state: neither a fault nor a refusal. -/
def SafeStep (s : State) : Prop := ∃ t, step s = .next t

/-- R6, R24: the byte memories of the state, DRAM and the label storage areas, are in canonical form. -/
def Canonical (s : State) : Prop := Memory.wf s.mem ∧ Memory.wf s.lsa

/-- R13, R17: the phases in which the controller serves hosts. -/
def Serves (s : State) : Prop := s.serving = true

/-- R47, R316, R344: a mailbox answers commands at once: its path is open, the MP runs, and the phase is not SAVE, LINGER or RECOVERY. -/
def MailboxReady (s : State) (v : Via) : Prop :=
  s.viaOpen v = true ∧ s.mpRuns = true ∧ s.phase ≠ phSave ∧ s.phase ≠ phLinger ∧ s.phase ≠ phRecovery

/-- R57, R62, R74: head h owns queues and its admin queue can take an entry; no fetched descriptor stands beside the command (R67). -/
def AdminReady (s : State) (h : Nat) : Prop :=
  let q := s.adminQueue h
  s.ownsQueue h q = true ∧ (s.queue q).admin = true ∧ s.canTake q = true ∧ (s.queue q).barrier = none ∧ (s.queue q).sqHead ≠ (s.queue q).sqTail ∧
    (s.queue q).submitted = none

/-- R62, R78, R80: I/O queue q can take a fetched entry: ACTIVE and not paused, room and a context, no barrier, an unfetched entry; no fetched
descriptor stands beside the command, whose operands are the entry's (R67). -/
def Taking (s : State) (q : Nat) : Prop :=
  s.canTake q = true ∧ (s.queue q).barrier = none ∧ (s.queue q).sqHead ≠ (s.queue q).sqTail ∧ (s.queue q).admin = false ∧
    (s.queue q).submitted = none

/-- R67, R68, R83: between s and t a command of queue q captured the queue's next sequence, and the first thing sent is that entry's completion:
tag; submission head and sequence; result, inline bit, share, level, reason and status; phase, queue and time. -/
def Posts (s t : State) (q tag share level : Nat) (inl : Bool) (st rs res : Nat) : Prop :=
  let x := s.queue q
  let hd := if inl then x.sqHead else if x.sqHead + 1 = x.depth then 0 else x.sqHead + 1
  (∃ o, t.out = .completion q x.cqTail
    [tag % 2 ^ 64, hd % 2 ^ 16 * 2 ^ 48 + (x.last + 1) % 2 ^ 48,
     res % 2 ^ 32 * 2 ^ 32 + bit01 inl * 2 ^ 24 + share % 64 * 2 ^ 18 + level % 4 * 2 ^ 16 + rs % 256 * 2 ^ 8 + st % 256,
     bit01 x.phase * 2 ^ 63 + q % 4096 * 2 ^ 48 + s.ck.ns % 2 ^ 48] :: o) ∧
  (t.queue q).last = x.last + 1

/-- A statement's frame: memory, its poison, the label storage areas, the dirty map, the index and every register field but those listed read as
before. -/
def Leaves (s t : State) (fs : List (Field × Nat)) : Prop :=
  (∀ a, memByte t.mem a = memByte s.mem a) ∧ t.poisoned = s.poisoned ∧ t.lsa = s.lsa ∧ t.dmap = s.dmap ∧ t.index = s.index ∧
    t.pending = s.pending ∧
    ∀ (g : Field) (j : Nat), (∀ e ∈ fs, e.1.key e.2 ≠ g.key j) → t.rdi g j = s.rdi g j


/-- R74, R80: an admin command of head h takes its entry: the state and the ticket its capture leaves. -/
def adminCapture (s : State) (h tag share : Nat) : State × Ticket :=
  s.begin.newTicket (s.adminQueue h) tag .admin 0 share false false

end Sys2Proof
end

