-- ==== Sys2Proof/WellFormed.lean ====
section
/-! DEFINITION. Well-formed commands: every operand fits what carries it (a register, a descriptor field, a message field, a unit number). A
meaning is total and takes the field of an operand its carrier has, so no statement needs this as a premise; it says which commands can arrive. -/

namespace Sys2Proof

/-- R35, R316, R408: a mailbox is a head's, or the management path, where only a Wimas command carries an output offset. -/
def Via.wf (v : Via) (wimas : Bool) : Bool :=
  match v with
  | .head k => decide (k < 16)
  | .mctp page => wimas || page.isNone

/-- An optional number is below a bound when it is given. -/
def optLt (x : Option Nat) (b : Nat) : Bool :=
  match x with
  | some n => decide (n < b)
  | none => true

/-- R66: every word of a descriptor is 64 bits. -/
def Desc.wf (d : Desc) : Bool := [d.w0, d.tag, d.op2, d.op3, d.op4, d.op5, d.op6, d.op7].all fun w => decide (w < 2 ^ 64)

/-- R335: the first failing check is one the bring-up makes. -/
def FwHeader.wf (h : FwHeader) : Bool := decide (h.fail < 7)

/-- R360: the header, serial, nonce, parameter and signature words of a token fit it. -/
def Token.wf (t : Token) : Bool :=
  decide (t.magic < 2 ^ 32) && decide (t.version < 2 ^ 8) && decide (t.serial < 2 ^ 64) && decide (t.nonce < 2 ^ 256) &&
    decide (t.p6 < 2 ^ 64) && decide (t.p7 < 2 ^ 64) && decide (t.sig.length = 12) && t.sig.all fun w => decide (w < 2 ^ 64)

/-- R133: the bits in error of a page lie in it: 18,656 bytes. -/
def bitsWf (l : List Nat) : Bool := l.all fun i => decide (i < 149248)

/-- R229: the symbols in error of a DRAM line are among its 80. -/
def LineError.wf (e : LineError) : Bool := e.wrong.all fun i => decide (i < 80)

/-- R235: an entry of the hidden reserve is that of a unit, a ticket or a word of 64 units. -/
def ReserveError.wf (e : ReserveError) : Bool :=
  match e with
  | .unitEntry u => decide (u < 2 ^ 32)
  | .ticket q seq => decide (q < 4096) && decide (seq < 2 ^ 48)
  | .twinWord w => decide (w < 2 ^ 26)
  | .restoreEntry u => decide (u < 2 ^ 32)
  | .heldTwice => true

/-- R246: the numbers a pack monitor reports are 16-bit words. -/
def PackId.wf (p : PackId) : Bool :=
  [p.cap, p.volt, p.fcc, p.mdate, p.serial, p.cycles, p.spec].all fun w => decide (w < 2 ^ 16)

/-- R356: IDE streams are 0, PCIe IDE, and 1, CXL IDE. -/
def DoeMsg.wf (m : DoeMsg) : Bool :=
  match m with
  | .ideKeyProg s => decide (s < 2)
  | .ideSetGo s => decide (s < 2)
  | .ideSetStop s => decide (s < 2)
  | _ => true

/-- Every operand of the command fits what carries it. -/
def Instr.wf (i : Instr) : Bool :=
  match i with
  | .resetDevice v => Via.wf v true
  | .getSnapshot v idx => Via.wf v true && decide (idx < 256)
  | .readRails v => Via.wf v true
  | .getTimeStatus v => Via.wf v true
  | .identifyMemoryDevice v => Via.wf v false
  | .getPartitionInfo v => Via.wf v false
  | .setPartitionInfo v => Via.wf v false
  | .getLsa v off len => Via.wf v false && decide (off < 2 ^ 64) && decide (len < 2 ^ 64)
  | .setLsa v off data => Via.wf v false && decide (off < 2 ^ 64) && decide (data.length ≤ 131072)
  | .getHealthInfo v => Via.wf v false
  | .getAlertConfiguration v => Via.wf v false
  | .setAlertConfiguration v life _ _ => Via.wf v false && decide (life < 101)
  | .getShutdownState v => Via.wf v false
  | .setShutdownState v _ => Via.wf v false
  | .getPoisonList v dpa len max => Via.wf v false && decide (dpa < 2 ^ 64) && decide (len < 2 ^ 64) && decide (max < 2 ^ 64)
  | .injectPoison v dpa => Via.wf v false && decide (dpa < 2 ^ 64)
  | .clearPoison v dpa _ => Via.wf v false && decide (dpa < 2 ^ 64)
  | .getScanMediaCapabilities v dpa len => Via.wf v false && decide (dpa < 2 ^ 64) && decide (len < 2 ^ 64)
  | .scanMedia v dpa len => Via.wf v false && decide (dpa < 2 ^ 64) && decide (len < 2 ^ 64)
  | .getScanMediaResults v => Via.wf v false
  | .sanitize v => Via.wf v false
  | .secureErase v => Via.wf v false
  | .headRetrain v h rate => Via.wf v true && decide (h < 16) && decide (rate < 8)
  | .getHeadCounters v => Via.wf v true
  | .getEventRecords v log max => Via.wf v false && decide (log < 4) && decide (max < 2 ^ 64)
  | .clearEventRecords v log _ _ => Via.wf v false && decide (log < 4)
  | .getEventInterruptPolicy v => Via.wf v false
  | .setEventInterruptPolicy v _ => Via.wf v false
  | .getFwInfo v => Via.wf v false
  | .transferFw v action slot off len hdr => Via.wf v false && decide (action < 5) && decide (slot < 256) && decide (off < 2 ^ 64) && decide (len < 2 ^ 64) && FwHeader.wf hdr
  | .activateFw v _ slot => Via.wf v false && decide (slot < 256)
  | .getTimestamp v => Via.wf v false
  | .setTimestamp v utc => Via.wf v false && decide (utc < 2 ^ 64)
  | .getSupportedLogs v => Via.wf v false
  | .getLog v uuid off len => Via.wf v false && decide (uuid < 2 ^ 128) && decide (off < 2 ^ 64) && decide (len < 2 ^ 64)
  | .translateAddress v dpa => Via.wf v true && decide (dpa < 2 ^ 64)
  | .spareRank v c r => Via.wf v true && decide (c < 64) && decide (r < 16)
  | .getMemoryErrors v c => Via.wf v true && decide (c < 64)
  | .getFlashTarget v t => Via.wf v true && decide (t < 1024)
  | .flashDiagnosticRead v t b page mode _ flips => Via.wf v true && decide (t < 1024) && decide (b < 4194304) && decide (page < 1152) && decide (mode < 2) && bitsWf flips
  | .retireTarget v t => Via.wf v true && decide (t < 1024)
  | .getReskeinStatus v => Via.wf v true
  | .designateReplica v share base size => Via.wf v true && decide (share < 64) && decide (base < 2 ^ 64) && decide (size < 2 ^ 64)
  | .resumeShare v share _ => Via.wf v true && decide (share < 64)
  | .getTwineStatus v => Via.wf v true
  | .getPackProfile v sel => Via.wf v true && decide (sel < 256)
  | .getBootStatus v => Via.wf v true
  | .requestRecovery v => Via.wf v true
  | .confirmFirmware v => Via.wf v true
  | .loadKeyShare v slot key => Via.wf v true && decide (slot < 256) && decide (key < 2 ^ 768)
  | .clearKeyShare v slot => Via.wf v true && decide (slot < 256)
  | .getNonce v => Via.wf v true
  | .enrolOwner v key => Via.wf v true && decide (key < 2 ^ 768)
  | .getSecurityStatus v => Via.wf v true
  | .clearRecorder v t => Via.wf v true && Token.wf t
  | .discardImage v t => Via.wf v true && Token.wf t
  | .unlockDebug v t => Via.wf v true && Token.wf t
  | .tokenSanitize v t => Via.wf v true && Token.wf t
  | .replaceOwner v t => Via.wf v true && Token.wf t
  | .clearOwner v t => Via.wf v true && Token.wf t
  | .getEventLayout v code => Via.wf v true && decide (code < 2 ^ 16)
  | .getEventSummary v code => Via.wf v true && decide (code < 2 ^ 16)
  | .getEventEntries v first count => Via.wf v true && decide (first < 2 ^ 64) && decide (count < 2 ^ 64)
  | .requestRemoval v => Via.wf v true
  | .removalCancel v => Via.wf v true
  | .setLocate v _ => Via.wf v true
  | .getReadiness v => Via.wf v true
  | .getBootConfiguration v off => Via.wf v true && decide (off < 2 ^ 64)
  | .setBootConfiguration v off val mask _ => Via.wf v true && decide (off < 2 ^ 64) && decide (val < 2 ^ 64) && decide (mask < 2 ^ 64)
  | .readRegisters v off count => Via.wf v true && decide (off < 2 ^ 64) && decide (count < 2 ^ 64)
  | .queueCreate h tag qid sqb cqb cfg => decide (h < 16) && decide (tag < 2 ^ 64) && decide (qid < 4096) && decide (sqb < 2 ^ 64) && decide (cqb < 2 ^ 64) && decide (cfg < 2 ^ 64)
  | .queueDelete h tag qid => decide (h < 16) && decide (tag < 2 ^ 64) && decide (qid < 4096)
  | .reportRead h tag kind first buf len => decide (h < 16) && decide (tag < 2 ^ 64) && decide (kind < 2) && decide (first < 2 ^ 32) && decide (buf < 2 ^ 64) && decide (len < 2 ^ 64)
  | .shareCreate h tag n base size cfg grants peer => decide (h < 16) && decide (tag < 2 ^ 64) && decide (n < 64) && decide (base < 2 ^ 64) && decide (size < 2 ^ 64) && decide (cfg < 2 ^ 64) && decide (grants < 2 ^ 32) && optLt peer (64)
  | .shareMode h tag n target peer => decide (h < 16) && decide (tag < 2 ^ 64) && decide (n < 64) && decide (target < 8) && optLt peer (64)
  | .promote h tag n => decide (h < 16) && decide (tag < 2 ^ 64) && decide (n < 64)
  | .shareSeal h tag n _ => decide (h < 16) && decide (tag < 2 ^ 64) && decide (n < 64)
  | .shareUnseal h tag n slot => decide (h < 16) && decide (tag < 2 ^ 64) && decide (n < 64) && decide (slot < 256)
  | .shareDelete h tag n => decide (h < 16) && decide (tag < 2 ^ 64) && decide (n < 64)
  | .shareSet h tag n flags cfg grants => decide (h < 16) && decide (tag < 2 ^ 64) && decide (n < 64) && decide (flags < 4) && decide (cfg < 2 ^ 64) && decide (grants < 2 ^ 32)
  | .testStart h tag cls unit _ => decide (h < 16) && decide (tag < 2 ^ 64) && decide (cls < 16) && decide (unit < 1024)
  | .testStatus h tag n => decide (h < 16) && decide (tag < 2 ^ 64) && decide (n < 4)
  | .testAbort h tag n => decide (h < 16) && decide (tag < 2 ^ 64) && decide (n < 4)
  | .packTest h tag bay depth power => decide (h < 16) && decide (tag < 2 ^ 64) && decide (bay < 2) && decide (depth < 256) && decide (power < 2 ^ 16)
  | .packPause h tag bay _ => decide (h < 16) && decide (tag < 2 ^ 64) && decide (bay < 2)
  | .packStatus h tag bay => decide (h < 16) && decide (tag < 2 ^ 64) && decide (bay < 2)
  | .packRelease h tag bay _ => decide (h < 16) && decide (tag < 2 ^ 64) && decide (bay < 2)
  | .fwStage h tag addr len off _ hdr => decide (h < 16) && decide (tag < 2 ^ 64) && decide (addr < 2 ^ 64) && decide (len < 2 ^ 32) && decide (off < 2 ^ 24) && FwHeader.wf hdr
  | .fwActivate h tag _ => decide (h < 16) && decide (tag < 2 ^ 64)
  | .fwStatus h tag => decide (h < 16) && decide (tag < 2 ^ 64)
  | .spReload h tag n => decide (h < 16) && decide (tag < 2 ^ 64) && decide (n < 6)
  | .mpRestart h tag => decide (h < 16) && decide (tag < 2 ^ 64)
  | .shrCfgEnWrite n val => decide (n < 64) && decide (val < 2 ^ 64)
  | .twineIdeActive p serial => decide (p < 2) && decide (serial < 2 ^ 64)
  | .secNonceRead h => decide (h < 16)
  | .registerWrite h bar off size val => decide (h < 16) && decide (bar < 5) && decide (off < 2 ^ 64) && decide (size < 9) && decide (val < 2 ^ 64)
  | .spdmDoeMessage h m => decide (h < 16) && DoeMsg.wf m
  | .serviceInputValid _ => true
  | .wakeNFall _ => true
  | .comparatorTrip b _ => decide (b < 2)
  | .latchOpen _ => true
  | .resetNAssert _ => true
  | .resetNRelease _ => true
  | .genRstWrite _ val _ => decide (val < 2 ^ 64)
  | .resetDatagram _ => true
  | .forcedAbort _ => true
  | .manifestClosed flips => flips.all bitsWf
  | .saveBusWarning _ => true
  | .saveBusLow _ => true
  | .railPowerGood slot _ => decide (slot < 14)
  | .railFault slot kind => decide (slot < 14) && decide (kind < 8)
  | .railWarning slot kind _ => decide (slot < 14) && decide (kind < 8)
  | .offWaitExpiry _ => true
  | .pmbusStatusPoll _ _ => true
  | .lbAlert slot _ => decide (slot < 14)
  | .holdupMeasurement _ _ => true
  | .opChangeComplete _ => true
  | .temperatureSample _ => true
  | .lockstepMismatch pc => decide (pc < 2 ^ 64)
  | .spWatchdogExpiry n => decide (n < 6)
  | .sramUncorrectable p => decide (p < 7)
  | .executeFault p addr => decide (p < 7) && decide (addr < 2 ^ 64)
  | .spReloadComplete n _ => decide (n < 6)
  | .clockCheckRetry _ => true
  | .boscStartCheckPass _ => true
  | .boscMonitorTrip test => decide (test < 8)
  | .refclkMonitorTrip test => decide (test < 8)
  | .pllLockLoss p => decide (p < 8)
  | .ptpSync _ _ _ _ => true
  | .ptpAnnounce _ _ _ => true
  | .ptmRequest _ _ => true
  | .compatibilityTrim _ _ _ => true
  | .lfoTrim _ => true
  | .ckSetWrite utc => decide (utc < 2 ^ 64)
  | .ckPtpWrite val => decide (val < 2 ^ 64)
  | .ckCmonWrite val => decide (val < 2 ^ 64)
  | .alarmFired _ => true
  | .hostWrite h hpa _ _ _ => decide (h < 16) && decide (hpa < 2 ^ 64)
  | .hostRead h hpa _ err => decide (h < 16) && decide (hpa < 2 ^ 64) && LineError.wf err
  | .headLinkUp h width rate _ => decide (h < 16) && decide (width < 17) && decide (rate < 8)
  | .linkRecovery h _ _ => decide (h < 16)
  | .linkDownTimeout h => decide (h < 16)
  | .surpriseLinkDown h => decide (h < 16)
  | .ideIntegrityFailure h => decide (h < 16)
  | .viral h => decide (h < 16)
  | .hpPerstAssert h => decide (h < 16)
  | .hpPerstRelease h => decide (h < 16)
  | .headFlr h => decide (h < 16)
  | .gpfPhase1 h => decide (h < 16)
  | .gpfPhase2 h => decide (h < 16)
  | .hpCtlRetrain h val => decide (h < 16) && decide (val < 2 ^ 64)
  | .sqTailWrite h q val => decide (h < 16) && decide (q < 4096) && decide (val < 2 ^ 64)
  | .cqHeadWrite h q val => decide (h < 16) && decide (q < 4096) && decide (val < 2 ^ 64)
  | .inlTagWrite h q val => decide (h < 16) && decide (q < 4096) && decide (val < 2 ^ 64)
  | .inlCmdWrite h q tag val => decide (h < 16) && decide (q < 4096) && optLt tag (2 ^ 64) && decide (val < 2 ^ 64)
  | .inlineCommitRelease q => decide (q < 4096)
  | .descriptorFetch q ds fail => decide (q < 4096) && (decide (ds.length ≤ 8) && ds.all Desc.wf) && decide (fail < 8)
  | .queActlWrite h val => decide (h < 16) && decide (val < 2 ^ 64)
  | .interruptAggregationTimeout q => decide (q < 4096)
  | .commit q tag share level off len _ => decide (q < 4096) && decide (tag < 2 ^ 64) && decide (share < 64) && decide (level < 4) && decide (off < 2 ^ 64) && decide (len < 2 ^ 64)
  | .fence q tag _ _ => decide (q < 4096) && decide (tag < 2 ^ 64)
  | .release q tag share off len _ => decide (q < 4096) && decide (tag < 2 ^ 64) && decide (share < 64) && decide (off < 2 ^ 64) && decide (len < 2 ^ 64)
  | .releaseCapture q seq => decide (q < 4096) && decide (seq < 2 ^ 48)
  | .releaseWalkEnd r => decide (r < 16)
  | .probe q tag share off len _ => decide (q < 4096) && decide (tag < 2 ^ 64) && decide (share < 64) && decide (off < 2 ^ 64) && decide (len < 2 ^ 64)
  | .fullSyncCommit n => decide (n < 64)
  | .sealCommit n => decide (n < 64)
  | .testBegin which => decide (which < 6)
  | .skeinStart _ => true
  | .skeinCommit gen => decide (gen < 2 ^ 48)
  | .mrMarksWrite val => decide (val < 2 ^ 64)
  | .recordSkeinCommit gen => decide (gen < 2 ^ 48)
  | .anchorReadback flips => flips.all bitsWf
  | .firstAdmissionComplete flips => flips.all bitsWf
  | .preparationComplete _ _ => true
  | .eagerReadComplete gen strand reads others _ => decide (gen < 2 ^ 48) && decide (strand < 32) && reads.all bitsWf && (others.all fun j => decide (j < 32))
  | .demandFetchComplete u flips others _ _ => decide (u < 2 ^ 32) && bitsWf flips && (others.all fun j => decide (j < 32))
  | .memoryTrainingComplete rate _ _ _ => optLt rate (8)
  | .memoryLinkError c _ _ _ => decide (c < 64)
  | .patrolScrub found reserve => (found.all fun e => e.2.wf) && (reserve.all fun e => e.2.wf)
  | .healComplete u flips others _ => decide (u < 2 ^ 32) && bitsWf flips && (others.all fun j => decide (j < 32))
  | .sparePointerCheckpoint _ => true
  | .moduleTemperaturePoll temps => decide (temps.length ≤ 48)
  | .flashTrainingComplete c rate _ _ _ => decide (c < 64) && optLt rate (7)
  | .zqCalibration t => decide (t < 1024)
  | .commandTimeout t op b gen _ => decide (t < 1024) && decide (op < 3) && decide (b < 4194304) && decide (gen < 2 ^ 48)
  | .strandProgramFail gen strand => decide (gen < 2 ^ 48) && decide (strand < 32)
  | .blockEraseComplete b _ zeros => decide (b < 4194304) && bitsWf zeros
  | .sealVerify b flips => decide (b < 4194304) && bitsWf flips
  | .eraseResume t => decide (t < 1024)
  | .readCalibration t bin counts => decide (t < 1024) && decide (bin < 16) && decide (counts.length = 16)
  | .twineLinkUp p width rate _ => decide (p < 2) && decide (width < 17) && decide (rate < 8)
  | .twineLinkDown p => decide (p < 2)
  | .twineIdeFail p => decide (p < 2)
  | .hello p serial _ => decide (p < 2) && decide (serial < 2 ^ 64)
  | .session p n _ => decide (p < 2) && decide (n < 2 ^ 64)
  | .state share partner role pstate _ _ _ pairid => decide (share < 64) && decide (partner < 64) && decide (role < 4) && decide (pstate < 8) && decide (pairid < 2 ^ 64)
  | .linkJoin p seq => decide (p < 2) && decide (seq < 2 ^ 64)
  | .markInterval _ _ => true
  | .mark p seq => decide (p < 2) && decide (seq < 2 ^ 64)
  | .ack prefix_ session1 => decide (prefix_ < 2 ^ 64) && decide (session1 < 2 ^ 64)
  | .replicaWrite p share off lines => decide (p < 2) && decide (share < 64) && decide (off < 2 ^ 64) && decide (lines.length ≤ 4)
  | .releaseMessage p seq share units first => decide (p < 2) && decide (seq < 2 ^ 64) && decide (share < 64) && decide (units < 2 ^ 32) && decide (first < 2 ^ 32)
  | .saving p => decide (p < 2)
  | .designate share peer pairid base size => decide (share < 64) && decide (peer < 64) && decide (pairid < 2 ^ 64) && decide (base < 2 ^ 64) && decide (size < 2 ^ 64)
  | .designateResp pairid status => decide (pairid < 2 ^ 64) && decide (status < 256)
  | .join p seq share => decide (p < 2) && decide (seq < 2 ^ 64) && decide (share < 64)
  | .unpair p seq share => decide (p < 2) && decide (seq < 2 ^ 64) && decide (share < 64)
  | .catchupBegin p seq share _ => decide (p < 2) && decide (seq < 2 ^ 64) && decide (share < 64)
  | .catchupEnd p seq share => decide (p < 2) && decide (seq < 2 ^ 64) && decide (share < 64)
  | .packPresentDebounce bay _ => decide (bay < 2)
  | .packIdentified bay id _ => decide (bay < 2) && PackId.wf id
  | .identTimeout bay => decide (bay < 2)
  | .packRemoved bay _ => decide (bay < 2)
  | .estimatorUpdate _ _ => true
  | .sbsPoll bay _ => decide (bay < 2)
  | .prechargeComplete bay _ => decide (bay < 2)
  | .prechargeTimeout bay => decide (bay < 2)
  | .chargeComplete bay => decide (bay < 2)
  | .floatDrop bay => decide (bay < 2)
  | .pauseAttempt bay => decide (bay < 2)
  | .pauseComplete bay _ => decide (bay < 2)
  | .pauseAbort bay => decide (bay < 2)
  | .testDischargeEnd bay _ _ => decide (bay < 2)
  | .inhibitClear bay => decide (bay < 2)
  | .referenceAge7Days bay => decide (bay < 2)
  | .sbSetPointer off pec => decide (off < 2 ^ 24) && decide (pec < 256)
  | .sbRegRead _ => true
  | .sbRegWrite off val pec _ => decide (off < 2 ^ 24) && decide (val < 2 ^ 64) && decide (pec < 256)
  | .mctpPacket dst src seq tag _ _ _ _ => decide (dst < 256) && decide (src < 256) && decide (seq < 4) && decide (tag < 8)
  | .setEndpointId eid => decide (eid < 256)
  | .getMctpVersionSupport ty => decide (ty < 256)
  | .alertResponse _ => true
  | .sbTargetTimeout cmd => decide (cmd < 256)
  | .controllerTimeout i target _ => decide (i < 8) && decide (target < 128)
  | .arbitrationLoss i target _ => decide (i < 8) && decide (target < 128)
  | .arbitrationBackoffExpiry i => decide (i < 8)
  | .nackRetry i target => decide (i < 8) && decide (target < 128)
  | .sdaStuck i => decide (i < 8)
  | .busRecoveryRetry i _ => decide (i < 8)
  | .alarmWarningReceived i => decide (i < 8)
  | .fwCtlRecreq val => decide (val < 2 ^ 64)
  | .tftpBlock n len hdr => decide (n < 2 ^ 16) && decide (len < 2 ^ 64) && FwHeader.wf hdr
  | .recoveryImageReceived xport hdr => decide (xport < 4) && FwHeader.wf hdr
  | .drbgHealthFailure test => decide (test < 8)
  | .drbgRetry _ => true
  | .evLselWrite val => decide (val < 2 ^ 64)
  | .buttonPressRelease _ => true
  | .touchMeasure count => decide (count < 2 ^ 64)
  | .testComplete n _ _ _ => decide (n < 4)
  | .hdmDecoderCommit h i base size ways gran dpa _ => decide (h < 16) && decide (i < 8) && decide (base < 2 ^ 64) && decide (size < 2 ^ 64) && decide (ways < 17) && decide (gran < 2 ^ 14) && decide (dpa < 2 ^ 64)
  | .mgtEthLinkChange _ => true
  | .msixVectorUnmask h vec => decide (h < 16) && optLt vec (2048)
  | .scanMediaComplete h _ => decide (h < 16)
  | .energyGone => true
  | .saveStartRecord => true
  | .truncatedManifestClose => true
  | .energyFail => true
  | .lingerTimerExpiry => true
  | .lingerEnergyLimit => true
  | .standbyEntry => true
  | .mpWatchdogExpiry => true
  | .mpRestartComplete => true
  | .trialConfirmTimeout => true
  | .refclkReturn => true
  | .boscReturn => true
  | .lfoMonitorTrip => true
  | .aoscMonitorTrip => true
  | .announceTimeout => true
  | .ckTimeRead => true
  | .ppsPulse => true
  | .partialSkeinTimeout => true
  | .weirCandidate => true
  | .bucketFill => true
  | .ageSweep => true
  | .bucketRecordWrite => true
  | .journalFlushTimeout => true
  | .indexSegmentCommit => true
  | .admissionEvaluate => true
  | .rankSpareCopyEnd => true
  | .reskeinStart => true
  | .reskeinRelocateEnd => true
  | .reskeinCheckpointWrite => true
  | .lossTimeout => true
  | .helloInterval => true
  | .twinMapSwap => true
  | .sbReadStatus => true
  | .getEndpointId => true
  | .getEndpointUuid => true
  | .getMessageTypeSupport => true
  | .sbRepeatedStart => true
  | .tftpRetransmit => true
  | .nonceExpiry => true
  | .drbgReseed => true
  | .occurrenceProcess => true
  | .recorderCheckpoint => true
  | .deviceLimitEpisodeEnd => true
  | .evS0Read => true
  | .logEntryFetchComplete => true
  | .buttonHold3s => true
  | .removalSafe => true
  | .removalTimeout => true
  | .moduleUnseated => true
  | .moduleSeated => true
  | .copyEngineScanEnd => true
  | .norOperationComplete => true
  | .operatingSecondsWrite => true

end Sys2Proof
end

