-- ==== Sys2Proof/Certificates/Slice0/Obligations.lean ====
section
/-! DEFINITION. The statements about the model, for the provers. Each docstring names the rule of spec/ it formalises; those that rest on a
choice of the model name the log entry. -/

open Sys2Proof Sys2Proof.Machine


/-! ### Queues and tickets -/

/-- R71, R72: a COMMIT whose condition holds at capture completes DONE at once: a HELD COMMIT on a HELD or TWINED share, a FLASH COMMIT with every
covered unit CLEAN. Nothing but the queue's bookkeeping changes.
R71, R72, R88: a FLASH COMMIT over units that are not CLEAN is captured with the runs it waits for, and marks them WANTED. -/
def Obligations.CommitCompletion : Prop :=
  (∀ (s : State) (q tag share level off len : Nat) (u : Bool), Taking s q → s.rangeFault (s.queue q).head share off len false = none →
    s.sealing share = false → modeAccepts (s.shMode share) level = true →
    (level = 1 ∧ s.shMode share ≠ mdWritethru ∨
      level = 3 ∧ s.dirtyRuns (s.rangeUnits share off len).1 (s.rangeUnits share off len).2 = []) →
    ∃ t, exec (.commit q tag share level off len u) s = .next t ∧ Posts s t q tag share level false 0 0 0 ∧ Leaves s t []) ∧
  (∀ (s : State) (q tag share off len : Nat) (u : Bool), Taking s q → s.rangeFault (s.queue q).head share off len false = none →
    s.sealing share = false → modeAccepts (s.shMode share) 3 = true →
    s.dirtyRuns (s.rangeUnits share off len).1 (s.rangeUnits share off len).2 ≠ [] →
    ∃ t k, exec (.commit q tag share 3 off len u) s = .next t ∧ t.out = [] ∧ k ∈ t.tickets ∧ k.qid = q ∧ k.tag = tag ∧
      k.seq = (s.queue q).last + 1 ∧ k.outcome = none ∧
      k.wait = s.dirtyRuns (s.rangeUnits share off len).1 (s.rangeUnits share off len).2 ∧
      t.dmap = (s.markWanted (s.rangeUnits share off len).1 (s.rangeUnits share off len).2).dmap ∧ t.mem = s.mem ∧
      (t.queue q).last = (s.queue q).last + 1)

/-- R73, R80: a FENCE with no open ticket before it posts DONE with the number of tickets since the previous FENCE that completed other than DONE;
a PROBE of a valid range posts DONE with the levels held in REASON and the units not CLEAN in RESULT. -/
def Obligations.FenceAndProbe : Prop :=
  (∀ (s : State) (q tag : Nat) (b u : Bool), Taking s q → (∀ a ∈ s.tickets, a.qid ≠ q) →
    ∃ t, exec (.fence q tag b u) s = .next t ∧
      Posts s t q tag 0 0 false 0 0 (min ((s.queue q).fails.filter fun a => decide (a < (s.queue q).last + 1)).length 0xFFFFFFFF) ∧
      (∀ a, memByte t.mem a = memByte s.mem a) ∧ t.dmap = s.dmap ∧ t.index = s.index) ∧
  (∀ (s : State) (q tag share off len : Nat) (u : Bool), Taking s q → s.rangeFault (s.queue q).head share off len false = none →
    ∃ t, exec (.probe q tag share off len u) s = .next t ∧
      Posts s t q tag share 0 false 0 (s.probeBits share (s.rangeUnits share off len).1 (s.rangeUnits share off len).2)
        (min (Segs.count (fun e => e.st != 0) (s.rangeUnits share off len).1 (s.rangeUnits share off len).2 s.dmap) 0xFFFFFFFF) ∧
      Leaves s t [])

/-- R69, R73: a COMMIT at a level or a PROBE whose range does not check posts the status and reason of the first failing check; the checks in
order: share undefined, past the share's end, no read-write grant, empty, share not open (log 16). -/
def Obligations.RangeFaults : Prop :=
  (∀ (s : State) (q tag share level off len st rs : Nat) (u : Bool), Taking s q → level ≠ 0 →
    s.rangeFault (s.queue q).head share off len false = some (st, rs) →
    (∃ t, exec (.commit q tag share level off len u) s = .next t ∧ Posts s t q tag share level false st rs 0 ∧ Leaves s t []) ∧
    ∃ t, exec (.probe q tag share off len u) s = .next t ∧ Posts s t q tag share 0 false st rs 0 ∧ Leaves s t []) ∧
  ∀ (s : State) (k share off len : Nat),
    (s.shDefined share = false → s.rangeFault k share off len false = some (5, 1)) ∧
    (s.shDefined share = true → s.rdi F.SHR_SIZE_ADDR share * 2 ^ 28 < off + len → s.rangeFault k share off len false = some (5, 2)) ∧
    (s.shDefined share = true → off + len ≤ s.rdi F.SHR_SIZE_ADDR share * 2 ^ 28 → s.grant share k ≠ 2 →
      s.rangeFault k share off len false = some (5, 3)) ∧
    (s.shDefined share = true → off ≤ s.rdi F.SHR_SIZE_ADDR share * 2 ^ 28 → s.grant share k = 2 →
      s.rangeFault k share off 0 false = some (5, 5)) ∧
    (s.shDefined share = true → 0 < len → off + len ≤ s.rdi F.SHR_SIZE_ADDR share * 2 ^ 28 → s.grant share k = 2 → s.shOpen share = false →
      s.rangeFault k share off len false = some (4, 6))

/-- R73, R96: a RELEASE of a valid page range loads the lowest free walk register with its units, at once, or, when it waited, at RELEASE_CAPTURE;
its walk's end in RESTORE or SERVICE frees the register, the walked units losing their waits. -/
def Obligations.ReleaseWalks : Prop :=
  (∀ (s : State) (q tag share off len i : Nat) (u : Bool), Taking s q → s.rangeFault (s.queue q).head share off len true = none →
    s.freeWalk = some i → s.coveredByFlash (s.rangeUnits share off len).1 (s.rangeUnits share off len).2 = false →
    ∃ t w, exec (.release q tag share off len u) s = .next t ∧ FMap.find t.walks i = some w ∧ w.share = share ∧ w.qid = q ∧
      (w.lo, w.hi) = s.rangeUnits share off len ∧ w.seq = (s.queue q).last + 1 ∧ t.mem = s.mem ∧ t.dmap = s.dmap) ∧
  (∀ (s : State) (q seq i : Nat) (a : Ticket),
    (s.tickets.find? fun a => a.qid == q && a.seq == seq && a.kind == .release && !a.walking && a.outcome.isNone) = some a →
    s.freeWalk = some i → s.coveredByFlash a.lo a.hi = false →
    ∃ t w, exec (.releaseCapture q seq) s = .next t ∧ FMap.find t.walks i = some w ∧ w.share = a.share ∧ w.lo = a.lo ∧ w.hi = a.hi ∧
      w.qid = a.qid ∧ w.seq = a.seq ∧ t.mem = s.mem ∧ t.dmap = s.dmap) ∧
  (∀ (s : State) (r : Nat) (w : Walk), FMap.find s.walks r = some w → s.serving = true →
    ∃ t, exec (.releaseWalkEnd r) s = .next t ∧ FMap.find t.walks r = none ∧ t.mem = s.mem ∧ t.dmap = (s.walkRange w.lo w.hi).dmap ∧
      t.index = (s.walkRange w.lo w.hi).index)

/-- R63, R64, R65: at a head in L0, on an ACTIVE queue it owns: a tail that advances moves SQ_TAIL, CQ_HEAD releases the slots before it, INL_TAG is held. A value of at
least the depth puts the queue in ERROR with its reason; a write to a queue of another head is discarded and counted.
R61, R65, R81: with a tag held, a HELD inline COMMIT of a valid range on an ACTIVE I/O queue that is not paused and has room posts DONE; on one
that is paused or has no room it is held with its tag, and INLINE_COMMIT_RELEASE posts it once the queue permits. It needs no context; that one
which needs a context while the pool is exhausted is held too is the model's choice (log 183). -/
def Obligations.DoorbellsAndInline : Prop :=
  (∀ (s : State) (h q val : Nat), s.headExists h = true → s.headUp h = true →
    (s.ownsQueue h q = true → (s.queue q).state = 1 → val < (s.queue q).depth →
      ((s.queue q).sqTail + (s.queue q).depth - (s.queue q).sqHead) % (s.queue q).depth <
        (val + (s.queue q).depth - (s.queue q).sqHead) % (s.queue q).depth →
      exec (.sqTailWrite h q val) s = .next (s.begin.setQueue q { s.queue q with sqTail := val })) ∧
    (s.ownsQueue h q = true → (s.queue q).state = 1 → (s.queue q).depth ≤ val →
      ∃ t, exec (.sqTailWrite h q val) s = .next t ∧ (t.queue q).state = 2 ∧ (t.queue q).err = 1 ∧ t.mem = s.mem ∧ t.tickets = s.tickets) ∧
    (s.ownsQueue h q = true → (s.queue q).state = 1 → val < (s.queue q).depth →
      (val + (s.queue q).depth - (s.queue q).cqHead) % (s.queue q).depth ≤ (s.queue q).ring.length →
      exec (.cqHeadWrite h q val) s = .next (s.begin.setQueue q { s.queue q with
        cqHead := val, ring := (s.queue q).ring.drop ((val + (s.queue q).depth - (s.queue q).cqHead) % (s.queue q).depth) })) ∧
    (s.ownsQueue h q = true → (s.queue q).state = 1 → (s.queue q).depth ≤ val →
      ∃ t, exec (.cqHeadWrite h q val) s = .next t ∧ (t.queue q).state = 2 ∧ (t.queue q).err = 2 ∧ t.mem = s.mem ∧ t.tickets = s.tickets) ∧
    (s.ownsQueue h q = true → (s.queue q).state = 1 →
      exec (.inlTagWrite h q val) s = .next (s.begin.setQueue q { s.queue q with inlTag := some val })) ∧
    (s.ownsQueue h q = false →
      exec (.sqTailWrite h q val) s = .next (s.begin.bumpi F.QUE_ERRC_FOREIGN h) ∧
      exec (.cqHeadWrite h q val) s = .next (s.begin.bumpi F.QUE_ERRC_FOREIGN h) ∧
      exec (.inlTagWrite h q val) s = .next (s.begin.bumpi F.QUE_ERRC_FOREIGN h))) ∧
  (∀ (s : State) (h q tag w : Nat),
    let share := natField w 54 6
    let off := natField w 22 32 * 4096
    let len := (natField w 2 20 + 1) * 4096
    natField w 62 2 = 1 → natField w 60 2 = 1 → natField w 0 2 = 0 → (s.queue q).state = 1 → (s.queue q).admin = false →
    s.rangeFault (s.queue q).head share off len false = none → s.sealing share = false →
    (s.shMode share = mdHeld ∨ s.shMode share = mdTwined) →
    (s.headExists h = true → s.headUp h = true → s.ownsQueue h q = true → (s.queue q).held = none →
      (s.queue q).paused = false → s.hasRoom q = true → s.commonUsed ≤ 1048320 →
      ∃ t, exec (.inlCmdWrite h q (some tag) w) s = .next t ∧ Posts s t q tag share 1 true 0 0 0 ∧ Leaves s t []) ∧
    (s.headExists h = true → s.headUp h = true → s.ownsQueue h q = true → (s.queue q).held = none →
      ((s.queue q).paused = true ∨ s.hasRoom q = false) →
      ∃ t, exec (.inlCmdWrite h q (some tag) w) s = .next t ∧ (t.queue q).held = some (some tag, w) ∧ (t.queue q).last = (s.queue q).last) ∧
    ((s.queue q).held = some (some tag, w) → (s.queue q).paused = false → s.hasRoom q = true → s.commonUsed ≤ 1048320 →
      ∃ t, exec (.inlineCommitRelease q) s = .next t ∧ Posts s t q tag share 1 true 0 0 0 ∧ (t.queue q).held = none ∧ Leaves s t []))

/-- R59, R76, R85: QUEUE_CREATE of a DISABLED I/O queue of the head with aligned rings makes it ACTIVE with its configuration; QUEUE_DELETE disables
it; REPORT_READ writes its header and records; QUE_ACTL.EN makes and deletes the admin queue of a head that owns queues. Each admin operation posts DONE. -/
def Obligations.QueueAdmin : Prop :=
  (∀ (s : State) (h tag qid sqb cqb cfg : Nat), AdminReady s h → s.ioQueueOf h qid = true → (s.queue qid).state = 0 →
    sqb % 4096 = 0 → cqb % 4096 = 0 → natField cfg 0 16 ≠ 0 → natField cfg 40 11 ≠ 0 →
    ∃ t, exec (.queueCreate h tag qid sqb cqb cfg) s = .next t ∧ Posts s t (s.adminQueue h) tag 0 0 false 0 0 0 ∧ (t.queue qid).state = 1 ∧
      (t.queue qid).head = h ∧ (t.queue qid).admin = false ∧ (t.queue qid).depth = natField cfg 0 16 + 1 ∧ (t.queue qid).sqBase = sqb ∧
      (t.queue qid).cqBase = cqb ∧ (t.queue qid).vec = natField cfg 40 11 ∧ (t.queue qid).ien = natBit cfg 58 ∧
      (t.queue qid).ldpol = natBit cfg 59 ∧ Leaves s t []) ∧
  (∀ (s : State) (h tag qid : Nat), AdminReady s h → s.ioQueueOf h qid = true → (s.queue qid).state = 1 → (s.queue qid).held = none →
    (∀ a ∈ s.tickets, a.qid ≠ qid) →
    ∃ t, exec (.queueDelete h tag qid) s = .next t ∧ Posts s t (s.adminQueue h) tag 0 0 false 0 0 0 ∧ (t.queue qid).state = 0 ∧
      (t.queue qid).ring = [] ∧ Leaves s t []) ∧
  (∀ (s : State) (h tag kind first buf len : Nat), AdminReady s h → buf % 32 = 0 → len % 32 = 0 → 64 ≤ len →
    ∃ t o, exec (.reportRead h tag kind first buf len) s = .next t ∧
      t.out = .hostWrite h buf (s.reportHeader (kind % 2) (s.reportRecs h (kind % 2)).length
        (((s.reportRecs h (kind % 2)).drop first).take (len / 32 - 1)).length first ++
        (((s.reportRecs h (kind % 2)).drop first).take (len / 32 - 1)).flatten) :: o ∧ Leaves s t []) ∧
  (∀ (s : State) (h val : Nat), s.ownsQueue h (s.adminQueue h) = true → s.flagi F.QUE_ACTL_EN h = false → natBit val 63 = true →
    natBit (s.rd F.GEN_READY_BITS) 13 = true →
    ∃ t, exec (.queActlWrite h val) s = .next t ∧ t.flagi F.QUE_ACTL_EN h = true ∧ (t.queue (s.adminQueue h)).state = 1 ∧
      (t.queue (s.adminQueue h)).admin = true ∧ (t.queue (s.adminQueue h)).depth = max 1 (natField val 0 12) + 1 ∧ t.mem = s.mem) ∧
  (∀ (s : State) (h val : Nat), s.ownsQueue h (s.adminQueue h) = true → s.flagi F.QUE_ACTL_EN h = true → natBit val 63 = false →
    ∃ t, exec (.queActlWrite h val) s = .next t ∧ t.flagi F.QUE_ACTL_EN h = false ∧ (t.queue (s.adminQueue h)).state = 0 ∧ t.mem = s.mem)

/-- R79, R407: the aggregation timeout signals the vector of a queue with unsignalled completions; unmasking a vector clears its pending bit and sends
the message while the head's link is in L0. -/
def Obligations.Interrupts : Prop :=
  (∀ (s : State) (q : Nat), (s.queue q).ien = true → (s.queue q).aggt ≠ 0 → (s.queue q).unsig ≠ 0 → (s.queue q).posting = true →
    ∃ t, exec (.interruptAggregationTimeout q) s = .next t ∧ (t.queue q).unsig = 0 ∧ Leaves s t [] ∧
      ((s.head (s.queue q).head).fmask = false → (s.queue q).vec ∈ (s.head (s.queue q).head).unmasked → s.headUp (s.queue q).head = true →
        t.out = [.msix (s.queue q).head (s.queue q).vec])) ∧
  (∀ (s : State) (h v : Nat), v ∈ (s.head h).msixPend → (s.head h).fmask = false → s.headUp h = true →
    ∃ t, exec (.msixVectorUnmask h (some v)) s = .next t ∧ v ∈ (t.head h).unmasked ∧ v ∉ (t.head h).msixPend ∧ t.out = [.msix h v] ∧
      Leaves s t []) ∧
  (∀ (s : State) (h : Nat), (s.head h).msixPend = [] →
    exec (.msixVectorUnmask h none) s = .next (s.begin.setHead h { s.head h with fmask := false, msixPend := [] }))

/-- R62, R66, R67, R69: fetching one descriptor with no reserved bit set from the I/O queue whose turn it is acts as the operation its words spell,
on the state whose turn has passed and whose queue keeps the fields submitted: COMMIT, FENCE, RELEASE or PROBE with share at bits 10 to 15, level at
8 and 9, B at 16, U at 17; an opcode of no operation posts FAULT BAD_OPCODE. -/
def Obligations.DescriptorFields : Prop :=
  ∀ (s : State) (p q : Nat) (d : Desc), Taking s q → s.begin.nextTurn = some q → (s.queue q).held = none →
    let share := natField d.w0 10 6
    let level := natField d.w0 8 2
    let r := State.setQueue { s with turnQ := q } q { s.queue q with submitted := some (share, level, natBit d.w0 17) }
    (d.w0 < 2 ^ 18 → d.op4 = 0 → d.op5 = 0 → d.op6 = 0 → d.op7 = 0 → d.op2 < 2 ^ 44 → d.op3 < 2 ^ 44 →
      (natField d.w0 0 8 = 1 → exec (.descriptorFetch p [d] 0) s = exec (.commit q d.tag share level d.op2 d.op3 (natBit d.w0 17)) r) ∧
      (natField d.w0 0 8 = 2 → exec (.descriptorFetch p [d] 0) s = exec (.fence q d.tag (natBit d.w0 16) (natBit d.w0 17)) r) ∧
      (natField d.w0 0 8 = 3 → exec (.descriptorFetch p [d] 0) s = exec (.release q d.tag share d.op2 d.op3 (natBit d.w0 17)) r) ∧
      (natField d.w0 0 8 = 4 → exec (.descriptorFetch p [d] 0) s = exec (.probe q d.tag share d.op2 d.op3 (natBit d.w0 17)) r)) ∧
    (natField d.w0 0 8 = 0 ∨ 0x85 ≤ natField d.w0 0 8 →
      ∃ t, exec (.descriptorFetch p [d] 0) s = .next t ∧ Posts s t q d.tag share level false 6 1 0 ∧ t.turnQ = q ∧ Leaves s t [])

/-- R64: a doorbell value of D or greater moves the queue to ERROR with BAD_SQ_DB or BAD_CQ_DB and records event 0x2101 (its COUNT rises); a tail that
does not advance has no effect on any queue; a completion head that moves backward is ignored and counted in QUE_ERRC.STALE. -/
def Obligations.BadDoorbells : Prop :=
  ∀ (s : State) (h q val : Nat), s.headExists h = true → s.headUp h = true → s.ownsQueue h q = true → (s.queue q).state = 1 →
    ((s.queue q).depth ≤ val →
      (∃ t, exec (.sqTailWrite h q val) s = .next t ∧ (t.queue q).state = 2 ∧ (t.queue q).err = 1 ∧
        (FMap.get {} t.ev.sums 0x2101).count = (FMap.get {} s.ev.sums 0x2101).count + 1) ∧
      ∃ t, exec (.cqHeadWrite h q val) s = .next t ∧ (t.queue q).state = 2 ∧ (t.queue q).err = 2 ∧
        (FMap.get {} t.ev.sums 0x2101).count = (FMap.get {} s.ev.sums 0x2101).count + 1) ∧
    (val < (s.queue q).depth → (val + (s.queue q).depth - (s.queue q).sqHead) % (s.queue q).depth ≤
        ((s.queue q).sqTail + (s.queue q).depth - (s.queue q).sqHead) % (s.queue q).depth →
      ∃ t, exec (.sqTailWrite h q val) s = .next t ∧ (∀ p, t.queue p = s.queue p) ∧ t.tickets = s.tickets ∧ t.out = [] ∧ Leaves s t []) ∧
    (val < (s.queue q).depth → (s.queue q).ring.length < (val + (s.queue q).depth - (s.queue q).cqHead) % (s.queue q).depth →
      ∃ t, exec (.cqHeadWrite h q val) s = .next t ∧ (∀ p, t.queue p = s.queue p) ∧ t.tickets = s.tickets ∧
        t.rdi F.QUE_ERRC_STALE h = min (s.rdi F.QUE_ERRC_STALE h + 1) (2 ^ F.QUE_ERRC_STALE.width - 1) ∧
        Leaves s t [(F.QUE_ERRC_STALE, h)])

/-! ### The Millrace, the Weir and the image -/

/-- R88, R93, R104, R179, R432: SKEIN_START puts a DATA Skein of the selected units in flight under the next generation; SKEIN_COMMIT takes it out of
flight, its units' states, index entries and tickets following; PARTIAL_SKEIN_TIMEOUT permits a Skein of fewer than 112 units. -/
def Obligations.SkeinMovesUnits : Prop :=
  (∀ (s : State) (b : Nat), s.skeinAllowed s.selection.length = true → s.begin.dataBundle.2 = some b →
    s.begin.dataBundle.1.workFits (s.begin.dataBundle.1.bundle b).members = true →
    ∃ t k, exec (.skeinStart []) s = .next t ∧ k ∈ t.im.flight ∧ k.ty = 1 ∧ k.gen = s.begin.dataBundle.1.rd F.MR_GEN_NEXT ∧ k.bundle = b ∧
      k.slots.length = s.selection.length ∧ t.mem = s.mem ∧ t.mr.partialOk = false) ∧
  (∀ (s : State) (k : Skein), s.inFlight k.gen = some k → k.ty = 1 → s.pageBefore k = false →
    exec (.skeinCommit k.gen) s = .next ((s.begin.commitData k).streamEnd).sendFetches) ∧
  (∀ s : State, s.serving = true → 1 ≤ s.selection.length → s.selection.length < 112 →
    exec .partialSkeinTimeout s = .next { s.begin with mr := { s.mr with partialOk := true } })

/-- R88: a slot of a committed Skein: a DRAINING unit becomes CLEAN, its KEEP standing, a REDIRTY one DIRTY again stamped now, both indexed at the slot; a unit in any
other state keeps its state and the slot is void. Every other unit is as before. -/
def Obligations.CommittedUnit : Prop :=
  ∀ (s : State) (g i : Nat) (x : Slot), x.moved = none →
    ((s.unit x.unit).st = 2 → (s.commitSlot g i (some x)).2 = true ∧ ((s.commitSlot g i (some x)).1.unit x.unit).st = 0 ∧
      ((s.commitSlot g i (some x)).1.unit x.unit).keep = (s.unit x.unit).keep ∧
      (s.commitSlot g i (some x)).1.idx x.unit = .slot g i) ∧
    ((s.unit x.unit).st = 3 → (s.commitSlot g i (some x)).2 = true ∧ ((s.commitSlot g i (some x)).1.unit x.unit).st = 1 ∧
      ((s.commitSlot g i (some x)).1.unit x.unit).stamp = s.nowSec ∧ ((s.commitSlot g i (some x)).1.idx x.unit) = .slot g i) ∧
    ((s.unit x.unit).st ≠ 2 → (s.unit x.unit).st ≠ 3 → s.commitSlot g i (some x) = (s, false)) ∧
    (s.commitSlot g i (some x)).1.mem = s.mem ∧
    ∀ v, v ≠ x.unit → (s.commitSlot g i (some x)).1.unit v = s.unit v ∧ (s.commitSlot g i (some x)).1.idx v = s.idx v

/-- R90, R101, R104, R110: the bucket gains RATE × 1 ms up to DEPTH while the core runs; the sweep clamps stamps; MR_MARKS takes values with 0 < LOW < HIGH < SLUICE <
100 and records 0x3008 otherwise; the bucket record is written; a candidate is offered while no fallback set stands.
R141, R144, R150: the tail is flushed as a RECORD Skein; the oldest RECORD Skein in flight commits; an INDEX Skein of the pass in progress commits
and its segment is entered; a readback without one valid copy (its page decodes) writes the anchor again, or abandons the pass in a Save; one with a valid copy of a CHECKPOINT ends the pass. -/
def Obligations.MillraceTimers : Prop :=
  ((∀ s : State, s.phase ≠ phLinger → s.phase ≠ phDormant → s.phase ≠ phOff →
    ∃ t, exec .bucketFill s = .next t ∧
      t.mr.bucket = min (s.wearDepth : Int) (s.mr.bucket + ((max 100 (min 7000 (s.rd F.MR_WEAR_RATE)) * 1000 : Nat) : Int)) ∧ Leaves s t []) ∧
  (∀ s : State, s.serving = true →
    exec .ageSweep s = .next { s.begin with dmap := s.dmap.map fun (e : Nat × Nat × UnitSt) => (e.1, e.2.1, e.2.2.swept s.nowSec) }) ∧
  (∀ (s : State) (val : Nat), 0 < natField val 8 8 → natField val 8 8 < natField val 16 8 → natField val 16 8 < natField val 24 8 →
    natField val 24 8 < 100 →
    exec (.mrMarksWrite val) s = .next ((((s.begin.wr F.MR_MARKS_LOW (natField val 8 8)).wr F.MR_MARKS_HIGH (natField val 16 8)).wr
      F.MR_MARKS_SLUICE (natField val 24 8)).wr F.MR_MARKS_HYST (natField val 48 16)).settleMr) ∧
  (∀ (s : State) (val : Nat), 100 ≤ natField val 24 8 ∨ natField val 8 8 = 0 → exec (.mrMarksWrite val) s = .next (s.begin.event 0x3008 [val])) ∧
  (∀ s : State, s.serving = true → s.mpRuns = true →
    ∃ t, exec .bucketRecordWrite s = .next t ∧ t.mr.record = some s.mr.bucket ∧ t.mem = s.mem) ∧
  (∀ s : State, s.spRuns 0 = true → s.serving = true → s.rd F.MR_WEIR_FBSET = 0 →
    let c := s.begin.weirTerms (s.begin.weirIn 0)
    exec .weirCandidate s = .next
      (State.offer { s.begin.weirRegs.wr F.MR_WEIR_FBSET 0 with mr := { s.mr with reflected := 0 } } c.gib c.bind))) ∧
  ((∀ s : State, s.serving = true → s.armed = true → exec .journalFlushTimeout s = .next s.begin.flushTail.retrySeg) ∧
  (∀ (s : State) (k : Skein), (s.im.flight.find? fun k => k.ty == 3) = some k →
    exec (.recordSkeinCommit k.gen) s = .next (s.begin.commitRecord k)) ∧
  (∀ (s : State) (k : Skein), (s.im.flight.find? fun k => k.ty == 2) = some k → s.phase ≠ phSave → s.im.passLsn ≠ none →
    let r : State := { s.begin.land k.gen with im := { (s.begin.land k.gen).im with
      skeins := FMap.put (s.begin.land k.gen).im.skeins k.gen k, segs := (s.begin.land k.gen).im.segs ++ [((s.begin.land k.gen).im.pass, k.seg, k.gen)] } }
    let j := r.journal jIndexSeg [k.seg, r.im.pass, k.bundle, k.page, k.gen, k.snap]
    k.seg + 1 < j.segCount → exec .indexSegmentCommit s = .next (j.startSeg (k.seg + 1))) ∧
  (∀ (s : State) (a : Anchor) (bits : List (List Nat)), s.im.anchorW = some a → (s.begin.readBack a bits).2 = 0 →
    (s.phase ≠ phSave ∨ a.kind ≠ 1 → exec (.anchorReadback bits) s = .next ((s.begin.readBack a bits).1.rewriteAnchor a)) ∧
    (s.phase = phSave → a.kind = 1 → exec (.anchorReadback bits) s = .next (State.dropPass { (s.begin.readBack a bits).1 with
      im := { (s.begin.readBack a bits).1.im with anchorW := none } } 1))) ∧
  (∀ (s : State) (a : Anchor) (bits : List (List Nat)), s.im.anchorW = some a → (s.begin.readBack a bits).2 ≠ 0 → a.kind = 1 →
    s.flag F.GEN_ADMIT_FIRST = false →
    exec (.anchorReadback bits) s = .next ((s.begin.readBack a bits).1.passDone a (s.begin.readBack a bits).2)) ∧
  (∀ (a : Anchor) (bits : List (List Nat)) (s : State), (s.readBack a bits).2 =
    ((indexed a.copies).filter fun p => pageDecodes 72 (bits.getD p.1 [])).length))

/-! ### Shares -/

/-- R21, R30, R34: SHARE_CREATE of a free number and a range that fits defines the share in its mode and completes DONE; SHARE_DELETE of a READY share
with no ticket in flight undefines it and completes DONE; a write of SHR_CFG_n with EN 1 defines the share its registers describe.
R30, R75, R209: SHARE_MODE between HELD and WRITETHRU commits and completes DONE; SHARE_SET takes the grants and settings its flags name; a full sync
whose JOIN is acknowledged commits: LIVE, READY and TWINED. -/
def Obligations.ShareOperations : Prop :=
  ((∀ (s : State) (h tag n base size cfg grants : Nat), AdminReady s h → s.flag F.SEC_STS_DRBGOK = true → s.phase = phService →
    s.changing n = false → s.removing = false → s.shDefined n = false → (natField cfg 0 3 = 0 ∨ natField cfg 0 3 = 1 ∨ natField cfg 0 3 = 4) →
    s.fits n base size = true → (natField cfg 0 3 = 0 ∨ s.admitted = true) →
    exec (.shareCreate h tag n base size cfg grants none) s =
      .next ((((adminCapture s h tag n).1.setShareRegs n base size (natField cfg 32 8) (natField cfg 20 3) (natField cfg 16 1)
        (natField cfg 0 3) grants).defineShare n (natField cfg 0 3)).finish (adminCapture s h tag n).2 0 0 0)) ∧
  (∀ (s : State) (h tag n : Nat), AdminReady s h → s.phase = phService → s.shDefined n = true → s.changing n = false → s.removing = false →
    (s.shMode n = mdVolatile ∨ s.shMode n = mdHeld ∨ s.shMode n = mdWritethru) → s.shState n = shReady → s.ticketsOn n = false →
    exec (.shareDelete h tag n) s = .next (((adminCapture s h tag n).1.undefineShare n).finish (adminCapture s h tag n).2 0 0 0)) ∧
  (∀ (s : State) (n val : Nat), n < 64 → s.flag F.SEC_STS_DRBGOK = true → s.phase = phService → s.removing = false →
    s.flagi F.SHR_CFG_EN n = false → natBit val 63 = true → natField val 0 3 = 0 →
    s.fits n (s.rdi F.SHR_BASE_ADDR n * 2 ^ 28) (s.rdi F.SHR_SIZE_ADDR n * 2 ^ 28) = true →
    exec (.shrCfgEnWrite n val) s =
      .next ((((((s.begin.wri F.SHR_CFG_WT_CAP n (natField val 32 8)).wri F.SHR_CFG_RPRI n (natField val 20 3)).wri F.SHR_CFG_HOT n
        (natField val 16 1)).wri F.SHR_CFG_MODE n 0).wri F.SHR_CFG_EN n 1).defineShare n 0))) ∧
  ((∀ (s : State) (h tag n m dst : Nat), AdminReady s h → s.flag F.SEC_STS_DRBGOK = true → s.shDefined n = true → s.phase = phService →
    s.changing n = false → s.removing = false → s.shState n = shReady → s.shMode n = m →
    (m = mdHeld ∧ dst = mdWritethru ∨ m = mdWritethru ∧ dst = mdHeld) →
    exec (.shareMode h tag n dst none) s = .next (((adminCapture s h tag n).1.commitMode n dst).finish (adminCapture s h tag n).2 0 0 0)) ∧
  (∀ (s : State) (h tag n cfg grants : Nat), AdminReady s h → s.serving = true → s.shDefined n = true →
    exec (.shareSet h tag n 3 cfg grants) s =
      .next ((((((adminCapture s h tag n).1.wri F.SHR_HEADS_GRANT n grants).wri F.SHR_CFG_WT_CAP n (natField cfg 32 8)).wri F.SHR_CFG_RPRI n
        (natField cfg 20 3)).wri F.SHR_CFG_HOT n (natField cfg 16 1)).settleMr.finish (adminCapture s h tag n).2 0 0 0)) ∧
  (∀ (s : State) (n q : Nat), FMap.find s.tw.joinSeq n = some q → s.pstate n = psSync → q ≤ s.rd F.TW_ASEQ_VALUE → s.spRuns 3 = true →
    let r : State := { s.begin with tw := { s.tw with joinSeq := FMap.del s.tw.joinSeq n } }
    let r := (((((r.setPstate n psLive).setLossrep n false).endChange n).setShState n shReady).commitMode n mdTwined).copyEnded n
    exec (.fullSyncCommit n) s = .next (match r.inProgress n 0x51 with
      | some k => r.finish k 0 0 0
      | none => r)))

/-- R30, R32: SHARE_CREATE, SHARE_MODE and SHARE_DELETE outside SERVICE are refused with reason 11; during a change or a removal hold with reason 8;
SHARE_DELETE with tickets in flight with reason 1. A refusal posts REFUSED, writes SHR_STATUS.REFUSE, and changes nothing else of the share. The
order of the causes is the model's (log 17). -/
def Obligations.ShareRefusals : Prop :=
  ∀ (s : State) (h tag n : Nat), AdminReady s h → n < 64 → s.shDefined n = true → s.spRuns 3 = true →
    (∀ (c : Instr) (why dst : Nat) (peer : Option Nat),
      (s.phase ≠ phService ∧ why = 11 ∧ (c = .shareDelete h tag n ∨ c = .shareMode h tag n dst peer) ∨
        s.phase = phService ∧ (s.changing n = true ∨ s.removing = true) ∧ why = 8 ∧
          (c = .shareDelete h tag n ∨ c = .shareMode h tag n dst peer) ∨
        s.phase = phService ∧ s.changing n = false ∧ s.removing = false ∧ s.shMode n = mdHeld ∧ s.shState n = shReady ∧ s.ticketsOn n = true ∧
          why = 1 ∧ c = .shareDelete h tag n) →
      ∃ t, exec c s = .next t ∧ Posts s t (s.adminQueue h) tag n 0 false 4 why 0 ∧ t.rdi F.SHR_STATUS_REFUSE n = why ∧
        Leaves s t [(F.SHR_STATUS_REFUSE, n)])

/-! ### Host reads and writes -/

/-- R39 to R42, R89: a write from a head in L0 with a credit, decoded to a line present in DRAM of a share the head may write, stores the enabled bytes
of that line and changes no other byte of memory; its completion is sent; the line's unit of a counted share is no longer CLEAN. -/
def Obligations.HostWriteStores : Prop :=
  ∀ (s : State) (h hpa line n : Nat) (data : BitVec 512) (be : BitVec 64), s.headExists h = true → s.headUp h = true →
    s.writeCredit h = true → s.flagi F.HP_LINK_VIRAL h = false → s.lineOf h hpa = some line → s.mayWrite h line = true →
    s.shareOf (line / 64) = some n → s.rmapOf (line / 64) = 0 →
    ∃ t, exec (.hostWrite h hpa data be false) s = .next t ∧ .writeDone h ∈ t.out ∧
      (∀ a, memByte t.mem a =
        if line * 64 ≤ a ∧ a < line * 64 + 64 ∧ be.getLsbD (a - line * 64) = true then lineByte data (a - line * 64) else memByte s.mem a) ∧
      (s.counted n = true → (t.unit (line / 64)).st ≠ 0) ∧ t.index = s.index ∧ t.lsa = s.lsa

/-- R44: a read from a head in L0 with a credit of a clean line present in DRAM, of an open share whose grant and mode permit it, answers the line's
content and changes only HP_LAT_k.MAXRD. -/
def Obligations.HostReadAnswers : Prop :=
  ∀ (s : State) (h hpa wait line n : Nat), s.headExists h = true → s.headUp h = true → s.readCredit h = true →
    s.flagi F.HP_LINK_VIRAL h = false → s.lineOf h hpa = some line → s.shareOf (line / 64) = some n → s.readGranted n h = true →
    s.shOpen n = true → s.serving = true → s.rmapOf (line / 64) = 0 → (s.mch (unitChan (line / 64))).state ≠ 4 → s.linePoisoned line = false →
    ∃ t, exec (.hostRead h hpa wait .clean) s = .next t ∧ t.out = [.readData h (memLine s.mem (line * 64)) false] ∧
      t.rdi F.HP_LAT_MAXRD h = max (s.rdi F.HP_LAT_MAXRD h) (min 0xFFFF (s.rdi F.HP_LAT_IDLE h + wait)) ∧ Leaves s t [(F.HP_LAT_MAXRD, h)]

/-- R23, R40: a write to a share the head's grant or mode forbids is discarded, completes, and counts in SHR_VIOL_n.WR; a read of a share forbidden to it
is answered with poison and counts in SHR_VIOL_n.RD. Memory, the dirty map and the index are unchanged. -/
def Obligations.DeniedAccess : Prop :=
  ∀ (s : State) (h hpa line n : Nat), n < 64 → s.headExists h = true → s.headUp h = true → s.flagi F.HP_LINK_VIRAL h = false →
    s.lineOf h hpa = some line → s.shareOf (line / 64) = some n →
    (∀ (data : BitVec 512) (be : BitVec 64), s.writeCredit h = true → s.writeGranted n h = false →
      ∃ t, exec (.hostWrite h hpa data be false) s = .next t ∧ t.out = [.writeDone h] ∧
        t.rdi F.SHR_VIOL_WR n = min (s.rdi F.SHR_VIOL_WR n + 1) (2 ^ F.SHR_VIOL_WR.width - 1) ∧ Leaves s t [(F.SHR_VIOL_WR, n)]) ∧
    (∀ (wait : Nat) (err : LineError), s.readCredit h = true → s.readGranted n h = false →
      ∃ t, exec (.hostRead h hpa wait err) s = .next t ∧ t.out = [.readData h (BitVec.ofNat 512 (Config.free s.freeCtr)) true] ∧
        t.rdi F.SHR_VIOL_RD n = min (s.rdi F.SHR_VIOL_RD n + 1) (2 ^ F.SHR_VIOL_RD.width - 1) ∧
        Leaves s t [(F.SHR_VIOL_RD, n), (F.HP_LAT_MAXRD, h), (F.HP_POIS_TXPOIS, h)])

/-- R47, R50: Inject Poison poisons the addressed line of a share granted read-write with source Injected; Clear Poison writes the supplied bytes as a
host write, from a head in Viral nothing (the model's reading, log 218); a finished Scan Media applies each line found in its range, keeps them as its results and ends. -/
def Obligations.PoisonCommands : Prop :=
  (∀ (s : State) (k dpa n : Nat), MailboxReady s (.head k) → s.shareOf (dpa / 4096) = some n → s.grant n k = 2 →
    (s.rmapOf (dpa / 4096) ≠ 1 →
      exec (.injectPoison (.head k) dpa) s = .next ((s.begin.poisonLine (dpa / 64) 0).reply (.head k) .success [])) ∧
    (s.rmapOf (dpa / 4096) = 1 →
      exec (.injectPoison (.head k) dpa) s = .next ((State.poisonLine { s.begin with rs := { s.rs with injected := dpa / 64 :: s.rs.injected } }
        (dpa / 64) 0).reply (.head k) .success []))) ∧
  (∀ (s : State) (k dpa n : Nat) (data : BitVec 512), MailboxReady s (.head k) → s.shareOf (dpa / 4096) = some n →
    (s.flagi F.HP_LINK_VIRAL k = false → s.mayWrite k (dpa / 64) = true →
      exec (.clearPoison (.head k) dpa data) s =
        .next ((s.begin.acceptLine k n (dpa / 64) data (BitVec.allOnes 64) false).reply (.head k) .success [])) ∧
    (s.flagi F.HP_LINK_VIRAL k = true →
      exec (.clearPoison (.head k) dpa data) s = .next (s.begin.reply (.head k) .success []))) ∧
  (∀ (s : State) (h dpa len : Nat) (found : List Nat), (s.head h).bg = some (0x4304, dpa, len) →
    let l := found.filter fun x => decide (dpa / 64 ≤ x) && decide (x * 64 < dpa + len)
    let t := l.foldl State.uncorrectableLine s.begin
    exec (.scanMediaComplete h found) s = .next (t.setHead h { t.head h with bg := none, scan := l }))

/-! ### Heads and their mailboxes -/

/-- R36, R46, R53, R54, R56: a link returning from recovery takes width, rate and credits and L0; LINK_RECOVERY counts replays and, where the link enters recovery, pauses the queues;
a timeout in recovery and a surprise in L0 take the link down; Viral and an IDE failure set their bits; the GPF phases count and answer.
R39, R51, R53, R56, R81, R385: PERST# low while hosts are served resets the function; PERST# high lets a head train; FLR disables the queues and
ends the background command, memory unchanged; HP_CTL_k.RETRAIN and Head Retrain put an L0 link in recovery; a legal, unlocked decoder commits. -/
def Obligations.HeadEvents : Prop :=
  ((∀ (s : State) (h width rate : Nat) (flit : Bool), s.mayTrain h = true → s.rdi F.HP_LINK_STATE h = 4 → (s.head h).retrain = none →
    s.flagi F.HP_PORT_CFG_BIF (h % 8) = false → 16 ≤ width →
    let r := min rate (s.rdi F.HP_PORT_CFG_MAXRATE (h % 8))
    let a := ((s.begin.wri F.HP_LINK_RATE h r).wri F.HP_LINK_WIDTH h 16).wri F.HP_LINK_FLIT256 h (bit01 (r == 3 || flit))
    let b := ((((a.wri F.HP_CRED_ADV h (a.headCredits h)).setLink h 3).setIdle h).bumpi F.HP_LERR_RECOV h).event 0x1003 [h]
    exec (.headLinkUp h width rate flit) s = .next ((b.setHead h { b.head h with retrain := none }).pauseQueues h false)) ∧
  (∀ (s : State) (h replays : Nat), s.headUp h = true →
    exec (.linkRecovery h replays false) s = .next (s.begin.addi F.HP_LERR_REPLAY h replays) ∧
    exec (.linkRecovery h replays true) s = .next (((s.begin.addi F.HP_LERR_REPLAY h replays).setLink h 4).pauseQueues h true)) ∧
  (∀ (s : State) (h : Nat), s.rdi F.HP_LINK_STATE h = 4 → exec (.linkDownTimeout h) s = .next (s.begin.linkDown h)) ∧
  (∀ (s : State) (h : Nat), s.headUp h = true → exec (.surpriseLinkDown h) s = .next (s.begin.linkDown h)) ∧
  (∀ (s : State) (h : Nat), s.headUp h = true → s.flagi F.HP_LINK_IDE h = true →
    exec (.ideIntegrityFailure h) s = .next ((((s.begin.event 0x1004 [h]).wri F.HP_LINK_IDEFAIL h 1).headChanged h).linkDown h)) ∧
  (∀ (s : State) (h : Nat), s.headUp h = true → s.flagi F.HP_LINK_VIRAL h = false →
    exec (.viral h) s = .next (((s.begin.wri F.HP_LINK_VIRAL h 1).headChanged h).event 0x1005 [h])) ∧
  (∀ (s : State) (h : Nat), s.headUp h = true →
    (∃ t, exec (.gpfPhase1 h) s = .next t ∧ t.out = [.gpf h 1] ∧ Leaves s t [(F.HP_GPF_PH1, h)] ∧
      t.rdi F.HP_GPF_PH1 h = min (s.rdi F.HP_GPF_PH1 h + 1) (2 ^ F.HP_GPF_PH1.width - 1)) ∧
    ∃ t, exec (.gpfPhase2 h) s = .next t ∧ t.out = [.gpf h 2] ∧ Leaves s t [(F.HP_GPF_PH2, h)] ∧
      t.rdi F.HP_GPF_PH2 h = min (s.rdi F.HP_GPF_PH2 h + 1) (2 ^ F.HP_GPF_PH2.width - 1))) ∧
  ((∀ (s : State) (h : Nat), h < 16 → s.serving = true → s.headExists h = true → s.headUp h = true →
    exec (.hpPerstAssert h) s = .next (((s.begin.setBit F.GEN_PINS_PERST h false).linkDown h).resetFunction h).updReady) ∧
  (∀ (s : State) (h : Nat), h < 16 → s.phase = phService →
    let t := s.begin.setBit F.GEN_PINS_PERST h true
    t.mayTrain h = true → t.rdi F.HP_LINK_STATE h = 1 → exec (.hpPerstRelease h) s = .next (t.setLink h 2)) ∧
  (∀ (s : State) (h : Nat), s.headExists h = true → s.headUp h = true →
    ∃ t, exec (.headFlr h) s = .next t ∧ (t.head h).bg = none ∧ (∀ c ∈ t.mpWait, c.1 ≠ h) ∧ t.flagi F.QUE_ACTL_EN h = false ∧
      (∀ a, memByte t.mem a = memByte s.mem a) ∧ t.poisoned = s.poisoned ∧ t.dmap = s.dmap ∧ (t.head h).decoders = (s.head h).decoders) ∧
  (∀ (s : State) (h val : Nat), s.headExists h = true → s.headUp h = true → natBit val 63 = true →
    exec (.hpCtlRetrain h val) s = .next (((s.begin.wri F.HP_CTL_DOWN_TO h (natField val 16 8)).setLink h 4).pauseQueues h true)) ∧
  (∀ (s : State) (v : Via) (h : Nat), MailboxReady s v → s.headExists h = true → s.headUp h = true → (s.head h).retrain = none →
    exec (.headRetrain v h 32) s =
      .next ((((s.begin.setHead h { s.head h with retrain := some (v, 2) }).setLink h 4).pauseQueues h true))) ∧
  (∀ (s : State) (h i base size ways gran dpa : Nat) (lock : Bool), s.headExists h = true → s.headUp h = true → i < 8 →
    (FMap.get {} (s.head h).decoders i).lock = false →
    let d : Decoder := { base := base, size := size, ways := ways, gran := gran, dpa := dpa, committed := true, lock := lock, error := false }
    d.legal = true → ((s.head h).decoders.any fun e => e.1 != i && e.2.committed && e.2.overlaps d) = false →
    exec (.hdmDecoderCommit h i base size ways gran dpa lock) s =
      .next (s.begin.setHead h { s.head h with decoders := FMap.put (s.head h).decoders i d })))

/-- R39: a decoder committed with LOCK keeps its setting whatever is committed at its index; a commit that overlaps or is not supported leaves the decoder
uncommitted with Commit Error. -/
def Obligations.DecoderLock : Prop :=
  ∀ (s : State) (h i base size ways gran dpa : Nat) (lock : Bool),
    ((FMap.get {} (s.head h).decoders i).committed = true → (FMap.get {} (s.head h).decoders i).lock = true →
      ∃ t, exec (.hdmDecoderCommit h i base size ways gran dpa lock) s = .next t ∧ t.heads = s.heads ∧ Leaves s t []) ∧
    (s.headExists h = true → s.headUp h = true → i < 8 → (FMap.get {} (s.head h).decoders i).lock = false →
      ∀ j e, j ≠ i → FMap.find (s.head h).decoders j = some e → e.committed = true → e.dpa < dpa + size / max 1 ways →
      dpa < e.dpa + e.size / max 1 e.ways →
      ∃ t, exec (.hdmDecoderCommit h i base size ways gran dpa lock) s = .next t ∧
        (FMap.get {} (t.head h).decoders i).committed = false ∧ (FMap.get {} (t.head h).decoders i).error = true)

/-- R47 to R51: the answers and effects of the memory-device commands through a ready mailbox.
R48, R49, R316: Get LSA reads and Set LSA writes the bytes of the head's own area only; an access beyond 128 KiB returns Invalid Input; the
shutdown state is read and written; over MCTP these need a head context and return Unsupported. -/
def Obligations.MailboxCommands : Prop :=
  (∀ (s : State) (v : Via), MailboxReady s v →
    exec (.identifyMemoryDevice v) s =
      .next (s.begin.reply v .success [s.rd F.SHR_CAP_VISIBLE * 2 ^ 28, s.rd F.SHR_CAP_VISIBLE * 2 ^ 28, 0, 0, 131072, 65536]) ∧
    exec (.getPartitionInfo v) s = .next (s.begin.reply v .success [0, s.rd F.SHR_CAP_VISIBLE * 2 ^ 28, 0, 0]) ∧
    exec (.setPartitionInfo v) s = .next (s.begin.reply v .unsupported []) ∧
    exec (.getHealthInfo v) s =
      .next (s.begin.skipFree.reply v .success [s.freeVal, s.mediaStatus v.idx, s.rd F.FC_WEAR_MEAN * 100 / max 1 (s.rd F.FC_CFG_WEARLIM),
        (s.pw.tj % (2 ^ 16 : Int)).toNat, s.rdi F.HP_SHUT_DSC v.idx, s.mc.ceVol, s.mc.cePer]) ∧
    exec (.getAlertConfiguration v) s = .next (s.begin.reply v .success s.alerts) ∧
    (∀ life hi lo, exec (.setAlertConfiguration v life hi lo) s =
      .next (State.reply { s.begin with alerts := [life, hi, lo] } v .success [])) ∧
    (∀ dpa len max, exec (.getPoisonList v dpa len max) s =
      (let l := s.poisonList.filter fun p => s.poisonSeen v p && decide (p.line * 64 < dpa + len) && decide (dpa < (p.line + p.len) * 64)
       let m := mctpMost v max 338
       .next (s.begin.reply v .success (bit01 (decide (m < l.length)) :: (match s.poisonOvf with | some n => [1, n] | none => [0, 0]) ++
         (l.take m).flatMap fun p => [p.line * 64, p.len, p.source])))) ∧
    (∀ dpa len, dpa + len ≤ s.rd F.SHR_CAP_VISIBLE * 2 ^ 28 →
      exec (.getScanMediaCapabilities v dpa len) s = .next (s.begin.reply v .success [Config.free s.freeCtr]).skipFree ∧
      ((s.head (bgKey v)).bg = none → exec (.scanMedia v dpa len) s =
        (let a := s.begin.setHead (bgKey v) { s.head (bgKey v) with bg := some (0x4304, dpa, len) }
         .next ((a.setHead (bgKey v) { a.head (bgKey v) with scan := [] }).reply v .background [])))) ∧
    exec (.getScanMediaResults v) s = .next (s.begin.reply v .success
      (bit01 (match (s.head (bgKey v)).bg with | some (0x4304, _, _) => true | _ => false) :: (s.head (bgKey v)).scan)) ∧
    exec (.getHeadCounters v) s = .next (s.begin.reply v .success ((List.range 16).flatMap s.headCounters))) ∧
  ((∀ (s : State) (k : Nat), MailboxReady s (.head k) →
    (∀ off len, off + len ≤ 131072 →
      exec (.getLsa (.head k) off len) s =
        .next (s.begin.reply (.head k) .success ((memRead s.lsa (k * 131072 + off) len).map BitVec.toNat))) ∧
    (∀ off (data : List Byte), off + data.length ≤ 131072 →
      ∃ t, exec (.setLsa (.head k) off data) s = .next t ∧ t.out = [.reply (.head k) .success []] ∧ t.mem = s.mem ∧
        (∀ i (h : i < data.length), memByte t.lsa (k * 131072 + off + i) = data[i]) ∧
        ∀ a, a < k * 131072 + off ∨ k * 131072 + off + data.length ≤ a → memByte t.lsa a = memByte s.lsa a) ∧
    (∀ off (data : List Byte), 131072 < off + data.length →
      exec (.setLsa (.head k) off data) s = .next (s.begin.reply (.head k) .invalidInput []) ∧
      exec (.getLsa (.head k) off data.length) s = .next (s.begin.reply (.head k) .invalidInput [])) ∧
    exec (.getShutdownState (.head k)) s = .next (s.begin.reply (.head k) .success [s.rdi F.HP_SHUT_DIRTY k]) ∧
    ∀ d, exec (.setShutdownState (.head k) d) s = .next ((s.begin.wri F.HP_SHUT_DIRTY k (bit01 d)).reply (.head k) .success [])) ∧
  ∀ (s : State) (p : Option Nat), MailboxReady s (.mctp p) →
    (∀ off len, exec (.getLsa (.mctp p) off len) s = .next (s.begin.reply (.mctp p) .unsupported [])) ∧
    (∀ off data, exec (.setLsa (.mctp p) off data) s = .next (s.begin.reply (.mctp p) .unsupported [])) ∧
    exec (.getShutdownState (.mctp p)) s = .next (s.begin.reply (.mctp p) .unsupported []) ∧
    ∀ d, exec (.setShutdownState (.mctp p) d) s = .next (s.begin.reply (.mctp p) .unsupported []))

/-! ### The event recorder -/

/-- R369, R371, R375: a raising adds one to the code's COUNT and to no other's; the on-die buffer of 4,096 is never exceeded; an occurrence that finds
it full is counted suppressed, dropped and unbinned. -/
def Obligations.RaisingCounts : Prop :=
  ∀ (s : State) (c : Nat) (l : List Nat), s.ev.queue.length ≤ 4096 →
    (FMap.get {} (s.event c l).ev.sums c).count = (FMap.get {} s.ev.sums c).count + 1 ∧
    (∀ d, d ≠ c → FMap.get {} (s.event c l).ev.sums d = FMap.get {} s.ev.sums d) ∧
    (s.event c l).ev.queue.length ≤ 4096 ∧
    (s.ev.queue.length = 4096 → (s.event c l).ev.queue = s.ev.queue ∧
      (FMap.get {} (s.event c l).ev.sums c).suppr = (FMap.get {} s.ev.sums c).suppr + 1 ∧
      (FMap.get {} (s.event c l).ev.sums c).dropped = (FMap.get {} s.ev.sums c).dropped + 1) ∧
    (s.event c l).out = s.out ∧ Leaves s (s.event c l) []

/-- R371: an occurrence adds one to exactly one bin or to the unbinned count; the two together saturate at 2^32 - 1. -/
def Obligations.EveryOccurrenceBinned : Prop :=
  ∀ (u : Summary) (code : Nat) (m : Option Int), u.hist.length ≤ 16 →
    (u.binned + u.unbinned < 2 ^ 32 - 1 → (u.bin code m).binned + (u.bin code m).unbinned = u.binned + u.unbinned + 1) ∧
    (2 ^ 32 - 1 ≤ u.binned + u.unbinned → u.bin code m = u) ∧ (u.bin code m).hist.length ≤ 16

/-- R369, R371, R374, R375, R377: OCCURRENCE_PROCESS takes the oldest occurrence; a checkpoint stands; an episode ends; EV_S_0 latches the summary
selected; a write of EV_LSEL fetches the entry into EV_L_0 to EV_L_7; the operating seconds go to NOR.
R378, R379: the recorder's commands and those of a head's CXL event logs. -/
def Obligations.Recorder : Prop :=
  ((∀ (s : State) (o : Occ) (q : List Occ), s.ev.queue = o :: q → s.mpRuns = true → s.flag F.EV_STS_AVAIL = true → s.phase = phService →
    exec .occurrenceProcess s = .next (State.processOcc { s.begin with ev := { s.ev with queue := q } } o)) ∧
  (∀ s : State, s.phase = phService → s.flag F.EV_STS_AVAIL = true →
    ∃ t, exec .recorderCheckpoint s = .next t ∧ t.ev.ckpt = s.ev.sums ∧ t.ev.ckptSeq = some s.ev.next ∧ t.mem = s.mem ∧
      s.ev.next < t.ev.next) ∧
  (∀ (s : State) (n : Nat), s.ev.episode = some n → 1000000000 ≤ s.devLevel →
    exec .deviceLimitEpisodeEnd s = .next (State.event { s.begin with ev := { s.ev with episode := none } } 0xF005 [n])) ∧
  (∀ (s : State) (c : Nat) (u : Summary), s.flag F.EV_STS_AVAIL = true → s.mpRuns = true → s.flag F.EV_SEL_ITER = false → s.rd F.EV_SEL_CODE = c →
    FMap.find s.ev.sums c = some u →
    ∃ t, exec .evS0Read s = .next t ∧ t.ev.sumWin = u.words c ∧ t.out = [.regData [(u.words c).getD 0 0]] ∧ Leaves s t [(F.EV_SEL_CODE, 0)]) ∧
  (∀ (s : State) (val : Nat),
    ∃ t, exec (.evLselWrite val) s = .next t ∧ t.ev.fetch = true ∧ t.rd F.EV_LSEL_SEQ = val % 2 ^ F.EV_LSEL_SEQ.width ∧
      t.rd F.EV_LSTS_STATUS = 0 ∧ Leaves s t [(F.EV_LSEL_SEQ, 0), (F.EV_LSTS_STATUS, 0)]) ∧
  (∀ (s : State) (e : LogEntry), s.ev.fetch = true → s.rd F.EV_RANGE_OLDEST ≤ s.rd F.EV_LSEL_SEQ →
    (s.ev.log.find? fun e => e.seq == s.rd F.EV_LSEL_SEQ) = some e →
    ∃ t, exec .logEntryFetchComplete s = .next t ∧ t.ev.entWin = e.words ∧ t.rd F.EV_LSTS_STATUS = 1 ∧ t.ev.fetch = false ∧
      Leaves s t [(F.EV_LSTS_STATUS, 0)]) ∧
  (∀ s : State, s.mpRuns = true → s.phase = phService →
    ∃ t, exec .operatingSecondsWrite s = .next t ∧ t.ev.opsStored = s.ev.opsNs / 1000000000 ∧ t.mem = s.mem)) ∧
  (∀ (s : State) (v : Via), MailboxReady s v →
    (∀ code, exec (.getEventLayout v code) s = .next (s.begin.reply v .success ((Config.evLayout code).flatMap (fun p => [p.1, p.2]) ++
      [Config.evItem code, bit01 (Config.evSigned code), Config.evBase code, bit01 (criticalCode code)]))) ∧
    (∀ code u, FMap.find s.ev.sums code = some u → exec (.getEventSummary v code) s = .next (s.begin.reply v .success (u.words code))) ∧
    (∀ first count, 0 < count → count ≤ 4096 → exec (.getEventEntries v first count) s = .next (s.begin.reply v .success
      (((s.ev.log.reverse.filter fun e => max first (s.rd F.EV_RANGE_OLDEST) ≤ e.seq).take (mctpMost v count 127)).flatMap LogEntry.words))) ∧
    (∀ log max, log ≤ 3 → exec (.getEventRecords v log max) s =
      (let l := FMap.get [] (s.head v.idx).logs log
       let m := mctpMost v max 63
       .next (s.begin.reply v .success ([FMap.get 0 (s.head v.idx).logOvf log, bit01 (decide (m < l.length)), (l.take m).length] ++
         (l.take m).flatMap CxlRec.words)))) ∧
    (∀ log, log ≤ 3 → exec (.clearEventRecords v log true []) s = .next ((s.begin.setHead v.idx { s.head v.idx with
      logs := FMap.put (s.head v.idx).logs log [], logOvf := FMap.put (s.head v.idx).logOvf log 0 }).reply v .success [])) ∧
    (∀ settings, settings.length = 4 → ∃ t, exec (.setEventInterruptPolicy v settings) s = .next t ∧ t.out = (s.begin.reply v .success []).out ∧
      (∀ i, i < 4 → FMap.get 0 (t.head v.idx).policy i = settings.getD i 0) ∧ Leaves s t []) ∧
    exec (.getEventInterruptPolicy v) s =
      .next (s.begin.reply v .success ((List.range 4).map fun i => FMap.get 0 (s.head v.idx).policy i)))

/-! ### Register accesses -/

/-- R401, R404, R415: an aligned 8-byte write of a register whose write is no action of its own writes its fields; a write of another size or
alignment changes no register, memory or queue; Read Registers answers the values of its consecutive reads. -/
def Obligations.RegisterAccesses : Prop :=
  (∀ (s : State) (h off val : Nat), s.viaOpen (.head h) = true → s.flag F.SEC_STS_DRBGOK = true → off % 8 = 0 → 0xF0008 ≤ off → off < 0x100000 →
    off ≠ 0xF0018 → s.isolated off = false →
    exec (.registerWrite h 0 off 8 val) s = .next (s.begin.afterWrite (s.begin.writeFields h off val) off)) ∧
  (∀ (s : State) (h off size val : Nat), s.viaOpen (.head h) = true → size ≠ 8 ∨ off % 8 ≠ 0 →
    ∃ t, exec (.registerWrite h 0 off size val) s = .next t ∧ t.out = [] ∧ t.queues = s.queues ∧ Leaves s t []) ∧
  (∀ (s : State) (v : Via) (off count : Nat), MailboxReady s v → s.flag F.SEC_STS_DRBGOK = true → 0 < count → count ≤ 64 → off % 8 = 0 →
    off < 0x100000 → off / 0x10000 = (off + 8 * count - 8) / 0x10000 →
    exec (.readRegisters v off count) s =
      .next ((s.begin.readRegs v.idx off count).1.reply v .success (s.begin.readRegs v.idx off count).2))

/-- R7, R404: the effect of a write on one field, by its access code. -/
def Obligations.FieldAccess : Prop :=
  ∀ (s : State) (f : Field) (i v : Nat), v < 2 ^ f.width →
    (f.acc = .ro ∨ f.acc = .rc → s.writeField f i v = s) ∧
    (f.acc = .rwl → s.lockedNow f i = true → s.writeField f i v = s) ∧
    (f.acc = .w1c → ∀ b, b < f.width →
      natBit ((s.writeField f i v).rdi f i) b = (natBit (s.rdi f i) b && !natBit v b)) ∧
    (f.acc = .w1s → ∀ b, b < f.width → natBit ((s.writeField f i v).rdi f i) b = (natBit (s.rdi f i) b || natBit v b)) ∧
    (f.acc = .rw → f.limit v = v → (s.writeField f i v).rdi f i = v) ∧
    (∀ g j, f.key i ≠ g.key j → (s.writeField f i v).rdi g j = s.rdi g j)

/-- R409, R413, R414: the configuration record is written with the masked bits and read back; the Command Effects Log is reported and returned. -/
def Obligations.ConfigurationRecord : Prop :=
  (∀ (s : State) (v : Via) (off val mask : Nat), MailboxReady s v → s.phase = phService → mask ≠ 0 → off / 0x10000 = 0xF → bgKey v ≠ 16 →
    Nat.land mask (maskOf v.idx off fun f _ => f.inRecord) = mask →
    let w := Nat.lor (Nat.land (s.regNow v.idx off) (Nat.xor mask (2 ^ 64 - 1))) (Nat.land val mask)
    let u := (fieldsAt v.idx off).foldl (fun (a : State) e =>
      if natField mask e.2.2 e.1.width = 0 ∨ e.1.deferred = true then a else a.writeField e.1 e.2.1 (natField w e.2.2 e.1.width))
        (s.begin.storeConfig off val mask false)
    exec (.setBootConfiguration v off val mask false) s = .next ((s.begin.afterWrite u off).reply v .success [])) ∧
  (∀ (s : State) (off val mask : Nat) (factory : Bool), FMap.get 0 (s.storeConfig off val mask factory).norMask off =
    (if factory then Nat.land (FMap.get 0 s.norMask off) (Nat.xor mask (2 ^ 64 - 1)) else Nat.lor (FMap.get 0 s.norMask off) mask)) ∧
  (∀ (s : State) (v : Via) (off : Nat), MailboxReady s v → fieldsAt v.idx off ≠ [] → s.isolated off = false →
    exec (.getBootConfiguration v off) s = .next (s.begin.reply v .success
      [s.regNow v.idx off, s.nextWord v.idx off, FMap.get 0 s.norMask off, s.factoryWord v.idx off])) ∧
  (∀ (s : State) (v : Via), MailboxReady s v →
    exec (.getSupportedLogs v) s = .next (s.begin.reply v .success [1, celUuid, 4 * celEntries.length]) ∧
    ∀ off len, off + len ≤ 4 * celEntries.length →
      exec (.getLog v celUuid off len) s = .next (s.begin.reply v .success
        (((celEntries.flatMap fun e => [e.1 % 256, e.1 / 256, e.2 % 256, e.2 / 256]).drop off).take len)))

/-! ### The two-wire buses -/

/-- R311 to R314, R323, R324: commands 0x20 to 0x23 on SB, the Alert Response Address, a repeated start and a target timeout. -/
def Obligations.SbWindow : Prop :=
  ∀ s : State, s.sbOn = true →
    (∀ off, off % 8 = 0 → off < 0x100000 → ∃ t, exec (.sbSetPointer off 1) s = .next t ∧ t.twb.ptr = off ∧ t.twb.status = 0 ∧ Leaves s t []) ∧
    (s.twb.ptr % 8 = 0 → s.twb.ptr < 0x100000 → s.flag F.SEC_STS_DRBGOK = true →
      ∃ t, exec (.sbRegRead false) s = .next t ∧ t.twb.ptr = s.twb.ptr + 8 ∧
        t.out.getLast? = some (.bus 0 (0 :: wordBytes [(s.begin.readReg 0 s.twb.ptr).2]))) ∧
    (∀ off val, s.sbWriteStatus off 1 = 0 → s.flag F.SEC_STS_DRBGOK = true → off ≠ 0xD0010 →
      exec (.sbRegWrite off val 1 true) s = .next ((s.begin.writeReg 0 off val true).sbStatus 0)) ∧
    (∀ off val pec, exec (.sbRegWrite off val pec false) s = .next s.begin) ∧
    exec .sbReadStatus s = .next (s.begin.send (.bus 0 [s.twb.status])) ∧
    (s.twb.alert = true → ∃ t, exec (.alertResponse false) s = .next t ∧ t.twb.alert = false ∧ t.out = [.bus 0 [2 * s.rd F.TWB_SB_ADDR]] ∧
      Leaves s t []) ∧
    exec .sbRepeatedStart s = .next (s.begin.bump F.TWB_SB_ERR_RSACK) ∧
    ∀ cmd, exec (.sbTargetTimeout cmd) s = .next ((s.begin.bump F.TWB_SB_ERR_TMO).event 0xC006 [cmd])

/-- R312, R313: a refused register write leaves its status (5 PEC, 4 RANGE, 3 PHASE, 2 LOCKED) and event 0xC007; nothing else changes but
TWB_SB_ERR.PECERR. The order of the causes is the model's (log 125). -/
def Obligations.RefusedSbWrite : Prop :=
  ∀ (s : State) (off val pec : Nat), s.sbOn = true → s.sbWriteStatus off pec ≠ 0 →
    ∃ t, exec (.sbRegWrite off val pec true) s = .next t ∧ t.twb.status = s.sbWriteStatus off pec ∧ t.queues = s.queues ∧
      t.out = [] ∧ (FMap.get {} t.ev.sums 0xC007).count = (FMap.get {} s.ev.sums 0xC007).count + 1 ∧
      Leaves s t [(F.TWB_SB_ERR_PECERR, 0)]

/-- R315: Set Endpoint ID takes an ID; Get Endpoint ID, UUID, Version Support and Message Type Support answer; a first packet that is not the last
opens an assembly that expects the next sequence number.
R318, R320, R324, R325: the faults of an interface that is not in recovery, and its recovery. -/
def Obligations.TwoWire : Prop :=
  (∀ s : State, s.mctpOn = true →
    (∀ eid, 8 ≤ eid → eid ≤ 254 → ∃ t, exec (.setEndpointId eid) s = .next t ∧ t.rd F.TWB_SB_EID = eid ∧ t.out = [.bus 0 [0, 1, 0, 0, eid, 0]] ∧
      Leaves s t [(F.TWB_SB_EID, 0)]) ∧
    (∃ t, exec .getEndpointId s = .next t ∧ t.out = [.bus 0 [0, 2, 0, s.rd F.TWB_SB_EID, 0, 0]] ∧ Leaves s t []) ∧
    (∃ t, exec .getEndpointUuid s = .next t ∧
      t.out = [.bus 0 ([0, 3, 0] ++ (List.range 16).map fun i => natField Config.endpointUuid (8 * (15 - i)) 8)] ∧ Leaves s t []) ∧
    (∃ t, exec (.getMctpVersionSupport 0xFF) s = .next t ∧
      t.out = [.bus 0 ([0, 4, 0] ++ (Config.mctpVersions 0xFF).length :: Config.mctpVersions 0xFF)] ∧ Leaves s t []) ∧
    (∃ t, exec .getMessageTypeSupport s = .next t ∧ t.out = [.bus 0 [0, 5, 0, 2, 0, 8]] ∧ Leaves s t []) ∧
    ∀ src seq tag body, body.length ≤ 64 → ∃ t, exec (.mctpPacket 0 src seq tag true false true body) s = .next t ∧
      t.twb.asm = some { src := src, tag := tag, seq := (seq + 1) % 4, bytes := body } ∧ t.out = [] ∧ Leaves s t []) ∧
  (∀ s : State, s.busOn = true →
    (∀ target, FMap.find s.twb.txs 5 = none → FMap.get 0 s.twb.states 5 = 0 → s.flag F.SEC_STS_DRBGOK = true →
      ∃ t x, exec (.arbitrationLoss 5 target false) s = .next t ∧ FMap.find t.twb.txs 5 = some x ∧ x.losses = 1 ∧ x.target = target ∧
        x.due = s.ck.mono + Config.drbg s.drbgCtr % 64 * 1000 ∧ FMap.get 0 t.twb.states 5 = 1 ∧ Leaves s t []) ∧
    (∀ i x, FMap.find s.twb.txs i = some x → x.wait = 1 → x.due ≤ s.ck.mono →
      ∃ t, exec (.arbitrationBackoffExpiry i) s = .next t ∧ FMap.find t.twb.txs i = some { x with wait := 0 } ∧ Leaves s t []) ∧
    (∀ i target sda, i < 7 → FMap.get 0 s.twb.states i = 1 →
      ∃ t, exec (.controllerTimeout i target sda) s = .next t ∧ FMap.get 0 t.twb.states i = (if sda then 2 else 0) ∧
        FMap.find t.twb.txs i = none ∧ Leaves s t [(F.TWB_LB_ERR_TMO, 0), (F.TWB_EB_TMO, 0)]) ∧
    (∀ target, FMap.find s.twb.txs 5 = none → FMap.get 0 s.twb.states 5 = 0 → 0 < s.rd F.TWB_LB_RETRY →
      ∃ t x, exec (.nackRetry 5 target) s = .next t ∧ FMap.find t.twb.txs 5 = some x ∧ x.nacks = 1 ∧ Leaves s t []) ∧
    (∀ i, i < 7 → FMap.get 0 s.twb.states i = 0 →
      ∃ t, exec (.sdaStuck i) s = .next t ∧ FMap.get 0 t.twb.states i = 2 ∧ FMap.get 0 t.twb.tries i = 0 ∧ Leaves s t []) ∧
    (∀ i p, i < 7 → 2 ≤ FMap.get 0 s.twb.states i →
      exec (.busRecoveryRetry i (some p)) s =
        .next (((((State.setBus { s.begin with twb := { s.twb with tries := FMap.del s.twb.tries i } } i 0)).bump F.TWB_STS_RECOV).event
          0xC002 [i, p]).updReady)) ∧
    exec (.alarmWarningReceived 5) s = .next (s.begin.bump F.TWB_EB_ALERTS))

/-! ### Clocks and time -/

/-- R306: Get Time Status returns CK_STS, CK_TIME, CK_TFRAC, CK_UNC, CK_SERVO and CK_TRIM as one reading: the counter and fraction as they stand,
the other registers field by field at their bit places. -/
def Obligations.TimeStatus : Prop :=
  ∀ (s : State) (v : Via), MailboxReady s v →
    let sts := s.rd F.CK_STS_STATE * 2 ^ 61 + s.rd F.CK_STS_TSRC * 2 ^ 58 + s.rd F.CK_STS_HOLDOVER * 2 ^ 57 + s.rd F.CK_STS_DEGRADED * 2 ^ 56 +
      s.rd F.CK_STS_CLKFAULT * 2 ^ 55 + s.rd F.CK_STS_REFOK * 2 ^ 54 + s.rd F.CK_STS_BOSCOK * 2 ^ 53 + s.rd F.CK_STS_LOCK * 2 ^ 48 +
      s.rd F.CK_STS_TRIPS * 2 ^ 32 + s.rd F.CK_STS_EPOCH * 2 ^ 16
    let tfrac := s.ck.frac * 2 ^ 32
    let unc := s.rateClass * 2 ^ 60 + s.rd F.CK_UNC_UNC
    let servo := s.rd F.CK_SERVO_SSTATE * 2 ^ 62 + s.rd F.CK_SERVO_FREQ * 2 ^ 32 + s.rd F.CK_SERVO_OFFSET
    let trim := s.rd F.CK_TRIM_BOSC * 2 ^ 48 + s.rd F.CK_TRIM_LFO * 2 ^ 40 + s.rd F.CK_TRIM_SRC * 2 ^ 38 + s.rd F.CK_TRIM_SPREAD * 2 ^ 37 +
      min 0x1FFFFF ((s.ck.mono - s.ck.trimAt) / 60000000000) * 2 ^ 16
    exec (.getTimeStatus v) s = .next (s.begin.reply v .success [sts, s.ck.ns % 2 ^ 64, tfrac, unc, servo, trim])

/-- R295, R296: what each monitor trip, retry and return does while the clocks run: the state it answers, on conditions of the state alone. In a Save
a clock failure may end the Save (clockFail): the equations hold there too. -/
def Obligations.ClockFaults : Prop :=
  ∀ s : State, s.clocksRun = true →
    (∀ test, s.rd F.CK_STS_STATE = 2 → exec (.boscMonitorTrip test) s = .next (s.begin.boscTrip test)) ∧
    (∀ test, s.flag F.CK_STS_REFOK = true →
      let t := ((s.begin.trip 0 test).wr F.CK_STS_REFOK 0).headsNoRef
      (s.rd F.CK_STS_STATE = 2 → s.ck.plls = [] → exec (.refclkMonitorTrip test) s = .next t.clockFail) ∧
      (s.rd F.CK_STS_STATE = 3 → exec (.refclkMonitorTrip test) s = .next (t.toLfo 2).clockFail)) ∧
    (s.phase ≠ phSave → s.serving = true →
      (s.rd F.CK_STS_STATE = 4 → exec .refclkReturn s = .next (((s.begin.wr F.CK_STS_REFOK 1).setClock 3 3).trainLinks)) ∧
      (s.rd F.CK_STS_STATE ≠ 4 → exec .refclkReturn s = .next ((s.begin.wr F.CK_STS_REFOK 1).trainLinks))) ∧
    (s.rd F.CK_STS_STATE = 3 ∨ s.rd F.CK_STS_STATE = 4 → s.serving = true → exec .boscReturn s =
      .next (((State.wr { s.begin with ck := { s.ck with fromStart := false } } F.CK_STS_BOSCOK 1).setClock 2 3).trainLinks)) ∧
    (s.rd F.CK_STS_STATE = 1 →
      (∃ t, exec (.clockCheckRetry false) s = .next t ∧ t.flag F.CK_STS_REFOK = false ∧ t.flag F.CK_STS_CLKFAULT = true ∧
        t.rd F.CK_STS_STATE = 1 ∧ Leaves s t [(F.CK_STS_REFOK, 0), (F.CK_STS_CLKFAULT, 0)]) ∧
      (s.ck.starts < 2 → ∃ t, exec (.clockCheckRetry true) s = .next t ∧ t.ck.starts = s.ck.starts + 1 ∧ t.flag F.CK_STS_REFOK = true ∧
        Leaves s t [(F.CK_STS_REFOK, 0)]) ∧
      (s.ck.starts = 2 → ∃ t, exec (.clockCheckRetry true) s = .next t ∧ t.rd F.CK_STS_STATE = 3 ∧ t.rd F.CK_STS_LOCK = 15 ∧
        t.flag F.CK_STS_DEGRADED = true ∧ t.ck.fromStart = true ∧ t.mem = s.mem)) ∧
    (∀ lfo, s.rd F.CK_STS_STATE = 1 → exec (.boscStartCheckPass lfo) s =
      (let t := (((s.begin.wr F.CK_STS_REFOK 1).wr F.CK_STS_BOSCOK 1).wr F.CK_STS_CLKFAULT 0).trimLfo lfo
       .next (((State.setClock { t with ck := { t.ck with starts := 0, fromStart := false } } 2 0).powerAdvance 2).imageStep))) ∧
    (∀ p, p < 4 → p ∉ s.ck.stopped →
      let l := s.ck.mono :: (FMap.get [] s.ck.losses p).filter fun w => decide (s.ck.mono < w + 1000000000)
      (l.length < 3 → ∃ t, exec (.pllLockLoss p) s = .next t ∧ FMap.get [] t.ck.losses p = l ∧ t.ck.plls = s.ck.plls ∧
        t.rd F.CK_STS_TRIPS = min (s.rd F.CK_STS_TRIPS + 1) (2 ^ F.CK_STS_TRIPS.width - 1) ∧ Leaves s t [(F.CK_STS_TRIPS, 0)]) ∧
      (3 ≤ l.length → p ≠ 2 → s.phase ≠ phSave → s.rd F.CK_STS_STATE = 2 → s.ck.plls = [] → s.flag F.CK_STS_REFOK = true →
        ∃ t, exec (.pllLockLoss p) s = .next t ∧ FMap.get [] t.ck.losses p = [] ∧ t.ck.plls = [(p, 1)] ∧
          Leaves s t [(F.CK_STS_TRIPS, 0)])) ∧
    (s.rd F.CK_STS_STATE = 2 → s.ck.plls = [] → s.phase ≠ phSave →
      ∃ t, exec .lfoMonitorTrip s = .next t ∧ t.ck.lfoOut = true ∧ t.ck.stopped = s.ck.stopped ∧ Leaves s t [(F.CK_STS_TRIPS, 0)]) ∧
    (s.rd F.CK_STS_STATE = 4 → s.phase ≠ phSave →
      ∃ t, exec .lfoMonitorTrip s = .next t ∧ t.ck.lfoOut = true ∧ (∀ p, p < 4 → p ∈ t.ck.stopped) ∧ t.mem = s.mem) ∧
    ∃ t, exec .aoscMonitorTrip s = .next t ∧ t.ck.aoscOut = true ∧ Leaves s t [(F.CK_STS_TRIPS, 0)]

/-- R297 to R302, R304, R305, R308: the time counter and what sets, reads, disciplines and shows it. -/
def Obligations.TimeKeeping : Prop :=
  ∀ s : State, s.clocksRun = true →
    (∀ utc, s.ptpLocked = false → ∃ t, exec (.ckSetWrite utc) s = .next t ∧ t.ck.ns = utc + s.rd F.CK_PTP_UTCOFF * 1000000000 ∧ t.mem = s.mem) ∧
    (∀ utc, s.ptpLocked = true → exec (.ckSetWrite utc) s = .next (s.begin.event 0xB00B [utc])) ∧
    (∃ t, exec .ckTimeRead s = .next t ∧ t.out = [.regData [s.ck.ns % 2 ^ 64]] ∧ t.ck.latch = some (s.ck.frac, s.rd F.CK_UNC_UNC) ∧
      Leaves s t []) ∧
    (∀ val, ∃ t, exec (.ckPtpWrite val) s = .next t ∧ t.ck.master = none ∧ t.mem = s.mem) ∧
    (∀ val, ∃ t, exec (.ckCmonWrite val) s = .next t ∧ t.rd F.CK_CMON_SEL = natField val 60 4 ∧ t.rd F.CK_CMON_DIV = natField val 0 16 ∧
      Leaves s t [(F.CK_CMON_SEL, 0), (F.CK_CMON_DIV, 0), (F.CK_CMON_ERR, 0)]) ∧
    (s.flag F.CK_PPS_EN = true → s.flag F.CK_STS_HOLDOVER = false → s.rd F.CK_UNC_UNC ≠ 2 ^ 48 - 1 → s.ck.ppsAt = none →
      exec .ppsPulse s = .next (State.bump { s.begin with ck := { s.ck with ppsAt := some s.ck.mono } } F.CK_PPS_COUNT)) ∧
    (∀ ticks, s.flag F.CK_ALCTL_ARM = true → s.phase = phService → s.rd F.PW_STATE_STBY = 0 → s.rd F.CK_ALARM_AT ≤ s.ck.ns →
      ∃ t, exec (.alarmFired ticks) s = .next t ∧ t.flag F.CK_ALCTL_FIRED = true ∧ t.flag F.CK_ALCTL_ARM = false ∧
        Leaves s t [(F.CK_ALCTL_FIRED, 0), (F.CK_ALCTL_ARM, 0)]) ∧
    (∀ spread change period, s.mayTrim = true → s.flag F.CK_STS_REFOK = true → s.ptpLocked = false → s.rd F.CK_CTL_TRIM = 2 → spread ≤ 500 →
      ∃ t, exec (.compatibilityTrim spread change period) s = .next t ∧
        t.rd F.CK_TRIM_BOSC = signedIn 16 (clampInt 20000 (signedOf 16 (s.rd F.CK_TRIM_BOSC) + change)) ∧ t.flag F.CK_TRIM_SPREAD = false ∧
        t.rd F.CK_TRIM_SRC = 2 ∧ t.rd F.CK_AOSC_PERIOD = period % 2 ^ F.CK_AOSC_PERIOD.width ∧ t.mem = s.mem) ∧
    (∀ trim, s.mayTrim = true → s.rd F.CK_CTL_TRIM = 0 →
      ∃ t, exec (.lfoTrim trim) s = .next t ∧ t.rd F.CK_TRIM_LFO = signedIn 8 trim ∧ Leaves s t [(F.CK_TRIM_LFO, 0), (F.FW_NOR_STATE, 0)]) ∧
    (∀ id rank utcOff, s.flag F.CK_CTL_PTPEN = true → s.pan.ethUp = true → s.spRuns 5 = true → s.ck.master = none →
      ∃ t, exec (.ptpAnnounce id rank utcOff) s = .next t ∧ t.ck.master = some id ∧ t.ck.masterRank = rank ∧
        t.rd F.CK_PTP_UTCOFF = utcOff % 2 ^ F.CK_PTP_UTCOFF.width ∧ Leaves s t [(F.CK_PTP_PSTATE, 0), (F.CK_PTP_UTCOFF, 0)]) ∧
    (∀ id, s.ck.master = some id → ∃ t, exec .announceTimeout s = .next t ∧ t.ck.master = none ∧ t.rd F.CK_PTP_PSTATE = 1 ∧ t.mem = s.mem) ∧
    (∀ freq, s.flag F.CK_CTL_PTMEN = true → s.spRuns 5 = true → s.ptpLocked = false → s.headUp (s.rd F.CK_CTL_PTMHEAD) = true →
      exec (.ptmRequest true freq) s = .next ((s.begin.wr F.CK_SERVO_FREQ (signedIn 30 freq)).setTsrc 3)) ∧
    (∀ v, MailboxReady s v →
      exec (.getTimestamp v) s = .next (s.begin.reply v .success [s.ck.ns - s.rd F.CK_PTP_UTCOFF * 1000000000]) ∧
      ∀ utc, exec (.setTimestamp v utc) s = .next ((s.begin.setUtc utc).reply v .success []))

/-- R301: a Sync with an offset within the step threshold, of a servo not LOCKED that has seen fewer than seven good Syncs in a row, writes OFFSET and
FREQ, leaves the counter, and counts good Syncs by an offset below 1 µs. -/
def Obligations.PtpServo : Prop :=
  ∀ (s : State) (off freq logInt : Int) (ticks : Nat), s.clocksRun = true → s.flag F.CK_CTL_PTPEN = true → s.pan.ethUp = true →
    s.ck.master ≠ none → s.spRuns 5 = true → -4 ≤ logInt → logInt ≤ 1 → s.ptpLocked = false → s.ck.good < 7 →
    off.natAbs ≤ max 1 (s.rd F.CK_CTL_STEPTH) * 1000 → off.natAbs < 2 ^ 31 - 1 → freq.natAbs ≤ 1000000 →
    ∃ t, exec (.ptpSync off freq logInt ticks) s = .next t ∧ t.ck.ns = s.ck.ns ∧ t.rd F.CK_SERVO_SSTATE = 1 ∧
      t.rd F.CK_SERVO_OFFSET = signedIn 32 off ∧ t.rd F.CK_SERVO_FREQ = signedIn 30 freq ∧
      t.ck.good = (if off.natAbs < 1000 then s.ck.good + 1 else 0) ∧ t.ck.syncAt = some (s.ck.mono, ticks) ∧
      Leaves s t [(F.CK_SERVO_SSTATE, 0), (F.CK_SERVO_OFFSET, 0), (F.CK_SERVO_FREQ, 0)]

/-! ### Packs and self-tests -/

/-- R248, R249: the life of a pack in a bay, each step in the state its rule names.
R260, R263: a removal while the logic is unpowered: the present pin reads absent and the bay holds only its learning records (log 103). -/
def Obligations.PackLife : Prop :=
  (∀ (s : State) (bay : Nat), bay < 2 → s.phase = phService → s.spRuns 4 = true →
    (∀ ticks, s.bayState bay = 0 →
      let t := (s.begin.packPin bay 0).wakeDeep ticks
      t.bayState bay = 0 → exec (.packPresentDebounce bay ticks) s = .next ((t.wri F.EN_STS_STATE bay 1).chargerOff bay).sums) ∧
    (∀ (id : PackId) volt, s.bayState bay = 1 → exec (.packIdentified bay id volt) s = .next (match packProfile id with
      | none => ((s.begin.wri F.EN_STS_STATE bay 2).event 0x9003 (bay :: id.names)).sums
      | some p =>
        let mv := s.calVolt bay volt
        let t := (s.begin.wri F.EN_STS_PROFILE bay p).wri F.EN_MEAS_VOLT bay mv
        let t := (((t.wri F.EN_ID_SERIAL bay id.serial).wri F.EN_ID_MDATE bay id.mdate).wri F.EN_ID_CYCLES bay id.cycles).wri F.EN_ID_SPEC bay id.spec
        let t := t.wr (if bay = 0 then F.TWB_EB_PECA else F.TWB_EB_PECB) (bit01 (natField id.spec 4 4 == 3))
        let t := (t.event 0x9001 [bay, p, id.serial]).loadLearning bay id.mdate id.serial (PackId.capacity id id.fcc id.volt)
        if mv < t.profN bay 3 then ((t.wri F.EN_STS_STATE bay 3).charger bay true).sums else t.firstEstimate bay mv)) ∧
    (s.bayState bay = 1 → exec (.identTimeout bay) s = .next (((s.begin.wri F.EN_STS_STATE bay 2).event 0x9003 [bay]).sums)) ∧
    (∀ volt, s.bayState bay = 3 →
      exec (.prechargeComplete bay volt) s =
        .next ((s.begin.wri F.EN_MEAS_VOLT bay (s.calVolt bay volt)).firstEstimate bay (s.calVolt bay volt))) ∧
    (s.bayState bay = 3 → exec (.prechargeTimeout bay) s = .next (s.begin.bayFault bay 1)) ∧
    (s.bayState bay = 4 → exec (.chargeComplete bay) s = .next ((s.begin.wri F.EN_STS_FULL bay 1).wri F.EN_STS_STATE bay 5).fullCheck) ∧
    (s.bayState bay = 5 → exec (.floatDrop bay) s = .next ((s.begin.wri F.EN_STS_FULL bay 0).toCharge bay)) ∧
    (s.bayState bay = 8 → exec (.inhibitClear bay) s = .next (s.begin.toCharge bay))) ∧
  (∀ (s : State) (ticks : Nat), s.phase = phDormant ∨ s.phase = phOff →
    ∃ t, exec (.packRemoved 0 ticks) s = .next t ∧
      t.bayA = { recs := s.bayA.recs, pend := s.bayA.pend, intent := s.bayA.intent, learnAt := s.bayA.learnAt } ∧ t.bayB = s.bayB ∧
      t.rd F.GEN_PINS_PACKA = 1 ∧ t.out = [] ∧ Leaves s t [(F.GEN_PINS_PACKA, 0)])

/-- R246, R250, R252, R253, R257: pauses and references, the 1 ms update, the pack monitor's poll, the end of a test's discharge. -/
def Obligations.PackMeasures : Prop :=
  ∀ (s : State) (bay : Nat), bay < 2 → s.spRuns 4 = true →
    (s.mayPause bay = true → exec (.pauseAttempt bay) s = .next ((s.begin.wri F.EN_STS_STATE bay 6).chargerOff bay)) ∧
    (∀ volt, s.bayState bay = 6 →
      exec (.pauseComplete bay volt) s = .next (((s.begin.reference bay (s.calVolt bay volt) 0).wri F.EN_STS_STATE bay 5).charger bay false)) ∧
    (s.bayState bay = 6 → exec (.pauseAbort bay) s = .next (s.begin.endTestOrPause bay)) ∧
    (∀ dv di, s.bayState bay = 7 → s.rdi F.EN_STS_TSTEP bay = 3 →
      ∃ t, exec (.testDischargeEnd bay dv di) s = .next t ∧ t.rdi F.EN_STS_TSTEP bay = 4 ∧ (t.bay bay).xfer = false ∧ (t.bay bay).iset = 0 ∧
        Leaves s t [(F.EN_STS_TSTEP, bay)]) ∧
    ((s.bay bay).first = true → ∃ t, exec (.referenceAge7Days bay) s = .next t ∧ (t.bay bay).warnAt = s.ck.mono ∧
      (FMap.get {} t.ev.sums 0x9005).count = (FMap.get {} s.ev.sums 0x9005).count + 1 ∧ Leaves s t []) ∧
    (∀ a b, s.phase = phService →
      let t := (s.begin.bayUpdate 0 a).bayUpdate 1 b
      t.spRuns 4 = true → exec (.estimatorUpdate a b) s = .next ((t.sums.reflectEvent 0).reflectEvent 1).alarmSleep) ∧
    (∀ d : SbsData, s.bayState bay = 4 → (s.begin.busFree (5 + bay)).twb.faulted (5 + bay) = false →
      let t := ((s.begin.busFree (5 + bay)).watch bay 0 false 0).1.wri F.EN_STS_SBSLOST bay 0
      let t := t.setBay bay { t.bay bay with sbsT := some d.temp, sbsV := some d.volt, sbsI := some d.curr }
      let t := match d.cycles with | some c => t.wri F.EN_ID_CYCLES bay c | none => t
      exec (.sbsPoll bay (some d)) s = .next ((t.putTemp bay none).sbsAlarms bay d.status))

/-- R257, R265, R268, R431: the pack operations on a present bay in SERVICE, and Get Pack Profile. -/
def Obligations.PackOperations : Prop :=
  (∀ (s : State) (h tag bay : Nat), bay < 2 → AdminReady s h → s.mpRuns = true → s.phase = phService → s.bayState bay ≠ 0 →
    let c := adminCapture s h tag 0
    (∀ depth power, depth = 0 ∨ 20 ≤ depth ∧ depth ≤ 60 → power = 0 ∨ 50 ≤ power ∧ power ≤ c.1.profN bay 2 → s.bayState bay = 5 →
      s.removing = false →
      ([0, 1].any fun i => s.rdi F.EN_STS_TSTEP i != 0 || [6, 7].contains (s.bayState i) || s.flagi F.EN_STS_RELEASED i) = false →
      exec (.packTest h tag bay depth power) s =
        (let d := if depth = 0 then max 20 (min 60 (s.rd F.EN_CTL_TDEPTH)) else depth
         let w := if power = 0 then s.rd F.EN_CTL_TPWR else power
         let t := c.1.setBay bay { c.1.bay bay with tpwr := w, plan := d * c.1.eFull bay / 100000000 }
         .next (((t.wri F.EN_STS_TSTEP bay 1).setWaits.settleMr).finish c.2 0 0 0))) ∧
    exec (.packPause h tag bay false) s = .next ((c.1.wri F.EN_STS_PAUSEREQ bay 1).finish c.2 0 0 0) ∧
    exec (.packPause h tag bay true) s = .next ((c.1.endTestOrPause bay).finish c.2 0 0 0) ∧
    (s.rdi F.EN_STS_TSTEP bay = 0 → ∃ t, exec (.packStatus h tag bay) s = .next t ∧
      Posts s t (s.adminQueue h) tag 0 0 false 0 0 (s.rdi F.EN_STS_LOSTLRN bay * 2 ^ 10 + s.rdi F.EN_STS_SAFE bay * 2 ^ 9 +
        s.rdi F.EN_STS_RELEASED bay * 2 ^ 8 + s.bayState bay) ∧ Leaves s t []) ∧
    (s.flagi F.EN_STS_RELEASED (1 - bay) = false → exec (.packRelease h tag bay false) s =
      .next ((((c.1.endTestOrPause bay).wri F.EN_STS_RELEASED bay 1).chargerOff bay).sums.settleMr.finish c.2 0 0 0)) ∧
    (s.flagi F.EN_STS_RELEASED bay = true → s.bayState bay = 3 → exec (.packRelease h tag bay true) s =
      .next ((c.1.wri F.EN_STS_RELEASED bay 0).sums.settleMr.finish c.2 0 0 0))) ∧
  (∀ (s : State) (v : Via) (sel : Nat), MailboxReady s v → sel < 2 → 2 < s.bayState sel →
    let p := s.rdi F.EN_STS_PROFILE sel
    exec (.getPackProfile v sel) s = .next (s.begin.reply v .success (Config.profileNames p ++
      (List.range 10).map (fun i => (Config.profile p i % (2 ^ 32 : Int)).toNat) ++
      (List.range 1056).map fun i => (Config.profileTable p).getD i 0)))

/-- R107, R108, R190, R411: a self-test's number is the lowest free one; it runs once residue lies below the mark; its status frees it when final. -/
def Obligations.SelfTests : Prop :=
  (∀ (s : State) (h tag cls unit n : Nat), AdminReady s h → s.mpRuns = true → s.phase = phService → testUnit cls unit = true →
    s.removing = false → (s.trials.any fun e => e.2.cls == cls && e.2.unit == unit) = false → s.testable cls unit = true →
    ((List.range 4).find? fun n => !FMap.has s.trials n) = some n →
    let c := adminCapture s h tag 0
    exec (.testStart h tag cls unit false) s = .next ((State.settleMr (State.setWaits { c.1 with
      trials := FMap.put s.trials n { cls := cls, unit := unit, disrupt := false, st := 1, prog := 0, faults := 0 } })).finish c.2 0 0 n)) ∧
  (∀ (s : State) (n : Nat) (x : Trial), n < 4 → s.phase = phService → FMap.find s.trials n = some x → x.st = 1 → s.testTgts x.cls x.unit = [] →
    s.belowMark = true →
    exec (.testBegin n) s = .next (State.settleMr (State.setWaits { s.begin with trials := FMap.put s.trials n { x with st := 2 } }))) ∧
  (∀ (s : State) (h tag n : Nat) (x : Trial), n < 4 → AdminReady s h → s.mpRuns = true → FMap.find s.trials n = some x → 3 ≤ x.st →
    ∃ t, exec (.testStatus h tag n) s = .next t ∧ FMap.find t.trials n = none ∧
      Posts s t (s.adminQueue h) tag 0 0 false 0 0 (x.st + x.prog * 256 + min 0xFFFF x.faults * 65536) ∧ Leaves s t []) ∧
  (∀ (s : State) (h tag n : Nat) (x : Trial), n < 4 → AdminReady s h → s.mpRuns = true → FMap.find s.trials n = some x → x.st = 1 →
    x.cls = 5 → let c := adminCapture s h tag 0
    exec (.testAbort h tag n) s = .next ((State.settleMr (State.setWaits { c.1 with
      trials := FMap.put s.trials n { x with st := 5 } })).finish c.2 0 0 0)) ∧
  (∀ (s : State) (n faults : Nat) (passed : Bool) (x : Trial), FMap.find s.trials n = some x → x.st = 2 →
    exec (.testComplete n passed faults []) s = .next ((State.freeTgts { s.begin with
      trials := FMap.put s.trials n { x with st := if passed then 3 else 4, prog := 100, faults := faults } } x.cls x.unit).settleMr))

/-! ### Processors, firmware and recovery -/

/-- R328, R329, R338, R339, R343: the faults of running processors, each with its event, count and reload or restart; the ends of a reload and of a
restart. -/
def Obligations.ProcessorFaults : Prop :=
  (∀ (s : State) (pc : Nat), s.spRuns 1 = true →
    exec (.lockstepMismatch pc) s = .next (((s.begin.bump F.FW_RLD_LSMIS).event 0xD004 [pc]).startReload 1 1)) ∧
  (∀ (s : State) (n : Nat), s.spRuns n = true →
    let t := s.begin.setProc (n + 1) 3
    let t : State := { t with fw := { t.fw with cause := FMap.put t.fw.cause (n + 1) (2, t.ck.mono) } }
    let t := if n = 1 ∧ t.phase = phSave then t.wr F.SPN_SAVE_SPRLD 1 else t
    let t := if n = 5 then t.wr F.CK_STS_HOLDOVER 1 else t
    exec (.spWatchdogExpiry n) s = .next (if n = 0 then t.settleMr else t).updReady) ∧
  (∀ (s : State), s.mpRuns = true → s.phase ≠ phBringup → (∀ r, s.fw.swap = some r → r.trial = false) →
    let t := ((s.begin.setProc 0 3).bump F.FW_RLD_MPRST).event 0xD005 [1]
    exec .mpWatchdogExpiry s = .next (State.updReady { t with fw := { t.fw with activating := false } })) ∧
  (∀ (s : State), s.mpRuns = true → s.phase = phBringup → s.fw.mpExp = 2 →
    let t : State := { s.begin with fw := { s.fw with mpExp := 3 } }
    exec .mpWatchdogExpiry s = .next ((t.mpRestart 1).enterRecoveryPhase 7)) ∧
  (∀ (s : State) (n : Nat), s.spRuns n = true → exec (.sramUncorrectable (n + 1)) s = .next (s.begin.startReload n 4)) ∧
  (∀ (s : State) (n addr : Nat), s.spRuns n = true →
    exec (.executeFault (n + 1) addr) s =
      .next (((s.begin.bump F.FW_NOR_XFLT).event 0xD00C [n + 1, addr]).startReload n 5)) ∧
  (∀ (s : State) (n at_ : Nat), n < 6 → s.proc (n + 1) = 3 → FMap.get (0, s.ck.mono) s.fw.cause (n + 1) = (2, at_) →
    let t := (s.begin.setProc (n + 1) 2).bump F.FW_RLD_SPRLD
    let t : State := { t with fw := { t.fw with reloads := FMap.put s.fw.reloads n (FMap.get 0 s.fw.reloads n + 1)
                                                trialRld := FMap.put s.fw.trialRld n (FMap.get 0 s.fw.trialRld n + 1) } }
    let t := ((t.event 0xD003 [n, 2, s.ck.mono - at_]).updReady).spBack n
    exec (.spReloadComplete n true) s =
      .next (if n = 1 ∧ t.phase = phSave then t.event 0x4008 [s.ck.mono - at_] else t).nextReload) ∧
  (∀ (s : State), s.proc 0 = 3 → s.fw.swap = none → s.fw.activating = false → s.rd F.FW_STG_STATE ≠ 5 →
    (s.block (s.rd F.FW_BOOT_ACTIVE)).verr = 0 →
    let t := (s.begin.setProc 0 2).updReady
    exec .mpRestartComplete s = .next (if t.imageDue then t.imageStep else t).nextReload) ∧
  (∀ (s : State), s.proc 0 = 3 → s.fw.swap = none → (s.block (s.rd F.FW_BOOT_ACTIVE)).verr ≠ 0 →
    exec .mpRestartComplete s = .next (State.updReady ((({ s.begin with fw := { s.fw with mpDead := true } } : State).setProc 0 0).wr
      F.FW_STG_VERR (s.block (s.rd F.FW_BOOT_ACTIVE)).verr)))

/-- R333, R334, R338 to R341: staging a part, the boot store's state after each operation, activation of a staged block that verifies, commanded
reloads and restarts, and what is reported of them.
R337, R343 to R346, R348: the confirmation of a trial, the request of recovery, the boot status, and the recovery transports. -/
def Obligations.Firmware : Prop :=
  ((∀ (s : State) (h tag : Nat), AdminReady s h → s.mpRuns = true →
    let c := adminCapture s h tag 0
    (∀ addr len off last hdr, len % 256 = 0 → off + len ≤ 2 ^ 24 → s.rd F.FW_STG_STATE ≠ 1 → s.rd F.FW_NOR_STATE = 0 →
      exec (.fwStage h tag addr len off last hdr) s = .next ((c.1.keepTicket { c.2 with op := 0x80 }).startPart (32 + h) len last hdr
        (some (c.2.qid, c.2.seq)) none)) ∧
    (∃ t, exec (.fwStatus h tag) s = .next t ∧ Posts s t (s.adminQueue h) tag 0 0 false 0 0
      (s.rd F.FW_STG_STATE * 2 ^ 29 + s.rd F.FW_STG_ONLINE * 2 ^ 28 + s.rd F.FW_STG_VERR * 2 ^ 24) ∧ Leaves s t []) ∧
    (∀ b, s.phase = phService → s.stagedBlock = some b →
      exec (.fwActivate h tag false) s = .next ((c.1.activate b false).finish c.2 0 0 0) ∧
      ((s.block b).layout = s.fw.layout →
        exec (.fwActivate h tag true) s = .next (((c.1.activate b true).finish c.2 0 0 0).mpRestart 5))) ∧
    (∀ n, n < 6 →
      let t := c.1.keepTicket { c.2 with op := 0x83 }
      exec (.spReload h tag n) s =
        .next (State.nextReload { t with fw := { t.fw with wanted := t.fw.wanted ++ [(n, some (c.2.qid, c.2.seq))] } })) ∧
    exec (.mpRestart h tag) s = .next ((c.1.finish c.2 0 0 0).mpRestart 4)) ∧
  (∀ (s : State),
    (s.rd F.FW_NOR_STATE = 2 → s.fw.part.isSome = true → exec .norOperationComplete s = .next (s.begin.wr F.FW_NOR_STATE 1)) ∧
    (s.rd F.FW_NOR_STATE = 5 → exec .norOperationComplete s = .next (s.begin.wr F.FW_NOR_STATE 4)) ∧
    (s.rd F.FW_NOR_STATE = 1 → s.fw.part = none →
      exec .norOperationComplete s = .next (((s.begin.wr F.FW_NOR_STATE 0).writeLearn 0).writeLearn 1)) ∧
    (∀ p, s.rd F.FW_NOR_STATE = 1 → s.fw.part = some p →
      exec .norOperationComplete s = .next ((((s.begin.wr F.FW_NOR_STATE 0).partDone p).writeLearn 0).writeLearn 1))) ∧
  (∀ (s : State) (v : Via), MailboxReady s v →
    (∀ off len hdr, s.rd F.FW_STG_STATE ≠ 1 → s.rd F.FW_NOR_STATE = 0 → off + len ≤ 2 ^ 24 →
      exec (.transferFw v 0 (s.freeBlock + 1) off len hdr) s =
        .next (s.begin.startBg v 0x0201 off len fun t => t.startPart (bgKey v) len true hdr none (some v))) ∧
    (∀ b, s.phase = phService → s.stagedBlock = some b →
      exec (.activateFw v false (b + 1)) s = .next ((s.begin.activate b false).reply v .success []))) ∧
  (∀ (s : State) (v : Via), s.viaOpen v = true → (s.phase = phRecovery ∨ s.mpRuns = true) →
    let ver := fun (x : BootBlock) => if x.verr = 0 then x.train * 2 ^ 56 + x.minor * 2 ^ 48 + x.build * 2 ^ 32 + x.svn else 0
    s.rd F.FW_STG_STATE ≠ 2 →
      exec (.getFwInfo v) s = .next (s.begin.reply v .success [2, s.rd F.FW_BOOT_ACTIVE + 1, 0, 1, ver s.fw.blkA, ver s.fw.blkB]))) ∧
  ((∀ (s : State), s.phase = phService → s.onTrial = true → s.mpRuns = true → (List.range 6).all s.spRuns = true →
    (s.fw.trialRld.all fun e => decide (e.2 ≤ 3)) = true → s.fw.trialAt + s.rd F.FW_CTL_CONFIRM * 1000000000 ≤ s.ck.mono →
    exec .trialConfirmTimeout s = .next s.begin.confirmTrial ∧ s.begin.confirmTrial.onTrial = false) ∧
  (∀ (s : State) (v : Via), MailboxReady s v →
    (s.onTrial = true → exec (.confirmFirmware v) s = .next (s.begin.confirmTrial.reply v .success [])) ∧
    (s.onTrial = false → exec (.confirmFirmware v) s = .next (s.begin.reply v .invalidInput [])) ∧
    (s.phase = phService → exec (.requestRecovery v) s = .next ((s.begin.wr F.FW_CTL_RECREQ 1).reply v .success []))) ∧
  (∀ (s : State) (val : Nat), ∃ t, exec (.fwCtlRecreq val) s = .next t ∧ t.rd F.FW_CTL_CONFIRM = natField val 48 16 ∧
    t.rd F.FW_CTL_RECREQ = (if natBit val 47 then 1 else s.rd F.FW_CTL_RECREQ) ∧ Leaves s t [(F.FW_CTL_CONFIRM, 0), (F.FW_CTL_RECREQ, 0)]) ∧
  (∀ (s : State) (v : Via), s.viaOpen v = true → (s.phase = phRecovery ∨ s.mpRuns = true) →
    let r := fun (f : Field) => s.rd f * 2 ^ f.lo
    exec (.getBootStatus v) s = .next (s.begin.reply v .success
      ([r F.FW_ID_TRAIN + r F.FW_ID_MINOR + r F.FW_ID_BUILD + r F.FW_ID_ROMVER + r F.FW_ID_SVN,
        r F.FW_BOOT_ACTIVE + r F.FW_BOOT_TRIAL + r F.FW_BOOT_ATTEMPTS + r F.FW_BOOT_CAUSE + r F.FW_BOOT_AVALID + r F.FW_BOOT_BVALID +
          r F.FW_BOOT_SWAPSEQ,
        r F.FW_STG_STATE + r F.FW_STG_ONLINE + r F.FW_STG_VERR + r F.FW_STG_BYTES,
        r F.FW_REC_CAUSE + r F.FW_REC_XPORT + r F.FW_REC_PROG + r F.FW_REC_BYTES] ++
        (List.range 6).map fun n => FMap.get 0 s.fw.reloads n))) ∧
  (∀ (s : State), s.phase = phRecovery →
    (∀ xport hdr, (s.newBlock hdr).verr = 0 →
      let b := s.freeBlock
      let x := s.newBlock hdr
      exec (.recoveryImageReceived xport hdr) s = .next ((((((s.begin.wr F.FW_REC_XPORT xport).setBlock b x).writeSwap b true 0 4).event
        0xD00B [xport, x.train * 2 ^ 24 + x.minor * 2 ^ 16 + x.build])).rebirth false 0x10)) ∧
    (s.pan.ethUp = true →
      (∀ hdr, ∃ t, exec (.tftpBlock s.fw.tftp 512 hdr) s = .next t ∧ t.out = [.net [4, s.fw.tftp]] ∧ t.fw.tftp = s.fw.tftp + 1 ∧
        t.rd F.FW_REC_XPORT = 3 ∧ Leaves s t [(F.FW_REC_BYTES, 0), (F.FW_REC_XPORT, 0), (F.FW_REC_PROG, 0)]) ∧
      (s.fw.tries < 5 → ∃ t, exec .tftpRetransmit s = .next t ∧ t.fw.tries = s.fw.tries + 1 ∧
        t.out = [.net (if s.fw.tftp = 1 then [1] else [4, s.fw.tftp - 1])] ∧ Leaves s t []) ∧
      (s.fw.tries = 5 → ∃ t, exec .tftpRetransmit s = .next t ∧ t.fw.tftp = 1 ∧ t.fw.tries = 0 ∧ t.rd F.FW_REC_BYTES = 0 ∧
        Leaves s t [(F.FW_REC_BYTES, 0)]))))

/-! ### The service panel -/

/-- R391, R393, R394, R397: a request from a mailbox or a 3 s press begins the hold; REMOVAL_SAFE, REMOVAL_TIMEOUT, REMOVAL_CANCEL and a press during
the hold.
R387, R390 to R392, R395, R397: presses, touches, locate, PRSNT_N, the management Ethernet link, and Get Readiness. -/
def Obligations.Panel : Prop :=
  ((∀ (s : State) (v : Via), MailboxReady s v →
    (s.serving = true → s.removing = false → exec (.requestRemoval v) s =
      .next ((s.begin.event 0xF102 [1, s.phase, 1]).beginHold.reply v .success [])) ∧
    (s.removing = true → exec (.removalCancel v) s = .next ((s.begin.releaseHold 1).reply v .success []))) ∧
  (∀ (s : State), s.rd F.GEN_PANEL_RMV = 1 → s.serving = true → s.removalSafe = true →
    ∃ t, exec .removalSafe s = .next t ∧ t.rd F.GEN_PANEL_RMV = 2 ∧ Leaves s t [(F.GEN_PANEL_RMV, 0)] ∧
      (FMap.get {} t.ev.sums 0xF103).count = (FMap.get {} s.ev.sums 0xF103).count + 1) ∧
  (∀ (s : State), s.rd F.GEN_PANEL_RMV = 2 →
    exec .removalTimeout s = .next (((s.begin.releaseHold 2).latchAttn 14).settleAttn)) ∧
  (∀ (s : State), s.panelOn = true → s.pan.acted = false → s.serving = true →
    let t := s.begin.wr F.GEN_PINS_BTN 0
    let t : State := { t with pan := { t.pan with acted := true } }
    (s.removing = false → exec .buttonHold3s s = .next (t.event 0xF102 [0, s.phase, 1]).beginHold) ∧
    (s.removing = true → exec .buttonHold3s s = .next (t.releaseHold 0)))) ∧
  ((∀ (s : State) (ms : Nat), ms < 1000 → s.panelOn = true →
    ∃ t, exec (.buttonPressRelease ms) s = .next t ∧ t.rd F.GEN_PINS_BTN = 1 ∧ t.pan.acted = false ∧
      t.rd F.GEN_PANEL_LOCATE = (1 - s.rd F.GEN_PANEL_LOCATE) % 2 ∧
      t.rd F.GEN_PANEL_PRESSES = min (s.rd F.GEN_PANEL_PRESSES + 1) (2 ^ F.GEN_PANEL_PRESSES.width - 1) % 2 ^ F.GEN_PANEL_PRESSES.width ∧
      (FMap.get {} t.ev.sums 0xF101).count = (FMap.get {} s.ev.sums 0xF101).count + 1 ∧
      Leaves s t [(F.GEN_PINS_BTN, 0), (F.GEN_PANEL_LOCATE, 0), (F.GEN_PANEL_PRESSES, 0)]) ∧
  (∀ (s : State) (count base : Nat), s.panelOn = true → s.pan.touchBase = some base → s.begin.settleAttn.touched base count = true →
    let t := s.begin.settleAttn
    let u : State := { t with pan := { t.pan with touch := s.pan.touch + 1 } }
    (s.pan.touch = 4 → exec (.touchMeasure count) s = .next (u.bump F.GEN_PANEL_TOUCHES)) ∧
    (s.pan.touch = 199 → exec (.touchMeasure count) s = .next u.silenceAttn)) ∧
  (∀ (s : State) (v : Via) (on : Bool), MailboxReady s v →
    exec (.setLocate v on) s = .next ((s.begin.wr F.GEN_PANEL_LOCATE (bit01 on)).reply v .success [])) ∧
  (∀ (s : State), s.phase ≠ phOff → s.phase ≠ phDormant →
    (s.ledSafe ≠ 1 → exec .moduleUnseated s =
      .next (((((s.begin.wr F.GEN_PINS_PRSNT 1).event 0xF107 [s.ledSafe])).latchAttn 13).settleAttn)) ∧
    (let t := s.begin.wr F.GEN_PINS_PRSNT 0
     exec .moduleSeated s =
      .next ((({ t with pan := { t.pan with latched := t.pan.latched.filter fun b => b != 13 } } : State).settleAttn).trainLinks))) ∧
  (∀ (s : State) (up : Bool), s.dom 0 = 1 →
    exec (.mgtEthLinkChange up) s = .next (State.updReady { s.begin with pan := { s.pan with ethUp := up } })) ∧
  (∀ (s : State) (v : Via), MailboxReady s v →
    let t := s.begin.settleAttn
    let r := fun (f : Field) => t.rd f * 2 ^ f.lo
    exec (.getReadiness v) s = .next (t.reply v .success
      [r F.GEN_PHASE_PHASE + r F.GEN_PHASE_PREV + r F.GEN_PHASE_CAUSE + r F.GEN_PHASE_SINCE, t.rd F.GEN_READY_BITS,
       r F.GEN_ADMIT_ADMITTED + r F.GEN_ADMIT_FIRST + r F.GEN_ADMIT_BLOCK, r F.GEN_ATTN_CAUSE + r F.GEN_ATTN_NEW + r F.GEN_ATTN_SIL,
       t.panelWord])))

/-! ### Flash channels and targets -/

/-- R122, R134, R172 to R175, R178 to R180, R186, R187: training of a channel, program failures and read timeouts, erase, seal, resume and read
calibration. Which of equal calibration offsets is taken is the model's choice (log 209).
R182, R183, R190, R192, R193, R195: the steps of a re-skein, and Get Flash Target, Flash Diagnostic Read, Retire Target and Get Re-skein
Status. -/
def Obligations.FlashComplex : Prop :=
  ((∀ (s : State) (c r : Nat) (dies found : List (Nat × Nat × Nat × Nat)), c < 64 → s.phase = phBringup → s.dom (18 + c / 8) = 1 →
    s.rd F.CK_STS_STATE = 2 → (s.chan c).trained = false → (s.chan c).retired = false →
    let t := s.begin.findVolumes c dies found
    let q := min r (min 6 (t.rd F.FC_CFG_MAXRATE))
    let u := (t.setChan c { t.chan c with trained := true, rate := q }).event 0x6001 [c, q]
    let e := t.setChan c { t.chan c with retired := true }
    exec (.flashTrainingComplete c (some r) dies [] found) s =
      .next (if t.chanEmpty c then (if e.groupHeld (c / 8) then e else e.setDom (18 + c / 8) 0).imageStep
        else (u.wearUpdate.ceilUpdate 0).imageStep.updReady)) ∧
  (∀ (s : State) (t : Nat), exec (.zqCalibration t) s = .next s.begin) ∧
  (∀ (s : State) (k : Skein) (gen j m : Nat), s.inFlight gen = some k → j < 32 → (s.bundle k.bundle).members[(j + k.page) % 32]? = some m →
    let t := (s.begin.bump F.FC_ERR_PGMF).event 0x6004 [blkTgt m, m % 4096, s.phase]
    (s.phase ≠ phSave → exec (.strandProgramFail gen j) s = .next ((t.abandon (k.fail j)).badBlock m)) ∧
    (s.phase = phSave → exec (.strandProgramFail gen j) s = .next (((t.badBlock m).exclude (blkTgt m)).saveStrandFail k j))) ∧
  (∀ (s : State) (t b gen : Nat) (done : Bool), s.healthy t = true → s.phase ≠ phSave →
    let a := ((s.begin.setTgt t { s.tgt t with tmoAt := some s.ck.mono }).bump F.FC_ERR_TMO).event 0x6003 [t, 0]
    let a := (a.resetLun t).timedOut t 0 b gen
    let again := match (s.tgt t).tmoAt with | some w => decide (s.ck.mono < w + 1000000000) | none => false
    let a := if again || !done then a.retire t 1 else a
    a.chanTimedOut (tgtChan t) = false → exec (.commandTimeout t 0 b gen done) s = .next a.sendFetches) ∧
  (∀ (s : State) (b : Nat), s.erases b = true →
    (∀ x zeros, s.erasing (blkTgt b) = some (b, x) → s.isProtected b = false →
      (erasedProbe zeros = true → exec (.blockEraseComplete b true zeros) s = .next ((s.begin.forgetBlock b).setBlk b { x with
        reads := 0, marked := false, again := false, st := 3, sealPage := some (s.ck.ns, (x.erLsn + b).toNat) })) ∧
      exec (.blockEraseComplete b false zeros) s =
        .next ((((s.begin.forgetBlock b).setBlk b { x with sealPage := none }).attemptFail b).ceilUpdate 0)) ∧
    (∀ flips, (s.blk b).st = 3 →
      let n := (s.blk b).ers + 1
      let t := s.begin.setBlk b { s.blk b with ers := n, tries := 0, tag := 0 }
      (pageDecodes 8 flips = false → exec (.sealVerify b flips) s = .next ((s.begin.attemptFail b).ceilUpdate 0)) ∧
      (pageDecodes 8 flips = true → max 1 (s.rd F.FC_CFG_WEARLIM) ≤ n → exec (.sealVerify b flips) s = .next ((t.badBlock b).ceilUpdate 0)) ∧
      (pageDecodes 8 flips = true → n < max 1 (s.rd F.FC_CFG_WEARLIM) → exec (.sealVerify b flips) s =
        .next ((((t.setBlk b { t.blk b with st := 4 }).journal jSealed [b, 1, n]).wearUpdate).ceilUpdate 0).retrySeg)) ∧
    (∀ t, (s.tgt t).susp = some b → s.erasesWait t = false → s.anyHot = false → exec (.eraseResume t) s =
      .next ((s.begin.setBlk b { s.blk b with st := 2 }).setTgt t { s.tgt t with susp := none }))) ∧
  (∀ (s : State) (t bin : Nat) (counts : List Nat), s.serving = true → s.healthy t = true → bin < 8 → counts.length = 16 →
    s.binHeld t bin = true → s.binDue t bin = true →
    let off : Int := (fewest counts : Int) - 8
    let offs := (List.range 8).map fun i => if i = bin then (off % 16).toNat else (s.tgt t).offs.getD i 0
    let a := (s.begin.setTgt t { s.tgt t with
      offs := offs, calAt := s.ck.mono, binAt := FMap.put (s.tgt t).binAt bin s.ck.mono }).norProgram
    let old : Int := if 8 ≤ (s.tgt t).offs.getD bin 0 then ((s.tgt t).offs.getD bin 0 : Int) - 16 else (s.tgt t).offs.getD bin 0
    exec (.readCalibration t bin counts) s =
      .next (if 3 ≤ (off - old).natAbs then a.event 0x600D [t, bin, (off % 16).toNat] else a))) ∧
  ((∀ (s : State) (t : Nat) (q : List Nat), s.fc.queue = t :: q → s.phase = phService →
    (s.spRuns 1 = true → s.rd F.FC_RSK_STATE = 0 → s.drainState ≠ 3 →
      ∃ a, exec .reskeinStart s = .next a ∧ a.rd F.FC_RSK_STATE = 2 ∧ a.rd F.FC_RSK_TARGET = t % 2 ^ F.FC_RSK_TARGET.width ∧
        a.rd F.FC_RSK_PROG = 0 ∧ a.fc.rskAt = s.ck.mono ∧ a.fc.ckpt.1 = 2 ∧
        (∀ b x, FMap.find s.im.bundles b = some x → x.next ≠ 1 → (x.members.any fun m => blkTgt m == t) = true → (a.bundle b).closed = true) ∧
        a.mem = s.mem ∧ a.dmap = s.dmap ∧ a.index = s.index) ∧
    (s.spRuns 1 = true → s.rd F.FC_RSK_STATE = 2 → s.liveOn t = [] →
      ∃ a, exec .reskeinRelocateEnd s = .next a ∧ a.rd F.FC_RSK_STATE = 3 ∧ a.rd F.FC_RSK_PROG = 100 ∧ a.fc.rskPass = s.im.pass + 1 ∧
        Leaves s a [(F.FC_RSK_STATE, 0), (F.FC_RSK_PROG, 0), (F.FC_RSK_BUNDLE, 0)]) ∧
    (s.rd F.FC_RSK_STATE ≠ 0 →
      let a := s.begin.rskCheckpoint
      exec .reskeinCheckpointWrite s = .next (State.norProgram { a with fc := { a.fc with ckptNor := a.fc.ckpt } }))) ∧
  (∀ (s : State) (v : Via), MailboxReady s v →
    (∀ t, t < 1024 → exec (.getFlashTarget v t) s = .next (s.begin.reply v .success [0, s.tgtStatus t, s.tgtCal t])) ∧
    (∀ t b page mode off flips, t < 1024 → b < blocksPerTarget → page < 1152 → mode ≤ 1 → -8 ≤ off → off ≤ 7 →
      (s.tgt t).state ≠ tgAbsent → (s.tgt t).state ≠ tgBound → (s.tgt t).state ≠ tgRetired → s.idleTgt t = true →
      let raw := s.pageRead (t * 4096 + b) page flips
      exec (.flashDiagnosticRead v t b page mode off flips) s =
        .next (if mode = 0 then (s.begin.skipPage (t * 4096 + b) page).reply v .success (0 :: raw)
          else s.begin.reply v .success (if s.pageSpoilt (t * 4096 + b) page then [4]
            else match decodePage (t * 4096 + b) page raw with
              | some (content, counts) => 0 :: (content ++ counts)
              | none => [4]))) ∧
    (∀ t, t < 1024 → (s.tgt t).state ≠ tgAbsent → (s.tgt t).state ≠ tgBound → (s.tgt t).state ≠ tgRetired →
      exec (.retireTarget v t) s = .next (if s.usable < 32 + (if s.chanShare (tgtChan t) = 0 then 0 else 1)
        then s.begin.reply v .success [6] else (s.begin.retire t 5).reply v .success [0])) ∧
    exec (.getReskeinStatus v) s = .next (s.begin.reply v .success (0 :: s.rskWord :: s.fc.queue))))

/-- R133 to R135: the rotation of Strands over the members of a bundle, the size of a programmed page, and the content of a seal page. That an
erased page reads all ones is the model's reading of R186 (log 170). -/
def Obligations.PagesAndStrands : Prop :=
  (∀ (s : State) (k : Skein), (s.bundle k.bundle).members.length = 32 → (s.bundle k.bundle).members.Nodup →
    (∀ j, j < 32 → ∃ b, s.strandBlk k j = some b ∧ (s.bundle k.bundle).members.contains b = true) ∧
    (∀ i j, i < 32 → j < 32 → s.strandBlk k i = s.strandBlk k j → i = j) ∧
    (∀ b, (s.bundle k.bundle).members.contains b = true → ∃ j, j < 32 ∧ s.strandBlk k j = some b) ∧
    (∀ j, s.strandBlk { k with page := k.page + 1 } j = s.strandBlk k (j + 1))) ∧
  (∀ (block page : Nat) (content : List Nat), (encodePage block page (fitTo 16640 0 content)).length = 18656) ∧
  (∀ (block ers time lsn : Nat),
    (sealContent block ers time lsn).length = 16640 ∧ (sealContent block ers time lsn).drop 16384 = List.replicate 256 0 ∧
    ((sealContent block ers time lsn).drop 8).take 16 = leBytes 8 (block % 2 ^ 32) ++ leBytes 8 (ers % 2 ^ 32)) ∧
  (∀ (s : State) (b page : Nat), 0 < page → b < 2 ^ 22 → (s.forgetBlock b).pageRead b page [] = List.replicate 18656 0xFF)

/-! ### Memory channels -/

/-- R22, R226 to R228, R233 to R239: training, link errors, patrol scrub, heals, the rank copy and module temperatures.
R225, R238, R241, R243: Translate Address, Spare Rank and Get Memory Errors. -/
def Obligations.MemoryChannels : Prop :=
  ((∀ (s : State) (cap ranks : Nat) (good : List Nat), s.phase = phBringup → s.mc.trained = false → s.rd F.CK_STS_STATE = 2 →
    (domsMCG.all fun d => s.dom d == 1) = true →
    exec (.memoryTrainingComplete none cap ranks good) s = .next ((s.begin.event 0x8001 [0, 0]).enterRecoveryPhase 3) ∧
    ∀ r, s.flag F.MC_CFG_SPARE = false → s.pw.dram = true →
      let t := s.begin.forEach (List.range 24) fun a c => a.setMch c { a.mch c with state := 2, cap := cap, ranks := ranks }
      let t := ((t.wr F.MC_STAT_RATE (min r (t.rd F.MC_CFG_MAXRATE))).wr F.MC_STAT_UP (2 ^ 24 - 1)).wr F.SHR_CAP_VISIBLE
        (visibleGib (24 * cap) * 4)
      exec (.memoryTrainingComplete (some r) cap ranks good) s =
        .next (({ t with mc := { t.mc with trained := true } } : State).spareResume.updReady.imageStep)) ∧
  (∀ (s : State) (c cause tries : Nat), s.phase = phService → (s.mch c).state = 2 →
    let x := { s.mch c with retry := min 255 ((s.mch c).retry + min 3 tries) }
    (tries ≤ 3 → ∃ t, exec (.memoryLinkError c cause tries false) s = .next t ∧ t.mch c = x ∧ (∀ d, d ≠ c → t.mch d = s.mch d) ∧ Leaves s t []) ∧
    (3 < tries → exec (.memoryLinkError c cause tries true) s = .next ((s.begin.event 0x8003 [c, cause]).setMch c x)) ∧
    (∀ w, 3 < tries → (s.mch c).retrains = [w] → s.ck.mono < w + 3600000000000 →
      let t := (((s.begin.event 0x8003 [c, cause]).setMch c { x with retrains := [s.ck.mono, w], state := 4 }).event 0x8002 [c])
      exec (.memoryLinkError c cause tries false) s =
        .next (((t.setBit F.MC_STAT_FAILED c true).setBit F.MC_STAT_UP c false).updReady))) ∧
  (∀ (s : State) (found : List (Nat × LineError)) (reserve : List (Nat × ReserveError)), s.serving = true → s.mc.trained = true →
    24 * (s.mch 0).cap * 2 ^ 30 ≤ 6000000000 * 3600 * max 1 (s.rd F.MC_SCRUB_PERIOD) →
    let t := (s.begin.wr F.MC_SCRUB_STRETCH 0).wr F.MC_SCRUB_PROG 0
    exec (.patrolScrub found reserve) s = .next ((reserve.foldl (fun (a : State) e => a.reserveError e.1 e.2)
      (found.foldl (fun (a : State) e => a.lineRead e.1 e.2) t)).bump F.MC_SCRUB_PASSES)) ∧
  (∀ (s : State) (u i : Nat) (k : Skein) (x : Slot), s.serving = true → s.mc.heals.contains u = true → (s.unit u).st = 0 → s.slotOf u = some (k, i, x) →
    let t : State := { s.begin with mc := { s.mc with heals := s.mc.heals.filter (· != u) } }
    ∀ flips others,
      let r := t.fetchRead (t.fetchAtOnce u) k (i / 4) flips others
      (r.2 = true → exec (.healComplete u flips others false) s = .next (((r.1.fillUnit u x).bump F.MC_ERR_HEAL).mediaEvent u 1)) ∧
      (r.2 = false → exec (.healComplete u flips others false) s = .next (r.1.event 0x8008 [u * 4096])) ∧
      exec (.healComplete u flips others true) s = .next (r.1.event 0x8008 [u * 4096])) ∧
  (∀ (s : State), s.rd F.MC_SPARE_STATE = 1 → s.serving = true →
    exec .rankSpareCopyEnd s = .next (s.begin.spareDone (s.rd F.MC_SPARE_CHAN) (s.rd F.MC_SPARE_RANK)) ∧
    ∀ ptr, ∃ t, exec (.sparePointerCheckpoint ptr) s = .next t ∧ t.mc.ptrCkpt = t.mc.ptr ∧ s.mc.ptr ≤ t.mc.ptr ∧ Leaves s t [(F.MC_SPARE_PROG, 0)]) ∧
  (∀ (s : State) (temps : List (Option Int)), s.serving = true →
    let t := s.begin.forEach [2, 3, 4] State.busFree
    exec (.moduleTemperaturePoll temps) s = .next (((List.range 24).zip temps).foldl (fun (a : State) e =>
      a.moduleTemp e.1 (if a.twb.faulted (2 + e.1 / 8) then none else e.2)) t).settleAttn)) ∧
  (∀ (s : State) (v : Via), MailboxReady s v →
    (∀ dpa, exec (.translateAddress v dpa) s = .next (s.begin.reply v .success ([dpa / 4096 % 24, s.unitRank (dpa / 4096), dpa / 64 % 2] ++
      Config.dramHash (dpa / 4096 / 24 * 4096 + dpa % 4096) ++ [(s.shareOf (dpa / 4096)).getD 0xFF]))) ∧
    (∀ c r, c < 24 → r < 2 →
      (s.flag F.MC_CFG_SPARE = false → exec (.spareRank v c r) s = .next (s.begin.reply v .success [4, 5])) ∧
      (s.flag F.MC_CFG_SPARE = true → s.rd F.MC_SPARE_STATE ≠ 0 → exec (.spareRank v c r) s = .next (s.begin.reply v .success [4, 8])) ∧
      (s.spareFree c = true → r = bit01 (s.mch c).swap → exec (.spareRank v c r) s = .next ((s.begin.startSpare c r).reply v .success [0, 0]))) ∧
    (∀ c, c < 24 → ∃ t, exec (.getMemoryErrors v c) s = .next t ∧ Leaves s t [] ∧
      t = s.begin.reply v .success ([s.chanSts c, s.chanErr c, s.chanEras c] ++
        (s.mch c).rows.flatMap fun r => [r.1, r.2.1, r.2.2.1, r.2.2.2])))

/-! ### Power -/

/-- R274, R275, R278, R280, R281, R284: power-good, the response to a rail fault in service by group, a warning, and the end of t_OFF_MIN. -/
def Obligations.RailEvents : Prop :=
  (∀ (s : State) (slot mv : Nat), slot < 16 →
    (inWindow (s.railNominal slot) mv = false → exec (.railPowerGood slot mv) s = .next s.begin) ∧
    (inWindow (s.railNominal slot) mv = true → s.pw.up ≠ 0 → (s.stepSlots s.pw.up).contains slot = true →
      (((s.stepSlots s.pw.up).takeWhile (· != slot)).all fun i => s.pw.good.contains i) = true →
      let t := (s.begin.wri F.PW_RMON_PG slot 1).wri F.PW_RMON_VOUT slot mv
      exec (.railPowerGood slot mv) s =
        .next (({ t with pw := { t.pw with good := slot :: t.pw.good.filter (· != slot) } } : State).powerAdvance 9))) ∧
  (∀ (s : State) (slot kind : Nat), slot < 16 → s.flagi F.PW_RAIL_EN slot = true → s.serving = true → kind ≠ 3 → kind ≠ 4 →
    let t := ((s.begin.wr F.PW_FAULT_KIND kind).wr F.PW_FAULT_SLOT slot).wr F.PW_FAULT_STEP (s.rd F.PW_STATE_STEP)
    let t := ((t.wr F.PW_FAULT_SEQ (s.rd F.PW_STATE_SEQ)).bump F.PW_FAULT_COUNT).wri F.PW_RMON_FAULT slot 1
    let t := (t.snapshot 1 slot).event 0xA003 [slot, kind, s.rd F.PW_STATE_STEP]
    exec (.railFault slot kind) s =
      .next (if s.rdi F.PW_RAIL_GRP slot = 3 ∨ s.rdi F.PW_RAIL_GRP slot = 4 then t.groupFault (s.rdi F.PW_RAIL_GRP slot)
        else t.powerTrigger 1 0 0)) ∧
  (∀ (s : State) (slot mv : Nat), slot < 16 → s.flagi F.PW_RAIL_EN slot = true → s.phase ≠ phOff → s.phase ≠ phDormant →
    ∃ t, exec (.railWarning slot 1 mv) s = .next t ∧ t.rdi F.PW_RMON_VOUT slot = mv % 2 ^ F.PW_RMON_VOUT.width ∧
      (FMap.get {} t.ev.sums 0xA004).count = (FMap.get {} s.ev.sums 0xA004).count + 1 ∧ Leaves s t [(F.PW_RMON_VOUT, slot)]) ∧
  (∀ (s : State) (ticks : Nat), s.begin.downRest.rd F.PW_STATE_SEQ = 3 →
    let d := s.begin.downRest
    let t := (d.wr F.PW_STATE_ONPEND 0).setSeq 0 0
    exec (.offWaitExpiry ticks) s = .next (if d.phase = phDormant then t.powerStart d.pw.cause ticks else t.powerUp))

/-- R272, R283, R286, R288 to R291, R425: the monitors, standby, operating points, the thermal cap, Get Snapshot and Read Rails. -/
def Obligations.PowerMonitor : Prop :=
  (∀ (s : State) (status : List (Nat × Nat)), s.spRuns 5 = true → s.phase ≠ phOff → s.phase ≠ phDormant → s.rd F.PW_STATE_STBY ≠ 1 →
    s.twb.faulted 1 = false →
    let t := (status.filter fun e => s.pmbusSlots.contains e.1).foldl (fun (a : State) e => a.statusWord e.1 e.2) s.begin
    let t := s.pmbusSlots.foldl (fun (a : State) i =>
      let n := if status.any fun e => e.1 == i then 0 else FMap.get 0 a.pw.silent i + 1
      let a : State := { a with pw := { a.pw with silent := FMap.put a.pw.silent i n } }
      if n = 3 then (a.event 0xA00D [i]).event 0xA004 [i, 6, 0] else a) t
    exec (.pmbusStatusPoll status []) s = .next (t.busFree 1)) ∧
  (∀ (s : State) (slot status : Nat), s.spRuns 5 = true → s.pmbusSlots.contains slot = true →
    exec (.lbAlert slot status) s = .next (s.begin.statusWord slot status)) ∧
  (∀ (s : State) (tm : Nat), s.phase = phSave → s.rd F.SPN_SAVE_REASON = 1 → s.flag F.SPN_SAVE_PWRBACK = false →
    exec (.holdupMeasurement tm true) s = .next s.begin ∧
    ∃ t, exec (.holdupMeasurement tm false) s = .next t ∧ t.pw.holdups.length ≤ 4 ∧ t.pw.holdups.tail = s.pw.holdups.take 3 ∧
      t.rd F.MR_HOLDUP_THU = (t.pw.holdups.foldl min (F.MR_HOLDUP_THU.rst % 2 ^ 20)) % 2 ^ F.MR_HOLDUP_THU.width ∧
      Leaves s t [(F.MR_HOLDUP_THU, 0), (F.MR_HOLDUP_SRC, 0), (F.PW_HOLD_CAP, 0), (F.PW_HOLD_TM, 0), (F.PW_HOLD_N, 0)]) ∧
  (∀ (s : State), s.phase = phService → s.rd F.PW_CTL_STBY ≠ 0 → s.coreIdle = true → s.residue = 0 → s.rd F.PW_STATE_STBY = 0 →
    ∃ t, exec .standbyEntry s = .next t ∧ t.rd F.PW_STATE_PSTATE = 3 ∧ t.rd F.PW_STATE_STBY = 1 ∧ t.pw.dram = true ∧
      t.ck.sleep.isSome = true ∧ t.mem = s.mem ∧ t.dmap = s.dmap ∧ t.index = s.index ∧ t.poisoned = s.poisoned) ∧
  (∀ (s : State) (mv : Nat), s.flag F.PW_OP_BUSY = true →
    let t := s.begin.wr F.PW_OP_VCORE mv
    (s.pw.opHalf = true → exec (.opChangeComplete mv) s = .next t.opDone) ∧
    (s.pw.opHalf = false → s.rd F.PW_OP_CUR ≤ s.rd F.PW_OP_TARGET →
      exec (.opChangeComplete mv) s = .next { t with pw := { t.pw with opHalf := true } }) ∧
    (s.pw.opHalf = false → s.rd F.PW_OP_TARGET < s.rd F.PW_OP_CUR → 100 * mv < 98 * [800, 720, 650, 600].getD (s.rd F.PW_OP_TARGET) 600 →
      exec (.opChangeComplete mv) s = .next ((t.bump F.PW_OP_HELD).event 0xA00E [s.rd F.PW_OP_TARGET]))) ∧
  (∀ (s : State) (r : Int) (l : List Int), s.phase ≠ phOff → s.phase ≠ phDormant →
    let tj := l.foldl max r
    let new := thermCap (s.rd F.PW_OP_THERM) tj
    let t : State := { s.begin with pw := { s.pw with tj := tj } }
    let t := if new = s.rd F.PW_OP_THERM then t else ((t.wr F.PW_OP_THERM new).event 0xA00C [(tj % (2 ^ 16 : Int)).toNat, new]).recap
    exec (.temperatureSample (r :: l)) s = .next (if 110 ≤ tj then t.powerTrigger 1 0 0 else t.settleAttn.imageStep)) ∧
  (∀ (s : State) (v : Via), MailboxReady s v →
    exec (.readRails v) s = .next (s.begin.reply v .success s.railWords) ∧
    ∀ i, exec (.getSnapshot v i) s =
      .next (match s.pw.snaps[i]? with | some x => s.begin.reply v .success x.words | none => s.begin.reply v .invalidInput []))

/-! ### Triggers, resets and the Save -/

/-- R17, R111, R112, R125, R127, R273, R385, R395: triggers, service input, WAKE_N and the loss of all energy, phase by phase. -/
def Obligations.TriggersAndInput : Prop :=
  (∀ (s : State) (b ticks : Nat), b < 2 →
    let t := s.begin.wr F.PW_VIN_OK 0
    let t : State := { t with pw := if b = 0 then { t.pw with cmpA := true } else { t.pw with cmpB := true } }
    (s.serving = true → ∃ u, exec (.comparatorTrip b ticks) s = .next u ∧ u = (t.wakeDeep ticks).startSave 1 (1 + b) ∧ u.phase = phSave ∧
      u.rd F.GEN_PHASE_CAUSE = 0x05) ∧
    (s.phase = phBringup →
      (s.rd F.PW_STATE_SEQ = 0 → exec (.comparatorTrip b ticks) s = .next (t.powerDown 0x05)) ∧
      (s.rd F.PW_STATE_SEQ = 1 →
        exec (.comparatorTrip b ticks) s = .next ((t.event 0xA008 [0, s.rd F.PW_STATE_STEP]).powerDown 0x05)) ∧
      (s.rd F.PW_STATE_SEQ = 3 → ∃ u, exec (.comparatorTrip b ticks) s = .next u ∧ u = t.intoDormant 0x05 ∧
        u.rd F.PW_STATE_ONPEND = 0 ∧ u.rd F.PW_STATE_SEQ = 0)) ∧
    (s.phase = phSave → exec (.comparatorTrip b ticks) s = .next (t.wr (if b = 0 then F.SPN_SAVE_TRIGA else F.SPN_SAVE_TRIGB) 1))) ∧
  (∀ (s : State) (ticks : Nat), s.serving = true →
    (s.ledSafe ≠ 1 → ∃ u, exec (.latchOpen ticks) s = .next u ∧
      u = ((((s.begin.wr F.GEN_PINS_LATCH 1).event 0xF108 [s.ledSafe])).wakeDeep ticks).startSave 2 4 ∧ u.phase = phSave ∧
      u.rd F.GEN_PHASE_CAUSE = 0x06) ∧
    (s.ledSafe = 1 → exec (.latchOpen ticks) s = .next ((s.begin.wr F.GEN_PINS_LATCH 1).event 0xF108 [1])) ∧
    (let t := s.begin.wr F.GEN_PINS_RESET 0
     let t : State := { t with pw := { t.pw with resetLow := true } }
     ∃ u, exec (.resetNAssert ticks) s = .next u ∧ u = (t.wakeDeep ticks).startSave 3 0 ∧ u.phase = phSave ∧ u.rd F.GEN_PHASE_CAUSE = 0x07)) ∧
  (∀ (s : State) (ticks : Nat),
    let t := s.begin.wr F.PW_VIN_OK 1
    let t : State := { t with pw := { t.pw with cmpA := false, cmpB := false } }
    (s.phase = phOff → exec (.serviceInputValid ticks) s = .next (t.onRequest 1 ticks)) ∧
    (s.phase = phDormant → exec (.serviceInputValid ticks) s = .next (t.onRequest (if s.pw.wake then 2 else 4) ticks)) ∧
    (s.phase = phLinger → exec (.serviceInputValid ticks) s = .next (t.warmReturn ticks)) ∧
    (s.phase = phSave → exec (.serviceInputValid ticks) s =
      .next ((t.wr F.SPN_SAVE_PWRBACK 1).event 0x4006 [(s.ck.mono - s.sv.startAt) / 1000]))) ∧
  (∀ (s : State) (ticks : Nat),
    let t := s.begin.wr F.GEN_PINS_WAKE 0
    (s.phase = phDormant → s.flag F.PW_VIN_OK = true → exec (.wakeNFall ticks) s = .next (t.onRequest 2 ticks)) ∧
    (s.phase = phDormant → s.flag F.PW_VIN_OK = false → exec (.wakeNFall ticks) s = .next { t with pw := { t.pw with wake := true } }) ∧
    (s.phase = phService → exec (.wakeNFall ticks) s = .next (t.wakeDeep ticks)) ∧
    (s.phase = phDormant → ∃ u, exec .energyGone s = .next u ∧ u.phase = phOff ∧ u.rd F.GEN_PHASE_PREV = phDormant ∧ u.ck.sleep = none ∧
      u.ev.aon = [] ∧ u.pw.down = none ∧ Leaves s u ([(F.GEN_PHASE_PHASE, 0), (F.GEN_PHASE_PREV, 0), (F.PW_STATE_SEQ, 0), (F.PW_STATE_STEP, 0),
        (F.SEC_STS_DISCPEND, 0), (F.FW_CTL_RECREQ, 0), (F.CK_SLEEP_VALID, 0), (F.CK_SLEEP_TICKS, 0)] ++
        (List.range 16).map fun i => (F.PW_RMON_PG, i))))

/-- R123, R384, R385, R399: GEN_RST, Reset Device and the reset datagram; a reset in SAVE is deferred; RESET_N rises. -/
def Obligations.SoftwareResets : Prop :=
  (∀ (s : State) (sb : Bool) (val ticks : Nat), s.phase ≠ phOff → s.phase ≠ phDormant →
    (natField val 56 8 = 0xA5 → natBit val 0 = true → (sb = false ∨ natBit (s.rd F.TWB_SB_WRMASK) 0 = true) →
      exec (.genRstWrite sb val ticks) s = .next ((s.begin.event 0xF109 [bit01 sb]).deviceReset (bit01 sb) ticks)) ∧
    (natField val 56 8 ≠ 0xA5 ∨ natBit val 0 = false → exec (.genRstWrite sb val ticks) s = .next s.begin)) ∧
  (∀ (s : State) (ticks : Nat), s.phase = phSave → s.flag F.SPN_SAVE_DEFER = false →
    let t := s.begin.wr F.GEN_PINS_RESET 0
    let t : State := { t with pw := { t.pw with resetLow := true } }
    exec (.resetNAssert ticks) s = .next ((t.wr F.SPN_SAVE_DEFER 1).event 0x4005 [0])) ∧
  (∀ (s : State) (v : Via), MailboxReady s v →
    exec (.resetDevice v) s = .next (((s.begin.reply v .success []).event 0xF109 [2]).deviceReset 2 0)) ∧
  (∀ (s : State) (payload : List Byte), s.phase ≠ phOff → s.phase ≠ phDormant → payload.length = 16 →
    natField (joinBytes payload) 0 32 = 0x52535444 → natField (joinBytes payload) 32 32 = 0 →
    natField (joinBytes payload) 64 64 = s.rd F.GEN_SERIAL_SERIAL → s.pan.ethUp = true →
    (s.flag F.GEN_CFG_NETRST = true → exec (.resetDatagram payload) s = .next ((s.begin.event 0xF109 [3]).deviceReset 3 0)) ∧
    (s.flag F.GEN_CFG_NETRST = false → exec (.resetDatagram payload) s = .next s.begin)) ∧
  (∀ (s : State) (ticks : Nat),
    let t := s.begin.wr F.GEN_PINS_RESET 1
    let t : State := { t with pw := { t.pw with resetLow := false } }
    (s.phase = phDormant → s.pw.onHeld = true → exec (.resetNRelease ticks) s = .next (t.onRequest s.pw.cause ticks)) ∧
    (s.phase = phBringup → s.mpRuns = false → 2 ≤ s.pw.done → exec (.resetNRelease ticks) s = .next (t.bootChain.powerAdvance 9)))

/-- R114, R120, R123, R124, R126, R150: the save-start record, save-bus warning and low, the manifest, the forced abort, energy failing, and the
ends of LINGER. The cause 0x0B of energy failing in SAVE is the model's choice (log 199), and the causes in event 0x400C are (log 202). -/
def Obligations.SaveCourse : Prop :=
  (∀ (s : State), s.phase = phSave →
    (s.sv.started = false → s.spRuns 1 = true →
      exec .saveStartRecord s = .next (if s.sv.empty then s.begin.saveEnd 0
        else if s.ck.stopped.any (· != 1) then s.begin.failSave else s.begin.startRecord.streamEnd)) ∧
    (∀ a flips, s.im.anchorW = some a → a.kind ≠ 1 →
      let p := s.begin.readBack a flips
      exec (.manifestClosed flips) s = .next (if p.2 = 0 then p.1.rewriteAnchor a else (p.1.standAnchor a p.2).saveEnd a.result)) ∧
    (∀ mv, s.sv.started = true → s.sv.closing = false →
      let t := (s.begin.wr F.PW_SBUS_SBUS (mv / 10)).wr F.PW_SBUS_WARNIND 1
      let rs := max (s.sv.rs * 3 / 4) (s.sv.rcap / 16)
      (s.sv.cut = false → rs < s.sv.rs → exec (.saveBusWarning mv) s = .next ((t.bump F.SPN_SRATE_DROOP).lowerRate rs s.sv.rcap 4)) ∧
      (s.im.anchorW = none → ∃ u, exec (.saveBusLow mv) s = .next u ∧ u.sv.cut = true ∧ u.rd F.PW_SBUS_LOWIND = 1 ∧
        u.rd F.PW_SBUS_WARNIND = 1 ∧ Leaves s u [(F.PW_SBUS_SBUS, 0), (F.PW_SBUS_WARNIND, 0), (F.PW_SBUS_LOWIND, 0)])) ∧
    (s.sv.cut = true → s.sv.closing = false → s.im.anchorW = none → (s.im.flight.any fun k => k.ty == 1) = false →
      exec .truncatedManifestClose s = .next (s.begin.closeOut 2)) ∧
    (∀ commits, s.pw.resetLow = true → s.sv.empty = false → s.sv.started = true → (s.sv.closing = false ∨ s.sv.result ≠ 3) →
      let t := (s.im.flight.filter fun k => k.ty == 1).foldl (fun a k => if commits.contains k.gen then a.commitData k else a.abandon k)
        s.begin
      exec (.forcedAbort commits) s = .next (State.closeOut { t with sv := { t.sv with cut := true } } 3)) ∧
    (let t := s.begin.releaseTargets.wr F.SPN_SAVE_RESULT 4
     let t : State := { t with im := { t.im with anchorW := none }, sv := { t.sv with owed := true, result := 4 } }
     exec .energyFail s =
       .next (if s.flag F.PW_VIN_OK == false && s.rd F.EN_SUM_EU == 0 then (t.powerDown 0x0B).energyGone else t.powerDown 0x0B))) ∧
  (∀ (s : State), s.phase = phLinger →
    exec .lingerTimerExpiry s = .next ((s.begin.event 0x400C [0]).powerDown 0x0A) ∧
    exec .lingerEnergyLimit s = .next ((s.begin.event 0x400C [1]).powerDown 0x0B))

/-! ### Admission and restore -/

/-- R131, R156, R388, R389: ADMISSION_EVALUATE, the first admission's anchor, and the end of preparation.
R158, R159, R161, R162: the ends of an eager read and of a demand fetch. -/
def Obligations.AdmissionAndRestore : Prop :=
  ((∀ (s : State), s.mpRuns = true → (s.phase = phBringup ∨ s.serving = true) → s.admitted = false → s.flag F.GEN_ADMIT_FIRST = false →
    (∀ i, s.unmet = 0 → s.im.imageId = some (i, true) →
      exec .admissionEvaluate s = .next ((s.begin.wr F.GEN_ADMIT_BLOCK 0).grantAdmission false)) ∧
    (s.unmet = 0 → s.im.imageId = none → exec .admissionEvaluate s = .next (s.begin.wr F.GEN_ADMIT_BLOCK 0).firstAdmit) ∧
    (s.unmet ≠ 0 → s.pan.blocked = true → ∃ t, exec .admissionEvaluate s = .next t ∧
      t.rd F.GEN_ADMIT_BLOCK = s.unmet % 2 ^ F.GEN_ADMIT_BLOCK.width ∧ t.admitted = false ∧ Leaves s t [(F.GEN_ADMIT_BLOCK, 0)])) ∧
  (∀ (s : State) (a : Anchor) (flips : List (List Nat)), s.flag F.GEN_ADMIT_FIRST = true → s.phase ≠ phSave → s.im.anchorW = some a →
    let p := s.begin.readBack a flips
    let t : State := { p.1 with im := { p.1.im with imageId := p.1.im.imageId.map fun i => (i.1, true) }, pan := { p.1.pan with first := false } }
    exec (.firstAdmissionComplete flips) s =
      .next (if p.2 = 0 then p.1.rewriteAnchor a else (((t.wr F.GEN_ADMIT_FIRST 0).passDone a p.2).grantAdmission true))) ∧
  (∀ (s : State) (bad : List Nat) (lost : List (Nat × Nat)), s.phase = phBringup → s.rd F.SPN_RST_STAGE = 1 → s.rs.imageDone = false → s.spRuns 1 = true →
    exec (.preparationComplete bad lost) s = .next (s.begin.prepared bad lost))) ∧
  ((∀ (s : State) (k : Skein) (gen j : Nat) (reads : List (List Nat)) (others bad : List Nat), FMap.find s.im.skeins gen = some k →
    s.restoring = true → s.spRuns 1 = true → k.ty = 1 → s.eagerDue k j = true →
    let r := s.begin.retryRead k j reads
    let p := if r.2 then (r.1, true) else r.1.tryRebuild k j others
    exec (.eagerReadComplete gen j reads others bad) s =
      .next (p.1.forEach (List.range 4) fun a q => a.eagerSlot k j p.2 bad q).settleShares) ∧
  (∀ (s : State) (u us : Nat) (f : Fetch) (flips others : List Nat) (bad : Bool), FMap.find s.rs.fetches u = some f → (f.sent || f.atOnce) = true →
    s.serving = true →
    (s.rmapOf u ≠ 1 → exec (.demandFetchComplete u flips others bad us) s = .next (s.begin.endFetch u us false)) ∧
    (s.rmapOf u = 1 → s.slotOf u = none →
      exec (.demandFetchComplete u flips others bad us) s = .next (((s.begin.setPresent u).mergeWaits u).endFetch u us false)) ∧
    (∀ k i x, s.rmapOf u = 1 → s.slotOf u = some (k, i, x) → s.isListed u = true →
      let t := (s.begin.installUnit u 0 x).endFetch u us false
      exec (.demandFetchComplete u flips others bad us) s = .next (if t.phase = phSave then t.streamEnd else t.settleShares)) ∧
    (∀ k i x, s.rmapOf u = 1 → s.slotOf u = some (k, i, x) → s.isListed u = false →
      let r := s.begin.fetchRead f.atOnce k (i / 4) flips others
      (r.2 = true →
        let t := (r.1.installUnit u (if bad then 3 else 0) x).endFetch u us false
        exec (.demandFetchComplete u flips others bad us) s = .next (if t.phase = phSave then t.streamEnd else t.settleShares)) ∧
      (r.2 = false → exec (.demandFetchComplete u flips others bad us) s =
        .next (({ r.1 with rs := { r.1.rs with handed := u :: r.1.rs.handed } } : State).endFetch u us true)))))

/-! ### Security -/

/-- R30, R354, R355: SEAL's acceptance, its commit, and UNSEAL with and without a matching key share. -/
def Obligations.Sealing : Prop :=
  (∀ (s : State) (h tag n : Nat), AdminReady s h → s.shDefined n = true → s.phase = phService → s.changing n = false → s.removing = false →
    let c := adminCapture s h tag n
    (s.shMode n = mdHeld → s.shState n = shReady → s.ticketsOn n = false →
      let t : State := { c.1 with sec := { c.1.sec with seals := FMap.del s.sec.seals n, sealFrom := FMap.put s.sec.sealFrom n (c.1.shDirty n) } }
      let t := ((t.wri F.SHR_STATUS_TARGET n mdSealed).wri F.SHR_STATUS_PROG n 0).setShState n shChanging
      exec (.shareSeal h tag n false) s = .next (t.keepTicket { c.2 with op := 0x53 })) ∧
    (∀ slot, s.shMode n = mdSealed → (s.shState n = shReady ∨ s.shState n = shLocked) → s.admitted = true →
      (s.ownerSealed n = false →
        let t : State := { c.1 with sec := { c.1.sec with keyw := FMap.put s.sec.keyw n (natField (FMap.get 0 s.sec.keyw n) 0 40) } }
        exec (.shareUnseal h tag n slot) s = .next (((t.commitMode n mdHeld).settleKeys).finish c.2 0 0 0)) ∧
      (s.ownerSealed n = true → s.flag F.SEC_STS_LOCKOUT = false → FMap.find s.sec.slots slot = none →
        exec (.shareUnseal h tag n slot) s = .next (c.1.failedCheck.refuseShare c.2 n 4)))) ∧
  (∀ (s : State) (n : Nat), s.sealing n = true → s.shDirty n = 0 → FMap.find s.sec.seals n = none →
    let t : State := { s.begin with sec := { s.sec with keyw := FMap.put s.sec.keyw n (natField (FMap.get 0 s.sec.keyw n) 0 40)
                                                        seals := FMap.del s.sec.seals n, sealFrom := FMap.del s.sec.sealFrom n } }
    let t := (((t.endChange n).setShState n shReady).commitMode n mdSealed).settleKeys
    exec (.sealCommit n) s = .next (match t.inProgress n 0x53 with | some k => t.finish k 0 0 0 | none => t))

/-- R353, R355, R356, R358, R359, R361, R365: key shares, nonces, ENROL_OWNER, the DRBG, Get Security Status, and the SPDM responder. -/
def Obligations.KeysAndNonces : Prop :=
  (∀ (s : State) (h slot key : Nat), MailboxReady s (.head h) → s.ideOn (.head h) = true → s.flag F.SEC_STS_LOCKOUT = false → slot < 16 →
    ((List.range 64).all fun n => s.shState n != shLocked) = true →
    exec (.loadKeyShare (.head h) slot key) s = .next ((State.settleKeys { s.begin with sec := { s.sec with
      slots := FMap.put s.sec.slots slot (key % 2 ^ 256) } }).reply (.head h) .success [])) ∧
  (∀ (s : State) (v : Via) (slot : Nat), MailboxReady s v → slot < 16 ∨ slot = 0xFF →
    exec (.clearKeyShare v slot) s = .next ((State.settleKeys { s.begin with sec := { s.sec with
      slots := if slot = 0xFF then [] else FMap.del s.sec.slots slot } }).reply v .success [])) ∧
  (∀ (s : State) (v : Via), MailboxReady s v →
    exec (.getSecurityStatus v) s = .next (s.begin.reply v .success s.secWords) ∧
    (s.flag F.SEC_STS_DRBGOK = true → exec (.getNonce v) s = .next (s.begin.newNonce.reply v .success s.begin.newNonce.nonceWords))) ∧
  (∀ (s : State) (h : Nat), s.viaOpen (.head h) = true → s.flag F.SEC_STS_DRBGOK = true →
    ∃ t, exec (.secNonceRead h) s = .next t ∧ t.sec.nonce = some (s.drbgVal % 2 ^ 256, s.ck.mono) ∧
      t.out = [.regData [s.drbgVal % 2 ^ 64]] ∧ (∀ i, i < 4 → t.rdi F.SEC_NONCE_NONCE i = natField (s.drbgVal % 2 ^ 256) (64 * i) 64) ∧
      Leaves s t [(F.SEC_NONCE_NONCE, 0), (F.SEC_NONCE_NONCE, 1), (F.SEC_NONCE_NONCE, 2), (F.SEC_NONCE_NONCE, 3)]) ∧
  (∀ (s : State) (n at_ : Nat), s.sec.nonce = some (n, at_) → at_ + 300000000000 ≤ s.ck.mono →
    ∃ t, exec .nonceExpiry s = .next t ∧ t.sec.nonce = none ∧ Leaves s t []) ∧
  (∀ (s : State) (h key : Nat), MailboxReady s (.head h) → s.sec.owner = none → s.ideOn (.head h) = true →
    exec (.enrolOwner (.head h) key) s = .next ((s.begin.setOwner (some key)).reply (.head h) .success [])) ∧
  (∀ (s : State), s.phase ≠ phOff → s.phase ≠ phDormant →
    (∀ test, s.flag F.SEC_STS_DRBGOK = true →
      exec (.drbgHealthFailure test) s = .next (((s.begin.wr F.SEC_STS_DRBGOK 0).event 0xE002 [test]).updReady)) ∧
    (s.flag F.SEC_STS_DRBGOK = false →
      let t := s.begin.wr F.SEC_STS_DRBGOK 1
      exec (.drbgRetry true) s = .next (State.updReady { t with mpWait := s.mpWait ++ s.sec.waits.map (fun c => (16, c, none))
                                                                sec := { s.sec with waits := [], seededAt := s.ck.mono, seeds := s.drbgCtr } }).imageStep)) ∧
  (∀ (s : State), s.flag F.SEC_STS_DRBGOK = true →
    exec .drbgReseed s = .next { s.begin with sec := { s.sec with seededAt := s.ck.mono, seeds := s.drbgCtr } }) ∧
  (∀ (s : State) (h : Nat) (m : DoeMsg), s.viaOpen (.head h) = true → s.mpRuns = true → s.phase ≠ phRecovery →
    (doeAnswer m (s.head h).spdm = none → exec (.spdmDoeMessage h m) s = .next (s.begin.send (.doe h [0x7F, 0x04]))) ∧
    ∀ code st, doeAnswer m (s.head h).spdm = some (code, st) → doeKeys m (s.head h).ideKeys = (s.head h).ideKeys →
      exec (.spdmDoeMessage h m) s = .next ((((s.begin.setHead h { s.head h with spdm := st }).send (.doe h (code :: s.doeWords m))).skipFree).wri
        F.HP_LINK_IDE h (bit01 (natBit (s.head h).ideKeys 2 || natBit (s.head h).ideKeys 3))))

/-- R360 to R363: the six token operations on an accepted token, a rejected token, Sanitize and Secure Erase. -/
def Obligations.OwnerTokens : Prop :=
  (∀ (s : State) (v : Via) (k : Token) (op : Nat) (c : Instr), MailboxReady s v → s.sec.rejected < 16 →
    (op = 1 ∧ c = .clearRecorder v k ∨ op = 2 ∧ c = .discardImage v k ∨ op = 3 ∧ c = .unlockDebug v k ∨ op = 4 ∧ c = .tokenSanitize v k ∨
      op = 5 ∧ c = .replaceOwner v k ∨ op = 6 ∧ c = .clearOwner v k) →
    (s.tokenCheck op k = 1 →
      let t := (s.begin.wr F.SEC_AUTH_RESULT 1).wr F.SEC_AUTH_LASTOP op
      let t : State := { t with sec := { t.sec with nonce := none } }
      exec c s = .next (((t.event 0xE003 [op, bgKey v]).reply v .success [1]).tokenEffect v op k)) ∧
    (s.tokenCheck op k = 2 →
      let t := (s.begin.wr F.SEC_AUTH_RESULT 2).wr F.SEC_AUTH_LASTOP op
      let t : State := { t with sec := { t.sec with nonce := none, rejected := s.sec.rejected + 1 } }
      exec c s = .next (((t.bump F.SEC_STS_AUTHFAIL).event 0xE004 [op, 2]).reply v .success [2]))) ∧
  (∀ (s : State) (v : Via), MailboxReady s v →
    (∀ till, s.sec.sanitize = some (till, bgKey v) → s.ck.mono ≤ till → s.phase = phService →
      exec (.sanitize v) s = .next ((State.reply { s.begin with sec := { s.sec with sanitize := none, erasing := true } } v .success
        []).discardImage) ∧
      exec (.secureErase v) s = .next ((State.reply { s.begin with sec := { s.sec with sanitize := none } } v .success []).discardImage)) ∧
    (s.sec.sanitize = none →
      exec (.sanitize v) s = .next (s.begin.reply v .invalidSecurityState []) ∧
      exec (.secureErase v) s = .next (s.begin.reply v .invalidSecurityState [])))

/-! ### Twine -/

/-- R196 to R199, R206, R213, R217, R218: link up, IDE, HELLO, SESSION, link down, IDE failure, LOSS_TIMEOUT and SAVING. -/
def Obligations.TwineLinks : Prop :=
  (∀ (s : State) (p width rate : Nat), p < 2 → width = 4 ∨ width = 8 ∨ width = 16 → natBit (s.rd F.TW_CTL_EN) p = true → s.serving = true → s.flag F.GEN_PINS_PRSNT = false →
    s.rdi F.TW_PORT_STATE p = 1 → rate ≠ 0 →
    let t := s.begin.setBit F.GEN_LOCK_BLOCKS 7 true
    let t : State := { t with tw := { t.tw with hello := natClearBit t.tw.hello p } }
    let lim := max 1 (if p = 0 then s.rd F.TW_CTL_MAXRATE0 else s.rd F.TW_CTL_MAXRATE1)
    exec (.twineLinkUp p width rate true) s = .next ((((t.wri F.TW_PORT_STATE p 3).wri F.TW_PORT_WIDTH p width).wri F.TW_PORT_RATE p
      (min rate lim)).wri F.TW_PORT_IDEFAIL p 0)) ∧
  (∀ (s : State) (p : Nat), p < 2 →
    (s.rdi F.TW_PORT_STATE p = 3 → natBit s.tw.hello p = true → s.flag F.SEC_STS_DRBGOK = true →
      exec (.twineIdeActive p (s.peerSerial p)) s = .next ((s.begin.skipDrbg.wri F.TW_PORT_IDE p 1).tryOpen p)) ∧
    (∀ serial, s.rdi F.TW_PORT_STATE p = 3 → natBit s.tw.hello p = true → serial ≠ s.peerSerial p →
      exec (.twineIdeActive p serial) s = .next (s.begin.wri F.TW_PORT_STATE p 6)) ∧
    (s.rdi F.TW_PORT_STATE p = 3 →
      exec (.twineLinkDown p) s = .next (((s.begin.wri F.TW_PORT_LOOPBACK p 0).wri F.TW_PORT_MISMATCH p 0).twineDown p 0)) ∧
    (s.flagi F.TW_PORT_IDE p = true →
      exec (.twineIdeFail p) s = .next ((((s.begin.wri F.TW_PORT_IDEFAIL p 1).bump F.TW_CNT_IDEF).event 0x7007 [p]).twineDown p 1)) ∧
    (s.rdi F.TW_PORT_STATE p = 3 → ∀ seen,
      exec (.hello p s.serial seen) s = .next (((s.begin.wri F.TW_PORT_STATE p 6).wri F.TW_PORT_LOOPBACK p 1).event 0x700A [p])) ∧
    (s.rdi F.TW_PORT_STATE p = 3 → ∀ serial, serial ≠ s.serial → s.session = false →
      let t : State := { s.begin with tw := { s.tw with serial0 := if p = 0 then serial else s.tw.serial0
                                                        serial1 := if p = 0 then s.tw.serial1 else serial, hello := natSetBit s.tw.hello p } }
      exec (.hello p serial s.serial) s = .next ((t.wr F.TW_PAIR_PERS (if s.serial < serial then 1 else 2)).tryOpen p)) ∧
    (∀ n, s.serving = true → s.spRuns 3 = true → s.portReady p = true → s.session = false →
      (s.rd F.TW_PAIR_PERS = 2 → exec (.session p n false) s = .next ((s.begin.send (.twine 0x02 p [n + 2 ^ 63])).openSession p n)) ∧
      (s.tw.offered = some n → exec (.session p n true) s = .next (s.begin.openSession p n))) ∧
    (s.rd F.TW_PAIR_STATE = 1 → s.spRuns 3 = true → exec (.saving p) s = .next (s.begin.pairLost 1))) ∧
  (∀ (s : State), s.rd F.TW_PAIR_STATE = 3 →
    (s.spRuns 3 = true → exec .lossTimeout s = .next (s.begin.pairLost 0)) ∧
    (s.spRuns 3 = false → exec .lossTimeout s = .next { s.begin with tw := { s.tw with lossDue := some 0 } })) ∧
  (∀ (s : State), s.rdi F.TW_PORT_STATE 0 = 3 → s.rdi F.TW_PORT_STATE 1 ≠ 3 → natBit s.tw.hello 0 = false →
    exec .helloInterval s = .next (s.begin.send (.twine 0x01 0 [s.serial, s.peerSerial 0, 0x100])))

/-- R97, R200 to R203, R206, R208, R210, R211, R215: the stream in both directions. -/
def Obligations.TwineStream : Prop :=
  (∀ (s : State), s.session = true →
    (∀ n0 n1, exec (.markInterval n0 n1) s = .next ((s.begin.drainPort 0 n0).drainPort 1 n1).copyStep) ∧
    (∀ p seq, s.linkIn p = true → exec (.mark p seq) s =
      .next ({ s.begin with tw := { s.tw with mark0 := if p = 0 then max s.tw.mark0 seq else s.tw.mark0
                                              mark1 := if p = 0 then s.tw.mark1 else max s.tw.mark1 seq } } : State).advance) ∧
    (∀ pre, s.rd F.TW_ASEQ_VALUE < pre →
      let t := s.begin.wr F.TW_ASEQ_VALUE pre
      exec (.ack pre (s.rd F.TW_PAIR_SESSION)) s =
        .next (State.endCatchups (if s.tw.prevEnd ≤ pre then { t with tw := { t.tw with mapPrev := [] } } else t)).flushTwined) ∧
    (∀ p share off lines, s.linkIn p = true → s.flag F.MR_SLUICE_STALL = false → s.creditsHeld p = false → natBit s.tw.inLinks p = true →
      exec (.replicaWrite p share off lines) s = .next (s.begin.applyWrite { port := p, share := share, line := off / 64, lines := lines })) ∧
    (∀ p seq share units first r, s.linkIn p = true → s.creditsHeld p = false → natBit s.tw.inLinks p = true → s.shDefined share = true → s.role share = 2 →
      (s.walks.find? fun w => w.2.twine && w.2.seq == seq) = none → s.freeWalk = some r → FMap.find s.tw.relWait seq = none →
      let lo := s.shLo share + first
      let w : Walk := { share := share, lo := lo, hi := min (lo + units) (s.shHi share), qid := 0, seq := seq, twine := true, links := 2 ^ p }
      let t := ({ s.begin with walks := FMap.put s.walks r w } : State).noteCopy (2 ^ p) seq 0x12 [share, units, first]
      exec (.releaseMessage p seq share units first) s = .next (t.runInbox (t.tw.inbox.length + 1))) ∧
    (∀ share partner role pstate lossrep incons pairid, s.spRuns 3 = true → s.tw.reunited = false → role ≠ 0 →
      ∃ t, exec (.state share partner role pstate lossrep false incons pairid) s = .next t ∧
        FMap.find t.tw.peers pairid = some { share := share, partner := partner, role := role, pstate := pstate, lossrep := lossrep,
                                             incons := incons } ∧ t.tw.reunited = false ∧ Leaves s t []) ∧
    (∀ (p seq share ty : Nat) (full : Bool) (ws : List Nat) (c : Instr), p < 2 → s.spRuns 3 = true → s.tw.inbox = [] →
      (c = .join p seq share ∧ ty = 0x22 ∧ ws = [share] ∨ c = .unpair p seq share ∧ ty = 0x23 ∧ ws = [share] ∨
        c = .catchupBegin p seq share full ∧ ty = 0x24 ∧ ws = [share, bit01 full] ∨ c = .catchupEnd p seq share ∧ ty = 0x25 ∧ ws = [share]) →
      let m : InMsg := { seq := seq, ty := ty, words := ws, links := 2 ^ p, done := false }
      (s.rd F.TW_PAIR_LINKS = 2 ^ p → exec c s =
        .next ((({ s.begin with tw := { s.tw with inbox := [{ m with done := true }] } } : State).takeMessage m).runInbox 1)) ∧
      (s.rd F.TW_PAIR_LINKS = 3 → exec c s = .next (({ s.begin with tw := { s.tw with inbox := [m] } } : State).advance))) ∧
    (∀ p seq, natBit s.tw.inLinks p = true → exec (.linkJoin p seq) s = .next (s.begin.copyArrived p seq 0x04 []))) ∧
  (∀ (s : State), s.tw.mapPrev = [] →
    exec .twinMapSwap s = .next { s.begin with tw := { s.tw with mapPrev := s.tw.mapCur, mapCur := [], prevEnd := s.rd F.TW_OSEQ_VALUE } })

/-- R14, R208, R209, R211, R214, R219: designation, Resume Share, the end of a scan, PROMOTE, Get Twine Status. -/
def Obligations.TwinePairs : Prop :=
  (∀ (s : State) (share peer pairid base size : Nat), s.session = true → s.spRuns 3 = true →
    let r := s.refuseDesig share base size
    let t := if r = 0 then s.begin.becomeReplica share peer pairid base size
      else if share < 64 then s.begin.wri F.SHR_STATUS_REFUSE share r else s.begin
    exec (.designate share peer pairid base size) s =
      .next (t.send (.twine 0x21 t.sessionPort [share + peer * 2 ^ 6 + pairid * 2 ^ 32, r]))) ∧
  (∀ (s : State) (pairid : Nat) (d : Desig) (v : Via), (s.tw.desigs.find? fun d => d.pairid == pairid && d.via.isSome) = some d → d.via = some v →
    exec (.designateResp pairid 0) s = .next (State.reply { s.begin with tw := { s.tw with
      desigs := s.tw.desigs.map fun x => if x.pairid == pairid then { x with ok := true, via := none } else x } } v .success [0])) ∧
  (∀ (s : State) (v : Via) (share base size : Nat), MailboxReady s v →
    (s.spRuns 3 = true → s.session = false → exec (.designateReplica v share base size) s = .next (s.begin.reply v .success [2])) ∧
    (s.spRuns 3 = true → s.session = true → s.flag F.SEC_STS_DRBGOK = true →
      let d : Desig := { own := s.freeVal % 64, peer := share, pairid := s.drbgVal % 2 ^ 32, size := size, ok := false, via := some v }
      let t := s.begin.skipDrbg.skipFree
      exec (.designateReplica v share base size) s = .next (State.send { t with tw := { t.tw with desigs := d :: t.tw.desigs } }
        (.twine 0x20 t.sessionPort [share + d.own * 2 ^ 6 + d.pairid * 2 ^ 32, base, size]))) ∧
    (∀ full, s.spRuns 3 = true → share < 64 → s.pstate share = psHold → s.session = true →
      let t : State := { s.begin with tw := { s.tw with clears := share :: s.tw.clears
                                                        fulls := if full then share :: s.tw.fulls else s.tw.fulls } }
      exec (.resumeShare v share full) s = .next (((t.enterCatchup share).copyNext).reply v .success [])) ∧
    exec (.getTwineStatus v) s = .next (s.begin.reply v .success ([s.pairWordReg, s.portWordReg 0, s.portWordReg 1, s.rd F.TW_OSEQ_VALUE,
      s.rd F.TW_ASEQ_VALUE, s.rd F.TW_ISEQ_VALUE] ++ (List.range 64).map s.pair))) ∧
  (∀ (s : State) (n : Nat), s.tw.copying = some (n, false) → s.session = true → s.pstate n = psCatchup → s.tw.left = [] →
    let t := s.begin.sendSeq 0x25 [s.peershr n]
    let q := t.rd F.TW_OSEQ_VALUE
    let t : State := { t with tw := { t.tw with copying := none, catchEnd := FMap.put t.tw.catchEnd n q
                                                copied := FMap.put t.tw.copied n (t.rd F.TW_COPY_UNITS, t.tw.copyAt) }
                              tickets := t.tickets.map fun (k : Ticket) =>
                                if k.kind == .commit && k.level == 2 && k.share == n && k.outcome.isNone then { k with oseq := some q } else k }
    exec .copyEngineScanEnd s = .next t.copyNext) ∧
  (∀ (s : State) (h tag n : Nat), AdminReady s h →
    let c := adminCapture s h tag n
    (s.spRuns 3 = false → exec (.promote h tag n) s = .next (c.1.keepTicket { c.2 with op := 0x52 })) ∧
    (s.spRuns 3 = true → s.shDefined n = true → s.phase = phService → s.changing n = false → s.removing = false → s.shMode n = mdReplica →
      (s.pstate n = psLost ∨ s.pstate n = psStale) → (s.shState n = shReady ∨ s.shState n = shHot) →
      let t := c.1.setPair n (pairWord 0 psPromoted (s.incons n) false (s.lossrep n) (s.peershr n) (s.pairid n))
      exec (.promote h tag n) s =
        .next (((t.commitMode n mdHeld).event 0x7009 [n, bit01 (s.incons n)]).finish c.2 0 0 (bit01 (s.incons n)))))

/-! ### The machine as a whole -/

/-- R15, R301: the queue of commands is first in, first out. What a step does on an empty queue is the model's choice (log 1). No row of the opcode
table has bits, so no word spells a command and withFetchWord leaves the state alone. -/
def Obligations.StepTakesTheFront : Prop :=
  (∀ (s : State) (c : Instr) (l : List Instr), step { s with pending := c :: l } = exec c { s with pending := l }) ∧
  (∀ (s : State), s.pending = [] → s.pw.down.isSome = true → step s = .next s.begin.downStep) ∧
  (∀ (s : State), s.pending = [] → s.pw.down = none → s.mpWait = [] → step s = .next s.begin.tick) ∧
  (∀ (s : State) (k : Nat) (c : Instr) (d : Option (Nat × Nat × Bool)) (l : List (Nat × Instr × Option (Nat × Nat × Bool))), s.pending = [] →
    s.pw.down = none → s.mpWait = (k, c, d) :: l → step s = (if s.mpRuns then exec c (s.unwait k d) else .next s.begin.tick)) ∧
  (∀ (s : State) (nbits w : Nat), decodeTableWord nbits w = none ∧ s.withFetchWord nbits w = s)

/-- R58, R110, R130, R195, R270, R293, R308, R327, R348, R382, R399: Reset values of the register tables, one or more of each group, and the
empty queue. -/
def Obligations.ResetState : Prop :=
  let s := State.reset
  s.pending = [] ∧ Canonical s ∧ s.phase = phBringup ∧ s.rd F.GEN_ID_PART = 0x9416 ∧ s.rd F.GEN_READY_BITS = 0 ∧
  s.flag F.GEN_ADMIT_ADMITTED = false ∧ s.rd F.GEN_ADMIT_BLOCK = 0x1FF ∧ s.rd F.FW_WP_AREA = 0x7F ∧ s.flag F.CK_STS_HOLDOVER = true ∧
  s.rd F.CK_UNC_UNC = 2 ^ 48 - 1 ∧ s.rd F.PW_OP_CUR = 3 ∧ s.rd F.PW_OP_TARGET = 3 ∧ s.rd F.MR_DRAIN_STATE = 4 ∧ s.rd F.MR_SLUICE_STEP = 15 ∧
  s.rd F.MR_MARKS_LOW = 20 ∧ s.rd F.MR_MARKS_HIGH = 50 ∧ s.rd F.MR_MARKS_SLUICE = 75 ∧ s.rd F.SPN_PLD_THA = 950 ∧ s.rd F.SPN_PLD_THB = 925 ∧
  s.rd F.FC_CFG_ERSMAX = 16 ∧ s.rd F.TW_CTL_LOSS_TO = 100 ∧ s.rd F.MC_THR_DEVCE = 4096 ∧ s.rd F.EN_CTL_DORMI = 25 ∧ s.rd F.EV_CFG_BURST = 16 ∧
  s.rd F.TWB_SB_NADDR = 0x60 ∧ s.flag F.TWB_SB_PECREQ = true ∧
  (∀ k, k < 16 → s.flagi F.QUE_ACTL_EN k = false ∧ s.rdi F.QUE_ACTL_DEPTHM1 k = 63 ∧ s.flagi F.QUE_ACTL_IEN k = true ∧
    s.rdi F.HP_CTL_DOWN_TO k = 0x30) ∧
  (∀ p, p < 8 → s.rdi F.QUE_ALLOC_FIRST p = 512 * p ∧ s.rdi F.QUE_ALLOC_COUNT p = 512) ∧
  (∀ n, n < 64 → s.shDefined n = false ∧ s.rdi F.SHR_CFG_RPRI n = 3 ∧ s.rdi F.SHR_CFG_WT_CAP n = 0x10 ∧ s.rdi F.SHR_STATUS_TARGET n = 7)

/-- R30, R32, R64, R69, R397, R409: the spec gives every command an effect in every phase, be it a refusal answered, an event or nothing at all. -/
def Obligations.EveryCommandCompletes : Prop :=
  ∀ (c : Instr) (s : State), ∃ t, exec c s = .next t

/-- R6, R24, R30, R42, R47, R159: DRAM and the label storage areas stay in canonical form through every write, zero fill, restore and reset, and
every step takes exactly the front of the queue. -/
def Obligations.StepKeepsTheForm : Prop :=
  ∀ (s t : State), Canonical s → step s = .next t → Canonical t ∧ t.pending = s.pending.tail
end

