-- ==== Sys2Proof/Laws/Maps.lean ====
section
/-! SUPPORT. The laws of maps keyed by a number: what a read gives after a change. -/

namespace Sys2Proof

/-- A read after a change at one key. -/
theorem FMap.get_put {α : Type} (d : α) (m : FMap α) (x : Nat) (y : α) (z : Nat) :
    FMap.get d (FMap.put m x y) z = if x = z then y else FMap.get d m z := by
  induction m with
  | nil => rfl
  | cons e m ih =>
    obtain ⟨k, v⟩ := e
    simp only [FMap.put]
    (repeat' split)
      <;> simp_all [FMap.get] <;> (intros; omega)

@[simp] theorem FMap.get_put_self {α : Type} (d : α) (m : FMap α) (x : Nat) (y : α) : FMap.get d (FMap.put m x y) x = y := by
  simp [FMap.get_put]

theorem FMap.get_put_ne {α : Type} (d : α) (m : FMap α) {x z : Nat} (y : α) (h : x ≠ z) :
    FMap.get d (FMap.put m x y) z = FMap.get d m z := by
  simp [FMap.get_put, h]

/-- A read after a key was taken out. -/
theorem FMap.get_del {α : Type} (d : α) (m : FMap α) (x z : Nat) :
    FMap.get d (FMap.del m x) z = if x = z then d else FMap.get d m z := by
  induction m with
  | nil => simp [FMap.del, FMap.get]
  | cons e m ih =>
    obtain ⟨k, v⟩ := e
    simp only [FMap.del]
    split at * <;> split at * <;> simp_all [FMap.get]

/-- A lookup after a change at one key. -/
theorem FMap.find_put {α : Type} (m : FMap α) (x : Nat) (y : α) (z : Nat) :
    FMap.find (FMap.put m x y) z = if x = z then some y else FMap.find m z := by
  induction m with
  | nil => rfl
  | cons e m ih =>
    obtain ⟨k, v⟩ := e
    simp only [FMap.put]
    (repeat' split)
      <;> simp_all [FMap.find] <;> (intros; omega)

/-- A lookup after a key was taken out. -/
theorem FMap.find_del {α : Type} (m : FMap α) (x z : Nat) :
    FMap.find (FMap.del m x) z = if x = z then none else FMap.find m z := by
  induction m with
  | nil => simp [FMap.del, FMap.find]
  | cons e m ih =>
    obtain ⟨k, v⟩ := e
    simp only [FMap.del]
    split at * <;> split at * <;> simp_all [FMap.find]

/-- A read is the lookup, or the default. -/
theorem FMap.get_find {α : Type} (d : α) (m : FMap α) (x : Nat) : FMap.get d m x = (FMap.find m x).getD d := by
  induction m with
  | nil => rfl
  | cons e m ih =>
    obtain ⟨k, v⟩ := e
    by_cases h : k = x <;> simp [FMap.get, FMap.find, h, ih]

end Sys2Proof
end

