-- ==== Sys2Proof/Laws/Memory.lean ====
section
/-! SUPPORT. The laws of the byte memories (R6, R24, R30, R42): a read after a write, and every memory operation keeps the canonical form. -/

namespace Sys2Proof.Machine

/-- A byte read after a byte was written. -/
theorem memByte_memPut (m : List Host.Cell) (a : Nat) (b : Byte) (x : Nat) :
    memByte (memPut m a b) x = if a = x then b else memByte m x := by
  unfold memByte memPut
  by_cases h : b = 0
  · rw [if_pos h, FMap.get_del, h]
  · rw [if_neg h, FMap.get_put]

/-- A byte outside a written run reads as before. -/
theorem memByte_memWrite_out (l : List Byte) : ∀ (m : List Host.Cell) (a x : Nat), (x < a ∨ a + l.length ≤ x) →
    memByte (memWrite m a l) x = memByte m x := by
  induction l with
  | nil => intros; rfl
  | cons b l ih =>
    intro m a x h
    simp only [List.length_cons] at h
    rw [memWrite, ih _ _ _ (by omega), memByte_memPut, if_neg (by omega)]

/-- A byte inside a written run reads as written. -/
theorem memByte_memWrite_in (l : List Byte) : ∀ (m : List Host.Cell) (a i : Nat) (h : i < l.length),
    memByte (memWrite m a l) (a + i) = l[i] := by
  induction l with
  | nil => intro m a i h; cases h
  | cons b l ih =>
    intro m a i h
    cases i with
    | zero =>
      rw [memWrite, memByte_memWrite_out _ _ _ _ (by omega), memByte_memPut]
      simp
    | succ i =>
      have e : a + (i + 1) = (a + 1) + i := by omega
      rw [memWrite, e, ih]
      rfl

/-- R42: a byte after a line write: the enabled bytes are the line's, every other reads as before. -/
theorem memByte_memWriteLine (m : List Host.Cell) (a : Nat) (d : BitVec 512) (be : BitVec 64) (n x : Nat) :
    memByte (memWriteLine m a d be n) x =
      if a ≤ x ∧ x < a + n ∧ be.getLsbD (x - a) = true then lineByte d (x - a) else memByte m x := by
  induction n with
  | zero => simp only [memWriteLine]; rw [if_neg (by omega)]
  | succ n ih =>
    simp only [memWriteLine]
    by_cases hb : be.getLsbD n = true
    · rw [if_pos hb, memByte_memPut, ih]
      by_cases hx : a + n = x
      · subst hx
        have e : a + n - a = n := by omega
        rw [if_pos rfl, if_pos ⟨by omega, by omega, by rw [e]; exact hb⟩, e]
      · rw [if_neg hx]
        by_cases hc : a ≤ x ∧ x < a + n ∧ be.getLsbD (x - a) = true
        · rw [if_pos hc, if_pos ⟨hc.1, by omega, hc.2.2⟩]
        · rw [if_neg hc, if_neg (by intro h; exact hc ⟨h.1, by omega, h.2.2⟩)]
    · rw [if_neg hb, ih]
      by_cases hc : a ≤ x ∧ x < a + n ∧ be.getLsbD (x - a) = true
      · rw [if_pos hc, if_pos ⟨hc.1, by omega, hc.2.2⟩]
      · rw [if_neg hc, if_neg]
        intro h
        by_cases hx : x = a + n
        · subst hx
          have e : a + n - a = n := by omega
          rw [e] at h
          exact hb h.2.2
        · exact hc ⟨h.1, by omega, h.2.2⟩

/-- The canonical form in one sentence: addresses strictly rising, and no byte zero. -/
theorem wf_iff (m : List Host.Cell) : Memory.wf m ↔ List.Pairwise (fun c d => c.1 < d.1) m ∧ ∀ c ∈ m, c.2 ≠ 0 := by
  induction m with
  | nil => simp [Memory.wf, memSorted]
  | cons c m ih =>
    cases m with
    | nil => simp [Memory.wf, memSorted]
    | cons d m =>
      simp only [Memory.wf, memSorted, Bool.and_eq_true, decide_eq_true_eq] at ih ⊢
      constructor
      · intro h
        obtain ⟨⟨h1, h2⟩, h3⟩ := h
        obtain ⟨p, q⟩ := ih.mp h3
        refine ⟨List.pairwise_cons.mpr ⟨fun e he => ?_, p⟩, ?_⟩
        · rcases List.mem_cons.mp he with rfl | he
          · exact h2
          · exact Nat.lt_trans h2 ((List.pairwise_cons.mp p).1 e he)
        · intro e he
          rcases List.mem_cons.mp he with rfl | he
          · exact h1
          · exact q e he
      · rintro ⟨p, q⟩
        obtain ⟨p1, p2⟩ := List.pairwise_cons.mp p
        exact ⟨⟨q c (by simp), p1 d (by simp)⟩, ih.mpr ⟨p2, fun e he => q e (List.mem_cons_of_mem _ he)⟩⟩

/-- A part of a canonical memory is canonical. -/
theorem wf_filter {m : List Host.Cell} (p : Host.Cell → Bool) (h : Memory.wf m) : Memory.wf (m.filter p) := by
  rw [wf_iff] at h ⊢
  exact ⟨h.1.filter p, fun c hc => h.2 c (List.mem_filter.mp hc).1⟩

theorem memZero_wf {m : List Host.Cell} (lo hi : Nat) (h : Memory.wf m) : Memory.wf (memZero m lo hi) := wf_filter _ h

theorem memCells_wf {m : List Host.Cell} (lo hi : Nat) (h : Memory.wf m) : Memory.wf (memCells m lo hi) := wf_filter _ h

/-- Taking a key out is a filter. -/
theorem del_eq_filter (m : List Host.Cell) (x : Nat) : FMap.del m x = m.filter fun c => c.1 != x := by
  induction m with
  | nil => rfl
  | cons c m ih =>
    obtain ⟨k, v⟩ := c
    by_cases h : k = x <;> simp [FMap.del, h, ih]

/-- What stands in a map after a put: the new entry or an old one. -/
theorem mem_put {m : List Host.Cell} {x : Nat} {y : Byte} {c : Host.Cell} (h : c ∈ FMap.put m x y) : c = (x, y) ∨ c ∈ m := by
  induction m with
  | nil => simpa [FMap.put] using h
  | cons e m ih =>
    obtain ⟨k, v⟩ := e
    simp only [FMap.put] at h
    split at h
    · simpa using h
    · split at h
      · rcases List.mem_cons.mp h with h | h
        · exact .inl h
        · exact .inr (List.mem_cons_of_mem _ h)
      · rcases List.mem_cons.mp h with h | h
        · exact .inr (by simp [h])
        · rcases ih h with h | h
          · exact .inl h
          · exact .inr (List.mem_cons_of_mem _ h)

/-- Putting a byte that is not zero keeps the form. -/
theorem put_wf {m : List Host.Cell} (x : Nat) (y : Byte) (hy : y ≠ 0) (h : Memory.wf m) : Memory.wf (FMap.put m x y) := by
  rw [wf_iff] at h ⊢
  obtain ⟨p, q⟩ := h
  refine ⟨?_, fun c hc => (mem_put hc).elim (fun e => e ▸ hy) (q c)⟩
  clear q
  induction m with
  | nil => simp [FMap.put]
  | cons e m ih =>
    obtain ⟨k, v⟩ := e
    obtain ⟨p1, p2⟩ := List.pairwise_cons.mp p
    simp only [FMap.put]
    split
    · rename_i hx
      refine List.pairwise_cons.mpr ⟨fun c hc => ?_, p⟩
      rcases List.mem_cons.mp hc with rfl | hc
      · exact hx
      · exact Nat.lt_trans hx (p1 c hc)
    · split
      · rename_i _ hx
        subst hx
        exact List.pairwise_cons.mpr ⟨fun c hc => p1 c hc, p2⟩
      · rename_i h1 h2
        refine List.pairwise_cons.mpr ⟨fun c hc => ?_, ih p2⟩
        rcases mem_put hc with rfl | hc
        · show k < x
          omega
        · exact p1 c hc

/-- Every memory operation keeps the canonical form: writing one byte. -/
theorem memPut_wf {m : List Host.Cell} (a : Nat) (b : Byte) (h : Memory.wf m) : Memory.wf (memPut m a b) := by
  unfold memPut
  split
  · rw [del_eq_filter]
    exact wf_filter _ h
  · exact put_wf _ _ ‹_› h

theorem memWrite_wf (l : List Byte) : ∀ {m : List Host.Cell} (a : Nat), Memory.wf m → Memory.wf (memWrite m a l) := by
  induction l with
  | nil => intro m a h; exact h
  | cons b l ih => intro m a h; exact ih _ (memPut_wf _ _ h)

theorem memWriteLine_wf {m : List Host.Cell} (a : Nat) (d : BitVec 512) (be : BitVec 64) (n : Nat) (h : Memory.wf m) :
    Memory.wf (memWriteLine m a d be n) := by
  induction n with
  | zero => exact h
  | succ n ih =>
    simp only [memWriteLine]
    split
    · exact memPut_wf _ _ ih
    · exact ih

/-- Writing a list of bytes at given offsets keeps the form. -/
theorem foldl_memPut_wf (l : List Host.Cell) (f : Host.Cell → Nat) : ∀ {m : List Host.Cell}, Memory.wf m →
    Memory.wf (l.foldl (fun a c => memPut a (f c) c.2) m) := by
  induction l with
  | nil => intro m h; exact h
  | cons c l ih => intro m h; exact ih (memPut_wf _ _ h)

/-- Memory and the label storage areas right after reset are canonical. -/
theorem reset_wf : Memory.wf State.reset.mem ∧ Memory.wf State.reset.lsa := ⟨rfl, rfl⟩

end Sys2Proof.Machine
end

