-- ==== Sys2Proof/Laws/State.lean ====
section
/-! SUPPORT. The laws of the named updates of the state: one lemma for each field an update leaves alone, and what a register field reads
after a write. -/

namespace Sys2Proof.Machine

variable (s : State)

/-! ### State.begin -/

@[simp] theorem State.begin_pending : s.begin.pending = s.pending := rfl
@[simp] theorem State.begin_mpWait : s.begin.mpWait = s.mpWait := rfl
@[simp] theorem State.begin_freeCtr : s.begin.freeCtr = s.freeCtr := rfl
@[simp] theorem State.begin_drbgCtr : s.begin.drbgCtr = s.drbgCtr := rfl
@[simp] theorem State.begin_regs : s.begin.regs = s.regs := rfl
@[simp] theorem State.begin_norVal : s.begin.norVal = s.norVal := rfl
@[simp] theorem State.begin_norMask : s.begin.norMask = s.norMask := rfl
@[simp] theorem State.begin_mem : s.begin.mem = s.mem := rfl
@[simp] theorem State.begin_poisoned : s.begin.poisoned = s.poisoned := rfl
@[simp] theorem State.begin_poisonList : s.begin.poisonList = s.poisonList := rfl
@[simp] theorem State.begin_poisonWait : s.begin.poisonWait = s.poisonWait := rfl
@[simp] theorem State.begin_poisonOvf : s.begin.poisonOvf = s.poisonOvf := rfl
@[simp] theorem State.begin_dmap : s.begin.dmap = s.dmap := rfl
@[simp] theorem State.begin_index : s.begin.index = s.index := rfl
@[simp] theorem State.begin_walks : s.begin.walks = s.walks := rfl
@[simp] theorem State.begin_queues : s.begin.queues = s.queues := rfl
@[simp] theorem State.begin_tickets : s.begin.tickets = s.tickets := rfl
@[simp] theorem State.begin_poolOut : s.begin.poolOut = s.poolOut := rfl
@[simp] theorem State.begin_turnQ : s.begin.turnQ = s.turnQ := rfl
@[simp] theorem State.begin_heads : s.begin.heads = s.heads := rfl
@[simp] theorem State.begin_lsa : s.begin.lsa = s.lsa := rfl
@[simp] theorem State.begin_report : s.begin.report = s.report := rfl
@[simp] theorem State.begin_mr : s.begin.mr = s.mr := rfl
@[simp] theorem State.begin_alerts : s.begin.alerts = s.alerts := rfl
@[simp] theorem State.begin_calib : s.begin.calib = s.calib := rfl
@[simp] theorem State.begin_im : s.begin.im = s.im := rfl
@[simp] theorem State.begin_sv : s.begin.sv = s.sv := rfl
@[simp] theorem State.begin_rs : s.begin.rs = s.rs := rfl
@[simp] theorem State.begin_fc : s.begin.fc = s.fc := rfl
@[simp] theorem State.begin_tw : s.begin.tw = s.tw := rfl
@[simp] theorem State.begin_mc : s.begin.mc = s.mc := rfl
@[simp] theorem State.begin_bayA : s.begin.bayA = s.bayA := rfl
@[simp] theorem State.begin_bayB : s.begin.bayB = s.bayB := rfl
@[simp] theorem State.begin_pw : s.begin.pw = s.pw := rfl
@[simp] theorem State.begin_ck : s.begin.ck = s.ck := rfl
@[simp] theorem State.begin_twb : s.begin.twb = s.twb := rfl
@[simp] theorem State.begin_fw : s.begin.fw = s.fw := rfl
@[simp] theorem State.begin_sec : s.begin.sec = s.sec := rfl
@[simp] theorem State.begin_ev : s.begin.ev = s.ev := rfl
@[simp] theorem State.begin_pan : s.begin.pan = s.pan := rfl
@[simp] theorem State.begin_trials : s.begin.trials = s.trials := rfl
@[simp] theorem State.begin_rdi (g : Field) (j : Nat) : s.begin.rdi g j = s.rdi g j := by unfold State.rdi; simp
@[simp] theorem State.begin_rd (g : Field) : s.begin.rd g = s.rd g := by unfold State.rd; simp

/-! ### State.send -/

@[simp] theorem State.send_pending (m : Msg) : (s.send m).pending = s.pending := rfl
@[simp] theorem State.send_mpWait (m : Msg) : (s.send m).mpWait = s.mpWait := rfl
@[simp] theorem State.send_freeCtr (m : Msg) : (s.send m).freeCtr = s.freeCtr := rfl
@[simp] theorem State.send_drbgCtr (m : Msg) : (s.send m).drbgCtr = s.drbgCtr := rfl
@[simp] theorem State.send_regs (m : Msg) : (s.send m).regs = s.regs := rfl
@[simp] theorem State.send_norVal (m : Msg) : (s.send m).norVal = s.norVal := rfl
@[simp] theorem State.send_norMask (m : Msg) : (s.send m).norMask = s.norMask := rfl
@[simp] theorem State.send_mem (m : Msg) : (s.send m).mem = s.mem := rfl
@[simp] theorem State.send_poisoned (m : Msg) : (s.send m).poisoned = s.poisoned := rfl
@[simp] theorem State.send_poisonList (m : Msg) : (s.send m).poisonList = s.poisonList := rfl
@[simp] theorem State.send_poisonWait (m : Msg) : (s.send m).poisonWait = s.poisonWait := rfl
@[simp] theorem State.send_poisonOvf (m : Msg) : (s.send m).poisonOvf = s.poisonOvf := rfl
@[simp] theorem State.send_dmap (m : Msg) : (s.send m).dmap = s.dmap := rfl
@[simp] theorem State.send_index (m : Msg) : (s.send m).index = s.index := rfl
@[simp] theorem State.send_walks (m : Msg) : (s.send m).walks = s.walks := rfl
@[simp] theorem State.send_queues (m : Msg) : (s.send m).queues = s.queues := rfl
@[simp] theorem State.send_tickets (m : Msg) : (s.send m).tickets = s.tickets := rfl
@[simp] theorem State.send_poolOut (m : Msg) : (s.send m).poolOut = s.poolOut := rfl
@[simp] theorem State.send_turnQ (m : Msg) : (s.send m).turnQ = s.turnQ := rfl
@[simp] theorem State.send_heads (m : Msg) : (s.send m).heads = s.heads := rfl
@[simp] theorem State.send_lsa (m : Msg) : (s.send m).lsa = s.lsa := rfl
@[simp] theorem State.send_report (m : Msg) : (s.send m).report = s.report := rfl
@[simp] theorem State.send_mr (m : Msg) : (s.send m).mr = s.mr := rfl
@[simp] theorem State.send_alerts (m : Msg) : (s.send m).alerts = s.alerts := rfl
@[simp] theorem State.send_calib (m : Msg) : (s.send m).calib = s.calib := rfl
@[simp] theorem State.send_im (m : Msg) : (s.send m).im = s.im := rfl
@[simp] theorem State.send_sv (m : Msg) : (s.send m).sv = s.sv := rfl
@[simp] theorem State.send_rs (m : Msg) : (s.send m).rs = s.rs := rfl
@[simp] theorem State.send_fc (m : Msg) : (s.send m).fc = s.fc := rfl
@[simp] theorem State.send_tw (m : Msg) : (s.send m).tw = s.tw := rfl
@[simp] theorem State.send_mc (m : Msg) : (s.send m).mc = s.mc := rfl
@[simp] theorem State.send_bayA (m : Msg) : (s.send m).bayA = s.bayA := rfl
@[simp] theorem State.send_bayB (m : Msg) : (s.send m).bayB = s.bayB := rfl
@[simp] theorem State.send_pw (m : Msg) : (s.send m).pw = s.pw := rfl
@[simp] theorem State.send_ck (m : Msg) : (s.send m).ck = s.ck := rfl
@[simp] theorem State.send_twb (m : Msg) : (s.send m).twb = s.twb := rfl
@[simp] theorem State.send_fw (m : Msg) : (s.send m).fw = s.fw := rfl
@[simp] theorem State.send_sec (m : Msg) : (s.send m).sec = s.sec := rfl
@[simp] theorem State.send_ev (m : Msg) : (s.send m).ev = s.ev := rfl
@[simp] theorem State.send_pan (m : Msg) : (s.send m).pan = s.pan := rfl
@[simp] theorem State.send_trials (m : Msg) : (s.send m).trials = s.trials := rfl
@[simp] theorem State.send_rdi (m : Msg) (g : Field) (j : Nat) : (s.send m).rdi g j = s.rdi g j := by unfold State.rdi; simp
@[simp] theorem State.send_rd (m : Msg) (g : Field) : (s.send m).rd g = s.rd g := by unfold State.rd; simp

/-! ### State.wri -/

@[simp] theorem State.wri_pending (f : Field) (i v : Nat) : (s.wri f i v).pending = s.pending := rfl
@[simp] theorem State.wri_mpWait (f : Field) (i v : Nat) : (s.wri f i v).mpWait = s.mpWait := rfl
@[simp] theorem State.wri_out (f : Field) (i v : Nat) : (s.wri f i v).out = s.out := rfl
@[simp] theorem State.wri_freeCtr (f : Field) (i v : Nat) : (s.wri f i v).freeCtr = s.freeCtr := rfl
@[simp] theorem State.wri_drbgCtr (f : Field) (i v : Nat) : (s.wri f i v).drbgCtr = s.drbgCtr := rfl
@[simp] theorem State.wri_norVal (f : Field) (i v : Nat) : (s.wri f i v).norVal = s.norVal := rfl
@[simp] theorem State.wri_norMask (f : Field) (i v : Nat) : (s.wri f i v).norMask = s.norMask := rfl
@[simp] theorem State.wri_mem (f : Field) (i v : Nat) : (s.wri f i v).mem = s.mem := rfl
@[simp] theorem State.wri_poisoned (f : Field) (i v : Nat) : (s.wri f i v).poisoned = s.poisoned := rfl
@[simp] theorem State.wri_poisonList (f : Field) (i v : Nat) : (s.wri f i v).poisonList = s.poisonList := rfl
@[simp] theorem State.wri_poisonWait (f : Field) (i v : Nat) : (s.wri f i v).poisonWait = s.poisonWait := rfl
@[simp] theorem State.wri_poisonOvf (f : Field) (i v : Nat) : (s.wri f i v).poisonOvf = s.poisonOvf := rfl
@[simp] theorem State.wri_dmap (f : Field) (i v : Nat) : (s.wri f i v).dmap = s.dmap := rfl
@[simp] theorem State.wri_index (f : Field) (i v : Nat) : (s.wri f i v).index = s.index := rfl
@[simp] theorem State.wri_walks (f : Field) (i v : Nat) : (s.wri f i v).walks = s.walks := rfl
@[simp] theorem State.wri_queues (f : Field) (i v : Nat) : (s.wri f i v).queues = s.queues := rfl
@[simp] theorem State.wri_tickets (f : Field) (i v : Nat) : (s.wri f i v).tickets = s.tickets := rfl
@[simp] theorem State.wri_poolOut (f : Field) (i v : Nat) : (s.wri f i v).poolOut = s.poolOut := rfl
@[simp] theorem State.wri_turnQ (f : Field) (i v : Nat) : (s.wri f i v).turnQ = s.turnQ := rfl
@[simp] theorem State.wri_heads (f : Field) (i v : Nat) : (s.wri f i v).heads = s.heads := rfl
@[simp] theorem State.wri_lsa (f : Field) (i v : Nat) : (s.wri f i v).lsa = s.lsa := rfl
@[simp] theorem State.wri_report (f : Field) (i v : Nat) : (s.wri f i v).report = s.report := rfl
@[simp] theorem State.wri_mr (f : Field) (i v : Nat) : (s.wri f i v).mr = s.mr := rfl
@[simp] theorem State.wri_alerts (f : Field) (i v : Nat) : (s.wri f i v).alerts = s.alerts := rfl
@[simp] theorem State.wri_calib (f : Field) (i v : Nat) : (s.wri f i v).calib = s.calib := rfl
@[simp] theorem State.wri_im (f : Field) (i v : Nat) : (s.wri f i v).im = s.im := rfl
@[simp] theorem State.wri_sv (f : Field) (i v : Nat) : (s.wri f i v).sv = s.sv := rfl
@[simp] theorem State.wri_rs (f : Field) (i v : Nat) : (s.wri f i v).rs = s.rs := rfl
@[simp] theorem State.wri_fc (f : Field) (i v : Nat) : (s.wri f i v).fc = s.fc := rfl
@[simp] theorem State.wri_tw (f : Field) (i v : Nat) : (s.wri f i v).tw = s.tw := rfl
@[simp] theorem State.wri_mc (f : Field) (i v : Nat) : (s.wri f i v).mc = s.mc := rfl
@[simp] theorem State.wri_bayA (f : Field) (i v : Nat) : (s.wri f i v).bayA = s.bayA := rfl
@[simp] theorem State.wri_bayB (f : Field) (i v : Nat) : (s.wri f i v).bayB = s.bayB := rfl
@[simp] theorem State.wri_pw (f : Field) (i v : Nat) : (s.wri f i v).pw = s.pw := rfl
@[simp] theorem State.wri_ck (f : Field) (i v : Nat) : (s.wri f i v).ck = s.ck := rfl
@[simp] theorem State.wri_twb (f : Field) (i v : Nat) : (s.wri f i v).twb = s.twb := rfl
@[simp] theorem State.wri_fw (f : Field) (i v : Nat) : (s.wri f i v).fw = s.fw := rfl
@[simp] theorem State.wri_sec (f : Field) (i v : Nat) : (s.wri f i v).sec = s.sec := rfl
@[simp] theorem State.wri_ev (f : Field) (i v : Nat) : (s.wri f i v).ev = s.ev := rfl
@[simp] theorem State.wri_pan (f : Field) (i v : Nat) : (s.wri f i v).pan = s.pan := rfl
@[simp] theorem State.wri_trials (f : Field) (i v : Nat) : (s.wri f i v).trials = s.trials := rfl

/-! ### State.wr -/

@[simp] theorem State.wr_pending (f : Field) (v : Nat) : (s.wr f v).pending = s.pending := rfl
@[simp] theorem State.wr_mpWait (f : Field) (v : Nat) : (s.wr f v).mpWait = s.mpWait := rfl
@[simp] theorem State.wr_out (f : Field) (v : Nat) : (s.wr f v).out = s.out := rfl
@[simp] theorem State.wr_freeCtr (f : Field) (v : Nat) : (s.wr f v).freeCtr = s.freeCtr := rfl
@[simp] theorem State.wr_drbgCtr (f : Field) (v : Nat) : (s.wr f v).drbgCtr = s.drbgCtr := rfl
@[simp] theorem State.wr_norVal (f : Field) (v : Nat) : (s.wr f v).norVal = s.norVal := rfl
@[simp] theorem State.wr_norMask (f : Field) (v : Nat) : (s.wr f v).norMask = s.norMask := rfl
@[simp] theorem State.wr_mem (f : Field) (v : Nat) : (s.wr f v).mem = s.mem := rfl
@[simp] theorem State.wr_poisoned (f : Field) (v : Nat) : (s.wr f v).poisoned = s.poisoned := rfl
@[simp] theorem State.wr_poisonList (f : Field) (v : Nat) : (s.wr f v).poisonList = s.poisonList := rfl
@[simp] theorem State.wr_poisonWait (f : Field) (v : Nat) : (s.wr f v).poisonWait = s.poisonWait := rfl
@[simp] theorem State.wr_poisonOvf (f : Field) (v : Nat) : (s.wr f v).poisonOvf = s.poisonOvf := rfl
@[simp] theorem State.wr_dmap (f : Field) (v : Nat) : (s.wr f v).dmap = s.dmap := rfl
@[simp] theorem State.wr_index (f : Field) (v : Nat) : (s.wr f v).index = s.index := rfl
@[simp] theorem State.wr_walks (f : Field) (v : Nat) : (s.wr f v).walks = s.walks := rfl
@[simp] theorem State.wr_queues (f : Field) (v : Nat) : (s.wr f v).queues = s.queues := rfl
@[simp] theorem State.wr_tickets (f : Field) (v : Nat) : (s.wr f v).tickets = s.tickets := rfl
@[simp] theorem State.wr_poolOut (f : Field) (v : Nat) : (s.wr f v).poolOut = s.poolOut := rfl
@[simp] theorem State.wr_turnQ (f : Field) (v : Nat) : (s.wr f v).turnQ = s.turnQ := rfl
@[simp] theorem State.wr_heads (f : Field) (v : Nat) : (s.wr f v).heads = s.heads := rfl
@[simp] theorem State.wr_lsa (f : Field) (v : Nat) : (s.wr f v).lsa = s.lsa := rfl
@[simp] theorem State.wr_report (f : Field) (v : Nat) : (s.wr f v).report = s.report := rfl
@[simp] theorem State.wr_mr (f : Field) (v : Nat) : (s.wr f v).mr = s.mr := rfl
@[simp] theorem State.wr_alerts (f : Field) (v : Nat) : (s.wr f v).alerts = s.alerts := rfl
@[simp] theorem State.wr_calib (f : Field) (v : Nat) : (s.wr f v).calib = s.calib := rfl
@[simp] theorem State.wr_im (f : Field) (v : Nat) : (s.wr f v).im = s.im := rfl
@[simp] theorem State.wr_sv (f : Field) (v : Nat) : (s.wr f v).sv = s.sv := rfl
@[simp] theorem State.wr_rs (f : Field) (v : Nat) : (s.wr f v).rs = s.rs := rfl
@[simp] theorem State.wr_fc (f : Field) (v : Nat) : (s.wr f v).fc = s.fc := rfl
@[simp] theorem State.wr_tw (f : Field) (v : Nat) : (s.wr f v).tw = s.tw := rfl
@[simp] theorem State.wr_mc (f : Field) (v : Nat) : (s.wr f v).mc = s.mc := rfl
@[simp] theorem State.wr_bayA (f : Field) (v : Nat) : (s.wr f v).bayA = s.bayA := rfl
@[simp] theorem State.wr_bayB (f : Field) (v : Nat) : (s.wr f v).bayB = s.bayB := rfl
@[simp] theorem State.wr_pw (f : Field) (v : Nat) : (s.wr f v).pw = s.pw := rfl
@[simp] theorem State.wr_ck (f : Field) (v : Nat) : (s.wr f v).ck = s.ck := rfl
@[simp] theorem State.wr_twb (f : Field) (v : Nat) : (s.wr f v).twb = s.twb := rfl
@[simp] theorem State.wr_fw (f : Field) (v : Nat) : (s.wr f v).fw = s.fw := rfl
@[simp] theorem State.wr_sec (f : Field) (v : Nat) : (s.wr f v).sec = s.sec := rfl
@[simp] theorem State.wr_ev (f : Field) (v : Nat) : (s.wr f v).ev = s.ev := rfl
@[simp] theorem State.wr_pan (f : Field) (v : Nat) : (s.wr f v).pan = s.pan := rfl
@[simp] theorem State.wr_trials (f : Field) (v : Nat) : (s.wr f v).trials = s.trials := rfl

/-! ### State.addi -/

@[simp] theorem State.addi_pending (f : Field) (i n : Nat) : (s.addi f i n).pending = s.pending := rfl
@[simp] theorem State.addi_mpWait (f : Field) (i n : Nat) : (s.addi f i n).mpWait = s.mpWait := rfl
@[simp] theorem State.addi_out (f : Field) (i n : Nat) : (s.addi f i n).out = s.out := rfl
@[simp] theorem State.addi_freeCtr (f : Field) (i n : Nat) : (s.addi f i n).freeCtr = s.freeCtr := rfl
@[simp] theorem State.addi_drbgCtr (f : Field) (i n : Nat) : (s.addi f i n).drbgCtr = s.drbgCtr := rfl
@[simp] theorem State.addi_norVal (f : Field) (i n : Nat) : (s.addi f i n).norVal = s.norVal := rfl
@[simp] theorem State.addi_norMask (f : Field) (i n : Nat) : (s.addi f i n).norMask = s.norMask := rfl
@[simp] theorem State.addi_mem (f : Field) (i n : Nat) : (s.addi f i n).mem = s.mem := rfl
@[simp] theorem State.addi_poisoned (f : Field) (i n : Nat) : (s.addi f i n).poisoned = s.poisoned := rfl
@[simp] theorem State.addi_poisonList (f : Field) (i n : Nat) : (s.addi f i n).poisonList = s.poisonList := rfl
@[simp] theorem State.addi_poisonWait (f : Field) (i n : Nat) : (s.addi f i n).poisonWait = s.poisonWait := rfl
@[simp] theorem State.addi_poisonOvf (f : Field) (i n : Nat) : (s.addi f i n).poisonOvf = s.poisonOvf := rfl
@[simp] theorem State.addi_dmap (f : Field) (i n : Nat) : (s.addi f i n).dmap = s.dmap := rfl
@[simp] theorem State.addi_index (f : Field) (i n : Nat) : (s.addi f i n).index = s.index := rfl
@[simp] theorem State.addi_walks (f : Field) (i n : Nat) : (s.addi f i n).walks = s.walks := rfl
@[simp] theorem State.addi_queues (f : Field) (i n : Nat) : (s.addi f i n).queues = s.queues := rfl
@[simp] theorem State.addi_tickets (f : Field) (i n : Nat) : (s.addi f i n).tickets = s.tickets := rfl
@[simp] theorem State.addi_poolOut (f : Field) (i n : Nat) : (s.addi f i n).poolOut = s.poolOut := rfl
@[simp] theorem State.addi_turnQ (f : Field) (i n : Nat) : (s.addi f i n).turnQ = s.turnQ := rfl
@[simp] theorem State.addi_heads (f : Field) (i n : Nat) : (s.addi f i n).heads = s.heads := rfl
@[simp] theorem State.addi_lsa (f : Field) (i n : Nat) : (s.addi f i n).lsa = s.lsa := rfl
@[simp] theorem State.addi_report (f : Field) (i n : Nat) : (s.addi f i n).report = s.report := rfl
@[simp] theorem State.addi_mr (f : Field) (i n : Nat) : (s.addi f i n).mr = s.mr := rfl
@[simp] theorem State.addi_alerts (f : Field) (i n : Nat) : (s.addi f i n).alerts = s.alerts := rfl
@[simp] theorem State.addi_calib (f : Field) (i n : Nat) : (s.addi f i n).calib = s.calib := rfl
@[simp] theorem State.addi_im (f : Field) (i n : Nat) : (s.addi f i n).im = s.im := rfl
@[simp] theorem State.addi_sv (f : Field) (i n : Nat) : (s.addi f i n).sv = s.sv := rfl
@[simp] theorem State.addi_rs (f : Field) (i n : Nat) : (s.addi f i n).rs = s.rs := rfl
@[simp] theorem State.addi_fc (f : Field) (i n : Nat) : (s.addi f i n).fc = s.fc := rfl
@[simp] theorem State.addi_tw (f : Field) (i n : Nat) : (s.addi f i n).tw = s.tw := rfl
@[simp] theorem State.addi_mc (f : Field) (i n : Nat) : (s.addi f i n).mc = s.mc := rfl
@[simp] theorem State.addi_bayA (f : Field) (i n : Nat) : (s.addi f i n).bayA = s.bayA := rfl
@[simp] theorem State.addi_bayB (f : Field) (i n : Nat) : (s.addi f i n).bayB = s.bayB := rfl
@[simp] theorem State.addi_pw (f : Field) (i n : Nat) : (s.addi f i n).pw = s.pw := rfl
@[simp] theorem State.addi_ck (f : Field) (i n : Nat) : (s.addi f i n).ck = s.ck := rfl
@[simp] theorem State.addi_twb (f : Field) (i n : Nat) : (s.addi f i n).twb = s.twb := rfl
@[simp] theorem State.addi_fw (f : Field) (i n : Nat) : (s.addi f i n).fw = s.fw := rfl
@[simp] theorem State.addi_sec (f : Field) (i n : Nat) : (s.addi f i n).sec = s.sec := rfl
@[simp] theorem State.addi_ev (f : Field) (i n : Nat) : (s.addi f i n).ev = s.ev := rfl
@[simp] theorem State.addi_pan (f : Field) (i n : Nat) : (s.addi f i n).pan = s.pan := rfl
@[simp] theorem State.addi_trials (f : Field) (i n : Nat) : (s.addi f i n).trials = s.trials := rfl

/-! ### State.bump -/

@[simp] theorem State.bump_pending (f : Field) : (s.bump f).pending = s.pending := rfl
@[simp] theorem State.bump_mpWait (f : Field) : (s.bump f).mpWait = s.mpWait := rfl
@[simp] theorem State.bump_out (f : Field) : (s.bump f).out = s.out := rfl
@[simp] theorem State.bump_freeCtr (f : Field) : (s.bump f).freeCtr = s.freeCtr := rfl
@[simp] theorem State.bump_drbgCtr (f : Field) : (s.bump f).drbgCtr = s.drbgCtr := rfl
@[simp] theorem State.bump_norVal (f : Field) : (s.bump f).norVal = s.norVal := rfl
@[simp] theorem State.bump_norMask (f : Field) : (s.bump f).norMask = s.norMask := rfl
@[simp] theorem State.bump_mem (f : Field) : (s.bump f).mem = s.mem := rfl
@[simp] theorem State.bump_poisoned (f : Field) : (s.bump f).poisoned = s.poisoned := rfl
@[simp] theorem State.bump_poisonList (f : Field) : (s.bump f).poisonList = s.poisonList := rfl
@[simp] theorem State.bump_poisonWait (f : Field) : (s.bump f).poisonWait = s.poisonWait := rfl
@[simp] theorem State.bump_poisonOvf (f : Field) : (s.bump f).poisonOvf = s.poisonOvf := rfl
@[simp] theorem State.bump_dmap (f : Field) : (s.bump f).dmap = s.dmap := rfl
@[simp] theorem State.bump_index (f : Field) : (s.bump f).index = s.index := rfl
@[simp] theorem State.bump_walks (f : Field) : (s.bump f).walks = s.walks := rfl
@[simp] theorem State.bump_queues (f : Field) : (s.bump f).queues = s.queues := rfl
@[simp] theorem State.bump_tickets (f : Field) : (s.bump f).tickets = s.tickets := rfl
@[simp] theorem State.bump_poolOut (f : Field) : (s.bump f).poolOut = s.poolOut := rfl
@[simp] theorem State.bump_turnQ (f : Field) : (s.bump f).turnQ = s.turnQ := rfl
@[simp] theorem State.bump_heads (f : Field) : (s.bump f).heads = s.heads := rfl
@[simp] theorem State.bump_lsa (f : Field) : (s.bump f).lsa = s.lsa := rfl
@[simp] theorem State.bump_report (f : Field) : (s.bump f).report = s.report := rfl
@[simp] theorem State.bump_mr (f : Field) : (s.bump f).mr = s.mr := rfl
@[simp] theorem State.bump_alerts (f : Field) : (s.bump f).alerts = s.alerts := rfl
@[simp] theorem State.bump_calib (f : Field) : (s.bump f).calib = s.calib := rfl
@[simp] theorem State.bump_im (f : Field) : (s.bump f).im = s.im := rfl
@[simp] theorem State.bump_sv (f : Field) : (s.bump f).sv = s.sv := rfl
@[simp] theorem State.bump_rs (f : Field) : (s.bump f).rs = s.rs := rfl
@[simp] theorem State.bump_fc (f : Field) : (s.bump f).fc = s.fc := rfl
@[simp] theorem State.bump_tw (f : Field) : (s.bump f).tw = s.tw := rfl
@[simp] theorem State.bump_mc (f : Field) : (s.bump f).mc = s.mc := rfl
@[simp] theorem State.bump_bayA (f : Field) : (s.bump f).bayA = s.bayA := rfl
@[simp] theorem State.bump_bayB (f : Field) : (s.bump f).bayB = s.bayB := rfl
@[simp] theorem State.bump_pw (f : Field) : (s.bump f).pw = s.pw := rfl
@[simp] theorem State.bump_ck (f : Field) : (s.bump f).ck = s.ck := rfl
@[simp] theorem State.bump_twb (f : Field) : (s.bump f).twb = s.twb := rfl
@[simp] theorem State.bump_fw (f : Field) : (s.bump f).fw = s.fw := rfl
@[simp] theorem State.bump_sec (f : Field) : (s.bump f).sec = s.sec := rfl
@[simp] theorem State.bump_ev (f : Field) : (s.bump f).ev = s.ev := rfl
@[simp] theorem State.bump_pan (f : Field) : (s.bump f).pan = s.pan := rfl
@[simp] theorem State.bump_trials (f : Field) : (s.bump f).trials = s.trials := rfl

/-! ### State.bumpi -/

@[simp] theorem State.bumpi_pending (f : Field) (i : Nat) : (s.bumpi f i).pending = s.pending := rfl
@[simp] theorem State.bumpi_mpWait (f : Field) (i : Nat) : (s.bumpi f i).mpWait = s.mpWait := rfl
@[simp] theorem State.bumpi_out (f : Field) (i : Nat) : (s.bumpi f i).out = s.out := rfl
@[simp] theorem State.bumpi_freeCtr (f : Field) (i : Nat) : (s.bumpi f i).freeCtr = s.freeCtr := rfl
@[simp] theorem State.bumpi_drbgCtr (f : Field) (i : Nat) : (s.bumpi f i).drbgCtr = s.drbgCtr := rfl
@[simp] theorem State.bumpi_norVal (f : Field) (i : Nat) : (s.bumpi f i).norVal = s.norVal := rfl
@[simp] theorem State.bumpi_norMask (f : Field) (i : Nat) : (s.bumpi f i).norMask = s.norMask := rfl
@[simp] theorem State.bumpi_mem (f : Field) (i : Nat) : (s.bumpi f i).mem = s.mem := rfl
@[simp] theorem State.bumpi_poisoned (f : Field) (i : Nat) : (s.bumpi f i).poisoned = s.poisoned := rfl
@[simp] theorem State.bumpi_poisonList (f : Field) (i : Nat) : (s.bumpi f i).poisonList = s.poisonList := rfl
@[simp] theorem State.bumpi_poisonWait (f : Field) (i : Nat) : (s.bumpi f i).poisonWait = s.poisonWait := rfl
@[simp] theorem State.bumpi_poisonOvf (f : Field) (i : Nat) : (s.bumpi f i).poisonOvf = s.poisonOvf := rfl
@[simp] theorem State.bumpi_dmap (f : Field) (i : Nat) : (s.bumpi f i).dmap = s.dmap := rfl
@[simp] theorem State.bumpi_index (f : Field) (i : Nat) : (s.bumpi f i).index = s.index := rfl
@[simp] theorem State.bumpi_walks (f : Field) (i : Nat) : (s.bumpi f i).walks = s.walks := rfl
@[simp] theorem State.bumpi_queues (f : Field) (i : Nat) : (s.bumpi f i).queues = s.queues := rfl
@[simp] theorem State.bumpi_tickets (f : Field) (i : Nat) : (s.bumpi f i).tickets = s.tickets := rfl
@[simp] theorem State.bumpi_poolOut (f : Field) (i : Nat) : (s.bumpi f i).poolOut = s.poolOut := rfl
@[simp] theorem State.bumpi_turnQ (f : Field) (i : Nat) : (s.bumpi f i).turnQ = s.turnQ := rfl
@[simp] theorem State.bumpi_heads (f : Field) (i : Nat) : (s.bumpi f i).heads = s.heads := rfl
@[simp] theorem State.bumpi_lsa (f : Field) (i : Nat) : (s.bumpi f i).lsa = s.lsa := rfl
@[simp] theorem State.bumpi_report (f : Field) (i : Nat) : (s.bumpi f i).report = s.report := rfl
@[simp] theorem State.bumpi_mr (f : Field) (i : Nat) : (s.bumpi f i).mr = s.mr := rfl
@[simp] theorem State.bumpi_alerts (f : Field) (i : Nat) : (s.bumpi f i).alerts = s.alerts := rfl
@[simp] theorem State.bumpi_calib (f : Field) (i : Nat) : (s.bumpi f i).calib = s.calib := rfl
@[simp] theorem State.bumpi_im (f : Field) (i : Nat) : (s.bumpi f i).im = s.im := rfl
@[simp] theorem State.bumpi_sv (f : Field) (i : Nat) : (s.bumpi f i).sv = s.sv := rfl
@[simp] theorem State.bumpi_rs (f : Field) (i : Nat) : (s.bumpi f i).rs = s.rs := rfl
@[simp] theorem State.bumpi_fc (f : Field) (i : Nat) : (s.bumpi f i).fc = s.fc := rfl
@[simp] theorem State.bumpi_tw (f : Field) (i : Nat) : (s.bumpi f i).tw = s.tw := rfl
@[simp] theorem State.bumpi_mc (f : Field) (i : Nat) : (s.bumpi f i).mc = s.mc := rfl
@[simp] theorem State.bumpi_bayA (f : Field) (i : Nat) : (s.bumpi f i).bayA = s.bayA := rfl
@[simp] theorem State.bumpi_bayB (f : Field) (i : Nat) : (s.bumpi f i).bayB = s.bayB := rfl
@[simp] theorem State.bumpi_pw (f : Field) (i : Nat) : (s.bumpi f i).pw = s.pw := rfl
@[simp] theorem State.bumpi_ck (f : Field) (i : Nat) : (s.bumpi f i).ck = s.ck := rfl
@[simp] theorem State.bumpi_twb (f : Field) (i : Nat) : (s.bumpi f i).twb = s.twb := rfl
@[simp] theorem State.bumpi_fw (f : Field) (i : Nat) : (s.bumpi f i).fw = s.fw := rfl
@[simp] theorem State.bumpi_sec (f : Field) (i : Nat) : (s.bumpi f i).sec = s.sec := rfl
@[simp] theorem State.bumpi_ev (f : Field) (i : Nat) : (s.bumpi f i).ev = s.ev := rfl
@[simp] theorem State.bumpi_pan (f : Field) (i : Nat) : (s.bumpi f i).pan = s.pan := rfl
@[simp] theorem State.bumpi_trials (f : Field) (i : Nat) : (s.bumpi f i).trials = s.trials := rfl

/-! ### State.setBit -/

@[simp] theorem State.setBit_pending (f : Field) (b : Nat) (v : Bool) : (s.setBit f b v).pending = s.pending := rfl
@[simp] theorem State.setBit_mpWait (f : Field) (b : Nat) (v : Bool) : (s.setBit f b v).mpWait = s.mpWait := rfl
@[simp] theorem State.setBit_out (f : Field) (b : Nat) (v : Bool) : (s.setBit f b v).out = s.out := rfl
@[simp] theorem State.setBit_freeCtr (f : Field) (b : Nat) (v : Bool) : (s.setBit f b v).freeCtr = s.freeCtr := rfl
@[simp] theorem State.setBit_drbgCtr (f : Field) (b : Nat) (v : Bool) : (s.setBit f b v).drbgCtr = s.drbgCtr := rfl
@[simp] theorem State.setBit_norVal (f : Field) (b : Nat) (v : Bool) : (s.setBit f b v).norVal = s.norVal := rfl
@[simp] theorem State.setBit_norMask (f : Field) (b : Nat) (v : Bool) : (s.setBit f b v).norMask = s.norMask := rfl
@[simp] theorem State.setBit_mem (f : Field) (b : Nat) (v : Bool) : (s.setBit f b v).mem = s.mem := rfl
@[simp] theorem State.setBit_poisoned (f : Field) (b : Nat) (v : Bool) : (s.setBit f b v).poisoned = s.poisoned := rfl
@[simp] theorem State.setBit_poisonList (f : Field) (b : Nat) (v : Bool) : (s.setBit f b v).poisonList = s.poisonList := rfl
@[simp] theorem State.setBit_poisonWait (f : Field) (b : Nat) (v : Bool) : (s.setBit f b v).poisonWait = s.poisonWait := rfl
@[simp] theorem State.setBit_poisonOvf (f : Field) (b : Nat) (v : Bool) : (s.setBit f b v).poisonOvf = s.poisonOvf := rfl
@[simp] theorem State.setBit_dmap (f : Field) (b : Nat) (v : Bool) : (s.setBit f b v).dmap = s.dmap := rfl
@[simp] theorem State.setBit_index (f : Field) (b : Nat) (v : Bool) : (s.setBit f b v).index = s.index := rfl
@[simp] theorem State.setBit_walks (f : Field) (b : Nat) (v : Bool) : (s.setBit f b v).walks = s.walks := rfl
@[simp] theorem State.setBit_queues (f : Field) (b : Nat) (v : Bool) : (s.setBit f b v).queues = s.queues := rfl
@[simp] theorem State.setBit_tickets (f : Field) (b : Nat) (v : Bool) : (s.setBit f b v).tickets = s.tickets := rfl
@[simp] theorem State.setBit_poolOut (f : Field) (b : Nat) (v : Bool) : (s.setBit f b v).poolOut = s.poolOut := rfl
@[simp] theorem State.setBit_turnQ (f : Field) (b : Nat) (v : Bool) : (s.setBit f b v).turnQ = s.turnQ := rfl
@[simp] theorem State.setBit_heads (f : Field) (b : Nat) (v : Bool) : (s.setBit f b v).heads = s.heads := rfl
@[simp] theorem State.setBit_lsa (f : Field) (b : Nat) (v : Bool) : (s.setBit f b v).lsa = s.lsa := rfl
@[simp] theorem State.setBit_report (f : Field) (b : Nat) (v : Bool) : (s.setBit f b v).report = s.report := rfl
@[simp] theorem State.setBit_mr (f : Field) (b : Nat) (v : Bool) : (s.setBit f b v).mr = s.mr := rfl
@[simp] theorem State.setBit_alerts (f : Field) (b : Nat) (v : Bool) : (s.setBit f b v).alerts = s.alerts := rfl
@[simp] theorem State.setBit_calib (f : Field) (b : Nat) (v : Bool) : (s.setBit f b v).calib = s.calib := rfl
@[simp] theorem State.setBit_im (f : Field) (b : Nat) (v : Bool) : (s.setBit f b v).im = s.im := rfl
@[simp] theorem State.setBit_sv (f : Field) (b : Nat) (v : Bool) : (s.setBit f b v).sv = s.sv := rfl
@[simp] theorem State.setBit_rs (f : Field) (b : Nat) (v : Bool) : (s.setBit f b v).rs = s.rs := rfl
@[simp] theorem State.setBit_fc (f : Field) (b : Nat) (v : Bool) : (s.setBit f b v).fc = s.fc := rfl
@[simp] theorem State.setBit_tw (f : Field) (b : Nat) (v : Bool) : (s.setBit f b v).tw = s.tw := rfl
@[simp] theorem State.setBit_mc (f : Field) (b : Nat) (v : Bool) : (s.setBit f b v).mc = s.mc := rfl
@[simp] theorem State.setBit_bayA (f : Field) (b : Nat) (v : Bool) : (s.setBit f b v).bayA = s.bayA := rfl
@[simp] theorem State.setBit_bayB (f : Field) (b : Nat) (v : Bool) : (s.setBit f b v).bayB = s.bayB := rfl
@[simp] theorem State.setBit_pw (f : Field) (b : Nat) (v : Bool) : (s.setBit f b v).pw = s.pw := rfl
@[simp] theorem State.setBit_ck (f : Field) (b : Nat) (v : Bool) : (s.setBit f b v).ck = s.ck := rfl
@[simp] theorem State.setBit_twb (f : Field) (b : Nat) (v : Bool) : (s.setBit f b v).twb = s.twb := rfl
@[simp] theorem State.setBit_fw (f : Field) (b : Nat) (v : Bool) : (s.setBit f b v).fw = s.fw := rfl
@[simp] theorem State.setBit_sec (f : Field) (b : Nat) (v : Bool) : (s.setBit f b v).sec = s.sec := rfl
@[simp] theorem State.setBit_ev (f : Field) (b : Nat) (v : Bool) : (s.setBit f b v).ev = s.ev := rfl
@[simp] theorem State.setBit_pan (f : Field) (b : Nat) (v : Bool) : (s.setBit f b v).pan = s.pan := rfl
@[simp] theorem State.setBit_trials (f : Field) (b : Nat) (v : Bool) : (s.setBit f b v).trials = s.trials := rfl

/-! ### State.setProc -/

@[simp] theorem State.setProc_pending (p v : Nat) : (s.setProc p v).pending = s.pending := rfl
@[simp] theorem State.setProc_mpWait (p v : Nat) : (s.setProc p v).mpWait = s.mpWait := rfl
@[simp] theorem State.setProc_out (p v : Nat) : (s.setProc p v).out = s.out := rfl
@[simp] theorem State.setProc_freeCtr (p v : Nat) : (s.setProc p v).freeCtr = s.freeCtr := rfl
@[simp] theorem State.setProc_drbgCtr (p v : Nat) : (s.setProc p v).drbgCtr = s.drbgCtr := rfl
@[simp] theorem State.setProc_norVal (p v : Nat) : (s.setProc p v).norVal = s.norVal := rfl
@[simp] theorem State.setProc_norMask (p v : Nat) : (s.setProc p v).norMask = s.norMask := rfl
@[simp] theorem State.setProc_mem (p v : Nat) : (s.setProc p v).mem = s.mem := rfl
@[simp] theorem State.setProc_poisoned (p v : Nat) : (s.setProc p v).poisoned = s.poisoned := rfl
@[simp] theorem State.setProc_poisonList (p v : Nat) : (s.setProc p v).poisonList = s.poisonList := rfl
@[simp] theorem State.setProc_poisonWait (p v : Nat) : (s.setProc p v).poisonWait = s.poisonWait := rfl
@[simp] theorem State.setProc_poisonOvf (p v : Nat) : (s.setProc p v).poisonOvf = s.poisonOvf := rfl
@[simp] theorem State.setProc_dmap (p v : Nat) : (s.setProc p v).dmap = s.dmap := rfl
@[simp] theorem State.setProc_index (p v : Nat) : (s.setProc p v).index = s.index := rfl
@[simp] theorem State.setProc_walks (p v : Nat) : (s.setProc p v).walks = s.walks := rfl
@[simp] theorem State.setProc_queues (p v : Nat) : (s.setProc p v).queues = s.queues := rfl
@[simp] theorem State.setProc_tickets (p v : Nat) : (s.setProc p v).tickets = s.tickets := rfl
@[simp] theorem State.setProc_poolOut (p v : Nat) : (s.setProc p v).poolOut = s.poolOut := rfl
@[simp] theorem State.setProc_turnQ (p v : Nat) : (s.setProc p v).turnQ = s.turnQ := rfl
@[simp] theorem State.setProc_heads (p v : Nat) : (s.setProc p v).heads = s.heads := rfl
@[simp] theorem State.setProc_lsa (p v : Nat) : (s.setProc p v).lsa = s.lsa := rfl
@[simp] theorem State.setProc_report (p v : Nat) : (s.setProc p v).report = s.report := rfl
@[simp] theorem State.setProc_mr (p v : Nat) : (s.setProc p v).mr = s.mr := rfl
@[simp] theorem State.setProc_alerts (p v : Nat) : (s.setProc p v).alerts = s.alerts := rfl
@[simp] theorem State.setProc_calib (p v : Nat) : (s.setProc p v).calib = s.calib := rfl
@[simp] theorem State.setProc_im (p v : Nat) : (s.setProc p v).im = s.im := rfl
@[simp] theorem State.setProc_sv (p v : Nat) : (s.setProc p v).sv = s.sv := rfl
@[simp] theorem State.setProc_rs (p v : Nat) : (s.setProc p v).rs = s.rs := rfl
@[simp] theorem State.setProc_fc (p v : Nat) : (s.setProc p v).fc = s.fc := rfl
@[simp] theorem State.setProc_tw (p v : Nat) : (s.setProc p v).tw = s.tw := rfl
@[simp] theorem State.setProc_mc (p v : Nat) : (s.setProc p v).mc = s.mc := rfl
@[simp] theorem State.setProc_bayA (p v : Nat) : (s.setProc p v).bayA = s.bayA := rfl
@[simp] theorem State.setProc_bayB (p v : Nat) : (s.setProc p v).bayB = s.bayB := rfl
@[simp] theorem State.setProc_pw (p v : Nat) : (s.setProc p v).pw = s.pw := rfl
@[simp] theorem State.setProc_ck (p v : Nat) : (s.setProc p v).ck = s.ck := rfl
@[simp] theorem State.setProc_twb (p v : Nat) : (s.setProc p v).twb = s.twb := rfl
@[simp] theorem State.setProc_fw (p v : Nat) : (s.setProc p v).fw = s.fw := rfl
@[simp] theorem State.setProc_sec (p v : Nat) : (s.setProc p v).sec = s.sec := rfl
@[simp] theorem State.setProc_ev (p v : Nat) : (s.setProc p v).ev = s.ev := rfl
@[simp] theorem State.setProc_pan (p v : Nat) : (s.setProc p v).pan = s.pan := rfl
@[simp] theorem State.setProc_trials (p v : Nat) : (s.setProc p v).trials = s.trials := rfl

/-! ### State.setDom -/

@[simp] theorem State.setDom_pending (d v : Nat) : (s.setDom d v).pending = s.pending := rfl
@[simp] theorem State.setDom_mpWait (d v : Nat) : (s.setDom d v).mpWait = s.mpWait := rfl
@[simp] theorem State.setDom_out (d v : Nat) : (s.setDom d v).out = s.out := rfl
@[simp] theorem State.setDom_freeCtr (d v : Nat) : (s.setDom d v).freeCtr = s.freeCtr := rfl
@[simp] theorem State.setDom_drbgCtr (d v : Nat) : (s.setDom d v).drbgCtr = s.drbgCtr := rfl
@[simp] theorem State.setDom_norVal (d v : Nat) : (s.setDom d v).norVal = s.norVal := rfl
@[simp] theorem State.setDom_norMask (d v : Nat) : (s.setDom d v).norMask = s.norMask := rfl
@[simp] theorem State.setDom_mem (d v : Nat) : (s.setDom d v).mem = s.mem := rfl
@[simp] theorem State.setDom_poisoned (d v : Nat) : (s.setDom d v).poisoned = s.poisoned := rfl
@[simp] theorem State.setDom_poisonList (d v : Nat) : (s.setDom d v).poisonList = s.poisonList := rfl
@[simp] theorem State.setDom_poisonWait (d v : Nat) : (s.setDom d v).poisonWait = s.poisonWait := rfl
@[simp] theorem State.setDom_poisonOvf (d v : Nat) : (s.setDom d v).poisonOvf = s.poisonOvf := rfl
@[simp] theorem State.setDom_dmap (d v : Nat) : (s.setDom d v).dmap = s.dmap := rfl
@[simp] theorem State.setDom_index (d v : Nat) : (s.setDom d v).index = s.index := rfl
@[simp] theorem State.setDom_walks (d v : Nat) : (s.setDom d v).walks = s.walks := rfl
@[simp] theorem State.setDom_queues (d v : Nat) : (s.setDom d v).queues = s.queues := rfl
@[simp] theorem State.setDom_tickets (d v : Nat) : (s.setDom d v).tickets = s.tickets := rfl
@[simp] theorem State.setDom_poolOut (d v : Nat) : (s.setDom d v).poolOut = s.poolOut := rfl
@[simp] theorem State.setDom_turnQ (d v : Nat) : (s.setDom d v).turnQ = s.turnQ := rfl
@[simp] theorem State.setDom_heads (d v : Nat) : (s.setDom d v).heads = s.heads := rfl
@[simp] theorem State.setDom_lsa (d v : Nat) : (s.setDom d v).lsa = s.lsa := rfl
@[simp] theorem State.setDom_report (d v : Nat) : (s.setDom d v).report = s.report := rfl
@[simp] theorem State.setDom_mr (d v : Nat) : (s.setDom d v).mr = s.mr := rfl
@[simp] theorem State.setDom_alerts (d v : Nat) : (s.setDom d v).alerts = s.alerts := rfl
@[simp] theorem State.setDom_calib (d v : Nat) : (s.setDom d v).calib = s.calib := rfl
@[simp] theorem State.setDom_im (d v : Nat) : (s.setDom d v).im = s.im := rfl
@[simp] theorem State.setDom_sv (d v : Nat) : (s.setDom d v).sv = s.sv := rfl
@[simp] theorem State.setDom_rs (d v : Nat) : (s.setDom d v).rs = s.rs := rfl
@[simp] theorem State.setDom_fc (d v : Nat) : (s.setDom d v).fc = s.fc := rfl
@[simp] theorem State.setDom_tw (d v : Nat) : (s.setDom d v).tw = s.tw := rfl
@[simp] theorem State.setDom_mc (d v : Nat) : (s.setDom d v).mc = s.mc := rfl
@[simp] theorem State.setDom_bayA (d v : Nat) : (s.setDom d v).bayA = s.bayA := rfl
@[simp] theorem State.setDom_bayB (d v : Nat) : (s.setDom d v).bayB = s.bayB := rfl
@[simp] theorem State.setDom_pw (d v : Nat) : (s.setDom d v).pw = s.pw := rfl
@[simp] theorem State.setDom_ck (d v : Nat) : (s.setDom d v).ck = s.ck := rfl
@[simp] theorem State.setDom_twb (d v : Nat) : (s.setDom d v).twb = s.twb := rfl
@[simp] theorem State.setDom_fw (d v : Nat) : (s.setDom d v).fw = s.fw := rfl
@[simp] theorem State.setDom_sec (d v : Nat) : (s.setDom d v).sec = s.sec := rfl
@[simp] theorem State.setDom_ev (d v : Nat) : (s.setDom d v).ev = s.ev := rfl
@[simp] theorem State.setDom_pan (d v : Nat) : (s.setDom d v).pan = s.pan := rfl
@[simp] theorem State.setDom_trials (d v : Nat) : (s.setDom d v).trials = s.trials := rfl

/-! ### State.setHead -/

@[simp] theorem State.setHead_pending (k : Nat) (h : Head) : (s.setHead k h).pending = s.pending := rfl
@[simp] theorem State.setHead_mpWait (k : Nat) (h : Head) : (s.setHead k h).mpWait = s.mpWait := rfl
@[simp] theorem State.setHead_out (k : Nat) (h : Head) : (s.setHead k h).out = s.out := rfl
@[simp] theorem State.setHead_freeCtr (k : Nat) (h : Head) : (s.setHead k h).freeCtr = s.freeCtr := rfl
@[simp] theorem State.setHead_drbgCtr (k : Nat) (h : Head) : (s.setHead k h).drbgCtr = s.drbgCtr := rfl
@[simp] theorem State.setHead_regs (k : Nat) (h : Head) : (s.setHead k h).regs = s.regs := rfl
@[simp] theorem State.setHead_norVal (k : Nat) (h : Head) : (s.setHead k h).norVal = s.norVal := rfl
@[simp] theorem State.setHead_norMask (k : Nat) (h : Head) : (s.setHead k h).norMask = s.norMask := rfl
@[simp] theorem State.setHead_mem (k : Nat) (h : Head) : (s.setHead k h).mem = s.mem := rfl
@[simp] theorem State.setHead_poisoned (k : Nat) (h : Head) : (s.setHead k h).poisoned = s.poisoned := rfl
@[simp] theorem State.setHead_poisonList (k : Nat) (h : Head) : (s.setHead k h).poisonList = s.poisonList := rfl
@[simp] theorem State.setHead_poisonWait (k : Nat) (h : Head) : (s.setHead k h).poisonWait = s.poisonWait := rfl
@[simp] theorem State.setHead_poisonOvf (k : Nat) (h : Head) : (s.setHead k h).poisonOvf = s.poisonOvf := rfl
@[simp] theorem State.setHead_dmap (k : Nat) (h : Head) : (s.setHead k h).dmap = s.dmap := rfl
@[simp] theorem State.setHead_index (k : Nat) (h : Head) : (s.setHead k h).index = s.index := rfl
@[simp] theorem State.setHead_walks (k : Nat) (h : Head) : (s.setHead k h).walks = s.walks := rfl
@[simp] theorem State.setHead_queues (k : Nat) (h : Head) : (s.setHead k h).queues = s.queues := rfl
@[simp] theorem State.setHead_tickets (k : Nat) (h : Head) : (s.setHead k h).tickets = s.tickets := rfl
@[simp] theorem State.setHead_poolOut (k : Nat) (h : Head) : (s.setHead k h).poolOut = s.poolOut := rfl
@[simp] theorem State.setHead_turnQ (k : Nat) (h : Head) : (s.setHead k h).turnQ = s.turnQ := rfl
@[simp] theorem State.setHead_lsa (k : Nat) (h : Head) : (s.setHead k h).lsa = s.lsa := rfl
@[simp] theorem State.setHead_report (k : Nat) (h : Head) : (s.setHead k h).report = s.report := rfl
@[simp] theorem State.setHead_mr (k : Nat) (h : Head) : (s.setHead k h).mr = s.mr := rfl
@[simp] theorem State.setHead_alerts (k : Nat) (h : Head) : (s.setHead k h).alerts = s.alerts := rfl
@[simp] theorem State.setHead_calib (k : Nat) (h : Head) : (s.setHead k h).calib = s.calib := rfl
@[simp] theorem State.setHead_im (k : Nat) (h : Head) : (s.setHead k h).im = s.im := rfl
@[simp] theorem State.setHead_sv (k : Nat) (h : Head) : (s.setHead k h).sv = s.sv := rfl
@[simp] theorem State.setHead_rs (k : Nat) (h : Head) : (s.setHead k h).rs = s.rs := rfl
@[simp] theorem State.setHead_fc (k : Nat) (h : Head) : (s.setHead k h).fc = s.fc := rfl
@[simp] theorem State.setHead_tw (k : Nat) (h : Head) : (s.setHead k h).tw = s.tw := rfl
@[simp] theorem State.setHead_mc (k : Nat) (h : Head) : (s.setHead k h).mc = s.mc := rfl
@[simp] theorem State.setHead_bayA (k : Nat) (h : Head) : (s.setHead k h).bayA = s.bayA := rfl
@[simp] theorem State.setHead_bayB (k : Nat) (h : Head) : (s.setHead k h).bayB = s.bayB := rfl
@[simp] theorem State.setHead_pw (k : Nat) (h : Head) : (s.setHead k h).pw = s.pw := rfl
@[simp] theorem State.setHead_ck (k : Nat) (h : Head) : (s.setHead k h).ck = s.ck := rfl
@[simp] theorem State.setHead_twb (k : Nat) (h : Head) : (s.setHead k h).twb = s.twb := rfl
@[simp] theorem State.setHead_fw (k : Nat) (h : Head) : (s.setHead k h).fw = s.fw := rfl
@[simp] theorem State.setHead_sec (k : Nat) (h : Head) : (s.setHead k h).sec = s.sec := rfl
@[simp] theorem State.setHead_ev (k : Nat) (h : Head) : (s.setHead k h).ev = s.ev := rfl
@[simp] theorem State.setHead_pan (k : Nat) (h : Head) : (s.setHead k h).pan = s.pan := rfl
@[simp] theorem State.setHead_trials (k : Nat) (h : Head) : (s.setHead k h).trials = s.trials := rfl
@[simp] theorem State.setHead_rdi (k : Nat) (h : Head) (g : Field) (j : Nat) : (s.setHead k h).rdi g j = s.rdi g j := by unfold State.rdi; simp
@[simp] theorem State.setHead_rd (k : Nat) (h : Head) (g : Field) : (s.setHead k h).rd g = s.rd g := by unfold State.rd; simp

/-! ### State.setQueue -/

@[simp] theorem State.setQueue_pending (q : Nat) (x : Queue) : (s.setQueue q x).pending = s.pending := rfl
@[simp] theorem State.setQueue_mpWait (q : Nat) (x : Queue) : (s.setQueue q x).mpWait = s.mpWait := rfl
@[simp] theorem State.setQueue_out (q : Nat) (x : Queue) : (s.setQueue q x).out = s.out := rfl
@[simp] theorem State.setQueue_freeCtr (q : Nat) (x : Queue) : (s.setQueue q x).freeCtr = s.freeCtr := rfl
@[simp] theorem State.setQueue_drbgCtr (q : Nat) (x : Queue) : (s.setQueue q x).drbgCtr = s.drbgCtr := rfl
@[simp] theorem State.setQueue_regs (q : Nat) (x : Queue) : (s.setQueue q x).regs = s.regs := rfl
@[simp] theorem State.setQueue_norVal (q : Nat) (x : Queue) : (s.setQueue q x).norVal = s.norVal := rfl
@[simp] theorem State.setQueue_norMask (q : Nat) (x : Queue) : (s.setQueue q x).norMask = s.norMask := rfl
@[simp] theorem State.setQueue_mem (q : Nat) (x : Queue) : (s.setQueue q x).mem = s.mem := rfl
@[simp] theorem State.setQueue_poisoned (q : Nat) (x : Queue) : (s.setQueue q x).poisoned = s.poisoned := rfl
@[simp] theorem State.setQueue_poisonList (q : Nat) (x : Queue) : (s.setQueue q x).poisonList = s.poisonList := rfl
@[simp] theorem State.setQueue_poisonWait (q : Nat) (x : Queue) : (s.setQueue q x).poisonWait = s.poisonWait := rfl
@[simp] theorem State.setQueue_poisonOvf (q : Nat) (x : Queue) : (s.setQueue q x).poisonOvf = s.poisonOvf := rfl
@[simp] theorem State.setQueue_dmap (q : Nat) (x : Queue) : (s.setQueue q x).dmap = s.dmap := rfl
@[simp] theorem State.setQueue_index (q : Nat) (x : Queue) : (s.setQueue q x).index = s.index := rfl
@[simp] theorem State.setQueue_walks (q : Nat) (x : Queue) : (s.setQueue q x).walks = s.walks := rfl
@[simp] theorem State.setQueue_tickets (q : Nat) (x : Queue) : (s.setQueue q x).tickets = s.tickets := rfl
@[simp] theorem State.setQueue_poolOut (q : Nat) (x : Queue) : (s.setQueue q x).poolOut = s.poolOut := rfl
@[simp] theorem State.setQueue_turnQ (q : Nat) (x : Queue) : (s.setQueue q x).turnQ = s.turnQ := rfl
@[simp] theorem State.setQueue_heads (q : Nat) (x : Queue) : (s.setQueue q x).heads = s.heads := rfl
@[simp] theorem State.setQueue_lsa (q : Nat) (x : Queue) : (s.setQueue q x).lsa = s.lsa := rfl
@[simp] theorem State.setQueue_report (q : Nat) (x : Queue) : (s.setQueue q x).report = s.report := rfl
@[simp] theorem State.setQueue_mr (q : Nat) (x : Queue) : (s.setQueue q x).mr = s.mr := rfl
@[simp] theorem State.setQueue_alerts (q : Nat) (x : Queue) : (s.setQueue q x).alerts = s.alerts := rfl
@[simp] theorem State.setQueue_calib (q : Nat) (x : Queue) : (s.setQueue q x).calib = s.calib := rfl
@[simp] theorem State.setQueue_im (q : Nat) (x : Queue) : (s.setQueue q x).im = s.im := rfl
@[simp] theorem State.setQueue_sv (q : Nat) (x : Queue) : (s.setQueue q x).sv = s.sv := rfl
@[simp] theorem State.setQueue_rs (q : Nat) (x : Queue) : (s.setQueue q x).rs = s.rs := rfl
@[simp] theorem State.setQueue_fc (q : Nat) (x : Queue) : (s.setQueue q x).fc = s.fc := rfl
@[simp] theorem State.setQueue_tw (q : Nat) (x : Queue) : (s.setQueue q x).tw = s.tw := rfl
@[simp] theorem State.setQueue_mc (q : Nat) (x : Queue) : (s.setQueue q x).mc = s.mc := rfl
@[simp] theorem State.setQueue_bayA (q : Nat) (x : Queue) : (s.setQueue q x).bayA = s.bayA := rfl
@[simp] theorem State.setQueue_bayB (q : Nat) (x : Queue) : (s.setQueue q x).bayB = s.bayB := rfl
@[simp] theorem State.setQueue_pw (q : Nat) (x : Queue) : (s.setQueue q x).pw = s.pw := rfl
@[simp] theorem State.setQueue_ck (q : Nat) (x : Queue) : (s.setQueue q x).ck = s.ck := rfl
@[simp] theorem State.setQueue_twb (q : Nat) (x : Queue) : (s.setQueue q x).twb = s.twb := rfl
@[simp] theorem State.setQueue_fw (q : Nat) (x : Queue) : (s.setQueue q x).fw = s.fw := rfl
@[simp] theorem State.setQueue_sec (q : Nat) (x : Queue) : (s.setQueue q x).sec = s.sec := rfl
@[simp] theorem State.setQueue_ev (q : Nat) (x : Queue) : (s.setQueue q x).ev = s.ev := rfl
@[simp] theorem State.setQueue_pan (q : Nat) (x : Queue) : (s.setQueue q x).pan = s.pan := rfl
@[simp] theorem State.setQueue_trials (q : Nat) (x : Queue) : (s.setQueue q x).trials = s.trials := rfl
@[simp] theorem State.setQueue_rdi (q : Nat) (x : Queue) (g : Field) (j : Nat) : (s.setQueue q x).rdi g j = s.rdi g j := by unfold State.rdi; simp
@[simp] theorem State.setQueue_rd (q : Nat) (x : Queue) (g : Field) : (s.setQueue q x).rd g = s.rd g := by unfold State.rd; simp

/-! ### State.skipFree -/

@[simp] theorem State.skipFree_pending : s.skipFree.pending = s.pending := rfl
@[simp] theorem State.skipFree_mpWait : s.skipFree.mpWait = s.mpWait := rfl
@[simp] theorem State.skipFree_out : s.skipFree.out = s.out := rfl
@[simp] theorem State.skipFree_drbgCtr : s.skipFree.drbgCtr = s.drbgCtr := rfl
@[simp] theorem State.skipFree_regs : s.skipFree.regs = s.regs := rfl
@[simp] theorem State.skipFree_norVal : s.skipFree.norVal = s.norVal := rfl
@[simp] theorem State.skipFree_norMask : s.skipFree.norMask = s.norMask := rfl
@[simp] theorem State.skipFree_mem : s.skipFree.mem = s.mem := rfl
@[simp] theorem State.skipFree_poisoned : s.skipFree.poisoned = s.poisoned := rfl
@[simp] theorem State.skipFree_poisonList : s.skipFree.poisonList = s.poisonList := rfl
@[simp] theorem State.skipFree_poisonWait : s.skipFree.poisonWait = s.poisonWait := rfl
@[simp] theorem State.skipFree_poisonOvf : s.skipFree.poisonOvf = s.poisonOvf := rfl
@[simp] theorem State.skipFree_dmap : s.skipFree.dmap = s.dmap := rfl
@[simp] theorem State.skipFree_index : s.skipFree.index = s.index := rfl
@[simp] theorem State.skipFree_walks : s.skipFree.walks = s.walks := rfl
@[simp] theorem State.skipFree_queues : s.skipFree.queues = s.queues := rfl
@[simp] theorem State.skipFree_tickets : s.skipFree.tickets = s.tickets := rfl
@[simp] theorem State.skipFree_poolOut : s.skipFree.poolOut = s.poolOut := rfl
@[simp] theorem State.skipFree_turnQ : s.skipFree.turnQ = s.turnQ := rfl
@[simp] theorem State.skipFree_heads : s.skipFree.heads = s.heads := rfl
@[simp] theorem State.skipFree_lsa : s.skipFree.lsa = s.lsa := rfl
@[simp] theorem State.skipFree_report : s.skipFree.report = s.report := rfl
@[simp] theorem State.skipFree_mr : s.skipFree.mr = s.mr := rfl
@[simp] theorem State.skipFree_alerts : s.skipFree.alerts = s.alerts := rfl
@[simp] theorem State.skipFree_calib : s.skipFree.calib = s.calib := rfl
@[simp] theorem State.skipFree_im : s.skipFree.im = s.im := rfl
@[simp] theorem State.skipFree_sv : s.skipFree.sv = s.sv := rfl
@[simp] theorem State.skipFree_rs : s.skipFree.rs = s.rs := rfl
@[simp] theorem State.skipFree_fc : s.skipFree.fc = s.fc := rfl
@[simp] theorem State.skipFree_tw : s.skipFree.tw = s.tw := rfl
@[simp] theorem State.skipFree_mc : s.skipFree.mc = s.mc := rfl
@[simp] theorem State.skipFree_bayA : s.skipFree.bayA = s.bayA := rfl
@[simp] theorem State.skipFree_bayB : s.skipFree.bayB = s.bayB := rfl
@[simp] theorem State.skipFree_pw : s.skipFree.pw = s.pw := rfl
@[simp] theorem State.skipFree_ck : s.skipFree.ck = s.ck := rfl
@[simp] theorem State.skipFree_twb : s.skipFree.twb = s.twb := rfl
@[simp] theorem State.skipFree_fw : s.skipFree.fw = s.fw := rfl
@[simp] theorem State.skipFree_sec : s.skipFree.sec = s.sec := rfl
@[simp] theorem State.skipFree_ev : s.skipFree.ev = s.ev := rfl
@[simp] theorem State.skipFree_pan : s.skipFree.pan = s.pan := rfl
@[simp] theorem State.skipFree_trials : s.skipFree.trials = s.trials := rfl
@[simp] theorem State.skipFree_rdi (g : Field) (j : Nat) : s.skipFree.rdi g j = s.rdi g j := by unfold State.rdi; simp
@[simp] theorem State.skipFree_rd (g : Field) : s.skipFree.rd g = s.rd g := by unfold State.rd; simp

/-! ### State.skipDrbg -/

@[simp] theorem State.skipDrbg_pending : s.skipDrbg.pending = s.pending := rfl
@[simp] theorem State.skipDrbg_mpWait : s.skipDrbg.mpWait = s.mpWait := rfl
@[simp] theorem State.skipDrbg_out : s.skipDrbg.out = s.out := rfl
@[simp] theorem State.skipDrbg_freeCtr : s.skipDrbg.freeCtr = s.freeCtr := rfl
@[simp] theorem State.skipDrbg_regs : s.skipDrbg.regs = s.regs := rfl
@[simp] theorem State.skipDrbg_norVal : s.skipDrbg.norVal = s.norVal := rfl
@[simp] theorem State.skipDrbg_norMask : s.skipDrbg.norMask = s.norMask := rfl
@[simp] theorem State.skipDrbg_mem : s.skipDrbg.mem = s.mem := rfl
@[simp] theorem State.skipDrbg_poisoned : s.skipDrbg.poisoned = s.poisoned := rfl
@[simp] theorem State.skipDrbg_poisonList : s.skipDrbg.poisonList = s.poisonList := rfl
@[simp] theorem State.skipDrbg_poisonWait : s.skipDrbg.poisonWait = s.poisonWait := rfl
@[simp] theorem State.skipDrbg_poisonOvf : s.skipDrbg.poisonOvf = s.poisonOvf := rfl
@[simp] theorem State.skipDrbg_dmap : s.skipDrbg.dmap = s.dmap := rfl
@[simp] theorem State.skipDrbg_index : s.skipDrbg.index = s.index := rfl
@[simp] theorem State.skipDrbg_walks : s.skipDrbg.walks = s.walks := rfl
@[simp] theorem State.skipDrbg_queues : s.skipDrbg.queues = s.queues := rfl
@[simp] theorem State.skipDrbg_tickets : s.skipDrbg.tickets = s.tickets := rfl
@[simp] theorem State.skipDrbg_poolOut : s.skipDrbg.poolOut = s.poolOut := rfl
@[simp] theorem State.skipDrbg_turnQ : s.skipDrbg.turnQ = s.turnQ := rfl
@[simp] theorem State.skipDrbg_heads : s.skipDrbg.heads = s.heads := rfl
@[simp] theorem State.skipDrbg_lsa : s.skipDrbg.lsa = s.lsa := rfl
@[simp] theorem State.skipDrbg_report : s.skipDrbg.report = s.report := rfl
@[simp] theorem State.skipDrbg_mr : s.skipDrbg.mr = s.mr := rfl
@[simp] theorem State.skipDrbg_alerts : s.skipDrbg.alerts = s.alerts := rfl
@[simp] theorem State.skipDrbg_calib : s.skipDrbg.calib = s.calib := rfl
@[simp] theorem State.skipDrbg_im : s.skipDrbg.im = s.im := rfl
@[simp] theorem State.skipDrbg_sv : s.skipDrbg.sv = s.sv := rfl
@[simp] theorem State.skipDrbg_rs : s.skipDrbg.rs = s.rs := rfl
@[simp] theorem State.skipDrbg_fc : s.skipDrbg.fc = s.fc := rfl
@[simp] theorem State.skipDrbg_tw : s.skipDrbg.tw = s.tw := rfl
@[simp] theorem State.skipDrbg_mc : s.skipDrbg.mc = s.mc := rfl
@[simp] theorem State.skipDrbg_bayA : s.skipDrbg.bayA = s.bayA := rfl
@[simp] theorem State.skipDrbg_bayB : s.skipDrbg.bayB = s.bayB := rfl
@[simp] theorem State.skipDrbg_pw : s.skipDrbg.pw = s.pw := rfl
@[simp] theorem State.skipDrbg_ck : s.skipDrbg.ck = s.ck := rfl
@[simp] theorem State.skipDrbg_twb : s.skipDrbg.twb = s.twb := rfl
@[simp] theorem State.skipDrbg_fw : s.skipDrbg.fw = s.fw := rfl
@[simp] theorem State.skipDrbg_sec : s.skipDrbg.sec = s.sec := rfl
@[simp] theorem State.skipDrbg_ev : s.skipDrbg.ev = s.ev := rfl
@[simp] theorem State.skipDrbg_pan : s.skipDrbg.pan = s.pan := rfl
@[simp] theorem State.skipDrbg_trials : s.skipDrbg.trials = s.trials := rfl
@[simp] theorem State.skipDrbg_rdi (g : Field) (j : Nat) : s.skipDrbg.rdi g j = s.rdi g j := by unfold State.rdi; simp
@[simp] theorem State.skipDrbg_rd (g : Field) : s.skipDrbg.rd g = s.rd g := by unfold State.rd; simp

/-! ### State.setBus -/

@[simp] theorem State.setBus_pending (i st : Nat) : (s.setBus i st).pending = s.pending := rfl
@[simp] theorem State.setBus_mpWait (i st : Nat) : (s.setBus i st).mpWait = s.mpWait := rfl
@[simp] theorem State.setBus_out (i st : Nat) : (s.setBus i st).out = s.out := rfl
@[simp] theorem State.setBus_freeCtr (i st : Nat) : (s.setBus i st).freeCtr = s.freeCtr := rfl
@[simp] theorem State.setBus_drbgCtr (i st : Nat) : (s.setBus i st).drbgCtr = s.drbgCtr := rfl
@[simp] theorem State.setBus_regs (i st : Nat) : (s.setBus i st).regs = s.regs := rfl
@[simp] theorem State.setBus_norVal (i st : Nat) : (s.setBus i st).norVal = s.norVal := rfl
@[simp] theorem State.setBus_norMask (i st : Nat) : (s.setBus i st).norMask = s.norMask := rfl
@[simp] theorem State.setBus_mem (i st : Nat) : (s.setBus i st).mem = s.mem := rfl
@[simp] theorem State.setBus_poisoned (i st : Nat) : (s.setBus i st).poisoned = s.poisoned := rfl
@[simp] theorem State.setBus_poisonList (i st : Nat) : (s.setBus i st).poisonList = s.poisonList := rfl
@[simp] theorem State.setBus_poisonWait (i st : Nat) : (s.setBus i st).poisonWait = s.poisonWait := rfl
@[simp] theorem State.setBus_poisonOvf (i st : Nat) : (s.setBus i st).poisonOvf = s.poisonOvf := rfl
@[simp] theorem State.setBus_dmap (i st : Nat) : (s.setBus i st).dmap = s.dmap := rfl
@[simp] theorem State.setBus_index (i st : Nat) : (s.setBus i st).index = s.index := rfl
@[simp] theorem State.setBus_walks (i st : Nat) : (s.setBus i st).walks = s.walks := rfl
@[simp] theorem State.setBus_queues (i st : Nat) : (s.setBus i st).queues = s.queues := rfl
@[simp] theorem State.setBus_tickets (i st : Nat) : (s.setBus i st).tickets = s.tickets := rfl
@[simp] theorem State.setBus_poolOut (i st : Nat) : (s.setBus i st).poolOut = s.poolOut := rfl
@[simp] theorem State.setBus_turnQ (i st : Nat) : (s.setBus i st).turnQ = s.turnQ := rfl
@[simp] theorem State.setBus_heads (i st : Nat) : (s.setBus i st).heads = s.heads := rfl
@[simp] theorem State.setBus_lsa (i st : Nat) : (s.setBus i st).lsa = s.lsa := rfl
@[simp] theorem State.setBus_report (i st : Nat) : (s.setBus i st).report = s.report := rfl
@[simp] theorem State.setBus_mr (i st : Nat) : (s.setBus i st).mr = s.mr := rfl
@[simp] theorem State.setBus_alerts (i st : Nat) : (s.setBus i st).alerts = s.alerts := rfl
@[simp] theorem State.setBus_calib (i st : Nat) : (s.setBus i st).calib = s.calib := rfl
@[simp] theorem State.setBus_im (i st : Nat) : (s.setBus i st).im = s.im := rfl
@[simp] theorem State.setBus_sv (i st : Nat) : (s.setBus i st).sv = s.sv := rfl
@[simp] theorem State.setBus_rs (i st : Nat) : (s.setBus i st).rs = s.rs := rfl
@[simp] theorem State.setBus_fc (i st : Nat) : (s.setBus i st).fc = s.fc := rfl
@[simp] theorem State.setBus_tw (i st : Nat) : (s.setBus i st).tw = s.tw := rfl
@[simp] theorem State.setBus_mc (i st : Nat) : (s.setBus i st).mc = s.mc := rfl
@[simp] theorem State.setBus_bayA (i st : Nat) : (s.setBus i st).bayA = s.bayA := rfl
@[simp] theorem State.setBus_bayB (i st : Nat) : (s.setBus i st).bayB = s.bayB := rfl
@[simp] theorem State.setBus_pw (i st : Nat) : (s.setBus i st).pw = s.pw := rfl
@[simp] theorem State.setBus_ck (i st : Nat) : (s.setBus i st).ck = s.ck := rfl
@[simp] theorem State.setBus_fw (i st : Nat) : (s.setBus i st).fw = s.fw := rfl
@[simp] theorem State.setBus_sec (i st : Nat) : (s.setBus i st).sec = s.sec := rfl
@[simp] theorem State.setBus_ev (i st : Nat) : (s.setBus i st).ev = s.ev := rfl
@[simp] theorem State.setBus_pan (i st : Nat) : (s.setBus i st).pan = s.pan := rfl
@[simp] theorem State.setBus_trials (i st : Nat) : (s.setBus i st).trials = s.trials := rfl
@[simp] theorem State.setBus_rdi (i st : Nat) (g : Field) (j : Nat) : (s.setBus i st).rdi g j = s.rdi g j := by unfold State.rdi; simp
@[simp] theorem State.setBus_rd (i st : Nat) (g : Field) : (s.setBus i st).rd g = s.rd g := by unfold State.rd; simp

/-! ### State.event -/

@[simp] theorem State.event_pending (c : Nat) (l : List Nat) : (s.event c l).pending = s.pending := by unfold State.event; dsimp only; split <;> rfl
@[simp] theorem State.event_mpWait (c : Nat) (l : List Nat) : (s.event c l).mpWait = s.mpWait := by unfold State.event; dsimp only; split <;> rfl
@[simp] theorem State.event_out (c : Nat) (l : List Nat) : (s.event c l).out = s.out := by unfold State.event; dsimp only; split <;> rfl
@[simp] theorem State.event_freeCtr (c : Nat) (l : List Nat) : (s.event c l).freeCtr = s.freeCtr := by unfold State.event; dsimp only; split <;> rfl
@[simp] theorem State.event_drbgCtr (c : Nat) (l : List Nat) : (s.event c l).drbgCtr = s.drbgCtr := by unfold State.event; dsimp only; split <;> rfl
@[simp] theorem State.event_regs (c : Nat) (l : List Nat) : (s.event c l).regs = s.regs := by unfold State.event; dsimp only; split <;> rfl
@[simp] theorem State.event_norVal (c : Nat) (l : List Nat) : (s.event c l).norVal = s.norVal := by unfold State.event; dsimp only; split <;> rfl
@[simp] theorem State.event_norMask (c : Nat) (l : List Nat) : (s.event c l).norMask = s.norMask := by unfold State.event; dsimp only; split <;> rfl
@[simp] theorem State.event_mem (c : Nat) (l : List Nat) : (s.event c l).mem = s.mem := by unfold State.event; dsimp only; split <;> rfl
@[simp] theorem State.event_poisoned (c : Nat) (l : List Nat) : (s.event c l).poisoned = s.poisoned := by unfold State.event; dsimp only; split <;> rfl
@[simp] theorem State.event_poisonList (c : Nat) (l : List Nat) : (s.event c l).poisonList = s.poisonList := by unfold State.event; dsimp only; split <;> rfl
@[simp] theorem State.event_poisonWait (c : Nat) (l : List Nat) : (s.event c l).poisonWait = s.poisonWait := by unfold State.event; dsimp only; split <;> rfl
@[simp] theorem State.event_poisonOvf (c : Nat) (l : List Nat) : (s.event c l).poisonOvf = s.poisonOvf := by unfold State.event; dsimp only; split <;> rfl
@[simp] theorem State.event_dmap (c : Nat) (l : List Nat) : (s.event c l).dmap = s.dmap := by unfold State.event; dsimp only; split <;> rfl
@[simp] theorem State.event_index (c : Nat) (l : List Nat) : (s.event c l).index = s.index := by unfold State.event; dsimp only; split <;> rfl
@[simp] theorem State.event_walks (c : Nat) (l : List Nat) : (s.event c l).walks = s.walks := by unfold State.event; dsimp only; split <;> rfl
@[simp] theorem State.event_queues (c : Nat) (l : List Nat) : (s.event c l).queues = s.queues := by unfold State.event; dsimp only; split <;> rfl
@[simp] theorem State.event_tickets (c : Nat) (l : List Nat) : (s.event c l).tickets = s.tickets := by unfold State.event; dsimp only; split <;> rfl
@[simp] theorem State.event_poolOut (c : Nat) (l : List Nat) : (s.event c l).poolOut = s.poolOut := by unfold State.event; dsimp only; split <;> rfl
@[simp] theorem State.event_turnQ (c : Nat) (l : List Nat) : (s.event c l).turnQ = s.turnQ := by unfold State.event; dsimp only; split <;> rfl
@[simp] theorem State.event_heads (c : Nat) (l : List Nat) : (s.event c l).heads = s.heads := by unfold State.event; dsimp only; split <;> rfl
@[simp] theorem State.event_lsa (c : Nat) (l : List Nat) : (s.event c l).lsa = s.lsa := by unfold State.event; dsimp only; split <;> rfl
@[simp] theorem State.event_report (c : Nat) (l : List Nat) : (s.event c l).report = s.report := by unfold State.event; dsimp only; split <;> rfl
@[simp] theorem State.event_mr (c : Nat) (l : List Nat) : (s.event c l).mr = s.mr := by unfold State.event; dsimp only; split <;> rfl
@[simp] theorem State.event_alerts (c : Nat) (l : List Nat) : (s.event c l).alerts = s.alerts := by unfold State.event; dsimp only; split <;> rfl
@[simp] theorem State.event_calib (c : Nat) (l : List Nat) : (s.event c l).calib = s.calib := by unfold State.event; dsimp only; split <;> rfl
@[simp] theorem State.event_im (c : Nat) (l : List Nat) : (s.event c l).im = s.im := by unfold State.event; dsimp only; split <;> rfl
@[simp] theorem State.event_sv (c : Nat) (l : List Nat) : (s.event c l).sv = s.sv := by unfold State.event; dsimp only; split <;> rfl
@[simp] theorem State.event_rs (c : Nat) (l : List Nat) : (s.event c l).rs = s.rs := by unfold State.event; dsimp only; split <;> rfl
@[simp] theorem State.event_fc (c : Nat) (l : List Nat) : (s.event c l).fc = s.fc := by unfold State.event; dsimp only; split <;> rfl
@[simp] theorem State.event_tw (c : Nat) (l : List Nat) : (s.event c l).tw = s.tw := by unfold State.event; dsimp only; split <;> rfl
@[simp] theorem State.event_mc (c : Nat) (l : List Nat) : (s.event c l).mc = s.mc := by unfold State.event; dsimp only; split <;> rfl
@[simp] theorem State.event_bayA (c : Nat) (l : List Nat) : (s.event c l).bayA = s.bayA := by unfold State.event; dsimp only; split <;> rfl
@[simp] theorem State.event_bayB (c : Nat) (l : List Nat) : (s.event c l).bayB = s.bayB := by unfold State.event; dsimp only; split <;> rfl
@[simp] theorem State.event_pw (c : Nat) (l : List Nat) : (s.event c l).pw = s.pw := by unfold State.event; dsimp only; split <;> rfl
@[simp] theorem State.event_ck (c : Nat) (l : List Nat) : (s.event c l).ck = s.ck := by unfold State.event; dsimp only; split <;> rfl
@[simp] theorem State.event_twb (c : Nat) (l : List Nat) : (s.event c l).twb = s.twb := by unfold State.event; dsimp only; split <;> rfl
@[simp] theorem State.event_fw (c : Nat) (l : List Nat) : (s.event c l).fw = s.fw := by unfold State.event; dsimp only; split <;> rfl
@[simp] theorem State.event_sec (c : Nat) (l : List Nat) : (s.event c l).sec = s.sec := by unfold State.event; dsimp only; split <;> rfl
@[simp] theorem State.event_pan (c : Nat) (l : List Nat) : (s.event c l).pan = s.pan := by unfold State.event; dsimp only; split <;> rfl
@[simp] theorem State.event_trials (c : Nat) (l : List Nat) : (s.event c l).trials = s.trials := by unfold State.event; dsimp only; split <;> rfl
@[simp] theorem State.event_rdi (c : Nat) (l : List Nat) (g : Field) (j : Nat) : (s.event c l).rdi g j = s.rdi g j := by unfold State.rdi; simp
@[simp] theorem State.event_rd (c : Nat) (l : List Nat) (g : Field) : (s.event c l).rd g = s.rd g := by unfold State.rd; simp

/-! ### State.sbAlert -/

@[simp] theorem State.sbAlert_pending (c : Nat) : (s.sbAlert c).pending = s.pending := by unfold State.sbAlert; split <;> rfl
@[simp] theorem State.sbAlert_mpWait (c : Nat) : (s.sbAlert c).mpWait = s.mpWait := by unfold State.sbAlert; split <;> rfl
@[simp] theorem State.sbAlert_out (c : Nat) : (s.sbAlert c).out = s.out := by unfold State.sbAlert; split <;> rfl
@[simp] theorem State.sbAlert_freeCtr (c : Nat) : (s.sbAlert c).freeCtr = s.freeCtr := by unfold State.sbAlert; split <;> rfl
@[simp] theorem State.sbAlert_drbgCtr (c : Nat) : (s.sbAlert c).drbgCtr = s.drbgCtr := by unfold State.sbAlert; split <;> rfl
@[simp] theorem State.sbAlert_regs (c : Nat) : (s.sbAlert c).regs = s.regs := by unfold State.sbAlert; split <;> rfl
@[simp] theorem State.sbAlert_norVal (c : Nat) : (s.sbAlert c).norVal = s.norVal := by unfold State.sbAlert; split <;> rfl
@[simp] theorem State.sbAlert_norMask (c : Nat) : (s.sbAlert c).norMask = s.norMask := by unfold State.sbAlert; split <;> rfl
@[simp] theorem State.sbAlert_mem (c : Nat) : (s.sbAlert c).mem = s.mem := by unfold State.sbAlert; split <;> rfl
@[simp] theorem State.sbAlert_poisoned (c : Nat) : (s.sbAlert c).poisoned = s.poisoned := by unfold State.sbAlert; split <;> rfl
@[simp] theorem State.sbAlert_poisonList (c : Nat) : (s.sbAlert c).poisonList = s.poisonList := by unfold State.sbAlert; split <;> rfl
@[simp] theorem State.sbAlert_poisonWait (c : Nat) : (s.sbAlert c).poisonWait = s.poisonWait := by unfold State.sbAlert; split <;> rfl
@[simp] theorem State.sbAlert_poisonOvf (c : Nat) : (s.sbAlert c).poisonOvf = s.poisonOvf := by unfold State.sbAlert; split <;> rfl
@[simp] theorem State.sbAlert_dmap (c : Nat) : (s.sbAlert c).dmap = s.dmap := by unfold State.sbAlert; split <;> rfl
@[simp] theorem State.sbAlert_index (c : Nat) : (s.sbAlert c).index = s.index := by unfold State.sbAlert; split <;> rfl
@[simp] theorem State.sbAlert_walks (c : Nat) : (s.sbAlert c).walks = s.walks := by unfold State.sbAlert; split <;> rfl
@[simp] theorem State.sbAlert_queues (c : Nat) : (s.sbAlert c).queues = s.queues := by unfold State.sbAlert; split <;> rfl
@[simp] theorem State.sbAlert_tickets (c : Nat) : (s.sbAlert c).tickets = s.tickets := by unfold State.sbAlert; split <;> rfl
@[simp] theorem State.sbAlert_poolOut (c : Nat) : (s.sbAlert c).poolOut = s.poolOut := by unfold State.sbAlert; split <;> rfl
@[simp] theorem State.sbAlert_turnQ (c : Nat) : (s.sbAlert c).turnQ = s.turnQ := by unfold State.sbAlert; split <;> rfl
@[simp] theorem State.sbAlert_heads (c : Nat) : (s.sbAlert c).heads = s.heads := by unfold State.sbAlert; split <;> rfl
@[simp] theorem State.sbAlert_lsa (c : Nat) : (s.sbAlert c).lsa = s.lsa := by unfold State.sbAlert; split <;> rfl
@[simp] theorem State.sbAlert_report (c : Nat) : (s.sbAlert c).report = s.report := by unfold State.sbAlert; split <;> rfl
@[simp] theorem State.sbAlert_mr (c : Nat) : (s.sbAlert c).mr = s.mr := by unfold State.sbAlert; split <;> rfl
@[simp] theorem State.sbAlert_alerts (c : Nat) : (s.sbAlert c).alerts = s.alerts := by unfold State.sbAlert; split <;> rfl
@[simp] theorem State.sbAlert_calib (c : Nat) : (s.sbAlert c).calib = s.calib := by unfold State.sbAlert; split <;> rfl
@[simp] theorem State.sbAlert_im (c : Nat) : (s.sbAlert c).im = s.im := by unfold State.sbAlert; split <;> rfl
@[simp] theorem State.sbAlert_sv (c : Nat) : (s.sbAlert c).sv = s.sv := by unfold State.sbAlert; split <;> rfl
@[simp] theorem State.sbAlert_rs (c : Nat) : (s.sbAlert c).rs = s.rs := by unfold State.sbAlert; split <;> rfl
@[simp] theorem State.sbAlert_fc (c : Nat) : (s.sbAlert c).fc = s.fc := by unfold State.sbAlert; split <;> rfl
@[simp] theorem State.sbAlert_tw (c : Nat) : (s.sbAlert c).tw = s.tw := by unfold State.sbAlert; split <;> rfl
@[simp] theorem State.sbAlert_mc (c : Nat) : (s.sbAlert c).mc = s.mc := by unfold State.sbAlert; split <;> rfl
@[simp] theorem State.sbAlert_bayA (c : Nat) : (s.sbAlert c).bayA = s.bayA := by unfold State.sbAlert; split <;> rfl
@[simp] theorem State.sbAlert_bayB (c : Nat) : (s.sbAlert c).bayB = s.bayB := by unfold State.sbAlert; split <;> rfl
@[simp] theorem State.sbAlert_pw (c : Nat) : (s.sbAlert c).pw = s.pw := by unfold State.sbAlert; split <;> rfl
@[simp] theorem State.sbAlert_ck (c : Nat) : (s.sbAlert c).ck = s.ck := by unfold State.sbAlert; split <;> rfl
@[simp] theorem State.sbAlert_fw (c : Nat) : (s.sbAlert c).fw = s.fw := by unfold State.sbAlert; split <;> rfl
@[simp] theorem State.sbAlert_sec (c : Nat) : (s.sbAlert c).sec = s.sec := by unfold State.sbAlert; split <;> rfl
@[simp] theorem State.sbAlert_ev (c : Nat) : (s.sbAlert c).ev = s.ev := by unfold State.sbAlert; split <;> rfl
@[simp] theorem State.sbAlert_pan (c : Nat) : (s.sbAlert c).pan = s.pan := by unfold State.sbAlert; split <;> rfl
@[simp] theorem State.sbAlert_trials (c : Nat) : (s.sbAlert c).trials = s.trials := by unfold State.sbAlert; split <;> rfl
@[simp] theorem State.sbAlert_rdi (c : Nat) (g : Field) (j : Nat) : (s.sbAlert c).rdi g j = s.rdi g j := by unfold State.rdi; simp
@[simp] theorem State.sbAlert_rd (c : Nat) (g : Field) : (s.sbAlert c).rd g = s.rd g := by unfold State.rd; simp

/-! ### State.latchAttn -/

@[simp] theorem State.latchAttn_pending (b : Nat) : (s.latchAttn b).pending = s.pending := by unfold State.latchAttn; split <;> rfl
@[simp] theorem State.latchAttn_mpWait (b : Nat) : (s.latchAttn b).mpWait = s.mpWait := by unfold State.latchAttn; split <;> rfl
@[simp] theorem State.latchAttn_out (b : Nat) : (s.latchAttn b).out = s.out := by unfold State.latchAttn; split <;> rfl
@[simp] theorem State.latchAttn_freeCtr (b : Nat) : (s.latchAttn b).freeCtr = s.freeCtr := by unfold State.latchAttn; split <;> rfl
@[simp] theorem State.latchAttn_drbgCtr (b : Nat) : (s.latchAttn b).drbgCtr = s.drbgCtr := by unfold State.latchAttn; split <;> rfl
@[simp] theorem State.latchAttn_regs (b : Nat) : (s.latchAttn b).regs = s.regs := by unfold State.latchAttn; split <;> rfl
@[simp] theorem State.latchAttn_norVal (b : Nat) : (s.latchAttn b).norVal = s.norVal := by unfold State.latchAttn; split <;> rfl
@[simp] theorem State.latchAttn_norMask (b : Nat) : (s.latchAttn b).norMask = s.norMask := by unfold State.latchAttn; split <;> rfl
@[simp] theorem State.latchAttn_mem (b : Nat) : (s.latchAttn b).mem = s.mem := by unfold State.latchAttn; split <;> rfl
@[simp] theorem State.latchAttn_poisoned (b : Nat) : (s.latchAttn b).poisoned = s.poisoned := by unfold State.latchAttn; split <;> rfl
@[simp] theorem State.latchAttn_poisonList (b : Nat) : (s.latchAttn b).poisonList = s.poisonList := by unfold State.latchAttn; split <;> rfl
@[simp] theorem State.latchAttn_poisonWait (b : Nat) : (s.latchAttn b).poisonWait = s.poisonWait := by unfold State.latchAttn; split <;> rfl
@[simp] theorem State.latchAttn_poisonOvf (b : Nat) : (s.latchAttn b).poisonOvf = s.poisonOvf := by unfold State.latchAttn; split <;> rfl
@[simp] theorem State.latchAttn_dmap (b : Nat) : (s.latchAttn b).dmap = s.dmap := by unfold State.latchAttn; split <;> rfl
@[simp] theorem State.latchAttn_index (b : Nat) : (s.latchAttn b).index = s.index := by unfold State.latchAttn; split <;> rfl
@[simp] theorem State.latchAttn_walks (b : Nat) : (s.latchAttn b).walks = s.walks := by unfold State.latchAttn; split <;> rfl
@[simp] theorem State.latchAttn_queues (b : Nat) : (s.latchAttn b).queues = s.queues := by unfold State.latchAttn; split <;> rfl
@[simp] theorem State.latchAttn_tickets (b : Nat) : (s.latchAttn b).tickets = s.tickets := by unfold State.latchAttn; split <;> rfl
@[simp] theorem State.latchAttn_poolOut (b : Nat) : (s.latchAttn b).poolOut = s.poolOut := by unfold State.latchAttn; split <;> rfl
@[simp] theorem State.latchAttn_turnQ (b : Nat) : (s.latchAttn b).turnQ = s.turnQ := by unfold State.latchAttn; split <;> rfl
@[simp] theorem State.latchAttn_heads (b : Nat) : (s.latchAttn b).heads = s.heads := by unfold State.latchAttn; split <;> rfl
@[simp] theorem State.latchAttn_lsa (b : Nat) : (s.latchAttn b).lsa = s.lsa := by unfold State.latchAttn; split <;> rfl
@[simp] theorem State.latchAttn_report (b : Nat) : (s.latchAttn b).report = s.report := by unfold State.latchAttn; split <;> rfl
@[simp] theorem State.latchAttn_mr (b : Nat) : (s.latchAttn b).mr = s.mr := by unfold State.latchAttn; split <;> rfl
@[simp] theorem State.latchAttn_alerts (b : Nat) : (s.latchAttn b).alerts = s.alerts := by unfold State.latchAttn; split <;> rfl
@[simp] theorem State.latchAttn_calib (b : Nat) : (s.latchAttn b).calib = s.calib := by unfold State.latchAttn; split <;> rfl
@[simp] theorem State.latchAttn_im (b : Nat) : (s.latchAttn b).im = s.im := by unfold State.latchAttn; split <;> rfl
@[simp] theorem State.latchAttn_sv (b : Nat) : (s.latchAttn b).sv = s.sv := by unfold State.latchAttn; split <;> rfl
@[simp] theorem State.latchAttn_rs (b : Nat) : (s.latchAttn b).rs = s.rs := by unfold State.latchAttn; split <;> rfl
@[simp] theorem State.latchAttn_fc (b : Nat) : (s.latchAttn b).fc = s.fc := by unfold State.latchAttn; split <;> rfl
@[simp] theorem State.latchAttn_tw (b : Nat) : (s.latchAttn b).tw = s.tw := by unfold State.latchAttn; split <;> rfl
@[simp] theorem State.latchAttn_mc (b : Nat) : (s.latchAttn b).mc = s.mc := by unfold State.latchAttn; split <;> rfl
@[simp] theorem State.latchAttn_bayA (b : Nat) : (s.latchAttn b).bayA = s.bayA := by unfold State.latchAttn; split <;> rfl
@[simp] theorem State.latchAttn_bayB (b : Nat) : (s.latchAttn b).bayB = s.bayB := by unfold State.latchAttn; split <;> rfl
@[simp] theorem State.latchAttn_pw (b : Nat) : (s.latchAttn b).pw = s.pw := by unfold State.latchAttn; split <;> rfl
@[simp] theorem State.latchAttn_ck (b : Nat) : (s.latchAttn b).ck = s.ck := by unfold State.latchAttn; split <;> rfl
@[simp] theorem State.latchAttn_twb (b : Nat) : (s.latchAttn b).twb = s.twb := by unfold State.latchAttn; split <;> rfl
@[simp] theorem State.latchAttn_fw (b : Nat) : (s.latchAttn b).fw = s.fw := by unfold State.latchAttn; split <;> rfl
@[simp] theorem State.latchAttn_sec (b : Nat) : (s.latchAttn b).sec = s.sec := by unfold State.latchAttn; split <;> rfl
@[simp] theorem State.latchAttn_ev (b : Nat) : (s.latchAttn b).ev = s.ev := by unfold State.latchAttn; split <;> rfl
@[simp] theorem State.latchAttn_trials (b : Nat) : (s.latchAttn b).trials = s.trials := by unfold State.latchAttn; split <;> rfl
@[simp] theorem State.latchAttn_rdi (b : Nat) (g : Field) (j : Nat) : (s.latchAttn b).rdi g j = s.rdi g j := by unfold State.rdi; simp
@[simp] theorem State.latchAttn_rd (b : Nat) (g : Field) : (s.latchAttn b).rd g = s.rd g := by unfold State.rd; simp

/-! ### State.msix -/

@[simp] theorem State.msix_pending (k v : Nat) : (s.msix k v).pending = s.pending := by unfold State.msix; dsimp only; split <;> (try split) <;> rfl
@[simp] theorem State.msix_mpWait (k v : Nat) : (s.msix k v).mpWait = s.mpWait := by unfold State.msix; dsimp only; split <;> (try split) <;> rfl
@[simp] theorem State.msix_freeCtr (k v : Nat) : (s.msix k v).freeCtr = s.freeCtr := by unfold State.msix; dsimp only; split <;> (try split) <;> rfl
@[simp] theorem State.msix_drbgCtr (k v : Nat) : (s.msix k v).drbgCtr = s.drbgCtr := by unfold State.msix; dsimp only; split <;> (try split) <;> rfl
@[simp] theorem State.msix_regs (k v : Nat) : (s.msix k v).regs = s.regs := by unfold State.msix; dsimp only; split <;> (try split) <;> rfl
@[simp] theorem State.msix_norVal (k v : Nat) : (s.msix k v).norVal = s.norVal := by unfold State.msix; dsimp only; split <;> (try split) <;> rfl
@[simp] theorem State.msix_norMask (k v : Nat) : (s.msix k v).norMask = s.norMask := by unfold State.msix; dsimp only; split <;> (try split) <;> rfl
@[simp] theorem State.msix_mem (k v : Nat) : (s.msix k v).mem = s.mem := by unfold State.msix; dsimp only; split <;> (try split) <;> rfl
@[simp] theorem State.msix_poisoned (k v : Nat) : (s.msix k v).poisoned = s.poisoned := by unfold State.msix; dsimp only; split <;> (try split) <;> rfl
@[simp] theorem State.msix_poisonList (k v : Nat) : (s.msix k v).poisonList = s.poisonList := by unfold State.msix; dsimp only; split <;> (try split) <;> rfl
@[simp] theorem State.msix_poisonWait (k v : Nat) : (s.msix k v).poisonWait = s.poisonWait := by unfold State.msix; dsimp only; split <;> (try split) <;> rfl
@[simp] theorem State.msix_poisonOvf (k v : Nat) : (s.msix k v).poisonOvf = s.poisonOvf := by unfold State.msix; dsimp only; split <;> (try split) <;> rfl
@[simp] theorem State.msix_dmap (k v : Nat) : (s.msix k v).dmap = s.dmap := by unfold State.msix; dsimp only; split <;> (try split) <;> rfl
@[simp] theorem State.msix_index (k v : Nat) : (s.msix k v).index = s.index := by unfold State.msix; dsimp only; split <;> (try split) <;> rfl
@[simp] theorem State.msix_walks (k v : Nat) : (s.msix k v).walks = s.walks := by unfold State.msix; dsimp only; split <;> (try split) <;> rfl
@[simp] theorem State.msix_queues (k v : Nat) : (s.msix k v).queues = s.queues := by unfold State.msix; dsimp only; split <;> (try split) <;> rfl
@[simp] theorem State.msix_tickets (k v : Nat) : (s.msix k v).tickets = s.tickets := by unfold State.msix; dsimp only; split <;> (try split) <;> rfl
@[simp] theorem State.msix_poolOut (k v : Nat) : (s.msix k v).poolOut = s.poolOut := by unfold State.msix; dsimp only; split <;> (try split) <;> rfl
@[simp] theorem State.msix_turnQ (k v : Nat) : (s.msix k v).turnQ = s.turnQ := by unfold State.msix; dsimp only; split <;> (try split) <;> rfl
@[simp] theorem State.msix_lsa (k v : Nat) : (s.msix k v).lsa = s.lsa := by unfold State.msix; dsimp only; split <;> (try split) <;> rfl
@[simp] theorem State.msix_report (k v : Nat) : (s.msix k v).report = s.report := by unfold State.msix; dsimp only; split <;> (try split) <;> rfl
@[simp] theorem State.msix_mr (k v : Nat) : (s.msix k v).mr = s.mr := by unfold State.msix; dsimp only; split <;> (try split) <;> rfl
@[simp] theorem State.msix_alerts (k v : Nat) : (s.msix k v).alerts = s.alerts := by unfold State.msix; dsimp only; split <;> (try split) <;> rfl
@[simp] theorem State.msix_calib (k v : Nat) : (s.msix k v).calib = s.calib := by unfold State.msix; dsimp only; split <;> (try split) <;> rfl
@[simp] theorem State.msix_im (k v : Nat) : (s.msix k v).im = s.im := by unfold State.msix; dsimp only; split <;> (try split) <;> rfl
@[simp] theorem State.msix_sv (k v : Nat) : (s.msix k v).sv = s.sv := by unfold State.msix; dsimp only; split <;> (try split) <;> rfl
@[simp] theorem State.msix_rs (k v : Nat) : (s.msix k v).rs = s.rs := by unfold State.msix; dsimp only; split <;> (try split) <;> rfl
@[simp] theorem State.msix_fc (k v : Nat) : (s.msix k v).fc = s.fc := by unfold State.msix; dsimp only; split <;> (try split) <;> rfl
@[simp] theorem State.msix_tw (k v : Nat) : (s.msix k v).tw = s.tw := by unfold State.msix; dsimp only; split <;> (try split) <;> rfl
@[simp] theorem State.msix_mc (k v : Nat) : (s.msix k v).mc = s.mc := by unfold State.msix; dsimp only; split <;> (try split) <;> rfl
@[simp] theorem State.msix_bayA (k v : Nat) : (s.msix k v).bayA = s.bayA := by unfold State.msix; dsimp only; split <;> (try split) <;> rfl
@[simp] theorem State.msix_bayB (k v : Nat) : (s.msix k v).bayB = s.bayB := by unfold State.msix; dsimp only; split <;> (try split) <;> rfl
@[simp] theorem State.msix_pw (k v : Nat) : (s.msix k v).pw = s.pw := by unfold State.msix; dsimp only; split <;> (try split) <;> rfl
@[simp] theorem State.msix_ck (k v : Nat) : (s.msix k v).ck = s.ck := by unfold State.msix; dsimp only; split <;> (try split) <;> rfl
@[simp] theorem State.msix_twb (k v : Nat) : (s.msix k v).twb = s.twb := by unfold State.msix; dsimp only; split <;> (try split) <;> rfl
@[simp] theorem State.msix_fw (k v : Nat) : (s.msix k v).fw = s.fw := by unfold State.msix; dsimp only; split <;> (try split) <;> rfl
@[simp] theorem State.msix_sec (k v : Nat) : (s.msix k v).sec = s.sec := by unfold State.msix; dsimp only; split <;> (try split) <;> rfl
@[simp] theorem State.msix_ev (k v : Nat) : (s.msix k v).ev = s.ev := by unfold State.msix; dsimp only; split <;> (try split) <;> rfl
@[simp] theorem State.msix_pan (k v : Nat) : (s.msix k v).pan = s.pan := by unfold State.msix; dsimp only; split <;> (try split) <;> rfl
@[simp] theorem State.msix_trials (k v : Nat) : (s.msix k v).trials = s.trials := by unfold State.msix; dsimp only; split <;> (try split) <;> rfl
@[simp] theorem State.msix_rdi (k v : Nat) (g : Field) (j : Nat) : (s.msix k v).rdi g j = s.rdi g j := by unfold State.rdi; simp
@[simp] theorem State.msix_rd (k v : Nat) (g : Field) : (s.msix k v).rd g = s.rd g := by unfold State.rd; simp

/-! ### State.reply -/

@[simp] theorem State.reply_pending (v : Via) (r : Ret) (w : List Nat) : (s.reply v r w).pending = s.pending := by unfold State.reply; split <;> (try split) <;> rfl
@[simp] theorem State.reply_mpWait (v : Via) (r : Ret) (w : List Nat) : (s.reply v r w).mpWait = s.mpWait := by unfold State.reply; split <;> (try split) <;> rfl
@[simp] theorem State.reply_freeCtr (v : Via) (r : Ret) (w : List Nat) : (s.reply v r w).freeCtr = s.freeCtr := by unfold State.reply; split <;> (try split) <;> rfl
@[simp] theorem State.reply_drbgCtr (v : Via) (r : Ret) (w : List Nat) : (s.reply v r w).drbgCtr = s.drbgCtr := by unfold State.reply; split <;> (try split) <;> rfl
@[simp] theorem State.reply_regs (v : Via) (r : Ret) (w : List Nat) : (s.reply v r w).regs = s.regs := by unfold State.reply; split <;> (try split) <;> rfl
@[simp] theorem State.reply_norVal (v : Via) (r : Ret) (w : List Nat) : (s.reply v r w).norVal = s.norVal := by unfold State.reply; split <;> (try split) <;> rfl
@[simp] theorem State.reply_norMask (v : Via) (r : Ret) (w : List Nat) : (s.reply v r w).norMask = s.norMask := by unfold State.reply; split <;> (try split) <;> rfl
@[simp] theorem State.reply_mem (v : Via) (r : Ret) (w : List Nat) : (s.reply v r w).mem = s.mem := by unfold State.reply; split <;> (try split) <;> rfl
@[simp] theorem State.reply_poisoned (v : Via) (r : Ret) (w : List Nat) : (s.reply v r w).poisoned = s.poisoned := by unfold State.reply; split <;> (try split) <;> rfl
@[simp] theorem State.reply_poisonList (v : Via) (r : Ret) (w : List Nat) : (s.reply v r w).poisonList = s.poisonList := by unfold State.reply; split <;> (try split) <;> rfl
@[simp] theorem State.reply_poisonWait (v : Via) (r : Ret) (w : List Nat) : (s.reply v r w).poisonWait = s.poisonWait := by unfold State.reply; split <;> (try split) <;> rfl
@[simp] theorem State.reply_poisonOvf (v : Via) (r : Ret) (w : List Nat) : (s.reply v r w).poisonOvf = s.poisonOvf := by unfold State.reply; split <;> (try split) <;> rfl
@[simp] theorem State.reply_dmap (v : Via) (r : Ret) (w : List Nat) : (s.reply v r w).dmap = s.dmap := by unfold State.reply; split <;> (try split) <;> rfl
@[simp] theorem State.reply_index (v : Via) (r : Ret) (w : List Nat) : (s.reply v r w).index = s.index := by unfold State.reply; split <;> (try split) <;> rfl
@[simp] theorem State.reply_walks (v : Via) (r : Ret) (w : List Nat) : (s.reply v r w).walks = s.walks := by unfold State.reply; split <;> (try split) <;> rfl
@[simp] theorem State.reply_queues (v : Via) (r : Ret) (w : List Nat) : (s.reply v r w).queues = s.queues := by unfold State.reply; split <;> (try split) <;> rfl
@[simp] theorem State.reply_tickets (v : Via) (r : Ret) (w : List Nat) : (s.reply v r w).tickets = s.tickets := by unfold State.reply; split <;> (try split) <;> rfl
@[simp] theorem State.reply_poolOut (v : Via) (r : Ret) (w : List Nat) : (s.reply v r w).poolOut = s.poolOut := by unfold State.reply; split <;> (try split) <;> rfl
@[simp] theorem State.reply_turnQ (v : Via) (r : Ret) (w : List Nat) : (s.reply v r w).turnQ = s.turnQ := by unfold State.reply; split <;> (try split) <;> rfl
@[simp] theorem State.reply_heads (v : Via) (r : Ret) (w : List Nat) : (s.reply v r w).heads = s.heads := by unfold State.reply; split <;> (try split) <;> rfl
@[simp] theorem State.reply_lsa (v : Via) (r : Ret) (w : List Nat) : (s.reply v r w).lsa = s.lsa := by unfold State.reply; split <;> (try split) <;> rfl
@[simp] theorem State.reply_report (v : Via) (r : Ret) (w : List Nat) : (s.reply v r w).report = s.report := by unfold State.reply; split <;> (try split) <;> rfl
@[simp] theorem State.reply_mr (v : Via) (r : Ret) (w : List Nat) : (s.reply v r w).mr = s.mr := by unfold State.reply; split <;> (try split) <;> rfl
@[simp] theorem State.reply_alerts (v : Via) (r : Ret) (w : List Nat) : (s.reply v r w).alerts = s.alerts := by unfold State.reply; split <;> (try split) <;> rfl
@[simp] theorem State.reply_calib (v : Via) (r : Ret) (w : List Nat) : (s.reply v r w).calib = s.calib := by unfold State.reply; split <;> (try split) <;> rfl
@[simp] theorem State.reply_im (v : Via) (r : Ret) (w : List Nat) : (s.reply v r w).im = s.im := by unfold State.reply; split <;> (try split) <;> rfl
@[simp] theorem State.reply_sv (v : Via) (r : Ret) (w : List Nat) : (s.reply v r w).sv = s.sv := by unfold State.reply; split <;> (try split) <;> rfl
@[simp] theorem State.reply_rs (v : Via) (r : Ret) (w : List Nat) : (s.reply v r w).rs = s.rs := by unfold State.reply; split <;> (try split) <;> rfl
@[simp] theorem State.reply_fc (v : Via) (r : Ret) (w : List Nat) : (s.reply v r w).fc = s.fc := by unfold State.reply; split <;> (try split) <;> rfl
@[simp] theorem State.reply_tw (v : Via) (r : Ret) (w : List Nat) : (s.reply v r w).tw = s.tw := by unfold State.reply; split <;> (try split) <;> rfl
@[simp] theorem State.reply_mc (v : Via) (r : Ret) (w : List Nat) : (s.reply v r w).mc = s.mc := by unfold State.reply; split <;> (try split) <;> rfl
@[simp] theorem State.reply_bayA (v : Via) (r : Ret) (w : List Nat) : (s.reply v r w).bayA = s.bayA := by unfold State.reply; split <;> (try split) <;> rfl
@[simp] theorem State.reply_bayB (v : Via) (r : Ret) (w : List Nat) : (s.reply v r w).bayB = s.bayB := by unfold State.reply; split <;> (try split) <;> rfl
@[simp] theorem State.reply_pw (v : Via) (r : Ret) (w : List Nat) : (s.reply v r w).pw = s.pw := by unfold State.reply; split <;> (try split) <;> rfl
@[simp] theorem State.reply_ck (v : Via) (r : Ret) (w : List Nat) : (s.reply v r w).ck = s.ck := by unfold State.reply; split <;> (try split) <;> rfl
@[simp] theorem State.reply_twb (v : Via) (r : Ret) (w : List Nat) : (s.reply v r w).twb = s.twb := by unfold State.reply; split <;> (try split) <;> rfl
@[simp] theorem State.reply_fw (v : Via) (r : Ret) (w : List Nat) : (s.reply v r w).fw = s.fw := by unfold State.reply; split <;> (try split) <;> rfl
@[simp] theorem State.reply_sec (v : Via) (r : Ret) (w : List Nat) : (s.reply v r w).sec = s.sec := by unfold State.reply; split <;> (try split) <;> rfl
@[simp] theorem State.reply_ev (v : Via) (r : Ret) (w : List Nat) : (s.reply v r w).ev = s.ev := by unfold State.reply; split <;> (try split) <;> rfl
@[simp] theorem State.reply_pan (v : Via) (r : Ret) (w : List Nat) : (s.reply v r w).pan = s.pan := by unfold State.reply; split <;> (try split) <;> rfl
@[simp] theorem State.reply_trials (v : Via) (r : Ret) (w : List Nat) : (s.reply v r w).trials = s.trials := by unfold State.reply; split <;> (try split) <;> rfl
@[simp] theorem State.reply_rdi (v : Via) (r : Ret) (w : List Nat) (g : Field) (j : Nat) : (s.reply v r w).rdi g j = s.rdi g j := by unfold State.rdi; simp
@[simp] theorem State.reply_rd (v : Via) (r : Ret) (w : List Nat) (g : Field) : (s.reply v r w).rd g = s.rd g := by unfold State.rd; simp

/-! ### Values -/

@[simp] theorem State.begin_out : s.begin.out = [] := rfl
@[simp] theorem State.begin_queue (q : Nat) : s.begin.queue q = s.queue q := rfl
@[simp] theorem State.begin_head (k : Nat) : s.begin.head k = s.head k := rfl
@[simp] theorem State.send_queue (m : Msg) (q : Nat) : (s.send m).queue q = s.queue q := rfl
@[simp] theorem State.wri_queue (f : Field) (i v q : Nat) : (s.wri f i v).queue q = s.queue q := rfl
@[simp] theorem State.setHead_queue (k : Nat) (h : Head) (q : Nat) : (s.setHead k h).queue q = s.queue q := rfl
@[simp] theorem State.send_out (m : Msg) : (s.send m).out = s.out ++ [m] := rfl
@[simp] theorem State.setHead_heads (k : Nat) (h : Head) : (s.setHead k h).heads = FMap.put s.heads k h := rfl
@[simp] theorem State.setQueue_queues (q : Nat) (x : Queue) : (s.setQueue q x).queues = FMap.put s.queues q x := rfl
@[simp] theorem State.skipFree_freeCtr : s.skipFree.freeCtr = s.freeCtr + 1 := rfl
@[simp] theorem State.skipDrbg_drbgCtr : s.skipDrbg.drbgCtr = s.drbgCtr + 1 := rfl

/-- A queue after a queue was set. -/
theorem State.setQueue_queue (q : Nat) (x : Queue) (p : Nat) : (s.setQueue q x).queue p = if q = p then x else s.queue p := by
  unfold State.queue
  simp [FMap.get_put]

/-- What a head holds after a head was set. -/
theorem State.setHead_head (k : Nat) (h : Head) (j : Nat) : (s.setHead k h).head j = if k = j then h else s.head j := by
  unfold State.head
  simp [FMap.get_put]

/-- A register field read after one was written. -/
theorem State.wri_rdi (f : Field) (i v : Nat) (g : Field) (j : Nat) :
    (s.wri f i v).rdi g j = if f.key i = g.key j then v % 2 ^ f.width % 2 ^ g.width else s.rdi g j := by
  unfold State.rdi State.wri
  simp only [FMap.get_put]
  split <;> rfl

@[simp] theorem State.wri_rdi_self (f : Field) (i v : Nat) : (s.wri f i v).rdi f i = v % 2 ^ f.width := by
  simp [State.wri_rdi]

@[simp] theorem State.wr_rd_self (f : Field) (v : Nat) : (s.wr f v).rd f = v % 2 ^ f.width := State.wri_rdi_self s f 0 v

theorem State.wri_rdi_ne {f g : Field} {i j : Nat} (v : Nat) (h : f.key i ≠ g.key j) : (s.wri f i v).rdi g j = s.rdi g j := by
  simp [State.wri_rdi, h]

theorem State.wr_rd_ne {f g : Field} (v : Nat) (h : f.key 0 ≠ g.key 0) : (s.wr f v).rd g = s.rd g := State.wri_rdi_ne s v h

/-- A field never reads more than its width holds. -/
theorem State.rdi_lt (f : Field) (i : Nat) : s.rdi f i < 2 ^ f.width := Nat.mod_lt _ (Nat.two_pow_pos _)

/-- R47: over a head's mailbox an answer is one message. -/
@[simp] theorem State.reply_head_out (k : Nat) (r : Ret) (w : List Nat) : (s.reply (.head k) r w).out = s.out ++ [.reply (.head k) r w] := rfl

end Sys2Proof.Machine
end

