-- ==== Sys2Proof/Laws/Tickets.lean ====
section
/-! SUPPORT. What completing a ticket can do (R67, R68, R79, R80, R83): it writes completion entries, moves the queue's own bookkeeping, may signal
a vector, and leaves everything else. -/

namespace Sys2Proof.Machine

/-- What completing tickets of queue q leaves of a queue: all but its unposted and posted entries, its frontiers and its barrier. -/
def Queue.same (x y : Queue) : Prop :=
  x.state = y.state ∧ x.err = y.err ∧ x.head = y.head ∧ x.admin = y.admin ∧ x.depth = y.depth ∧ x.sqBase = y.sqBase ∧ x.cqBase = y.cqBase ∧
    x.vec = y.vec ∧ x.aggc = y.aggc ∧ x.aggt = y.aggt ∧ x.ien = y.ien ∧ x.ldpol = y.ldpol ∧ x.sqTail = y.sqTail ∧ x.sqHead = y.sqHead ∧
    x.cqHead = y.cqHead ∧ x.last = y.last ∧ x.inlTag = y.inlTag ∧ x.held = y.held ∧ x.paused = y.paused ∧ x.wasErr = y.wasErr ∧
    x.submitted = y.submitted ∧ x.saved = y.saved ∧ x.twin = y.twin

theorem Queue.same_refl (x : Queue) : x.same x := by simp [Queue.same]

theorem Queue.same_trans {x y z : Queue} (h : x.same y) (k : y.same z) : x.same z := by
  unfold Queue.same at *
  simp_all

/-- What completing tickets of queue q can do to the state. -/
structure Completing (q : Nat) (s t : State) : Prop where
  frame : ∃ qs ts o hs b, t = { s with queues := qs, tickets := ts, out := s.out ++ o, heads := hs, poolOut := b }
  others : ∀ p, p ≠ q → t.queue p = s.queue p
  same : (t.queue q).same (s.queue q)

theorem Completing.refl (q : Nat) (s : State) : Completing q s s :=
  ⟨⟨s.queues, s.tickets, [], s.heads, s.poolOut, by simp⟩, fun _ _ => rfl, Queue.same_refl _⟩

theorem Completing.trans {q : Nat} {s t u : State} (h : Completing q s t) (k : Completing q t u) : Completing q s u := by
  obtain ⟨qs, ts, o, hs, b, rfl⟩ := h.frame
  obtain ⟨qs', ts', o', hs', b', rfl⟩ := k.frame
  exact ⟨⟨qs', ts', o ++ o', hs', b', by simp⟩, fun p hp => (k.others p hp).trans (h.others p hp), Queue.same_trans k.same h.same⟩

theorem completing_setQueue {q : Nat} {x : Queue} (s : State) (h : x.same (s.queue q)) : Completing q s (s.setQueue q x) :=
  ⟨⟨FMap.put s.queues q x, s.tickets, [], s.heads, s.poolOut, by simp [State.setQueue]⟩,
    fun p hp => by rw [State.setQueue_queue, if_neg (Ne.symm hp)], by rw [State.setQueue_queue, if_pos rfl]; exact h⟩

theorem completing_send (q : Nat) (s : State) (m : Msg) : Completing q s (s.send m) :=
  ⟨⟨s.queues, s.tickets, [m], s.heads, s.poolOut, rfl⟩, fun _ _ => rfl, Queue.same_refl _⟩

theorem completing_msix (q : Nat) (s : State) (k v : Nat) : Completing q s (s.msix k v) := by
  refine ⟨?_, fun p _ => ?_, ?_⟩
  · unfold State.msix
    dsimp only
    split
    · exact ⟨s.queues, s.tickets, [], _, s.poolOut, by simp [State.setHead]; rfl⟩
    · split
      · exact ⟨s.queues, s.tickets, [_], s.heads, s.poolOut, rfl⟩
      · exact ⟨s.queues, s.tickets, [], s.heads, s.poolOut, by simp⟩
  · unfold State.queue
    simp
  · unfold State.queue
    simp [Queue.same_refl]

theorem completing_tickets (q : Nat) (s : State) (l : List Ticket) (b : Bool) : Completing q s { s with tickets := l, poolOut := b } :=
  ⟨⟨s.queues, l, [], s.heads, b, by simp⟩, fun _ _ => rfl, Queue.same_refl _⟩

theorem completing_signalQueue (q : Nat) (s : State) : Completing q s (s.signalQueue q) :=
  (completing_setQueue s (by simp [Queue.same])).trans (completing_msix _ _ _ _)

/-- R67, R79: posting an entry. -/
theorem completing_postEntry (s : State) (t : Ticket) (st rs res ts : Nat) : Completing t.qid s (s.postEntry t st rs res ts) := by
  unfold State.postEntry
  dsimp only
  have h := (completing_setQueue (q := t.qid) s (x := { s.queue t.qid with
      ring := (s.queue t.qid).ring ++ [((s.queue t.qid).cqTail, completionWords (s.queue t.qid) t st rs res ts)]
      cqTail := if ((s.queue t.qid).cqTail + 1 == (s.queue t.qid).depth) then 0 else (s.queue t.qid).cqTail + 1
      phase := if ((s.queue t.qid).cqTail + 1 == (s.queue t.qid).depth) then !(s.queue t.qid).phase else (s.queue t.qid).phase
      unsig := (s.queue t.qid).unsig + 1 }) (by simp [Queue.same])).trans
    (completing_send _ _ (.completion t.qid (s.queue t.qid).cqTail (completionWords (s.queue t.qid) t st rs res ts)))
  split
  · exact h.trans (completing_signalQueue _ _)
  · exact h

theorem settled_same (x : Queue) (k : TKind) (seq st : Nat) : (x.settled k seq st).same x := by
  simp [Queue.settled, Queue.same]

/-- R68, R81: deciding a ticket. -/
theorem completing_decideTicket (s : State) (t : Ticket) (st rs res : Nat) : Completing t.qid s (s.decideTicket t st rs res) := by
  unfold State.decideTicket
  dsimp only
  refine (completing_tickets t.qid s (s.tickets.filter fun a => !(a.qid == t.qid && a.seq == t.seq)) s.poolOut).trans ?_
  refine (completing_setQueue _ (settled_same _ t.kind t.seq st)).trans ?_
  split
  · exact completing_postEntry _ _ _ _ _ _
  · split
    · exact completing_tickets _ _ _ _
    · exact Completing.refl _ _

/-- R80: a FENCE found ready is of the queue asked. -/
theorem readyFence_qid {s : State} {q : Nat} {f : Ticket} (h : s.readyFence q = some f) : f.qid = q := by
  have := List.find?_some h
  simp at this
  exact this.1.1.1

/-- R73, R80: running the FENCEs of a queue. -/
theorem completing_runFences (n : Nat) : ∀ (q : Nat) (s : State), Completing q s (s.runFences q n) := by
  induction n with
  | zero => exact fun q s => Completing.refl q s
  | succ n ih =>
    intro q s
    unfold State.runFences
    split
    · exact Completing.refl q s
    · rename_i f hf
      have e := readyFence_qid hf
      refine Completing.trans ?_ (ih _ _)
      refine (completing_setQueue (x := { s.queue q with
        fails := (s.queue q).fails.filter fun a => !decide (a < f.seq)
        barrier := if (s.queue q).barrier = some f.seq then none else (s.queue q).barrier }) s (by simp [Queue.same])).trans ?_
      have h := completing_decideTicket (s.setQueue q { s.queue q with
        fails := (s.queue q).fails.filter fun a => !decide (a < f.seq)
        barrier := if (s.queue q).barrier = some f.seq then none else (s.queue q).barrier }) f 0 0
          (min ((s.queue q).fails.filter fun a => decide (a < f.seq)).length 0xFFFFFFFF)
      rw [e] at h
      exact h

/-- R78: the check for the end of an episode. -/
theorem completing_poolCheck (q : Nat) (s : State) : Completing q s s.poolCheck := by
  unfold State.poolCheck
  split
  · exact completing_tickets _ _ _ _
  · exact Completing.refl _ _

@[simp] theorem poolCheck_out (s : State) : s.poolCheck.out = s.out := by
  unfold State.poolCheck
  split <;> rfl

/-- R68, R80: a ticket completes. -/
theorem completing_finish (s : State) (t : Ticket) (st rs res : Nat) : Completing t.qid s (s.finish t st rs res) := by
  unfold State.finish
  dsimp only
  exact ((completing_decideTicket s t st rs res).trans (completing_runFences ((s.decideTicket t st rs res).tickets.length + 1) t.qid _)).trans
    (completing_poolCheck _ _)

/-- What completing keeps: every field but those of R67, R79 and R83. -/
theorem Completing.keeps {q : Nat} {s t : State} (h : Completing q s t) :
    t.pending = s.pending ∧ t.mpWait = s.mpWait ∧ t.regs = s.regs ∧ t.mem = s.mem ∧ t.poisoned = s.poisoned ∧ t.dmap = s.dmap ∧
      t.index = s.index ∧ t.walks = s.walks ∧ t.lsa = s.lsa ∧ t.report = s.report ∧ t.im = s.im ∧ t.ck = s.ck ∧ t.trials = s.trials := by
  obtain ⟨qs, ts, o, hs, b, rfl⟩ := h.frame
  simp

/-- R67: the entry a ticket's decision writes, when the queue posts. -/
theorem decideTicket_out (s : State) (t : Ticket) (st rs res : Nat) (h : (s.queue t.qid).posting = true) :
    ∃ o, (s.decideTicket t st rs res).out =
      s.out ++ .completion t.qid (s.queue t.qid).cqTail (completionWords (s.queue t.qid) t st rs res s.ck.ns) :: o := by
  unfold State.decideTicket
  dsimp only
  have e : ∀ x : Queue, x.posting = true → (x.settled t.kind t.seq st).posting = true := by
    intro x hx
    simpa [Queue.settled, Queue.posting] using hx
  have hq : ({ s with tickets := s.tickets.filter fun a => !(a.qid == t.qid && a.seq == t.seq) } : State).queue t.qid = s.queue t.qid := rfl
  rw [hq, if_pos (e _ h)]
  unfold State.postEntry
  dsimp only
  rw [State.setQueue_queue, if_pos rfl]
  have hw : completionWords ((s.queue t.qid).settled t.kind t.seq st) t st rs res s.ck.ns = completionWords (s.queue t.qid) t st rs res s.ck.ns := rfl
  have hc : ((s.queue t.qid).settled t.kind t.seq st).cqTail = (s.queue t.qid).cqTail := rfl
  rw [hw, hc]
  split
  · obtain ⟨qs, ts, o, hs, b, e⟩ := (completing_signalQueue t.qid _).frame
    rw [e]
    exact ⟨o, by simp⟩
  · exact ⟨[], by simp⟩

/-- R67: the entry a completion writes first, when the queue posts. -/
theorem finish_out (s : State) (t : Ticket) (st rs res : Nat) (h : (s.queue t.qid).posting = true) :
    ∃ o, (s.finish t st rs res).out =
      s.out ++ .completion t.qid (s.queue t.qid).cqTail (completionWords (s.queue t.qid) t st rs res s.ck.ns) :: o := by
  obtain ⟨o, ho⟩ := decideTicket_out s t st rs res h
  obtain ⟨qs, ts, o', hs, b, e⟩ := (completing_runFences ((s.decideTicket t st rs res).tickets.length + 1) t.qid (s.decideTicket t st rs res)).frame
  refine ⟨o ++ o', ?_⟩
  unfold State.finish
  dsimp only
  rw [poolCheck_out, e]
  simp [ho]

/-! ### Taking an entry -/

/-- A queue that can take an entry takes it. -/
theorem taking_take {s : State} {q : Nat} (h : Taking s q) (f : State → State) : s.begin.takeEntry q f = f s.begin := by
  obtain ⟨a, b, c, _, _⟩ := h
  have a' : s.begin.canTake q = true := a
  unfold State.takeEntry
  simp [a', b, c]

/-- An I/O queue runs I/O operations. -/
theorem taking_io {s : State} {q : Nat} (h : Taking s q) (tag share level : Nat) (u : Bool) (f : State → State) :
    s.begin.ioEntry q tag share level u f = f s.begin := by
  unfold State.ioEntry
  simp [h.2.2.2.1]

/-- A queue that can take an entry posts. -/
theorem canTake_posting {s : State} {q : Nat} (h : s.canTake q = true) : (s.queue q).posting = true := by
  unfold State.canTake at h
  simp at h
  simp [Queue.posting, h]

/-- The queue after a capture that no fetched descriptor stands beside. -/
theorem newTicket_queue (s : State) (q tag : Nat) (k : TKind) (level share : Nat) (u inl : Bool) (hs : (s.queue q).submitted = none) :
    (s.newTicket q tag k level share u inl).1.queue q =
      { s.queue q with
        last := (s.queue q).last + 1, twin := (s.queue q).twin || (k == .commit && level == 2)
        sqHead := if inl then (s.queue q).sqHead else if (s.queue q).sqHead + 1 = (s.queue q).depth then 0 else (s.queue q).sqHead + 1
        holdF := if k = .commit ∨ k = .admin then ((s.queue q).last + 1) :: (s.queue q).holdF else (s.queue q).holdF
        holdH := if k = .admin then ((s.queue q).last + 1) :: (s.queue q).holdH else (s.queue q).holdH } := by
  have hc : (if inl = true then (s.queue q).submitted else none) = (s.queue q).submitted := by simp [hs]
  simp only [State.newTicket, State.setQueue_queue, if_pos, hc]

/-- R67, R68: a ticket whose fields are those a capture gave, completed from a state whose queue and clock are those the capture left, posts first. -/
theorem posts_finish {s r : State} {t : Ticket} {q tag share level : Nat} {u inl : Bool} {k : TKind} (st rs res : Nat) (h : s.canTake q = true)
    (hs : (s.queue q).submitted = none) (hq : r.queue q = (s.newTicket q tag k level share u inl).1.queue q) (hc : r.ck = s.ck) (ho : r.out = [])
    (h1 : t.qid = q) (h2 : t.seq = (s.queue q).last + 1) (h3 : t.tag = tag) (h4 : t.share = share) (h5 : t.level = level) (h6 : t.inl = inl)
    (h7 : t.sqhd = (r.queue q).sqHead) : Posts s (r.finish t st rs res) q tag share level inl st rs res := by
  subst h1 h3 h4 h5 h6
  have e := newTicket_queue s t.qid t.tag k t.level t.share u t.inl hs
  rw [← hq] at e
  have hp : (r.queue t.qid).posting = true := by
    have := canTake_posting h
    rw [e]
    exact this
  obtain ⟨o, h'⟩ := finish_out r t st rs res hp
  have hf := (completing_finish r t st rs res).same
  simp only [Queue.same] at hf
  refine ⟨⟨o, ?_⟩, ?_⟩
  · rw [h', ho]
    simp only [completionWords, h2, h7, e, hc, List.nil_append]
  · have : ((r.finish t st rs res).queue t.qid).last = (r.queue t.qid).last := by simp_all
    rw [this, e]

/-- Completing leaves memory, the dirty map, the index and every register. -/
theorem Completing.leaves {q : Nat} {s t : State} (h : Completing q s t) : Leaves s t [] := by
  obtain ⟨qs, ts, o, hs, b, rfl⟩ := h.frame
  exact ⟨fun _ => rfl, rfl, rfl, rfl, rfl, rfl, fun _ _ _ => rfl⟩

/-- A capture leaves memory, the dirty map, the index and every register. -/
theorem newTicket_leaves (s : State) (q tag : Nat) (k : TKind) (level share : Nat) (u inl : Bool) :
    Leaves s (s.newTicket q tag k level share u inl).1 [] :=
  ⟨fun _ => rfl, rfl, rfl, rfl, rfl, rfl, fun _ _ _ => rfl⟩

theorem Leaves.trans {s t u : State} {fs : List (Field × Nat)} (h : Leaves s t fs) (k : Leaves t u fs) : Leaves s u fs := by
  obtain ⟨a, b, c, d, e, f, g⟩ := h
  obtain ⟨a', b', c', d', e', f', g'⟩ := k
  exact ⟨fun x => (a' x).trans (a x), b'.trans b, c'.trans c, d'.trans d, e'.trans e, f'.trans f, fun x j hx => (g' x j hx).trans (g x j hx)⟩

/-- A ticket captured beside no fetched descriptor and completed at once posts, and leaves memory, the dirty map, the index and every register. -/
theorem capture_finish {s : State} {q tag share level : Nat} {k : TKind} {u inl : Bool} (st rs res lo hi gen : Nat) (h : s.canTake q = true)
    (hs : (s.queue q).submitted = none) :
    let c := s.begin.newTicket q tag k level share u inl
    Posts s (c.1.finish { c.2 with lo := lo, hi := hi, gen := gen } st rs res) q tag share level inl st rs res ∧
      Leaves s (c.1.finish { c.2 with lo := lo, hi := hi, gen := gen } st rs res) [] := by
  intro c
  have h' : s.begin.canTake q = true := h
  have hs' : (s.begin.queue q).submitted = none := hs
  have e := newTicket_queue s.begin q tag k level share u inl hs'
  refine ⟨?_, ?_⟩
  · have hx : (if inl = true then (share, level, u) else ((s.begin.queue q).submitted.getD (share, level, u))) = (share, level, u) := by simp [hs]
    have h3 : c.2.share = share := congrArg Prod.fst hx
    have h4 : c.2.level = level := congrArg (fun p => p.2.1) hx
    have h5 : c.2.sqhd = (c.1.queue q).sqHead := by
      show _ = ((s.begin.newTicket q tag k level share u inl).1.queue q).sqHead
      rw [e]
      rfl
    exact posts_finish (s := s.begin) (r := c.1) (t := { c.2 with lo := lo, hi := hi, gen := gen }) (q := q) (tag := tag) (share := share)
      (level := level) (u := u) (inl := inl) (k := k) st rs res h' hs' rfl rfl rfl rfl rfl rfl h3 h4 rfl h5
  · exact Leaves.trans (newTicket_leaves s.begin q tag k level share u inl) (completing_finish c.1 _ st rs res).leaves

end Sys2Proof.Machine
end

