-- ==== Sys2Proof/Laws/Keep.lean ====
section
/-! SUPPORT. What an operation of the machine may do to the queue and to memory: Keep (the queue is the same and memory in canonical form stays
so) and Still (the queue, memory, poison, label areas, dirty map and index are the same), with the laws that combine them. The files KeepN.lean
hold one lemma of one of these kinds per operation and per command, in the order in which they call each other. -/

namespace Sys2Proof.Machine
open Sys2Proof

/-- What a command may do to the queue and the byte memories: the queue stays, and memories in canonical form stay so. -/
def Keep (s t : State) : Prop := t.pending = s.pending ∧ (Canonical s → Canonical t)

/-- The queue, the byte memories, the poison map, the dirty map and the index are the same. -/
def Still (s t : State) : Prop :=
  t.pending = s.pending ∧ t.mem = s.mem ∧ t.lsa = s.lsa ∧ t.poisoned = s.poisoned ∧ t.dmap = s.dmap ∧ t.index = s.index

/-- What a command answers keeps the queue and the form of memory. -/
def KeepA (s : State) (a : Answer) : Prop := ∀ t, a = .next t → Keep s t

/-- What a command answers leaves memory, poison, dirty map and index. -/
def StillA (s : State) (a : Answer) : Prop := ∀ t, a = .next t → Still s t

theorem keep_have {p q : Prop} (h : p) (k : p → q) : q := k h

theorem Keep.refl (s : State) : Keep s s := ⟨rfl, id⟩
theorem Keep.trans {s t u : State} (h : Keep s t) (k : Keep t u) : Keep s u := ⟨k.1.trans h.1, fun c => k.2 (h.2 c)⟩
theorem Still.refl (s : State) : Still s s := ⟨rfl, rfl, rfl, rfl, rfl, rfl⟩
theorem Still.trans {s t u : State} (h : Still s t) (k : Still t u) : Still s u := by
  obtain ⟨a, b, c, d, e, f⟩ := h
  obtain ⟨a', b', c', d', e', f'⟩ := k
  exact ⟨a'.trans a, b'.trans b, c'.trans c, d'.trans d, e'.trans e, f'.trans f⟩

theorem keep_with {s t u : State} (h : Keep s t) (hp : u.pending = t.pending) (hm : u.mem = t.mem) (hl : u.lsa = t.lsa) : Keep s u := by
  refine ⟨hp.trans h.1, fun c => ?_⟩
  have := h.2 c
  unfold Canonical at *
  rw [hm, hl]; exact this

theorem Still.keep {s t : State} (h : Still s t) : Keep s t := keep_with (Keep.refl s) h.1 h.2.1 h.2.2.1

theorem keepA_next {s t : State} (h : Keep s t) : KeepA s (.next t) := fun _ e => by cases e; exact h
theorem stillA_next {s t : State} (h : Still s t) : StillA s (.next t) := fun _ e => by cases e; exact h
theorem keepA_trans {s t : State} {a : Answer} (h : Keep s t) (k : KeepA t a) : KeepA s a := fun u e => h.trans (k u e)
theorem stillA_trans {s t : State} {a : Answer} (h : Still s t) (k : StillA t a) : StillA s a := fun u e => h.trans (k u e)
theorem StillA.keep {s : State} {a : Answer} (h : StillA s a) : KeepA s a := fun t e => (h t e).keep

theorem keep_foldl {α : Type} {f : State → α → State} (l : List α) {s t : State} (hf : ∀ a x, Keep a (f a x)) (h : Keep s t) :
    Keep s (l.foldl f t) := by
  induction l generalizing t with
  | nil => exact h
  | cons x l ih => exact ih (h.trans (hf t x))

theorem still_foldl {α : Type} {f : State → α → State} (l : List α) {s t : State} (hf : ∀ a x, Still a (f a x)) (h : Still s t) :
    Still s (l.foldl f t) := by
  induction l generalizing t with
  | nil => exact h
  | cons x l ih => exact ih (h.trans (hf t x))

theorem keep_forEach {f : State → Nat → State} (l : List Nat) {s t : State} (hf : ∀ a x, Keep a (f a x)) (h : Keep s t) :
    Keep s (t.forEach l f) := keep_foldl l hf h

theorem still_forEach {f : State → Nat → State} (l : List Nat) {s t : State} (hf : ∀ a x, Still a (f a x)) (h : Still s t) :
    Still s (t.forEach l f) := still_foldl l hf h

theorem keep_whenB {f : State → State} (c : Bool) {s t : State} (hf : ∀ a, Keep a (f a)) (h : Keep s t) : Keep s (t.whenB c f) := by
  unfold State.whenB; split
  · exact h.trans (hf t)
  · exact h

theorem still_whenB {f : State → State} (c : Bool) {s t : State} (hf : ∀ a, Still a (f a)) (h : Still s t) : Still s (t.whenB c f) := by
  unfold State.whenB; split
  · exact h.trans (hf t)
  · exact h

theorem keep_mk {s t : State} {xmpWait xout xfreeCtr xdrbgCtr xregs xnorVal xnorMask xpoisoned xpoisonList xpoisonWait xpoisonOvf xdmap xindex xwalks xqueues xtickets xpoolOut xturnQ xheads xreport xmr xalerts xcalib xim xsv xrs xfc xtw xmc xbayA xbayB xpw xck xtwb xfw xsec xev xpan xtrials} (h : Keep s t) :
    Keep s (State.mk t.pending xmpWait xout xfreeCtr xdrbgCtr xregs xnorVal xnorMask t.mem xpoisoned xpoisonList xpoisonWait xpoisonOvf xdmap xindex xwalks xqueues xtickets xpoolOut xturnQ xheads t.lsa xreport xmr xalerts xcalib xim xsv xrs xfc xtw xmc xbayA xbayB xpw xck xtwb xfw xsec xev xpan xtrials) := keep_with h rfl rfl rfl

theorem still_mk {s t : State} {xmpWait xout xfreeCtr xdrbgCtr xregs xnorVal xnorMask xpoisonList xpoisonWait xpoisonOvf xwalks xqueues xtickets xpoolOut xturnQ xheads xreport xmr xalerts xcalib xim xsv xrs xfc xtw xmc xbayA xbayB xpw xck xtwb xfw xsec xev xpan xtrials} (h : Still s t) :
    Still s (State.mk t.pending xmpWait xout xfreeCtr xdrbgCtr xregs xnorVal xnorMask t.mem t.poisoned xpoisonList xpoisonWait xpoisonOvf t.dmap t.index xwalks xqueues xtickets xpoolOut xturnQ xheads t.lsa xreport xmr xalerts xcalib xim xsv xrs xfc xtw xmc xbayA xbayB xpw xck xtwb xfw xsec xev xpan xtrials) := h.trans ⟨rfl, rfl, rfl, rfl, rfl, rfl⟩

theorem still_begin (s : State) : Still s s.begin := ⟨rfl, rfl, rfl, rfl, rfl, rfl⟩

theorem keep_act {s t : State} {a : Answer} (h : Keep s t) (k : KeepA t a) : Keep s (t.act a) := by
  unfold State.act; split
  · exact keep_with (h.trans (k _ rfl)) rfl rfl rfl
  · exact h

theorem still_act {s t : State} {a : Answer} (h : Still s t) (k : StillA t a) : Still s (t.act a) := by
  unfold State.act; split
  · exact (h.trans (k _ rfl)).trans ⟨rfl, rfl, rfl, rfl, rfl, rfl⟩
  · exact h

theorem keep_fst {α : Type} {s u : State} {p : State × α} {r : α} (h : Keep s p.1) (e : p = (u, r)) : Keep s u := by rw [e] at h; exact h
theorem still_fst {α : Type} {s u : State} {p : State × α} {r : α} (h : Still s p.1) (e : p = (u, r)) : Still s u := by rw [e] at h; exact h


/-- The state of a pair. -/
abbrev StillP {α : Type} (s : State) (p : State × α) : Prop := Still s p.1

/-- The state of a pair. -/
abbrev KeepP {α : Type} (s : State) (p : State × α) : Prop := Keep s p.1


theorem keep_ite {c : Prop} [Decidable c] {s a b : State} (h : Keep s a) (k : Keep s b) : Keep s (if c then a else b) := by
  split
  · exact h
  · exact k

theorem keepA_ite {c : Prop} [Decidable c] {s : State} {a b : Answer} (h : KeepA s a) (k : KeepA s b) : KeepA s (if c then a else b) := by
  split
  · exact h
  · exact k

theorem keepP_ite {c : Prop} [Decidable c] {α : Type} {s : State} {a b : State × α} (h : KeepP s a) (k : KeepP s b) :
    KeepP s (if c then a else b) := by
  split
  · exact h
  · exact k

theorem still_ite {c : Prop} [Decidable c] {s a b : State} (h : Still s a) (k : Still s b) : Still s (if c then a else b) := by
  split
  · exact h
  · exact k

theorem stillA_ite {c : Prop} [Decidable c] {s : State} {a b : Answer} (h : StillA s a) (k : StillA s b) : StillA s (if c then a else b) := by
  split
  · exact h
  · exact k

theorem stillP_ite {c : Prop} [Decidable c] {α : Type} {s : State} {a b : State × α} (h : StillP s a) (k : StillP s b) :
    StillP s (if c then a else b) := by
  split
  · exact h
  · exact k

theorem keep_mkc {s t : State} {m l : List Host.Cell} {xmpWait xout xfreeCtr xdrbgCtr xregs xnorVal xnorMask xpoisoned xpoisonList xpoisonWait xpoisonOvf xdmap xindex xwalks xqueues xtickets xpoolOut xturnQ xheads xreport xmr xalerts xcalib xim xsv xrs xfc xtw xmc xbayA xbayB xpw xck xtwb xfw xsec xev xpan xtrials} (h : Keep s t) (hc : Canonical t → Memory.wf m ∧ Memory.wf l) :
    Keep s (State.mk t.pending xmpWait xout xfreeCtr xdrbgCtr xregs xnorVal xnorMask m xpoisoned xpoisonList xpoisonWait xpoisonOvf xdmap xindex xwalks xqueues xtickets xpoolOut xturnQ xheads l xreport xmr xalerts xcalib xim xsv xrs xfc xtw xmc xbayA xbayB xpw xck xtwb xfw xsec xev xpan xtrials) := ⟨h.1, fun c => hc (h.2 c)⟩

theorem keepP_mk {α : Type} {s t : State} {a : α} (h : Keep s t) : KeepP s (t, a) := h
theorem stillP_mk {α : Type} {s t : State} {a : α} (h : Still s t) : StillP s (t, a) := h

/-- The answer of a command that may be none. -/
def OptA (s : State) (o : Option Answer) : Prop := ∀ a, o = some a → KeepA s a

theorem optA_some {s : State} {a : Answer} (h : KeepA s a) : OptA s (some a) := fun _ e => by cases e; exact h
theorem optA_none {s : State} : OptA s none := fun _ e => by cases e

end Sys2Proof.Machine
end

