-- ==== Sys2Proof/Laws/Answers.lean ====
section
/-! SUPPORT. Every command answers a next state, command by command. -/

namespace Sys2Proof.Machine

/-- A command answers a next state. -/
def Nexts (a : Answer) : Prop := ∃ t, a = .next t

theorem nexts_next (t : State) : Nexts (.next t) := ⟨t, rfl⟩

theorem nexts_ite {c : Prop} [Decidable c] {a b : Answer} (h : Nexts a) (k : Nexts b) : Nexts (if c then a else b) := by
  split
  · exact h
  · exact k

theorem next_execClockCheckRetry (ref : Bool) (s : State) : Nexts (execClockCheckRetry ref s) := by
  unfold execClockCheckRetry
  extract_lets
  refine nexts_ite ?_ ?_
  · exact nexts_next _
  · refine nexts_ite ?_ ?_
    · refine nexts_ite ?_ ?_
      · exact nexts_next _
      · exact nexts_next _
    · refine nexts_ite ?_ ?_
      · exact nexts_next _
      · exact nexts_next _

theorem next_execBoscStartCheckPass (lfo : Int) (s : State) : Nexts (execBoscStartCheckPass lfo s) := by
  unfold execBoscStartCheckPass
  extract_lets
  refine nexts_ite ?_ ?_
  · exact nexts_next _
  · exact nexts_next _

theorem next_execBoscMonitorTrip (test : Nat) (s : State) : Nexts (execBoscMonitorTrip test s) := by
  unfold execBoscMonitorTrip
  extract_lets
  refine nexts_ite ?_ ?_
  · exact nexts_next _
  · exact nexts_next _

theorem next_execRefclkMonitorTrip (test : Nat) (s : State) : Nexts (execRefclkMonitorTrip test s) := by
  unfold execRefclkMonitorTrip
  extract_lets
  refine nexts_ite ?_ ?_
  · exact nexts_next _
  · refine nexts_ite ?_ ?_
    · exact nexts_next _
    · exact nexts_next _

theorem next_execRefclkReturn (s : State) : Nexts (execRefclkReturn s) := by
  unfold execRefclkReturn
  extract_lets
  refine nexts_ite ?_ ?_
  · exact nexts_next _
  · refine nexts_ite ?_ ?_
    · exact nexts_next _
    · exact nexts_next _

theorem next_execBoscReturn (s : State) : Nexts (execBoscReturn s) := by
  unfold execBoscReturn
  extract_lets
  refine nexts_ite ?_ ?_
  · exact nexts_next _
  · exact nexts_next _

theorem next_execPllLockLoss (p : Nat) (s : State) : Nexts (execPllLockLoss p s) := by
  unfold execPllLockLoss
  extract_lets
  refine nexts_ite ?_ ?_
  · exact nexts_next _
  · refine nexts_ite ?_ ?_
    · exact nexts_next _
    · exact nexts_next _

theorem next_execLfoMonitorTrip (s : State) : Nexts (execLfoMonitorTrip s) := by
  unfold execLfoMonitorTrip
  extract_lets
  refine nexts_ite ?_ ?_
  · exact nexts_next _
  · exact nexts_next _

theorem next_execAoscMonitorTrip (s : State) : Nexts (execAoscMonitorTrip s) := by
  unfold execAoscMonitorTrip
  extract_lets
  refine nexts_ite ?_ ?_
  · exact nexts_next _
  · exact nexts_next _

theorem next_execPtpSync (off : Int) (freq : Int) (logInt : Int) (ticks : Nat) (s : State) : Nexts (execPtpSync off freq logInt ticks s) := by
  unfold execPtpSync
  extract_lets
  refine nexts_ite ?_ ?_
  · exact nexts_next _
  · refine nexts_ite ?_ ?_
    · exact nexts_next _
    · exact nexts_next _

theorem next_execPtpAnnounce (id : Nat) (rank : Nat) (utcOff : Nat) (s : State) : Nexts (execPtpAnnounce id rank utcOff s) := by
  unfold execPtpAnnounce
  extract_lets
  refine nexts_ite ?_ ?_
  · exact nexts_next _
  · refine nexts_ite ?_ ?_
    · exact nexts_next _
    · exact nexts_next _

theorem next_execAnnounceTimeout (s : State) : Nexts (execAnnounceTimeout s) := by
  unfold execAnnounceTimeout
  extract_lets
  refine nexts_ite ?_ ?_
  · exact nexts_next _
  · exact nexts_next _

theorem next_execPtmRequest (enabled : Bool) (freq : Int) (s : State) : Nexts (execPtmRequest enabled freq s) := by
  unfold execPtmRequest
  extract_lets
  refine nexts_ite ?_ ?_
  · exact nexts_next _
  · refine nexts_ite ?_ ?_
    · exact nexts_next _
    · refine nexts_ite ?_ ?_
      · exact nexts_next _
      · exact nexts_next _

theorem next_execCompatibilityTrim (spread : Nat) (change : Int) (period : Nat) (s : State) : Nexts (execCompatibilityTrim spread change
    period s) := by
  unfold execCompatibilityTrim
  extract_lets
  refine nexts_ite ?_ ?_
  · refine nexts_ite ?_ ?_
    · exact nexts_next _
    · exact nexts_next _
  · exact nexts_next _

theorem next_execLfoTrim (trim : Int) (s : State) : Nexts (execLfoTrim trim s) := by
  unfold execLfoTrim
  extract_lets
  refine nexts_ite ?_ ?_
  · exact nexts_next _
  · exact nexts_next _

theorem next_execCkSetWrite (utc : Nat) (s : State) : Nexts (execCkSetWrite utc s) := by
  unfold execCkSetWrite
  extract_lets
  refine nexts_ite ?_ ?_
  · exact nexts_next _
  · exact nexts_next _

theorem next_execCkTimeRead (s : State) : Nexts (execCkTimeRead s) := by
  unfold execCkTimeRead
  extract_lets
  refine nexts_ite ?_ ?_
  · exact nexts_next _
  · exact nexts_next _

theorem next_execCkPtpWrite (val : Nat) (s : State) : Nexts (execCkPtpWrite val s) := by
  unfold execCkPtpWrite
  extract_lets
  refine nexts_ite ?_ ?_
  · exact nexts_next _
  · exact nexts_next _

theorem next_execCkCmonWrite (val : Nat) (s : State) : Nexts (execCkCmonWrite val s) := by
  unfold execCkCmonWrite
  extract_lets
  refine nexts_ite ?_ ?_
  · exact nexts_next _
  · exact nexts_next _

theorem next_execPpsPulse (s : State) : Nexts (execPpsPulse s) := by
  unfold execPpsPulse
  extract_lets
  refine nexts_ite ?_ ?_
  · exact nexts_next _
  · exact nexts_next _

theorem next_execAlarmFired (ticks : Nat) (s : State) : Nexts (execAlarmFired ticks s) := by
  unfold execAlarmFired
  extract_lets
  refine nexts_ite ?_ ?_
  · refine nexts_ite ?_ ?_
    · exact nexts_next _
    · exact nexts_next _
  · refine nexts_ite ?_ ?_
    · exact nexts_next _
    · refine nexts_ite ?_ ?_
      · exact nexts_next _
      · refine nexts_ite ?_ ?_
        · exact nexts_next _
        · exact nexts_next _

theorem next_execGetTimeStatus (v : Via) (s : State) : Nexts (execGetTimeStatus v s) := nexts_next _

theorem next_execGetTimestamp (v : Via) (s : State) : Nexts (execGetTimestamp v s) := nexts_next _

theorem next_execSetTimestamp (v : Via) (utc : Nat) (s : State) : Nexts (execSetTimestamp v utc s) := nexts_next _

theorem next_execOperatingSecondsWrite (s : State) : Nexts (execOperatingSecondsWrite s) := by
  unfold execOperatingSecondsWrite
  extract_lets
  refine nexts_ite ?_ ?_
  · exact nexts_next _
  · exact nexts_next _

theorem next_execScanMediaComplete (h : Nat) (found : List Nat) (s : State) : Nexts (execScanMediaComplete h found s) := by
  unfold execScanMediaComplete
  extract_lets
  split
  · extract_lets
    exact nexts_next _
  · exact nexts_next _

theorem next_execMsixVectorUnmask (h : Nat) (vec : Option Nat) (s : State) : Nexts (execMsixVectorUnmask h vec s) := by
  unfold execMsixVectorUnmask
  extract_lets
  split
  · extract_lets
    exact nexts_next _
  · exact nexts_next _

theorem next_execMgtEthLinkChange (up : Bool) (s : State) : Nexts (execMgtEthLinkChange up s) := by
  unfold execMgtEthLinkChange
  extract_lets
  refine nexts_ite ?_ ?_
  · exact nexts_next _
  · exact nexts_next _

theorem next_execSpdmDoeMessage (h : Nat) (m : DoeMsg) (s : State) : Nexts (execSpdmDoeMessage h m s) := by
  unfold execSpdmDoeMessage
  extract_lets
  refine nexts_ite ?_ ?_
  · exact nexts_next _
  · refine nexts_ite ?_ ?_
    · exact nexts_next _
    · split
      · exact nexts_next _
      · extract_lets
        exact nexts_next _

theorem next_execHdmDecoderCommit (h : Nat) (i : Nat) (base : Nat) (size : Nat) (ways : Nat) (gran : Nat) (dpa : Nat) (lock : Bool) (s :
    State) : Nexts (execHdmDecoderCommit h i base size ways gran dpa lock s) := by
  unfold execHdmDecoderCommit
  extract_lets
  refine nexts_ite ?_ ?_
  · exact nexts_next _
  · exact nexts_next _

theorem next_execNorOperationComplete (s : State) : Nexts (execNorOperationComplete s) := by
  unfold execNorOperationComplete
  extract_lets
  refine nexts_ite ?_ ?_
  · exact nexts_next _
  · refine nexts_ite ?_ ?_
    · exact nexts_next _
    · refine nexts_ite ?_ ?_
      · exact nexts_next _
      · exact nexts_next _

theorem next_execTestComplete (n : Nat) (passed : Bool) (faults : Nat) (causes : List (Nat × Nat)) (s : State) : Nexts (execTestComplete n
    passed faults causes s) := by
  unfold execTestComplete
  extract_lets
  split
  · exact nexts_next _
  · refine nexts_ite ?_ ?_
    · exact nexts_next _
    · extract_lets
      exact nexts_next _

theorem next_execCopyEngineScanEnd (s : State) : Nexts (execCopyEngineScanEnd s) := by
  unfold execCopyEngineScanEnd
  extract_lets
  split
  · exact nexts_next _
  · refine nexts_ite ?_ ?_
    · exact nexts_next _
    · extract_lets
      exact nexts_next _

theorem next_execEvLselWrite (val : Nat) (s : State) : Nexts (execEvLselWrite val s) := by
  unfold execEvLselWrite
  extract_lets
  exact nexts_next _

theorem next_execFwCtlRecreq (val : Nat) (s : State) : Nexts (execFwCtlRecreq val s) := by
  unfold execFwCtlRecreq
  extract_lets
  exact nexts_next _

theorem next_execMrMarksWrite (val : Nat) (s : State) : Nexts (execMrMarksWrite val s) := by
  unfold execMrMarksWrite
  extract_lets
  refine nexts_ite ?_ ?_
  · exact nexts_next _
  · exact nexts_next _

theorem next_execQueActlWrite (h : Nat) (val : Nat) (s : State) : Nexts (execQueActlWrite h val s) := by
  unfold execQueActlWrite
  extract_lets
  refine nexts_ite ?_ ?_
  · exact nexts_next _
  · refine nexts_ite ?_ ?_
    · exact nexts_next _
    · refine nexts_ite ?_ ?_
      · refine nexts_ite ?_ ?_
        · exact nexts_next _
        · exact nexts_next _
      · refine nexts_ite ?_ ?_
        · exact nexts_next _
        · exact nexts_next _

theorem next_execHpCtlRetrain (h : Nat) (val : Nat) (s : State) : Nexts (execHpCtlRetrain h val s) := by
  unfold execHpCtlRetrain
  extract_lets
  refine nexts_ite ?_ ?_
  · exact nexts_next _
  · refine nexts_ite ?_ ?_
    · exact nexts_next _
    · exact nexts_next _

theorem next_execGenRstWrite (sb : Bool) (val : Nat) (ticks : Nat) (s : State) : Nexts (execGenRstWrite sb val ticks s) := by
  unfold execGenRstWrite
  extract_lets
  refine nexts_ite ?_ ?_
  · exact nexts_next _
  · exact nexts_next _

theorem next_execInlCmdWrite (h : Nat) (q : Nat) (tag : Option Nat) (val : Nat) (s : State) : Nexts (execInlCmdWrite h q tag val s) :=
    nexts_next _

theorem next_execInlTagWrite (h : Nat) (q : Nat) (val : Nat) (s : State) : Nexts (execInlTagWrite h q val s) := nexts_next _

theorem next_execCqHeadWrite (h : Nat) (q : Nat) (val : Nat) (s : State) : Nexts (execCqHeadWrite h q val s) := nexts_next _

theorem next_execSqTailWrite (h : Nat) (q : Nat) (val : Nat) (s : State) : Nexts (execSqTailWrite h q val s) := nexts_next _

theorem next_execRegisterWrite (h : Nat) (bar : Nat) (off : Nat) (size : Nat) (val : Nat) (s : State) : Nexts (execRegisterWrite h bar off
    size val s) := by
  unfold execRegisterWrite
  extract_lets
  refine nexts_ite ?_ ?_
  · exact nexts_next _
  · refine nexts_ite ?_ ?_
    · refine nexts_ite ?_ ?_
      · exact next_execSqTailWrite _ _ _ _
      · refine nexts_ite ?_ ?_
        · exact next_execCqHeadWrite _ _ _ _
        · refine nexts_ite ?_ ?_
          · exact next_execInlTagWrite _ _ _ _
          · refine nexts_ite ?_ ?_
            · exact next_execInlCmdWrite _ _ _ _ _
            · refine nexts_ite ?_ ?_
              · exact next_execInlCmdWrite _ _ _ _ _
              · exact nexts_next _
    · refine nexts_ite ?_ ?_
      · exact nexts_next _
      · refine nexts_ite ?_ ?_
        · exact nexts_next _
        · exact nexts_next _

theorem next_execEvS0Read (s : State) : Nexts (execEvS0Read s) := by
  unfold execEvS0Read
  dsimp only
  repeat' (first | exact nexts_next _ | refine nexts_ite ?_ ?_ | split)

theorem next_execReadRegisters (v : Via) (off : Nat) (count : Nat) (s : State) : Nexts (execReadRegisters v off count s) := nexts_next _

theorem next_execSetBootConfiguration (v : Via) (off : Nat) (val : Nat) (mask : Nat) (factory : Bool) (s : State) : Nexts
    (execSetBootConfiguration v off val mask factory s) := nexts_next _

theorem next_execGetBootConfiguration (v : Via) (off : Nat) (s : State) : Nexts (execGetBootConfiguration v off s) := nexts_next _

theorem next_execGetReadiness (v : Via) (s : State) : Nexts (execGetReadiness v s) := nexts_next _

theorem next_execSetLocate (v : Via) (on : Bool) (s : State) : Nexts (execSetLocate v on s) := nexts_next _

theorem next_execModuleSeated (s : State) : Nexts (execModuleSeated s) := by
  unfold execModuleSeated
  extract_lets
  refine nexts_ite ?_ ?_
  · exact nexts_next _
  · exact nexts_next _

theorem next_execModuleUnseated (s : State) : Nexts (execModuleUnseated s) := by
  unfold execModuleUnseated
  extract_lets
  refine nexts_ite ?_ ?_
  · exact nexts_next _
  · exact nexts_next _

theorem next_execRemovalTimeout (s : State) : Nexts (execRemovalTimeout s) := by
  unfold execRemovalTimeout
  extract_lets
  refine nexts_ite ?_ ?_
  · exact nexts_next _
  · exact nexts_next _

theorem next_execRemovalSafe (s : State) : Nexts (execRemovalSafe s) := by
  unfold execRemovalSafe
  extract_lets
  refine nexts_ite ?_ ?_
  · exact nexts_next _
  · exact nexts_next _

theorem next_execRemovalCancel (v : Via) (s : State) : Nexts (execRemovalCancel v s) := nexts_next _

theorem next_execRequestRemoval (v : Via) (s : State) : Nexts (execRequestRemoval v s) := nexts_next _

theorem next_execTouchMeasure (count : Nat) (s : State) : Nexts (execTouchMeasure count s) := by
  unfold execTouchMeasure
  extract_lets
  refine nexts_ite ?_ ?_
  · exact nexts_next _
  · split
    · exact nexts_next _
    · refine nexts_ite ?_ ?_
      · exact nexts_next _
      · extract_lets
        exact nexts_next _

theorem next_execButtonHold3s (s : State) : Nexts (execButtonHold3s s) := by
  unfold execButtonHold3s
  extract_lets
  refine nexts_ite ?_ ?_
  · exact nexts_next _
  · exact nexts_next _

theorem next_execButtonPressRelease (ms : Nat) (s : State) : Nexts (execButtonPressRelease ms s) := by
  unfold execButtonPressRelease
  extract_lets
  refine nexts_ite ?_ ?_
  · exact nexts_next _
  · refine nexts_ite ?_ ?_
    · exact nexts_next _
    · exact nexts_next _

theorem next_execGetEventEntries (v : Via) (first : Nat) (count : Nat) (s : State) : Nexts (execGetEventEntries v first count s) := nexts_next _

theorem next_execGetEventSummary (v : Via) (code : Nat) (s : State) : Nexts (execGetEventSummary v code s) := nexts_next _

theorem next_execGetEventLayout (v : Via) (code : Nat) (s : State) : Nexts (execGetEventLayout v code s) := nexts_next _

theorem next_execLogEntryFetchComplete (s : State) : Nexts (execLogEntryFetchComplete s) := by
  unfold execLogEntryFetchComplete
  extract_lets
  refine nexts_ite ?_ ?_
  · exact nexts_next _
  · refine nexts_ite ?_ ?_
    · exact nexts_next _
    · split
      · exact nexts_next _
      · refine nexts_ite ?_ ?_
        · exact nexts_next _
        · exact nexts_next _

theorem next_execDeviceLimitEpisodeEnd (s : State) : Nexts (execDeviceLimitEpisodeEnd s) := by
  unfold execDeviceLimitEpisodeEnd
  extract_lets
  split
  · exact nexts_next _
  · refine nexts_ite ?_ ?_
    · exact nexts_next _
    · exact nexts_next _

theorem next_execRecorderCheckpoint (s : State) : Nexts (execRecorderCheckpoint s) := by
  unfold execRecorderCheckpoint
  extract_lets
  refine nexts_ite ?_ ?_
  · exact nexts_next _
  · exact nexts_next _

theorem next_execOccurrenceProcess (s : State) : Nexts (execOccurrenceProcess s) := by
  unfold execOccurrenceProcess
  extract_lets
  split
  · exact nexts_next _
  · refine nexts_ite ?_ ?_
    · exact nexts_next _
    · exact nexts_next _

theorem next_execDrbgReseed (s : State) : Nexts (execDrbgReseed s) := by
  unfold execDrbgReseed
  extract_lets
  refine nexts_ite ?_ ?_
  · exact nexts_next _
  · exact nexts_next _

theorem next_execDrbgRetry (ok : Bool) (s : State) : Nexts (execDrbgRetry ok s) := by
  unfold execDrbgRetry
  extract_lets
  refine nexts_ite ?_ ?_
  · exact nexts_next _
  · exact nexts_next _

theorem next_execDrbgHealthFailure (test : Nat) (s : State) : Nexts (execDrbgHealthFailure test s) := by
  unfold execDrbgHealthFailure
  extract_lets
  refine nexts_ite ?_ ?_
  · exact nexts_next _
  · exact nexts_next _

theorem next_execClearOwner (v : Via) (k : Token) (s : State) : Nexts (execClearOwner v k s) := nexts_next _

theorem next_execReplaceOwner (v : Via) (k : Token) (s : State) : Nexts (execReplaceOwner v k s) := nexts_next _

theorem next_execTokenSanitize (v : Via) (k : Token) (s : State) : Nexts (execTokenSanitize v k s) := nexts_next _

theorem next_execUnlockDebug (v : Via) (k : Token) (s : State) : Nexts (execUnlockDebug v k s) := nexts_next _

theorem next_execDiscardImage (v : Via) (k : Token) (s : State) : Nexts (execDiscardImage v k s) := nexts_next _

theorem next_execClearRecorder (v : Via) (k : Token) (s : State) : Nexts (execClearRecorder v k s) := nexts_next _

theorem next_execGetSecurityStatus (v : Via) (s : State) : Nexts (execGetSecurityStatus v s) := nexts_next _

theorem next_execEnrolOwner (v : Via) (key : Nat) (s : State) : Nexts (execEnrolOwner v key s) := nexts_next _

theorem next_execNonceExpiry (s : State) : Nexts (execNonceExpiry s) := by
  unfold execNonceExpiry
  extract_lets
  split
  · refine nexts_ite ?_ ?_
    · exact nexts_next _
    · exact nexts_next _
  · exact nexts_next _

theorem next_execSecNonceRead (h : Nat) (s : State) : Nexts (execSecNonceRead h s) := by
  unfold execSecNonceRead
  extract_lets
  refine nexts_ite ?_ ?_
  · exact nexts_next _
  · exact nexts_next _

theorem next_execGetNonce (v : Via) (s : State) : Nexts (execGetNonce v s) := nexts_next _

theorem next_execClearKeyShare (v : Via) (slot : Nat) (s : State) : Nexts (execClearKeyShare v slot s) := nexts_next _

theorem next_execLoadKeyShare (v : Via) (slot : Nat) (key : Nat) (s : State) : Nexts (execLoadKeyShare v slot key s) := nexts_next _

theorem next_execRecoveryImageReceived (xport : Nat) (hdr : FwHeader) (s : State) : Nexts (execRecoveryImageReceived xport hdr s) := by
  unfold execRecoveryImageReceived
  extract_lets
  refine nexts_ite ?_ ?_
  · exact nexts_next _
  · exact nexts_next _

theorem next_execTftpRetransmit (s : State) : Nexts (execTftpRetransmit s) := by
  unfold execTftpRetransmit
  extract_lets
  refine nexts_ite ?_ ?_
  · exact nexts_next _
  · refine nexts_ite ?_ ?_
    · exact nexts_next _
    · exact nexts_next _

theorem next_execTftpBlock (n : Nat) (len : Nat) (hdr : FwHeader) (s : State) : Nexts (execTftpBlock n len hdr s) := by
  unfold execTftpBlock
  extract_lets
  refine nexts_ite ?_ ?_
  · exact nexts_next _
  · refine nexts_ite ?_ ?_
    · exact nexts_next _
    · exact nexts_next _

theorem next_execConfirmFirmware (v : Via) (s : State) : Nexts (execConfirmFirmware v s) := nexts_next _

theorem next_execRequestRecovery (v : Via) (s : State) : Nexts (execRequestRecovery v s) := nexts_next _

theorem next_execGetBootStatus (v : Via) (s : State) : Nexts (execGetBootStatus v s) := nexts_next _

theorem next_execAlarmWarningReceived (i : Nat) (s : State) : Nexts (execAlarmWarningReceived i s) := by
  unfold execAlarmWarningReceived
  extract_lets
  refine nexts_ite ?_ ?_
  · exact nexts_next _
  · exact nexts_next _

theorem next_execBusRecoveryRetry (i : Nat) (pulses : Option Nat) (s : State) : Nexts (execBusRecoveryRetry i pulses s) := by
  unfold execBusRecoveryRetry
  extract_lets
  refine nexts_ite ?_ ?_
  · exact nexts_next _
  · split
    · exact nexts_next _
    · refine nexts_ite ?_ ?_
      · exact nexts_next _
      · exact nexts_next _

theorem next_execSdaStuck (i : Nat) (s : State) : Nexts (execSdaStuck i s) := by
  unfold execSdaStuck
  extract_lets
  refine nexts_ite ?_ ?_
  · exact nexts_next _
  · exact nexts_next _

theorem next_execNackRetry (i : Nat) (target : Nat) (s : State) : Nexts (execNackRetry i target s) := by
  unfold execNackRetry
  extract_lets
  refine nexts_ite ?_ ?_
  · exact nexts_next _
  · refine nexts_ite ?_ ?_
    · exact nexts_next _
    · exact nexts_next _

theorem next_execArbitrationBackoffExpiry (i : Nat) (s : State) : Nexts (execArbitrationBackoffExpiry i s) := by
  unfold execArbitrationBackoffExpiry
  extract_lets
  refine nexts_ite ?_ ?_
  · exact nexts_next _
  · split
    · exact nexts_next _
    · refine nexts_ite ?_ ?_
      · exact nexts_next _
      · refine nexts_ite ?_ ?_
        · exact nexts_next _
        · exact nexts_next _

theorem next_execArbitrationLoss (i : Nat) (target : Nat) (stop : Bool) (s : State) : Nexts (execArbitrationLoss i target stop s) := by
  unfold execArbitrationLoss
  extract_lets
  refine nexts_ite ?_ ?_
  · exact nexts_next _
  · refine nexts_ite ?_ ?_
    · exact nexts_next _
    · refine nexts_ite ?_ ?_
      · exact nexts_next _
      · refine nexts_ite ?_ ?_
        · exact nexts_next _
        · exact nexts_next _

theorem next_execControllerTimeout (i : Nat) (target : Nat) (sdaLow : Bool) (s : State) : Nexts (execControllerTimeout i target sdaLow s) := by
  unfold execControllerTimeout
  extract_lets
  refine nexts_ite ?_ ?_
  · exact nexts_next _
  · exact nexts_next _

theorem next_execSbTargetTimeout (cmd : Nat) (s : State) : Nexts (execSbTargetTimeout cmd s) := by
  unfold execSbTargetTimeout
  extract_lets
  refine nexts_ite ?_ ?_
  · exact nexts_next _
  · exact nexts_next _

theorem next_execSbRepeatedStart (s : State) : Nexts (execSbRepeatedStart s) := by
  unfold execSbRepeatedStart
  extract_lets
  refine nexts_ite ?_ ?_
  · exact nexts_next _
  · exact nexts_next _

theorem next_execAlertResponse (lost : Bool) (s : State) : Nexts (execAlertResponse lost s) := by
  unfold execAlertResponse
  extract_lets
  refine nexts_ite ?_ ?_
  · exact nexts_next _
  · exact nexts_next _

theorem next_execGetMessageTypeSupport (s : State) : Nexts (execGetMessageTypeSupport s) := by
  unfold execGetMessageTypeSupport
  extract_lets
  refine nexts_ite ?_ ?_
  · exact nexts_next _
  · exact nexts_next _

theorem next_execGetMctpVersionSupport (ty : Nat) (s : State) : Nexts (execGetMctpVersionSupport ty s) := by
  unfold execGetMctpVersionSupport
  extract_lets
  refine nexts_ite ?_ ?_
  · exact nexts_next _
  · refine nexts_ite ?_ ?_
    · exact nexts_next _
    · exact nexts_next _

theorem next_execGetEndpointUuid (s : State) : Nexts (execGetEndpointUuid s) := by
  unfold execGetEndpointUuid
  extract_lets
  refine nexts_ite ?_ ?_
  · exact nexts_next _
  · exact nexts_next _

theorem next_execGetEndpointId (s : State) : Nexts (execGetEndpointId s) := by
  unfold execGetEndpointId
  extract_lets
  refine nexts_ite ?_ ?_
  · exact nexts_next _
  · exact nexts_next _

theorem next_execSetEndpointId (eid : Nat) (s : State) : Nexts (execSetEndpointId eid s) := by
  unfold execSetEndpointId
  extract_lets
  refine nexts_ite ?_ ?_
  · exact nexts_next _
  · refine nexts_ite ?_ ?_
    · exact nexts_next _
    · exact nexts_next _

theorem next_runToken (s : State) (v : Via) (w : Nat → Nat) : Nexts (State.runToken s v w) := by
  unfold State.runToken
  extract_lets
  exact nexts_next _

theorem next_execReadRails (v : Via) (s : State) : Nexts (execReadRails v s) := nexts_next _

theorem next_execGetSnapshot (v : Via) (idx : Nat) (s : State) : Nexts (execGetSnapshot v idx s) := nexts_next _

theorem next_execGetPackProfile (v : Via) (sel : Nat) (s : State) : Nexts (execGetPackProfile v sel s) := nexts_next _

theorem next_execGetMemoryErrors (v : Via) (c : Nat) (s : State) : Nexts (execGetMemoryErrors v c s) := nexts_next _

theorem next_execSpareRank (v : Via) (c : Nat) (r : Nat) (s : State) : Nexts (execSpareRank v c r s) := nexts_next _

theorem next_execTranslateAddress (v : Via) (dpa : Nat) (s : State) : Nexts (execTranslateAddress v dpa s) := nexts_next _

theorem next_execGetTwineStatus (v : Via) (s : State) : Nexts (execGetTwineStatus v s) := nexts_next _

theorem next_execResumeShare (v : Via) (share : Nat) (full : Bool) (s : State) : Nexts (execResumeShare v share full s) := nexts_next _

theorem next_execDesignateReplica (v : Via) (share : Nat) (base : Nat) (size : Nat) (s : State) : Nexts (execDesignateReplica v share base
    size s) := nexts_next _

theorem next_execGetReskeinStatus (v : Via) (s : State) : Nexts (execGetReskeinStatus v s) := nexts_next _

theorem next_execRetireTarget (v : Via) (t : Nat) (s : State) : Nexts (execRetireTarget v t s) := nexts_next _

theorem next_execFlashDiagnosticRead (v : Via) (t : Nat) (b : Nat) (page : Nat) (mode : Nat) (off : Int) (flips : List Nat) (s : State) :
    Nexts (execFlashDiagnosticRead v t b page mode off flips s) := nexts_next _

theorem next_execGetFlashTarget (v : Via) (t : Nat) (s : State) : Nexts (execGetFlashTarget v t s) := nexts_next _

theorem next_execGetHeadCounters (v : Via) (s : State) : Nexts (execGetHeadCounters v s) := nexts_next _

theorem next_execHeadRetrain (v : Via) (h : Nat) (rate : Nat) (s : State) : Nexts (execHeadRetrain v h rate s) := nexts_next _

theorem next_execResetDevice (v : Via) (s : State) : Nexts (execResetDevice v s) := nexts_next _

theorem next_execSecureErase (v : Via) (s : State) : Nexts (execSecureErase v s) := nexts_next _

theorem next_execSanitize (v : Via) (s : State) : Nexts (execSanitize v s) := nexts_next _

theorem next_execGetScanMediaResults (v : Via) (s : State) : Nexts (execGetScanMediaResults v s) := nexts_next _

theorem next_execScanMedia (v : Via) (dpa : Nat) (len : Nat) (s : State) : Nexts (execScanMedia v dpa len s) := nexts_next _

theorem next_execGetScanMediaCapabilities (v : Via) (dpa : Nat) (len : Nat) (s : State) : Nexts (execGetScanMediaCapabilities v dpa len s)
    := nexts_next _

theorem next_execClearPoison (v : Via) (dpa : Nat) (data : BitVec 512) (s : State) : Nexts (execClearPoison v dpa data s) := nexts_next _

theorem next_execInjectPoison (v : Via) (dpa : Nat) (s : State) : Nexts (execInjectPoison v dpa s) := nexts_next _

theorem next_execGetPoisonList (v : Via) (dpa : Nat) (len : Nat) (max : Nat) (s : State) : Nexts (execGetPoisonList v dpa len max s) :=
    nexts_next _

theorem next_execSetShutdownState (v : Via) (dirty : Bool) (s : State) : Nexts (execSetShutdownState v dirty s) := nexts_next _

theorem next_execGetShutdownState (v : Via) (s : State) : Nexts (execGetShutdownState v s) := nexts_next _

theorem next_execSetAlertConfiguration (v : Via) (life : Nat) (tempHigh : Nat) (tempLow : Nat) (s : State) : Nexts
    (execSetAlertConfiguration v life tempHigh tempLow s) := nexts_next _

theorem next_execGetAlertConfiguration (v : Via) (s : State) : Nexts (execGetAlertConfiguration v s) := nexts_next _

theorem next_execGetHealthInfo (v : Via) (s : State) : Nexts (execGetHealthInfo v s) := nexts_next _

theorem next_execSetLsa (v : Via) (off : Nat) (data : List Byte) (s : State) : Nexts (execSetLsa v off data s) := nexts_next _

theorem next_execGetLsa (v : Via) (off : Nat) (len : Nat) (s : State) : Nexts (execGetLsa v off len s) := nexts_next _

theorem next_execSetPartitionInfo (v : Via) (s : State) : Nexts (execSetPartitionInfo v s) := nexts_next _

theorem next_execGetPartitionInfo (v : Via) (s : State) : Nexts (execGetPartitionInfo v s) := nexts_next _

theorem next_execIdentifyMemoryDevice (v : Via) (s : State) : Nexts (execIdentifyMemoryDevice v s) := nexts_next _

theorem next_execGetLog (v : Via) (uuid : Nat) (off : Nat) (len : Nat) (s : State) : Nexts (execGetLog v uuid off len s) := nexts_next _

theorem next_execGetSupportedLogs (v : Via) (s : State) : Nexts (execGetSupportedLogs v s) := nexts_next _

theorem next_execActivateFw (v : Via) (online : Bool) (slot : Nat) (s : State) : Nexts (execActivateFw v online slot s) := nexts_next _

theorem next_execTransferFw (v : Via) (action : Nat) (slot : Nat) (off : Nat) (len : Nat) (hdr : FwHeader) (s : State) : Nexts
    (execTransferFw v action slot off len hdr s) := nexts_next _

theorem next_execGetFwInfo (v : Via) (s : State) : Nexts (execGetFwInfo v s) := nexts_next _

theorem next_execSetEventInterruptPolicy (v : Via) (settings : List Nat) (s : State) : Nexts (execSetEventInterruptPolicy v settings s) :=
    nexts_next _

theorem next_execGetEventInterruptPolicy (v : Via) (s : State) : Nexts (execGetEventInterruptPolicy v s) := nexts_next _

theorem next_execClearEventRecords (v : Via) (log : Nat) (all : Bool) (handles : List Nat) (s : State) : Nexts (execClearEventRecords v log
    all handles s) := nexts_next _

theorem next_execGetEventRecords (v : Via) (log : Nat) (max : Nat) (s : State) : Nexts (execGetEventRecords v log max s) := nexts_next _

theorem next_execMctpPacket (dst : Nat) (src : Nat) (seq : Nat) (tag : Nat) (som : Bool) (eom : Bool) (pec : Bool) (body : List Byte) (s :
    State) : Nexts (execMctpPacket dst src seq tag som eom pec body s) := by
  unfold execMctpPacket
  dsimp only
  repeat' (first | exact nexts_next _ | refine nexts_ite ?_ ?_ | split)

theorem next_execSbReadStatus (s : State) : Nexts (execSbReadStatus s) := by
  unfold execSbReadStatus
  extract_lets
  refine nexts_ite ?_ ?_
  · exact nexts_next _
  · exact nexts_next _

theorem next_execSbRegWrite (off : Nat) (val : Nat) (pec : Nat) (stop : Bool) (s : State) : Nexts (execSbRegWrite off val pec stop s) := by
  unfold execSbRegWrite
  extract_lets
  refine nexts_ite ?_ ?_
  · exact nexts_next _
  · refine nexts_ite ?_ ?_
    · exact nexts_next _
    · refine nexts_ite ?_ ?_
      · exact nexts_next _
      · refine nexts_ite ?_ ?_
        · exact nexts_next _
        · exact nexts_next _

theorem next_execSbRegRead (late : Bool) (s : State) : Nexts (execSbRegRead late s) := by
  unfold execSbRegRead
  extract_lets
  refine nexts_ite ?_ ?_
  · exact nexts_next _
  · refine nexts_ite ?_ ?_
    · exact nexts_next _
    · split
      refine nexts_ite ?_ ?_
      · exact nexts_next _
      · exact nexts_next _

theorem next_execSbSetPointer (off : Nat) (pec : Nat) (s : State) : Nexts (execSbSetPointer off pec s) := by
  unfold execSbSetPointer
  extract_lets
  refine nexts_ite ?_ ?_
  · exact nexts_next _
  · refine nexts_ite ?_ ?_
    · exact nexts_next _
    · refine nexts_ite ?_ ?_
      · exact nexts_next _
      · exact nexts_next _

theorem next_execReferenceAge7Days (bay : Nat) (s : State) : Nexts (execReferenceAge7Days bay s) := by
  unfold execReferenceAge7Days
  extract_lets
  refine nexts_ite ?_ ?_
  · exact nexts_next _
  · exact nexts_next _

theorem next_execInhibitClear (bay : Nat) (s : State) : Nexts (execInhibitClear bay s) := by
  unfold execInhibitClear
  extract_lets
  refine nexts_ite ?_ ?_
  · exact nexts_next _
  · exact nexts_next _

theorem next_execTestDischargeEnd (bay : Nat) (dv : Nat) (di : Nat) (s : State) : Nexts (execTestDischargeEnd bay dv di s) := by
  unfold execTestDischargeEnd
  extract_lets
  refine nexts_ite ?_ ?_
  · exact nexts_next _
  · exact nexts_next _

theorem next_execPauseAbort (bay : Nat) (s : State) : Nexts (execPauseAbort bay s) := by
  unfold execPauseAbort
  extract_lets
  refine nexts_ite ?_ ?_
  · exact nexts_next _
  · exact nexts_next _

theorem next_execPauseComplete (bay : Nat) (volt : Nat) (s : State) : Nexts (execPauseComplete bay volt s) := by
  unfold execPauseComplete
  extract_lets
  refine nexts_ite ?_ ?_
  · exact nexts_next _
  · refine nexts_ite ?_ ?_
    · exact nexts_next _
    · refine nexts_ite ?_ ?_
      · split
        refine nexts_ite ?_ ?_
        · extract_lets
          exact nexts_next _
        · exact nexts_next _
      · exact nexts_next _

theorem next_execPauseAttempt (bay : Nat) (s : State) : Nexts (execPauseAttempt bay s) := by
  unfold execPauseAttempt
  extract_lets
  refine nexts_ite ?_ ?_
  · exact nexts_next _
  · exact nexts_next _

theorem next_execFloatDrop (bay : Nat) (s : State) : Nexts (execFloatDrop bay s) := by
  unfold execFloatDrop
  extract_lets
  refine nexts_ite ?_ ?_
  · exact nexts_next _
  · exact nexts_next _

theorem next_execChargeComplete (bay : Nat) (s : State) : Nexts (execChargeComplete bay s) := by
  unfold execChargeComplete
  extract_lets
  refine nexts_ite ?_ ?_
  · exact nexts_next _
  · exact nexts_next _

theorem next_execPrechargeTimeout (bay : Nat) (s : State) : Nexts (execPrechargeTimeout bay s) := by
  unfold execPrechargeTimeout
  extract_lets
  refine nexts_ite ?_ ?_
  · exact nexts_next _
  · exact nexts_next _

theorem next_execPrechargeComplete (bay : Nat) (volt : Nat) (s : State) : Nexts (execPrechargeComplete bay volt s) := by
  unfold execPrechargeComplete
  extract_lets
  refine nexts_ite ?_ ?_
  · exact nexts_next _
  · exact nexts_next _

theorem next_execSbsPoll (bay : Nat) (ans : Option SbsData) (s : State) : Nexts (execSbsPoll bay ans s) := by
  unfold execSbsPoll
  extract_lets
  refine nexts_ite ?_ ?_
  · exact nexts_next _
  · split
    · extract_lets
      exact nexts_next _
    · split
      refine nexts_ite ?_ ?_
      · extract_lets
        exact nexts_next _
      · exact nexts_next _

theorem next_execEstimatorUpdate (a : BaySense) (b : BaySense) (s : State) : Nexts (execEstimatorUpdate a b s) := by
  unfold execEstimatorUpdate
  extract_lets
  refine nexts_ite ?_ ?_
  · exact nexts_next _
  · refine nexts_ite ?_ ?_
    · exact nexts_next _
    · exact nexts_next _

theorem next_execPackRemoved (bay : Nat) (ticks : Nat) (s : State) : Nexts (execPackRemoved bay ticks s) := by
  unfold execPackRemoved
  extract_lets
  refine nexts_ite ?_ ?_
  · exact nexts_next _
  · refine nexts_ite ?_ ?_
    · exact nexts_next _
    · refine nexts_ite ?_ ?_
      · exact nexts_next _
      · exact nexts_next _

theorem next_execIdentTimeout (bay : Nat) (s : State) : Nexts (execIdentTimeout bay s) := by
  unfold execIdentTimeout
  extract_lets
  refine nexts_ite ?_ ?_
  · exact nexts_next _
  · exact nexts_next _

theorem next_execPackIdentified (bay : Nat) (id : PackId) (volt : Nat) (s : State) : Nexts (execPackIdentified bay id volt s) := by
  unfold execPackIdentified
  extract_lets
  refine nexts_ite ?_ ?_
  · exact nexts_next _
  · split
    · exact nexts_next _
    · exact nexts_next _

theorem next_execPackPresentDebounce (bay : Nat) (ticks : Nat) (s : State) : Nexts (execPackPresentDebounce bay ticks s) := by
  unfold execPackPresentDebounce
  extract_lets
  refine nexts_ite ?_ ?_
  · exact nexts_next _
  · refine nexts_ite ?_ ?_
    · exact nexts_next _
    · exact nexts_next _

theorem next_execTwinMapSwap (s : State) : Nexts (execTwinMapSwap s) := by
  unfold execTwinMapSwap
  extract_lets
  refine nexts_ite ?_ ?_
  · exact nexts_next _
  · exact nexts_next _

theorem next_execCatchupEnd (p : Nat) (seq : Nat) (share : Nat) (s : State) : Nexts (execCatchupEnd p seq share s) := nexts_next _

theorem next_execCatchupBegin (p : Nat) (seq : Nat) (share : Nat) (full : Bool) (s : State) : Nexts (execCatchupBegin p seq share full s)
    := nexts_next _

theorem next_execUnpair (p : Nat) (seq : Nat) (share : Nat) (s : State) : Nexts (execUnpair p seq share s) := nexts_next _

theorem next_execJoin (p : Nat) (seq : Nat) (share : Nat) (s : State) : Nexts (execJoin p seq share s) := nexts_next _

theorem next_execDesignateResp (pairid : Nat) (status : Nat) (s : State) : Nexts (execDesignateResp pairid status s) := by
  unfold execDesignateResp
  extract_lets
  split
  · exact nexts_next _
  · split
    · exact nexts_next _
    · exact nexts_next _

theorem next_execDesignate (share : Nat) (peer : Nat) (pairid : Nat) (base : Nat) (size : Nat) (s : State) : Nexts (execDesignate share
    peer pairid base size s) := by
  unfold execDesignate
  extract_lets
  exact nexts_next _

theorem next_execSaving (p : Nat) (s : State) : Nexts (execSaving p s) := by
  unfold execSaving
  extract_lets
  refine nexts_ite ?_ ?_
  · exact nexts_next _
  · exact nexts_next _

theorem next_execReleaseMessage (p : Nat) (seq : Nat) (share : Nat) (units : Nat) (first : Nat) (s : State) : Nexts (execReleaseMessage p
    seq share units first s) := by
  unfold execReleaseMessage
  extract_lets
  refine nexts_ite ?_ ?_
  · exact nexts_next _
  · refine nexts_ite ?_ ?_
    · exact nexts_next _
    · refine nexts_ite ?_ ?_
      · exact nexts_next _
      · exact nexts_next _

theorem next_execReplicaWrite (p : Nat) (share : Nat) (off : Nat) (lines : List (BitVec 512 × Bool)) (s : State) : Nexts (execReplicaWrite
    p share off lines s) := by
  unfold execReplicaWrite
  extract_lets
  refine nexts_ite ?_ ?_
  · exact nexts_next _
  · refine nexts_ite ?_ ?_
    · exact nexts_next _
    · exact nexts_next _

theorem next_execAck (a0 : Nat) (session : Nat) (s : State) : Nexts (execAck a0 session s) := by
  unfold execAck
  extract_lets
  refine nexts_ite ?_ ?_
  · exact nexts_next _
  · exact nexts_next _

theorem next_execMark (p : Nat) (seq : Nat) (s : State) : Nexts (execMark p seq s) := by
  unfold execMark
  extract_lets
  refine nexts_ite ?_ ?_
  · exact nexts_next _
  · exact nexts_next _

theorem next_execMarkInterval (n0 : Nat) (n1 : Nat) (s : State) : Nexts (execMarkInterval n0 n1 s) := by
  unfold execMarkInterval
  extract_lets
  refine nexts_ite ?_ ?_
  · exact nexts_next _
  · exact nexts_next _

theorem next_execLinkJoin (p : Nat) (seq : Nat) (s : State) : Nexts (execLinkJoin p seq s) := by
  unfold execLinkJoin
  extract_lets
  refine nexts_ite ?_ ?_
  · exact nexts_next _
  · exact nexts_next _

theorem next_execState (share : Nat) (partner : Nat) (role : Nat) (pstate : Nat) (lossrep : Bool) (last : Bool) (incons : Bool) (pairid :
    Nat) (s : State) : Nexts (execState share partner role pstate lossrep last incons pairid s) := by
  unfold execState
  extract_lets
  exact nexts_next _

theorem next_execSession (p : Nat) (n : Nat) (confirm : Bool) (s : State) : Nexts (execSession p n confirm s) := by
  unfold execSession
  extract_lets
  exact nexts_next _

theorem next_execHello (p : Nat) (serial : Nat) (seen : Nat) (s : State) : Nexts (execHello p serial seen s) := by
  unfold execHello
  extract_lets
  refine nexts_ite ?_ ?_
  · exact nexts_next _
  · refine nexts_ite ?_ ?_
    · exact nexts_next _
    · refine nexts_ite ?_ ?_
      · exact nexts_next _
      · exact nexts_next _

theorem next_execHelloInterval (s : State) : Nexts (execHelloInterval s) := nexts_next _

theorem next_execLossTimeout (s : State) : Nexts (execLossTimeout s) := by
  unfold execLossTimeout
  extract_lets
  refine nexts_ite ?_ ?_
  · exact nexts_next _
  · exact nexts_next _

theorem next_execTwineIdeFail (p : Nat) (s : State) : Nexts (execTwineIdeFail p s) := by
  unfold execTwineIdeFail
  extract_lets
  refine nexts_ite ?_ ?_
  · exact nexts_next _
  · exact nexts_next _

theorem next_execTwineLinkDown (p : Nat) (s : State) : Nexts (execTwineLinkDown p s) := by
  unfold execTwineLinkDown
  extract_lets
  refine nexts_ite ?_ ?_
  · exact nexts_next _
  · exact nexts_next _

theorem next_execTwineIdeActive (p : Nat) (serial : Nat) (s : State) : Nexts (execTwineIdeActive p serial s) := by
  unfold execTwineIdeActive
  extract_lets
  refine nexts_ite ?_ ?_
  · refine nexts_ite ?_ ?_
    · exact nexts_next _
    · exact nexts_next _
  · exact nexts_next _

theorem next_execTwineLinkUp (p : Nat) (width : Nat) (rate : Nat) (flit : Bool) (s : State) : Nexts (execTwineLinkUp p width rate flit s) := by
  unfold execTwineLinkUp
  extract_lets
  refine nexts_ite ?_ ?_
  · exact nexts_next _
  · refine nexts_ite ?_ ?_
    · exact nexts_next _
    · exact nexts_next _

theorem next_execReskeinCheckpointWrite (s : State) : Nexts (execReskeinCheckpointWrite s) := by
  unfold execReskeinCheckpointWrite
  extract_lets
  refine nexts_ite ?_ ?_
  · exact nexts_next _
  · exact nexts_next _

theorem next_execReskeinRelocateEnd (s : State) : Nexts (execReskeinRelocateEnd s) := by
  unfold execReskeinRelocateEnd
  extract_lets
  split
  · exact nexts_next _
  · refine nexts_ite ?_ ?_
    · exact nexts_next _
    · exact nexts_next _

theorem next_execReskeinStart (s : State) : Nexts (execReskeinStart s) := by
  unfold execReskeinStart
  extract_lets
  split
  · exact nexts_next _
  · refine nexts_ite ?_ ?_
    · extract_lets
      exact nexts_next _
    · exact nexts_next _

theorem next_execReadCalibration (t : Nat) (bin : Nat) (counts : List Nat) (s : State) : Nexts (execReadCalibration t bin counts s) := by
  unfold execReadCalibration
  extract_lets
  refine nexts_ite ?_ ?_
  · refine nexts_ite ?_ ?_
    · exact nexts_next _
    · exact nexts_next _
  · exact nexts_next _

theorem next_execEraseResume (t : Nat) (s : State) : Nexts (execEraseResume t s) := by
  unfold execEraseResume
  extract_lets
  split
  · extract_lets
    refine nexts_ite ?_ ?_
    · exact nexts_next _
    · exact nexts_next _
  · exact nexts_next _

theorem next_execSealVerify (b : Nat) (flips : List Nat) (s : State) : Nexts (execSealVerify b flips s) := by
  unfold execSealVerify
  extract_lets
  refine nexts_ite ?_ ?_
  · refine nexts_ite ?_ ?_
    · exact nexts_next _
    · refine nexts_ite ?_ ?_
      · exact nexts_next _
      · exact nexts_next _
  · exact nexts_next _

theorem next_execBlockEraseComplete (b : Nat) (ok : Bool) (zeros : List Nat) (s : State) : Nexts (execBlockEraseComplete b ok zeros s) := by
  unfold execBlockEraseComplete
  extract_lets
  refine nexts_ite ?_ ?_
  · exact nexts_next _
  · split
    · exact nexts_next _
    · refine nexts_ite ?_ ?_
      · refine nexts_ite ?_ ?_
        · extract_lets
          exact nexts_next _
        · exact nexts_next _
      · exact nexts_next _

theorem next_execStrandProgramFail (gen : Nat) (strand : Nat) (s : State) : Nexts (execStrandProgramFail gen strand s) := by
  unfold execStrandProgramFail
  extract_lets
  split
  · refine nexts_ite ?_ ?_
    · exact nexts_next _
    · exact nexts_next _
  · exact nexts_next _

theorem next_execCommandTimeout (t : Nat) (op : Nat) (b : Nat) (gen : Nat) (resetDone : Bool) (s : State) : Nexts (execCommandTimeout t op
    b gen resetDone s) := by
  unfold execCommandTimeout
  extract_lets
  refine nexts_ite ?_ ?_
  · exact nexts_next _
  · refine nexts_ite ?_ ?_
    · exact nexts_next _
    · exact nexts_next _

theorem next_execZqCalibration (a0 : Nat) (s : State) : Nexts (execZqCalibration a0 s) := nexts_next _

theorem next_execFlashTrainingComplete (c : Nat) (rate : Option Nat) (dies : List (Nat × Nat × Nat × Nat)) (failed : List Nat) (found :
    List (Nat × Nat × Nat × Nat)) (s : State) : Nexts (execFlashTrainingComplete c rate dies failed found s) := by
  unfold execFlashTrainingComplete
  extract_lets
  refine nexts_ite ?_ ?_
  · exact nexts_next _
  · refine nexts_ite ?_ ?_
    · exact nexts_next _
    · split
      · exact nexts_next _
      · extract_lets
        exact nexts_next _

theorem next_execModuleTemperaturePoll (temps : List (Option Int)) (s : State) : Nexts (execModuleTemperaturePoll temps s) := by
  unfold execModuleTemperaturePoll
  extract_lets
  refine nexts_ite ?_ ?_
  · exact nexts_next _
  · exact nexts_next _

theorem next_execSparePointerCheckpoint (ptr : Nat) (s : State) : Nexts (execSparePointerCheckpoint ptr s) := by
  unfold execSparePointerCheckpoint
  extract_lets
  refine nexts_ite ?_ ?_
  · exact nexts_next _
  · exact nexts_next _

theorem next_execRankSpareCopyEnd (s : State) : Nexts (execRankSpareCopyEnd s) := by
  unfold execRankSpareCopyEnd
  extract_lets
  refine nexts_ite ?_ ?_
  · exact nexts_next _
  · exact nexts_next _

theorem next_execHealComplete (u : Nat) (flips : List Nat) (others : List Nat) (bad : Bool) (s : State) : Nexts (execHealComplete u flips
    others bad s) := by
  unfold execHealComplete
  extract_lets
  refine nexts_ite ?_ ?_
  · exact nexts_next _
  · refine nexts_ite ?_ ?_
    · exact nexts_next _
    · split
      · exact nexts_next _
      · split
        refine nexts_ite ?_ ?_
        · exact nexts_next _
        · exact nexts_next _

theorem next_execPatrolScrub (found : List (Nat × LineError)) (reserve : List (Nat × ReserveError)) (s : State) : Nexts (execPatrolScrub
    found reserve s) := by
  unfold execPatrolScrub
  extract_lets
  refine nexts_ite ?_ ?_
  · exact nexts_next _
  · exact nexts_next _

theorem next_execMemoryLinkError (c : Nat) (cause : Nat) (tries : Nat) (retrained : Bool) (s : State) : Nexts (execMemoryLinkError c cause
    tries retrained s) := by
  unfold execMemoryLinkError
  extract_lets
  refine nexts_ite ?_ ?_
  · exact nexts_next _
  · refine nexts_ite ?_ ?_
    · exact nexts_next _
    · refine nexts_ite ?_ ?_
      · exact nexts_next _
      · refine nexts_ite ?_ ?_
        · exact nexts_next _
        · exact nexts_next _

theorem next_execMemoryTrainingComplete (rate : Option Nat) (cap : Nat) (ranks : Nat) (good : List Nat) (s : State) : Nexts
    (execMemoryTrainingComplete rate cap ranks good s) := by
  unfold execMemoryTrainingComplete
  extract_lets
  refine nexts_ite ?_ ?_
  · exact nexts_next _
  · split
    · exact nexts_next _
    · extract_lets
      exact nexts_next _

theorem next_execDemandFetchComplete (u : Nat) (flips : List Nat) (others : List Nat) (bad : Bool) (us : Nat) (s : State) : Nexts
    (execDemandFetchComplete u flips others bad us s) := by
  unfold execDemandFetchComplete
  extract_lets
  split
  · exact nexts_next _
  · refine nexts_ite ?_ ?_
    · exact nexts_next _
    · refine nexts_ite ?_ ?_
      · exact nexts_next _
      · split
        · exact nexts_next _
        · refine nexts_ite ?_ ?_
          · extract_lets
            refine nexts_ite ?_ ?_
            · exact nexts_next _
            · exact nexts_next _
          · split
            refine nexts_ite ?_ ?_
            · exact nexts_next _
            · extract_lets
              refine nexts_ite ?_ ?_
              · exact nexts_next _
              · exact nexts_next _

theorem next_execEagerReadComplete (gen : Nat) (strand : Nat) (reads : List (List Nat)) (others : List Nat) (bad : List Nat) (s : State) :
    Nexts (execEagerReadComplete gen strand reads others bad s) := by
  unfold execEagerReadComplete
  extract_lets
  split
  · exact nexts_next _
  · refine nexts_ite ?_ ?_
    · split
      split
      exact nexts_next _
    · exact nexts_next _

theorem next_execPreparationComplete (bad : List Nat) (lost : List (Nat × Nat)) (s : State) : Nexts (execPreparationComplete bad lost s) := by
  unfold execPreparationComplete
  extract_lets
  refine nexts_ite ?_ ?_
  · exact nexts_next _
  · exact nexts_next _

theorem next_execAdmissionEvaluate (s : State) : Nexts (execAdmissionEvaluate s) := by
  unfold execAdmissionEvaluate
  extract_lets
  refine nexts_ite ?_ ?_
  · exact nexts_next _
  · refine nexts_ite ?_ ?_
    · split
      · exact nexts_next _
      · exact nexts_next _
    · refine nexts_ite ?_ ?_
      · exact nexts_next _
      · exact nexts_next _

theorem next_execFirstAdmissionComplete (flips : List (List Nat)) (s : State) : Nexts (execFirstAdmissionComplete flips s) := by
  unfold execFirstAdmissionComplete
  extract_lets
  refine nexts_ite ?_ ?_
  · exact nexts_next _
  · split
    · exact nexts_next _
    · split
      refine nexts_ite ?_ ?_
      · exact nexts_next _
      · extract_lets
        exact nexts_next _

theorem next_execAnchorReadback (flips : List (List Nat)) (s : State) : Nexts (execAnchorReadback flips s) := by
  unfold execAnchorReadback
  extract_lets
  split
  · exact nexts_next _
  · split
    refine nexts_ite ?_ ?_
    · refine nexts_ite ?_ ?_
      · exact nexts_next _
      · exact nexts_next _
    · refine nexts_ite ?_ ?_
      · exact nexts_next _
      · exact nexts_next _

theorem next_execIndexSegmentCommit (s : State) : Nexts (execIndexSegmentCommit s) := by
  unfold execIndexSegmentCommit
  extract_lets
  split
  · exact nexts_next _
  · refine nexts_ite ?_ ?_
    · exact nexts_next _
    · extract_lets
      refine nexts_ite ?_ ?_
      · exact nexts_next _
      · exact nexts_next _

theorem next_execRecordSkeinCommit (gen : Nat) (s : State) : Nexts (execRecordSkeinCommit gen s) := by
  unfold execRecordSkeinCommit
  extract_lets
  split
  · refine nexts_ite ?_ ?_
    · exact nexts_next _
    · exact nexts_next _
  · exact nexts_next _

theorem next_execJournalFlushTimeout (s : State) : Nexts (execJournalFlushTimeout s) := by
  unfold execJournalFlushTimeout
  extract_lets
  refine nexts_ite ?_ ?_
  · exact nexts_next _
  · exact nexts_next _

theorem next_execBucketRecordWrite (s : State) : Nexts (execBucketRecordWrite s) := by
  unfold execBucketRecordWrite
  extract_lets
  refine nexts_ite ?_ ?_
  · exact nexts_next _
  · exact nexts_next _

theorem next_execAgeSweep (s : State) : Nexts (execAgeSweep s) := by
  unfold execAgeSweep
  extract_lets
  refine nexts_ite ?_ ?_
  · exact nexts_next _
  · exact nexts_next _

theorem next_execBucketFill (s : State) : Nexts (execBucketFill s) := by
  unfold execBucketFill
  extract_lets
  refine nexts_ite ?_ ?_
  · exact nexts_next _
  · exact nexts_next _

theorem next_execWeirCandidate (s : State) : Nexts (execWeirCandidate s) := by
  unfold execWeirCandidate
  extract_lets
  refine nexts_ite ?_ ?_
  · exact nexts_next _
  · exact nexts_next _

theorem next_execSkeinCommit (gen : Nat) (s : State) : Nexts (execSkeinCommit gen s) := by
  unfold execSkeinCommit
  extract_lets
  split
  · refine nexts_ite ?_ ?_
    · exact nexts_next _
    · exact nexts_next _
  · exact nexts_next _

theorem next_execPartialSkeinTimeout (s : State) : Nexts (execPartialSkeinTimeout s) := by
  unfold execPartialSkeinTimeout
  extract_lets
  refine nexts_ite ?_ ?_
  · exact nexts_next _
  · exact nexts_next _

theorem next_execSkeinStart (bad : List Nat) (s : State) : Nexts (execSkeinStart bad s) := by
  unfold execSkeinStart
  extract_lets
  refine nexts_ite ?_ ?_
  · exact nexts_next _
  · split
    split
    · exact nexts_next _
    · refine nexts_ite ?_ ?_
      · exact nexts_next _
      · extract_lets
        exact nexts_next _

theorem next_execMpRestart (h : Nat) (tag : Nat) (s : State) : Nexts (execMpRestart h tag s) := nexts_next _

theorem next_execSpReload (h : Nat) (tag : Nat) (n : Nat) (s : State) : Nexts (execSpReload h tag n s) := nexts_next _

theorem next_execFwStatus (h : Nat) (tag : Nat) (s : State) : Nexts (execFwStatus h tag s) := nexts_next _

theorem next_execFwActivate (h : Nat) (tag : Nat) (online : Bool) (s : State) : Nexts (execFwActivate h tag online s) := nexts_next _

theorem next_execFwStage (h : Nat) (tag : Nat) (addr : Nat) (len : Nat) (off : Nat) (last : Bool) (hdr : FwHeader) (s : State) : Nexts
    (execFwStage h tag addr len off last hdr s) := nexts_next _

theorem next_execPackRelease (h : Nat) (tag : Nat) (bay : Nat) (undo : Bool) (s : State) : Nexts (execPackRelease h tag bay undo s) :=
    nexts_next _

theorem next_execPackStatus (h : Nat) (tag : Nat) (bay : Nat) (s : State) : Nexts (execPackStatus h tag bay s) := nexts_next _

theorem next_execPackPause (h : Nat) (tag : Nat) (bay : Nat) (cancel : Bool) (s : State) : Nexts (execPackPause h tag bay cancel s) :=
    nexts_next _

theorem next_execPackTest (h : Nat) (tag : Nat) (bay : Nat) (depth : Nat) (power : Nat) (s : State) : Nexts (execPackTest h tag bay depth
    power s) := nexts_next _

theorem next_execTestAbort (h : Nat) (tag : Nat) (n : Nat) (s : State) : Nexts (execTestAbort h tag n s) := nexts_next _

theorem next_execTestStatus (h : Nat) (tag : Nat) (n : Nat) (s : State) : Nexts (execTestStatus h tag n s) := nexts_next _

theorem next_execTestBegin (which : Nat) (s : State) : Nexts (execTestBegin which s) := by
  unfold execTestBegin
  extract_lets
  refine nexts_ite ?_ ?_
  · exact nexts_next _
  · refine nexts_ite ?_ ?_
    · refine nexts_ite ?_ ?_
      · exact nexts_next _
      · exact nexts_next _
    · split
      · exact nexts_next _
      · refine nexts_ite ?_ ?_
        · exact nexts_next _
        · extract_lets
          exact nexts_next _

theorem next_execTestStart (h : Nat) (tag : Nat) (cls : Nat) (unit : Nat) (disrupt : Bool) (s : State) : Nexts (execTestStart h tag cls
    unit disrupt s) := nexts_next _

theorem next_execShrCfgEnWrite (n : Nat) (val : Nat) (s : State) : Nexts (execShrCfgEnWrite n val s) := nexts_next _

theorem next_execShareSet (h : Nat) (tag : Nat) (n : Nat) (flags : Nat) (cfg : Nat) (grants : Nat) (s : State) : Nexts (execShareSet h tag
    n flags cfg grants s) := nexts_next _

theorem next_execShareDelete (h : Nat) (tag : Nat) (n : Nat) (s : State) : Nexts (execShareDelete h tag n s) := nexts_next _

theorem next_execShareUnseal (h : Nat) (tag : Nat) (n : Nat) (slot : Nat) (s : State) : Nexts (execShareUnseal h tag n slot s) := nexts_next _

theorem next_execSealCommit (n : Nat) (s : State) : Nexts (execSealCommit n s) := by
  unfold execSealCommit
  extract_lets
  refine nexts_ite ?_ ?_
  · split
    · exact nexts_next _
    · exact nexts_next _
  · exact nexts_next _

theorem next_execShareSeal (h : Nat) (tag : Nat) (n : Nat) (owner : Bool) (s : State) : Nexts (execShareSeal h tag n owner s) := nexts_next _

theorem next_execPromote (h : Nat) (tag : Nat) (n : Nat) (s : State) : Nexts (execPromote h tag n s) := nexts_next _

theorem next_execFullSyncCommit (n : Nat) (s : State) : Nexts (execFullSyncCommit n s) := by
  unfold execFullSyncCommit
  extract_lets
  split
  · exact nexts_next _
  · refine nexts_ite ?_ ?_
    · split
      · exact nexts_next _
      · exact nexts_next _
    · exact nexts_next _

theorem next_execShareMode (h : Nat) (tag : Nat) (n : Nat) (target : Nat) (peer : Option Nat) (s : State) : Nexts (execShareMode h tag n
    target peer s) := nexts_next _

theorem next_execShareCreate (h : Nat) (tag : Nat) (n : Nat) (base : Nat) (size : Nat) (cfg : Nat) (grants : Nat) (peer : Option Nat) (s :
    State) : Nexts (execShareCreate h tag n base size cfg grants peer s) := nexts_next _

theorem next_execReportRead (h : Nat) (tag : Nat) (kind : Nat) (first : Nat) (buf : Nat) (len : Nat) (s : State) : Nexts (execReportRead h
    tag kind first buf len s) := nexts_next _

theorem next_execQueueDelete (h : Nat) (tag : Nat) (qid : Nat) (s : State) : Nexts (execQueueDelete h tag qid s) := nexts_next _

theorem next_execQueueCreate (h : Nat) (tag : Nat) (qid : Nat) (sqb : Nat) (cqb : Nat) (cfg : Nat) (s : State) : Nexts (execQueueCreate h
    tag qid sqb cqb cfg s) := nexts_next _

theorem next_execProbe (q : Nat) (tag : Nat) (share : Nat) (off : Nat) (len : Nat) (u : Bool) (s : State) : Nexts (execProbe q tag share
    off len u s) := nexts_next _

theorem next_execReleaseWalkEnd (r : Nat) (s : State) : Nexts (execReleaseWalkEnd r s) := by
  unfold execReleaseWalkEnd
  extract_lets
  split
  · exact nexts_next _
  · refine nexts_ite ?_ ?_
    · exact nexts_next _
    · extract_lets
      exact nexts_next _

theorem next_execReleaseCapture (q : Nat) (seq : Nat) (s : State) : Nexts (execReleaseCapture q seq s) := by
  unfold execReleaseCapture
  extract_lets
  split
  · exact nexts_next _
  · split
    · exact nexts_next _
    · refine nexts_ite ?_ ?_
      · exact nexts_next _
      · extract_lets
        exact nexts_next _

theorem next_execRelease (q : Nat) (tag : Nat) (share : Nat) (off : Nat) (len : Nat) (u : Bool) (s : State) : Nexts (execRelease q tag
    share off len u s) := nexts_next _

theorem next_execFence (q : Nat) (tag : Nat) (b : Bool) (u : Bool) (s : State) : Nexts (execFence q tag b u s) := nexts_next _

theorem next_execCommit (q : Nat) (tag : Nat) (share : Nat) (level : Nat) (off : Nat) (len : Nat) (u : Bool) (s : State) : Nexts
    (execCommit q tag share level off len u s) := nexts_next _

theorem next_execInterruptAggregationTimeout (q : Nat) (s : State) : Nexts (execInterruptAggregationTimeout q s) := by
  unfold execInterruptAggregationTimeout
  extract_lets
  refine nexts_ite ?_ ?_
  · exact nexts_next _
  · exact nexts_next _

theorem next_ioAnswer (q : Nat) (d : Desc) (s : State) : Nexts (ioAnswer q d s) := by
  unfold ioAnswer
  extract_lets
  refine nexts_ite ?_ ?_
  · exact next_execCommit _ _ _ _ _ _ _ _
  · refine nexts_ite ?_ ?_
    · exact next_execFence _ _ _ _ _
    · refine nexts_ite ?_ ?_
      · exact next_execRelease _ _ _ _ _ _ _
      · exact next_execProbe _ _ _ _ _ _ _

theorem next_adminAnswer (h : Nat) (d : Desc) (s : State) : Nexts (adminAnswer h d s) := by
  unfold adminAnswer
  extract_lets
  split
  · exact next_execQueueCreate _ _ _ _ _ _ _
  · exact next_execQueueDelete _ _ _ _
  · exact next_execReportRead _ _ _ _ _ _ _
  · exact next_execShareCreate _ _ _ _ _ _ _ _ _
  · exact next_execShareMode _ _ _ _ _ _
  · exact next_execPromote _ _ _ _
  · exact next_execShareSeal _ _ _ _ _
  · exact next_execShareUnseal _ _ _ _ _
  · exact next_execShareDelete _ _ _ _
  · exact next_execShareSet _ _ _ _ _ _ _
  · exact next_execTestStart _ _ _ _ _ _
  · exact next_execTestStatus _ _ _ _
  · exact next_execTestAbort _ _ _ _
  · exact next_execPackTest _ _ _ _ _ _
  · exact next_execPackPause _ _ _ _ _
  · exact next_execPackStatus _ _ _ _
  · exact next_execPackRelease _ _ _ _ _
  · exact next_execFwStage _ _ _ _ _ _ _ _
  · exact next_execFwActivate _ _ _ _
  · exact next_execFwStatus _ _ _
  · exact next_execSpReload _ _ _ _
  · exact next_execMpRestart _ _ _

theorem next_execDescriptorFetch (q : Nat) (ds : List Desc) (fail : Nat) (s : State) : Nexts (execDescriptorFetch q ds fail s) := by
  unfold execDescriptorFetch
  extract_lets
  refine nexts_ite ?_ ?_
  · exact nexts_next _
  · exact nexts_next _

theorem next_execInlineCommitRelease (q : Nat) (s : State) : Nexts (execInlineCommitRelease q s) := nexts_next _

theorem next_execGpfPhase2 (h : Nat) (s : State) : Nexts (execGpfPhase2 h s) := by
  unfold execGpfPhase2
  extract_lets
  refine nexts_ite ?_ ?_
  · exact nexts_next _
  · exact nexts_next _

theorem next_execGpfPhase1 (h : Nat) (s : State) : Nexts (execGpfPhase1 h s) := by
  unfold execGpfPhase1
  extract_lets
  refine nexts_ite ?_ ?_
  · exact nexts_next _
  · exact nexts_next _

theorem next_execHeadFlr (h : Nat) (s : State) : Nexts (execHeadFlr h s) := by
  unfold execHeadFlr
  extract_lets
  refine nexts_ite ?_ ?_
  · exact nexts_next _
  · exact nexts_next _

theorem next_execHpPerstRelease (h : Nat) (s : State) : Nexts (execHpPerstRelease h s) := by
  unfold execHpPerstRelease
  extract_lets
  refine nexts_ite ?_ ?_
  · exact nexts_next _
  · refine nexts_ite ?_ ?_
    · exact nexts_next _
    · exact nexts_next _

theorem next_execHpPerstAssert (h : Nat) (s : State) : Nexts (execHpPerstAssert h s) := by
  unfold execHpPerstAssert
  extract_lets
  refine nexts_ite ?_ ?_
  · exact nexts_next _
  · refine nexts_ite ?_ ?_
    · exact nexts_next _
    · refine nexts_ite ?_ ?_
      · exact nexts_next _
      · refine nexts_ite ?_ ?_
        · exact nexts_next _
        · exact nexts_next _

theorem next_execViral (h : Nat) (s : State) : Nexts (execViral h s) := by
  unfold execViral
  extract_lets
  refine nexts_ite ?_ ?_
  · exact nexts_next _
  · exact nexts_next _

theorem next_execIdeIntegrityFailure (h : Nat) (s : State) : Nexts (execIdeIntegrityFailure h s) := by
  unfold execIdeIntegrityFailure
  extract_lets
  refine nexts_ite ?_ ?_
  · exact nexts_next _
  · exact nexts_next _

theorem next_execSurpriseLinkDown (h : Nat) (s : State) : Nexts (execSurpriseLinkDown h s) := by
  unfold execSurpriseLinkDown
  extract_lets
  refine nexts_ite ?_ ?_
  · exact nexts_next _
  · exact nexts_next _

theorem next_execLinkDownTimeout (h : Nat) (s : State) : Nexts (execLinkDownTimeout h s) := by
  unfold execLinkDownTimeout
  extract_lets
  refine nexts_ite ?_ ?_
  · exact nexts_next _
  · exact nexts_next _

theorem next_execLinkRecovery (h : Nat) (replays : Nat) (enters : Bool) (s : State) : Nexts (execLinkRecovery h replays enters s) := by
  unfold execLinkRecovery
  extract_lets
  refine nexts_ite ?_ ?_
  · exact nexts_next _
  · exact nexts_next _

theorem next_execHeadLinkUp (h : Nat) (width : Nat) (rate : Nat) (flit256 : Bool) (s : State) : Nexts (execHeadLinkUp h width rate flit256
    s) := by
  unfold execHeadLinkUp
  extract_lets
  refine nexts_ite ?_ ?_
  · exact nexts_next _
  · refine nexts_ite ?_ ?_
    · exact nexts_next _
    · exact nexts_next _

theorem next_execHostRead (h : Nat) (hpa : Nat) (wait : Nat) (err : LineError) (s : State) : Nexts (execHostRead h hpa wait err s) := by
  unfold execHostRead
  extract_lets
  refine nexts_ite ?_ ?_
  · exact nexts_next _
  · refine nexts_ite ?_ ?_
    · exact nexts_next _
    · split
      · exact nexts_next _
      · split
        · exact nexts_next _
        · refine nexts_ite ?_ ?_
          · exact nexts_next _
          · refine nexts_ite ?_ ?_
            · exact nexts_next _
            · refine nexts_ite ?_ ?_
              · refine nexts_ite ?_ ?_
                · exact nexts_next _
                · exact nexts_next _
              · refine nexts_ite ?_ ?_
                · exact nexts_next _
                · exact nexts_next _

theorem next_execHostWrite (h : Nat) (hpa : Nat) (data : BitVec 512) (be : BitVec 64) (poison : Bool) (s : State) : Nexts (execHostWrite h
    hpa data be poison s) := by
  unfold execHostWrite
  extract_lets
  refine nexts_ite ?_ ?_
  · exact nexts_next _
  · refine nexts_ite ?_ ?_
    · exact nexts_next _
    · split
      · exact nexts_next _
      · refine nexts_ite ?_ ?_
        · split
          · exact nexts_next _
          · exact nexts_next _
        · exact nexts_next _

theorem next_execTrialConfirmTimeout (s : State) : Nexts (execTrialConfirmTimeout s) := by
  unfold execTrialConfirmTimeout
  extract_lets
  refine nexts_ite ?_ ?_
  · exact nexts_next _
  · exact nexts_next _

theorem next_execMpRestartComplete (s : State) : Nexts (execMpRestartComplete s) := by
  unfold execMpRestartComplete
  extract_lets
  refine nexts_ite ?_ ?_
  · exact nexts_next _
  · split
    refine nexts_ite ?_ ?_
    · exact nexts_next _
    · extract_lets
      exact nexts_next _

theorem next_execSpReloadComplete (n : Nat) (storeOk : Bool) (s : State) : Nexts (execSpReloadComplete n storeOk s) := by
  unfold execSpReloadComplete
  extract_lets
  refine nexts_ite ?_ ?_
  · exact nexts_next _
  · split
    extract_lets
    exact nexts_next _

theorem next_execExecuteFault (p : Nat) (addr : Nat) (s : State) : Nexts (execExecuteFault p addr s) := by
  unfold execExecuteFault
  extract_lets
  refine nexts_ite ?_ ?_
  · exact nexts_next _
  · exact nexts_next _

theorem next_execSramUncorrectable (p : Nat) (s : State) : Nexts (execSramUncorrectable p s) := nexts_next _

theorem next_execMpWatchdogExpiry (s : State) : Nexts (execMpWatchdogExpiry s) := nexts_next _

theorem next_execSpWatchdogExpiry (n : Nat) (s : State) : Nexts (execSpWatchdogExpiry n s) := nexts_next _

theorem next_execLockstepMismatch (pc : Nat) (s : State) : Nexts (execLockstepMismatch pc s) := by
  unfold execLockstepMismatch
  extract_lets
  refine nexts_ite ?_ ?_
  · exact nexts_next _
  · exact nexts_next _

theorem next_execTemperatureSample (readings : List Int) (s : State) : Nexts (execTemperatureSample readings s) := by
  unfold execTemperatureSample
  extract_lets
  split
  · exact nexts_next _
  · refine nexts_ite ?_ ?_
    · exact nexts_next _
    · extract_lets
      refine nexts_ite ?_ ?_
      · exact nexts_next _
      · exact nexts_next _

theorem next_execOpChangeComplete (mv : Nat) (s : State) : Nexts (execOpChangeComplete mv s) := by
  unfold execOpChangeComplete
  extract_lets
  refine nexts_ite ?_ ?_
  · exact nexts_next _
  · refine nexts_ite ?_ ?_
    · exact nexts_next _
    · refine nexts_ite ?_ ?_
      · exact nexts_next _
      · exact nexts_next _

theorem next_execStandbyEntry (s : State) : Nexts (execStandbyEntry s) := by
  unfold execStandbyEntry
  extract_lets
  refine nexts_ite ?_ ?_
  · exact nexts_next _
  · exact nexts_next _

theorem next_execHoldupMeasurement (tm : Nat) (packHigh : Bool) (s : State) : Nexts (execHoldupMeasurement tm packHigh s) := by
  unfold execHoldupMeasurement
  extract_lets
  refine nexts_ite ?_ ?_
  · exact nexts_next _
  · exact nexts_next _

theorem next_execLbAlert (slot : Nat) (status : Nat) (s : State) : Nexts (execLbAlert slot status s) := by
  unfold execLbAlert
  extract_lets
  refine nexts_ite ?_ ?_
  · exact nexts_next _
  · exact nexts_next _

theorem next_execPmbusStatusPoll (status : List (Nat × Nat)) (tele : List (Nat × Nat × Nat)) (s : State) : Nexts (execPmbusStatusPoll
    status tele s) := by
  unfold execPmbusStatusPoll
  extract_lets
  refine nexts_ite ?_ ?_
  · exact nexts_next _
  · exact nexts_next _

theorem next_execOffWaitExpiry (ticks : Nat) (s : State) : Nexts (execOffWaitExpiry ticks s) := by
  unfold execOffWaitExpiry
  extract_lets
  refine nexts_ite ?_ ?_
  · exact nexts_next _
  · refine nexts_ite ?_ ?_
    · exact nexts_next _
    · exact nexts_next _

theorem next_execRailWarning (slot : Nat) (kind : Nat) (reading : Nat) (s : State) : Nexts (execRailWarning slot kind reading s) := by
  unfold execRailWarning
  extract_lets
  refine nexts_ite ?_ ?_
  · exact nexts_next _
  · exact nexts_next _

theorem next_execRailFault (slot : Nat) (kind : Nat) (s : State) : Nexts (execRailFault slot kind s) := nexts_next _

theorem next_execRailPowerGood (slot : Nat) (mv : Nat) (s : State) : Nexts (execRailPowerGood slot mv s) := by
  unfold execRailPowerGood
  extract_lets
  refine nexts_ite ?_ ?_
  · exact nexts_next _
  · refine nexts_ite ?_ ?_
    · refine nexts_ite ?_ ?_
      · exact nexts_next _
      · exact nexts_next _
    · refine nexts_ite ?_ ?_
      · exact nexts_next _
      · exact nexts_next _

theorem next_execLingerEnergyLimit (s : State) : Nexts (execLingerEnergyLimit s) := by
  unfold execLingerEnergyLimit
  extract_lets
  refine nexts_ite ?_ ?_
  · exact nexts_next _
  · exact nexts_next _

theorem next_execLingerTimerExpiry (s : State) : Nexts (execLingerTimerExpiry s) := by
  unfold execLingerTimerExpiry
  extract_lets
  refine nexts_ite ?_ ?_
  · exact nexts_next _
  · exact nexts_next _

theorem next_execEnergyFail (s : State) : Nexts (execEnergyFail s) := by
  unfold execEnergyFail
  extract_lets
  refine nexts_ite ?_ ?_
  · exact nexts_next _
  · exact nexts_next _

theorem next_execTruncatedManifestClose (s : State) : Nexts (execTruncatedManifestClose s) := by
  unfold execTruncatedManifestClose
  extract_lets
  refine nexts_ite ?_ ?_
  · exact nexts_next _
  · exact nexts_next _

theorem next_execSaveBusLow (mv : Nat) (s : State) : Nexts (execSaveBusLow mv s) := by
  unfold execSaveBusLow
  extract_lets
  refine nexts_ite ?_ ?_
  · exact nexts_next _
  · exact nexts_next _

theorem next_execSaveBusWarning (mv : Nat) (s : State) : Nexts (execSaveBusWarning mv s) := by
  unfold execSaveBusWarning
  extract_lets
  refine nexts_ite ?_ ?_
  · refine nexts_ite ?_ ?_
    · exact nexts_next _
    · exact nexts_next _
  · exact nexts_next _

theorem next_execManifestClosed (flips : List (List Nat)) (s : State) : Nexts (execManifestClosed flips s) := by
  unfold execManifestClosed
  extract_lets
  refine nexts_ite ?_ ?_
  · exact nexts_next _
  · split
    · exact nexts_next _
    · refine nexts_ite ?_ ?_
      · exact nexts_next _
      · split
        refine nexts_ite ?_ ?_
        · exact nexts_next _
        · exact nexts_next _

theorem next_execSaveStartRecord (s : State) : Nexts (execSaveStartRecord s) := by
  unfold execSaveStartRecord
  extract_lets
  refine nexts_ite ?_ ?_
  · exact nexts_next _
  · refine nexts_ite ?_ ?_
    · exact nexts_next _
    · refine nexts_ite ?_ ?_
      · exact nexts_next _
      · exact nexts_next _

theorem next_execForcedAbort (commits : List Nat) (s : State) : Nexts (execForcedAbort commits s) := by
  unfold execForcedAbort
  extract_lets
  refine nexts_ite ?_ ?_
  · exact nexts_next _
  · refine nexts_ite ?_ ?_
    · exact nexts_next _
    · exact nexts_next _

theorem next_execResetDatagram (payload : List Byte) (s : State) : Nexts (execResetDatagram payload s) := by
  unfold execResetDatagram
  extract_lets
  refine nexts_ite ?_ ?_
  · exact nexts_next _
  · exact nexts_next _

theorem next_execResetNRelease (ticks : Nat) (s : State) : Nexts (execResetNRelease ticks s) := by
  unfold execResetNRelease
  extract_lets
  refine nexts_ite ?_ ?_
  · exact nexts_next _
  · refine nexts_ite ?_ ?_
    · exact nexts_next _
    · exact nexts_next _

theorem next_execResetNAssert (ticks : Nat) (s : State) : Nexts (execResetNAssert ticks s) := by
  unfold execResetNAssert
  extract_lets
  exact nexts_next _

theorem next_execLatchOpen (ticks : Nat) (s : State) : Nexts (execLatchOpen ticks s) := by
  unfold execLatchOpen
  extract_lets
  refine nexts_ite ?_ ?_
  · exact nexts_next _
  · refine nexts_ite ?_ ?_
    · exact nexts_next _
    · exact nexts_next _

theorem next_execComparatorTrip (b : Nat) (ticks : Nat) (s : State) : Nexts (execComparatorTrip b ticks s) := by
  unfold execComparatorTrip
  extract_lets
  exact nexts_next _

theorem next_execEnergyGone (s : State) : Nexts (execEnergyGone s) := by
  unfold execEnergyGone
  extract_lets
  exact nexts_next _

theorem next_execWakeNFall (ticks : Nat) (s : State) : Nexts (execWakeNFall ticks s) := by
  unfold execWakeNFall
  extract_lets
  refine nexts_ite ?_ ?_
  · refine nexts_ite ?_ ?_
    · exact nexts_next _
    · exact nexts_next _
  · refine nexts_ite ?_ ?_
    · exact nexts_next _
    · exact nexts_next _

theorem next_execServiceInputValid (ticks : Nat) (s : State) : Nexts (execServiceInputValid ticks s) := by
  unfold execServiceInputValid
  extract_lets
  refine nexts_ite ?_ ?_
  · exact nexts_next _
  · refine nexts_ite ?_ ?_
    · exact nexts_next _
    · refine nexts_ite ?_ ?_
      · exact nexts_next _
      · refine nexts_ite ?_ ?_
        · exact nexts_next _
        · exact nexts_next _

end Sys2Proof.Machine
end

