-- ==== Sys2Proof/Laws/Begin.lean ====
section
/-! SUPPORT. What a command reads at its start is what the state held: no reading sees what was sent out before. -/

namespace Sys2Proof.Machine

@[simp] theorem State.begin_keep (s : State) (l : List Field) : s.begin.keep l = s.keep l := rfl
@[simp] theorem State.begin_norField (s : State) (f : Field) (i : Nat) (reg : Nat) (lo : Nat) : s.begin.norField f i reg lo = s.norField f i reg lo := rfl
@[simp] theorem State.begin_norRegs (s : State) : s.begin.norRegs = s.norRegs := rfl
@[simp] theorem State.begin_queueDefault (s : State) (k : Nat) : s.begin.queueDefault k = s.queueDefault k := rfl
@[simp] theorem State.begin_trimRegs (s : State) : s.begin.trimRegs = s.trimRegs := rfl
@[simp] theorem State.begin_sleepClass (s : State) : s.begin.sleepClass = s.sleepClass := rfl
@[simp] theorem State.begin_railWords (s : State) : s.begin.railWords = s.railWords := rfl
@[simp] theorem State.begin_snapFree (s : State) : s.begin.snapFree = s.snapFree := rfl
@[simp] theorem State.begin_block (s : State) (b : Nat) : s.begin.block b = s.block b := rfl
@[simp] theorem State.begin_downSlots (s : State) (k : Nat) : s.begin.downSlots k = s.downSlots k := rfl
@[simp] theorem State.begin_downSteps (s : State) : s.begin.downSteps = s.downSteps := rfl
@[simp] theorem State.begin_stepDepends (s : State) (slot : Nat) (k : Nat) : s.begin.stepDepends slot k = s.stepDepends slot k := rfl
@[simp] theorem State.begin_stepSlots (s : State) (k : Nat) : s.begin.stepSlots k = s.stepSlots k := rfl
@[simp] theorem State.begin_opCap (s : State) : s.begin.opCap = s.opCap := rfl
@[simp] theorem State.begin_ledSafe (s : State) : s.begin.ledSafe = s.ledSafe := rfl
@[simp] theorem State.begin_newestStamp (s : State) : s.begin.newestStamp = s.newestStamp := rfl
@[simp] theorem State.begin_clocksRun (s : State) : s.begin.clocksRun = s.clocksRun := rfl
@[simp] theorem State.begin_ptpLocked (s : State) : s.begin.ptpLocked = s.ptpLocked := rfl
@[simp] theorem State.begin_rateClass (s : State) : s.begin.rateClass = s.rateClass := rfl
@[simp] theorem State.begin_trimNow (s : State) (q : Nat) : s.begin.trimNow q = s.trimNow q := rfl
@[simp] theorem State.begin_trimMoved (s : State) (q : Nat) : s.begin.trimMoved q = s.trimMoved q := rfl
@[simp] theorem State.begin_mayTrim (s : State) : s.begin.mayTrim = s.mayTrim := rfl
@[simp] theorem State.begin_monFreq (s : State) (sel : Nat) : s.begin.monFreq sel = s.monFreq sel := rfl
@[simp] theorem State.begin_monErr (s : State) : s.begin.monErr = s.monErr := rfl
@[simp] theorem State.begin_clockWords (s : State) : s.begin.clockWords = s.clockWords := rfl
@[simp] theorem State.begin_copyGen (s : State) (lo : Nat) (hi : Nat) : s.begin.copyGen lo hi = s.copyGen lo hi := rfl
@[simp] theorem State.begin_unsavedOf (s : State) (n : Nat) : s.begin.unsavedOf n = s.unsavedOf n := rfl
@[simp] theorem State.begin_unsaved (s : State) : s.begin.unsaved = s.unsaved := rfl
@[simp] theorem State.begin_lossRuns (s : State) (l : LossRec) : s.begin.lossRuns l = s.lossRuns l := rfl
@[simp] theorem State.begin_lossStands (s : State) (l : LossRec) : s.begin.lossStands l = s.lossStands l := rfl
@[simp] theorem State.begin_carried (s : State) : s.begin.carried = s.carried := rfl
@[simp] theorem State.begin_lostCommits (s : State) (q : Nat) (ls : List LossRec) : s.begin.lostCommits q ls = s.lostCommits q ls := rfl
@[simp] theorem State.begin_savedCommits (s : State) (q : Nat) : s.begin.savedCommits q = s.savedCommits q := rfl
@[simp] theorem State.begin_saveFronts (s : State) (ls : List LossRec) : s.begin.saveFronts ls = s.saveFronts ls := rfl
@[simp] theorem State.begin_badRead (s : State) : s.begin.badRead = s.badRead := rfl
@[simp] theorem State.begin_linePoisoned (s : State) (line : Nat) : s.begin.linePoisoned line = s.linePoisoned line := rfl
@[simp] theorem State.begin_mch (s : State) (c : Nat) : s.begin.mch c = s.mch c := rfl
@[simp] theorem State.begin_unitRank (s : State) (u : Nat) : s.begin.unitRank u = s.unitRank u := rfl
@[simp] theorem State.begin_headsOf (s : State) (n : Option Nat) : s.begin.headsOf n = s.headsOf n := rfl
@[simp] theorem State.begin_spareFree (s : State) (c : Nat) : s.begin.spareFree c = s.spareFree c := rfl
@[simp] theorem State.begin_lineMark (s : State) (line : Nat) : s.begin.lineMark line = s.lineMark line := rfl
@[simp] theorem State.begin_lineBad (s : State) (line : Nat) (e : LineError) : s.begin.lineBad line e = s.lineBad line e := rfl
@[simp] theorem State.begin_rmapOf (s : State) (u : Nat) : s.begin.rmapOf u = s.rmapOf u := rfl
@[simp] theorem State.begin_slotOf (s : State) (u : Nat) : s.begin.slotOf u = s.slotOf u := rfl
@[simp] theorem State.begin_fetchTarget (s : State) (u : Nat) : s.begin.fetchTarget u = s.fetchTarget u := rfl
@[simp] theorem State.begin_strandThere (s : State) (k : Skein) (j : Nat) : s.begin.strandThere k j = s.strandThere k j := rfl
@[simp] theorem State.begin_rebuilds (s : State) (k : Skein) (j : Nat) (others : List Nat) : s.begin.rebuilds k j others = s.rebuilds k j others := rfl
@[simp] theorem State.begin_fetchAtOnce (s : State) (u : Nat) : s.begin.fetchAtOnce u = s.fetchAtOnce u := rfl
@[simp] theorem State.begin_awake (s : State) : s.begin.awake = s.awake := rfl
@[simp] theorem State.begin_weirAllows (s : State) (b : Nat) : s.begin.weirAllows b = s.weirAllows b := rfl
@[simp] theorem State.begin_mayPause (s : State) (b : Nat) : s.begin.mayPause b = s.mayPause b := rfl
@[simp] theorem State.begin_learnCheck (s : State) (b : Nat) (fl : Nat) (df : Nat) (c : Nat) : s.begin.learnCheck b fl df c = s.learnCheck b fl df c := rfl
@[simp] theorem State.begin_modelVolt (s : State) (b : Nat) (curr : Int) : s.begin.modelVolt b curr = s.modelVolt b curr := rfl
@[simp] theorem State.begin_bay (s : State) (b : Nat) : s.begin.bay b = s.bay b := rfl
@[simp] theorem State.begin_bayState (s : State) (b : Nat) : s.begin.bayState b = s.bayState b := rfl
@[simp] theorem State.begin_prof (s : State) (b : Nat) (i : Nat) : s.begin.prof b i = s.prof b i := rfl
@[simp] theorem State.begin_profN (s : State) (b : Nat) (i : Nat) : s.begin.profN b i = s.profN b i := rfl
@[simp] theorem State.begin_calVolt (s : State) (b : Nat) (v : Nat) : s.begin.calVolt b v = s.calVolt b v := rfl
@[simp] theorem State.begin_calCurr (s : State) (b : Nat) (c : Int) : s.begin.calCurr b c = s.calCurr b c := rfl
@[simp] theorem State.begin_packTemp (s : State) (b : Nat) : s.begin.packTemp b = s.packTemp b := rfl
@[simp] theorem State.begin_packCurr (s : State) (b : Nat) : s.begin.packCurr b = s.packCurr b := rfl
@[simp] theorem State.begin_capQ (s : State) (b : Nat) : s.begin.capQ b = s.capQ b := rfl
@[simp] theorem State.begin_qFrac (s : State) (b : Nat) : s.begin.qFrac b = s.qFrac b := rfl
@[simp] theorem State.begin_sigma (s : State) (b : Nat) : s.begin.sigma b = s.sigma b := rfl
@[simp] theorem State.begin_refFloor (s : State) (d : Int) : s.begin.refFloor d = s.refFloor d := rfl
@[simp] theorem State.begin_eFull (s : State) (b : Nat) : s.begin.eFull b = s.eFull b := rfl
@[simp] theorem State.begin_packLoad (s : State) (b : Nat) : s.begin.packLoad b = s.packLoad b := rfl
@[simp] theorem State.begin_modelArgs (s : State) (b : Nat) : s.begin.modelArgs b = s.modelArgs b := rfl
@[simp] theorem State.begin_eSave (s : State) : s.begin.eSave = s.eSave := rfl
@[simp] theorem State.begin_reserves (s : State) (b : Nat) : s.begin.reserves b = s.reserves b := rfl
@[simp] theorem State.begin_qP (s : State) (b : Nat) : s.begin.qP b = s.qP b := rfl
@[simp] theorem State.begin_pModel (s : State) (b : Nat) : s.begin.pModel b = s.pModel b := rfl
@[simp] theorem State.begin_socModel (s : State) (b : Nat) : s.begin.socModel b = s.socModel b := rfl
@[simp] theorem State.begin_bayCounts (s : State) (b : Nat) : s.begin.bayCounts b = s.bayCounts b := rfl
@[simp] theorem State.begin_baySettled (s : State) (b : Nat) : s.begin.baySettled b = s.baySettled b := rfl
@[simp] theorem State.begin_newestLearn (s : State) (b : Nat) : s.begin.newestLearn b = s.newestLearn b := rfl
@[simp] theorem State.begin_fetchable (s : State) (q : Nat) : s.begin.fetchable q = s.fetchable q := rfl
@[simp] theorem State.begin_onTrial (s : State) : s.begin.onTrial = s.onTrial := rfl
@[simp] theorem State.begin_newBlock (s : State) (h : FwHeader) : s.begin.newBlock h = s.newBlock h := rfl
@[simp] theorem State.begin_freeBlock (s : State) : s.begin.freeBlock = s.freeBlock := rfl
@[simp] theorem State.begin_stagingBusy (s : State) (who : Nat) : s.begin.stagingBusy who = s.stagingBusy who := rfl
@[simp] theorem State.begin_stgWord (s : State) : s.begin.stgWord = s.stgWord := rfl
@[simp] theorem State.begin_stagedBlock (s : State) : s.begin.stagedBlock = s.stagedBlock := rfl
@[simp] theorem State.begin_evServed (s : State) : s.begin.evServed = s.evServed := rfl
@[simp] theorem State.begin_busOn (s : State) : s.begin.busOn = s.busOn := rfl
@[simp] theorem State.begin_sbOn (s : State) : s.begin.sbOn = s.sbOn := rfl
@[simp] theorem State.begin_readyBit (s : State) (b : Nat) : s.begin.readyBit b = s.readyBit b := rfl
@[simp] theorem State.begin_readyVec (s : State) : s.begin.readyVec = s.readyVec := rfl
@[simp] theorem State.begin_chanTimedOut (s : State) (c : Nat) : s.begin.chanTimedOut c = s.chanTimedOut c := rfl
@[simp] theorem State.begin_erases (s : State) (b : Nat) : s.begin.erases b = s.erases b := rfl
@[simp] theorem State.begin_erasesWait (s : State) (t : Nat) : s.begin.erasesWait t = s.erasesWait t := rfl
@[simp] theorem State.begin_binHeld (s : State) (t : Nat) (bin : Nat) : s.begin.binHeld t bin = s.binHeld t bin := rfl
@[simp] theorem State.begin_binDue (s : State) (t : Nat) (bin : Nat) : s.begin.binDue t bin = s.binDue t bin := rfl
@[simp] theorem State.begin_liveOn (s : State) (t : Nat) : s.begin.liveOn t = s.liveOn t := rfl
@[simp] theorem State.begin_tgtStatus (s : State) (t : Nat) : s.begin.tgtStatus t = s.tgtStatus t := rfl
@[simp] theorem State.begin_tgtCal (s : State) (t : Nat) : s.begin.tgtCal t = s.tgtCal t := rfl
@[simp] theorem State.begin_rskState (s : State) : s.begin.rskState = s.rskState := rfl
@[simp] theorem State.begin_rskWord (s : State) : s.begin.rskWord = s.rskWord := rfl
@[simp] theorem State.begin_idleTgt (s : State) (t : Nat) : s.begin.idleTgt t = s.idleTgt t := rfl
@[simp] theorem State.begin_tgt (s : State) (t : Nat) : s.begin.tgt t = s.tgt t := rfl
@[simp] theorem State.begin_chan (s : State) (c : Nat) : s.begin.chan c = s.chan c := rfl
@[simp] theorem State.begin_blk (s : State) (b : Nat) : s.begin.blk b = s.blk b := rfl
@[simp] theorem State.begin_healthy (s : State) (t : Nat) : s.begin.healthy t = s.healthy t := rfl
@[simp] theorem State.begin_chanEmpty (s : State) (c : Nat) : s.begin.chanEmpty c = s.chanEmpty c := rfl
@[simp] theorem State.begin_groupHeld (s : State) (g : Nat) : s.begin.groupHeld g = s.groupHeld g := rfl
@[simp] theorem State.begin_fcgDoms (s : State) : s.begin.fcgDoms = s.fcgDoms := rfl
@[simp] theorem State.begin_chanBound (s : State) (c : Nat) : s.begin.chanBound c = s.chanBound c := rfl
@[simp] theorem State.begin_chanShare (s : State) (c : Nat) : s.begin.chanShare c = s.chanShare c := rfl
@[simp] theorem State.begin_usable (s : State) : s.begin.usable = s.usable := rfl
@[simp] theorem State.begin_busTerm (s : State) : s.begin.busTerm = s.busTerm := rfl
@[simp] theorem State.begin_sealedFree (s : State) : s.begin.sealedFree = s.sealedFree := rfl
@[simp] theorem State.begin_payBytes (s : State) : s.begin.payBytes = s.payBytes := rfl
@[simp] theorem State.begin_listed (s : State) : s.begin.listed = s.listed := rfl
@[simp] theorem State.begin_poolTerm (s : State) : s.begin.poolTerm = s.poolTerm := rfl
@[simp] theorem State.begin_ceilNow (s : State) : s.begin.ceilNow = s.ceilNow := rfl
@[simp] theorem State.begin_countTgts (s : State) (l : List Nat) : s.begin.countTgts l = s.countTgts l := rfl
@[simp] theorem State.begin_packRate (s : State) (pd : Nat) : s.begin.packRate pd = s.packRate pd := rfl
@[simp] theorem State.begin_saveRate (s : State) : s.begin.saveRate = s.saveRate := rfl
@[simp] theorem State.begin_badOf (s : State) (t : Nat) : s.begin.badOf t = s.badOf t := rfl
@[simp] theorem State.begin_bestBlock (s : State) (t : Nat) : s.begin.bestBlock t = s.bestBlock t := rfl
@[simp] theorem State.begin_chanBlock (s : State) (c : Nat) (r : Nat) : s.begin.chanBlock c r = s.chanBlock c r := rfl
@[simp] theorem State.begin_ersMax (s : State) : s.begin.ersMax = s.ersMax := rfl
@[simp] theorem State.begin_pgmMax (s : State) : s.begin.pgmMax = s.pgmMax := rfl
@[simp] theorem State.begin_isProtected (s : State) (b : Nat) : s.begin.isProtected b = s.isProtected b := rfl
@[simp] theorem State.begin_pickBlocks (s : State) (r : Nat) : s.begin.pickBlocks r = s.pickBlocks r := rfl
@[simp] theorem State.begin_pageContent (s : State) (block : Nat) (page : Nat) : s.begin.pageContent block page = s.pageContent block page := rfl
@[simp] theorem State.begin_pageSpoilt (s : State) (block : Nat) (page : Nat) : s.begin.pageSpoilt block page = s.pageSpoilt block page := rfl
@[simp] theorem State.begin_pageRead (s : State) (block : Nat) (page : Nat) (flips : List Nat) : s.begin.pageRead block page flips = s.pageRead block page flips := rfl
@[simp] theorem State.begin_ideIncrement (s : State) (k : Nat) : s.begin.ideIncrement k = s.ideIncrement k := rfl
@[simp] theorem State.begin_mayTrain (s : State) (k : Nat) : s.begin.mayTrain k = s.mayTrain k := rfl
@[simp] theorem State.begin_function (s : State) (k : Nat) : s.begin.function k = s.function k := rfl
@[simp] theorem State.begin_mediaStatus (s : State) (k : Nat) : s.begin.mediaStatus k = s.mediaStatus k := rfl
@[simp] theorem State.begin_poisonSeen (s : State) (v : Via) (p : PoisonRec) : s.begin.poisonSeen v p = s.poisonSeen v p := rfl
@[simp] theorem State.begin_waitOf (s : State) (k : Nat) : s.begin.waitOf k = s.waitOf k := rfl
@[simp] theorem State.begin_headCounters (s : State) (k : Nat) : s.begin.headCounters k = s.headCounters k := rfl
@[simp] theorem State.begin_lineOf (s : State) (k : Nat) (hpa : Nat) : s.begin.lineOf k hpa = s.lineOf k hpa := rfl
@[simp] theorem State.begin_writeGranted (s : State) (n : Nat) (k : Nat) : s.begin.writeGranted n k = s.writeGranted n k := rfl
@[simp] theorem State.begin_readGranted (s : State) (n : Nat) (k : Nat) : s.begin.readGranted n k = s.readGranted n k := rfl
@[simp] theorem State.begin_mayWrite (s : State) (k : Nat) (line : Nat) : s.begin.mayWrite k line = s.mayWrite k line := rfl
@[simp] theorem State.begin_capHeld (s : State) (k : Nat) : s.begin.capHeld k = s.capHeld k := rfl
@[simp] theorem State.begin_ingressUsed (s : State) (k : Nat) : s.begin.ingressUsed k = s.ingressUsed k := rfl
@[simp] theorem State.begin_writeCredit (s : State) (k : Nat) : s.begin.writeCredit k = s.writeCredit k := rfl
@[simp] theorem State.begin_readFetches (s : State) (k : Nat) : s.begin.readFetches k = s.readFetches k := rfl
@[simp] theorem State.begin_readCredit (s : State) (k : Nat) : s.begin.readCredit k = s.readCredit k := rfl
@[simp] theorem State.begin_bundleLive (s : State) (b : Nat) : s.begin.bundleLive b = s.bundleLive b := rfl
@[simp] theorem State.begin_tailWords (s : State) : s.begin.tailWords = s.tailWords := rfl
@[simp] theorem State.begin_bundle (s : State) (b : Nat) : s.begin.bundle b = s.bundle b := rfl
@[simp] theorem State.begin_takesPages (s : State) (b : Nat) : s.begin.takesPages b = s.takesPages b := rfl
@[simp] theorem State.begin_freeBundle (s : State) : s.begin.freeBundle = s.freeBundle := rfl
@[simp] theorem State.begin_jbundleOnFlash (s : State) (b : Nat) : s.begin.jbundleOnFlash b = s.jbundleOnFlash b := rfl
@[simp] theorem State.begin_strandBlk (s : State) (k : Skein) (j : Nat) : s.begin.strandBlk k j = s.strandBlk k j := rfl
@[simp] theorem State.begin_programsOn (s : State) (t : Nat) : s.begin.programsOn t = s.programsOn t := rfl
@[simp] theorem State.begin_erasing (s : State) (t : Nat) : s.begin.erasing t = s.erasing t := rfl
@[simp] theorem State.begin_hardLimit (s : State) : s.begin.hardLimit = s.hardLimit := rfl
@[simp] theorem State.begin_hardTgts (s : State) : s.begin.hardTgts = s.hardTgts := rfl
@[simp] theorem State.begin_workFits (s : State) (ms : List Nat) : s.begin.workFits ms = s.workFits ms := rfl
@[simp] theorem State.begin_prevRec (s : State) : s.begin.prevRec = s.prevRec := rfl
@[simp] theorem State.begin_armed (s : State) : s.begin.armed = s.armed := rfl
@[simp] theorem State.begin_shareCfgWord (s : State) (n : Nat) : s.begin.shareCfgWord n = s.shareCfgWord n := rfl
@[simp] theorem State.begin_shareStatusWord (s : State) (n : Nat) : s.begin.shareStatusWord n = s.shareStatusWord n := rfl
@[simp] theorem State.begin_shareEntry (s : State) (n : Nat) : s.begin.shareEntry n = s.shareEntry n := rfl
@[simp] theorem State.begin_inFlight (s : State) (g : Nat) : s.begin.inFlight g = s.inFlight g := rfl
@[simp] theorem State.begin_uses (s : State) (k : Skein) (t : Nat) : s.begin.uses k t = s.uses k t := rfl
@[simp] theorem State.begin_strandOn (s : State) (k : Skein) (t : Nat) : s.begin.strandOn k t = s.strandOn k t := rfl
@[simp] theorem State.begin_eraseList (s : State) : s.begin.eraseList = s.eraseList := rfl
@[simp] theorem State.begin_twinRuns (s : State) : s.begin.twinRuns = s.twinRuns := rfl
@[simp] theorem State.begin_anchorPage (s : State) (t : Nat) : s.begin.anchorPage t = s.anchorPage t := rfl
@[simp] theorem State.begin_recLoc (s : State) (lsn : Nat) : s.begin.recLoc lsn = s.recLoc lsn := rfl
@[simp] theorem State.begin_anchor (s : State) : s.begin.anchor = s.anchor := rfl
@[simp] theorem State.begin_segCount (s : State) : s.begin.segCount = s.segCount := rfl
@[simp] theorem State.begin_locsOf (s : State) (l : Segs IdxEntry) : s.begin.locsOf l = s.locsOf l := rfl
@[simp] theorem State.begin_checkpointing (s : State) : s.begin.checkpointing = s.checkpointing := rfl
@[simp] theorem State.begin_chanSts (s : State) (c : Nat) : s.begin.chanSts c = s.chanSts c := rfl
@[simp] theorem State.begin_chanErr (s : State) (c : Nat) : s.begin.chanErr c = s.chanErr c := rfl
@[simp] theorem State.begin_chanEras (s : State) (c : Nat) : s.begin.chanEras c = s.chanEras c := rfl
@[simp] theorem State.begin_readSlot (s : State) (u : Nat) (moved : Bool) : s.begin.readSlot u moved = s.readSlot u moved := rfl
@[simp] theorem State.begin_skeinAllowed (s : State) (n : Nat) : s.begin.skeinAllowed n = s.skeinAllowed n := rfl
@[simp] theorem State.begin_pageBefore (s : State) (k : Skein) : s.begin.pageBefore k = s.pageBefore k := rfl
@[simp] theorem State.begin_eLim (s : State) (w : Nat) : s.begin.eLim w = s.eLim w := rfl
@[simp] theorem State.begin_flag (s : State) (f : Field) : s.begin.flag f = s.flag f := rfl
@[simp] theorem State.begin_flagi (s : State) (f : Field) (i : Nat) : s.begin.flagi f i = s.flagi f i := rfl
@[simp] theorem State.begin_freeVal (s : State) : s.begin.freeVal = s.freeVal := rfl
@[simp] theorem State.begin_freeList (s : State) (n : Nat) : s.begin.freeList n = s.freeList n := rfl
@[simp] theorem State.begin_drbgVal (s : State) : s.begin.drbgVal = s.drbgVal := rfl
@[simp] theorem State.begin_userCal (s : State) (q : Nat) : s.begin.userCal q = s.userCal q := rfl
@[simp] theorem State.begin_effective (s : State) (q : Nat) (factory : Int) : s.begin.effective q factory = s.effective q factory := rfl
@[simp] theorem State.begin_phase (s : State) : s.begin.phase = s.phase := rfl
@[simp] theorem State.begin_serving (s : State) : s.begin.serving = s.serving := rfl
@[simp] theorem State.begin_removing (s : State) : s.begin.removing = s.removing := rfl
@[simp] theorem State.begin_proc (s : State) (p : Nat) : s.begin.proc p = s.proc p := rfl
@[simp] theorem State.begin_mpRuns (s : State) : s.begin.mpRuns = s.mpRuns := rfl
@[simp] theorem State.begin_spRuns (s : State) (n : Nat) : s.begin.spRuns n = s.spRuns n := rfl
@[simp] theorem State.begin_dom (s : State) (d : Nat) : s.begin.dom d = s.dom d := rfl
@[simp] theorem State.begin_headExists (s : State) (k : Nat) : s.begin.headExists k = s.headExists k := rfl
@[simp] theorem State.begin_headIndex (s : State) (k : Nat) : s.begin.headIndex k = s.headIndex k := rfl
@[simp] theorem State.begin_headUp (s : State) (k : Nat) : s.begin.headUp k = s.headUp k := rfl
@[simp] theorem State.begin_stamp (s : State) : s.begin.stamp = s.stamp := rfl
@[simp] theorem State.begin_evRate (s : State) : s.begin.evRate = s.evRate := rfl
@[simp] theorem State.begin_evBurst (s : State) : s.begin.evBurst = s.evBurst := rfl
@[simp] theorem State.begin_viaOpen (s : State) (v : Via) : s.begin.viaOpen v = s.viaOpen v := rfl
@[simp] theorem State.begin_ledStat (s : State) : s.begin.ledStat = s.ledStat := rfl
@[simp] theorem State.begin_panelWord (s : State) : s.begin.panelWord = s.panelWord := rfl
@[simp] theorem State.begin_panelOn (s : State) : s.begin.panelOn = s.panelOn := rfl
@[simp] theorem State.begin_touched (s : State) (base : Nat) (count : Nat) : s.begin.touched base count = s.touched base count := rfl
@[simp] theorem State.begin_groupSlots (s : State) (g : Nat) : s.begin.groupSlots g = s.groupSlots g := rfl
@[simp] theorem State.begin_railNominal (s : State) (i : Nat) : s.begin.railNominal i = s.railNominal i := rfl
@[simp] theorem State.begin_pmbusSlots (s : State) : s.begin.pmbusSlots = s.pmbusSlots := rfl
@[simp] theorem State.begin_savePower (s : State) (rate : Nat) : s.begin.savePower rate = s.savePower rate := rfl
@[simp] theorem State.begin_holdSpan (s : State) : s.begin.holdSpan = s.holdSpan := rfl
@[simp] theorem State.begin_coreIdle (s : State) : s.begin.coreIdle = s.coreIdle := rfl
@[simp] theorem State.begin_capNow (s : State) : s.begin.capNow = s.capNow := rfl
@[simp] theorem State.begin_keptRuns (s : State) (lo : Nat) (hi : Nat) : s.begin.keptRuns lo hi = s.keptRuns lo hi := rfl
@[simp] theorem State.begin_walkedUnits (s : State) (lo : Nat) (hi : Nat) : s.begin.walkedUnits lo hi = s.walkedUnits lo hi := rfl
@[simp] theorem State.begin_ioQueueOf (s : State) (h : Nat) (q : Nat) : s.begin.ioQueueOf h q = s.ioQueueOf h q := rfl
@[simp] theorem State.begin_reportRecs (s : State) (h : Nat) (kind : Nat) : s.begin.reportRecs h kind = s.reportRecs h kind := rfl
@[simp] theorem State.begin_reportHeader (s : State) (kind : Nat) (total : Nat) (count : Nat) (start : Nat) : s.begin.reportHeader kind total count start = s.reportHeader kind total count start := rfl
@[simp] theorem State.begin_newestStamped (s : State) : s.begin.newestStamped = s.newestStamped := rfl
@[simp] theorem State.begin_entryNow (s : State) (typ : Nat) (code : Nat) (d4 : Nat) (d5 : Nat) (cnt : Nat) : s.begin.entryNow typ code d4 d5 cnt = s.entryNow typ code d4 d5 cnt := rfl
@[simp] theorem State.begin_ckptDue (s : State) : s.begin.ckptDue = s.ckptDue := rfl
@[simp] theorem State.begin_devLevel (s : State) : s.begin.devLevel = s.devLevel := rfl
@[simp] theorem State.begin_logOpen (s : State) : s.begin.logOpen = s.logOpen := rfl
@[simp] theorem State.begin_rebuilt (s : State) : s.begin.rebuilt = s.rebuilt := rfl
@[simp] theorem State.begin_rebuiltHeld (s : State) : s.begin.rebuiltHeld = s.rebuiltHeld := rfl
@[simp] theorem State.begin_votes (s : State) : s.begin.votes = s.votes := rfl
@[simp] theorem State.begin_shareProg (s : State) (n : Nat) : s.begin.shareProg n = s.shareProg n := rfl
@[simp] theorem State.begin_twinUnits (s : State) : s.begin.twinUnits = s.twinUnits := rfl
@[simp] theorem State.begin_locks (s : State) : s.begin.locks = s.locks := rfl
@[simp] theorem State.begin_liveHost (s : State) (k : Nat) : s.begin.liveHost k = s.liveHost k := rfl
@[simp] theorem State.begin_liveCore (s : State) : s.begin.liveCore = s.liveCore := rfl
@[simp] theorem State.begin_liveMgt (s : State) : s.begin.liveMgt = s.liveMgt := rfl
@[simp] theorem State.begin_fieldNow (s : State) (k : Nat) (f : Field) (i : Nat) : s.begin.fieldNow k f i = s.fieldNow k f i := rfl
@[simp] theorem State.begin_regNow (s : State) (k : Nat) (off : Nat) : s.begin.regNow k off = s.regNow k off := rfl
@[simp] theorem State.begin_isolated (s : State) (off : Nat) : s.begin.isolated off = s.isolated off := rfl
@[simp] theorem State.begin_lockedNow (s : State) (f : Field) (i : Nat) : s.begin.lockedNow f i = s.lockedNow f i := rfl
@[simp] theorem State.begin_factoryWord (s : State) (k : Nat) (off : Nat) : s.begin.factoryWord k off = s.factoryWord k off := rfl
@[simp] theorem State.begin_nextWord (s : State) (k : Nat) (off : Nat) : s.begin.nextWord k off = s.nextWord k off := rfl
@[simp] theorem State.begin_allSealed (s : State) : s.begin.allSealed = s.allSealed := rfl
@[simp] theorem State.begin_unmet (s : State) : s.begin.unmet = s.unmet := rfl
@[simp] theorem State.begin_restoring (s : State) : s.begin.restoring = s.restoring := rfl
@[simp] theorem State.begin_eagerUnits (s : State) : s.begin.eagerUnits = s.eagerUnits := rfl
@[simp] theorem State.begin_eagerDue (s : State) (k : Skein) (j : Nat) : s.begin.eagerDue k j = s.eagerDue k j := rfl
@[simp] theorem State.begin_eraseMap (s : State) : s.begin.eraseMap = s.eraseMap := rfl
@[simp] theorem State.begin_members (s : State) : s.begin.members = s.members := rfl
@[simp] theorem State.begin_recordAt (s : State) (b : Nat) (p : Nat) (mem : List Nat) : s.begin.recordAt b p mem = s.recordAt b p mem := rfl
@[simp] theorem State.begin_rootSkein (s : State) (a : Anchor) : s.begin.rootSkein a = s.rootSkein a := rfl
@[simp] theorem State.begin_lastPage (s : State) (b : Nat) (mem : List Nat) : s.begin.lastPage b mem = s.lastPage b mem := rfl
@[simp] theorem State.begin_bundleLsn (s : State) (b : Nat) (mem : List Nat) : s.begin.bundleLsn b mem = s.bundleLsn b mem := rfl
@[simp] theorem State.begin_loadIndex (s : State) (segs : FMap (Nat × Nat)) : s.begin.loadIndex segs = s.loadIndex segs := rfl
@[simp] theorem State.begin_absentIn (s : State) (n : Nat) : s.begin.absentIn n = s.absentIn n := rfl
@[simp] theorem State.begin_absentAll (s : State) : s.begin.absentAll = s.absentAll := rfl
@[simp] theorem State.begin_shares (s : State) : s.begin.shares = s.shares := rfl
@[simp] theorem State.begin_turn (s : State) : s.begin.turn = s.turn := rfl
@[simp] theorem State.begin_doneState (s : State) (n : Nat) : s.begin.doneState n = s.doneState n := rfl
@[simp] theorem State.begin_imageDue (s : State) : s.begin.imageDue = s.imageDue := rfl
@[simp] theorem State.begin_otherFlash (s : State) (a : Anchor) : s.begin.otherFlash a = s.otherFlash a := rfl
@[simp] theorem State.begin_adoptable (s : State) (a : Anchor) : s.begin.adoptable a = s.adoptable a := rfl
@[simp] theorem State.begin_isListed (s : State) (u : Nat) : s.begin.isListed u = s.isListed u := rfl
@[simp] theorem State.begin_saveStartArgs (s : State) : s.begin.saveStartArgs = s.saveStartArgs := rfl
@[simp] theorem State.begin_openCommits (s : State) : s.begin.openCommits = s.openCommits := rfl
@[simp] theorem State.begin_ideOn (s : State) (v : Via) : s.begin.ideOn v = s.ideOn v := rfl
@[simp] theorem State.begin_nonceWords (s : State) : s.begin.nonceWords = s.nonceWords := rfl
@[simp] theorem State.begin_tokenCheck (s : State) (op : Nat) (k : Token) : s.begin.tokenCheck op k = s.tokenCheck op k := rfl
@[simp] theorem State.begin_secWords (s : State) : s.begin.secWords = s.secWords := rfl
@[simp] theorem State.begin_doeWords (s : State) (m : DoeMsg) : s.begin.doeWords m = s.doeWords m := rfl
@[simp] theorem State.begin_visible (s : State) : s.begin.visible = s.visible := rfl
@[simp] theorem State.begin_fits (s : State) (n : Nat) (base : Nat) (size : Nat) : s.begin.fits n base size = s.fits n base size := rfl
@[simp] theorem State.begin_admitted (s : State) : s.begin.admitted = s.admitted := rfl
@[simp] theorem State.begin_designated (s : State) (peer : Nat) (size : Nat) : s.begin.designated peer size = s.designated peer size := rfl
@[simp] theorem State.begin_pairOp (s : State) (n : Nat) (tag : Nat) : s.begin.pairOp n tag = s.pairOp n tag := rfl
@[simp] theorem State.begin_inProgress (s : State) (n : Nat) (op : Nat) : s.begin.inProgress n op = s.inProgress n op := rfl
@[simp] theorem State.begin_settleAge (s : State) : s.begin.settleAge = s.settleAge := rfl
@[simp] theorem State.begin_classOf (s : State) (u : Nat) (e : UnitSt) : s.begin.classOf u e = s.classOf u e := rfl
@[simp] theorem State.begin_absent (s : State) (u : Nat) : s.begin.absent u = s.absent u := rfl
@[simp] theorem State.begin_dirtyCands (s : State) (save : Bool) : s.begin.dirtyCands save = s.dirtyCands save := rfl
@[simp] theorem State.begin_liveUnits (s : State) (k : Skein) : s.begin.liveUnits k = s.liveUnits k := rfl
@[simp] theorem State.begin_movable (s : State) (u : Nat) : s.begin.movable u = s.movable u := rfl
@[simp] theorem State.begin_liveIn (s : State) (b : Nat) : s.begin.liveIn b = s.liveIn b := rfl
@[simp] theorem State.begin_bundlesOf (s : State) (t : Nat) : s.begin.bundlesOf t = s.bundlesOf t := rfl
@[simp] theorem State.begin_poolShort (s : State) : s.begin.poolShort = s.poolShort := rfl
@[simp] theorem State.begin_reclaimUnits (s : State) : s.begin.reclaimUnits = s.reclaimUnits := rfl
@[simp] theorem State.begin_bundleGen (s : State) (b : Nat) : s.begin.bundleGen b = s.bundleGen b := rfl
@[simp] theorem State.begin_spreadBundle (s : State) (t : Nat) : s.begin.spreadBundle t = s.spreadBundle t := rfl
@[simp] theorem State.begin_moveUnits (s : State) : s.begin.moveUnits = s.moveUnits := rfl
@[simp] theorem State.begin_relocs (s : State) (l : List Nat) : s.begin.relocs l = s.relocs l := rfl
@[simp] theorem State.begin_selection (s : State) : s.begin.selection = s.selection := rfl
@[simp] theorem State.begin_ownsQueue (s : State) (k : Nat) (q : Nat) : s.begin.ownsQueue k q = s.ownsQueue k q := rfl
@[simp] theorem State.begin_adminQueue (s : State) (k : Nat) : s.begin.adminQueue k = s.adminQueue k := rfl
@[simp] theorem State.begin_openTickets (s : State) (q : Nat) : s.begin.openTickets q = s.openTickets q := rfl
@[simp] theorem State.begin_hasRoom (s : State) (q : Nat) : s.begin.hasRoom q = s.hasRoom q := rfl
@[simp] theorem State.begin_commonUsed (s : State) : s.begin.commonUsed = s.commonUsed := rfl
@[simp] theorem State.begin_reserveUsed (s : State) (q : Nat) : s.begin.reserveUsed q = s.reserveUsed q := rfl
@[simp] theorem State.begin_hasContext (s : State) (q : Nat) : s.begin.hasContext q = s.hasContext q := rfl
@[simp] theorem State.begin_canTake (s : State) (q : Nat) : s.begin.canTake q = s.canTake q := rfl
@[simp] theorem State.begin_ctxKind (s : State) (q : Nat) : s.begin.ctxKind q = s.ctxKind q := rfl
@[simp] theorem State.begin_readyFence (s : State) (q : Nat) : s.begin.readyFence q = s.readyFence q := rfl
@[simp] theorem State.begin_rangeFault (s : State) (k : Nat) (share : Nat) (off : Nat) (len : Nat) (page : Bool) : s.begin.rangeFault k share off len page = s.rangeFault k share off len page := rfl
@[simp] theorem State.begin_sealing (s : State) (n : Nat) : s.begin.sealing n = s.sealing n := rfl
@[simp] theorem State.begin_rangeUnits (s : State) (share : Nat) (off : Nat) (len : Nat) : s.begin.rangeUnits share off len = s.rangeUnits share off len := rfl
@[simp] theorem State.begin_dirtyRuns (s : State) (lo : Nat) (hi : Nat) : s.begin.dirtyRuns lo hi = s.dirtyRuns lo hi := rfl
@[simp] theorem State.begin_twinHolds (s : State) (n : Nat) (q : Nat) : s.begin.twinHolds n q = s.twinHolds n q := rfl
@[simp] theorem State.begin_twinWait (s : State) (n : Nat) : s.begin.twinWait n = s.twinWait n := rfl
@[simp] theorem State.begin_coveredByFlash (s : State) (lo : Nat) (hi : Nat) : s.begin.coveredByFlash lo hi = s.coveredByFlash lo hi := rfl
@[simp] theorem State.begin_freeWalk (s : State) : s.begin.freeWalk = s.freeWalk := rfl
@[simp] theorem State.begin_probeBits (s : State) (share : Nat) (lo : Nat) (hi : Nat) : s.begin.probeBits share lo hi = s.probeBits share lo hi := rfl
@[simp] theorem State.begin_ticketsOn (s : State) (n : Nat) : s.begin.ticketsOn n = s.ticketsOn n := rfl
@[simp] theorem State.begin_queuesOf (s : State) (k : Nat) : s.begin.queuesOf k = s.queuesOf k := rfl
@[simp] theorem State.begin_testTgts (s : State) (cls : Nat) (unit : Nat) : s.begin.testTgts cls unit = s.testTgts cls unit := rfl
@[simp] theorem State.begin_testable (s : State) (cls : Nat) (unit : Nat) : s.begin.testable cls unit = s.testable cls unit := rfl
@[simp] theorem State.begin_testBarred (s : State) (cls : Nat) (unit : Nat) (disrupt : Bool) : s.begin.testBarred cls unit disrupt = s.testBarred cls unit disrupt := rfl
@[simp] theorem State.begin_belowMark (s : State) : s.begin.belowMark = s.belowMark := rfl
@[simp] theorem State.begin_packReady (s : State) (b : Nat) : s.begin.packReady b = s.packReady b := rfl
@[simp] theorem State.begin_prefixNow (s : State) : s.begin.prefixNow = s.prefixNow := rfl
@[simp] theorem State.begin_acceptsWrite (s : State) (n : Nat) (off : Nat) (len : Nat) : s.begin.acceptsWrite n off len = s.acceptsWrite n off len := rfl
@[simp] theorem State.begin_messageDue (s : State) (i : InMsg) : s.begin.messageDue i = s.messageDue i := rfl
@[simp] theorem State.begin_serial (s : State) : s.begin.serial = s.serial := rfl
@[simp] theorem State.begin_peerSerial (s : State) (p : Nat) : s.begin.peerSerial p = s.peerSerial p := rfl
@[simp] theorem State.begin_portReady (s : State) (p : Nat) : s.begin.portReady p = s.portReady p := rfl
@[simp] theorem State.begin_nextPiece (s : State) (lo : Nat) (hi : Nat) : s.begin.nextPiece lo hi = s.nextPiece lo hi := rfl
@[simp] theorem State.begin_copyRoom (s : State) (c : Cand) : s.begin.copyRoom c = s.copyRoom c := rfl
@[simp] theorem State.begin_creditsHeld (s : State) (p : Nat) : s.begin.creditsHeld p = s.creditsHeld p := rfl
@[simp] theorem State.begin_refuseDesig (s : State) (n : Nat) (base : Nat) (size : Nat) : s.begin.refuseDesig n base size = s.refuseDesig n base size := rfl
@[simp] theorem State.begin_pairWordReg (s : State) : s.begin.pairWordReg = s.pairWordReg := rfl
@[simp] theorem State.begin_portWordReg (s : State) (p : Nat) : s.begin.portWordReg p = s.portWordReg p := rfl
@[simp] theorem State.begin_pair (s : State) (n : Nat) : s.begin.pair n = s.pair n := rfl
@[simp] theorem State.begin_role (s : State) (n : Nat) : s.begin.role n = s.role n := rfl
@[simp] theorem State.begin_pstate (s : State) (n : Nat) : s.begin.pstate n = s.pstate n := rfl
@[simp] theorem State.begin_incons (s : State) (n : Nat) : s.begin.incons n = s.incons n := rfl
@[simp] theorem State.begin_mapovf (s : State) (n : Nat) : s.begin.mapovf n = s.mapovf n := rfl
@[simp] theorem State.begin_lossrep (s : State) (n : Nat) : s.begin.lossrep n = s.lossrep n := rfl
@[simp] theorem State.begin_peershr (s : State) (n : Nat) : s.begin.peershr n = s.peershr n := rfl
@[simp] theorem State.begin_pairid (s : State) (n : Nat) : s.begin.pairid n = s.pairid n := rfl
@[simp] theorem State.begin_session (s : State) : s.begin.session = s.session := rfl
@[simp] theorem State.begin_sessionPort (s : State) : s.begin.sessionPort = s.sessionPort := rfl
@[simp] theorem State.begin_stateMsg (s : State) (n : Nat) (last : Bool) : s.begin.stateMsg n last = s.stateMsg n last := rfl
@[simp] theorem State.begin_linkIn (s : State) (p : Nat) : s.begin.linkIn p = s.linkIn p := rfl
@[simp] theorem State.begin_portOf (s : State) (unit : Nat) : s.begin.portOf unit = s.portOf unit := rfl
@[simp] theorem State.begin_outFull (s : State) (p : Nat) : s.begin.outFull p = s.outFull p := rfl
@[simp] theorem State.begin_shLo (s : State) (n : Nat) : s.begin.shLo n = s.shLo n := rfl
@[simp] theorem State.begin_shHi (s : State) (n : Nat) : s.begin.shHi n = s.shHi n := rfl
@[simp] theorem State.begin_copyRuns (s : State) (n : Nat) (full : Bool) : s.begin.copyRuns n full = s.copyRuns n full := rfl
@[simp] theorem State.begin_scanProg (s : State) : s.begin.scanProg = s.scanProg := rfl
@[simp] theorem State.begin_pecBad (s : State) (pec : Nat) (write : Bool) : s.begin.pecBad pec write = s.pecBad pec write := rfl
@[simp] theorem State.begin_writable (s : State) (off : Nat) : s.begin.writable off = s.writable off := rfl
@[simp] theorem State.begin_sbWriteStatus (s : State) (off : Nat) (pec : Nat) : s.begin.sbWriteStatus off pec = s.sbWriteStatus off pec := rfl
@[simp] theorem State.begin_mctpOn (s : State) : s.begin.mctpOn = s.mctpOn := rfl
@[simp] theorem State.begin_runStandard (s : State) (op : Nat) (w : Nat → Nat) (n : Nat) : s.begin.runStandard op w n = s.runStandard op w n := rfl
@[simp] theorem State.begin_runToken (s : State) (v : Via) (w : Nat → Nat) : s.begin.runToken v w = s.runToken v w := rfl
@[simp] theorem State.begin_busTx (s : State) (i : Nat) (target : Nat) : s.begin.busTx i target = s.busTx i target := rfl
@[simp] theorem State.begin_multi (s : State) (i : Nat) : s.begin.multi i = s.multi i := rfl
@[simp] theorem State.begin_shMode (s : State) (n : Nat) : s.begin.shMode n = s.shMode n := rfl
@[simp] theorem State.begin_shState (s : State) (n : Nat) : s.begin.shState n = s.shState n := rfl
@[simp] theorem State.begin_shDefined (s : State) (n : Nat) : s.begin.shDefined n = s.shDefined n := rfl
@[simp] theorem State.begin_counted (s : State) (n : Nat) : s.begin.counted n = s.counted n := rfl
@[simp] theorem State.begin_shOpen (s : State) (n : Nat) : s.begin.shOpen n = s.shOpen n := rfl
@[simp] theorem State.begin_shareOf (s : State) (u : Nat) : s.begin.shareOf u = s.shareOf u := rfl
@[simp] theorem State.begin_grant (s : State) (n : Nat) (k : Nat) : s.begin.grant n k = s.grant n k := rfl
@[simp] theorem State.begin_changing (s : State) (n : Nat) : s.begin.changing n = s.changing n := rfl
@[simp] theorem State.begin_anyHot (s : State) : s.begin.anyHot = s.anyHot := rfl
@[simp] theorem State.begin_imageNum (s : State) : s.begin.imageNum = s.imageNum := rfl
@[simp] theorem State.begin_checkOf (s : State) (n : Nat) (key : Nat) : s.begin.checkOf n key = s.checkOf n key := rfl
@[simp] theorem State.begin_ownerSealed (s : State) (n : Nat) : s.begin.ownerSealed n = s.ownerSealed n := rfl
@[simp] theorem State.begin_yields (s : State) (n : Nat) (key : Nat) : s.begin.yields n key = s.yields n key := rfl
@[simp] theorem State.begin_keyHere (s : State) (n : Nat) : s.begin.keyHere n = s.keyHere n := rfl
@[simp] theorem State.begin_nowSec (s : State) : s.begin.nowSec = s.nowSec := rfl
@[simp] theorem State.begin_unit (s : State) (u : Nat) : s.begin.unit u = s.unit u := rfl
@[simp] theorem State.begin_residue (s : State) : s.begin.residue = s.residue := rfl
@[simp] theorem State.begin_shDirty (s : State) (n : Nat) : s.begin.shDirty n = s.shDirty n := rfl
@[simp] theorem State.begin_walkHit (s : State) (u : Nat) (port : Option Nat) : s.begin.walkHit u port = s.walkHit u port := rfl
@[simp] theorem State.begin_idx (s : State) (u : Nat) : s.begin.idx u = s.idx u := rfl
@[simp] theorem State.begin_tWin (s : State) : s.begin.tWin = s.tWin := rfl
@[simp] theorem State.begin_nF (s : State) : s.begin.nF = s.nF := rfl
@[simp] theorem State.begin_tMrg (s : State) : s.begin.tMrg = s.tMrg := rfl
@[simp] theorem State.begin_weirTerms (s : State) (i : WeirIn) : s.begin.weirTerms i = s.weirTerms i := rfl
@[simp] theorem State.begin_weirIn (s : State) (ev : Nat) : s.begin.weirIn ev = s.weirIn ev := rfl
@[simp] theorem State.begin_tooCold (s : State) : s.begin.tooCold = s.tooCold := rfl
@[simp] theorem State.begin_attnCause (s : State) (b : Nat) : s.begin.attnCause b = s.attnCause b := rfl
@[simp] theorem State.begin_attnCauses (s : State) : s.begin.attnCauses = s.attnCauses := rfl
@[simp] theorem State.begin_ledByAttn (s : State) : s.begin.ledByAttn = s.ledByAttn := rfl
@[simp] theorem State.begin_ledAttn (s : State) : s.begin.ledAttn = s.ledAttn := rfl
@[simp] theorem State.begin_weirBytes (s : State) : s.begin.weirBytes = s.weirBytes := rfl
@[simp] theorem State.begin_sluiceHeads (s : State) : s.begin.sluiceHeads = s.sluiceHeads := rfl
@[simp] theorem State.begin_sluiceStep (s : State) : s.begin.sluiceStep = s.sluiceStep := rfl
@[simp] theorem State.begin_headCredits (s : State) (k : Nat) : s.begin.headCredits k = s.headCredits k := rfl
@[simp] theorem State.begin_drainState (s : State) : s.begin.drainState = s.drainState := rfl
@[simp] theorem State.begin_removalSafe (s : State) : s.begin.removalSafe = s.removalSafe := rfl
@[simp] theorem State.begin_wearDepth (s : State) : s.begin.wearDepth = s.wearDepth := rfl
@[simp] theorem State.begin_drainRate (s : State) : s.begin.drainRate = s.drainRate := rfl

end Sys2Proof.Machine
end

