-- ==== Sys2Proof/Laws/Keep1.lean ====
section
/-! SUPPORT. Keep and Still, operation by operation: part 1 of 6. -/

namespace Sys2Proof.Machine

theorem still_putRegs (s : State) (l : FMap Nat) : Still s (State.putRegs s l) := by
  unfold State.putRegs
  refine still_mk ?_
  exact Still.refl _

theorem still_event (s : State) (code : Nat) (items : List Nat) : Still s (State.event s code items) := by
  unfold State.event
  extract_lets v1 v2 v3 v4 v5 v6 v7 v8 v9
  refine still_ite ?_ ?_
  · refine still_mk ?_
    exact Still.refl _
  · refine still_mk ?_
    exact Still.refl _

theorem still_wri (s : State) (f : Field) (i : Nat) (v : Nat) : Still s (State.wri s f i v) := by
  unfold State.wri
  refine still_mk ?_
  exact Still.refl _

theorem still_allocate (s : State) : Still s s.allocate := by
  have h : ∀ (put : State → Nat → State), (∀ a k, Still a (put a k)) → Still s (s.forEach (List.range 16) put) :=
    fun put hp => still_forEach _ hp (Still.refl s)
  unfold State.allocate
  dsimp only
  split
  · exact (h _ fun a k => (still_wri a _ _ _).trans (still_wri _ _ _ _)).trans (still_event _ _ _)
  · exact h _ fun a k => (still_wri a _ _ _).trans (still_wri _ _ _ _)

theorem still_wr (s : State) (f : Field) (v : Nat) : Still s (State.wr s f v) := by
  unfold State.wr
  refine Still.trans ?_ (still_wri _ _ _ _)
  exact Still.refl _

theorem still_clockState (s : State) (st : Nat) (cause : Nat) : Still s (State.clockState s st cause) := by
  unfold State.clockState
  refine Still.trans ?_ (still_wr _ _ _)
  refine Still.trans ?_ (still_wr _ _ _)
  refine Still.trans ?_ (still_event _ _ _)
  exact Still.refl _

theorem still_boscStart (s : State) : Still s (State.boscStart s) := by
  unfold State.boscStart
  refine still_ite ?_ ?_
  · refine Still.trans ?_ (still_clockState _ _ _)
    exact Still.refl _
  · exact Still.refl _

theorem still_sleepLatch (s : State) : Still s (State.sleepLatch s) := by
  unfold State.sleepLatch
  refine still_ite ?_ ?_
  · exact Still.refl _
  · extract_lets v1 v2 v3
    have hv2 : Still s v2 := by
      clear v3
      subst v2
      refine Still.trans ?_ (still_wr _ _ _)
      refine still_mk ?_
      exact Still.refl _
    have hv3 : Still s v3 := by
      subst v3
      refine still_ite ?_ ?_
      · exact hv2
      · refine Still.trans ?_ (still_clockState _ _ _)
        exact hv2
    refine Still.trans ?_ (still_wr _ _ _)
    refine Still.trans ?_ (still_wr _ _ _)
    exact hv3

theorem still_sleepWake (s : State) (ticks : Nat) : Still s (State.sleepWake s ticks) := by
  unfold State.sleepWake
  split
  · exact Still.refl _
  · extract_lets v1 v2 v3 v4 v5 v6 v7 v8
    have hv6 : Still s v6 := by
      clear v7 v8
      subst v6
      refine still_mk ?_
      exact Still.refl _
    have hv7 : Still s v7 := by
      clear v8
      subst v7
      iterate 3 refine Still.trans ?_ (still_wr _ _ _)
      exact hv6
    have hv8 : Still s v8 := by
      subst v8
      iterate 3 refine Still.trans ?_ (still_wr _ _ _)
      exact hv7
    refine Still.trans ?_ (still_event _ _ _)
    exact hv8

theorem still_snapWrite (s : State) : Still s (State.snapWrite s) := by
  unfold State.snapWrite
  extract_lets v1 v2
  refine Still.trans ?_ (still_wr _ _ _)
  refine still_mk ?_
  exact Still.refl _

theorem still_addi (s : State) (f : Field) (i : Nat) (n : Nat) : Still s (State.addi s f i n) := by
  unfold State.addi
  refine Still.trans ?_ (still_wri _ _ _ _)
  exact Still.refl _

theorem still_bump (s : State) (f : Field) : Still s (State.bump s f) := by
  unfold State.bump
  refine Still.trans ?_ (still_addi _ _ _ _)
  exact Still.refl _

theorem still_snapNow (s : State) (key : Nat) : Still s (State.snapNow s key) := by
  unfold State.snapNow
  extract_lets v1 v2 v3 v4
  have hv3 : Still s v3 := by
    clear v4
    subst v3
    refine still_mk ?_
    exact Still.refl _
  have hv4 : Still s v4 := by
    subst v4
    refine Still.trans ?_ (still_event _ _ _)
    refine Still.trans ?_ (still_bump _ _)
    exact hv3
  refine still_ite ?_ ?_
  · refine Still.trans ?_ (still_snapWrite _)
    exact hv4
  · exact hv4

theorem still_snapshot (s : State) (cause : Nat) (slot : Nat) : Still s (State.snapshot s cause slot) := by
  unfold State.snapshot
  split
  · refine still_ite ?_ ?_
    · refine Still.trans ?_ (still_bump _ _)
      exact Still.refl _
    · refine Still.trans ?_ (still_snapNow _ _)
      exact Still.refl _
  · refine Still.trans ?_ (still_snapNow _ _)
    exact Still.refl _

theorem keep_resetLogic (s : State) (kept : Bool) : Keep s (s.resetLogic kept) := by
  unfold State.resetLogic
  extract_lets r a1 a2 a3 a4 a5 a6 t t1 a7 t2
  have h : Keep s t := by
    refine keep_mkc (t := s) (Keep.refl s) fun c => ?_
    cases kept
    · exact ⟨rfl, rfl⟩
    · exact c
  have h1 : Keep s t1 := Keep.trans h (still_putRegs _ _).keep
  clear_value t1
  have h2 : Keep s t2 := keep_mk h1
  clear_value t2
  refine Keep.trans ?_ (still_allocate _).keep
  exact keep_forEach _ (fun a n => by split; exact Keep.refl a; exact (still_wri a _ _ _).keep) h2

theorem still_writeSwap (s : State) (active : Nat) (trial : Bool) (attempts : Nat) (cause : Nat) : Still s (State.writeSwap s active trial
    attempts cause) := by
  unfold State.writeSwap
  extract_lets v1 v2 v3 v4 v5
  have hv4 : Still s v4 := by
    clear v5
    subst v4
    refine still_mk ?_
    exact Still.refl _
  have hv5 : Still s v5 := by
    subst v5
    iterate 3 refine Still.trans ?_ (still_wr _ _ _)
    exact hv4
  refine still_ite ?_ ?_
  · exact hv5
  · refine Still.trans ?_ (still_wr _ _ _)
    exact hv5

theorem still_latchAttn (s : State) (b : Nat) : Still s (State.latchAttn s b) := by
  unfold State.latchAttn
  refine still_ite ?_ ?_
  · exact Still.refl _
  · refine still_mk ?_
    exact Still.refl _

theorem still_chooseBlock (s : State) : StillP s (State.chooseBlock s) := by
  unfold State.chooseBlock
  split
  · extract_lets v1
    refine stillP_mk ?_
    refine Still.trans ?_ (still_writeSwap _ _ _ _ _)
    exact Still.refl _
  · refine stillP_ite ?_ ?_
    · refine stillP_mk ?_
      exact Still.refl _
    · refine stillP_ite ?_ ?_
      · refine stillP_mk ?_
        refine Still.trans ?_ (still_writeSwap _ _ _ _ _)
        exact Still.refl _
      · refine stillP_mk ?_
        refine Still.trans ?_ (still_latchAttn _ _)
        refine Still.trans ?_ (still_event _ _ _)
        refine Still.trans ?_ (still_writeSwap _ _ _ _ _)
        exact Still.refl _

theorem still_verifyBlocks (s : State) : StillP s (State.verifyBlocks s) := by
  unfold State.verifyBlocks
  extract_lets v1
  split
  rename_i w2 w3 w4 w5
  have hw3 : Still s w3 := by
    refine still_fst ?_ w5
    refine Still.trans ?_ (still_chooseBlock _)
    exact Still.refl _
  refine stillP_ite ?_ ?_
  · refine stillP_mk ?_
    exact hw3
  · refine stillP_ite ?_ ?_
    · refine stillP_mk ?_
      refine Still.trans ?_ (still_writeSwap _ _ _ _ _)
      dsimp only [v1]
      refine Still.trans ?_ (still_wr _ _ _)
      refine Still.trans ?_ (still_event _ _ _)
      exact hw3
    · refine stillP_mk ?_
      dsimp only [v1]
      refine Still.trans ?_ (still_wr _ _ _)
      refine Still.trans ?_ (still_event _ _ _)
      refine Still.trans ?_ (still_wr _ _ _)
      refine Still.trans ?_ (still_event _ _ _)
      exact hw3

theorem still_runBlock (s : State) (b : Nat) : Still s (State.runBlock s b) := by
  unfold State.runBlock
  extract_lets v1 v2 v3 v4 v5 v6 v7
  have hv2 : Still s v2 := by
    clear v3 v4 v5 v6 v7
    subst v2
    iterate 3 refine Still.trans ?_ (still_wr _ _ _)
    exact Still.refl _
  have hv3 : Still s v3 := by
    clear v4 v5 v6 v7
    subst v3
    iterate 3 refine Still.trans ?_ (still_wr _ _ _)
    exact hv2
  have hv4 : Still s v4 := by
    clear v5 v6 v7
    subst v4
    refine Still.trans ?_ (still_wr _ _ _)
    exact hv3
  have hv6 : Still s v6 := by
    clear v7
    subst v6
    refine Still.trans ?_ (still_event _ _ _)
    exact hv4
  refine still_mk ?_
  exact hv6

theorem still_sbAlert (s : State) (cause : Nat) : Still s (State.sbAlert s cause) := by
  unfold State.sbAlert
  refine still_ite ?_ ?_
  · refine still_mk ?_
    exact Still.refl _
  · exact Still.refl _

theorem still_enterPhase (s : State) (p : Nat) (cause : Nat) : Still s (State.enterPhase s p cause) := by
  unfold State.enterPhase
  extract_lets v1 v2 v3
  have hv3 : Still s v3 := by
    subst v3
    refine still_ite ?_ ?_
    · refine still_mk ?_
      exact Still.refl _
    · exact Still.refl _
  refine Still.trans ?_ (still_sbAlert _ _)
  iterate 4 refine Still.trans ?_ (still_wr _ _ _)
  refine Still.trans ?_ (still_event _ _ _)
  exact hv3

theorem still_settleAttn (s : State) : Still s (State.settleAttn s) := by
  unfold State.settleAttn
  extract_lets v1 v2 v3 v4
  have hv4 : Still s v4 := by
    subst v4
    iterate 3 refine Still.trans ?_ (still_wr _ _ _)
    exact Still.refl _
  refine still_ite ?_ ?_
  · exact Still.refl _
  · refine still_ite ?_ ?_
    · refine Still.trans ?_ (still_sbAlert _ _)
      exact hv4
    · exact hv4

theorem still_send (s : State) (m : Msg) : Still s (State.send s m) := by
  unfold State.send
  refine still_mk ?_
  exact Still.refl _

theorem still_setHead (s : State) (k : Nat) (h : Head) : Still s (State.setHead s k h) := by
  unfold State.setHead
  refine still_mk ?_
  exact Still.refl _

theorem still_msix (s : State) (k : Nat) (vec : Nat) : Still s (State.msix s k vec) := by
  unfold State.msix
  extract_lets v1
  refine still_ite ?_ ?_
  · refine Still.trans ?_ (still_setHead _ _ _)
    exact Still.refl _
  · refine still_ite ?_ ?_
    · refine Still.trans ?_ (still_send _ _)
      exact Still.refl _
    · exact Still.refl _

theorem still_msix0 (s : State) : Still s (State.msix0 s) := by
  unfold State.msix0
  refine still_forEach _ ?_ ?_
  · intro a1 a2
    refine still_ite ?_ ?_
    · refine Still.trans ?_ (still_msix _ _ _)
      exact Still.refl _
    · exact Still.refl _
  · exact Still.refl _

theorem still_updReady (s : State) : Still s (State.updReady s) := by
  unfold State.updReady
  extract_lets v1 v2 v3
  have hv3 : Still s v3 := by
    subst v3
    refine still_ite ?_ ?_
    · exact Still.refl _
    · refine Still.trans ?_ (still_sbAlert _ _)
      refine Still.trans ?_ (still_msix0 _)
      refine Still.trans ?_ (still_wr _ _ _)
      refine Still.trans ?_ (still_wr _ _ _)
      exact Still.refl _
  refine Still.trans ?_ (still_settleAttn _)
  exact hv3

theorem still_setDom (s : State) (d : Nat) (v : Nat) : Still s (State.setDom s d v) := by
  unfold State.setDom
  refine Still.trans ?_ (still_wr _ _ _)
  exact Still.refl _

theorem still_setDoms (s : State) (l : List Nat) (v : Nat) : Still s (State.setDoms s l v) := by
  unfold State.setDoms
  refine still_forEach _ ?_ ?_
  · intro a1 a2
    refine Still.trans ?_ (still_setDom _ _ _)
    exact Still.refl _
  · exact Still.refl _

theorem still_enterRecoveryPhase (s : State) (cause : Nat) : Still s (State.enterRecoveryPhase s cause) := by
  unfold State.enterRecoveryPhase
  extract_lets v1 v2 v3 v4 v5 v6
  have hv1 : Still s v1 := by
    clear v2 v3 v4 v5 v6
    subst v1
    iterate 4 refine Still.trans ?_ (still_wr _ _ _)
    exact Still.refl _
  have hv4 : Still s v4 := by
    clear v5 v6
    subst v4
    refine still_mk ?_
    exact hv1
  have hv5 : Still s v5 := by
    clear v6
    subst v5
    iterate 3 refine Still.trans ?_ (still_wr _ _ _)
    exact hv4
  have hv6 : Still s v6 := by
    subst v6
    iterate 3 refine Still.trans ?_ (still_setDoms _ _ _)
    exact hv5
  refine Still.trans ?_ (still_updReady _)
  refine Still.trans ?_ (still_event _ _ _)
  refine Still.trans ?_ (still_snapWrite _)
  refine Still.trans ?_ (still_enterPhase _ _ _)
  exact hv6

theorem still_skipFree (s : State) : Still s (State.skipFree s) := by
  unfold State.skipFree
  refine still_mk ?_
  exact Still.refl _

theorem still_logRaw (s : State) (e : LogEntry) : Still s (State.logRaw s e) := by
  unfold State.logRaw
  extract_lets v1 v2 v3
  refine Still.trans ?_ (still_wr _ _ _)
  refine Still.trans ?_ (still_wr _ _ _)
  refine still_mk ?_
  exact Still.refl _

theorem still_logSummary (s : State) (p : Nat × Summary) : Still s (State.logSummary s p) := by
  unfold State.logSummary
  refine still_forEach _ ?_ ?_
  · intro a1 a2
    refine Still.trans ?_ (still_logRaw _ _)
    exact Still.refl _
  · exact Still.refl _

theorem still_checkpoint (s : State) : Still s (State.checkpoint s) := by
  unfold State.checkpoint
  extract_lets v1 v2 v3 v4 v5 v6 v7
  have hv3 : Still s v3 := by
    clear v4 v5 v6 v7
    subst v3
    refine Still.trans ?_ (still_logRaw _ _)
    exact Still.refl _
  have hv4 : Still s v4 := by
    clear v5 v6 v7
    subst v4
    refine still_foldl _ ?_ ?_
    · intro a8 a9
      refine Still.trans ?_ (still_logSummary _ _)
      exact Still.refl _
    · exact hv3
  have hv5 : Still s v5 := by
    clear v6 v7
    subst v5
    refine Still.trans ?_ (still_logRaw _ _)
    exact hv4
  have hv7 : Still s v7 := by
    subst v7
    refine still_mk ?_
    exact hv5
  refine Still.trans ?_ (still_skipFree _)
  refine Still.trans ?_ (still_event _ _ _)
  exact hv7

theorem still_logWrite (s : State) (e : LogEntry) : Still s (State.logWrite s e) := by
  unfold State.logWrite
  refine still_ite ?_ ?_
  · refine Still.trans ?_ (still_logRaw _ _)
    refine Still.trans ?_ (still_checkpoint _)
    exact Still.refl _
  · refine Still.trans ?_ (still_logRaw _ _)
    exact Still.refl _

theorem still_processOcc (s : State) (o : Occ) : Still s (State.processOcc s o) := by
  unfold State.processOcc
  extract_lets v1 v2 v3 v4 v5 v6 v7 v8 v9 v10 v11 v12 v13 v14 v15
  have hv12 : Still s v12 := by
    clear v13 v14 v15
    subst v12
    refine still_ite ?_ ?_
    · refine still_mk ?_
      exact Still.refl _
    · exact Still.refl _
  refine still_ite ?_ ?_
  · refine Still.trans ?_ (still_logWrite _ _)
    refine still_mk ?_
    exact hv12
  · refine still_mk ?_
    exact hv12

theorem still_recorderRebuild (s : State) : Still s (State.recorderRebuild s) := by
  unfold State.recorderRebuild
  extract_lets v1 v2 v3 v4 v5 v6 v7 v8 v9
  have hv5 : Still s v5 := by
    clear v6 v7 v8 v9
    subst v5
    refine still_mk ?_
    exact Still.refl _
  have hv6 : Still s v6 := by
    clear v7 v8 v9
    subst v6
    split
    · refine Still.trans ?_ (still_wr _ _ _)
      refine Still.trans ?_ (still_wr _ _ _)
      exact hv5
    · exact hv5
  have hv7 : Still s v7 := by
    clear v8 v9
    subst v7
    refine still_foldl _ ?_ ?_
    · intro a10 a11
      refine Still.trans ?_ (still_processOcc _ _)
      exact Still.refl _
    · exact hv6
  have hv8 : Still s v8 := by
    clear v9
    subst v8
    refine Still.trans ?_ (still_logWrite _ _)
    exact hv7
  have hv9 : Still s v9 := by
    subst v9
    refine still_ite ?_ ?_
    · exact hv8
    · refine Still.trans ?_ (still_latchAttn _ _)
      refine Still.trans ?_ (still_event _ _ _)
      exact hv8
  refine Still.trans ?_ (still_wr _ _ _)
  refine Still.trans ?_ (still_wr _ _ _)
  exact hv9

theorem still_bootChain (s : State) : Still s (State.bootChain s) := by
  unfold State.bootChain
  extract_lets v1 v2 v3 v4 v5 v6 v7 v8 v9
  have hv3 : Still s v3 := by
    clear v4 v5 v6 v7 v8 v9
    subst v3
    refine still_mk ?_
    exact Still.refl _
  have hv4 : Still s v4 := by
    clear v5 v6 v7 v8 v9
    subst v4
    refine Still.trans ?_ (still_boscStart _)
    refine Still.trans ?_ (still_wr _ _ _)
    exact hv3
  have hv5 : Still s v5 := by
    clear v6 v7 v8 v9
    subst v5
    refine Still.trans ?_ (still_wr _ _ _)
    exact hv4
  have hv6 : Still s v6 := by
    clear v7 v8 v9
    subst v6
    refine Still.trans ?_ (still_wr _ _ _)
    refine Still.trans ?_ (still_wr _ _ _)
    exact hv5
  have hv8 : Still s v8 := by
    clear v9
    subst v8
    refine Still.trans ?_ (still_wr _ _ _)
    refine Still.trans ?_ (still_wr _ _ _)
    exact hv6
  have hv9 : Still s v9 := by
    subst v9
    refine still_ite ?_ ?_
    · exact hv8
    · refine Still.trans ?_ (still_event _ _ _)
      exact hv8
  refine still_ite ?_ ?_
  · refine Still.trans ?_ (still_enterRecoveryPhase _ _)
    exact hv9
  · refine still_ite ?_ ?_
    · refine Still.trans ?_ (still_enterRecoveryPhase _ _)
      exact hv9
    · refine still_ite ?_ ?_
      · refine Still.trans ?_ (still_enterRecoveryPhase _ _)
        exact hv9
      · split
        · rename_i w10 w11 w12
          have hw11 : Still s w11 := by
            refine still_fst ?_ w12
            refine Still.trans ?_ (still_verifyBlocks _)
            exact hv9
          refine Still.trans ?_ (still_enterRecoveryPhase _ _)
          exact hw11
        · rename_i w13 w14 w15 w16
          have hw14 : Still s w14 := by
            refine still_fst ?_ w16
            refine Still.trans ?_ (still_verifyBlocks _)
            exact hv9
          refine Still.trans ?_ (still_updReady _)
          refine Still.trans ?_ (still_snapWrite _)
          refine Still.trans ?_ (still_recorderRebuild _)
          refine Still.trans ?_ (still_wr _ _ _)
          refine Still.trans ?_ (still_runBlock _ _)
          exact hw14

theorem still_setSeq (s : State) (seq : Nat) (step : Nat) : Still s (State.setSeq s seq step) := by
  unfold State.setSeq
  refine Still.trans ?_ (still_wr _ _ _)
  refine Still.trans ?_ (still_wr _ _ _)
  exact Still.refl _

theorem keep_intoDormant (s : State) (cause : Nat) : Keep s (State.intoDormant s cause) := by
  unfold State.intoDormant
  extract_lets v1 v2 v3 v4 v5 v6 v7 v8 v9 v10
  have hv1 : Keep s v1 := by
    clear v2 v3 v4 v5 v6 v7 v8 v9 v10
    subst v1
    exact Keep.refl _
  have hv4 : Keep s v4 := by
    clear v5 v6 v7 v8 v9 v10
    subst v4
    refine keep_mk ?_
    exact hv1
  have hv5 : Keep s v5 := by
    clear v6 v7 v8 v9 v10
    subst v5
    refine Keep.trans ?_ (keep_resetLogic _ _)
    refine Keep.trans ?_ (still_enterPhase _ _ _).keep
    refine Keep.trans ?_ (still_sleepLatch _).keep
    exact hv4
  have hv7 : Keep s v7 := by
    clear v8 v9 v10
    subst v7
    refine keep_mk ?_
    exact hv5
  have hv9 : Keep s v9 := by
    clear v10
    subst v9
    refine keep_mk ?_
    exact hv7
  have hv10 : Keep s v10 := by
    subst v10
    refine Keep.trans ?_ (still_wr _ _ _).keep
    refine Keep.trans ?_ (still_wr _ _ _).keep
    exact hv9
  refine Keep.trans ?_ (still_wr _ _ _).keep
  exact hv10

theorem still_skipSteps (s : State) (d : Down) (slot : Nat) (ks : List Nat) : Still s (State.skipSteps s d slot ks) := by
  unfold State.skipSteps
  extract_lets v1 v2 v3
  have hv2 : Still s v2 := by
    clear v3
    subst v2
    refine still_forEach _ ?_ ?_
    · intro a4 a5
      refine Still.trans ?_ (still_event _ _ _)
      exact Still.refl _
    · exact Still.refl _
  refine still_mk ?_
  exact hv2

theorem keep_powerDown (s : State) (cause : Nat) : Keep s (State.powerDown s cause) := by
  unfold State.powerDown
  extract_lets v1 v2 v3
  have hv2 : Keep s v2 := by
    clear v3
    subst v2
    refine Keep.trans ?_ (keep_intoDormant _ _)
    exact Keep.refl _
  refine Keep.trans ?_ (still_wr _ _ _).keep
  refine Keep.trans ?_ (still_setSeq _ _ _).keep
  refine keep_mk ?_
  exact hv2

theorem still_unbinnedOcc (s : State) (o : Occ) : Still s (State.unbinnedOcc s o) := by
  unfold State.unbinnedOcc
  extract_lets v1 v2
  refine still_mk ?_
  exact Still.refl _

theorem still_recorderClose (s : State) : Still s (State.recorderClose s) := by
  unfold State.recorderClose
  extract_lets v1 v2 v3 v4 v5 v6 v7 v8 v9
  have hv5 : Still s v5 := by
    clear v6 v7 v8 v9
    subst v5
    refine Still.trans ?_ (still_skipFree _)
    exact Still.refl _
  have hv7 : Still s v7 := by
    clear v8 v9
    subst v7
    refine still_mk ?_
    exact hv5
  have hv8 : Still s v8 := by
    clear v9
    subst v8
    refine still_foldl _ ?_ ?_
    · intro a10 a11
      refine Still.trans ?_ (still_unbinnedOcc _ _)
      exact Still.refl _
    · refine still_foldl _ ?_ ?_
      · intro a12 a13
        refine Still.trans ?_ (still_processOcc _ _)
        exact Still.refl _
      · exact hv7
  have hv9 : Still s v9 := by
    subst v9
    refine still_foldl _ ?_ ?_
    · intro a14 a15
      refine still_ite ?_ ?_
      · exact Still.refl _
      · extract_lets v16 v17 v18
        have hv16 : Still a14 v16 := by
          clear v17 v18
          subst v16
          refine Still.trans ?_ (still_logWrite _ _)
          exact Still.refl _
        refine still_mk ?_
        exact hv16
    · exact hv8
  refine Still.trans ?_ (still_logWrite _ _)
  exact hv9

theorem still_downRecords (s : State) (d : Down) : Still s (State.downRecords s d) := by
  unfold State.downRecords
  extract_lets v1 v2
  have hv1 : Still s v1 := by
    clear v2
    subst v1
    refine Still.trans ?_ (still_wr _ _ _)
    refine Still.trans ?_ (still_recorderClose _)
    refine Still.trans ?_ (still_snapWrite _)
    refine Still.trans ?_ (still_wr _ _ _)
    exact Still.refl _
  refine still_mk ?_
  exact hv1

theorem still_downHold (s : State) : Still s (State.downHold s) := by
  unfold State.downHold
  extract_lets v1 v2 v3
  refine still_mk ?_
  exact Still.refl _

theorem still_downEnd (s : State) (d : Down) : Still s (State.downEnd s d) := by
  unfold State.downEnd
  extract_lets v1 v2 v3 v4 v5
  have hv1 : Still s v1 := by
    clear v2 v3 v4 v5
    subst v1
    refine still_forEach _ ?_ ?_
    · intro a6 a7
      refine still_ite ?_ ?_
      · refine Still.trans ?_ (still_wri _ _ _ _)
        exact Still.refl _
      · exact Still.refl _
    · exact Still.refl _
  have hv2 : Still s v2 := by
    clear v3 v4 v5
    subst v2
    refine Still.trans ?_ (still_event _ _ _)
    exact hv1
  have hv3 : Still s v3 := by
    clear v4 v5
    subst v3
    refine still_ite ?_ ?_
    · refine Still.trans ?_ (still_downHold _)
      exact hv2
    · exact hv2
  have hv5 : Still s v5 := by
    subst v5
    refine still_mk ?_
    exact hv3
  refine Still.trans ?_ (still_setSeq _ _ _)
  exact hv5

theorem still_downStep (s : State) : Still s (State.downStep s) := by
  unfold State.downStep
  split
  · exact Still.refl _
  · split
    · refine Still.trans ?_ (still_downEnd _ _)
      exact Still.refl _
    · extract_lets v1 v2
      have hv1 : Still s v1 := by
        clear v2
        subst v1
        refine still_ite ?_ ?_
        · refine Still.trans ?_ (still_downRecords _ _)
          exact Still.refl _
        · refine still_forEach _ ?_ ?_
          · intro a3 a4
            refine Still.trans ?_ (still_wri _ _ _ _)
            exact Still.refl _
          · exact Still.refl _
      refine still_ite ?_ ?_
      · refine Still.trans ?_ (still_downEnd _ _)
        exact hv1
      · refine Still.trans ?_ (still_setSeq _ _ _)
        refine still_mk ?_
        exact hv1

theorem still_downRest (s : State) : Still s (State.downRest s) := by
  unfold State.downRest
  refine still_forEach _ ?_ ?_
  · intro a1 a2
    refine Still.trans ?_ (still_downStep _)
    exact Still.refl _
  · exact Still.refl _

theorem still_downFault (s : State) (slot : Nat) : Still s (State.downFault s slot) := by
  unfold State.downFault
  split
  · exact Still.refl _
  · refine Still.trans ?_ (still_skipSteps _ _ _ _)
    exact Still.refl _

theorem still_energyGone (s : State) : Still s (State.energyGone s) := by
  unfold State.energyGone
  extract_lets v1 v2 v3 v4 v5 v6 v7 v8
  have hv6 : Still s v6 := by
    clear v7 v8
    subst v6
    refine still_mk ?_
    exact Still.refl _
  have hv7 : Still s v7 := by
    clear v8
    subst v7
    refine still_forEach _ ?_ ?_
    · intro a9 a10
      refine still_ite ?_ ?_
      · refine Still.trans ?_ (still_wri _ _ _ _)
        exact Still.refl _
      · exact Still.refl _
    · exact hv6
  have hv8 : Still s v8 := by
    subst v8
    refine Still.trans ?_ (still_wr _ _ _)
    refine Still.trans ?_ (still_setSeq _ _ _)
    refine Still.trans ?_ (still_wr _ _ _)
    refine Still.trans ?_ (still_wr _ _ _)
    exact hv7
  iterate 3 refine Still.trans ?_ (still_wr _ _ _)
  exact hv8

theorem keep_offRequest (s : State) (cause : Nat) : Keep s (State.offRequest s cause) := by
  unfold State.offRequest
  refine keep_ite ?_ ?_
  · refine Keep.trans ?_ (keep_intoDormant _ _)
    exact Keep.refl _
  · refine keep_ite ?_ ?_
    · refine Keep.trans ?_ (keep_powerDown _ _)
      refine Keep.trans ?_ (still_event _ _ _).keep
      exact Keep.refl _
    · refine Keep.trans ?_ (keep_powerDown _ _)
      exact Keep.refl _

theorem still_testComparators (s : State) : Still s (State.testComparators s) := by
  unfold State.testComparators
  extract_lets v1 v2 v3 v4
  have hv3 : Still s v3 := by
    clear v4
    subst v3
    refine Still.trans ?_ (still_wr _ _ _)
    refine Still.trans ?_ (still_wr _ _ _)
    exact Still.refl _
  have hv4 : Still s v4 := by
    subst v4
    refine still_ite ?_ ?_
    · exact hv3
    · refine Still.trans ?_ (still_event _ _ _)
      exact hv3
  refine still_ite ?_ ?_
  · exact hv4
  · refine Still.trans ?_ (still_event _ _ _)
    exact hv4

theorem still_setBit (s : State) (f : Field) (b : Nat) (v : Bool) : Still s (State.setBit s f b v) := by
  unfold State.setBit
  refine Still.trans ?_ (still_wr _ _ _)
  exact Still.refl _

theorem still_lockTraining (s : State) : Still s (State.lockTraining s) := by
  unfold State.lockTraining
  refine still_ite ?_ ?_
  · exact Still.refl _
  · extract_lets v1
    have hv1 : Still s v1 := by
      subst v1
      refine still_ite ?_ ?_
      · refine Still.trans ?_ (still_setBit _ _ _ _)
        exact Still.refl _
      · exact Still.refl _
    refine still_ite ?_ ?_
    · refine Still.trans ?_ (still_setBit _ _ _ _)
      exact hv1
    · exact hv1

theorem still_stepDone (s : State) (k : Nat) : Still s (State.stepDone s k) := by
  unfold State.stepDone
  refine still_ite ?_ ?_
  · extract_lets v1
    have hv1 : Still s v1 := by
      subst v1
      refine Still.trans ?_ (still_setDom _ _ _)
      exact Still.refl _
    refine still_ite ?_ ?_
    · exact hv1
    · refine Still.trans ?_ (still_bootChain _)
      exact hv1
  · refine still_ite ?_ ?_
    · refine still_ite ?_ ?_
      · exact Still.refl _
      · refine Still.trans ?_ (still_testComparators _)
        refine Still.trans ?_ (still_wr _ _ _)
        refine Still.trans ?_ (still_setDom _ _ _)
        exact Still.refl _
    · refine still_ite ?_ ?_
      · exact Still.refl _
      · refine still_ite ?_ ?_
        · refine Still.trans ?_ (still_lockTraining _)
          refine Still.trans ?_ (still_setDoms _ _ _)
          exact Still.refl _
        · refine still_ite ?_ ?_
          · refine Still.trans ?_ (still_lockTraining _)
            refine Still.trans ?_ (still_setDoms _ _ _)
            exact Still.refl _
          · refine still_ite ?_ ?_
            · refine still_ite ?_ ?_
              · exact Still.refl _
              · refine Still.trans ?_ (still_setDoms _ _ _)
                exact Still.refl _
            · refine still_ite ?_ ?_
              · refine still_ite ?_ ?_
                · exact Still.refl _
                · refine Still.trans ?_ (still_setDoms _ _ _)
                  exact Still.refl _
              · exact Still.refl _

theorem still_powerOn (s : State) : Still s (State.powerOn s) := by
  unfold State.powerOn
  refine Still.trans ?_ (still_updReady _)
  refine Still.trans ?_ (still_event _ _ _)
  refine Still.trans ?_ (still_setSeq _ _ _)
  refine still_mk ?_
  exact Still.refl _

theorem still_seekOp (s : State) (op : Nat) : Still s (State.seekOp s op) := by
  unfold State.seekOp
  refine still_ite ?_ ?_
  · refine still_mk ?_
    exact Still.refl _
  · refine still_ite ?_ ?_
    · refine Still.trans ?_ (still_wr _ _ _)
      exact Still.refl _
    · refine Still.trans ?_ (still_wr _ _ _)
      extract_lets v1 v2
      have hv1 : Still s v1 := by
        clear v2
        subst v1
        refine Still.trans ?_ (still_wr _ _ _)
        exact Still.refl _
      refine still_mk ?_
      exact hv1

theorem still_powerAdvance (s : State) (n : Nat) : Still s (State.powerAdvance s n) := by
  induction n generalizing s with
  | zero => exact Still.refl s
  | succ n ih =>
    unfold State.powerAdvance
    extract_lets v1 v2 v3 v4
    have hv3 : Still s v3 := by
      clear v4
      subst v3
      refine Still.trans ?_ (still_stepDone _ _)
      refine still_mk ?_
      exact Still.refl _
    refine still_ite ?_ ?_
    · exact Still.refl _
    · refine still_ite ?_ ?_
      · refine still_ite ?_ ?_
        · refine still_ite ?_ ?_
          · refine Still.trans ?_ (still_powerOn _)
            exact Still.refl _
          · refine Still.trans ?_ (still_seekOp _ _)
            exact Still.refl _
        · exact Still.refl _
      · refine still_ite ?_ ?_
        · refine still_ite ?_ ?_
          · refine Still.trans ?_ (still_powerOn _)
            exact hv3
          · refine still_ite ?_ ?_
            · exact hv3
            · refine Still.trans ?_ (ih _)
              refine Still.trans ?_ (still_setSeq _ _ _)
              refine still_mk ?_
              exact hv3
        · exact Still.refl _

theorem still_powerUp (s : State) : Still s (State.powerUp s) := by
  unfold State.powerUp
  extract_lets v1 v2
  have hv2 : Still s v2 := by
    subst v2
    refine still_mk ?_
    exact Still.refl _
  refine Still.trans ?_ (still_powerAdvance _ _)
  refine Still.trans ?_ (still_setSeq _ _ _)
  exact hv2

theorem keep_rebirth (s : State) (kept : Bool) (cause : Nat) : Keep s (State.rebirth s kept cause) := by
  unfold State.rebirth
  extract_lets v1
  have hv1 : Keep s v1 := by
    subst v1
    refine Keep.trans ?_ (still_putRegs _ _).keep
    refine Keep.trans ?_ (keep_resetLogic _ _)
    exact Keep.refl _
  refine Keep.trans ?_ (still_powerUp _).keep
  refine keep_ite ?_ ?_
  · exact hv1
  · refine Keep.trans ?_ (still_enterPhase _ _ _).keep
    exact hv1

theorem still_settlePartial (s : State) : Still s (State.settlePartial s) := by
  unfold State.settlePartial
  refine still_ite ?_ ?_
  · refine still_mk ?_
    exact Still.refl _
  · exact Still.refl _

theorem still_settleMr (s : State) : Still s (State.settleMr s) := by
  unfold State.settleMr
  extract_lets v1 v2 v3 v4 v5 v6 v7 v8 v9 v10 v11 v12 v13 v14 v15 v16 v17 v18 v19 v20 v21 v22
  have hv4 : Still s v4 := by
    clear v5 v6 v7 v8 v9 v10 v11 v12 v13 v14 v15 v16 v17 v18 v19 v20 v21 v22
    subst v4
    refine still_ite ?_ ?_
    · refine Still.trans ?_ (still_wr _ _ _)
      exact Still.refl _
    · exact Still.refl _
  have hv6 : Still s v6 := by
    clear v7 v8 v9 v10 v11 v12 v13 v14 v15 v16 v17 v18 v19 v20 v21 v22
    subst v6
    refine still_ite ?_ ?_
    · refine Still.trans ?_ (still_event _ _ _)
      refine still_mk ?_
      exact hv4
    · refine still_ite ?_ ?_
      · refine Still.trans ?_ (still_event _ _ _)
        exact hv4
      · exact hv4
  have hv7 : Still s v7 := by
    clear v8 v9 v10 v11 v12 v13 v14 v15 v16 v17 v18 v19 v20 v21 v22
    subst v7
    refine Still.trans ?_ (still_wr _ _ _)
    exact hv6
  have hv12 : Still s v12 := by
    clear v13 v14 v15 v16 v17 v18 v19 v20 v21 v22
    subst v12
    refine still_ite ?_ ?_
    · refine Still.trans ?_ (still_event _ _ _)
      exact hv7
    · exact hv7
  have hv13 : Still s v13 := by
    clear v14 v15 v16 v17 v18 v19 v20 v21 v22
    subst v13
    iterate 3 refine Still.trans ?_ (still_wr _ _ _)
    exact hv12
  have hv16 : Still s v16 := by
    clear v17 v18 v19 v20 v21 v22
    subst v16
    refine still_forEach _ ?_ ?_
    · intro a23 a24
      refine still_ite ?_ ?_
      · refine still_ite ?_ ?_
        · exact Still.refl _
        · refine Still.trans ?_ (still_wri _ _ _ _)
          exact Still.refl _
      · refine still_ite ?_ ?_
        · refine Still.trans ?_ (still_wri _ _ _ _)
          exact Still.refl _
        · refine Still.trans ?_ (still_skipFree _)
          refine Still.trans ?_ (still_wri _ _ _ _)
          exact Still.refl _
    · exact hv13
  have hv17 : Still s v17 := by
    clear v18 v19 v20 v21 v22
    subst v17
    refine still_forEach _ ?_ ?_
    · intro a25 a26
      extract_lets v27
      refine still_ite ?_ ?_
      · exact Still.refl _
      · refine Still.trans ?_ (still_wri _ _ _ _)
        exact Still.refl _
    · exact hv16
  have hv18 : Still s v18 := by
    clear v19 v20 v21 v22
    subst v18
    refine Still.trans ?_ (still_wr _ _ _)
    exact hv17
  have hv21 : Still s v21 := by
    clear v22
    subst v21
    refine still_ite ?_ ?_
    · exact hv18
    · refine still_mk ?_
      exact hv18
  have hv22 : Still s v22 := by
    subst v22
    refine still_ite ?_ ?_
    · refine Still.trans ?_ (still_wr _ _ _)
      exact hv21
    · exact hv21
  refine Still.trans ?_ (still_settlePartial _)
  exact hv22

theorem still_setProc (s : State) (p : Nat) (v : Nat) : Still s (State.setProc s p v) := by
  unfold State.setProc
  refine Still.trans ?_ (still_wr _ _ _)
  exact Still.refl _

theorem still_startReload (s : State) (n : Nat) (cause : Nat) : Still s (State.startReload s n cause) := by
  unfold State.startReload
  refine still_ite ?_ ?_
  · extract_lets v1 v2 v3 v4 v5
    have hv1 : Still s v1 := by
      clear v2 v3 v4 v5
      subst v1
      refine Still.trans ?_ (still_setProc _ _ _)
      exact Still.refl _
    have hv3 : Still s v3 := by
      clear v4 v5
      subst v3
      refine still_mk ?_
      exact hv1
    have hv4 : Still s v4 := by
      clear v5
      subst v4
      refine still_ite ?_ ?_
      · refine Still.trans ?_ (still_wr _ _ _)
        exact hv3
      · exact hv3
    have hv5 : Still s v5 := by
      subst v5
      refine still_ite ?_ ?_
      · refine Still.trans ?_ (still_wr _ _ _)
        exact hv4
      · exact hv4
    refine Still.trans ?_ (still_updReady _)
    refine still_ite ?_ ?_
    · refine Still.trans ?_ (still_settleMr _)
      exact hv5
    · exact hv5
  · exact Still.refl _

theorem still_nextReload (s : State) : Still s (State.nextReload s) := by
  unfold State.nextReload
  refine still_ite ?_ ?_
  · exact Still.refl _
  · split
    · refine Still.trans ?_ (still_startReload _ _ _)
      refine still_mk ?_
      exact Still.refl _
    · refine Still.trans ?_ (still_startReload _ _ _)
      refine still_mk ?_
      exact Still.refl _
    · exact Still.refl _

theorem still_powerStart (s : State) (cause : Nat) (ticks : Nat) : Still s (State.powerStart s cause ticks) := by
  unfold State.powerStart
  extract_lets v1 v2 v3 v4 v5 v6 v7 v8 v9
  have hv3 : Still s v3 := by
    clear v4 v5 v6 v7 v8 v9
    subst v3
    refine Still.trans ?_ (still_wr _ _ _)
    refine Still.trans ?_ (still_wr _ _ _)
    refine still_mk ?_
    exact Still.refl _
  have hv4 : Still s v4 := by
    clear v5 v6 v7 v8 v9
    subst v4
    refine still_ite ?_ ?_
    · refine still_ite ?_ ?_
      · refine Still.trans ?_ (still_event _ _ _)
        exact hv3
      · exact hv3
    · refine Still.trans ?_ (still_sleepWake _ _)
      exact Still.refl _
  have hv6 : Still s v6 := by
    clear v7 v8 v9
    subst v6
    refine still_mk ?_
    exact hv4
  have hv7 : Still s v7 := by
    clear v8 v9
    subst v7
    refine Still.trans ?_ (still_wr _ _ _)
    refine Still.trans ?_ (still_wr _ _ _)
    exact hv6
  have hv9 : Still s v9 := by
    subst v9
    refine still_mk ?_
    exact hv7
  refine Still.trans ?_ (still_powerUp _)
  refine Still.trans ?_ (still_enterPhase _ _ _)
  exact hv9

theorem still_onRequest (s : State) (cause : Nat) (ticks : Nat) : Still s (State.onRequest s cause ticks) := by
  unfold State.onRequest
  refine still_ite ?_ ?_
  · refine still_mk ?_
    exact Still.refl _
  · refine still_ite ?_ ?_
    · exact Still.refl _
    · refine still_ite ?_ ?_
      · refine Still.trans ?_ (still_event _ _ _)
        refine Still.trans ?_ (still_wr _ _ _)
        refine still_mk ?_
        exact Still.refl _
      · refine still_ite ?_ ?_
        · refine Still.trans ?_ (still_setSeq _ _ _)
          refine Still.trans ?_ (still_wr _ _ _)
          refine still_mk ?_
          exact Still.refl _
        · refine Still.trans ?_ (still_powerStart _ _ _)
          exact Still.refl _

theorem still_memRate (s : State) (lfo : Bool) : Still s (State.memRate s lfo) := by
  unfold State.memRate
  refine still_ite ?_ ?_
  · exact Still.refl _
  · extract_lets v1
    have hv1 : Still s v1 := by
      subst v1
      refine Still.trans ?_ (still_event _ _ _)
      refine Still.trans ?_ (still_wr _ _ _)
      exact Still.refl _
    refine still_forEach _ ?_ ?_
    · intro a2 a3
      refine Still.trans ?_ (still_wri _ _ _ _)
      exact Still.refl _
    · exact hv1

theorem still_setClock (s : State) (st : Nat) (cause : Nat) : Still s (State.setClock s st cause) := by
  unfold State.setClock
  extract_lets v1 v2 v3 v4 v5 v6 v7 v8
  have hv1 : Still s v1 := by
    clear v2 v3 v4 v5 v6 v7 v8
    subst v1
    refine Still.trans ?_ (still_clockState _ _ _)
    exact Still.refl _
  have hv5 : Still s v5 := by
    clear v6 v7 v8
    subst v5
    refine still_mk ?_
    exact hv1
  have hv6 : Still s v6 := by
    clear v7 v8
    subst v6
    refine Still.trans ?_ (still_wr _ _ _)
    exact hv5
  have hv8 : Still s v8 := by
    subst v8
    refine still_ite ?_ ?_
    · exact hv5
    · refine still_mk ?_
      exact hv6
  refine Still.trans ?_ (still_updReady _)
  refine Still.trans ?_ (still_lockTraining _)
  refine Still.trans ?_ (still_memRate _ _)
  exact hv8

theorem still_trip (s : State) (clock : Nat) (test : Nat) : Still s (State.trip s clock test) := by
  unfold State.trip
  refine Still.trans ?_ (still_event _ _ _)
  refine Still.trans ?_ (still_bump _ _)
  exact Still.refl _

theorem still_pllStop (s : State) (p : Nat) : Still s (State.pllStop s p) := by
  unfold State.pllStop
  refine still_ite ?_ ?_
  · exact Still.refl _
  · refine Still.trans ?_ (still_event _ _ _)
    extract_lets v1 v2
    have hv1 : Still s v1 := by
      clear v2
      subst v1
      refine Still.trans ?_ (still_setBit _ _ _ _)
      exact Still.refl _
    refine still_mk ?_
    exact hv1

theorem still_pllTo (s : State) (p : Nat) (n : Nat) : Still s (State.pllTo s p n) := by
  unfold State.pllTo
  refine still_ite ?_ ?_
  · refine Still.trans ?_ (still_pllStop _ _)
    exact Still.refl _
  · extract_lets v1 v2
    have hv2 : Still s v2 := by
      subst v2
      refine still_mk ?_
      exact Still.refl _
    refine still_ite ?_ ?_
    · refine Still.trans ?_ (still_memRate _ _)
      exact hv2
    · exact hv2

theorem still_stopStream (s : State) : Still s (State.stopStream s) := by
  unfold State.stopStream
  extract_lets v1 v2
  have hv2 : Still s v2 := by
    subst v2
    refine still_mk ?_
    exact Still.refl _
  iterate 4 refine Still.trans ?_ (still_wr _ _ _)
  exact hv2

theorem still_startScan (s : State) (n : Nat) (full : Bool) : Still s (State.startScan s n full) := by
  unfold State.startScan
  extract_lets v1 v2
  refine still_mk ?_
  exact Still.refl _

theorem still_pushOut (s : State) (p : Nat) (i : OutItem) : Still s (State.pushOut s p i) := by
  unfold State.pushOut
  refine still_ite ?_ ?_
  · refine still_mk ?_
    exact Still.refl _
  · refine still_mk ?_
    exact Still.refl _

theorem still_sendSeq (s : State) (ty : Nat) (ws : List Nat) : Still s (State.sendSeq s ty ws) := by
  unfold State.sendSeq
  extract_lets v1 v2 v3
  have hv2 : Still s v2 := by
    clear v3
    subst v2
    refine Still.trans ?_ (still_wr _ _ _)
    exact Still.refl _
  have hv3 : Still s v3 := by
    subst v3
    refine still_ite ?_ ?_
    · refine Still.trans ?_ (still_pushOut _ _ _)
      exact hv2
    · exact hv2
  refine still_ite ?_ ?_
  · refine Still.trans ?_ (still_pushOut _ _ _)
    exact hv3
  · exact hv3

theorem still_copyNext (s : State) : Still s (State.copyNext s) := by
  unfold State.copyNext
  refine still_ite ?_ ?_
  · exact Still.refl _
  · extract_lets v1
    split
    · extract_lets v2 v3 v4 v5 v6
      have hv3 : Still s v3 := by
        clear v4 v5 v6
        subst v3
        refine Still.trans ?_ (still_sendSeq _ _ _)
        exact Still.refl _
      have hv4 : Still s v4 := by
        clear v5 v6
        subst v4
        refine Still.trans ?_ (still_startScan _ _ _)
        exact hv3
      have hv6 : Still s v6 := by
        subst v6
        refine still_mk ?_
        exact hv4
      iterate 5 refine Still.trans ?_ (still_wr _ _ _)
      exact hv6
    · split
      · refine Still.trans ?_ (still_wr _ _ _)
        refine Still.trans ?_ (still_wr _ _ _)
        refine Still.trans ?_ (still_wr _ _ _)
        exact Still.refl _
      · extract_lets v7 v8 v9 v10
        have hv7 : Still s v7 := by
          clear v8 v9 v10
          subst v7
          refine Still.trans ?_ (still_sendSeq _ _ _)
          exact Still.refl _
        have hv8 : Still s v8 := by
          clear v9 v10
          subst v8
          refine Still.trans ?_ (still_startScan _ _ _)
          exact hv7
        have hv10 : Still s v10 := by
          subst v10
          refine still_mk ?_
          exact hv8
        iterate 5 refine Still.trans ?_ (still_wr _ _ _)
        exact hv10

theorem still_tellShare (s : State) (n : Nat) : Still s (State.tellShare s n) := by
  unfold State.tellShare
  refine still_ite ?_ ?_
  · refine Still.trans ?_ (still_send _ _)
    exact Still.refl _
  · exact Still.refl _

theorem still_setPair (s : State) (n : Nat) (w : Nat) : Still s (State.setPair s n w) := by
  unfold State.setPair
  refine still_ite ?_ ?_
  · exact Still.refl _
  · refine Still.trans ?_ (still_tellShare _ _)
    refine Still.trans ?_ (still_wri _ _ _ _)
    exact Still.refl _

theorem still_setLossrep (s : State) (n : Nat) (b : Bool) : Still s (State.setLossrep s n b) := by
  unfold State.setLossrep
  refine Still.trans ?_ (still_setPair _ _ _)
  exact Still.refl _

theorem still_setPstate (s : State) (n : Nat) (p : Nat) : Still s (State.setPstate s n p) := by
  unfold State.setPstate
  refine Still.trans ?_ (still_setPair _ _ _)
  exact Still.refl _

theorem still_setIncons (s : State) (n : Nat) (b : Bool) : Still s (State.setIncons s n b) := by
  unfold State.setIncons
  refine Still.trans ?_ (still_setPair _ _ _)
  exact Still.refl _

theorem still_noteCopy (s : State) (bits : Nat) (seq : Nat) (ty : Nat) (ws : List Nat) : Still s (State.noteCopy s bits seq ty ws) := by
  unfold State.noteCopy
  refine still_mk ?_
  exact Still.refl _

theorem still_releaseCopy (s : State) (p : Nat) (seq : Nat) (share : Nat) (units : Nat) (first : Nat) : Still s (State.releaseCopy s p seq
    share units first) := by
  unfold State.releaseCopy
  split
  · refine Still.trans ?_ (still_noteCopy _ _ _ _ _)
    refine still_mk ?_
    exact Still.refl _
  · split
    · refine still_mk ?_
      exact Still.refl _
    · refine still_mk ?_
      exact Still.refl _
    · extract_lets v1 v2 v3 v4
      have hv2 : Still s v2 := by
        clear v3 v4
        subst v2
        split
        · refine Still.trans ?_ (still_event _ _ _)
          refine still_mk ?_
          exact Still.refl _
        · exact Still.refl _
      refine Still.trans ?_ (still_noteCopy _ _ _ _ _)
      refine still_mk ?_
      exact hv2

theorem keep_setUnit (s : State) (u : Nat) (e : UnitSt) : Keep s (State.setUnit s u e) := by
  unfold State.setUnit
  refine keep_mk ?_
  exact Keep.refl _

theorem keep_markUnit (s : State) (u : Nat) (port : Option Nat) : Keep s (State.markUnit s u port) := by
  unfold State.markUnit
  refine Keep.trans ?_ (keep_setUnit _ _ _)
  exact Keep.refl _

theorem still_prunePoison (s : State) : Still s (State.prunePoison s) := by
  unfold State.prunePoison
  extract_lets v1 v2 v3 v4
  refine still_mk ?_
  exact Still.refl _

theorem keep_cleanLines (s : State) (lo : Nat) (hi : Nat) : Keep s (State.cleanLines s lo hi) := by
  unfold State.cleanLines
  refine keep_ite ?_ ?_
  · exact Keep.refl _
  · refine Keep.trans ?_ (still_prunePoison _).keep
    refine keep_mk ?_
    exact Keep.refl _

theorem keep_zeroUnit (s : State) (u : Nat) : Keep s (State.zeroUnit s u) := by
  unfold State.zeroUnit
  refine Keep.trans ?_ (keep_cleanLines _ _ _)
  refine keep_mkc ?_ fun h => ⟨memZero_wf _ _ h.1, h.2⟩
  exact Keep.refl _

theorem still_setPresent (s : State) (u : Nat) : Still s (State.setPresent s u) := by
  unfold State.setPresent
  refine still_ite ?_ ?_
  · exact Still.refl _
  · refine still_mk ?_
    exact Still.refl _

theorem still_listPoison (s : State) (line : Nat) (len : Nat) (src : Nat) : Still s (State.listPoison s line len src) := by
  unfold State.listPoison
  refine still_ite ?_ ?_
  · exact Still.refl _
  · refine still_ite ?_ ?_
    · refine still_mk ?_
      exact Still.refl _
    · refine still_mk ?_
      exact Still.refl _

theorem keep_poisonLine (s : State) (line : Nat) (src : Nat) : Keep s (State.poisonLine s line src) := by
  unfold State.poisonLine
  refine Keep.trans ?_ (still_listPoison _ _ _ _).keep
  refine keep_mk ?_
  exact Keep.refl _

theorem keep_storeLine (s : State) (line : Nat) (d : BitVec 512) (be : BitVec 64) (poison : Bool) : Keep s (State.storeLine s line d be
    poison) := by
  unfold State.storeLine
  extract_lets v1
  have hv1 : Keep s v1 := by
    subst v1
    refine keep_mkc ?_ fun h => ⟨memWriteLine_wf _ _ _ _ h.1, h.2⟩
    exact Keep.refl _
  refine keep_ite ?_ ?_
  · refine Keep.trans ?_ (keep_poisonLine _ _ _)
    exact hv1
  · refine keep_ite ?_ ?_
    · refine Keep.trans ?_ (keep_cleanLines _ _ _)
      exact hv1
    · exact hv1

theorem still_sendFetches (s : State) : Still s (State.sendFetches s) := by
  unfold State.sendFetches
  refine still_ite ?_ ?_
  · exact Still.refl _
  · extract_lets v1 v2 v3 v4
    refine still_mk ?_
    exact Still.refl _

theorem still_setBlk (s : State) (b : Nat) (x : Blk) : Still s (State.setBlk s b x) := by
  unfold State.setBlk
  refine still_mk ?_
  exact Still.refl _

theorem still_setTgt (s : State) (t : Nat) (x : Target) : Still s (State.setTgt s t x) := by
  unfold State.setTgt
  refine still_mk ?_
  exact Still.refl _

theorem still_suspendErase (s : State) (t : Nat) : Still s (State.suspendErase s t) := by
  unfold State.suspendErase
  split
  · exact Still.refl _
  · refine still_ite ?_ ?_
    · exact Still.refl _
    · extract_lets v1 v2
      have hv2 : Still s v2 := by
        subst v2
        refine Still.trans ?_ (still_setTgt _ _ _)
        refine Still.trans ?_ (still_setBlk _ _ _)
        exact Still.refl _
      refine still_ite ?_ ?_
      · refine Still.trans ?_ (still_bump _ _)
        exact hv2
      · exact hv2

theorem still_suspendProgram (s : State) (t : Nat) : Still s (State.suspendProgram s t) := by
  unfold State.suspendProgram
  extract_lets v1 v2
  have hv2 : Still s v2 := by
    subst v2
    refine Still.trans ?_ (still_setTgt _ _ _)
    exact Still.refl _
  refine still_ite ?_ ?_
  · refine still_ite ?_ ?_
    · refine Still.trans ?_ (still_bump _ _)
      exact hv2
    · exact hv2
  · exact Still.refl _

theorem still_suspendFor (s : State) (u : Nat) : Still s (State.suspendFor s u) := by
  unfold State.suspendFor
  split
  · exact Still.refl _
  · refine still_ite ?_ ?_
    · refine Still.trans ?_ (still_suspendProgram _ _)
      exact Still.refl _
    · refine Still.trans ?_ (still_suspendErase _ _)
      exact Still.refl _

theorem still_startFetch (s : State) (u : Nat) (reader : Option (Nat × Nat)) : Still s (State.startFetch s u reader) := by
  unfold State.startFetch
  split
  · refine still_mk ?_
    exact Still.refl _
  · extract_lets v1 v2 v3 v4 v5
    have hv3 : Still s v3 := by
      clear v4 v5
      subst v3
      refine still_ite ?_ ?_
      · exact Still.refl _
      · refine Still.trans ?_ (still_suspendFor _ _)
        exact Still.refl _
    have hv5 : Still s v5 := by
      subst v5
      refine still_mk ?_
      exact hv3
    refine Still.trans ?_ (still_wr _ _ _)
    refine Still.trans ?_ (still_sendFetches _)
    exact hv5

theorem keep_ingressLine (s : State) (head : Nat) (line : Nat) (d : BitVec 512) (be : BitVec 64) (poison : Bool) : Keep s
    (State.ingressLine s head line d be poison) := by
  unfold State.ingressLine
  extract_lets v1 v2 v3
  refine keep_ite ?_ ?_
  · refine Keep.trans ?_ (still_startFetch _ _ _).keep
    refine keep_mk ?_
    exact Keep.refl _
  · refine keep_ite ?_ ?_
    · refine Keep.trans ?_ (keep_storeLine _ _ _ _ _)
      refine Keep.trans ?_ (still_setPresent _ _).keep
      refine Keep.trans ?_ (keep_zeroUnit _ _)
      exact Keep.refl _
    · refine Keep.trans ?_ (keep_storeLine _ _ _ _ _)
      exact Keep.refl _

theorem keep_applyWrite (s : State) (w : InWrite) : Keep s (State.applyWrite s w) := by
  unfold State.applyWrite
  refine keep_ite ?_ ?_
  · extract_lets v1
    refine Keep.trans ?_ (still_settleMr _).keep
    refine keep_foldl _ ?_ ?_
    · intro a2 a3
      refine Keep.trans ?_ (keep_ingressLine _ _ _ _ _ _)
      refine Keep.trans ?_ (keep_markUnit _ _ _)
      exact Keep.refl _
    · exact Keep.refl _
  · extract_lets v4 v5
    have hv4 : Keep s v4 := by
      clear v5
      subst v4
      refine Keep.trans ?_ (still_bump _ _).keep
      exact Keep.refl _
    refine keep_ite ?_ ?_
    · exact hv4
    · refine Keep.trans ?_ (still_event _ _ _).keep
      refine keep_mk ?_
      exact hv4

theorem keep_applyHeld (s : State) (i : JoinItem) : Keep s (State.applyHeld s i) := by
  unfold State.applyHeld
  split
  · refine Keep.trans ?_ (keep_applyWrite _ _)
    exact Keep.refl _
  · refine Keep.trans ?_ (still_releaseCopy _ _ _ _ _ _).keep
    exact Keep.refl _

theorem keep_takeMessage (s : State) (m : InMsg) : Keep s (State.takeMessage s m) := by
  unfold State.takeMessage
  extract_lets v1 v2 v3 v4 v5 v6 v7
  have hv4 : Keep s v4 := by
    clear v5 v6 v7
    subst v4
    refine Keep.trans ?_ (still_setIncons _ _ _).keep
    refine Keep.trans ?_ (still_setPstate _ _ _).keep
    exact Keep.refl _
  have hv7 : Keep s v7 := by
    subst v7
    refine keep_mk ?_
    exact Keep.refl _
  refine keep_ite ?_ ?_
  · refine keep_foldl _ ?_ ?_
    · intro a8 a9
      refine Keep.trans ?_ (keep_applyHeld _ _)
      exact Keep.refl _
    · refine keep_mk ?_
      exact Keep.refl _
  · refine keep_ite ?_ ?_
    · exact Keep.refl _
    · refine keep_ite ?_ ?_
      · refine Keep.trans ?_ (still_setLossrep _ _ _).keep
        refine keep_mk ?_
        exact hv4
      · refine keep_ite ?_ ?_
        · refine Keep.trans ?_ (still_setPstate _ _ _).keep
          exact Keep.refl _
        · refine keep_ite ?_ ?_
          · refine Keep.trans ?_ (still_setIncons _ _ _).keep
            refine Keep.trans ?_ (still_setPstate _ _ _).keep
            exact hv7
          · refine keep_ite ?_ ?_
            · refine Keep.trans ?_ (still_setLossrep _ _ _).keep
              refine keep_mk ?_
              exact hv4
            · exact hv4

theorem still_advance (s : State) : Still s (State.advance s) := by
  unfold State.advance
  extract_lets v1 v2 v3
  have hv2 : Still s v2 := by
    clear v3
    subst v2
    refine Still.trans ?_ (still_send _ _)
    refine Still.trans ?_ (still_wr _ _ _)
    exact Still.refl _
  refine still_ite ?_ ?_
  · refine still_mk ?_
    exact hv2
  · exact Still.refl _

theorem keep_runInbox (s : State) (n : Nat) : Keep s (State.runInbox s n) := by
  induction n generalizing s with
  | zero => exact (still_advance s).keep
  | succ n ih =>
    unfold State.runInbox
    extract_lets v1 v2
    split
    · refine Keep.trans ?_ (still_advance _).keep
      exact Keep.refl _
    · extract_lets v3
      have hv3 : Keep s v3 := by
        subst v3
        refine keep_mk ?_
        exact Keep.refl _
      refine Keep.trans ?_ (ih _)
      refine Keep.trans ?_ (keep_takeMessage _ _)
      exact hv3

theorem still_againSync (s : State) (n : Nat) : Still s (State.againSync s n) := by
  unfold State.againSync
  refine still_mk ?_
  exact Still.refl _

theorem still_restartSync (s : State) (n : Nat) : Still s (State.restartSync s n) := by
  unfold State.restartSync
  split
  · refine still_ite ?_ ?_
    · refine Still.trans ?_ (still_startScan _ _ _)
      exact Still.refl _
    · refine still_ite ?_ ?_
      · refine Still.trans ?_ (still_againSync _ _)
        exact Still.refl _
      · exact Still.refl _
  · refine still_ite ?_ ?_
    · refine Still.trans ?_ (still_againSync _ _)
      exact Still.refl _
    · exact Still.refl _

theorem still_enterCatchup (s : State) (n : Nat) : Still s (State.enterCatchup s n) := by
  unfold State.enterCatchup
  extract_lets v1 v2 v3
  have hv1 : Still s v1 := by
    clear v2 v3
    subst v1
    refine Still.trans ?_ (still_setPstate _ _ _)
    exact Still.refl _
  refine still_ite ?_ ?_
  · refine Still.trans ?_ (still_startScan _ _ _)
    exact hv1
  · refine still_ite ?_ ?_
    · exact hv1
    · refine still_mk ?_
      exact hv1

theorem still_streamCut (s : State) (n : Nat) : Still s (State.streamCut s n) := by
  unfold State.streamCut
  refine still_ite ?_ ?_
  · exact Still.refl _
  · refine still_ite ?_ ?_
    · refine Still.trans ?_ (still_enterCatchup _ _)
      exact Still.refl _
    · refine still_ite ?_ ?_
      · refine Still.trans ?_ (still_restartSync _ _)
        exact Still.refl _
      · exact Still.refl _

theorem keep_twineDown (s : State) (p : Nat) (cause : Nat) : Keep s (State.twineDown s p cause) := by
  unfold State.twineDown
  extract_lets v1 v2 v3 v4 v5 v6 v7 v8
  have hv1 : Keep s v1 := by
    clear v2 v3 v4 v5 v6 v7 v8
    subst v1
    refine Keep.trans ?_ (still_wri _ _ _ _).keep
    refine Keep.trans ?_ (still_wri _ _ _ _).keep
    exact Keep.refl _
  have hv3 : Keep s v3 := by
    clear v4 v5 v6 v7 v8
    subst v3
    refine keep_mk ?_
    exact hv1
  have hv4 : Keep s v4 := by
    clear v5 v6 v7 v8
    subst v4
    refine Keep.trans ?_ (still_wr _ _ _).keep
    refine Keep.trans ?_ (still_wr _ _ _).keep
    exact hv3
  have hv6 : Keep s v6 := by
    clear v7 v8
    subst v6
    refine keep_mk ?_
    exact hv4
  have hv7 : Keep s v7 := by
    clear v8
    subst v7
    refine Keep.trans ?_ (still_event _ _ _).keep
    exact hv6
  have hv8 : Keep s v8 := by
    subst v8
    refine keep_forEach _ ?_ ?_
    · intro a9 a10
      refine Keep.trans ?_ (still_streamCut _ _).keep
      exact Keep.refl _
    · exact hv7
  refine keep_ite ?_ ?_
  · refine Keep.trans ?_ (still_updReady _).keep
    exact hv3
  · refine keep_ite ?_ ?_
    · refine Keep.trans ?_ (still_updReady _).keep
      refine Keep.trans ?_ (keep_runInbox _ _)
      refine Keep.trans ?_ (still_copyNext _).keep
      exact hv8
    · refine Keep.trans ?_ (still_updReady _).keep
      refine Keep.trans ?_ (still_event _ _ _).keep
      refine Keep.trans ?_ (still_wr _ _ _).keep
      refine Keep.trans ?_ (still_stopStream _).keep
      exact hv3

theorem keep_twineNoRef (s : State) : Keep s (State.twineNoRef s) := by
  unfold State.twineNoRef
  refine keep_forEach _ ?_ ?_
  · intro a1 a2
    refine keep_ite ?_ ?_
    · refine Keep.trans ?_ (keep_twineDown _ _ _)
      exact Keep.refl _
    · exact Keep.refl _
  · exact Keep.refl _

theorem still_setQueue (s : State) (q : Nat) (x : Queue) : Still s (State.setQueue s q x) := by
  unfold State.setQueue
  refine still_mk ?_
  exact Still.refl _

theorem still_poolCheck (s : State) : Still s (State.poolCheck s) := by
  unfold State.poolCheck
  refine still_ite ?_ ?_
  · refine still_mk ?_
    exact Still.refl _
  · exact Still.refl _

theorem still_signalQueue (s : State) (q : Nat) : Still s (State.signalQueue s q) := by
  unfold State.signalQueue
  extract_lets v1
  refine Still.trans ?_ (still_msix _ _ _)
  refine Still.trans ?_ (still_setQueue _ _ _)
  exact Still.refl _

theorem still_postEntry (s : State) (t : Ticket) (st : Nat) (rs : Nat) (res : Nat) (ts : Nat) : Still s (State.postEntry s t st rs res ts) := by
  unfold State.postEntry
  extract_lets v1 v2 v3 v4 v5 v6
  have hv6 : Still s v6 := by
    subst v6
    refine Still.trans ?_ (still_send _ _)
    refine Still.trans ?_ (still_setQueue _ _ _)
    exact Still.refl _
  refine still_ite ?_ ?_
  · refine Still.trans ?_ (still_signalQueue _ _)
    exact hv6
  · exact hv6

theorem still_decideTicket (s : State) (t : Ticket) (st : Nat) (rs : Nat) (res : Nat) : Still s (State.decideTicket s t st rs res) := by
  unfold State.decideTicket
  extract_lets v1 v2 v3
  have hv1 : Still s v1 := by
    clear v2 v3
    subst v1
    refine still_mk ?_
    exact Still.refl _
  have hv3 : Still s v3 := by
    subst v3
    refine Still.trans ?_ (still_setQueue _ _ _)
    exact hv1
  refine still_ite ?_ ?_
  · refine Still.trans ?_ (still_postEntry _ _ _ _ _ _)
    exact hv3
  · refine still_ite ?_ ?_
    · refine still_mk ?_
      exact hv3
    · exact hv3

theorem still_abortQueue (s : State) (q : Nat) : Still s (State.abortQueue s q) := by
  unfold State.abortQueue
  extract_lets v1 v2
  have hv1 : Still s v1 := by
    clear v2
    subst v1
    refine still_foldl _ ?_ ?_
    · intro a3 a4
      refine Still.trans ?_ (still_decideTicket _ _ _ _ _)
      exact Still.refl _
    · exact Still.refl _
  refine Still.trans ?_ (still_poolCheck _)
  refine Still.trans ?_ (still_setQueue _ _ _)
  exact hv1

theorem still_dropHeld (s : State) (q : Nat) : Still s (State.dropHeld s q) := by
  unfold State.dropHeld
  extract_lets v1
  refine still_ite ?_ ?_
  · refine Still.trans ?_ (still_addi _ _ _ _)
    refine Still.trans ?_ (still_setQueue _ _ _)
    exact Still.refl _
  · exact Still.refl _

theorem still_suspendQueue (s : State) (q : Nat) : Still s (State.suspendQueue s q) := by
  unfold State.suspendQueue
  extract_lets v1 v2 v3
  have hv1 : Still s v1 := by
    clear v2 v3
    subst v1
    refine Still.trans ?_ (still_dropHeld _ _)
    exact Still.refl _
  have hv3 : Still s v3 := by
    subst v3
    refine Still.trans ?_ (still_setQueue _ _ _)
    exact hv1
  refine still_ite ?_ ?_
  · refine Still.trans ?_ (still_abortQueue _ _)
    exact hv3
  · exact hv3

theorem still_reply (s : State) (v : Via) (r : Ret) (ws : List Nat) : Still s (State.reply s v r ws) := by
  unfold State.reply
  split
  · refine Still.trans ?_ (still_send _ _)
    exact Still.refl _
  · refine Still.trans ?_ (still_send _ _)
    exact Still.refl _
  · refine still_ite ?_ ?_
    · refine Still.trans ?_ (still_send _ _)
      exact Still.refl _
    · refine Still.trans ?_ (still_send _ _)
      exact Still.refl _

theorem still_setIdle (s : State) (k : Nat) : Still s (State.setIdle s k) := by
  unfold State.setIdle
  refine Still.trans ?_ (still_skipFree _)
  refine Still.trans ?_ (still_wri _ _ _ _)
  exact Still.refl _

theorem still_bumpi (s : State) (f : Field) (i : Nat) : Still s (State.bumpi s f i) := by
  unfold State.bumpi
  refine Still.trans ?_ (still_addi _ _ _ _)
  exact Still.refl _

theorem still_headChanged (s : State) (k : Nat) : Still s (State.headChanged s k) := by
  unfold State.headChanged
  refine Still.trans ?_ (still_msix0 _)
  refine Still.trans ?_ (still_setBit _ _ _ _)
  exact Still.refl _

theorem still_setLink (s : State) (k : Nat) (st : Nat) : Still s (State.setLink s k st) := by
  unfold State.setLink
  extract_lets v1
  have hv1 : Still s v1 := by
    subst v1
    refine still_ite ?_ ?_
    · refine Still.trans ?_ (still_setBit _ _ _ _)
      refine Still.trans ?_ (still_setBit _ _ _ _)
      exact Still.refl _
    · exact Still.refl _
  refine still_ite ?_ ?_
  · exact hv1
  · refine Still.trans ?_ (still_headChanged _ _)
    refine Still.trans ?_ (still_wri _ _ _ _)
    exact hv1

theorem still_linkDown (s : State) (k : Nat) : Still s (State.linkDown s k) := by
  unfold State.linkDown
  extract_lets v1 v2 v3 v4 v5 v6 v7 v8 v9
  have hv1 : Still s v1 := by
    clear v2 v3 v4 v5 v6 v7 v8 v9
    subst v1
    refine Still.trans ?_ (still_event _ _ _)
    refine Still.trans ?_ (still_setLink _ _ _)
    refine Still.trans ?_ (still_bumpi _ _ _)
    exact Still.refl _
  have hv2 : Still s v2 := by
    clear v3 v4 v5 v6 v7 v8 v9
    subst v2
    refine Still.trans ?_ (still_setIdle _ _)
    refine Still.trans ?_ (still_wri _ _ _ _)
    exact hv1
  have hv4 : Still s v4 := by
    clear v5 v6 v7 v8 v9
    subst v4
    split
    · refine Still.trans ?_ (still_reply _ _ _ _)
      exact hv2
    · exact hv2
  have hv6 : Still s v6 := by
    clear v7 v8 v9
    subst v6
    refine Still.trans ?_ (still_setHead _ _ _)
    exact hv4
  have hv9 : Still s v9 := by
    subst v9
    refine still_mk ?_
    exact hv6
  refine Still.trans ?_ (still_updReady _)
  refine still_forEach _ ?_ ?_
  · intro a10 a11
    refine Still.trans ?_ (still_suspendQueue _ _)
    exact Still.refl _
  · exact hv9

theorem still_headsNoRef (s : State) : Still s (State.headsNoRef s) := by
  unfold State.headsNoRef
  refine still_forEach _ ?_ ?_
  · intro a1 a2
    refine still_ite ?_ ?_
    · refine Still.trans ?_ (still_linkDown _ _)
      exact Still.refl _
    · exact Still.refl _
  · exact Still.refl _

theorem keep_toLfo (s : State) (cause : Nat) : Keep s (State.toLfo s cause) := by
  unfold State.toLfo
  extract_lets v1
  have hv1 : Keep s v1 := by
    subst v1
    refine Keep.trans ?_ (keep_twineNoRef _)
    refine Keep.trans ?_ (still_setClock _ _ _).keep
    exact Keep.refl _
  refine keep_ite ?_ ?_
  · refine keep_forEach _ ?_ ?_
    · intro a2 a3
      refine Keep.trans ?_ (still_pllStop _ _).keep
      exact Keep.refl _
    · exact hv1
  · exact hv1

theorem still_norProgram (s : State) : Still s (State.norProgram s) := by
  unfold State.norProgram
  refine still_ite ?_ ?_
  · refine Still.trans ?_ (still_wr _ _ _)
    exact Still.refl _
  · refine still_ite ?_ ?_
    · refine Still.trans ?_ (still_wr _ _ _)
      refine still_mk ?_
      exact Still.refl _
    · exact Still.refl _

theorem still_setChan (s : State) (c : Nat) (x : Chan) : Still s (State.setChan s c x) := by
  unfold State.setChan
  refine still_mk ?_
  exact Still.refl _

theorem still_endChan (s : State) (c : Nat) (cause : Nat) : Still s (State.endChan s c cause) := by
  unfold State.endChan
  extract_lets v1 v2
  have hv2 : Still s v2 := by
    subst v2
    refine Still.trans ?_ (still_event _ _ _)
    refine Still.trans ?_ (still_setChan _ _ _)
    exact Still.refl _
  refine still_forEach _ ?_ ?_
  · intro a3 a4
    refine Still.trans ?_ (still_setTgt _ _ _)
    exact Still.refl _
  · exact hv2

theorem still_retireChan (s : State) (c : Nat) (cause : Nat) : Still s (State.retireChan s c cause) := by
  unfold State.retireChan
  extract_lets v1
  refine still_ite ?_ ?_
  · refine Still.trans ?_ (still_endChan _ _ _)
    exact Still.refl _
  · exact Still.refl _

theorem still_ceilUpdate (s : State) (cause : Nat) : Still s (State.ceilUpdate s cause) := by
  unfold State.ceilUpdate
  refine still_ite ?_ ?_
  · exact Still.refl _
  · extract_lets v1 v2 v3 v4 v5 v6 v7 v8 v9 v10
    have hv6 : Still s v6 := by
      clear v7 v8 v9 v10
      subst v6
      refine still_mk ?_
      exact Still.refl _
    have hv7 : Still s v7 := by
      clear v8 v9 v10
      subst v7
      iterate 3 refine Still.trans ?_ (still_wr _ _ _)
      exact hv6
    have hv8 : Still s v8 := by
      clear v9 v10
      subst v8
      iterate 3 refine Still.trans ?_ (still_wr _ _ _)
      exact hv7
    have hv9 : Still s v9 := by
      clear v10
      subst v9
      refine Still.trans ?_ (still_wr _ _ _)
      refine Still.trans ?_ (still_wr _ _ _)
      exact hv8
    have hv10 : Still s v10 := by
      subst v10
      iterate 4 refine Still.trans ?_ (still_wr _ _ _)
      exact hv9
    refine still_ite ?_ ?_
    · refine Still.trans ?_ (still_settleAttn _)
      refine Still.trans ?_ (still_event _ _ _)
      exact hv10
    · refine Still.trans ?_ (still_settleAttn _)
      exact hv10

theorem still_setBundle (s : State) (b : Nat) (x : Bundle) : Still s (State.setBundle s b x) := by
  unfold State.setBundle
  refine still_mk ?_
  exact Still.refl _

theorem still_takeGen (s : State) : Still s (State.takeGen s) := by
  unfold State.takeGen
  refine Still.trans ?_ (still_wr _ _ _)
  exact Still.refl _

theorem still_takePage (s : State) (b : Nat) : Still s (State.takePage s b) := by
  unfold State.takePage
  extract_lets v1
  refine Still.trans ?_ (still_setBundle _ _ _)
  exact Still.refl _

theorem still_startPrograms (s : State) (ms : List Nat) : Still s (State.startPrograms s ms) := by
  unfold State.startPrograms
  refine still_foldl _ ?_ ?_
  · intro a1 a2
    extract_lets v3 v4 v5
    have hv5 : Still a1 v5 := by
      subst v5
      refine still_ite ?_ ?_
      · exact Still.refl _
      · refine Still.trans ?_ (still_setTgt _ _ _)
        exact Still.refl _
    refine Still.trans ?_ (still_suspendErase _ _)
    exact hv5
  · exact Still.refl _

theorem still_rewrite (s : State) (k : Skein) (b : Nat) : Still s (State.rewrite s k b) := by
  unfold State.rewrite
  extract_lets v1 v2 v3 v4 v5 v6 v7
  have hv3 : Still s v3 := by
    clear v4 v5 v6 v7
    subst v3
    refine Still.trans ?_ (still_startPrograms _ _)
    exact Still.refl _
  have hv5 : Still s v5 := by
    clear v6 v7
    subst v5
    refine still_mk ?_
    exact hv3
  have hv6 : Still s v6 := by
    clear v7
    subst v6
    refine Still.trans ?_ (still_takePage _ _)
    refine Still.trans ?_ (still_takeGen _)
    exact hv5
  refine Still.trans ?_ (still_setBundle _ _ _)
  exact hv6

theorem still_append (s : State) (ty : Nat) (args : List Nat) (pay : JPay) (count : Nat) : Still s (State.append s ty args pay count) := by
  unfold State.append
  refine still_mk ?_
  exact Still.refl _

theorem still_relist (s : State) (m : Nat) : Still s (State.relist s m) := by
  unfold State.relist
  extract_lets v1
  refine Still.trans ?_ (still_append _ _ _ _ _)
  refine Still.trans ?_ (still_setBlk _ _ _)
  exact Still.refl _

theorem still_verifySeals (s : State) (l : List Nat) : StillP s (State.verifySeals s l) := by
  unfold State.verifySeals
  extract_lets v1 v2 v3
  have hv3 : Still s v3 := by
    subst v3
    refine still_foldl _ ?_ ?_
    · intro a4 a5
      refine Still.trans ?_ (still_relist _ _)
      exact Still.refl _
    · refine Still.trans ?_ (still_skipFree _)
      exact Still.refl _
  refine stillP_ite ?_ ?_
  · refine stillP_mk ?_
    exact Still.refl _
  · refine stillP_mk ?_
    refine still_foldl _ ?_ ?_
    · intro a6 a7
      refine Still.trans ?_ (still_setBlk _ _ _)
      exact Still.refl _
    · exact hv3

theorem still_openWithin (s : State) (use n : Nat) : StillP s (State.openWithin s use n) := by
  induction n generalizing s with
  | zero => exact Still.refl s
  | succ n ih =>
    unfold State.openWithin
    split
    · refine stillP_mk ?_
      exact Still.refl _
    · split
      rename_i w1 w2 w3 w4
      have hw2 : Still s w2 := by
        refine still_fst ?_ w4
        refine Still.trans ?_ (still_verifySeals _ _)
        refine Still.trans ?_ (still_skipFree _)
        exact Still.refl _
      refine stillP_ite ?_ ?_
      · refine Still.trans ?_ (ih _)
        exact hw2
      · extract_lets v5 v6 v7
        have hv6 : Still s v6 := by
          clear v7
          subst v6
          refine still_forEach _ ?_ ?_
          · intro a8 a9
            refine Still.trans ?_ (still_setBlk _ _ _)
            exact Still.refl _
          · exact hw2
        have hv7 : Still s v7 := by
          subst v7
          refine Still.trans ?_ (still_ceilUpdate _ _)
          refine Still.trans ?_ (still_setBundle _ _ _)
          exact hv6
        refine stillP_mk ?_
        refine Still.trans ?_ (still_append _ _ _ _ _)
        exact hv7

theorem still_openBundle (s : State) (use : Nat) : StillP s (State.openBundle s use) := by
  unfold State.openBundle
  refine Still.trans ?_ (still_openWithin _ _ _)
  exact Still.refl _

theorem still_dataBundle (s : State) : StillP s (State.dataBundle s) := by
  unfold State.dataBundle
  split
  · refine stillP_ite ?_ ?_
    · refine stillP_mk ?_
      exact Still.refl _
    · split
      rename_i w1 w2 w3 w4
      have hw2 : Still s w2 := by
        refine still_fst ?_ w4
        refine Still.trans ?_ (still_openBundle _ _)
        exact Still.refl _
      refine stillP_mk ?_
      refine still_mk ?_
      exact hw2
  · split
    rename_i w5 w6 w7 w8
    have hw6 : Still s w6 := by
      refine still_fst ?_ w8
      refine Still.trans ?_ (still_openBundle _ _)
      exact Still.refl _
    refine stillP_mk ?_
    refine still_mk ?_
    exact hw6

theorem still_spoil (s : State) (g : Nat) : Still s (State.spoil s g) := by
  unfold State.spoil
  refine still_mk ?_
  exact Still.refl _

theorem still_recall (s : State) (g : Nat) : Still s (State.recall s g) := by
  unfold State.recall
  extract_lets v1 v2 v3
  have hv2 : Still s v2 := by
    clear v3
    subst v2
    refine still_foldl _ ?_ ?_
    · intro a4 a5
      refine Still.trans ?_ (still_spoil _ _)
      exact Still.refl _
    · exact Still.refl _
  refine still_mk ?_
  exact hv2

theorem still_announce (s : State) : Still s (State.announce s) := by
  unfold State.announce
  refine still_ite ?_ ?_
  · exact Still.refl _
  · split
    rename_i w1 w2 w3 w4
    have hw2 : Still s w2 := by
      refine still_fst ?_ w4
      refine Still.trans ?_ (still_openBundle _ _)
      exact Still.refl _
    split
    · rename_i w5 w6
      refine Still.trans ?_ (still_append _ _ _ _ _)
      refine still_mk ?_
      exact hw2
    · rename_i w7
      exact hw2

theorem still_currentJournal (s : State) : StillP s (State.currentJournal s) := by
  unfold State.currentJournal
  extract_lets v1 v2
  refine stillP_ite ?_ ?_
  · refine stillP_mk ?_
    exact Still.refl _
  · refine stillP_ite ?_ ?_
    · refine stillP_mk ?_
      refine still_mk ?_
      exact Still.refl _
    · split
      rename_i w3 w4 w5 w6
      have hw4 : Still s w4 := by
        refine still_fst ?_ w6
        refine Still.trans ?_ (still_openBundle _ _)
        exact Still.refl _
      refine stillP_mk ?_
      refine still_mk ?_
      exact hw4

theorem still_journalBundle (s : State) : StillP s (State.journalBundle s) := by
  unfold State.journalBundle
  split
  rename_i w1 w2 w3 w4
  have hw2 : Still s w2 := by
    refine still_fst ?_ w4
    refine Still.trans ?_ (still_currentJournal _)
    exact Still.refl _
  split
  · rename_i w5
    refine stillP_mk ?_
    exact hw2
  · rename_i w6 w7
    extract_lets v8
    have hv8 : Still s v8 := by
      subst v8
      refine Still.trans ?_ (still_announce _)
      exact hw2
    refine stillP_ite ?_ ?_
    · split
      · refine stillP_ite ?_ ?_
        · refine stillP_mk ?_
          exact hv8
        · refine stillP_mk ?_
          exact hv8
      · refine stillP_mk ?_
        exact hv8
    · refine stillP_mk ?_
      exact hv8

theorem still_abandonRecord (s : State) (k : Skein) : Still s (State.abandonRecord s k) := by
  unfold State.abandonRecord
  extract_lets v1 v2
  split
  rename_i w3 w4 w5 w6
  have hw4 : Still s w4 := by
    refine still_fst ?_ w6
    refine Still.trans ?_ (still_journalBundle _)
    refine Still.trans ?_ (still_event _ _ _)
    refine Still.trans ?_ (still_spoil _ _)
    exact Still.refl _
  split
  · rename_i w7
    refine Still.trans ?_ (still_recall _ _)
    exact hw4
  · rename_i w8 w9
    refine Still.trans ?_ (still_rewrite _ _ _)
    exact hw4

theorem keep_slotBack (s : State) (x : Option Slot) : Keep s (State.slotBack s x) := by
  unfold State.slotBack
  split
  · exact Keep.refl _
  · extract_lets v1
    refine keep_ite ?_ ?_
    · exact Keep.refl _
    · refine keep_ite ?_ ?_
      · refine Keep.trans ?_ (keep_setUnit _ _ _)
        exact Keep.refl _
      · refine keep_ite ?_ ?_
        · refine Keep.trans ?_ (keep_setUnit _ _ _)
          exact Keep.refl _
        · exact Keep.refl _

theorem still_land (s : State) (g : Nat) : Still s (State.land s g) := by
  unfold State.land
  extract_lets v1 v2
  refine Still.trans ?_ (still_wr _ _ _)
  refine still_mk ?_
  exact Still.refl _

theorem keep_abandon (s : State) (k : Skein) : Keep s (State.abandon s k) := by
  unfold State.abandon
  extract_lets v1 v2 v3
  have hv2 : Keep s v2 := by
    clear v3
    subst v2
    refine Keep.trans ?_ (still_setBundle _ _ _).keep
    exact Keep.refl _
  have hv3 : Keep s v3 := by
    subst v3
    refine keep_ite ?_ ?_
    · refine Keep.trans ?_ (still_event _ _ _).keep
      exact hv2
    · exact hv2
  refine keep_ite ?_ ?_
  · refine Keep.trans ?_ (still_land _ _).keep
    refine keep_foldl _ ?_ ?_
    · intro a4 a5
      refine Keep.trans ?_ (keep_slotBack _ _)
      exact Keep.refl _
    · exact hv3
  · refine keep_ite ?_ ?_
    · refine Keep.trans ?_ (still_abandonRecord _ _).keep
      exact hv3
    · split
      rename_i w6 w7 w8 w9
      have hw7 : Keep s w7 := by
        refine keep_fst ?_ w9
        refine Keep.trans ?_ (still_dataBundle _).keep
        exact hv3
      split
      · rename_i w10
        refine Keep.trans ?_ (still_land _ _).keep
        refine keep_mk ?_
        exact hw7
      · rename_i w11 w12
        refine Keep.trans ?_ (still_ceilUpdate _ _).keep
        refine Keep.trans ?_ (still_rewrite _ _ _).keep
        exact hw7

theorem keep_abandonOn (s : State) (t : Nat) (g : Nat) : Keep s (State.abandonOn s t g) := by
  unfold State.abandonOn
  split
  · split
    · refine Keep.trans ?_ (keep_abandon _ _)
      exact Keep.refl _
    · exact Keep.refl _
  · exact Keep.refl _

theorem keep_bindTarget (s : State) (t : Nat) (cause : Nat) : Keep s (State.bindTarget s t cause) := by
  unfold State.bindTarget
  extract_lets v1 v2 v3 v4 v5 v6 v7 v8
  have hv2 : Keep s v2 := by
    clear v3 v4 v5 v6 v7 v8
    subst v2
    refine Keep.trans ?_ (still_event _ _ _).keep
    refine Keep.trans ?_ (still_setTgt _ _ _).keep
    exact Keep.refl _
  have hv4 : Keep s v4 := by
    clear v5 v6 v7 v8
    subst v4
    refine keep_ite ?_ ?_
    · refine keep_mk ?_
      exact hv2
    · refine keep_mk ?_
      exact hv2
  have hv5 : Keep s v5 := by
    clear v6 v7 v8
    subst v5
    refine Keep.trans ?_ (still_wr _ _ _).keep
    exact hv4
  have hv6 : Keep s v6 := by
    clear v7 v8
    subst v6
    refine keep_ite ?_ ?_
    · exact hv5
    · refine keep_foldl _ ?_ ?_
      · intro a9 a10
        refine Keep.trans ?_ (keep_abandonOn _ _ _)
        exact Keep.refl _
      · exact hv5
  have hv7 : Keep s v7 := by
    clear v8
    subst v7
    refine Keep.trans ?_ (still_ceilUpdate _ _).keep
    refine Keep.trans ?_ (still_retireChan _ _ _).keep
    exact hv6
  refine keep_ite ?_ ?_
  · refine keep_mk ?_
    exact hv7
  · refine Keep.trans ?_ (still_norProgram _).keep
    exact hv7

theorem keep_releaseTargets (s : State) : Keep s (State.releaseTargets s) := by
  unfold State.releaseTargets
  extract_lets v1
  refine Keep.trans ?_ (still_ceilUpdate _ _).keep
  refine keep_foldl _ ?_ ?_
  · intro a2 a3
    refine keep_ite ?_ ?_
    · refine Keep.trans ?_ (still_setTgt _ _ _).keep
      exact Keep.refl _
    · refine Keep.trans ?_ (keep_bindTarget _ _ _)
      exact Keep.refl _
  · exact Keep.refl _

theorem keep_failSave (s : State) : Keep s (State.failSave s) := by
  unfold State.failSave
  extract_lets v1 v2 v3 v4 v5 v6
  have hv2 : Keep s v2 := by
    clear v3 v4 v5 v6
    subst v2
    refine Keep.trans ?_ (still_wr _ _ _).keep
    refine Keep.trans ?_ (keep_releaseTargets _)
    exact Keep.refl _
  have hv5 : Keep s v5 := by
    clear v6
    subst v5
    refine keep_mk ?_
    exact hv2
  have hv6 : Keep s v6 := by
    subst v6
    refine Keep.trans ?_ (keep_powerDown _ _)
    exact hv5
  refine keep_ite ?_ ?_
  · refine Keep.trans ?_ (still_energyGone _).keep
    exact hv6
  · exact hv6

theorem keep_clockFail (s : State) : Keep s (State.clockFail s) := by
  unfold State.clockFail
  refine keep_ite ?_ ?_
  · refine Keep.trans ?_ (keep_failSave _)
    exact Keep.refl _
  · exact Keep.refl _

theorem still_lowerRate (s : State) (rs : Nat) (rcap : Nat) (cause : Nat) : Still s (State.lowerRate s rs rcap cause) := by
  unfold State.lowerRate
  refine still_ite ?_ ?_
  · refine still_mk ?_
    exact Still.refl _
  · extract_lets v1 v2 v3 v4
    have hv3 : Still s v3 := by
      clear v4
      subst v3
      refine still_mk ?_
      exact Still.refl _
    have hv4 : Still s v4 := by
      subst v4
      refine Still.trans ?_ (still_wr _ _ _)
      refine Still.trans ?_ (still_wr _ _ _)
      exact hv3
    refine Still.trans ?_ (still_seekOp _ _)
    refine Still.trans ?_ (still_event _ _ _)
    exact hv4

theorem still_recompute (s : State) (cause : Nat) : Still s (State.recompute s cause) := by
  unfold State.recompute
  refine still_ite ?_ ?_
  · refine Still.trans ?_ (still_lowerRate _ _ _ _)
    exact Still.refl _
  · exact Still.refl _

theorem still_setWeir (s : State) (w : Nat) (bind : Nat) : Still s (State.setWeir s w bind) := by
  unfold State.setWeir
  extract_lets v1 v2 v3
  have hv2 : Still s v2 := by
    clear v3
    subst v2
    refine Still.trans ?_ (still_wr _ _ _)
    refine Still.trans ?_ (still_wr _ _ _)
    exact Still.refl _
  have hv3 : Still s v3 := by
    subst v3
    refine still_ite ?_ ?_
    · refine Still.trans ?_ (still_event _ _ _)
      exact hv2
    · exact hv2
  refine Still.trans ?_ (still_settleMr _)
  exact hv3

theorem still_fallbackWeir (s : State) (b : Nat) : Still s (State.fallbackWeir s b) := by
  unfold State.fallbackWeir
  refine still_ite ?_ ?_
  · exact Still.refl _
  · extract_lets v1 v2 v3 v4
    have hv4 : Still s v4 := by
      subst v4
      refine still_mk ?_
      exact Still.refl _
    refine Still.trans ?_ (still_setWeir _ _ _)
    refine Still.trans ?_ (still_event _ _ _)
    refine Still.trans ?_ (still_wr _ _ _)
    exact hv4

theorem still_reflectEvent (s : State) (b : Nat) : Still s (State.reflectEvent s b) := by
  unfold State.reflectEvent
  refine still_mk ?_
  exact Still.refl _

theorem keep_boscTrip (s : State) (test : Nat) : Keep s (State.boscTrip s test) := by
  unfold State.boscTrip
  extract_lets v1 v2 v3
  have hv1 : Keep s v1 := by
    clear v2 v3
    subst v1
    refine Keep.trans ?_ (still_wr _ _ _).keep
    refine Keep.trans ?_ (still_trip _ _ _).keep
    exact Keep.refl _
  have hv2 : Keep s v2 := by
    clear v3
    subst v2
    refine keep_ite ?_ ?_
    · refine Keep.trans ?_ (still_setClock _ _ _).keep
      exact hv1
    · refine Keep.trans ?_ (keep_toLfo _ _)
      exact hv1
  have hv3 : Keep s v3 := by
    subst v3
    refine Keep.trans ?_ (still_reflectEvent _ _).keep
    refine Keep.trans ?_ (still_fallbackWeir _ _).keep
    exact hv2
  refine keep_ite ?_ ?_
  · refine Keep.trans ?_ (keep_clockFail _)
    refine Keep.trans ?_ (still_recompute _ _).keep
    refine Keep.trans ?_ (still_wr _ _ _).keep
    exact hv3
  · exact hv3

theorem still_trimLfo (s : State) (trim : Int) : Still s (State.trimLfo s trim) := by
  unfold State.trimLfo
  refine Still.trans ?_ (still_event _ _ _)
  refine Still.trans ?_ (still_wr _ _ _)
  exact Still.refl _

theorem still_execClockCheckRetry (ref : Bool) (s : State) : StillA s (execClockCheckRetry ref s) := by
  unfold execClockCheckRetry
  extract_lets v1 v2 v3 v4 v5 v6 v7 v8 v9 v10
  have hv1 : Still s v1 := by
    clear v2 v3 v4 v5 v6 v7 v8 v9 v10
    subst v1
    refine Still.trans ?_ (still_begin _)
    exact Still.refl _
  have hv2 : Still s v2 := by
    clear v3 v4 v5 v6 v7 v8 v9 v10
    subst v2
    refine Still.trans ?_ (still_wr _ _ _)
    refine Still.trans ?_ (still_wr _ _ _)
    exact hv1
  have hv6 : Still s v6 := by
    clear v7 v8 v9 v10
    subst v6
    refine Still.trans ?_ (still_wr _ _ _)
    exact hv1
  have hv8 : Still s v8 := by
    clear v9 v10
    subst v8
    refine still_mk ?_
    exact hv6
  have hv9 : Still s v9 := by
    clear v10
    subst v9
    refine Still.trans ?_ (still_event _ _ _)
    exact hv8
  refine stillA_ite ?_ ?_
  · refine stillA_next ?_
    exact hv1
  · refine stillA_ite ?_ ?_
    · refine stillA_ite ?_ ?_
      · refine stillA_next ?_
        refine Still.trans ?_ (still_event _ _ _)
        refine still_mk ?_
        exact hv2
      · refine stillA_next ?_
        exact hv2
    · refine stillA_ite ?_ ?_
      · refine stillA_next ?_
        exact hv8
      · refine stillA_next ?_
        refine Still.trans ?_ (still_setClock _ _ _)
        refine still_mk ?_
        exact hv9

theorem still_skipDrbg (s : State) : Still s (State.skipDrbg s) := by
  unfold State.skipDrbg
  refine still_mk ?_
  exact Still.refl _

theorem still_drawRgen (s : State) : Still s (State.drawRgen s) := by
  unfold State.drawRgen
  extract_lets v1 v2
  have hv1 : Still s v1 := by
    clear v2
    subst v1
    refine Still.trans ?_ (still_skipDrbg _)
    exact Still.refl _
  refine still_mk ?_
  exact hv1

theorem still_dropRegs (s : State) (l : List Field) : Still s (State.dropRegs s l) := by
  unfold State.dropRegs
  refine still_mk ?_
  exact Still.refl _

theorem keep_forgetDram (s : State) : Keep s (State.forgetDram s) := by
  unfold State.forgetDram
  extract_lets v1 v2
  have hv1 : Keep s v1 := by
    clear v2
    subst v1
    refine Keep.trans ?_ (still_dropRegs _ _).keep
    exact Keep.refl _
  refine keep_mkc ?_ fun h => ⟨rfl, rfl⟩
  exact hv1

theorem keep_prepare (s : State) : Keep s (State.prepare s) := by
  unfold State.prepare
  extract_lets v1 v2 v3 v4 v5
  have hv1 : Keep s v1 := by
    clear v2 v3 v4 v5
    subst v1
    refine Keep.trans ?_ (keep_forgetDram _)
    exact Keep.refl _
  have hv2 : Keep s v2 := by
    clear v3 v4 v5
    subst v2
    refine Keep.trans ?_ (still_drawRgen _).keep
    exact hv1
  have hv5 : Keep s v5 := by
    subst v5
    refine keep_mk ?_
    exact hv2
  refine Keep.trans ?_ (still_wr _ _ _).keep
  exact hv5

theorem still_joinLink (s : State) (p : Nat) : Still s (State.joinLink s p) := by
  unfold State.joinLink
  extract_lets v1
  have hv1 : Still s v1 := by
    subst v1
    refine Still.trans ?_ (still_wr _ _ _)
    exact Still.refl _
  refine Still.trans ?_ (still_updReady _)
  refine Still.trans ?_ (still_wr _ _ _)
  refine Still.trans ?_ (still_sendSeq _ _ _)
  exact hv1

theorem still_tryOpen (s : State) (p : Nat) : Still s (State.tryOpen s p) := by
  unfold State.tryOpen
  refine still_ite ?_ ?_
  · exact Still.refl _
  · refine still_ite ?_ ?_
    · refine still_ite ?_ ?_
      · exact Still.refl _
      · refine Still.trans ?_ (still_joinLink _ _)
        exact Still.refl _
    · refine still_ite ?_ ?_
      · extract_lets v1 v2 v3
        have hv2 : Still s v2 := by
          clear v3
          subst v2
          refine Still.trans ?_ (still_skipFree _)
          exact Still.refl _
        refine Still.trans ?_ (still_send _ _)
        refine still_mk ?_
        exact hv2
      · exact Still.refl _

theorem still_twineServe (s : State) : Still s (State.twineServe s) := by
  unfold State.twineServe
  refine Still.trans ?_ (still_tryOpen _ _)
  refine Still.trans ?_ (still_tryOpen _ _)
  exact Still.refl _

theorem still_trainLinks (s : State) : Still s (State.trainLinks s) := by
  unfold State.trainLinks
  extract_lets v1
  have hv1 : Still s v1 := by
    subst v1
    refine still_forEach _ ?_ ?_
    · intro a2 a3
      refine still_ite ?_ ?_
      · refine Still.trans ?_ (still_setLink _ _ _)
        exact Still.refl _
      · exact Still.refl _
    · exact Still.refl _
  refine still_forEach _ ?_ ?_
  · intro a4 a5
    refine still_ite ?_ ?_
    · refine Still.trans ?_ (still_setBit _ _ _ _)
      refine Still.trans ?_ (still_wri _ _ _ _)
      exact Still.refl _
    · exact Still.refl _
  · exact hv1

theorem still_debit (s : State) (n : Nat) : Still s (State.debit s n) := by
  unfold State.debit
  extract_lets v1 v2 v3 v4 v5
  have hv5 : Still s v5 := by
    subst v5
    refine still_mk ?_
    exact Still.refl _
  refine still_ite ?_ ?_
  · refine Still.trans ?_ (still_event _ _ _)
    exact hv5
  · exact hv5

theorem still_fly (s : State) (k : Skein) : Still s (State.fly s k) := by
  unfold State.fly
  extract_lets v1 v2 v3
  have hv2 : Still s v2 := by
    clear v3
    subst v2
    refine Still.trans ?_ (still_startPrograms _ _)
    exact Still.refl _
  refine still_mk ?_
  exact hv2

theorem still_flushOne (s : State) : Still s (State.flushOne s) := by
  unfold State.flushOne
  split
  rename_i w1 w2 w3 w4
  have hw2 : Still s w2 := by
    refine still_fst ?_ w4
    refine Still.trans ?_ (still_journalBundle _)
    exact Still.refl _
  split
  · exact hw2
  · extract_lets v5 v6 v7 v8 v9 v10 v11
    have hv9 : Still s v9 := by
      clear v10 v11
      subst v9
      refine still_mk ?_
      exact hw2
    have hv11 : Still s v11 := by
      subst v11
      refine Still.trans ?_ (still_setBundle _ _ _)
      refine Still.trans ?_ (still_takePage _ _)
      refine Still.trans ?_ (still_takeGen _)
      refine Still.trans ?_ (still_fly _ _)
      exact hv9
    refine still_ite ?_ ?_
    · refine Still.trans ?_ (still_debit _ _)
      exact hv11
    · exact hv11

theorem still_flushMany (s : State) (n : Nat) : Still s (State.flushMany s n) := by
  induction n generalizing s with
  | zero => exact Still.refl s
  | succ n ih =>
    unfold State.flushMany
    split
    · exact Still.refl s
    · exact Still.trans (still_flushOne s) (ih _)

theorem still_flushTail (s : State) : Still s (State.flushTail s) := by
  unfold State.flushTail
  refine Still.trans ?_ (still_flushMany _ _)
  exact Still.refl _

theorem still_journalP (s : State) (ty : Nat) (args : List Nat) (pay : JPay) (count : Nat) : Still s (State.journalP s ty args pay count) := by
  unfold State.journalP
  extract_lets v1
  have hv1 : Still s v1 := by
    subst v1
    refine Still.trans ?_ (still_append _ _ _ _ _)
    exact Still.refl _
  refine still_ite ?_ ?_
  · refine Still.trans ?_ (still_flushTail _)
    exact hv1
  · exact hv1

theorem still_journal (s : State) (ty : Nat) (args : List Nat) : Still s (State.journal s ty args) := by
  unfold State.journal
  refine Still.trans ?_ (still_journalP _ _ _ _ _)
  exact Still.refl _

theorem still_startSeg (s : State) (k : Nat) : Still s (State.startSeg s k) := by
  unfold State.startSeg
  split
  rename_i w1 w2 w3 w4
  have hw2 : Still s w2 := by
    refine still_fst ?_ w4
    refine Still.trans ?_ (still_dataBundle _)
    exact Still.refl _
  split
  · refine still_mk ?_
    exact hw2
  · extract_lets v5 v6 v7 v8
    have hv8 : Still s v8 := by
      subst v8
      refine still_mk ?_
      exact hw2
    refine Still.trans ?_ (still_ceilUpdate _ _)
    refine Still.trans ?_ (still_debit _ _)
    refine Still.trans ?_ (still_takePage _ _)
    refine Still.trans ?_ (still_takeGen _)
    refine Still.trans ?_ (still_fly _ _)
    exact hv8

theorem still_beginPass (s : State) : Still s (State.beginPass s) := by
  unfold State.beginPass
  extract_lets v1 v2 v3
  have hv3 : Still s v3 := by
    subst v3
    refine still_mk ?_
    exact Still.refl _
  refine Still.trans ?_ (still_startSeg _ _)
  refine Still.trans ?_ (still_journal _ _ _)
  exact hv3

theorem still_resumePass (s : State) : Still s (State.resumePass s) := by
  unfold State.resumePass
  extract_lets v1
  refine still_ite ?_ ?_
  · refine Still.trans ?_ (still_beginPass _)
    exact Still.refl _
  · exact Still.refl _

theorem still_resumeReskein (s : State) : Still s (State.resumeReskein s) := by
  unfold State.resumeReskein
  extract_lets v1 v2
  split
  · exact Still.refl _
  · refine still_ite ?_ ?_
    · exact Still.refl _
    · extract_lets v3
      have hv3 : Still s v3 := by
        subst v3
        refine still_mk ?_
        exact Still.refl _
      iterate 3 refine Still.trans ?_ (still_wr _ _ _)
      exact hv3

theorem still_serve (s : State) : Still s (State.serve s) := by
  unfold State.serve
  refine Still.trans ?_ (still_updReady _)
  refine Still.trans ?_ (still_settleMr _)
  refine Still.trans ?_ (still_resumeReskein _)
  refine Still.trans ?_ (still_resumePass _)
  refine Still.trans ?_ (still_trainLinks _)
  refine Still.trans ?_ (still_twineServe _)
  exact Still.refl _

theorem still_countShutdown (s : State) (restore : Bool) : Still s (State.countShutdown s restore) := by
  unfold State.countShutdown
  refine still_ite ?_ ?_
  · exact Still.refl _
  · extract_lets v1 v2 v3
    have hv2 : Still s v2 := by
      clear v3
      subst v2
      refine still_forEach _ ?_ ?_
      · intro a4 a5
        refine still_ite ?_ ?_
        · refine Still.trans ?_ (still_wri _ _ _ _)
          exact Still.refl _
        · exact Still.refl _
      · exact Still.refl _
    refine still_mk ?_
    exact hv2

theorem still_restoreEnd (s : State) : Still s (State.restoreEnd s) := by
  unfold State.restoreEnd
  extract_lets v1 v2 v3 v4 v5
  have hv4 : Still s v4 := by
    clear v5
    subst v4
    refine Still.trans ?_ (still_event _ _ _)
    refine Still.trans ?_ (still_wr _ _ _)
    exact Still.refl _
  have hv5 : Still s v5 := by
    subst v5
    refine Still.trans ?_ (still_wr _ _ _)
    exact hv4
  refine still_ite ?_ ?_
  · exact Still.refl _
  · refine still_ite ?_ ?_
    · refine Still.trans ?_ (still_updReady _)
      refine Still.trans ?_ (still_countShutdown _ _)
      refine Still.trans ?_ (still_enterPhase _ _ _)
      exact hv5
    · refine Still.trans ?_ (still_updReady _)
      exact hv5

theorem still_setShState (s : State) (n : Nat) (st : Nat) : Still s (State.setShState s n st) := by
  unfold State.setShState
  refine still_ite ?_ ?_
  · exact Still.refl _
  · refine Still.trans ?_ (still_msix0 _)
    refine Still.trans ?_ (still_setBit _ _ _ _)
    refine Still.trans ?_ (still_wri _ _ _ _)
    exact Still.refl _

theorem still_settleShare (s : State) (n : Nat) : Still s (State.settleShare s n) := by
  unfold State.settleShare
  refine still_ite ?_ ?_
  · refine Still.trans ?_ (still_event _ _ _)
    refine Still.trans ?_ (still_setShState _ _ _)
    exact Still.refl _
  · exact Still.refl _

theorem still_settleShares (s : State) : Still s (State.settleShares s) := by
  unfold State.settleShares
  extract_lets v1 v2
  have hv1 : Still s v1 := by
    clear v2
    subst v1
    refine still_forEach _ ?_ ?_
    · intro a3 a4
      refine Still.trans ?_ (still_settleShare _ _)
      exact Still.refl _
    · exact Still.refl _
  have hv2 : Still s v2 := by
    subst v2
    refine still_ite ?_ ?_
    · split
      · refine still_ite ?_ ?_
        · refine Still.trans ?_ (still_setShState _ _ _)
          exact hv1
        · exact hv1
      · exact hv1
    · exact hv1
  refine Still.trans ?_ (still_updReady _)
  refine Still.trans ?_ (still_settleMr _)
  refine Still.trans ?_ (still_restoreEnd _)
  exact hv2

theorem still_voidQueues (s : State) : Still s (State.voidQueues s) := by
  unfold State.voidQueues
  extract_lets v1
  have hv1 : Still s v1 := by
    subst v1
    refine still_mk ?_
    exact Still.refl _
  refine still_forEach _ ?_ ?_
  · intro a2 a3
    refine still_ite ?_ ?_
    · refine Still.trans ?_ (still_wri _ _ _ _)
      exact Still.refl _
    · exact Still.refl _
  · exact hv1

theorem still_resumeData (s : State) : Still s (State.resumeData s) := by
  unfold State.resumeData
  extract_lets v1 v2 v3 v4 v5 v6
  have hv1 : Still s v1 := by
    clear v2 v3 v4 v5 v6
    subst v1
    refine still_forEach _ ?_ ?_
    · intro a7 a8
      refine Still.trans ?_ (still_setShState _ _ _)
      exact Still.refl _
    · exact Still.refl _
  have hv4 : Still s v4 := by
    clear v5 v6
    subst v4
    refine still_mk ?_
    exact hv1
  have hv5 : Still s v5 := by
    clear v6
    subst v5
    refine Still.trans ?_ (still_enterPhase _ _ _)
    refine Still.trans ?_ (still_wr _ _ _)
    refine Still.trans ?_ (still_wr _ _ _)
    refine Still.trans ?_ (still_voidQueues _)
    exact hv4
  refine Still.trans ?_ (still_settleShares _)
  refine Still.trans ?_ (still_serve _)
  refine Still.trans ?_ (still_event _ _ _)
  exact hv5

theorem still_toService (s : State) : Still s (State.toService s) := by
  unfold State.toService
  extract_lets v1 v2 v3 v4
  have hv1 : Still s v1 := by
    clear v2 v3 v4
    subst v1
    refine still_forEach _ ?_ ?_
    · intro a5 a6
      refine Still.trans ?_ (still_setShState _ _ _)
      exact Still.refl _
    · exact Still.refl _
  have hv2 : Still s v2 := by
    clear v3 v4
    subst v2
    refine Still.trans ?_ (still_voidQueues _)
    exact hv1
  have hv4 : Still s v4 := by
    subst v4
    refine still_mk ?_
    exact hv2
  refine Still.trans ?_ (still_settleShares _)
  refine Still.trans ?_ (still_serve _)
  refine Still.trans ?_ (still_countShutdown _ _)
  refine Still.trans ?_ (still_snapWrite _)
  refine Still.trans ?_ (still_enterPhase _ _ _)
  exact hv4

theorem still_omitUnsaved (s : State) (source : Nat) : Still s (State.omitUnsaved s source) := by
  unfold State.omitUnsaved
  refine still_mk ?_
  exact Still.refl _

theorem still_listPart (s : State) (lo : Nat) (n : Nat) : Still s (State.listPart s lo n) := by
  unfold State.listPart
  extract_lets v1 v2 v3 v4
  have hv4 : Still s v4 := by
    subst v4
    refine still_mk ?_
    exact Still.refl _
  refine Still.trans ?_ (still_journalP _ _ _ _ _)
  exact hv4

theorem still_listRun (s : State) (lo : Nat) (n : Nat) : Still s (State.listRun s lo n) := by
  unfold State.listRun
  refine still_forEach _ ?_ ?_
  · intro a1 a2
    refine Still.trans ?_ (still_listPart _ _ _)
    exact Still.refl _
  · exact Still.refl _

theorem still_account (s : State) (empty : Bool) : Still s (State.account s empty) := by
  unfold State.account
  extract_lets v1 v2 v3 v4 v5 v6 v7 v8 v9
  have hv2 : Still s v2 := by
    clear v3 v4 v5 v6 v7 v8 v9
    subst v2
    refine still_mk ?_
    exact Still.refl _
  have hv9 : Still s v9 := by
    subst v9
    refine still_mk ?_
    exact hv2
  refine still_ite ?_ ?_
  · refine still_mk ?_
    exact hv2
  · refine still_foldl _ ?_ ?_
    · intro a10 a11
      refine Still.trans ?_ (still_listRun _ _ _)
      exact Still.refl _
    · exact hv9

theorem still_norRetire (s : State) : Still s (State.norRetire s) := by
  unfold State.norRetire
  refine still_ite ?_ ?_
  · refine Still.trans ?_ (still_norProgram _)
    refine still_mk ?_
    exact Still.refl _
  · exact Still.refl _

theorem still_armFlash (s : State) (empty : Bool) : Still s (State.armFlash s empty) := by
  unfold State.armFlash
  refine Still.trans ?_ (still_norRetire _)
  refine Still.trans ?_ (still_ceilUpdate _ _)
  refine Still.trans ?_ (still_wr _ _ _)
  refine Still.trans ?_ (still_account _ _)
  exact Still.refl _

theorem still_adopt (s : State) (a : Anchor) : Still s (State.adopt s a) := by
  unfold State.adopt
  extract_lets v1 v2 v3 v4 v5 v6
  have hv1 : Still s v1 := by
    clear v2 v3 v4 v5 v6
    subst v1
    iterate 4 refine Still.trans ?_ (still_wr _ _ _)
    exact Still.refl _
  have hv3 : Still s v3 := by
    clear v4 v5 v6
    subst v3
    refine still_mk ?_
    exact hv1
  have hv4 : Still s v4 := by
    clear v5 v6
    subst v4
    refine Still.trans ?_ (still_armFlash _ _)
    refine Still.trans ?_ (still_omitUnsaved _ _)
    exact hv3
  have hv6 : Still s v6 := by
    subst v6
    refine still_mk ?_
    exact hv4
  refine still_ite ?_ ?_
  · refine Still.trans ?_ (still_toService _)
    exact hv4
  · refine still_ite ?_ ?_
    · refine Still.trans ?_ (still_resumeData _)
      exact hv6
    · refine Still.trans ?_ (still_updReady _)
      exact hv6

theorem still_imageRecovery (s : State) (check : Nat) : Still s (State.imageRecovery s check) := by
  unfold State.imageRecovery
  refine Still.trans ?_ (still_enterRecoveryPhase _ _)
  refine Still.trans ?_ (still_event _ _ _)
  refine Still.trans ?_ (still_wr _ _ _)
  exact Still.refl _

theorem keep_emptyImage (s : State) : Keep s (State.emptyImage s) := by
  unfold State.emptyImage
  extract_lets v1 v2 v3 v4
  have hv1 : Keep s v1 := by
    clear v2 v3 v4
    subst v1
    refine Keep.trans ?_ (keep_forgetDram _)
    exact Keep.refl _
  have hv3 : Keep s v3 := by
    clear v4
    subst v3
    refine keep_mk ?_
    exact hv1
  have hv4 : Keep s v4 := by
    subst v4
    iterate 3 refine Keep.trans ?_ (still_wr _ _ _).keep
    exact hv3
  refine Keep.trans ?_ (still_toService _).keep
  refine Keep.trans ?_ (still_event _ _ _).keep
  refine Keep.trans ?_ (still_armFlash _ _).keep
  exact hv4

end Sys2Proof.Machine
end

