-- ==== Sys2Proof/Laws/Keep2.lean ====
section
/-! SUPPORT. Keep and Still, operation by operation: part 2 of 6. -/

namespace Sys2Proof.Machine

theorem keep_imageTurn (s : State) : Keep s (State.imageTurn s) := by
  unfold State.imageTurn
  refine keep_ite ?_ ?_
  · refine Keep.trans ?_ (keep_emptyImage _)
    refine Keep.trans ?_ (still_wr _ _ _).keep
    extract_lets v1 v2
    have hv1 : Keep s v1 := by
      clear v2
      subst v1
      refine Keep.trans ?_ (still_drawRgen _).keep
      exact Keep.refl _
    refine keep_mk ?_
    exact hv1
  · split
    · split
      · refine Keep.trans ?_ (still_imageRecovery _ _).keep
        exact Keep.refl _
      · refine keep_ite ?_ ?_
        · refine Keep.trans ?_ (still_imageRecovery _ _).keep
          exact Keep.refl _
        · refine keep_ite ?_ ?_
          · refine Keep.trans ?_ (still_imageRecovery _ _).keep
            exact Keep.refl _
          · refine keep_ite ?_ ?_
            · refine Keep.trans ?_ (still_adopt _ _).keep
              exact Keep.refl _
            · refine Keep.trans ?_ (keep_prepare _)
              exact Keep.refl _
    · refine Keep.trans ?_ (keep_emptyImage _)
      refine Keep.trans ?_ (still_drawRgen _).keep
      exact Keep.refl _

theorem keep_imageStep (s : State) : Keep s (State.imageStep s) := by
  unfold State.imageStep
  refine keep_ite ?_ ?_
  · exact Keep.refl _
  · refine keep_ite ?_ ?_
    · refine Keep.trans ?_ (keep_imageTurn _)
      exact Keep.refl _
    · exact Keep.refl _

theorem keep_execBoscStartCheckPass (lfo : Int) (s : State) : KeepA s (execBoscStartCheckPass lfo s) := by
  unfold execBoscStartCheckPass
  extract_lets v1 v2 v3 v4
  have hv1 : Keep s v1 := by
    clear v2 v3 v4
    subst v1
    refine Keep.trans ?_ (still_begin _).keep
    exact Keep.refl _
  have hv2 : Keep s v2 := by
    clear v3 v4
    subst v2
    refine Keep.trans ?_ (still_trimLfo _ _).keep
    iterate 3 refine Keep.trans ?_ (still_wr _ _ _).keep
    exact hv1
  have hv4 : Keep s v4 := by
    subst v4
    refine keep_mk ?_
    exact hv2
  refine keepA_ite ?_ ?_
  · refine keepA_next ?_
    exact hv1
  · refine keepA_next ?_
    refine Keep.trans ?_ (keep_imageStep _)
    refine Keep.trans ?_ (still_powerAdvance _ _).keep
    refine Keep.trans ?_ (still_setClock _ _ _).keep
    exact hv4

theorem keep_execBoscMonitorTrip (test : Nat) (s : State) : KeepA s (execBoscMonitorTrip test s) := by
  unfold execBoscMonitorTrip
  extract_lets v1
  have hv1 : Keep s v1 := by
    subst v1
    refine Keep.trans ?_ (still_begin _).keep
    exact Keep.refl _
  refine keepA_ite ?_ ?_
  · refine keepA_next ?_
    refine Keep.trans ?_ (keep_boscTrip _ _)
    exact hv1
  · refine keepA_next ?_
    exact hv1

theorem keep_execRefclkMonitorTrip (test : Nat) (s : State) : KeepA s (execRefclkMonitorTrip test s) := by
  unfold execRefclkMonitorTrip
  extract_lets v1 v2
  have hv1 : Keep s v1 := by
    clear v2
    subst v1
    refine Keep.trans ?_ (still_begin _).keep
    exact Keep.refl _
  have hv2 : Keep s v2 := by
    subst v2
    refine Keep.trans ?_ (still_headsNoRef _).keep
    refine Keep.trans ?_ (still_wr _ _ _).keep
    refine Keep.trans ?_ (still_trip _ _ _).keep
    exact hv1
  refine keepA_ite ?_ ?_
  · refine keepA_next ?_
    exact hv1
  · refine keepA_ite ?_ ?_
    · refine keepA_next ?_
      refine Keep.trans ?_ (keep_clockFail _)
      refine Keep.trans ?_ (keep_toLfo _ _)
      exact hv2
    · refine keepA_next ?_
      refine Keep.trans ?_ (keep_clockFail _)
      refine keep_forEach _ ?_ ?_
      · intro a3 a4
        refine Keep.trans ?_ (still_pllTo _ _ _).keep
        exact Keep.refl _
      · exact hv2

theorem still_execRefclkReturn (s : State) : StillA s (execRefclkReturn s) := by
  unfold execRefclkReturn
  extract_lets v1 v2 v3
  have hv1 : Still s v1 := by
    clear v2 v3
    subst v1
    refine Still.trans ?_ (still_begin _)
    exact Still.refl _
  have hv2 : Still s v2 := by
    clear v3
    subst v2
    refine Still.trans ?_ (still_wr _ _ _)
    exact hv1
  have hv3 : Still s v3 := by
    subst v3
    refine still_ite ?_ ?_
    · refine Still.trans ?_ (still_setClock _ _ _)
      exact hv2
    · exact hv2
  refine stillA_ite ?_ ?_
  · refine stillA_next ?_
    exact hv1
  · refine stillA_ite ?_ ?_
    · refine stillA_next ?_
      exact hv2
    · refine stillA_next ?_
      refine still_ite ?_ ?_
      · refine Still.trans ?_ (still_trainLinks _)
        exact hv3
      · exact hv3

theorem still_execBoscReturn (s : State) : StillA s (execBoscReturn s) := by
  unfold execBoscReturn
  extract_lets v1 v2 v3
  have hv1 : Still s v1 := by
    clear v2 v3
    subst v1
    refine Still.trans ?_ (still_begin _)
    exact Still.refl _
  have hv3 : Still s v3 := by
    subst v3
    refine still_mk ?_
    exact hv1
  refine stillA_ite ?_ ?_
  · refine stillA_next ?_
    refine Still.trans ?_ (still_trainLinks _)
    refine Still.trans ?_ (still_setClock _ _ _)
    refine Still.trans ?_ (still_wr _ _ _)
    exact hv3
  · refine stillA_next ?_
    exact hv1

theorem keep_execPllLockLoss (p : Nat) (s : State) : KeepA s (execPllLockLoss p s) := by
  unfold execPllLockLoss
  extract_lets v1 v2 v3 v4 v5 v6 v7
  have hv1 : Keep s v1 := by
    clear v2 v3 v4 v5 v6 v7
    subst v1
    refine Keep.trans ?_ (still_begin _).keep
    exact Keep.refl _
  have hv4 : Keep s v4 := by
    clear v5 v6 v7
    subst v4
    refine Keep.trans ?_ (still_trip _ _ _).keep
    refine keep_mk ?_
    exact hv1
  refine keepA_ite ?_ ?_
  · refine keepA_next ?_
    exact hv1
  · refine keepA_ite ?_ ?_
    · refine keepA_next ?_
      exact hv4
    · refine keepA_next ?_
      refine Keep.trans ?_ (keep_clockFail _)
      refine keep_ite ?_ ?_
      · refine Keep.trans ?_ (still_pllStop _ _).keep
        exact hv4
      · refine Keep.trans ?_ (still_pllTo _ _ _).keep
        exact hv4

theorem keep_execLfoMonitorTrip (s : State) : KeepA s (execLfoMonitorTrip s) := by
  unfold execLfoMonitorTrip
  extract_lets v1 v2 v3 v4
  have hv1 : Keep s v1 := by
    clear v2 v3 v4
    subst v1
    refine Keep.trans ?_ (still_begin _).keep
    exact Keep.refl _
  have hv3 : Keep s v3 := by
    clear v4
    subst v3
    refine Keep.trans ?_ (still_trip _ _ _).keep
    refine keep_mk ?_
    exact hv1
  refine keepA_ite ?_ ?_
  · refine keepA_next ?_
    exact hv1
  · refine keepA_next ?_
    refine Keep.trans ?_ (keep_clockFail _)
    refine keep_forEach _ ?_ ?_
    · intro a5 a6
      refine Keep.trans ?_ (still_pllStop _ _).keep
      exact Keep.refl _
    · exact hv3

theorem still_execAoscMonitorTrip (s : State) : StillA s (execAoscMonitorTrip s) := by
  unfold execAoscMonitorTrip
  extract_lets v1 v2
  have hv1 : Still s v1 := by
    clear v2
    subst v1
    refine Still.trans ?_ (still_begin _)
    exact Still.refl _
  refine stillA_ite ?_ ?_
  · refine stillA_next ?_
    exact hv1
  · refine stillA_next ?_
    refine Still.trans ?_ (still_trip _ _ _)
    refine still_mk ?_
    exact hv1

theorem still_norResume (s : State) : Still s (State.norResume s) := by
  unfold State.norResume
  refine still_ite ?_ ?_
  · refine Still.trans ?_ (still_wr _ _ _)
    exact Still.refl _
  · exact Still.refl _

theorem still_tick (s : State) : Still s (State.tick s) := by
  unfold State.tick
  refine still_ite ?_ ?_
  · exact Still.refl _
  · extract_lets v1 v2 v3 v4 v5 v6 v7 v8
    have hv1 : Still s v1 := by
      clear v2 v3 v4 v5 v6 v7 v8
      subst v1
      refine Still.trans ?_ (still_settleAttn _)
      refine Still.trans ?_ (still_norResume _)
      exact Still.refl _
    have hv8 : Still s v8 := by
      subst v8
      refine still_mk ?_
      exact hv1
    refine still_ite ?_ ?_
    · exact hv8
    · refine Still.trans ?_ (still_updReady _)
      refine Still.trans ?_ (still_wr _ _ _)
      exact hv8

theorem still_setTsrc (s : State) (v : Nat) : Still s (State.setTsrc s v) := by
  unfold State.setTsrc
  refine Still.trans ?_ (still_wr _ _ _)
  refine Still.trans ?_ (still_wr _ _ _)
  exact Still.refl _

theorem still_stepTime (s : State) (d : Int) : Still s (State.stepTime s d) := by
  unfold State.stepTime
  extract_lets v1 v2 v3
  have hv2 : Still s v2 := by
    clear v3
    subst v2
    refine still_mk ?_
    exact Still.refl _
  refine still_ite ?_ ?_
  · refine Still.trans ?_ (still_event _ _ _)
    refine Still.trans ?_ (still_wr _ _ _)
    exact hv2
  · exact hv2

theorem still_lockLost (s : State) (cause : Nat) (sst : Nat) : Still s (State.lockLost s cause sst) := by
  unfold State.lockLost
  extract_lets v1
  have hv1 : Still s v1 := by
    subst v1
    refine Still.trans ?_ (still_wr _ _ _)
    exact Still.refl _
  refine still_ite ?_ ?_
  · refine Still.trans ?_ (still_updReady _)
    refine Still.trans ?_ (still_event _ _ _)
    refine Still.trans ?_ (still_setTsrc _ _)
    exact hv1
  · exact hv1

theorem still_setUnc (s : State) (u : Nat) : Still s (State.setUnc s u) := by
  unfold State.setUnc
  refine Still.trans ?_ (still_updReady _)
  refine Still.trans ?_ (still_wr _ _ _)
  refine still_mk ?_
  exact Still.refl _

theorem still_userLearn (s : State) (q : Nat) (factory : Int) (v : Int) : Still s (State.userLearn s q factory v) := by
  unfold State.userLearn
  refine still_mk ?_
  exact Still.refl _

theorem still_saveTrims (s : State) : Still s (State.saveTrims s) := by
  unfold State.saveTrims
  extract_lets v1 v2 v3
  have hv2 : Still s v2 := by
    clear v3
    subst v2
    refine still_forEach _ ?_ ?_
    · intro a4 a5
      refine Still.trans ?_ (still_userLearn _ _ _ _)
      exact Still.refl _
    · exact Still.refl _
  refine still_ite ?_ ?_
  · refine Still.trans ?_ (still_norProgram _)
    refine still_mk ?_
    exact hv2
  · exact Still.refl _

theorem still_trimAosc (s : State) (period : Nat) (method : Option Nat) : Still s (State.trimAosc s period method) := by
  unfold State.trimAosc
  extract_lets v1 v2
  have hv2 : Still s v2 := by
    subst v2
    refine Still.trans ?_ (still_wr _ _ _)
    refine still_mk ?_
    exact Still.refl _
  split
  · refine Still.trans ?_ (still_event _ _ _)
    exact hv2
  · exact hv2

theorem still_trimBosc (s : State) (steps : Int) (method : Nat) : Still s (State.trimBosc s steps method) := by
  unfold State.trimBosc
  extract_lets v1 v2 v3
  have hv2 : Still s v2 := by
    clear v3
    subst v2
    refine Still.trans ?_ (still_event _ _ _)
    refine Still.trans ?_ (still_wr _ _ _)
    refine Still.trans ?_ (still_wr _ _ _)
    exact Still.refl _
  refine Still.trans ?_ (still_saveTrims _)
  refine still_mk ?_
  exact hv2

theorem still_nativeTrim (s : State) (freq : Int) (elapsed : Nat) (ticks : Nat) : Still s (State.nativeTrim s freq elapsed ticks) := by
  unfold State.nativeTrim
  refine still_ite ?_ ?_
  · exact Still.refl _
  · extract_lets v1 v2 v3 v4 v5 v6 v7 v8 v9 v10
    have hv4 : Still s v4 := by
      clear v5 v6 v7 v8 v9 v10
      subst v4
      refine still_mk ?_
      exact Still.refl _
    have hv6 : Still s v6 := by
      clear v7 v8 v9 v10
      subst v6
      refine Still.trans ?_ (still_wr _ _ _)
      refine Still.trans ?_ (still_trimBosc _ _ _)
      exact hv4
    have hv8 : Still s v8 := by
      clear v9 v10
      subst v8
      refine still_ite ?_ ?_
      · refine still_mk ?_
        exact hv6
      · exact hv4
    refine still_ite ?_ ?_
    · exact hv8
    · refine Still.trans ?_ (still_saveTrims _)
      refine Still.trans ?_ (still_trimAosc _ _ _)
      exact hv8

theorem still_oneShot (s : State) : Still s (State.oneShot s) := by
  unfold State.oneShot
  split
  · extract_lets v1 v2 v3
    have hv2 : Still s v2 := by
      clear v3
      subst v2
      refine still_mk ?_
      exact Still.refl _
    refine still_ite ?_ ?_
    · exact hv2
    · refine Still.trans ?_ (still_saveTrims _)
      refine Still.trans ?_ (still_trimAosc _ _ _)
      exact hv2
  · exact Still.refl _

theorem still_servoLock (s : State) (off : Int) : Still s (State.servoLock s off) := by
  unfold State.servoLock
  extract_lets v1 v2 v3 v4 v5 v6 v7
  have hv4 : Still s v4 := by
    clear v5 v6 v7
    subst v4
    refine still_mk ?_
    exact Still.refl _
  have hv6 : Still s v6 := by
    clear v7
    subst v6
    refine Still.trans ?_ (still_wr _ _ _)
    refine Still.trans ?_ (still_setTsrc _ _)
    refine Still.trans ?_ (still_wr _ _ _)
    exact hv4
  have hv7 : Still s v7 := by
    subst v7
    refine Still.trans ?_ (still_event _ _ _)
    exact hv6
  refine still_ite ?_ ?_
  · refine still_ite ?_ ?_
    · refine Still.trans ?_ (still_lockLost _ _ _)
      refine still_mk ?_
      exact hv4
    · refine Still.trans ?_ (still_setUnc _ _)
      exact hv4
  · refine still_ite ?_ ?_
    · refine Still.trans ?_ (still_oneShot _)
      refine Still.trans ?_ (still_setUnc _ _)
      exact hv7
    · refine Still.trans ?_ (still_wr _ _ _)
      exact hv4

theorem keep_execPtpSync (off : Int) (freq : Int) (logInt : Int) (ticks : Nat) (s : State) : KeepA s (execPtpSync off freq logInt ticks s) := by
  unfold execPtpSync
  extract_lets v1 v2 v3 v4 v5 v6 v7 v8 v9 v10 v11 v12 v13 v14 v15
  have hv1 : Keep s v1 := by
    clear v2 v3 v4 v5 v6 v7 v8 v9 v10 v11 v12 v13 v14 v15
    subst v1
    refine Keep.trans ?_ (still_begin _).keep
    exact Keep.refl _
  have hv4 : Keep s v4 := by
    clear v5 v6 v7 v8 v9 v10 v11 v12 v13 v14 v15
    subst v4
    refine keep_ite ?_ ?_
    · refine keep_mk ?_
      exact hv1
    · exact hv1
  have hv6 : Keep s v6 := by
    clear v7 v8 v9 v10 v11 v12 v13 v14 v15
    subst v6
    refine keep_ite ?_ ?_
    · refine Keep.trans ?_ (still_stepTime _ _).keep
      exact hv4
    · exact hv4
  have hv7 : Keep s v7 := by
    clear v8 v9 v10 v11 v12 v13 v14 v15
    subst v7
    refine Keep.trans ?_ (still_wr _ _ _).keep
    refine Keep.trans ?_ (still_wr _ _ _).keep
    exact hv6
  have hv11 : Keep s v11 := by
    clear v12 v13 v14 v15
    subst v11
    refine keep_mk ?_
    exact hv7
  have hv12 : Keep s v12 := by
    clear v13 v14 v15
    subst v12
    refine Keep.trans ?_ (still_nativeTrim _ _ _ _).keep
    refine Keep.trans ?_ (still_servoLock _ _).keep
    exact hv11
  have hv14 : Keep s v14 := by
    clear v15
    subst v14
    refine keep_ite ?_ ?_
    · refine keep_mk ?_
      exact hv12
    · exact hv12
  refine keepA_ite ?_ ?_
  · refine keepA_next ?_
    exact hv1
  · refine keepA_ite ?_ ?_
    · refine keepA_next ?_
      refine Keep.trans ?_ (keep_boscTrip _ _)
      refine keep_mk ?_
      exact hv14
    · refine keepA_next ?_
      exact hv14

theorem still_execPtpAnnounce (id : Nat) (rank : Nat) (utcOff : Nat) (s : State) : StillA s (execPtpAnnounce id rank utcOff s) := by
  unfold execPtpAnnounce
  extract_lets v1 v2 v3
  have hv1 : Still s v1 := by
    clear v2 v3
    subst v1
    refine Still.trans ?_ (still_begin _)
    exact Still.refl _
  have hv2 : Still s v2 := by
    clear v3
    subst v2
    refine still_ite ?_ ?_
    · exact hv1
    · refine Still.trans ?_ (still_wr _ _ _)
      exact hv1
  refine stillA_ite ?_ ?_
  · refine stillA_next ?_
    exact hv1
  · refine stillA_ite ?_ ?_
    · refine stillA_next ?_
      refine Still.trans ?_ (still_wr _ _ _)
      refine still_mk ?_
      exact hv2
    · refine stillA_next ?_
      exact hv1

theorem still_execAnnounceTimeout (s : State) : StillA s (execAnnounceTimeout s) := by
  unfold execAnnounceTimeout
  extract_lets v1 v2 v3
  have hv1 : Still s v1 := by
    clear v2 v3
    subst v1
    refine Still.trans ?_ (still_begin _)
    exact Still.refl _
  have hv3 : Still s v3 := by
    subst v3
    refine still_mk ?_
    exact hv1
  refine stillA_ite ?_ ?_
  · refine stillA_next ?_
    exact hv1
  · refine stillA_next ?_
    refine Still.trans ?_ (still_wr _ _ _)
    refine Still.trans ?_ (still_lockLost _ _ _)
    exact hv3

theorem still_execPtmRequest (enabled : Bool) (freq : Int) (s : State) : StillA s (execPtmRequest enabled freq s) := by
  unfold execPtmRequest
  extract_lets v1
  have hv1 : Still s v1 := by
    subst v1
    refine Still.trans ?_ (still_begin _)
    exact Still.refl _
  refine stillA_ite ?_ ?_
  · refine stillA_next ?_
    exact hv1
  · refine stillA_ite ?_ ?_
    · refine stillA_next ?_
      refine Still.trans ?_ (still_setTsrc _ _)
      refine Still.trans ?_ (still_wr _ _ _)
      exact hv1
    · refine stillA_ite ?_ ?_
      · refine stillA_next ?_
        refine Still.trans ?_ (still_setTsrc _ _)
        exact hv1
      · refine stillA_next ?_
        exact hv1

theorem still_execCompatibilityTrim (spread : Nat) (change : Int) (period : Nat) (s : State) : StillA s (execCompatibilityTrim spread
    change period s) := by
  unfold execCompatibilityTrim
  extract_lets v1 v2
  have hv1 : Still s v1 := by
    clear v2
    subst v1
    refine Still.trans ?_ (still_begin _)
    exact Still.refl _
  refine stillA_ite ?_ ?_
  · refine stillA_ite ?_ ?_
    · refine stillA_next ?_
      refine Still.trans ?_ (still_event _ _ _)
      refine Still.trans ?_ (still_wr _ _ _)
      exact hv1
    · refine stillA_next ?_
      refine Still.trans ?_ (still_saveTrims _)
      refine Still.trans ?_ (still_trimAosc _ _ _)
      refine Still.trans ?_ (still_trimBosc _ _ _)
      refine Still.trans ?_ (still_wr _ _ _)
      exact hv1
  · refine stillA_next ?_
    exact hv1

theorem still_execLfoTrim (trim : Int) (s : State) : StillA s (execLfoTrim trim s) := by
  unfold execLfoTrim
  extract_lets v1
  have hv1 : Still s v1 := by
    subst v1
    refine Still.trans ?_ (still_begin _)
    exact Still.refl _
  refine stillA_ite ?_ ?_
  · refine stillA_next ?_
    refine Still.trans ?_ (still_saveTrims _)
    refine Still.trans ?_ (still_trimLfo _ _)
    exact hv1
  · refine stillA_next ?_
    exact hv1

theorem still_setUtc (s : State) (utc : Nat) : Still s (State.setUtc s utc) := by
  unfold State.setUtc
  refine still_ite ?_ ?_
  · refine Still.trans ?_ (still_event _ _ _)
    exact Still.refl _
  · extract_lets v1 v2 v3
    have hv2 : Still s v2 := by
      clear v3
      subst v2
      refine Still.trans ?_ (still_stepTime _ _)
      exact Still.refl _
    have hv3 : Still s v3 := by
      subst v3
      refine still_ite ?_ ?_
      · exact hv2
      · refine Still.trans ?_ (still_setTsrc _ _)
        exact hv2
    refine Still.trans ?_ (still_setUnc _ _)
    exact hv3

theorem still_execCkSetWrite (utc : Nat) (s : State) : StillA s (execCkSetWrite utc s) := by
  unfold execCkSetWrite
  extract_lets v1
  have hv1 : Still s v1 := by
    subst v1
    refine Still.trans ?_ (still_begin _)
    exact Still.refl _
  refine stillA_ite ?_ ?_
  · refine stillA_next ?_
    refine Still.trans ?_ (still_setUtc _ _)
    exact hv1
  · refine stillA_next ?_
    exact hv1

theorem still_execCkTimeRead (s : State) : StillA s (execCkTimeRead s) := by
  unfold execCkTimeRead
  extract_lets v1 v2
  have hv1 : Still s v1 := by
    clear v2
    subst v1
    refine Still.trans ?_ (still_begin _)
    exact Still.refl _
  refine stillA_ite ?_ ?_
  · refine stillA_next ?_
    refine Still.trans ?_ (still_send _ _)
    refine still_mk ?_
    exact hv1
  · refine stillA_next ?_
    exact hv1

theorem still_execCkPtpWrite (val : Nat) (s : State) : StillA s (execCkPtpWrite val s) := by
  unfold execCkPtpWrite
  extract_lets v1 v2 v3 v4
  have hv1 : Still s v1 := by
    clear v2 v3 v4
    subst v1
    refine Still.trans ?_ (still_begin _)
    exact Still.refl _
  have hv2 : Still s v2 := by
    clear v3 v4
    subst v2
    iterate 3 refine Still.trans ?_ (still_wr _ _ _)
    exact hv1
  have hv4 : Still s v4 := by
    subst v4
    refine still_mk ?_
    exact hv2
  refine stillA_ite ?_ ?_
  · refine stillA_next ?_
    exact hv1
  · refine stillA_next ?_
    refine Still.trans ?_ (still_wr _ _ _)
    refine Still.trans ?_ (still_lockLost _ _ _)
    exact hv4

theorem still_execCkCmonWrite (val : Nat) (s : State) : StillA s (execCkCmonWrite val s) := by
  unfold execCkCmonWrite
  extract_lets v1 v2
  have hv1 : Still s v1 := by
    clear v2
    subst v1
    refine Still.trans ?_ (still_begin _)
    exact Still.refl _
  have hv2 : Still s v2 := by
    subst v2
    refine Still.trans ?_ (still_wr _ _ _)
    refine Still.trans ?_ (still_wr _ _ _)
    exact hv1
  refine stillA_ite ?_ ?_
  · refine stillA_next ?_
    exact hv1
  · refine stillA_next ?_
    refine Still.trans ?_ (still_wr _ _ _)
    exact hv2

theorem still_execPpsPulse (s : State) : StillA s (execPpsPulse s) := by
  unfold execPpsPulse
  extract_lets v1 v2 v3
  have hv1 : Still s v1 := by
    clear v2 v3
    subst v1
    refine Still.trans ?_ (still_begin _)
    exact Still.refl _
  refine stillA_ite ?_ ?_
  · refine stillA_next ?_
    refine Still.trans ?_ (still_bump _ _)
    refine still_mk ?_
    exact hv1
  · refine stillA_next ?_
    exact hv1

theorem still_alarm (s : State) : Still s (State.alarm s) := by
  unfold State.alarm
  refine Still.trans ?_ (still_msix0 _)
  refine Still.trans ?_ (still_event _ _ _)
  refine Still.trans ?_ (still_wr _ _ _)
  refine Still.trans ?_ (still_wr _ _ _)
  exact Still.refl _

theorem still_wakeDeep (s : State) (ticks : Nat) : Still s (State.wakeDeep s ticks) := by
  unfold State.wakeDeep
  refine still_ite ?_ ?_
  · exact Still.refl _
  · extract_lets v1 v2 v3
    have hv1 : Still s v1 := by
      clear v2 v3
      subst v1
      refine Still.trans ?_ (still_setDoms _ _ _)
      refine Still.trans ?_ (still_setDoms _ _ _)
      refine Still.trans ?_ (still_setDom _ _ _)
      refine Still.trans ?_ (still_boscStart _)
      refine Still.trans ?_ (still_setDom _ _ _)
      refine Still.trans ?_ (still_sleepWake _ _)
      exact Still.refl _
    have hv2 : Still s v2 := by
      clear v3
      subst v2
      refine Still.trans ?_ (still_setDoms _ _ _)
      refine Still.trans ?_ (still_setDoms _ _ _)
      exact hv1
    have hv3 : Still s v3 := by
      subst v3
      refine still_forEach _ ?_ ?_
      · intro a4 a5
        refine still_ite ?_ ?_
        · refine Still.trans ?_ (still_wri _ _ _ _)
          exact Still.refl _
        · exact Still.refl _
      · exact hv2
    refine Still.trans ?_ (still_updReady _)
    refine Still.trans ?_ (still_trainLinks _)
    refine Still.trans ?_ (still_event _ _ _)
    refine Still.trans ?_ (still_wr _ _ _)
    refine Still.trans ?_ (still_wr _ _ _)
    exact hv3

theorem still_execAlarmFired (ticks : Nat) (s : State) : StillA s (execAlarmFired ticks s) := by
  unfold execAlarmFired
  extract_lets v1 v2 v3
  have hv1 : Still s v1 := by
    clear v2 v3
    subst v1
    refine Still.trans ?_ (still_begin _)
    exact Still.refl _
  have hv3 : Still s v3 := by
    subst v3
    refine still_mk ?_
    exact hv1
  refine stillA_ite ?_ ?_
  · refine stillA_ite ?_ ?_
    · refine stillA_next ?_
      refine Still.trans ?_ (still_alarm _)
      refine Still.trans ?_ (still_bump _ _)
      refine Still.trans ?_ (still_onRequest _ _ _)
      exact hv3
    · refine stillA_next ?_
      exact hv1
  · refine stillA_ite ?_ ?_
    · refine stillA_next ?_
      exact hv1
    · refine stillA_ite ?_ ?_
      · refine stillA_next ?_
        refine Still.trans ?_ (still_bump _ _)
        refine Still.trans ?_ (still_alarm _)
        refine Still.trans ?_ (still_wakeDeep _ _)
        exact hv1
      · refine stillA_ite ?_ ?_
        · refine stillA_next ?_
          refine Still.trans ?_ (still_alarm _)
          exact hv1
        · refine stillA_next ?_
          exact hv1

theorem still_mbox (s : State) (v : Via) (c : Instr) (cls : MbClass) (status : Bool) (f : State → State) (hf : ∀ z0, Still z0 (f z0)) :
    Still s (State.mbox s v c cls status f) := by
  unfold State.mbox
  extract_lets v1
  have hv1 : Still s v1 := by
    subst v1
    refine Still.trans ?_ (still_begin _)
    exact Still.refl _
  refine still_ite ?_ ?_
  · exact hv1
  · refine still_ite ?_ ?_
    · split
      · refine Still.trans ?_ (hf _)
        exact hv1
      · refine Still.trans ?_ (still_reply _ _ _ _)
        exact hv1
      · refine Still.trans ?_ (still_reply _ _ _ _)
        exact hv1
    · refine still_ite ?_ ?_
      · refine still_mk ?_
        exact hv1
      · refine still_ite ?_ ?_
        · refine Still.trans ?_ (still_reply _ _ _ _)
          exact hv1
        · refine Still.trans ?_ (hf _)
          exact hv1

theorem keep_mbox (s : State) (v : Via) (c : Instr) (cls : MbClass) (status : Bool) (f : State → State) (hf : ∀ z0, Keep z0 (f z0)) : Keep
    s (State.mbox s v c cls status f) := by
  unfold State.mbox
  extract_lets v1
  have hv1 : Keep s v1 := by
    subst v1
    refine Keep.trans ?_ (still_begin _).keep
    exact Keep.refl _
  refine keep_ite ?_ ?_
  · exact hv1
  · refine keep_ite ?_ ?_
    · split
      · refine Keep.trans ?_ (hf _)
        exact hv1
      · refine Keep.trans ?_ (still_reply _ _ _ _).keep
        exact hv1
      · refine Keep.trans ?_ (still_reply _ _ _ _).keep
        exact hv1
    · refine keep_ite ?_ ?_
      · refine keep_mk ?_
        exact hv1
      · refine keep_ite ?_ ?_
        · refine Keep.trans ?_ (still_reply _ _ _ _).keep
          exact hv1
        · refine Keep.trans ?_ (hf _)
          exact hv1

theorem still_execGetTimeStatus (v : Via) (s : State) : StillA s (execGetTimeStatus v s) := by
  unfold execGetTimeStatus
  refine stillA_next ?_
  refine Still.trans ?_ (still_mbox _ _ _ _ _ _ ?_)
  · exact Still.refl _
  · intro a1
    refine Still.trans ?_ (still_reply _ _ _ _)
    exact Still.refl _

theorem still_execGetTimestamp (v : Via) (s : State) : StillA s (execGetTimestamp v s) := by
  unfold execGetTimestamp
  refine stillA_next ?_
  refine Still.trans ?_ (still_mbox _ _ _ _ _ _ ?_)
  · exact Still.refl _
  · intro a1
    refine Still.trans ?_ (still_reply _ _ _ _)
    exact Still.refl _

theorem still_execSetTimestamp (v : Via) (utc : Nat) (s : State) : StillA s (execSetTimestamp v utc s) := by
  unfold execSetTimestamp
  refine stillA_next ?_
  refine Still.trans ?_ (still_mbox _ _ _ _ _ _ ?_)
  · exact Still.refl _
  · intro a1
    refine Still.trans ?_ (still_reply _ _ _ _)
    refine Still.trans ?_ (still_setUtc _ _)
    exact Still.refl _

theorem still_setMapovf (s : State) (n : Nat) (b : Bool) : Still s (State.setMapovf s n b) := by
  unfold State.setMapovf
  refine Still.trans ?_ (still_setPair _ _ _)
  exact Still.refl _

theorem still_twinFit (s : State) : Still s (State.twinFit s) := by
  unfold State.twinFit
  refine still_forEach _ ?_ ?_
  · intro a1 a2
    refine Still.trans ?_ (still_setMapovf _ _ _)
    exact Still.refl _
  · exact Still.refl _

theorem still_tableRecs (s : State) : Still s (State.tableRecs s) := by
  unfold State.tableRecs
  extract_lets v1
  have hv1 : Still s v1 := by
    subst v1
    refine still_forEach _ ?_ ?_
    · intro a2 a3
      refine Still.trans ?_ (still_append _ _ _ _ _)
      exact Still.refl _
    · exact Still.refl _
  refine still_forEach _ ?_ ?_
  · intro a4 a5
    refine Still.trans ?_ (still_append _ _ _ _ _)
    exact Still.refl _
  · exact hv1

theorem still_shutdownRec (s : State) : Still s (State.shutdownRec s) := by
  unfold State.shutdownRec
  refine Still.trans ?_ (still_append _ _ _ _ _)
  exact Still.refl _

theorem still_twinRec (s : State) : Still s (State.twinRec s) := by
  unfold State.twinRec
  refine still_foldl _ ?_ ?_
  · intro a1 a2
    refine Still.trans ?_ (still_append _ _ _ _ _)
    exact Still.refl _
  · exact Still.refl _

theorem still_eraseRecs (s : State) : Still s (State.eraseRecs s) := by
  unfold State.eraseRecs
  refine still_foldl _ ?_ ?_
  · intro a1 a2
    refine Still.trans ?_ (still_append _ _ _ _ _)
    exact Still.refl _
  · exact Still.refl _

theorem still_earlyRecs (s : State) : Still s (State.earlyRecs s) := by
  unfold State.earlyRecs
  refine still_ite ?_ ?_
  · exact Still.refl _
  · extract_lets v1 v2
    have hv1 : Still s v1 := by
      clear v2
      subst v1
      refine Still.trans ?_ (still_eraseRecs _)
      refine Still.trans ?_ (still_twinRec _)
      refine Still.trans ?_ (still_append _ _ _ _ _)
      refine Still.trans ?_ (still_shutdownRec _)
      refine Still.trans ?_ (still_tableRecs _)
      refine Still.trans ?_ (still_twinFit _)
      exact Still.refl _
    refine still_mk ?_
    exact hv1

theorem still_freeDead (s : State) : Still s (State.freeDead s) := by
  unfold State.freeDead
  refine still_ite ?_ ?_
  · exact Still.refl _
  · extract_lets v1
    refine still_foldl _ ?_ ?_
    · intro a2 a3
      refine Still.trans ?_ (still_journal _ _ _)
      refine still_mk ?_
      exact Still.refl _
    · exact Still.refl _

theorem still_anchorCopy (s : State) (t : Nat) (g : Nat) : StillP s (State.anchorCopy s t g) := by
  unfold State.anchorCopy
  refine stillP_ite ?_ ?_
  · refine stillP_mk ?_
    exact Still.refl _
  · split
    · refine stillP_mk ?_
      exact Still.refl _
    · extract_lets v1 v2 v3
      have hv2 : Still s v2 := by
        clear v3
        subst v2
        refine Still.trans ?_ (still_debit _ _)
        refine Still.trans ?_ (still_setBlk _ _ _)
        refine Still.trans ?_ (still_startPrograms _ _)
        exact Still.refl _
      refine stillP_mk ?_
      refine still_mk ?_
      exact hv2

theorem still_anchorCopies (s : State) (k g : Nat) : StillP s (State.anchorCopies s k g) := by
  have h : ∀ (l : List Nat) (p : State × List (Nat × Nat)), Still s p.1 →
      Still s (l.foldl (fun p i => let (a, l) := p.1.anchorCopy ((k % 16 + 16 * i) * 16) g; (a, p.2 ++ l)) p).1 := by
    intro l
    induction l with
    | nil => exact fun p hp => hp
    | cons x l ih => exact fun p hp => ih _ (hp.trans (still_anchorCopy p.1 _ g))
  exact h _ _ (Still.refl s)

theorem still_writeAnchor (s : State) (g : Nat) (kind : Nat) (result : Nat) (reason : Nat) (cklsn : Nat) (pass : Nat) (lsn : Nat) : Still s
    (State.writeAnchor s g kind result reason cklsn pass lsn) := by
  unfold State.writeAnchor
  split
  rename_i w1 w2 w3 w4
  have hw2 : Still s w2 := by
    refine still_fst ?_ w4
    refine Still.trans ?_ (still_anchorCopies _ _ _)
    exact Still.refl _
  extract_lets v5 v6
  refine still_mk ?_
  exact hw2

theorem still_releaseBlocks (s : State) (l : List Nat) : Still s (State.releaseBlocks s l) := by
  unfold State.releaseBlocks
  refine still_foldl _ ?_ ?_
  · intro a1 a2
    refine Still.trans ?_ (still_listRun _ _ _)
    exact Still.refl _
  · exact Still.refl _

theorem still_onFlash (s : State) (r : JRec) : Still s (State.onFlash s r) := by
  unfold State.onFlash
  refine still_ite ?_ ?_
  · extract_lets v1 v2 v3 v4 v5
    have hv5 : Still s v5 := by
      subst v5
      refine still_mk ?_
      exact Still.refl _
    refine Still.trans ?_ (still_ceilUpdate _ _)
    refine Still.trans ?_ (still_releaseBlocks _ _)
    exact hv5
  · refine still_ite ?_ ?_
    · split
      · extract_lets v6 v7
        refine Still.trans ?_ (still_ceilUpdate _ _)
        refine still_mk ?_
        exact Still.refl _
      · exact Still.refl _
    · refine still_ite ?_ ?_
      · split
        · refine still_ite ?_ ?_
          · exact Still.refl _
          · refine Still.trans ?_ (still_writeAnchor _ _ _ _ _ _ _ _)
            exact Still.refl _
        · exact Still.refl _
      · refine still_ite ?_ ?_
        · split
          · refine Still.trans ?_ (still_writeAnchor _ _ _ _ _ _ _ _)
            refine still_mk ?_
            exact Still.refl _
          · exact Still.refl _
        · exact Still.refl _

theorem still_commitRecord (s : State) (k : Skein) : Still s (State.commitRecord s k) := by
  unfold State.commitRecord
  extract_lets v1 v2 v3 v4 v5 v6
  have hv1 : Still s v1 := by
    clear v2 v3 v4 v5 v6
    subst v1
    refine Still.trans ?_ (still_land _ _)
    exact Still.refl _
  have hv2 : Still s v2 := by
    clear v3 v4 v5 v6
    subst v2
    refine still_ite ?_ ?_
    · exact hv1
    · refine Still.trans ?_ (still_event _ _ _)
      exact hv1
  have hv5 : Still s v5 := by
    clear v6
    subst v5
    refine still_mk ?_
    exact hv2
  have hv6 : Still s v6 := by
    subst v6
    refine still_foldl _ ?_ ?_
    · intro a7 a8
      refine Still.trans ?_ (still_onFlash _ _)
      exact Still.refl _
    · refine Still.trans ?_ (still_wr _ _ _)
      exact hv5
  refine Still.trans ?_ (still_freeDead _)
  exact hv6

theorem still_commitRecords (s : State) (n : Nat) : Still s (State.commitRecords s n) := by
  induction n generalizing s with
  | zero => exact Still.refl s
  | succ n ih =>
    unfold State.commitRecords
    split
    · refine Still.trans ?_ (ih _)
      refine Still.trans ?_ (still_commitRecord _ _)
      exact Still.refl _
    · exact Still.refl _

theorem still_poisonRecs (s : State) : Still s (State.poisonRecs s) := by
  unfold State.poisonRecs
  refine still_foldl _ ?_ ?_
  · intro a1 a2
    refine Still.trans ?_ (still_append _ _ _ _ _)
    exact Still.refl _
  · exact Still.refl _

theorem still_reportJournal (s : State) (g : Nat) (trunc : Bool) (ovf : Bool) (xunits : Nat) (fr : List Frontier) (ls : List LossRec) :
    Still s (State.reportJournal s g trunc ovf xunits fr ls) := by
  unfold State.reportJournal
  extract_lets v1
  have hv1 : Still s v1 := by
    subst v1
    refine still_foldl _ ?_ ?_
    · intro a2 a3
      refine Still.trans ?_ (still_append _ _ _ _ _)
      exact Still.refl _
    · exact Still.refl _
  refine still_foldl _ ?_ ?_
  · intro a4 a5
    refine Still.trans ?_ (still_append _ _ _ _ _)
    exact Still.refl _
  · exact hv1

theorem still_lateRecs (s : State) (g : Nat) (trunc : Bool) (ovf : Bool) (xunits : Nat) (fr : List Frontier) (ls : List LossRec) : Still s
    (State.lateRecs s g trunc ovf xunits fr ls) := by
  unfold State.lateRecs
  refine Still.trans ?_ (still_reportJournal _ _ _ _ _ _ _)
  refine Still.trans ?_ (still_poisonRecs _)
  exact Still.refl _

theorem still_closeOut (s : State) (result : Nat) : Still s (State.closeOut s result) := by
  unfold State.closeOut
  extract_lets v1 v2 v3 v4 v5 v6 v7 v8 v9 v10 v11 v12 v13 v14 v15 v16 v17 v18
  have hv1 : Still s v1 := by
    clear v2 v3 v4 v5 v6 v7 v8 v9 v10 v11 v12 v13 v14 v15 v16 v17 v18
    subst v1
    refine Still.trans ?_ (still_earlyRecs _)
    exact Still.refl _
  have hv3 : Still s v3 := by
    clear v4 v5 v6 v7 v8 v9 v10 v11 v12 v13 v14 v15 v16 v17 v18
    subst v3
    refine Still.trans ?_ (still_takeGen _)
    exact hv1
  have hv11 : Still s v11 := by
    clear v12 v13 v14 v15 v16 v17 v18
    subst v11
    refine Still.trans ?_ (still_lateRecs _ _ _ _ _ _ _)
    exact hv3
  have hv15 : Still s v15 := by
    clear v16 v17 v18
    subst v15
    refine still_mk ?_
    exact hv11
  have hv16 : Still s v16 := by
    clear v17 v18
    subst v16
    refine Still.trans ?_ (still_wr _ _ _)
    refine Still.trans ?_ (still_wr _ _ _)
    exact hv15
  have hv17 : Still s v17 := by
    clear v18
    subst v17
    refine still_ite ?_ ?_
    · refine Still.trans ?_ (still_event _ _ _)
      exact hv16
    · refine still_ite ?_ ?_
      · refine Still.trans ?_ (still_event _ _ _)
        exact hv16
      · exact hv16
  have hv18 : Still s v18 := by
    subst v18
    refine Still.trans ?_ (still_journal _ _ _)
    exact hv17
  refine Still.trans ?_ (still_commitRecords _ _)
  exact hv18

theorem still_streamEnd (s : State) : Still s (State.streamEnd s) := by
  unfold State.streamEnd
  refine still_ite ?_ ?_
  · refine still_ite ?_ ?_
    · refine Still.trans ?_ (still_closeOut _ _)
      exact Still.refl _
    · refine still_ite ?_ ?_
      · refine Still.trans ?_ (still_closeOut _ _)
        exact Still.refl _
      · exact Still.refl _
  · exact Still.refl _

theorem still_execOperatingSecondsWrite (s : State) : StillA s (execOperatingSecondsWrite s) := by
  unfold execOperatingSecondsWrite
  extract_lets v1 v2
  have hv1 : Still s v1 := by
    clear v2
    subst v1
    refine Still.trans ?_ (still_begin _)
    exact Still.refl _
  refine stillA_ite ?_ ?_
  · refine stillA_next ?_
    refine Still.trans ?_ (still_norProgram _)
    refine still_mk ?_
    exact hv1
  · refine stillA_next ?_
    exact hv1

theorem still_cxlEvent (s : State) (k : Nat) (sev : Nat) (code : Nat) (data : List Nat) : Still s (State.cxlEvent s k sev code data) := by
  unfold State.cxlEvent
  extract_lets v1 v2
  refine still_ite ?_ ?_
  · refine Still.trans ?_ (still_setHead _ _ _)
    exact Still.refl _
  · refine Still.trans ?_ (still_setHead _ _ _)
    exact Still.refl _

theorem still_mediaEvent (s : State) (u : Nat) (kind : Nat) : Still s (State.mediaEvent s u kind) := by
  unfold State.mediaEvent
  refine still_forEach _ ?_ ?_
  · intro a1 a2
    refine Still.trans ?_ (still_cxlEvent _ _ _ _ _)
    exact Still.refl _
  · exact Still.refl _

theorem still_runFences (s : State) (q n : Nat) : Still s (State.runFences s q n) := by
  induction n generalizing s with
  | zero => exact Still.refl s
  | succ n ih =>
    unfold State.runFences
    split
    · exact Still.refl _
    · extract_lets v1 v2 v3
      refine Still.trans ?_ (ih _)
      refine Still.trans ?_ (still_decideTicket _ _ _ _ _)
      refine Still.trans ?_ (still_setQueue _ _ _)
      exact Still.refl _

theorem still_finish (s : State) (t : Ticket) (st : Nat) (rs : Nat) (res : Nat) : Still s (State.finish s t st rs res) := by
  unfold State.finish
  extract_lets v1
  have hv1 : Still s v1 := by
    subst v1
    refine Still.trans ?_ (still_decideTicket _ _ _ _ _)
    exact Still.refl _
  refine Still.trans ?_ (still_poolCheck _)
  refine Still.trans ?_ (still_runFences _ _ _)
  exact hv1

theorem still_lostLines (s : State) (lo : Nat) (hi : Nat) : Still s (State.lostLines s lo hi) := by
  unfold State.lostLines
  refine still_foldl _ ?_ ?_
  · intro a1 a2
    refine Still.trans ?_ (still_finish _ _ _ _ _)
    exact Still.refl _
  · exact Still.refl _

theorem still_setMch (s : State) (c : Nat) (x : McChan) : Still s (State.setMch s c x) := by
  unfold State.setMch
  refine still_mk ?_
  exact Still.refl _

theorem keep_uncorrectableLine (s : State) (line : Nat) : Keep s (State.uncorrectableLine s line) := by
  unfold State.uncorrectableLine
  extract_lets v1 v2 v3 v4 v5
  have hv3 : Keep s v3 := by
    clear v4 v5
    subst v3
    refine Keep.trans ?_ (still_event _ _ _).keep
    refine Keep.trans ?_ (still_bump _ _).keep
    refine Keep.trans ?_ (still_setMch _ _ _).keep
    exact Keep.refl _
  have hv4 : Keep s v4 := by
    clear v5
    subst v4
    refine Keep.trans ?_ (still_lostLines _ _ _).keep
    refine Keep.trans ?_ (still_mediaEvent _ _ _).keep
    refine Keep.trans ?_ (keep_poisonLine _ _ _)
    exact hv3
  split
  · exact hv4
  · refine keep_ite ?_ ?_
    · exact hv4
    · split
      · refine keep_ite ?_ ?_
        · exact hv4
        · refine keep_mk ?_
          exact hv4
      · refine Keep.trans ?_ (keep_zeroUnit _ _)
        exact hv4

theorem keep_execScanMediaComplete (h : Nat) (found : List Nat) (s : State) : KeepA s (execScanMediaComplete h found s) := by
  unfold execScanMediaComplete
  extract_lets v1
  have hv1 : Keep s v1 := by
    subst v1
    refine Keep.trans ?_ (still_begin _).keep
    exact Keep.refl _
  split
  · extract_lets v2 v3 v4
    have hv3 : Keep s v3 := by
      clear v4
      subst v3
      refine keep_foldl _ ?_ ?_
      · intro a5 a6
        refine Keep.trans ?_ (keep_uncorrectableLine _ _)
        exact Keep.refl _
      · exact hv1
    refine keepA_next ?_
    refine Keep.trans ?_ (still_setHead _ _ _).keep
    exact hv3
  · refine keepA_next ?_
    exact hv1

theorem still_execMsixVectorUnmask (h : Nat) (vec : Option Nat) (s : State) : StillA s (execMsixVectorUnmask h vec s) := by
  unfold execMsixVectorUnmask
  extract_lets v1 v2 v3 v4
  have hv1 : Still s v1 := by
    clear v2 v3 v4
    subst v1
    refine Still.trans ?_ (still_begin _)
    exact Still.refl _
  have hv4 : Still s v4 := by
    subst v4
    refine Still.trans ?_ (still_setHead _ _ _)
    exact hv1
  split
  · extract_lets v5
    have hv5 : Still s v5 := by
      subst v5
      refine Still.trans ?_ (still_setHead _ _ _)
      exact hv1
    refine stillA_next ?_
    refine still_ite ?_ ?_
    · refine Still.trans ?_ (still_msix _ _ _)
      exact hv5
    · exact hv5
  · refine stillA_next ?_
    refine still_foldl _ ?_ ?_
    · intro a6 a7
      refine Still.trans ?_ (still_msix _ _ _)
      exact Still.refl _
    · exact hv4

theorem still_execMgtEthLinkChange (up : Bool) (s : State) : StillA s (execMgtEthLinkChange up s) := by
  unfold execMgtEthLinkChange
  extract_lets v1 v2
  have hv1 : Still s v1 := by
    clear v2
    subst v1
    refine Still.trans ?_ (still_begin _)
    exact Still.refl _
  refine stillA_ite ?_ ?_
  · refine stillA_next ?_
    exact hv1
  · refine stillA_next ?_
    refine Still.trans ?_ (still_updReady _)
    refine still_mk ?_
    exact hv1

theorem still_execSpdmDoeMessage (h : Nat) (m : DoeMsg) (s : State) : StillA s (execSpdmDoeMessage h m s) := by
  unfold execSpdmDoeMessage
  extract_lets v1 v2 v3
  have hv1 : Still s v1 := by
    clear v2 v3
    subst v1
    refine Still.trans ?_ (still_begin _)
    exact Still.refl _
  refine stillA_ite ?_ ?_
  · refine stillA_next ?_
    exact hv1
  · refine stillA_ite ?_ ?_
    · refine stillA_next ?_
      refine still_mk ?_
      exact hv1
    · split
      · refine stillA_next ?_
        refine Still.trans ?_ (still_send _ _)
        exact hv1
      · extract_lets v4 v5
        have hv4 : Still s v4 := by
          clear v5
          subst v4
          refine Still.trans ?_ (still_send _ _)
          refine Still.trans ?_ (still_setHead _ _ _)
          exact hv1
        have hv5 : Still s v5 := by
          subst v5
          refine Still.trans ?_ (still_wri _ _ _ _)
          refine Still.trans ?_ (still_skipFree _)
          exact hv4
        refine stillA_next ?_
        refine still_ite ?_ ?_
        · exact hv5
        · refine Still.trans ?_ (still_setIdle _ _)
          exact hv5

theorem still_execHdmDecoderCommit (h : Nat) (i : Nat) (base : Nat) (size : Nat) (ways : Nat) (gran : Nat) (dpa : Nat) (lock : Bool) (s :
    State) : StillA s (execHdmDecoderCommit h i base size ways gran dpa lock s) := by
  unfold execHdmDecoderCommit
  extract_lets v1 v2 v3 v4 v5 v6
  have hv1 : Still s v1 := by
    clear v2 v3 v4 v5 v6
    subst v1
    refine Still.trans ?_ (still_begin _)
    exact Still.refl _
  refine stillA_ite ?_ ?_
  · refine stillA_next ?_
    exact hv1
  · refine stillA_next ?_
    refine Still.trans ?_ (still_setHead _ _ _)
    exact hv1

theorem still_setBay (s : State) (b : Nat) (x : Bay) : Still s (State.setBay s b x) := by
  unfold State.setBay
  refine still_ite ?_ ?_
  · refine still_mk ?_
    exact Still.refl _
  · refine still_mk ?_
    exact Still.refl _

theorem still_writeLearn (s : State) (b : Nat) : Still s (State.writeLearn s b) := by
  unfold State.writeLearn
  extract_lets v1 v2
  split
  · exact Still.refl _
  · refine still_ite ?_ ?_
    · exact Still.refl _
    · refine Still.trans ?_ (still_norProgram _)
      refine Still.trans ?_ (still_setBay _ _ _)
      exact Still.refl _

theorem still_setBlock (s : State) (b : Nat) (x : BootBlock) : Still s (State.setBlock s b x) := by
  unfold State.setBlock
  extract_lets v1 v2
  have hv2 : Still s v2 := by
    subst v2
    refine still_ite ?_ ?_
    · refine still_mk ?_
      exact Still.refl _
    · refine still_mk ?_
      exact Still.refl _
  refine Still.trans ?_ (still_wr _ _ _)
  exact hv2

theorem still_finishSeq (s : State) (k : Option (Nat × Nat)) (st : Nat) (rs : Nat) (res : Nat) : Still s (State.finishSeq s k st rs res) := by
  unfold State.finishSeq
  split
  · refine Still.trans ?_ (still_finish _ _ _ _ _)
    exact Still.refl _
  · exact Still.refl _

theorem still_answerPart (s : State) (p : StagePart) (ok : Bool) : Still s (State.answerPart s p ok) := by
  unfold State.answerPart
  extract_lets v1
  have hv1 : Still s v1 := by
    subst v1
    split
    · extract_lets v2 v3
      have hv3 : Still s v3 := by
        subst v3
        refine Still.trans ?_ (still_setHead _ _ _)
        exact Still.refl _
      refine Still.trans ?_ (still_reply _ _ _ _)
      exact hv3
    · exact Still.refl _
  refine Still.trans ?_ (still_finishSeq _ _ _ _ _)
  exact hv1

theorem still_partDone (s : State) (p : StagePart) : Still s (State.partDone s p) := by
  unfold State.partDone
  extract_lets v1 v2 v3 v4 v5 v6 v7
  have hv2 : Still s v2 := by
    clear v3 v4 v5 v6 v7
    subst v2
    refine Still.trans ?_ (still_wr _ _ _)
    exact Still.refl _
  have hv4 : Still s v4 := by
    clear v5 v6 v7
    subst v4
    refine still_mk ?_
    exact hv2
  have hv5 : Still s v5 := by
    clear v6 v7
    subst v5
    refine Still.trans ?_ (still_wr _ _ _)
    refine Still.trans ?_ (still_wr _ _ _)
    refine Still.trans ?_ (still_setBit _ _ _ _)
    refine Still.trans ?_ (still_setBlock _ _ _)
    exact hv4
  have hv7 : Still s v7 := by
    subst v7
    refine still_mk ?_
    exact hv5
  refine still_ite ?_ ?_
  · refine Still.trans ?_ (still_answerPart _ _ _)
    exact hv4
  · refine Still.trans ?_ (still_answerPart _ _ _)
    refine Still.trans ?_ (still_event _ _ _)
    exact hv7

theorem still_execNorOperationComplete (s : State) : StillA s (execNorOperationComplete s) := by
  unfold execNorOperationComplete
  extract_lets v1 v2 v3 v4
  have hv1 : Still s v1 := by
    clear v2 v3 v4
    subst v1
    refine Still.trans ?_ (still_begin _)
    exact Still.refl _
  have hv3 : Still s v3 := by
    clear v4
    subst v3
    refine Still.trans ?_ (still_wr _ _ _)
    exact hv1
  have hv4 : Still s v4 := by
    subst v4
    split
    · refine Still.trans ?_ (still_partDone _ _)
      exact hv3
    · exact hv3
  refine stillA_ite ?_ ?_
  · refine stillA_next ?_
    refine Still.trans ?_ (still_wr _ _ _)
    exact hv1
  · refine stillA_ite ?_ ?_
    · refine stillA_next ?_
      refine Still.trans ?_ (still_wr _ _ _)
      exact hv1
    · refine stillA_ite ?_ ?_
      · refine stillA_next ?_
        refine Still.trans ?_ (still_writeLearn _ _)
        refine Still.trans ?_ (still_writeLearn _ _)
        exact hv4
      · refine stillA_next ?_
        exact hv1

theorem still_freeTgts (s : State) (cls : Nat) (unit : Nat) : Still s (State.freeTgts s cls unit) := by
  unfold State.freeTgts
  refine still_ite ?_ ?_
  · extract_lets v1 v2
    have hv2 : Still s v2 := by
      subst v2
      refine still_forEach _ ?_ ?_
      · intro a3 a4
        refine Still.trans ?_ (still_setTgt _ _ _)
        exact Still.refl _
      · exact Still.refl _
    refine Still.trans ?_ (still_ceilUpdate _ _)
    refine Still.trans ?_ (still_wr _ _ _)
    exact hv2
  · exact Still.refl _

theorem keep_execTestComplete (n : Nat) (passed : Bool) (faults : Nat) (causes : List (Nat × Nat)) (s : State) : KeepA s (execTestComplete
    n passed faults causes s) := by
  unfold execTestComplete
  extract_lets v1
  have hv1 : Keep s v1 := by
    subst v1
    refine Keep.trans ?_ (still_begin _).keep
    exact Keep.refl _
  split
  · refine keepA_next ?_
    exact hv1
  · refine keepA_ite ?_ ?_
    · refine keepA_next ?_
      exact hv1
    · extract_lets v2 v3
      have hv2 : Keep s v2 := by
        clear v3
        subst v2
        refine keep_mk ?_
        exact hv1
      have hv3 : Keep s v3 := by
        subst v3
        refine keep_foldl _ ?_ ?_
        · intro a4 a5
          refine Keep.trans ?_ (keep_bindTarget _ _ _)
          exact Keep.refl _
        · exact hv2
      refine keepA_next ?_
      refine Keep.trans ?_ (still_settleMr _).keep
      refine Keep.trans ?_ (still_freeTgts _ _ _).keep
      exact hv3

theorem still_sendPiece (s : State) (n : Nat) (c : Cand) : Still s (State.sendPiece s n c) := by
  unfold State.sendPiece
  extract_lets v1 v2
  have hv2 : Still s v2 := by
    subst v2
    refine still_forEach _ ?_ ?_
    · intro a3 a4
      extract_lets v5 v6
      refine Still.trans ?_ (still_pushOut _ _ _)
      refine Still.trans ?_ (still_wr _ _ _)
      exact Still.refl _
    · exact Still.refl _
  refine still_ite ?_ ?_
  · refine Still.trans ?_ (still_sendSeq _ _ _)
    exact Still.refl _
  · refine Still.trans ?_ (still_addi _ _ _ _)
    exact hv2

theorem still_copyPieces (s : State) (n : Nat) : Still s (State.copyPieces s n) := by
  induction n generalizing s with
  | zero => exact Still.refl s
  | succ n ih =>
    unfold State.copyPieces
    split
    · extract_lets v1 v2 v3
      have hv2 : Still s v2 := by
        clear v3
        subst v2
        refine Still.trans ?_ (still_sendPiece _ _ _)
        exact Still.refl _
      refine still_ite ?_ ?_
      · refine Still.trans ?_ (still_startFetch _ _ _)
        exact Still.refl _
      · refine still_ite ?_ ?_
        · exact Still.refl _
        · refine Still.trans ?_ (ih _)
          refine still_mk ?_
          exact hv2
    · exact Still.refl _

theorem still_copyStep (s : State) : Still s (State.copyStep s) := by
  unfold State.copyStep
  refine still_ite ?_ ?_
  · refine Still.trans ?_ (still_copyPieces _ _)
    exact Still.refl _
  · exact Still.refl _

theorem still_execCopyEngineScanEnd (s : State) : StillA s (execCopyEngineScanEnd s) := by
  unfold execCopyEngineScanEnd
  extract_lets v1
  have hv1 : Still s v1 := by
    subst v1
    refine Still.trans ?_ (still_copyStep _)
    refine Still.trans ?_ (still_begin _)
    exact Still.refl _
  split
  · refine stillA_next ?_
    exact hv1
  · refine stillA_ite ?_ ?_
    · refine stillA_next ?_
      exact hv1
    · extract_lets v2 v3 v4 v5 v6 v7
      have hv3 : Still s v3 := by
        clear v4 v5 v6 v7
        subst v3
        refine Still.trans ?_ (still_sendSeq _ _ _)
        exact hv1
      have hv6 : Still s v6 := by
        clear v7
        subst v6
        refine still_mk ?_
        exact hv3
      have hv7 : Still s v7 := by
        subst v7
        refine still_ite ?_ ?_
        · exact hv6
        · refine still_mk ?_
          exact hv6
      refine stillA_next ?_
      refine Still.trans ?_ (still_copyNext _)
      refine still_ite ?_ ?_
      · refine Still.trans ?_ (still_wri _ _ _ _)
        exact hv7
      · exact hv7

theorem still_storeConfig (s : State) (off : Nat) (val : Nat) (mask : Nat) (factory : Bool) : Still s (State.storeConfig s off val mask
    factory) := by
  unfold State.storeConfig
  extract_lets v1 v2 v3
  have hv3 : Still s v3 := by
    subst v3
    refine still_mk ?_
    exact Still.refl _
  refine Still.trans ?_ (still_norProgram _)
  refine Still.trans ?_ (still_event _ _ _)
  exact hv3

theorem still_writeField (s : State) (f : Field) (i : Nat) (v : Nat) : Still s (State.writeField s f i v) := by
  unfold State.writeField
  split
  · refine Still.trans ?_ (still_wri _ _ _ _)
    exact Still.refl _
  · refine Still.trans ?_ (still_wri _ _ _ _)
    exact Still.refl _
  · refine still_ite ?_ ?_
    · exact Still.refl _
    · refine Still.trans ?_ (still_wri _ _ _ _)
      exact Still.refl _
  · refine Still.trans ?_ (still_wri _ _ _ _)
    exact Still.refl _
  · refine Still.trans ?_ (still_wri _ _ _ _)
    exact Still.refl _
  · exact Still.refl _
  · exact Still.refl _

theorem still_writeFields (s : State) (k : Nat) (off : Nat) (val : Nat) : Still s (State.writeFields s k off val) := by
  unfold State.writeFields
  extract_lets v1 v2
  have hv1 : Still s v1 := by
    clear v2
    subst v1
    refine still_foldl _ ?_ ?_
    · intro a3 a4
      refine Still.trans ?_ (still_writeField _ _ _ _)
      exact Still.refl _
    · exact Still.refl _
  refine still_ite ?_ ?_
  · exact hv1
  · refine Still.trans ?_ (still_storeConfig _ _ _ _ _)
    exact hv1

theorem still_recap (s : State) : Still s (State.recap s) := by
  unfold State.recap
  extract_lets v1 v2
  have hv2 : Still s v2 := by
    subst v2
    refine Still.trans ?_ (still_wr _ _ _)
    exact Still.refl _
  refine still_ite ?_ ?_
  · exact hv2
  · refine Still.trans ?_ (still_seekOp _ _)
    exact hv2

theorem still_afterWrite (a0 : State) (s : State) (off : Nat) : Still s (State.afterWrite a0 s off) := by
  unfold State.afterWrite
  refine still_ite ?_ ?_
  · refine Still.trans ?_ (still_settleMr _)
    exact Still.refl _
  · refine still_ite ?_ ?_
    · refine Still.trans ?_ (still_recap _)
      exact Still.refl _
    · refine still_ite ?_ ?_
      · refine still_act ?_ ?_
        · exact Still.refl _
        · refine stillA_trans ?_ (still_execCkPtpWrite _ _)
          exact Still.refl _
      · refine still_ite ?_ ?_
        · refine still_mk ?_
          exact Still.refl _
        · refine Still.trans ?_ (still_updReady _)
          exact Still.refl _

theorem still_execEvLselWrite (val : Nat) (s : State) : StillA s (execEvLselWrite val s) := by
  unfold execEvLselWrite
  extract_lets v1 v2
  have hv1 : Still s v1 := by
    clear v2
    subst v1
    refine Still.trans ?_ (still_wr _ _ _)
    refine Still.trans ?_ (still_begin _)
    exact Still.refl _
  refine stillA_next ?_
  refine Still.trans ?_ (still_wr _ _ _)
  refine still_mk ?_
  exact hv1

theorem still_setOwner (s : State) (key : Option Nat) : Still s (State.setOwner s key) := by
  unfold State.setOwner
  extract_lets v1 v2
  refine Still.trans ?_ (still_event _ _ _)
  refine Still.trans ?_ (still_wr _ _ _)
  refine Still.trans ?_ (still_wr _ _ _)
  refine still_mk ?_
  exact Still.refl _

theorem still_shedHeads (s : State) : Still s (State.shedHeads s) := by
  unfold State.shedHeads
  extract_lets v1 v2 v3 v4 v5
  have hv1 : Still s v1 := by
    clear v2 v3 v4 v5
    subst v1
    refine still_forEach _ ?_ ?_
    · intro a6 a7
      refine Still.trans ?_ (still_dropHeld _ _)
      exact Still.refl _
    · exact Still.refl _
  have hv2 : Still s v2 := by
    clear v3 v4 v5
    subst v2
    refine still_forEach _ ?_ ?_
    · intro a8 a9
      extract_lets v10
      have hv10 : Still a8 v10 := by
        subst v10
        refine still_ite ?_ ?_
        · exact Still.refl _
        · refine Still.trans ?_ (still_wri _ _ _ _)
          exact Still.refl _
      refine Still.trans ?_ (still_wri _ _ _ _)
      refine Still.trans ?_ (still_wri _ _ _ _)
      exact hv10
    · exact hv1
  have hv4 : Still s v4 := by
    clear v5
    subst v4
    refine still_mk ?_
    exact hv2
  have hv5 : Still s v5 := by
    subst v5
    refine still_forEach _ ?_ ?_
    · intro a11 a12
      refine still_ite ?_ ?_
      · exact Still.refl _
      · refine Still.trans ?_ (still_startFetch _ _ _)
        exact Still.refl _
    · exact hv4
  refine Still.trans ?_ (still_wr _ _ _)
  refine Still.trans ?_ (still_sendFetches _)
  exact hv5

theorem still_formerTwined (s : State) : Still s (State.formerTwined s) := by
  unfold State.formerTwined
  refine still_foldl _ ?_ ?_
  · intro a1 a2
    refine Still.trans ?_ (still_finish _ _ _ _ _)
    exact Still.refl _
  · exact Still.refl _

theorem still_twinAbsent (s : State) (n : Nat) : Still s (State.twinAbsent s n) := by
  unfold State.twinAbsent
  refine still_foldl _ ?_ ?_
  · intro a1 a2
    refine Still.trans ?_ (still_finish _ _ _ _ _)
    exact Still.refl _
  · exact Still.refl _

theorem still_tellGone (s : State) (n : Nat) (pairid : Nat) (peershr : Nat) : Still s (State.tellGone s n pairid peershr) := by
  unfold State.tellGone
  refine still_ite ?_ ?_
  · refine Still.trans ?_ (still_send _ _)
    exact Still.refl _
  · exact Still.refl _

theorem still_endChange (s : State) (n : Nat) : Still s (State.endChange s n) := by
  unfold State.endChange
  refine Still.trans ?_ (still_wri _ _ _ _)
  refine Still.trans ?_ (still_wri _ _ _ _)
  exact Still.refl _

theorem still_dropSync (s : State) (n : Nat) (save : Bool) : Still s (State.dropSync s n save) := by
  unfold State.dropSync
  extract_lets v1 v2 v3 v4
  have hv1 : Still s v1 := by
    clear v2 v3 v4
    subst v1
    refine Still.trans ?_ (still_endChange _ _)
    refine Still.trans ?_ (still_tellGone _ _ _ _)
    refine Still.trans ?_ (still_wri _ _ _ _)
    exact Still.refl _
  have hv2 : Still s v2 := by
    clear v3 v4
    subst v2
    refine Still.trans ?_ (still_setShState _ _ _)
    exact hv1
  have hv4 : Still s v4 := by
    subst v4
    refine still_mk ?_
    exact hv2
  split
  · refine still_ite ?_ ?_
    · exact hv4
    · refine Still.trans ?_ (still_finish _ _ _ _ _)
      exact hv4
  · exact hv4

theorem still_shareLost (s : State) (n : Nat) (save : Bool) : Still s (State.shareLost s n save) := by
  unfold State.shareLost
  extract_lets v1 v2
  have hv2 : Still s v2 := by
    subst v2
    refine Still.trans ?_ (still_setPstate _ _ _)
    exact Still.refl _
  refine still_ite ?_ ?_
  · refine Still.trans ?_ (still_dropSync _ _ _)
    exact Still.refl _
  · refine still_ite ?_ ?_
    · refine still_ite ?_ ?_
      · exact hv2
      · refine Still.trans ?_ (still_twinAbsent _ _)
        exact hv2
    · refine still_ite ?_ ?_
      · refine Still.trans ?_ (still_setPstate _ _ _)
        exact Still.refl _
      · refine still_ite ?_ ?_
        · refine Still.trans ?_ (still_setPstate _ _ _)
          exact Still.refl _
        · exact Still.refl _

theorem still_pairLost (s : State) (cause : Nat) : Still s (State.pairLost s cause) := by
  unfold State.pairLost
  extract_lets v1 v2 v3 v4 v5
  have hv1 : Still s v1 := by
    clear v2 v3 v4 v5
    subst v1
    refine Still.trans ?_ (still_wr _ _ _)
    refine Still.trans ?_ (still_stopStream _)
    exact Still.refl _
  have hv2 : Still s v2 := by
    clear v3 v4 v5
    subst v2
    refine still_forEach _ ?_ ?_
    · intro a6 a7
      refine Still.trans ?_ (still_shareLost _ _ _)
      exact Still.refl _
    · exact hv1
  have hv3 : Still s v3 := by
    clear v4 v5
    subst v3
    refine still_ite ?_ ?_
    · exact hv2
    · refine Still.trans ?_ (still_formerTwined _)
      exact hv2
  have hv5 : Still s v5 := by
    subst v5
    refine still_mk ?_
    exact hv3
  refine Still.trans ?_ (still_updReady _)
  refine Still.trans ?_ (still_event _ _ _)
  refine Still.trans ?_ (still_bump _ _)
  exact hv5

theorem still_sendMark (s : State) (p : Nat) : Still s (State.sendMark s p) := by
  unfold State.sendMark
  refine still_ite ?_ ?_
  · refine Still.trans ?_ (still_send _ _)
    exact Still.refl _
  · exact Still.refl _

theorem still_sendMarks (s : State) : Still s (State.sendMarks s) := by
  unfold State.sendMarks
  refine still_ite ?_ ?_
  · refine Still.trans ?_ (still_sendMark _ _)
    refine Still.trans ?_ (still_sendMark _ _)
    exact Still.refl _
  · exact Still.refl _

theorem still_twineSave (s : State) : Still s (State.twineSave s) := by
  unfold State.twineSave
  extract_lets v1 v2 v3 v4 v5
  have hv2 : Still s v2 := by
    clear v3 v4 v5
    subst v2
    refine Still.trans ?_ (still_sendMarks _)
    exact Still.refl _
  have hv3 : Still s v3 := by
    clear v4 v5
    subst v3
    refine still_ite ?_ ?_
    · refine Still.trans ?_ (still_send _ _)
      exact hv2
    · exact hv2
  have hv4 : Still s v4 := by
    clear v5
    subst v4
    refine still_ite ?_ ?_
    · refine Still.trans ?_ (still_send _ _)
      exact hv3
    · exact hv3
  refine still_ite ?_ ?_
  · refine Still.trans ?_ (still_pairLost _ _)
    exact hv4
  · exact hv4

theorem still_dropRails (s : State) (p : Nat → Bool) : Still s (State.dropRails s p) := by
  unfold State.dropRails
  refine still_forEach _ ?_ ?_
  · intro a1 a2
    refine still_ite ?_ ?_
    · refine Still.trans ?_ (still_wri _ _ _ _)
      exact Still.refl _
    · exact Still.refl _
  · exact Still.refl _

theorem still_shedRails (s : State) : Still s (State.shedRails s) := by
  unfold State.shedRails
  refine Still.trans ?_ (still_dropRails _ _)
  refine Still.trans ?_ (still_setDoms _ _ _)
  refine Still.trans ?_ (still_setDoms _ _ _)
  exact Still.refl _

theorem keep_discardReset (s : State) : Keep s (State.discardReset s) := by
  unfold State.discardReset
  refine Keep.trans ?_ (keep_rebirth _ _ _)
  refine Keep.trans ?_ (still_shedRails _).keep
  refine Keep.trans ?_ (still_twineSave _).keep
  refine Keep.trans ?_ (still_shedHeads _).keep
  exact Keep.refl _

theorem keep_discardImage (s : State) : Keep s (State.discardImage s) := by
  unfold State.discardImage
  extract_lets v1
  have hv1 : Keep s v1 := by
    subst v1
    refine Keep.trans ?_ (still_wr _ _ _).keep
    exact Keep.refl _
  refine keep_ite ?_ ?_
  · refine Keep.trans ?_ (keep_discardReset _)
    exact hv1
  · exact hv1

theorem still_recorderClear (s : State) (scope : Nat) (owner : Nat) : Still s (State.recorderClear s scope owner) := by
  unfold State.recorderClear
  extract_lets v1 v2 v3 v4 v5
  have hv1 : Still s v1 := by
    clear v2 v3 v4 v5
    subst v1
    refine Still.trans ?_ (still_logWrite _ _)
    exact Still.refl _
  have hv4 : Still s v4 := by
    clear v5
    subst v4
    refine still_mk ?_
    exact hv1
  have hv5 : Still s v5 := by
    subst v5
    refine still_ite ?_ ?_
    · refine Still.trans ?_ (still_wr _ _ _)
      exact hv4
    · exact hv4
  refine Still.trans ?_ (still_event _ _ _)
  refine Still.trans ?_ (still_bump _ _)
  exact hv5

theorem keep_tokenEffect (s : State) (v : Via) (op : Nat) (k : Token) : Keep s (State.tokenEffect s v op k) := by
  unfold State.tokenEffect
  split
  · refine Keep.trans ?_ (still_recorderClear _ _ _).keep
    exact Keep.refl _
  · refine Keep.trans ?_ (keep_discardImage _)
    exact Keep.refl _
  · refine Keep.trans ?_ (still_wr _ _ _).keep
    exact Keep.refl _
  · refine keep_mk ?_
    exact Keep.refl _
  · refine keep_mk ?_
    exact Keep.refl _
  · refine Keep.trans ?_ (still_setOwner _ _).keep
    exact Keep.refl _

theorem keep_submitToken (s : State) (v : Via) (op : Nat) (k : Token) (a4 : State → Nat → State) (ha4 : ∀ z0 z1, Keep z0 (a4 z0 z1)) : Keep
    s (State.submitToken s v op k a4) := by
  unfold State.submitToken
  refine keep_ite ?_ ?_
  · refine Keep.trans ?_ (ha4 _ _)
    refine Keep.trans ?_ (still_wr _ _ _).keep
    exact Keep.refl _
  · extract_lets v1 v2 v3 v4 v5
    have hv2 : Keep s v2 := by
      clear v3 v4 v5
      subst v2
      refine Keep.trans ?_ (still_wr _ _ _).keep
      refine Keep.trans ?_ (still_wr _ _ _).keep
      exact Keep.refl _
    have hv4 : Keep s v4 := by
      clear v5
      subst v4
      refine keep_ite ?_ ?_
      · exact hv2
      · refine keep_mk ?_
        exact hv2
    refine keep_ite ?_ ?_
    · refine Keep.trans ?_ (keep_tokenEffect _ _ _ _)
      refine Keep.trans ?_ (ha4 _ _)
      refine Keep.trans ?_ (still_event _ _ _).keep
      exact hv4
    · refine Keep.trans ?_ (ha4 _ _)
      refine Keep.trans ?_ (still_event _ _ _).keep
      refine Keep.trans ?_ (still_bump _ _).keep
      refine keep_mk ?_
      exact hv4

theorem keep_authGo (s : State) (k : Nat) (val : Nat) : Keep s (State.authGo s k val) := by
  unfold State.authGo
  refine keep_ite ?_ ?_
  · exact Keep.refl _
  · extract_lets v1
    refine Keep.trans ?_ (keep_submitToken _ _ _ _ _ ?_)
    · exact Keep.refl _
    · intro a2 a3
      exact Keep.refl _

theorem still_execFwCtlRecreq (val : Nat) (s : State) : StillA s (execFwCtlRecreq val s) := by
  unfold execFwCtlRecreq
  extract_lets v1
  have hv1 : Still s v1 := by
    subst v1
    refine Still.trans ?_ (still_wr _ _ _)
    refine Still.trans ?_ (still_begin _)
    exact Still.refl _
  refine stillA_next ?_
  refine still_ite ?_ ?_
  · refine Still.trans ?_ (still_wr _ _ _)
    exact hv1
  · exact hv1

theorem still_execMrMarksWrite (val : Nat) (s : State) : StillA s (execMrMarksWrite val s) := by
  unfold execMrMarksWrite
  extract_lets v1 v2 v3 v4
  have hv1 : Still s v1 := by
    clear v2 v3 v4
    subst v1
    refine Still.trans ?_ (still_begin _)
    exact Still.refl _
  refine stillA_ite ?_ ?_
  · refine stillA_next ?_
    refine Still.trans ?_ (still_settleMr _)
    iterate 4 refine Still.trans ?_ (still_wr _ _ _)
    exact hv1
  · refine stillA_next ?_
    refine Still.trans ?_ (still_event _ _ _)
    exact hv1

theorem still_deleteQueue (s : State) (q : Nat) : Still s (State.deleteQueue s q) := by
  unfold State.deleteQueue
  extract_lets v1 v2 v3 v4
  have hv1 : Still s v1 := by
    clear v2 v3 v4
    subst v1
    refine Still.trans ?_ (still_dropHeld _ _)
    exact Still.refl _
  have hv3 : Still s v3 := by
    clear v4
    subst v3
    refine Still.trans ?_ (still_abortQueue _ _)
    refine Still.trans ?_ (still_setQueue _ _ _)
    exact hv1
  refine Still.trans ?_ (still_setQueue _ _ _)
  exact hv3

theorem still_execQueActlWrite (h : Nat) (val : Nat) (s : State) : StillA s (execQueActlWrite h val s) := by
  unfold execQueActlWrite
  extract_lets v1 v2 v3 v4
  have hv1 : Still s v1 := by
    clear v2 v3 v4
    subst v1
    refine Still.trans ?_ (still_begin _)
    exact Still.refl _
  have hv4 : Still s v4 := by
    subst v4
    iterate 5 refine Still.trans ?_ (still_wri _ _ _ _)
    exact hv1
  refine stillA_ite ?_ ?_
  · refine stillA_next ?_
    exact hv1
  · refine stillA_ite ?_ ?_
    · refine stillA_next ?_
      exact hv1
    · refine stillA_ite ?_ ?_
      · refine stillA_ite ?_ ?_
        · refine stillA_next ?_
          exact hv1
        · refine stillA_next ?_
          refine Still.trans ?_ (still_wri _ _ _ _)
          refine Still.trans ?_ (still_deleteQueue _ _)
          exact hv1
      · refine stillA_ite ?_ ?_
        · refine stillA_next ?_
          refine Still.trans ?_ (still_wri _ _ _ _)
          refine Still.trans ?_ (still_setQueue _ _ _)
          exact hv4
        · refine stillA_next ?_
          exact hv4

theorem still_commitShare (s : State) (n : Nat) : Still s (State.commitShare s n) := by
  unfold State.commitShare
  extract_lets v1
  have hv1 : Still s v1 := by
    subst v1
    refine Still.trans ?_ (still_wri _ _ _ _)
    exact Still.refl _
  refine Still.trans ?_ (still_tellShare _ _)
  refine Still.trans ?_ (still_journal _ _ _)
  exact hv1

theorem still_setShMode (s : State) (n : Nat) (m : Nat) : Still s (State.setShMode s n m) := by
  unfold State.setShMode
  refine still_ite ?_ ?_
  · exact Still.refl _
  · refine Still.trans ?_ (still_msix0 _)
    refine Still.trans ?_ (still_setBit _ _ _ _)
    refine Still.trans ?_ (still_wri _ _ _ _)
    exact Still.refl _

theorem still_voidSlots (s : State) (lo : Nat) (hi : Nat) : Still s (State.voidSlots s lo hi) := by
  unfold State.voidSlots
  refine still_mk ?_
  exact Still.refl _

theorem keep_cleanRange (s : State) (lo : Nat) (hi : Nat) : Keep s (State.cleanRange s lo hi) := by
  unfold State.cleanRange
  refine Keep.trans ?_ (still_voidSlots _ _ _).keep
  refine keep_mk ?_
  exact Keep.refl _

theorem keep_setIndex (s : State) (lo : Nat) (hi : Nat) (e : IdxEntry) : Keep s (State.setIndex s lo hi e) := by
  unfold State.setIndex
  refine keep_mk ?_
  exact Keep.refl _

theorem keep_zeroShare (s : State) (n : Nat) : Keep s (State.zeroShare s n) := by
  unfold State.zeroShare
  extract_lets v1
  have hv1 : Keep s v1 := by
    subst v1
    refine Keep.trans ?_ (keep_setIndex _ _ _ _)
    refine Keep.trans ?_ (keep_cleanRange _ _ _)
    exact Keep.refl _
  refine Keep.trans ?_ (still_journal _ _ _).keep
  refine keep_mkc ?_ fun h => ⟨memZero_wf _ _ h.1, h.2⟩
  exact hv1

theorem still_newKgen (s : State) (n : Nat) : Still s (State.newKgen s n) := by
  unfold State.newKgen
  extract_lets v1 v2
  have hv1 : Still s v1 := by
    clear v2
    subst v1
    refine Still.trans ?_ (still_skipDrbg _)
    exact Still.refl _
  refine still_mk ?_
  exact hv1

theorem keep_defineShare (s : State) (n : Nat) (mode : Nat) : Keep s (State.defineShare s n mode) := by
  unfold State.defineShare
  extract_lets v1 v2 v3
  have hv1 : Keep s v1 := by
    clear v2 v3
    subst v1
    refine Keep.trans ?_ (still_newKgen _ _).keep
    exact Keep.refl _
  have hv2 : Keep s v2 := by
    clear v3
    subst v2
    refine keep_ite ?_ ?_
    · refine keep_mkc ?_ fun h => ⟨memZero_wf _ _ h.1, h.2⟩
      exact hv1
    · refine Keep.trans ?_ (keep_zeroShare _ _)
      exact hv1
  have hv3 : Keep s v3 := by
    subst v3
    refine Keep.trans ?_ (still_setShMode _ _ _).keep
    refine Keep.trans ?_ (still_endChange _ _).keep
    refine Keep.trans ?_ (still_wri _ _ _ _).keep
    refine Keep.trans ?_ (still_wri _ _ _ _).keep
    exact hv2
  refine Keep.trans ?_ (still_settleMr _).keep
  refine Keep.trans ?_ (still_commitShare _ _).keep
  refine Keep.trans ?_ (still_setShState _ _ _).keep
  exact hv3

theorem keep_cfgWrite (t : State) (n : Nat) (val : Nat) : Keep t (State.cfgWrite t n val) := by
  unfold State.cfgWrite
  refine keep_ite ?_ ?_
  · exact Keep.refl _
  · extract_lets v1 v2 v3 v4
    have hv2 : Keep t v2 := by
      clear v3 v4
      subst v2
      iterate 4 refine Keep.trans ?_ (still_wri _ _ _ _).keep
      exact Keep.refl _
    refine keep_ite ?_ ?_
    · exact hv2
    · refine keep_ite ?_ ?_
      · refine Keep.trans ?_ (still_wri _ _ _ _).keep
        exact hv2
      · refine keep_ite ?_ ?_
        · refine Keep.trans ?_ (still_wri _ _ _ _).keep
          exact hv2
        · refine keep_ite ?_ ?_
          · refine Keep.trans ?_ (still_wri _ _ _ _).keep
            exact hv2
          · refine keep_ite ?_ ?_
            · refine Keep.trans ?_ (still_wri _ _ _ _).keep
              exact hv2
            · refine keep_ite ?_ ?_
              · refine Keep.trans ?_ (still_wri _ _ _ _).keep
                exact hv2
              · refine Keep.trans ?_ (keep_defineShare _ _ _)
                refine Keep.trans ?_ (still_wri _ _ _ _).keep
                exact hv2

theorem still_postKept (s : State) (q : Nat) : Still s (State.postKept s q) := by
  unfold State.postKept
  extract_lets v1 v2
  have hv2 : Still s v2 := by
    subst v2
    refine still_mk ?_
    exact Still.refl _
  refine Still.trans ?_ (still_poolCheck _)
  refine still_foldl _ ?_ ?_
  · intro a3 a4
    split
    · refine Still.trans ?_ (still_postEntry _ _ _ _ _ _)
      exact Still.refl _
    · exact Still.refl _
  · exact hv2

theorem still_pauseQueues (s : State) (k : Nat) (b : Bool) : Still s (State.pauseQueues s k b) := by
  unfold State.pauseQueues
  extract_lets v1
  have hv1 : Still s v1 := by
    subst v1
    refine still_forEach _ ?_ ?_
    · intro a2 a3
      refine Still.trans ?_ (still_setQueue _ _ _)
      exact Still.refl _
    · exact Still.refl _
  refine still_ite ?_ ?_
  · exact hv1
  · refine still_forEach _ ?_ ?_
    · intro a4 a5
      refine Still.trans ?_ (still_postKept _ _)
      exact Still.refl _
    · exact hv1

theorem still_enterRecovery (s : State) (k : Nat) : Still s (State.enterRecovery s k) := by
  unfold State.enterRecovery
  refine Still.trans ?_ (still_pauseQueues _ _ _)
  refine Still.trans ?_ (still_setLink _ _ _)
  exact Still.refl _

theorem still_execHpCtlRetrain (h : Nat) (val : Nat) (s : State) : StillA s (execHpCtlRetrain h val s) := by
  unfold execHpCtlRetrain
  extract_lets v1 v2
  have hv1 : Still s v1 := by
    clear v2
    subst v1
    refine Still.trans ?_ (still_begin _)
    exact Still.refl _
  have hv2 : Still s v2 := by
    subst v2
    refine Still.trans ?_ (still_wri _ _ _ _)
    exact hv1
  refine stillA_ite ?_ ?_
  · refine stillA_next ?_
    exact hv1
  · refine stillA_ite ?_ ?_
    · refine stillA_next ?_
      refine Still.trans ?_ (still_enterRecovery _ _)
      exact hv2
    · refine stillA_next ?_
      exact hv2

theorem still_attnWrite (s : State) (val : Nat) : Still s (State.attnWrite s val) := by
  unfold State.attnWrite
  extract_lets v1 v2 v3 v4 v5 v6
  have hv2 : Still s v2 := by
    clear v3 v4 v5 v6
    subst v2
    refine Still.trans ?_ (still_event _ _ _)
    exact Still.refl _
  have hv4 : Still s v4 := by
    clear v5 v6
    subst v4
    refine still_mk ?_
    exact hv2
  have hv5 : Still s v5 := by
    clear v6
    subst v5
    refine still_ite ?_ ?_
    · exact Still.refl _
    · refine Still.trans ?_ (still_settleAttn _)
      refine Still.trans ?_ (still_wr _ _ _)
      exact hv4
  refine still_ite ?_ ?_
  · exact hv5
  · refine Still.trans ?_ (still_wr _ _ _)
    refine Still.trans ?_ (still_event _ _ _)
    exact hv5

theorem still_releaseHold (s : State) (cause : Nat) : Still s (State.releaseHold s cause) := by
  unfold State.releaseHold
  refine still_ite ?_ ?_
  · exact Still.refl _
  · extract_lets v1 v2
    have hv1 : Still s v1 := by
      clear v2
      subst v1
      refine Still.trans ?_ (still_event _ _ _)
      refine Still.trans ?_ (still_wr _ _ _)
      exact Still.refl _
    have hv2 : Still s v2 := by
      subst v2
      refine still_forEach _ ?_ ?_
      · intro a3 a4
        refine still_ite ?_ ?_
        · refine Still.trans ?_ (still_wri _ _ _ _)
          exact Still.refl _
        · exact Still.refl _
      · exact hv1
    refine Still.trans ?_ (still_updReady _)
    refine Still.trans ?_ (still_settleMr _)
    exact hv2

theorem still_setWaits (s : State) : Still s (State.setWaits s) := by
  unfold State.setWaits
  refine still_mk ?_
  exact Still.refl _

theorem still_charger (s : State) (b : Nat) (pre : Bool) : Still s (State.charger s b pre) := by
  unfold State.charger
  extract_lets v1 v2 v3
  refine Still.trans ?_ (still_setBay _ _ _)
  exact Still.refl _

theorem still_toCharge (s : State) (b : Nat) : Still s (State.toCharge s b) := by
  unfold State.toCharge
  refine Still.trans ?_ (still_charger _ _ _)
  refine Still.trans ?_ (still_wri _ _ _ _)
  refine Still.trans ?_ (still_wri _ _ _ _)
  exact Still.refl _

theorem still_packTestEnd (s : State) (b : Nat) : Still s (State.packTestEnd s b) := by
  unfold State.packTestEnd
  extract_lets v1 v2 v3
  have hv2 : Still s v2 := by
    clear v3
    subst v2
    refine Still.trans ?_ (still_setBay _ _ _)
    exact Still.refl _
  have hv3 : Still s v3 := by
    subst v3
    refine Still.trans ?_ (still_wr _ _ _)
    refine Still.trans ?_ (still_wri _ _ _ _)
    refine Still.trans ?_ (still_wri _ _ _ _)
    exact hv2
  refine Still.trans ?_ (still_setWaits _)
  exact hv3

theorem still_endTestOrPause (s : State) (b : Nat) : Still s (State.endTestOrPause s b) := by
  unfold State.endTestOrPause
  extract_lets v1 v2
  have hv2 : Still s v2 := by
    subst v2
    refine still_ite ?_ ?_
    · refine Still.trans ?_ (still_packTestEnd _ _)
      exact Still.refl _
    · exact Still.refl _
  refine still_ite ?_ ?_
  · refine Still.trans ?_ (still_toCharge _ _)
    exact hv2
  · exact hv2

theorem still_stopTests (s : State) : Still s (State.stopTests s) := by
  unfold State.stopTests
  extract_lets v1 v2
  have hv1 : Still s v1 := by
    clear v2
    subst v1
    refine still_foldl _ ?_ ?_
    · intro a3 a4
      extract_lets v5 v6
      have hv5 : Still a3 v5 := by
        clear v6
        subst v5
        refine Still.trans ?_ (still_freeTgts _ _ _)
        exact Still.refl _
      refine still_mk ?_
      exact hv5
    · exact Still.refl _
  have hv2 : Still s v2 := by
    subst v2
    refine still_forEach _ ?_ ?_
    · intro a7 a8
      refine still_ite ?_ ?_
      · exact Still.refl _
      · refine Still.trans ?_ (still_endTestOrPause _ _)
        exact Still.refl _
    · exact hv1
  refine Still.trans ?_ (still_setWaits _)
  exact hv2

theorem still_beginHold (s : State) : Still s (State.beginHold s) := by
  unfold State.beginHold
  extract_lets v1 v2 v3 v4
  have hv1 : Still s v1 := by
    clear v2 v3 v4
    subst v1
    refine still_forEach _ ?_ ?_
    · intro a5 a6
      refine still_ite ?_ ?_
      · exact Still.refl _
      · refine Still.trans ?_ (still_wri _ _ _ _)
        refine Still.trans ?_ (still_wri _ _ _ _)
        exact Still.refl _
    · refine Still.trans ?_ (still_stopTests _)
      refine Still.trans ?_ (still_twineSave _)
      exact Still.refl _
  have hv4 : Still s v4 := by
    subst v4
    refine still_mk ?_
    exact hv1
  refine Still.trans ?_ (still_updReady _)
  refine Still.trans ?_ (still_settleMr _)
  refine Still.trans ?_ (still_wr _ _ _)
  exact hv4

theorem still_requestHold (s : State) (source : Nat) : Still s (State.requestHold s source) := by
  unfold State.requestHold
  refine still_ite ?_ ?_
  · exact Still.refl _
  · extract_lets v1
    have hv1 : Still s v1 := by
      subst v1
      refine Still.trans ?_ (still_event _ _ _)
      exact Still.refl _
    refine still_ite ?_ ?_
    · refine Still.trans ?_ (still_beginHold _)
      exact hv1
    · exact hv1

theorem still_panelWrite (s : State) (val : Nat) : Still s (State.panelWrite s val) := by
  unfold State.panelWrite
  extract_lets v1
  have hv1 : Still s v1 := by
    subst v1
    refine Still.trans ?_ (still_wr _ _ _)
    exact Still.refl _
  refine still_ite ?_ ?_
  · refine Still.trans ?_ (still_requestHold _ _)
    exact hv1
  · refine still_ite ?_ ?_
    · refine Still.trans ?_ (still_releaseHold _ _)
      exact hv1
    · exact hv1

theorem still_endHold (s : State) : Still s (State.endHold s) := by
  unfold State.endHold
  refine still_ite ?_ ?_
  · exact Still.refl _
  · refine Still.trans ?_ (still_wr _ _ _)
    exact Still.refl _

theorem still_endStaging (s : State) : Still s (State.endStaging s) := by
  unfold State.endStaging
  refine still_ite ?_ ?_
  · extract_lets v1 v2 v3 v4
    have hv3 : Still s v3 := by
      clear v4
      subst v3
      refine still_ite ?_ ?_
      · refine still_mk ?_
        exact Still.refl _
      · refine still_mk ?_
        exact Still.refl _
    refine Still.trans ?_ (still_wr _ _ _)
    refine still_mk ?_
    exact hv3
  · exact Still.refl _

theorem still_norSave (s : State) : Still s (State.norSave s) := by
  unfold State.norSave
  refine still_ite ?_ ?_
  · refine Still.trans ?_ (still_wr _ _ _)
    exact Still.refl _
  · exact Still.refl _

theorem still_endTests (s : State) : Still s (State.endTests s) := by
  unfold State.endTests
  extract_lets v1 v2 v3
  have hv3 : Still s v3 := by
    subst v3
    refine still_mk ?_
    exact Still.refl _
  refine Still.trans ?_ (still_wr _ _ _)
  exact hv3

theorem still_bayTrigger (s : State) (b : Nat) : Still s (State.bayTrigger s b) := by
  unfold State.bayTrigger
  extract_lets v1 v2 v3 v4
  have hv3 : Still s v3 := by
    clear v4
    subst v3
    refine still_ite ?_ ?_
    · refine still_mk ?_
      exact Still.refl _
    · refine still_mk ?_
      exact Still.refl _
  have hv4 : Still s v4 := by
    subst v4
    refine still_ite ?_ ?_
    · refine Still.trans ?_ (still_wri _ _ _ _)
      refine Still.trans ?_ (still_wri _ _ _ _)
      refine Still.trans ?_ (still_wri _ _ _ _)
      exact hv3
    · exact hv3
  refine Still.trans ?_ (still_wr _ _ _)
  refine Still.trans ?_ (still_wri _ _ _ _)
  refine Still.trans ?_ (still_wri _ _ _ _)
  exact hv4

theorem still_dropPass (s : State) (cause : Nat) : Still s (State.dropPass s cause) := by
  unfold State.dropPass
  refine still_ite ?_ ?_
  · exact Still.refl _
  · extract_lets v1 v2
    refine Still.trans ?_ (still_event _ _ _)
    refine still_mk ?_
    exact Still.refl _

theorem still_suspendErases (s : State) : Still s (State.suspendErases s) := by
  unfold State.suspendErases
  refine still_mk ?_
  exact Still.refl _

theorem keep_dropWalks (s : State) : Keep s (State.dropWalks s) := by
  unfold State.dropWalks
  refine keep_mk ?_
  exact Keep.refl _

theorem still_saveRegs (s : State) (reason : Nat) (trig : Nat) (rs : Nat) : Still s (State.saveRegs s reason trig rs) := by
  unfold State.saveRegs
  extract_lets v1 v2 v3 v4 v5 v6 v7 v8
  have hv2 : Still s v2 := by
    clear v3 v4 v5 v6 v7 v8
    subst v2
    iterate 3 refine Still.trans ?_ (still_wr _ _ _)
    exact Still.refl _
  have hv3 : Still s v3 := by
    clear v4 v5 v6 v7 v8
    subst v3
    iterate 3 refine Still.trans ?_ (still_wr _ _ _)
    exact hv2
  have hv4 : Still s v4 := by
    clear v5 v6 v7 v8
    subst v4
    iterate 3 refine Still.trans ?_ (still_wr _ _ _)
    exact hv3
  have hv5 : Still s v5 := by
    clear v6 v7 v8
    subst v5
    refine Still.trans ?_ (still_bump _ _)
    refine Still.trans ?_ (still_wr _ _ _)
    refine Still.trans ?_ (still_wr _ _ _)
    exact hv4
  have hv6 : Still s v6 := by
    clear v7 v8
    subst v6
    refine Still.trans ?_ (still_wr _ _ _)
    refine Still.trans ?_ (still_wr _ _ _)
    exact hv5
  have hv7 : Still s v7 := by
    clear v8
    subst v7
    refine Still.trans ?_ (still_bump _ _)
    exact hv6
  have hv8 : Still s v8 := by
    subst v8
    iterate 3 refine Still.trans ?_ (still_wr _ _ _)
    exact hv7
  iterate 3 refine Still.trans ?_ (still_wr _ _ _)
  exact hv8

theorem keep_startSave (s : State) (reason : Nat) (trig : Nat) : Keep s (State.startSave s reason trig) := by
  unfold State.startSave
  extract_lets v1 v2 v3 v4 v5 v6 v7 v8 v9 v10 v11 v12 v13 v14 v15 v16 v17 v18 v19 v20
  have hv8 : Keep s v8 := by
    clear v9 v10 v11 v12 v13 v14 v15 v16 v17 v18 v19 v20
    subst v8
    refine Keep.trans ?_ (still_saveRegs _ _ _ _).keep
    exact Keep.refl _
  have hv9 : Keep s v9 := by
    clear v10 v11 v12 v13 v14 v15 v16 v17 v18 v19 v20
    subst v9
    refine Keep.trans ?_ (still_event _ _ _).keep
    exact hv8
  have hv10 : Keep s v10 := by
    clear v11 v12 v13 v14 v15 v16 v17 v18 v19 v20
    subst v10
    refine keep_forEach _ ?_ ?_
    · intro a21 a22
      refine keep_ite ?_ ?_
      · exact Keep.refl _
      · refine Keep.trans ?_ (still_wri _ _ _ _).keep
        refine Keep.trans ?_ (still_wri _ _ _ _).keep
        exact Keep.refl _
    · refine Keep.trans ?_ (still_shedRails _).keep
      refine Keep.trans ?_ (still_twineSave _).keep
      refine Keep.trans ?_ (still_shedHeads _).keep
      exact hv9
  have hv11 : Keep s v11 := by
    clear v12 v13 v14 v15 v16 v17 v18 v19 v20
    subst v11
    refine Keep.trans ?_ (keep_dropWalks _)
    exact hv10
  have hv13 : Keep s v13 := by
    clear v14 v15 v16 v17 v18 v19 v20
    subst v13
    refine keep_mk ?_
    exact hv11
  have hv14 : Keep s v14 := by
    clear v15 v16 v17 v18 v19 v20
    subst v14
    refine keep_forEach _ ?_ ?_
    · intro a23 a24
      refine keep_ite ?_ ?_
      · refine Keep.trans ?_ (still_setShState _ _ _).keep
        refine Keep.trans ?_ (still_endChange _ _).keep
        exact Keep.refl _
      · exact Keep.refl _
    · exact hv13
  have hv15 : Keep s v15 := by
    clear v16 v17 v18 v19 v20
    subst v15
    refine keep_ite ?_ ?_
    · refine Keep.trans ?_ (still_wr _ _ _).keep
      exact hv14
    · exact hv14
  have hv16 : Keep s v16 := by
    clear v17 v18 v19 v20
    subst v16
    refine Keep.trans ?_ (still_suspendErases _).keep
    refine Keep.trans ?_ (still_dropPass _ _).keep
    refine Keep.trans ?_ (still_bayTrigger _ _).keep
    refine Keep.trans ?_ (still_bayTrigger _ _).keep
    refine Keep.trans ?_ (still_endTests _).keep
    exact hv15
  have hv17 : Keep s v17 := by
    clear v18 v19 v20
    subst v17
    refine Keep.trans ?_ (still_wr _ _ _).keep
    refine Keep.trans ?_ (still_snapshot _ _ _).keep
    refine Keep.trans ?_ (still_norSave _).keep
    refine Keep.trans ?_ (still_endStaging _).keep
    refine Keep.trans ?_ (still_endHold _).keep
    exact hv16
  have hv18 : Keep s v18 := by
    clear v19 v20
    subst v18
    refine Keep.trans ?_ (still_enterPhase _ _ _).keep
    exact hv17
  have hv20 : Keep s v20 := by
    subst v20
    refine keep_mk ?_
    exact hv18
  refine Keep.trans ?_ (still_updReady _).keep
  refine Keep.trans ?_ (still_seekOp _ _).keep
  refine Keep.trans ?_ (still_wr _ _ _).keep
  exact hv20

theorem keep_deviceReset (s : State) (source : Nat) (ticks : Nat) : Keep s (State.deviceReset s source ticks) := by
  unfold State.deviceReset
  refine keep_ite ?_ ?_
  · refine Keep.trans ?_ (keep_startSave _ _ _)
    refine Keep.trans ?_ (still_wakeDeep _ _).keep
    exact Keep.refl _
  · refine keep_ite ?_ ?_
    · refine Keep.trans ?_ (keep_rebirth _ _ _)
      exact Keep.refl _
    · refine keep_ite ?_ ?_
      · refine keep_ite ?_ ?_
        · exact Keep.refl _
        · refine Keep.trans ?_ (still_event _ _ _).keep
          refine Keep.trans ?_ (still_wr _ _ _).keep
          exact Keep.refl _
      · refine keep_ite ?_ ?_
        · refine Keep.trans ?_ (keep_rebirth _ _ _)
          refine Keep.trans ?_ (still_sleepWake _ _).keep
          exact Keep.refl _
        · refine keep_ite ?_ ?_
          · refine Keep.trans ?_ (keep_rebirth _ _ _)
            exact Keep.refl _
          · exact Keep.refl _

theorem keep_softReset (s : State) (source : Nat) (ticks : Nat) : Keep s (State.softReset s source ticks) := by
  unfold State.softReset
  refine keep_ite ?_ ?_
  · exact Keep.refl _
  · refine Keep.trans ?_ (keep_deviceReset _ _ _)
    refine Keep.trans ?_ (still_event _ _ _).keep
    exact Keep.refl _

theorem keep_execGenRstWrite (sb : Bool) (val : Nat) (ticks : Nat) (s : State) : KeepA s (execGenRstWrite sb val ticks s) := by
  unfold execGenRstWrite
  extract_lets v1
  have hv1 : Keep s v1 := by
    subst v1
    refine Keep.trans ?_ (still_begin _).keep
    exact Keep.refl _
  refine keepA_ite ?_ ?_
  · refine keepA_next ?_
    refine Keep.trans ?_ (keep_softReset _ _ _)
    exact hv1
  · refine keepA_next ?_
    exact hv1

theorem keep_writeReg (s : State) (k : Nat) (off : Nat) (val : Nat) (sb : Bool) : Keep s (State.writeReg s k off val sb) := by
  unfold State.writeReg
  refine keep_ite ?_ ?_
  · exact Keep.refl _
  · refine keep_ite ?_ ?_
    · refine keep_act ?_ ?_
      · exact Keep.refl _
      · refine keepA_trans ?_ (keep_execGenRstWrite _ _ _ _)
        exact Keep.refl _
    · refine keep_ite ?_ ?_
      · refine Keep.trans ?_ (still_panelWrite _ _).keep
        exact Keep.refl _
      · refine keep_ite ?_ ?_
        · refine Keep.trans ?_ (still_attnWrite _ _).keep
          exact Keep.refl _
        · refine keep_ite ?_ ?_
          · refine keep_act ?_ ?_
            · exact Keep.refl _
            · refine keepA_trans ?_ (still_execHpCtlRetrain _ _ _).keep
              exact Keep.refl _
          · refine keep_ite ?_ ?_
            · refine Keep.trans ?_ (keep_cfgWrite _ _ _)
              exact Keep.refl _
            · refine keep_ite ?_ ?_
              · refine keep_act ?_ ?_
                · exact Keep.refl _
                · refine keepA_trans ?_ (still_execQueActlWrite _ _ _).keep
                  exact Keep.refl _
              · refine keep_ite ?_ ?_
                · refine keep_act ?_ ?_
                  · exact Keep.refl _
                  · refine keepA_trans ?_ (still_execMrMarksWrite _ _).keep
                    exact Keep.refl _
                · refine keep_ite ?_ ?_
                  · refine keep_act ?_ ?_
                    · exact Keep.refl _
                    · refine keepA_trans ?_ (still_execCkSetWrite _ _).keep
                      exact Keep.refl _
                  · refine keep_ite ?_ ?_
                    · refine keep_act ?_ ?_
                      · exact Keep.refl _
                      · refine keepA_trans ?_ (still_execCkPtpWrite _ _).keep
                        exact Keep.refl _
                    · refine keep_ite ?_ ?_
                      · refine keep_act ?_ ?_
                        · exact Keep.refl _
                        · refine keepA_trans ?_ (still_execCkCmonWrite _ _).keep
                          exact Keep.refl _
                      · refine keep_ite ?_ ?_
                        · refine keep_act ?_ ?_
                          · exact Keep.refl _
                          · refine keepA_trans ?_ (still_execFwCtlRecreq _ _).keep
                            exact Keep.refl _
                        · refine keep_ite ?_ ?_
                          · refine Keep.trans ?_ (keep_authGo _ _ _)
                            exact Keep.refl _
                          · refine keep_ite ?_ ?_
                            · refine keep_act ?_ ?_
                              · exact Keep.refl _
                              · refine keepA_trans ?_ (still_execEvLselWrite _ _).keep
                                exact Keep.refl _
                            · refine Keep.trans ?_ (still_afterWrite _ _ _).keep
                              refine Keep.trans ?_ (still_writeFields _ _ _ _).keep
                              exact Keep.refl _

theorem still_whenDrbg (s : State) (c : Instr) (r : State) (h : Still s r) : Still s (State.whenDrbg s c r) := by
  unfold State.whenDrbg
  refine still_ite ?_ ?_
  · exact h
  · refine still_mk ?_
    exact Still.refl _

theorem keep_whenDrbg (s : State) (c : Instr) (r : State) (h : Keep s r) : Keep s (State.whenDrbg s c r) := by
  unfold State.whenDrbg
  refine keep_ite ?_ ?_
  · exact h
  · refine keep_mk ?_
    exact Keep.refl _

theorem still_foreign (s : State) (h : Nat) : Still s (State.foreign s h) := by
  unfold State.foreign
  refine Still.trans ?_ (still_bumpi _ _ _)
  exact Still.refl _

theorem still_badAccess (s : State) (h : Nat) (off : Nat) (size : Nat) : Still s (State.badAccess s h off size) := by
  unfold State.badAccess
  extract_lets v1 v2
  refine still_ite ?_ ?_
  · refine Still.trans ?_ (still_event _ _ _)
    refine Still.trans ?_ (still_setHead _ _ _)
    exact Still.refl _
  · exact Still.refl _

theorem still_newTicket (s : State) (q : Nat) (tag : Nat) (k : TKind) (level : Nat) (share : Nat) (u : Bool) (inl : Bool) : StillP s
    (State.newTicket s q tag k level share u inl) := by
  unfold State.newTicket
  extract_lets v1 v2 v3 v4 v5
  refine stillP_mk ?_
  refine Still.trans ?_ (still_setQueue _ _ _)
  exact Still.refl _

theorem still_takeProbe (s : State) (q : Nat) (tag : Nat) (share : Nat) (level : Nat) (off : Nat) (len : Nat) (u : Bool) (inl : Bool) :
    Still s (State.takeProbe s q tag share level off len u inl) := by
  unfold State.takeProbe
  extract_lets v1
  split
  rename_i w2 w3 w4 w5
  have hw3 : Still s w3 := by
    refine still_fst ?_ w5
    refine Still.trans ?_ (still_newTicket _ _ _ _ _ _ _ _)
    exact Still.refl _
  split
  · refine Still.trans ?_ (still_finish _ _ _ _ _)
    exact hw3
  · split
    rename_i w6 w7 w8 w9
    refine Still.trans ?_ (still_finish _ _ _ _ _)
    exact hw3

theorem still_keepTicket (s : State) (t : Ticket) : Still s (State.keepTicket s t) := by
  unfold State.keepTicket
  extract_lets v1 v2 v3 v4
  have hv1 : Still s v1 := by
    clear v2 v3 v4
    subst v1
    refine still_mk ?_
    exact Still.refl _
  have hv3 : Still s v3 := by
    clear v4
    subst v3
    refine still_ite ?_ ?_
    · refine Still.trans ?_ (still_wr _ _ _)
      exact hv1
    · exact hv1
  refine still_ite ?_ ?_
  · refine Still.trans ?_ (still_event _ _ _)
    refine still_mk ?_
    exact hv3
  · exact hv3

theorem still_captureFence (s : State) (q : Nat) (tag : Nat) (share : Nat) (level : Nat) (b : Bool) (u : Bool) (inl : Bool) : Still s
    (State.captureFence s q tag share level b u inl) := by
  unfold State.captureFence
  split
  rename_i w1 w2 w3 w4
  have hw2 : Still s w2 := by
    refine still_fst ?_ w4
    refine Still.trans ?_ (still_newTicket _ _ _ _ _ _ _ _)
    exact Still.refl _
  refine still_ite ?_ ?_
  · refine Still.trans ?_ (still_keepTicket _ _)
    refine still_ite ?_ ?_
    · refine Still.trans ?_ (still_setQueue _ _ _)
      exact hw2
    · exact hw2
  · extract_lets v5
    have hv5 : Still s v5 := by
      subst v5
      refine still_mk ?_
      exact hw2
    refine Still.trans ?_ (still_runFences _ _ _)
    exact hv5

theorem keep_markWanted (s : State) (lo : Nat) (hi : Nat) : Keep s (State.markWanted s lo hi) := by
  unfold State.markWanted
  extract_lets v1
  refine keep_mk ?_
  exact Keep.refl _

theorem keep_captureCommit (s : State) (q : Nat) (tag : Nat) (share : Nat) (level : Nat) (off : Nat) (len : Nat) (u : Bool) (inl : Bool) :
    Keep s (State.captureCommit s q tag share level off len u inl) := by
  unfold State.captureCommit
  extract_lets v1
  split
  rename_i w2 w3 w4 w5
  have hw3 : Keep s w3 := by
    refine keep_fst ?_ w5
    refine Keep.trans ?_ (still_newTicket _ _ _ _ _ _ _ _).keep
    exact Keep.refl _
  refine keep_ite ?_ ?_
  · refine Keep.trans ?_ (still_finish _ _ _ _ _).keep
    exact hw3
  · split
    · refine Keep.trans ?_ (still_finish _ _ _ _ _).keep
      exact hw3
    · refine keep_ite ?_ ?_
      · refine Keep.trans ?_ (still_finish _ _ _ _ _).keep
        exact hw3
      · refine keep_ite ?_ ?_
        · refine Keep.trans ?_ (still_finish _ _ _ _ _).keep
          exact hw3
        · split
          rename_i w6 w7 w8 w9
          extract_lets v10 v11
          refine keep_ite ?_ ?_
          · refine keep_ite ?_ ?_
            · refine Keep.trans ?_ (still_finish _ _ _ _ _).keep
              exact hw3
            · refine keep_ite ?_ ?_
              · refine Keep.trans ?_ (still_finish _ _ _ _ _).keep
                exact hw3
              · refine Keep.trans ?_ (still_keepTicket _ _).keep
                refine Keep.trans ?_ (still_sendMarks _).keep
                exact hw3
          · refine keep_ite ?_ ?_
            · refine Keep.trans ?_ (still_finish _ _ _ _ _).keep
              exact hw3
            · refine keep_ite ?_ ?_
              · refine Keep.trans ?_ (still_finish _ _ _ _ _).keep
                exact hw3
              · refine Keep.trans ?_ (still_keepTicket _ _).keep
                refine Keep.trans ?_ (keep_markWanted _ _ _)
                exact hw3

theorem keep_captureInline (s : State) (q : Nat) (tag : Option Nat) (w : Nat) : Keep s (State.captureInline s q tag w) := by
  unfold State.captureInline
  extract_lets v1 v2 v3 v4 v5 v6
  split
  · dsimp only [v6]
    refine Keep.trans ?_ (still_finish _ _ _ _ _).keep
    refine Keep.trans ?_ (still_newTicket _ _ _ _ _ _ _ _).keep
    exact Keep.refl _
  · refine keep_ite ?_ ?_
    · dsimp only [v6]
      refine Keep.trans ?_ (still_finish _ _ _ _ _).keep
      refine Keep.trans ?_ (still_newTicket _ _ _ _ _ _ _ _).keep
      exact Keep.refl _
    · refine keep_ite ?_ ?_
      · dsimp only [v6]
        refine Keep.trans ?_ (still_finish _ _ _ _ _).keep
        refine Keep.trans ?_ (still_newTicket _ _ _ _ _ _ _ _).keep
        exact Keep.refl _
      · refine keep_ite ?_ ?_
        · refine Keep.trans ?_ (keep_captureCommit _ _ _ _ _ _ _ _ _)
          exact Keep.refl _
        · refine keep_ite ?_ ?_
          · refine Keep.trans ?_ (still_captureFence _ _ _ _ _ _ _ _).keep
            exact Keep.refl _
          · refine keep_ite ?_ ?_
            · refine Keep.trans ?_ (still_takeProbe _ _ _ _ _ _ _ _ _).keep
              exact Keep.refl _
            · dsimp only [v6]
              refine Keep.trans ?_ (still_finish _ _ _ _ _).keep
              refine Keep.trans ?_ (still_newTicket _ _ _ _ _ _ _ _).keep
              exact Keep.refl _

theorem still_queueError (s : State) (q : Nat) (why : Nat) : Still s (State.queueError s q why) := by
  unfold State.queueError
  extract_lets v1 v2
  have hv1 : Still s v1 := by
    clear v2
    subst v1
    refine Still.trans ?_ (still_dropHeld _ _)
    exact Still.refl _
  refine Still.trans ?_ (still_event _ _ _)
  refine Still.trans ?_ (still_setQueue _ _ _)
  exact hv1

theorem still_doorbell (s : State) (h : Nat) (f : State → State) (hf : ∀ z0, Still z0 (f z0)) : Still s (State.doorbell s h f) := by
  unfold State.doorbell
  refine still_ite ?_ ?_
  · refine Still.trans ?_ (hf _)
    exact Still.refl _
  · exact Still.refl _

theorem keep_doorbell (s : State) (h : Nat) (f : State → State) (hf : ∀ z0, Keep z0 (f z0)) : Keep s (State.doorbell s h f) := by
  unfold State.doorbell
  refine keep_ite ?_ ?_
  · refine Keep.trans ?_ (hf _)
    exact Keep.refl _
  · exact Keep.refl _

theorem keep_execInlCmdWrite (h : Nat) (q : Nat) (tag : Option Nat) (val : Nat) (s : State) : KeepA s (execInlCmdWrite h q tag val s) := by
  unfold execInlCmdWrite
  refine keepA_next ?_
  refine Keep.trans ?_ (keep_doorbell _ _ _ ?_)
  · refine Keep.trans ?_ (still_begin _).keep
    exact Keep.refl _
  · intro a1
    extract_lets v2 v3 v4 v5
    have hv4 : Keep a1 v4 := by
      clear v5
      subst v4
      refine Keep.trans ?_ (still_setQueue _ _ _).keep
      exact Keep.refl _
    refine keep_ite ?_ ?_
    · refine Keep.trans ?_ (still_foreign _ _).keep
      exact Keep.refl _
    · refine keep_ite ?_ ?_
      · refine Keep.trans ?_ (still_queueError _ _ _).keep
        exact Keep.refl _
      · refine keep_ite ?_ ?_
        · refine Keep.trans ?_ (keep_captureInline _ _ _ _)
          exact hv4
        · refine Keep.trans ?_ (still_setQueue _ _ _).keep
          exact hv4

end Sys2Proof.Machine
end

