-- ==== Sys2Proof/Laws/Keep3.lean ====
section
/-! SUPPORT. Keep and Still, operation by operation: part 3 of 6. -/

namespace Sys2Proof.Machine

theorem still_execInlTagWrite (h : Nat) (q : Nat) (val : Nat) (s : State) : StillA s (execInlTagWrite h q val s) := by
  unfold execInlTagWrite
  refine stillA_next ?_
  refine Still.trans ?_ (still_doorbell _ _ _ ?_)
  · refine Still.trans ?_ (still_begin _)
    exact Still.refl _
  · intro a1
    extract_lets v2
    refine still_ite ?_ ?_
    · refine Still.trans ?_ (still_foreign _ _)
      exact Still.refl _
    · refine Still.trans ?_ (still_setQueue _ _ _)
      exact Still.refl _

theorem still_execCqHeadWrite (h : Nat) (q : Nat) (val : Nat) (s : State) : StillA s (execCqHeadWrite h q val s) := by
  unfold execCqHeadWrite
  refine stillA_next ?_
  refine Still.trans ?_ (still_doorbell _ _ _ ?_)
  · refine Still.trans ?_ (still_begin _)
    exact Still.refl _
  · intro a1
    extract_lets v2 v3
    refine still_ite ?_ ?_
    · refine Still.trans ?_ (still_foreign _ _)
      exact Still.refl _
    · refine still_ite ?_ ?_
      · refine Still.trans ?_ (still_queueError _ _ _)
        exact Still.refl _
      · refine still_ite ?_ ?_
        · refine Still.trans ?_ (still_bumpi _ _ _)
          exact Still.refl _
        · refine Still.trans ?_ (still_setQueue _ _ _)
          exact Still.refl _

theorem still_execSqTailWrite (h : Nat) (q : Nat) (val : Nat) (s : State) : StillA s (execSqTailWrite h q val s) := by
  unfold execSqTailWrite
  refine stillA_next ?_
  refine Still.trans ?_ (still_doorbell _ _ _ ?_)
  · refine Still.trans ?_ (still_begin _)
    exact Still.refl _
  · intro a1
    extract_lets v2
    refine still_ite ?_ ?_
    · refine Still.trans ?_ (still_foreign _ _)
      exact Still.refl _
    · refine still_ite ?_ ?_
      · refine Still.trans ?_ (still_queueError _ _ _)
        exact Still.refl _
      · refine still_ite ?_ ?_
        · refine Still.trans ?_ (still_setQueue _ _ _)
          exact Still.refl _
        · exact Still.refl _

theorem keep_execRegisterWrite (h : Nat) (bar : Nat) (off : Nat) (size : Nat) (val : Nat) (s : State) : KeepA s (execRegisterWrite h bar
    off size val s) := by
  unfold execRegisterWrite
  extract_lets v1 v2 v3 v4
  have hv1 : Keep s v1 := by
    clear v2 v3 v4
    subst v1
    refine Keep.trans ?_ (still_begin _).keep
    exact Keep.refl _
  have hv4 : Keep s v4 := by
    subst v4
    refine keep_ite ?_ ?_
    · exact hv1
    · refine Keep.trans ?_ (still_badAccess _ _ _ _).keep
      exact hv1
  refine keepA_ite ?_ ?_
  · refine keepA_next ?_
    exact hv1
  · refine keepA_ite ?_ ?_
    · refine keepA_ite ?_ ?_
      · refine keepA_trans ?_ (still_execSqTailWrite _ _ _ _).keep
        exact Keep.refl _
      · refine keepA_ite ?_ ?_
        · refine keepA_trans ?_ (still_execCqHeadWrite _ _ _ _).keep
          exact Keep.refl _
        · refine keepA_ite ?_ ?_
          · refine keepA_trans ?_ (still_execInlTagWrite _ _ _ _).keep
            exact Keep.refl _
          · refine keepA_ite ?_ ?_
            · refine keepA_trans ?_ (keep_execInlCmdWrite _ _ _ _ _)
              exact Keep.refl _
            · refine keepA_ite ?_ ?_
              · refine keepA_trans ?_ (keep_execInlCmdWrite _ _ _ _ _)
                exact Keep.refl _
              · refine keepA_next ?_
                refine keep_ite ?_ ?_
                · exact hv4
                · refine Keep.trans ?_ (still_foreign _ _).keep
                  exact hv4
    · refine keepA_ite ?_ ?_
      · refine keepA_next ?_
        exact hv1
      · refine keepA_ite ?_ ?_
        · refine keepA_next ?_
          refine Keep.trans ?_ (still_badAccess _ _ _ _).keep
          exact hv1
        · refine keepA_next ?_
          refine Keep.trans ?_ (keep_whenDrbg _ _ _ ?_)
          · exact Keep.refl _
          · refine Keep.trans ?_ (keep_writeReg _ _ _ _ _)
            exact hv1

theorem still_clearRc (s : State) (k : Nat) (off : Nat) : Still s (State.clearRc s k off) := by
  unfold State.clearRc
  refine still_ite ?_ ?_
  · extract_lets v1 v2
    refine Still.trans ?_ (still_setMch _ _ _)
    exact Still.refl _
  · refine still_ite ?_ ?_
    · refine Still.trans ?_ (still_wr _ _ _)
      exact Still.refl _
    · refine still_foldl _ ?_ ?_
      · intro a3 a4
        refine still_ite ?_ ?_
        · refine Still.trans ?_ (still_wri _ _ _ _)
          exact Still.refl _
        · exact Still.refl _
      · exact Still.refl _

theorem still_newNonce (s : State) : Still s (State.newNonce s) := by
  unfold State.newNonce
  extract_lets v1 v2
  have hv1 : Still s v1 := by
    clear v2
    subst v1
    refine Still.trans ?_ (still_skipDrbg _)
    exact Still.refl _
  refine still_mk ?_
  exact hv1

theorem still_execEvS0Read (s : State) : StillA s (execEvS0Read s) := by
  unfold execEvS0Read
  extract_lets v1 v2 v3
  have hv1 : Still s v1 := by
    clear v2 v3
    subst v1
    refine Still.trans ?_ (still_begin _)
    exact Still.refl _
  refine stillA_ite ?_ ?_
  · refine stillA_next ?_
    refine Still.trans ?_ (still_send _ _)
    exact hv1
  · clear_value v2
    split
    · refine stillA_next ?_
      refine Still.trans ?_ (still_send _ _)
      refine still_mk ?_
      exact hv1
    · extract_lets v4
      refine stillA_next ?_
      refine Still.trans ?_ (still_send _ _)
      refine Still.trans ?_ (still_wr _ _ _)
      refine still_mk ?_
      exact hv1

theorem still_quiet (s : State) (a : Answer) (h : StillA s a) : Still s (State.quiet s a) := by
  unfold State.quiet
  split
  · exact (h _ rfl).trans ⟨rfl, rfl, rfl, rfl, rfl, rfl⟩
  · exact Still.refl s

theorem keep_quiet (s : State) (a : Answer) (h : KeepA s a) : Keep s (State.quiet s a) := by
  unfold State.quiet
  split
  · exact keep_with (h _ rfl) rfl rfl rfl
  · exact Keep.refl s

theorem still_readReg (s : State) (k : Nat) (off : Nat) : StillP s (State.readReg s k off) := by
  unfold State.readReg
  refine stillP_ite ?_ ?_
  · refine stillP_mk ?_
    exact Still.refl _
  · refine stillP_ite ?_ ?_
    · extract_lets v1
      have hv1 : Still s v1 := by
        subst v1
        refine Still.trans ?_ (still_quiet _ _ ?_)
        · exact Still.refl _
        · refine stillA_trans ?_ (still_execCkTimeRead _)
          exact Still.refl _
      refine stillP_mk ?_
      exact hv1
    · refine stillP_ite ?_ ?_
      · extract_lets v2
        have hv2 : Still s v2 := by
          subst v2
          refine Still.trans ?_ (still_quiet _ _ ?_)
          · exact Still.refl _
          · refine stillA_trans ?_ (still_execEvS0Read _)
            exact Still.refl _
        refine stillP_mk ?_
        exact hv2
      · refine stillP_ite ?_ ?_
        · extract_lets v3
          have hv3 : Still s v3 := by
            subst v3
            refine Still.trans ?_ (still_newNonce _)
            exact Still.refl _
          refine stillP_mk ?_
          refine still_forEach _ ?_ ?_
          · intro a4 a5
            refine Still.trans ?_ (still_wri _ _ _ _)
            exact Still.refl _
          · exact hv3
        · refine stillP_mk ?_
          refine Still.trans ?_ (still_clearRc _ _ _)
          exact Still.refl _

theorem still_readRegs (s : State) (k off n : Nat) : StillP s (State.readRegs s k off n) := by
  induction n generalizing s off with
  | zero => exact Still.refl s
  | succ n ih => exact Still.trans (still_readReg s k off) (ih (s.readReg k off).1 (off + 8))

theorem still_execReadRegisters (v : Via) (off : Nat) (count : Nat) (s : State) : StillA s (execReadRegisters v off count s) := by
  unfold execReadRegisters
  refine stillA_next ?_
  refine Still.trans ?_ (still_whenDrbg _ _ _ ?_)
  · exact Still.refl _
  · refine Still.trans ?_ (still_mbox _ _ _ _ _ _ ?_)
    · exact Still.refl _
    · intro a1
      refine still_ite ?_ ?_
      · refine Still.trans ?_ (still_reply _ _ _ _)
        exact Still.refl _
      · split
        rename_i w2 w3 w4 w5
        have hw3 : Still a1 w3 := by
          refine still_fst ?_ w5
          refine Still.trans ?_ (still_readRegs _ _ _ _)
          exact Still.refl _
        refine Still.trans ?_ (still_reply _ _ _ _)
        exact hw3

theorem still_execSetBootConfiguration (v : Via) (off : Nat) (val : Nat) (mask : Nat) (factory : Bool) (s : State) : StillA s
    (execSetBootConfiguration v off val mask factory s) := by
  unfold execSetBootConfiguration
  refine stillA_next ?_
  refine Still.trans ?_ (still_mbox _ _ _ _ _ _ ?_)
  · exact Still.refl _
  · intro a1
    extract_lets v2 v3 v4 v5
    have hv4 : Still a1 v4 := by
      clear v5
      subst v4
      refine Still.trans ?_ (still_storeConfig _ _ _ _ _)
      exact Still.refl _
    have hv5 : Still a1 v5 := by
      subst v5
      refine still_ite ?_ ?_
      · exact hv4
      · refine still_ite ?_ ?_
        · refine still_act ?_ ?_
          · exact hv4
          · refine stillA_trans ?_ (still_execMrMarksWrite _ _)
            exact Still.refl _
        · refine still_ite ?_ ?_
          · refine still_act ?_ ?_
            · exact hv4
            · refine stillA_trans ?_ (still_execCkPtpWrite _ _)
              exact Still.refl _
          · refine still_foldl _ ?_ ?_
            · intro a6 a7
              refine still_ite ?_ ?_
              · exact Still.refl _
              · refine Still.trans ?_ (still_writeField _ _ _ _)
                exact Still.refl _
            · exact hv4
    refine still_ite ?_ ?_
    · refine Still.trans ?_ (still_reply _ _ _ _)
      exact Still.refl _
    · refine still_ite ?_ ?_
      · refine Still.trans ?_ (still_reply _ _ _ _)
        exact Still.refl _
      · refine Still.trans ?_ (still_reply _ _ _ _)
        refine Still.trans ?_ (still_afterWrite _ _ _)
        exact hv5

theorem still_execGetBootConfiguration (v : Via) (off : Nat) (s : State) : StillA s (execGetBootConfiguration v off s) := by
  unfold execGetBootConfiguration
  refine stillA_next ?_
  refine Still.trans ?_ (still_mbox _ _ _ _ _ _ ?_)
  · exact Still.refl _
  · intro a1
    refine still_ite ?_ ?_
    · refine Still.trans ?_ (still_reply _ _ _ _)
      exact Still.refl _
    · refine Still.trans ?_ (still_reply _ _ _ _)
      exact Still.refl _

theorem still_execGetReadiness (v : Via) (s : State) : StillA s (execGetReadiness v s) := by
  unfold execGetReadiness
  refine stillA_next ?_
  refine Still.trans ?_ (still_mbox _ _ _ _ _ _ ?_)
  · exact Still.refl _
  · intro a1
    extract_lets v2 v3
    have hv2 : Still a1 v2 := by
      clear v3
      subst v2
      refine Still.trans ?_ (still_settleAttn _)
      exact Still.refl _
    refine Still.trans ?_ (still_reply _ _ _ _)
    exact hv2

theorem still_execSetLocate (v : Via) (on : Bool) (s : State) : StillA s (execSetLocate v on s) := by
  unfold execSetLocate
  refine stillA_next ?_
  refine Still.trans ?_ (still_mbox _ _ _ _ _ _ ?_)
  · exact Still.refl _
  · intro a1
    refine Still.trans ?_ (still_reply _ _ _ _)
    refine Still.trans ?_ (still_wr _ _ _)
    exact Still.refl _

theorem still_execModuleSeated (s : State) : StillA s (execModuleSeated s) := by
  unfold execModuleSeated
  extract_lets v1 v2 v3
  have hv1 : Still s v1 := by
    clear v2 v3
    subst v1
    refine Still.trans ?_ (still_wr _ _ _)
    refine Still.trans ?_ (still_begin _)
    exact Still.refl _
  have hv3 : Still s v3 := by
    subst v3
    refine still_mk ?_
    exact hv1
  refine stillA_ite ?_ ?_
  · refine stillA_next ?_
    exact hv1
  · refine stillA_next ?_
    refine Still.trans ?_ (still_trainLinks _)
    refine Still.trans ?_ (still_settleAttn _)
    exact hv3

theorem still_execModuleUnseated (s : State) : StillA s (execModuleUnseated s) := by
  unfold execModuleUnseated
  extract_lets v1 v2 v3
  have hv1 : Still s v1 := by
    clear v2 v3
    subst v1
    refine Still.trans ?_ (still_wr _ _ _)
    refine Still.trans ?_ (still_begin _)
    exact Still.refl _
  have hv3 : Still s v3 := by
    subst v3
    refine Still.trans ?_ (still_event _ _ _)
    exact hv1
  refine stillA_ite ?_ ?_
  · refine stillA_next ?_
    exact hv1
  · refine stillA_next ?_
    refine still_ite ?_ ?_
    · refine Still.trans ?_ (still_settleAttn _)
      refine Still.trans ?_ (still_latchAttn _ _)
      exact hv3
    · exact hv3

theorem still_execRemovalTimeout (s : State) : StillA s (execRemovalTimeout s) := by
  unfold execRemovalTimeout
  extract_lets v1
  have hv1 : Still s v1 := by
    subst v1
    refine Still.trans ?_ (still_begin _)
    exact Still.refl _
  refine stillA_ite ?_ ?_
  · refine stillA_next ?_
    refine Still.trans ?_ (still_settleAttn _)
    refine Still.trans ?_ (still_latchAttn _ _)
    refine Still.trans ?_ (still_releaseHold _ _)
    exact hv1
  · refine stillA_next ?_
    exact hv1

theorem still_execRemovalSafe (s : State) : StillA s (execRemovalSafe s) := by
  unfold execRemovalSafe
  extract_lets v1
  have hv1 : Still s v1 := by
    subst v1
    refine Still.trans ?_ (still_begin _)
    exact Still.refl _
  refine stillA_ite ?_ ?_
  · refine stillA_next ?_
    refine Still.trans ?_ (still_event _ _ _)
    refine Still.trans ?_ (still_wr _ _ _)
    exact hv1
  · refine stillA_next ?_
    exact hv1

theorem still_execRemovalCancel (v : Via) (s : State) : StillA s (execRemovalCancel v s) := by
  unfold execRemovalCancel
  refine stillA_next ?_
  refine Still.trans ?_ (still_mbox _ _ _ _ _ _ ?_)
  · exact Still.refl _
  · intro a1
    refine Still.trans ?_ (still_reply _ _ _ _)
    refine Still.trans ?_ (still_releaseHold _ _)
    exact Still.refl _

theorem still_execRequestRemoval (v : Via) (s : State) : StillA s (execRequestRemoval v s) := by
  unfold execRequestRemoval
  refine stillA_next ?_
  refine Still.trans ?_ (still_mbox _ _ _ _ _ _ ?_)
  · exact Still.refl _
  · intro a1
    refine still_ite ?_ ?_
    · refine Still.trans ?_ (still_reply _ _ _ _)
      refine Still.trans ?_ (still_requestHold _ _)
      exact Still.refl _
    · refine Still.trans ?_ (still_reply _ _ _ _)
      refine Still.trans ?_ (still_requestHold _ _)
      exact Still.refl _

theorem still_ackAttn (s : State) : Still s (State.ackAttn s) := by
  unfold State.ackAttn
  extract_lets v1 v2 v3
  have hv1 : Still s v1 := by
    clear v2 v3
    subst v1
    refine Still.trans ?_ (still_event _ _ _)
    exact Still.refl _
  have hv3 : Still s v3 := by
    subst v3
    refine still_mk ?_
    exact hv1
  refine Still.trans ?_ (still_settleAttn _)
  refine Still.trans ?_ (still_wr _ _ _)
  exact hv3

theorem still_silenceAttn (s : State) : Still s (State.silenceAttn s) := by
  unfold State.silenceAttn
  extract_lets v1
  refine Still.trans ?_ (still_wr _ _ _)
  refine Still.trans ?_ (still_event _ _ _)
  exact Still.refl _

theorem still_execTouchMeasure (count : Nat) (s : State) : StillA s (execTouchMeasure count s) := by
  unfold execTouchMeasure
  extract_lets v1 v2 v3 v4 v5 v6 v7 v8
  have hv1 : Still s v1 := by
    clear v2 v3 v4 v5 v6 v7 v8
    subst v1
    refine Still.trans ?_ (still_begin _)
    exact Still.refl _
  have hv3 : Still s v3 := by
    clear v4 v5 v6 v7 v8
    subst v3
    refine Still.trans ?_ (still_settleAttn _)
    exact hv1
  have hv6 : Still s v6 := by
    clear v7 v8
    subst v6
    refine still_mk ?_
    exact hv3
  have hv7 : Still s v7 := by
    clear v8
    subst v7
    refine still_ite ?_ ?_
    · refine Still.trans ?_ (still_bump _ _)
      exact hv6
    · exact hv6
  refine stillA_ite ?_ ?_
  · refine stillA_next ?_
    exact hv1
  · split
    · refine stillA_next ?_
      refine still_mk ?_
      exact hv1
    · refine stillA_ite ?_ ?_
      · refine stillA_next ?_
        refine still_ite ?_ ?_
        · refine Still.trans ?_ (still_silenceAttn _)
          exact hv7
        · exact hv7
      · extract_lets v9
        have hv9 : Still s v9 := by
          subst v9
          refine still_mk ?_
          exact hv3
        refine stillA_next ?_
        refine still_ite ?_ ?_
        · refine Still.trans ?_ (still_ackAttn _)
          exact hv9
        · exact hv9

theorem still_execButtonHold3s (s : State) : StillA s (execButtonHold3s s) := by
  unfold execButtonHold3s
  extract_lets v1 v2 v3
  have hv1 : Still s v1 := by
    clear v2 v3
    subst v1
    refine Still.trans ?_ (still_wr _ _ _)
    refine Still.trans ?_ (still_begin _)
    exact Still.refl _
  have hv3 : Still s v3 := by
    subst v3
    refine still_mk ?_
    exact hv1
  refine stillA_ite ?_ ?_
  · refine stillA_next ?_
    exact hv1
  · refine stillA_next ?_
    refine still_ite ?_ ?_
    · refine Still.trans ?_ (still_releaseHold _ _)
      exact hv3
    · refine Still.trans ?_ (still_requestHold _ _)
      exact hv3

theorem still_execButtonPressRelease (ms : Nat) (s : State) : StillA s (execButtonPressRelease ms s) := by
  unfold execButtonPressRelease
  extract_lets v1 v2 v3 v4 v5
  have hv1 : Still s v1 := by
    clear v2 v3 v4 v5
    subst v1
    refine Still.trans ?_ (still_wr _ _ _)
    refine Still.trans ?_ (still_begin _)
    exact Still.refl _
  have hv3 : Still s v3 := by
    clear v4 v5
    subst v3
    refine still_mk ?_
    exact hv1
  have hv4 : Still s v4 := by
    clear v5
    subst v4
    refine Still.trans ?_ (still_bump _ _)
    exact hv3
  refine stillA_ite ?_ ?_
  · refine stillA_next ?_
    exact hv3
  · refine stillA_ite ?_ ?_
    · refine stillA_next ?_
      refine Still.trans ?_ (still_event _ _ _)
      refine Still.trans ?_ (still_wr _ _ _)
      exact hv4
    · refine stillA_next ?_
      exact hv4

theorem still_execGetEventEntries (v : Via) (first : Nat) (count : Nat) (s : State) : StillA s (execGetEventEntries v first count s) := by
  unfold execGetEventEntries
  refine stillA_next ?_
  refine Still.trans ?_ (still_mbox _ _ _ _ _ _ ?_)
  · exact Still.refl _
  · intro a1
    refine still_ite ?_ ?_
    · refine Still.trans ?_ (still_reply _ _ _ _)
      exact Still.refl _
    · refine Still.trans ?_ (still_reply _ _ _ _)
      exact Still.refl _

theorem still_execGetEventSummary (v : Via) (code : Nat) (s : State) : StillA s (execGetEventSummary v code s) := by
  unfold execGetEventSummary
  refine stillA_next ?_
  refine Still.trans ?_ (still_mbox _ _ _ _ _ _ ?_)
  · exact Still.refl _
  · intro a1
    split
    · refine Still.trans ?_ (still_reply _ _ _ _)
      exact Still.refl _
    · refine Still.trans ?_ (still_reply _ _ _ _)
      exact Still.refl _

theorem still_execGetEventLayout (v : Via) (code : Nat) (s : State) : StillA s (execGetEventLayout v code s) := by
  unfold execGetEventLayout
  refine stillA_next ?_
  refine Still.trans ?_ (still_mbox _ _ _ _ _ _ ?_)
  · exact Still.refl _
  · intro a1
    refine Still.trans ?_ (still_reply _ _ _ _)
    exact Still.refl _

theorem still_execLogEntryFetchComplete (s : State) : StillA s (execLogEntryFetchComplete s) := by
  unfold execLogEntryFetchComplete
  extract_lets v1 v2 v3 v4 v5
  have hv1 : Still s v1 := by
    clear v2 v3 v4 v5
    subst v1
    refine Still.trans ?_ (still_begin _)
    exact Still.refl _
  have hv4 : Still s v4 := by
    clear v5
    subst v4
    refine still_mk ?_
    exact hv1
  refine stillA_ite ?_ ?_
  · refine stillA_next ?_
    exact hv1
  · refine stillA_ite ?_ ?_
    · refine stillA_next ?_
      refine Still.trans ?_ (still_wr _ _ _)
      exact hv4
    · split
      · refine stillA_next ?_
        refine Still.trans ?_ (still_wr _ _ _)
        refine still_mk ?_
        exact hv4
      · refine stillA_ite ?_ ?_
        · refine stillA_next ?_
          refine Still.trans ?_ (still_wr _ _ _)
          exact hv4
        · refine stillA_next ?_
          refine Still.trans ?_ (still_skipFree _)
          refine Still.trans ?_ (still_wr _ _ _)
          exact hv4

theorem still_execDeviceLimitEpisodeEnd (s : State) : StillA s (execDeviceLimitEpisodeEnd s) := by
  unfold execDeviceLimitEpisodeEnd
  extract_lets v1 v2
  have hv1 : Still s v1 := by
    clear v2
    subst v1
    refine Still.trans ?_ (still_begin _)
    exact Still.refl _
  split
  · refine stillA_next ?_
    exact hv1
  · refine stillA_ite ?_ ?_
    · refine stillA_next ?_
      refine Still.trans ?_ (still_event _ _ _)
      refine still_mk ?_
      exact hv1
    · refine stillA_next ?_
      exact hv1

theorem still_execRecorderCheckpoint (s : State) : StillA s (execRecorderCheckpoint s) := by
  unfold execRecorderCheckpoint
  extract_lets v1
  have hv1 : Still s v1 := by
    subst v1
    refine Still.trans ?_ (still_begin _)
    exact Still.refl _
  refine stillA_ite ?_ ?_
  · refine stillA_next ?_
    refine Still.trans ?_ (still_checkpoint _)
    exact hv1
  · refine stillA_next ?_
    exact hv1

theorem still_execOccurrenceProcess (s : State) : StillA s (execOccurrenceProcess s) := by
  unfold execOccurrenceProcess
  extract_lets v1 v2
  have hv1 : Still s v1 := by
    clear v2
    subst v1
    refine Still.trans ?_ (still_begin _)
    exact Still.refl _
  split
  · refine stillA_next ?_
    exact hv1
  · refine stillA_ite ?_ ?_
    · refine stillA_next ?_
      refine Still.trans ?_ (still_processOcc _ _)
      refine still_mk ?_
      exact hv1
    · refine stillA_next ?_
      exact hv1

theorem still_execDrbgReseed (s : State) : StillA s (execDrbgReseed s) := by
  unfold execDrbgReseed
  extract_lets v1 v2
  have hv1 : Still s v1 := by
    clear v2
    subst v1
    refine Still.trans ?_ (still_begin _)
    exact Still.refl _
  refine stillA_ite ?_ ?_
  · refine stillA_next ?_
    refine still_mk ?_
    exact hv1
  · refine stillA_next ?_
    exact hv1

theorem keep_execDrbgRetry (ok : Bool) (s : State) : KeepA s (execDrbgRetry ok s) := by
  unfold execDrbgRetry
  extract_lets v1 v2 v3 v4
  have hv1 : Keep s v1 := by
    clear v2 v3 v4
    subst v1
    refine Keep.trans ?_ (still_begin _).keep
    exact Keep.refl _
  have hv2 : Keep s v2 := by
    clear v3 v4
    subst v2
    refine Keep.trans ?_ (still_wr _ _ _).keep
    exact hv1
  have hv4 : Keep s v4 := by
    subst v4
    refine keep_mk ?_
    exact hv2
  refine keepA_ite ?_ ?_
  · refine keepA_next ?_
    exact hv1
  · refine keepA_next ?_
    refine Keep.trans ?_ (keep_imageStep _)
    refine Keep.trans ?_ (still_updReady _).keep
    exact hv4

theorem still_execDrbgHealthFailure (test : Nat) (s : State) : StillA s (execDrbgHealthFailure test s) := by
  unfold execDrbgHealthFailure
  extract_lets v1
  have hv1 : Still s v1 := by
    subst v1
    refine Still.trans ?_ (still_begin _)
    exact Still.refl _
  refine stillA_ite ?_ ?_
  · refine stillA_next ?_
    exact hv1
  · refine stillA_next ?_
    refine Still.trans ?_ (still_updReady _)
    refine Still.trans ?_ (still_event _ _ _)
    refine Still.trans ?_ (still_wr _ _ _)
    exact hv1

theorem keep_authorize (s : State) (v : Via) (c : Instr) (op : Nat) (k : Token) : Keep s (State.authorize s v c op k) := by
  unfold State.authorize
  refine Keep.trans ?_ (keep_mbox _ _ _ _ _ _ ?_)
  · exact Keep.refl _
  · intro a1
    refine Keep.trans ?_ (keep_submitToken _ _ _ _ _ ?_)
    · exact Keep.refl _
    · intro a2 a3
      refine Keep.trans ?_ (still_reply _ _ _ _).keep
      exact Keep.refl _

theorem keep_execClearOwner (v : Via) (k : Token) (s : State) : KeepA s (execClearOwner v k s) := by
  unfold execClearOwner
  refine keepA_next ?_
  refine Keep.trans ?_ (keep_authorize _ _ _ _ _)
  exact Keep.refl _

theorem keep_execReplaceOwner (v : Via) (k : Token) (s : State) : KeepA s (execReplaceOwner v k s) := by
  unfold execReplaceOwner
  refine keepA_next ?_
  refine Keep.trans ?_ (keep_authorize _ _ _ _ _)
  exact Keep.refl _

theorem keep_execTokenSanitize (v : Via) (k : Token) (s : State) : KeepA s (execTokenSanitize v k s) := by
  unfold execTokenSanitize
  refine keepA_next ?_
  refine Keep.trans ?_ (keep_authorize _ _ _ _ _)
  exact Keep.refl _

theorem keep_execUnlockDebug (v : Via) (k : Token) (s : State) : KeepA s (execUnlockDebug v k s) := by
  unfold execUnlockDebug
  refine keepA_next ?_
  refine Keep.trans ?_ (keep_authorize _ _ _ _ _)
  exact Keep.refl _

theorem keep_execDiscardImage (v : Via) (k : Token) (s : State) : KeepA s (execDiscardImage v k s) := by
  unfold execDiscardImage
  refine keepA_next ?_
  refine Keep.trans ?_ (keep_authorize _ _ _ _ _)
  exact Keep.refl _

theorem keep_execClearRecorder (v : Via) (k : Token) (s : State) : KeepA s (execClearRecorder v k s) := by
  unfold execClearRecorder
  refine keepA_next ?_
  refine Keep.trans ?_ (keep_authorize _ _ _ _ _)
  exact Keep.refl _

theorem still_execGetSecurityStatus (v : Via) (s : State) : StillA s (execGetSecurityStatus v s) := by
  unfold execGetSecurityStatus
  refine stillA_next ?_
  refine Still.trans ?_ (still_mbox _ _ _ _ _ _ ?_)
  · exact Still.refl _
  · intro a1
    refine Still.trans ?_ (still_reply _ _ _ _)
    exact Still.refl _

theorem still_execEnrolOwner (v : Via) (key : Nat) (s : State) : StillA s (execEnrolOwner v key s) := by
  unfold execEnrolOwner
  refine stillA_next ?_
  refine Still.trans ?_ (still_mbox _ _ _ _ _ _ ?_)
  · exact Still.refl _
  · intro a1
    extract_lets v2
    refine still_ite ?_ ?_
    · refine Still.trans ?_ (still_reply _ _ _ _)
      refine Still.trans ?_ (still_setOwner _ _)
      exact Still.refl _
    · refine Still.trans ?_ (still_reply _ _ _ _)
      exact Still.refl _

theorem still_execNonceExpiry (s : State) : StillA s (execNonceExpiry s) := by
  unfold execNonceExpiry
  extract_lets v1 v2
  have hv1 : Still s v1 := by
    clear v2
    subst v1
    refine Still.trans ?_ (still_begin _)
    exact Still.refl _
  split
  · refine stillA_ite ?_ ?_
    · refine stillA_next ?_
      refine still_mk ?_
      exact hv1
    · refine stillA_next ?_
      exact hv1
  · refine stillA_next ?_
    exact hv1

theorem still_execSecNonceRead (h : Nat) (s : State) : StillA s (execSecNonceRead h s) := by
  unfold execSecNonceRead
  extract_lets v1 v2 v3
  have hv1 : Still s v1 := by
    clear v2 v3
    subst v1
    refine Still.trans ?_ (still_begin _)
    exact Still.refl _
  have hv2 : Still s v2 := by
    clear v3
    subst v2
    refine Still.trans ?_ (still_newNonce _)
    exact hv1
  have hv3 : Still s v3 := by
    subst v3
    refine still_forEach _ ?_ ?_
    · intro a4 a5
      refine Still.trans ?_ (still_wri _ _ _ _)
      exact Still.refl _
    · exact hv2
  refine stillA_ite ?_ ?_
  · refine stillA_next ?_
    exact hv1
  · refine stillA_next ?_
    refine Still.trans ?_ (still_whenDrbg _ _ _ ?_)
    · exact Still.refl _
    · refine Still.trans ?_ (still_send _ _)
      exact hv3

theorem still_execGetNonce (v : Via) (s : State) : StillA s (execGetNonce v s) := by
  unfold execGetNonce
  refine stillA_next ?_
  refine Still.trans ?_ (still_whenDrbg _ _ _ ?_)
  · exact Still.refl _
  · refine Still.trans ?_ (still_mbox _ _ _ _ _ _ ?_)
    · exact Still.refl _
    · intro a1
      extract_lets v2
      have hv2 : Still a1 v2 := by
        subst v2
        refine Still.trans ?_ (still_newNonce _)
        exact Still.refl _
      refine Still.trans ?_ (still_reply _ _ _ _)
      exact hv2

theorem still_settleKeys (s : State) : Still s (State.settleKeys s) := by
  unfold State.settleKeys
  extract_lets v1 v2 v3 v4
  have hv4 : Still s v4 := by
    subst v4
    refine Still.trans ?_ (still_wr _ _ _)
    refine Still.trans ?_ (still_wr _ _ _)
    exact Still.refl _
  refine Still.trans ?_ (still_updReady _)
  refine still_forEach _ ?_ ?_
  · intro a5 a6
    refine still_ite ?_ ?_
    · refine Still.trans ?_ (still_setShState _ _ _)
      exact Still.refl _
    · exact Still.refl _
  · exact hv4

theorem still_execClearKeyShare (v : Via) (slot : Nat) (s : State) : StillA s (execClearKeyShare v slot s) := by
  unfold execClearKeyShare
  refine stillA_next ?_
  refine Still.trans ?_ (still_mbox _ _ _ _ _ _ ?_)
  · exact Still.refl _
  · intro a1
    refine still_ite ?_ ?_
    · refine Still.trans ?_ (still_reply _ _ _ _)
      exact Still.refl _
    · extract_lets v2 v3
      refine Still.trans ?_ (still_reply _ _ _ _)
      refine Still.trans ?_ (still_settleKeys _)
      refine still_mk ?_
      exact Still.refl _

theorem still_failedCheck (s : State) : Still s (State.failedCheck s) := by
  unfold State.failedCheck
  extract_lets v1 v2 v3
  have hv3 : Still s v3 := by
    subst v3
    refine Still.trans ?_ (still_bump _ _)
    refine still_mk ?_
    exact Still.refl _
  refine still_ite ?_ ?_
  · refine Still.trans ?_ (still_event _ _ _)
    refine Still.trans ?_ (still_wr _ _ _)
    exact hv3
  · exact hv3

theorem still_execLoadKeyShare (v : Via) (slot : Nat) (key : Nat) (s : State) : StillA s (execLoadKeyShare v slot key s) := by
  unfold execLoadKeyShare
  refine stillA_next ?_
  refine Still.trans ?_ (still_mbox _ _ _ _ _ _ ?_)
  · exact Still.refl _
  · intro a1
    refine still_ite ?_ ?_
    · refine Still.trans ?_ (still_reply _ _ _ _)
      exact Still.refl _
    · refine still_ite ?_ ?_
      · refine Still.trans ?_ (still_reply _ _ _ _)
        exact Still.refl _
      · extract_lets v2 v3 v4 v5 v6
        have hv4 : Still a1 v4 := by
          clear v5 v6
          subst v4
          refine still_ite ?_ ?_
          · refine Still.trans ?_ (still_failedCheck _)
            exact Still.refl _
          · exact Still.refl _
        have hv6 : Still a1 v6 := by
          subst v6
          refine still_mk ?_
          exact hv4
        refine Still.trans ?_ (still_reply _ _ _ _)
        refine Still.trans ?_ (still_settleKeys _)
        exact hv6

theorem keep_recoverImage (s : State) (xport : Nat) (h : FwHeader) : Keep s (State.recoverImage s xport h) := by
  unfold State.recoverImage
  extract_lets v1 v2 v3 v4 v5 v6
  have hv3 : Keep s v3 := by
    clear v4 v5 v6
    subst v3
    refine Keep.trans ?_ (still_wr _ _ _).keep
    exact Keep.refl _
  have hv4 : Keep s v4 := by
    clear v5 v6
    subst v4
    iterate 3 refine Keep.trans ?_ (still_wr _ _ _).keep
    refine Keep.trans ?_ (still_setBlock _ _ _).keep
    exact hv3
  have hv6 : Keep s v6 := by
    subst v6
    refine Keep.trans ?_ (still_event _ _ _).keep
    refine Keep.trans ?_ (still_writeSwap _ _ _ _ _).keep
    refine Keep.trans ?_ (still_setBlock _ _ _).keep
    exact hv3
  refine keep_ite ?_ ?_
  · refine keep_mk ?_
    exact hv4
  · refine Keep.trans ?_ (keep_rebirth _ _ _)
    exact hv6

theorem keep_execRecoveryImageReceived (xport : Nat) (hdr : FwHeader) (s : State) : KeepA s (execRecoveryImageReceived xport hdr s) := by
  unfold execRecoveryImageReceived
  extract_lets v1
  have hv1 : Keep s v1 := by
    subst v1
    refine Keep.trans ?_ (still_begin _).keep
    exact Keep.refl _
  refine keepA_ite ?_ ?_
  · refine keepA_next ?_
    refine Keep.trans ?_ (keep_recoverImage _ _ _)
    exact hv1
  · refine keepA_next ?_
    exact hv1

theorem still_execTftpRetransmit (s : State) : StillA s (execTftpRetransmit s) := by
  unfold execTftpRetransmit
  extract_lets v1 v2
  have hv1 : Still s v1 := by
    clear v2
    subst v1
    refine Still.trans ?_ (still_begin _)
    exact Still.refl _
  refine stillA_ite ?_ ?_
  · refine stillA_next ?_
    exact hv1
  · refine stillA_ite ?_ ?_
    · refine stillA_next ?_
      refine Still.trans ?_ (still_send _ _)
      refine still_mk ?_
      exact hv1
    · refine stillA_next ?_
      refine Still.trans ?_ (still_wr _ _ _)
      refine still_mk ?_
      exact hv1

theorem keep_execTftpBlock (n : Nat) (len : Nat) (hdr : FwHeader) (s : State) : KeepA s (execTftpBlock n len hdr s) := by
  unfold execTftpBlock
  extract_lets v1 v2 v3 v4 v5
  have hv1 : Keep s v1 := by
    clear v2 v3 v4 v5
    subst v1
    refine Keep.trans ?_ (still_begin _).keep
    exact Keep.refl _
  have hv3 : Keep s v3 := by
    clear v4 v5
    subst v3
    iterate 3 refine Keep.trans ?_ (still_wr _ _ _).keep
    exact hv1
  have hv5 : Keep s v5 := by
    subst v5
    refine Keep.trans ?_ (still_send _ _).keep
    refine keep_mk ?_
    exact hv3
  refine keepA_ite ?_ ?_
  · refine keepA_next ?_
    exact hv1
  · refine keepA_ite ?_ ?_
    · refine keepA_next ?_
      exact hv1
    · refine keepA_next ?_
      refine keep_ite ?_ ?_
      · refine Keep.trans ?_ (keep_recoverImage _ _ _)
        exact hv5
      · exact hv5

theorem still_raiseSvn (s : State) (svn : Nat) : Still s (State.raiseSvn s svn) := by
  unfold State.raiseSvn
  extract_lets v1 v2
  refine still_ite ?_ ?_
  · refine Still.trans ?_ (still_event _ _ _)
    refine Still.trans ?_ (still_wr _ _ _)
    refine still_mk ?_
    exact Still.refl _
  · exact Still.refl _

theorem still_confirmTrial (s : State) : Still s (State.confirmTrial s) := by
  unfold State.confirmTrial
  split
  · extract_lets v1 v2
    have hv1 : Still s v1 := by
      clear v2
      subst v1
      refine Still.trans ?_ (still_event _ _ _)
      refine Still.trans ?_ (still_writeSwap _ _ _ _ _)
      exact Still.refl _
    have hv2 : Still s v2 := by
      subst v2
      refine still_ite ?_ ?_
      · refine Still.trans ?_ (still_wr _ _ _)
        exact hv1
      · exact hv1
    refine Still.trans ?_ (still_raiseSvn _ _)
    exact hv2
  · exact Still.refl _

theorem still_execConfirmFirmware (v : Via) (s : State) : StillA s (execConfirmFirmware v s) := by
  unfold execConfirmFirmware
  refine stillA_next ?_
  refine Still.trans ?_ (still_mbox _ _ _ _ _ _ ?_)
  · exact Still.refl _
  · intro a1
    refine still_ite ?_ ?_
    · refine Still.trans ?_ (still_reply _ _ _ _)
      refine Still.trans ?_ (still_confirmTrial _)
      exact Still.refl _
    · refine Still.trans ?_ (still_reply _ _ _ _)
      exact Still.refl _

theorem still_execRequestRecovery (v : Via) (s : State) : StillA s (execRequestRecovery v s) := by
  unfold execRequestRecovery
  refine stillA_next ?_
  refine Still.trans ?_ (still_mbox _ _ _ _ _ _ ?_)
  · exact Still.refl _
  · intro a1
    refine still_ite ?_ ?_
    · refine Still.trans ?_ (still_reply _ _ _ _)
      refine Still.trans ?_ (still_wr _ _ _)
      exact Still.refl _
    · refine Still.trans ?_ (still_reply _ _ _ _)
      exact Still.refl _

theorem still_execGetBootStatus (v : Via) (s : State) : StillA s (execGetBootStatus v s) := by
  unfold execGetBootStatus
  refine stillA_next ?_
  refine Still.trans ?_ (still_mbox _ _ _ _ _ _ ?_)
  · exact Still.refl _
  · intro a1
    extract_lets v2
    refine Still.trans ?_ (still_reply _ _ _ _)
    exact Still.refl _

theorem still_execAlarmWarningReceived (i : Nat) (s : State) : StillA s (execAlarmWarningReceived i s) := by
  unfold execAlarmWarningReceived
  extract_lets v1
  have hv1 : Still s v1 := by
    subst v1
    refine Still.trans ?_ (still_begin _)
    exact Still.refl _
  refine stillA_ite ?_ ?_
  · refine stillA_next ?_
    refine Still.trans ?_ (still_bump _ _)
    exact hv1
  · refine stillA_next ?_
    exact hv1

theorem still_setBus (s : State) (i : Nat) (st : Nat) : Still s (State.setBus s i st) := by
  unfold State.setBus
  refine still_mk ?_
  exact Still.refl _

theorem still_execBusRecoveryRetry (i : Nat) (pulses : Option Nat) (s : State) : StillA s (execBusRecoveryRetry i pulses s) := by
  unfold execBusRecoveryRetry
  extract_lets v1 v2 v3 v4 v5 v6
  have hv1 : Still s v1 := by
    clear v2 v3 v4 v5 v6
    subst v1
    refine Still.trans ?_ (still_begin _)
    exact Still.refl _
  have hv4 : Still s v4 := by
    clear v5 v6
    subst v4
    refine still_mk ?_
    exact hv1
  have hv6 : Still s v6 := by
    subst v6
    refine still_mk ?_
    exact hv1
  refine stillA_ite ?_ ?_
  · refine stillA_next ?_
    exact hv1
  · split
    · refine stillA_next ?_
      refine Still.trans ?_ (still_updReady _)
      refine Still.trans ?_ (still_event _ _ _)
      refine Still.trans ?_ (still_bump _ _)
      refine Still.trans ?_ (still_setBus _ _ _)
      exact hv4
    · refine stillA_ite ?_ ?_
      · refine stillA_next ?_
        refine Still.trans ?_ (still_updReady _)
        refine Still.trans ?_ (still_event _ _ _)
        refine Still.trans ?_ (still_setBus _ _ _)
        exact hv6
      · refine stillA_next ?_
        exact hv6

theorem still_execSdaStuck (i : Nat) (s : State) : StillA s (execSdaStuck i s) := by
  unfold execSdaStuck
  extract_lets v1 v2
  have hv1 : Still s v1 := by
    clear v2
    subst v1
    refine Still.trans ?_ (still_begin _)
    exact Still.refl _
  refine stillA_ite ?_ ?_
  · refine stillA_next ?_
    refine Still.trans ?_ (still_setBus _ _ _)
    refine still_mk ?_
    exact hv1
  · refine stillA_next ?_
    exact hv1

theorem still_keepTx (s : State) (i : Nat) (x : BusTx) : Still s (State.keepTx s i x) := by
  unfold State.keepTx
  refine Still.trans ?_ (still_setBus _ _ _)
  refine still_mk ?_
  exact Still.refl _

theorem still_busFree (s : State) (i : Nat) : Still s (State.busFree s i) := by
  unfold State.busFree
  extract_lets v1 v2
  have hv2 : Still s v2 := by
    subst v2
    refine still_mk ?_
    exact Still.refl _
  refine still_ite ?_ ?_
  · refine Still.trans ?_ (still_setBus _ _ _)
    exact hv2
  · exact hv2

theorem still_execNackRetry (i : Nat) (target : Nat) (s : State) : StillA s (execNackRetry i target s) := by
  unfold execNackRetry
  extract_lets v1 v2 v3
  have hv1 : Still s v1 := by
    clear v2 v3
    subst v1
    refine Still.trans ?_ (still_begin _)
    exact Still.refl _
  have hv3 : Still s v3 := by
    subst v3
    refine still_ite ?_ ?_
    · exact hv1
    · refine still_ite ?_ ?_
      · refine Still.trans ?_ (still_bump _ _)
        exact hv1
      · refine Still.trans ?_ (still_bump _ _)
        exact hv1
  refine stillA_ite ?_ ?_
  · refine stillA_next ?_
    exact hv1
  · refine stillA_ite ?_ ?_
    · refine stillA_next ?_
      refine Still.trans ?_ (still_busFree _ _)
      exact hv3
    · refine stillA_next ?_
      refine Still.trans ?_ (still_keepTx _ _ _)
      exact hv1

theorem still_backoff (s : State) (i : Nat) (x : BusTx) : Still s (State.backoff s i x) := by
  unfold State.backoff
  refine still_ite ?_ ?_
  · refine Still.trans ?_ (still_keepTx _ _ _)
    refine Still.trans ?_ (still_skipDrbg _)
    exact Still.refl _
  · refine Still.trans ?_ (still_keepTx _ _ _)
    exact Still.refl _

theorem still_execArbitrationBackoffExpiry (i : Nat) (s : State) : StillA s (execArbitrationBackoffExpiry i s) := by
  unfold execArbitrationBackoffExpiry
  extract_lets v1
  have hv1 : Still s v1 := by
    subst v1
    refine Still.trans ?_ (still_begin _)
    exact Still.refl _
  refine stillA_ite ?_ ?_
  · refine stillA_next ?_
    exact hv1
  · split
    · refine stillA_next ?_
      exact hv1
    · refine stillA_ite ?_ ?_
      · refine stillA_next ?_
        refine Still.trans ?_ (still_backoff _ _ _)
        exact hv1
      · refine stillA_ite ?_ ?_
        · refine stillA_next ?_
          refine Still.trans ?_ (still_keepTx _ _ _)
          exact hv1
        · refine stillA_next ?_
          exact hv1

theorem still_execArbitrationLoss (i : Nat) (target : Nat) (stop : Bool) (s : State) : StillA s (execArbitrationLoss i target stop s) := by
  unfold execArbitrationLoss
  extract_lets v1 v2 v3 v4 v5
  have hv1 : Still s v1 := by
    clear v2 v3 v4 v5
    subst v1
    refine Still.trans ?_ (still_begin _)
    exact Still.refl _
  have hv3 : Still s v3 := by
    clear v4 v5
    subst v3
    refine still_ite ?_ ?_
    · refine Still.trans ?_ (still_bump _ _)
      exact hv1
    · refine still_ite ?_ ?_
      · refine Still.trans ?_ (still_bump _ _)
        exact hv1
      · exact hv1
  have hv5 : Still s v5 := by
    subst v5
    refine still_ite ?_ ?_
    · refine Still.trans ?_ (still_bump _ _)
      exact hv3
    · exact hv3
  refine stillA_ite ?_ ?_
  · refine stillA_next ?_
    exact hv1
  · refine stillA_ite ?_ ?_
    · refine stillA_next ?_
      refine Still.trans ?_ (still_busFree _ _)
      exact hv3
    · refine stillA_ite ?_ ?_
      · refine stillA_next ?_
        refine Still.trans ?_ (still_backoff _ _ _)
        refine Still.trans ?_ (still_skipFree _)
        refine Still.trans ?_ (still_event _ _ _)
        exact hv5
      · refine stillA_ite ?_ ?_
        · refine stillA_next ?_
          refine Still.trans ?_ (still_event _ _ _)
          refine Still.trans ?_ (still_busFree _ _)
          exact hv3
        · refine stillA_next ?_
          refine Still.trans ?_ (still_backoff _ _ _)
          exact hv3

theorem still_execControllerTimeout (i : Nat) (target : Nat) (sdaLow : Bool) (s : State) : StillA s (execControllerTimeout i target sdaLow
    s) := by
  unfold execControllerTimeout
  extract_lets v1 v2 v3
  have hv1 : Still s v1 := by
    clear v2 v3
    subst v1
    refine Still.trans ?_ (still_begin _)
    exact Still.refl _
  have hv2 : Still s v2 := by
    clear v3
    subst v2
    refine still_ite ?_ ?_
    · exact hv1
    · refine still_ite ?_ ?_
      · refine Still.trans ?_ (still_bump _ _)
        exact hv1
      · refine Still.trans ?_ (still_bump _ _)
        exact hv1
  have hv3 : Still s v3 := by
    subst v3
    refine Still.trans ?_ (still_event _ _ _)
    refine Still.trans ?_ (still_busFree _ _)
    exact hv2
  refine stillA_ite ?_ ?_
  · refine stillA_next ?_
    exact hv1
  · refine stillA_next ?_
    refine still_ite ?_ ?_
    · refine Still.trans ?_ (still_setBus _ _ _)
      exact hv3
    · exact hv3

theorem still_execSbTargetTimeout (cmd : Nat) (s : State) : StillA s (execSbTargetTimeout cmd s) := by
  unfold execSbTargetTimeout
  extract_lets v1
  have hv1 : Still s v1 := by
    subst v1
    refine Still.trans ?_ (still_begin _)
    exact Still.refl _
  refine stillA_ite ?_ ?_
  · refine stillA_next ?_
    refine Still.trans ?_ (still_event _ _ _)
    refine Still.trans ?_ (still_bump _ _)
    exact hv1
  · refine stillA_next ?_
    exact hv1

theorem still_execSbRepeatedStart (s : State) : StillA s (execSbRepeatedStart s) := by
  unfold execSbRepeatedStart
  extract_lets v1
  have hv1 : Still s v1 := by
    subst v1
    refine Still.trans ?_ (still_begin _)
    exact Still.refl _
  refine stillA_ite ?_ ?_
  · refine stillA_next ?_
    refine Still.trans ?_ (still_bump _ _)
    exact hv1
  · refine stillA_next ?_
    exact hv1

theorem still_sbAnswer (s : State) (l : List Nat) : Still s (State.sbAnswer s l) := by
  unfold State.sbAnswer
  refine Still.trans ?_ (still_send _ _)
  exact Still.refl _

theorem still_execAlertResponse (lost : Bool) (s : State) : StillA s (execAlertResponse lost s) := by
  unfold execAlertResponse
  extract_lets v1 v2
  have hv1 : Still s v1 := by
    clear v2
    subst v1
    refine Still.trans ?_ (still_begin _)
    exact Still.refl _
  refine stillA_ite ?_ ?_
  · refine stillA_next ?_
    exact hv1
  · refine stillA_next ?_
    refine Still.trans ?_ (still_sbAnswer _ _)
    refine still_mk ?_
    exact hv1

theorem still_control (s : State) (cmd : Nat) (cc : Nat) (l : List Nat) : Still s (State.control s cmd cc l) := by
  unfold State.control
  refine Still.trans ?_ (still_sbAnswer _ _)
  refine Still.trans ?_ (still_busFree _ _)
  exact Still.refl _

theorem still_execGetMessageTypeSupport (s : State) : StillA s (execGetMessageTypeSupport s) := by
  unfold execGetMessageTypeSupport
  extract_lets v1
  have hv1 : Still s v1 := by
    subst v1
    refine Still.trans ?_ (still_begin _)
    exact Still.refl _
  refine stillA_ite ?_ ?_
  · refine stillA_next ?_
    refine Still.trans ?_ (still_control _ _ _ _)
    exact hv1
  · refine stillA_next ?_
    exact hv1

theorem still_execGetMctpVersionSupport (ty : Nat) (s : State) : StillA s (execGetMctpVersionSupport ty s) := by
  unfold execGetMctpVersionSupport
  extract_lets v1
  have hv1 : Still s v1 := by
    subst v1
    refine Still.trans ?_ (still_begin _)
    exact Still.refl _
  refine stillA_ite ?_ ?_
  · refine stillA_next ?_
    exact hv1
  · refine stillA_ite ?_ ?_
    · refine stillA_next ?_
      refine Still.trans ?_ (still_control _ _ _ _)
      exact hv1
    · refine stillA_next ?_
      refine Still.trans ?_ (still_control _ _ _ _)
      exact hv1

theorem still_execGetEndpointUuid (s : State) : StillA s (execGetEndpointUuid s) := by
  unfold execGetEndpointUuid
  extract_lets v1
  have hv1 : Still s v1 := by
    subst v1
    refine Still.trans ?_ (still_begin _)
    exact Still.refl _
  refine stillA_ite ?_ ?_
  · refine stillA_next ?_
    refine Still.trans ?_ (still_control _ _ _ _)
    exact hv1
  · refine stillA_next ?_
    exact hv1

theorem still_execGetEndpointId (s : State) : StillA s (execGetEndpointId s) := by
  unfold execGetEndpointId
  extract_lets v1
  have hv1 : Still s v1 := by
    subst v1
    refine Still.trans ?_ (still_begin _)
    exact Still.refl _
  refine stillA_ite ?_ ?_
  · refine stillA_next ?_
    refine Still.trans ?_ (still_control _ _ _ _)
    exact hv1
  · refine stillA_next ?_
    exact hv1

theorem still_execSetEndpointId (eid : Nat) (s : State) : StillA s (execSetEndpointId eid s) := by
  unfold execSetEndpointId
  extract_lets v1
  have hv1 : Still s v1 := by
    subst v1
    refine Still.trans ?_ (still_begin _)
    exact Still.refl _
  refine stillA_ite ?_ ?_
  · refine stillA_next ?_
    exact hv1
  · refine stillA_ite ?_ ?_
    · refine stillA_next ?_
      refine Still.trans ?_ (still_control _ _ _ _)
      exact hv1
    · refine stillA_next ?_
      refine Still.trans ?_ (still_control _ _ _ _)
      refine Still.trans ?_ (still_event _ _ _)
      refine Still.trans ?_ (still_wr _ _ _)
      exact hv1

theorem keep_runToken (s : State) (v : Via) (w : Nat → Nat) : KeepA s (State.runToken s v w) := by
  unfold State.runToken
  extract_lets v1
  refine keepA_next ?_
  refine Keep.trans ?_ (keep_authorize _ _ _ _ _)
  refine Keep.trans ?_ (still_begin _).keep
  exact Keep.refl _

theorem still_execReadRails (v : Via) (s : State) : StillA s (execReadRails v s) := by
  unfold execReadRails
  refine stillA_next ?_
  refine Still.trans ?_ (still_mbox _ _ _ _ _ _ ?_)
  · exact Still.refl _
  · intro a1
    refine Still.trans ?_ (still_reply _ _ _ _)
    exact Still.refl _

theorem still_execGetSnapshot (v : Via) (idx : Nat) (s : State) : StillA s (execGetSnapshot v idx s) := by
  unfold execGetSnapshot
  refine stillA_next ?_
  refine Still.trans ?_ (still_mbox _ _ _ _ _ _ ?_)
  · exact Still.refl _
  · intro a1
    split
    · refine Still.trans ?_ (still_reply _ _ _ _)
      exact Still.refl _
    · refine Still.trans ?_ (still_reply _ _ _ _)
      exact Still.refl _

theorem still_execGetPackProfile (v : Via) (sel : Nat) (s : State) : StillA s (execGetPackProfile v sel s) := by
  unfold execGetPackProfile
  refine stillA_next ?_
  refine Still.trans ?_ (still_mbox _ _ _ _ _ _ ?_)
  · exact Still.refl _
  · intro a1
    extract_lets v2
    clear_value v2
    split
    · refine Still.trans ?_ (still_reply _ _ _ _)
      exact Still.refl _
    · refine Still.trans ?_ (still_reply _ _ _ _)
      exact Still.refl _

theorem still_execGetMemoryErrors (v : Via) (c : Nat) (s : State) : StillA s (execGetMemoryErrors v c s) := by
  unfold execGetMemoryErrors
  refine stillA_next ?_
  refine Still.trans ?_ (still_mbox _ _ _ _ _ _ ?_)
  · exact Still.refl _
  · intro a1
    refine still_ite ?_ ?_
    · refine Still.trans ?_ (still_reply _ _ _ _)
      exact Still.refl _
    · refine Still.trans ?_ (still_reply _ _ _ _)
      exact Still.refl _

theorem still_dramEvent (s : State) (code : Nat) (d : List Nat) : Still s (State.dramEvent s code d) := by
  unfold State.dramEvent
  refine still_forEach _ ?_ ?_
  · intro a1 a2
    refine Still.trans ?_ (still_cxlEvent _ _ _ _ _)
    exact Still.refl _
  · exact Still.refl _

theorem still_startSpare (s : State) (c : Nat) (r : Nat) : Still s (State.startSpare s c r) := by
  unfold State.startSpare
  extract_lets v1 v2
  have hv1 : Still s v1 := by
    clear v2
    subst v1
    iterate 4 refine Still.trans ?_ (still_wr _ _ _)
    exact Still.refl _
  refine Still.trans ?_ (still_dramEvent _ _ _)
  refine Still.trans ?_ (still_event _ _ _)
  refine still_mk ?_
  exact hv1

theorem still_execSpareRank (v : Via) (c : Nat) (r : Nat) (s : State) : StillA s (execSpareRank v c r s) := by
  unfold execSpareRank
  refine stillA_next ?_
  refine Still.trans ?_ (still_mbox _ _ _ _ _ _ ?_)
  · exact Still.refl _
  · intro a1
    refine still_ite ?_ ?_
    · refine Still.trans ?_ (still_reply _ _ _ _)
      exact Still.refl _
    · refine still_ite ?_ ?_
      · refine Still.trans ?_ (still_reply _ _ _ _)
        exact Still.refl _
      · refine still_ite ?_ ?_
        · refine Still.trans ?_ (still_reply _ _ _ _)
          exact Still.refl _
        · refine still_ite ?_ ?_
          · refine Still.trans ?_ (still_reply _ _ _ _)
            exact Still.refl _
          · refine Still.trans ?_ (still_reply _ _ _ _)
            refine Still.trans ?_ (still_startSpare _ _ _)
            exact Still.refl _

theorem still_execTranslateAddress (v : Via) (dpa : Nat) (s : State) : StillA s (execTranslateAddress v dpa s) := by
  unfold execTranslateAddress
  refine stillA_next ?_
  refine Still.trans ?_ (still_mbox _ _ _ _ _ _ ?_)
  · exact Still.refl _
  · intro a1
    extract_lets v2 v3
    refine Still.trans ?_ (still_reply _ _ _ _)
    exact Still.refl _

theorem still_execGetTwineStatus (v : Via) (s : State) : StillA s (execGetTwineStatus v s) := by
  unfold execGetTwineStatus
  refine stillA_next ?_
  refine Still.trans ?_ (still_mbox _ _ _ _ _ _ ?_)
  · exact Still.refl _
  · intro a1
    refine Still.trans ?_ (still_reply _ _ _ _)
    exact Still.refl _

theorem still_resumeNow (t : State) (v : Via) (share : Nat) (full : Bool) : Still t (State.resumeNow t v share full) := by
  unfold State.resumeNow
  refine still_ite ?_ ?_
  · refine Still.trans ?_ (still_reply _ _ _ _)
    exact Still.refl _
  · refine still_ite ?_ ?_
    · refine Still.trans ?_ (still_reply _ _ _ _)
      exact Still.refl _
    · extract_lets v1 v2
      have hv2 : Still t v2 := by
        subst v2
        refine still_mk ?_
        exact Still.refl _
      refine Still.trans ?_ (still_reply _ _ _ _)
      refine Still.trans ?_ (still_copyNext _)
      refine Still.trans ?_ (still_enterCatchup _ _)
      exact hv2

theorem still_bySp3 (s : State) (c : Instr) (r : State) (h : Still s r) : Still s (State.bySp3 s c r) := by
  unfold State.bySp3
  refine still_ite ?_ ?_
  · exact h
  · refine still_mk ?_
    exact Still.refl _

theorem keep_bySp3 (s : State) (c : Instr) (r : State) (h : Keep s r) : Keep s (State.bySp3 s c r) := by
  unfold State.bySp3
  refine keep_ite ?_ ?_
  · exact h
  · refine keep_mk ?_
    exact Keep.refl _

theorem still_execResumeShare (v : Via) (share : Nat) (full : Bool) (s : State) : StillA s (execResumeShare v share full s) := by
  unfold execResumeShare
  refine stillA_next ?_
  refine Still.trans ?_ (still_mbox _ _ _ _ _ _ ?_)
  · exact Still.refl _
  · intro a1
    refine Still.trans ?_ (still_bySp3 _ _ _ ?_)
    · exact Still.refl _
    · refine Still.trans ?_ (still_resumeNow _ _ _ _)
      exact Still.refl _

theorem still_designateNow (t : State) (v : Via) (share : Nat) (base : Nat) (size : Nat) : Still t (State.designateNow t v share base size) := by
  unfold State.designateNow
  refine still_ite ?_ ?_
  · refine Still.trans ?_ (still_reply _ _ _ _)
    exact Still.refl _
  · extract_lets v1 v2 v3 v4 v5
    have hv4 : Still t v4 := by
      clear v5
      subst v4
      refine Still.trans ?_ (still_skipFree _)
      refine Still.trans ?_ (still_skipDrbg _)
      exact Still.refl _
    refine Still.trans ?_ (still_send _ _)
    refine still_mk ?_
    exact hv4

theorem still_execDesignateReplica (v : Via) (share : Nat) (base : Nat) (size : Nat) (s : State) : StillA s (execDesignateReplica v share
    base size s) := by
  unfold execDesignateReplica
  refine stillA_next ?_
  refine Still.trans ?_ (still_whenDrbg _ _ _ ?_)
  · exact Still.refl _
  · refine Still.trans ?_ (still_mbox _ _ _ _ _ _ ?_)
    · exact Still.refl _
    · intro a1
      refine Still.trans ?_ (still_bySp3 _ _ _ ?_)
      · exact Still.refl _
      · refine Still.trans ?_ (still_designateNow _ _ _ _ _)
        exact Still.refl _

theorem still_execGetReskeinStatus (v : Via) (s : State) : StillA s (execGetReskeinStatus v s) := by
  unfold execGetReskeinStatus
  refine stillA_next ?_
  refine Still.trans ?_ (still_mbox _ _ _ _ _ _ ?_)
  · exact Still.refl _
  · intro a1
    refine Still.trans ?_ (still_reply _ _ _ _)
    exact Still.refl _

theorem still_exclude (s : State) (t : Nat) : Still s (State.exclude s t) := by
  unfold State.exclude
  extract_lets v1
  refine still_ite ?_ ?_
  · refine Still.trans ?_ (still_recompute _ _)
    refine Still.trans ?_ (still_ceilUpdate _ _)
    refine Still.trans ?_ (still_setTgt _ _ _)
    exact Still.refl _
  · exact Still.refl _

theorem keep_retire (s : State) (t : Nat) (cause : Nat) : Keep s (State.retire s t cause) := by
  unfold State.retire
  extract_lets v1
  refine keep_ite ?_ ?_
  · exact Keep.refl _
  · refine keep_ite ?_ ?_
    · refine Keep.trans ?_ (still_exclude _ _).keep
      refine Keep.trans ?_ (still_setTgt _ _ _).keep
      exact Keep.refl _
    · refine Keep.trans ?_ (keep_bindTarget _ _ _)
      exact Keep.refl _

theorem keep_execRetireTarget (v : Via) (t : Nat) (s : State) : KeepA s (execRetireTarget v t s) := by
  unfold execRetireTarget
  refine keepA_next ?_
  refine Keep.trans ?_ (keep_mbox _ _ _ _ _ _ ?_)
  · exact Keep.refl _
  · intro a1
    refine keep_ite ?_ ?_
    · refine Keep.trans ?_ (still_reply _ _ _ _).keep
      exact Keep.refl _
    · refine keep_ite ?_ ?_
      · refine Keep.trans ?_ (still_reply _ _ _ _).keep
        exact Keep.refl _
      · refine keep_ite ?_ ?_
        · refine Keep.trans ?_ (still_reply _ _ _ _).keep
          exact Keep.refl _
        · refine keep_ite ?_ ?_
          · refine Keep.trans ?_ (still_reply _ _ _ _).keep
            exact Keep.refl _
          · refine Keep.trans ?_ (still_reply _ _ _ _).keep
            refine Keep.trans ?_ (keep_retire _ _ _)
            exact Keep.refl _

theorem still_skipPage (s : State) (block : Nat) (page : Nat) : Still s (State.skipPage s block page) := by
  unfold State.skipPage
  refine still_ite ?_ ?_
  · refine still_mk ?_
    exact Still.refl _
  · exact Still.refl _

theorem still_execFlashDiagnosticRead (v : Via) (t : Nat) (b : Nat) (page : Nat) (mode : Nat) (off : Int) (flips : List Nat) (s : State) :
    StillA s (execFlashDiagnosticRead v t b page mode off flips s) := by
  unfold execFlashDiagnosticRead
  refine stillA_next ?_
  refine Still.trans ?_ (still_mbox _ _ _ _ _ _ ?_)
  · exact Still.refl _
  · intro a1
    refine still_ite ?_ ?_
    · refine Still.trans ?_ (still_reply _ _ _ _)
      exact Still.refl _
    · refine still_ite ?_ ?_
      · refine Still.trans ?_ (still_reply _ _ _ _)
        exact Still.refl _
      · refine still_ite ?_ ?_
        · refine Still.trans ?_ (still_reply _ _ _ _)
          exact Still.refl _
        · refine still_ite ?_ ?_
          · refine Still.trans ?_ (still_reply _ _ _ _)
            exact Still.refl _
          · refine still_ite ?_ ?_
            · refine Still.trans ?_ (still_reply _ _ _ _)
              refine Still.trans ?_ (still_skipPage _ _ _)
              exact Still.refl _
            · refine still_ite ?_ ?_
              · refine Still.trans ?_ (still_reply _ _ _ _)
                exact Still.refl _
              · split
                · refine Still.trans ?_ (still_reply _ _ _ _)
                  exact Still.refl _
                · refine Still.trans ?_ (still_reply _ _ _ _)
                  exact Still.refl _

theorem still_execGetFlashTarget (v : Via) (t : Nat) (s : State) : StillA s (execGetFlashTarget v t s) := by
  unfold execGetFlashTarget
  refine stillA_next ?_
  refine Still.trans ?_ (still_mbox _ _ _ _ _ _ ?_)
  · exact Still.refl _
  · intro a1
    refine still_ite ?_ ?_
    · refine Still.trans ?_ (still_reply _ _ _ _)
      exact Still.refl _
    · refine Still.trans ?_ (still_reply _ _ _ _)
      exact Still.refl _

theorem still_execGetHeadCounters (v : Via) (s : State) : StillA s (execGetHeadCounters v s) := by
  unfold execGetHeadCounters
  refine stillA_next ?_
  refine Still.trans ?_ (still_mbox _ _ _ _ _ _ ?_)
  · exact Still.refl _
  · intro a1
    refine Still.trans ?_ (still_reply _ _ _ _)
    exact Still.refl _

theorem still_execHeadRetrain (v : Via) (h : Nat) (rate : Nat) (s : State) : StillA s (execHeadRetrain v h rate s) := by
  unfold execHeadRetrain
  refine stillA_next ?_
  refine Still.trans ?_ (still_mbox _ _ _ _ _ _ ?_)
  · exact Still.refl _
  · intro a1
    split
    · refine Still.trans ?_ (still_reply _ _ _ _)
      exact Still.refl _
    · refine still_ite ?_ ?_
      · refine Still.trans ?_ (still_reply _ _ _ _)
        exact Still.refl _
      · refine still_ite ?_ ?_
        · refine Still.trans ?_ (still_reply _ _ _ _)
          exact Still.refl _
        · refine Still.trans ?_ (still_enterRecovery _ _)
          refine Still.trans ?_ (still_setHead _ _ _)
          exact Still.refl _

theorem keep_execResetDevice (v : Via) (s : State) : KeepA s (execResetDevice v s) := by
  unfold execResetDevice
  refine keepA_next ?_
  refine Keep.trans ?_ (keep_mbox _ _ _ _ _ _ ?_)
  · exact Keep.refl _
  · intro a1
    refine Keep.trans ?_ (keep_softReset _ _ _)
    refine Keep.trans ?_ (still_reply _ _ _ _).keep
    exact Keep.refl _

theorem opt_runWimas (s : State) (v : Via) (op : Nat) (w : Nat → Nat) : OptA s (State.runWimas s v op w) := by
  unfold State.runWimas
  dsimp only
  split
  · refine optA_some ?_
    refine keepA_trans ?_ (still_execGetReadiness _ _).keep
    exact Keep.refl _
  · refine optA_some ?_
    refine keepA_trans ?_ (keep_execResetDevice _ _)
    exact Keep.refl _
  · refine optA_some ?_
    refine keepA_ite ?_ ?_
    · refine keepA_trans ?_ (still_execRemovalCancel _ _).keep
      exact Keep.refl _
    · refine keepA_trans ?_ (still_execRequestRemoval _ _).keep
      exact Keep.refl _
  · refine optA_some ?_
    refine keepA_trans ?_ (still_execSetLocate _ _ _).keep
    exact Keep.refl _
  · refine optA_some ?_
    refine keepA_trans ?_ (still_execGetBootConfiguration _ _ _).keep
    exact Keep.refl _
  · refine optA_some ?_
    refine keepA_trans ?_ (still_execSetBootConfiguration _ _ _ _ _ _).keep
    exact Keep.refl _
  · refine optA_some ?_
    refine keepA_trans ?_ (still_execReadRegisters _ _ _ _).keep
    exact Keep.refl _
  · refine optA_some ?_
    refine keepA_trans ?_ (still_execHeadRetrain _ _ _ _).keep
    exact Keep.refl _
  · refine optA_some ?_
    refine keepA_trans ?_ (still_execGetHeadCounters _ _).keep
    exact Keep.refl _
  · refine optA_some ?_
    refine keepA_trans ?_ (still_execGetFlashTarget _ _ _).keep
    exact Keep.refl _
  · refine optA_some ?_
    refine keepA_trans ?_ (still_execFlashDiagnosticRead _ _ _ _ _ _ _ _).keep
    refine keep_mk ?_
    exact Keep.refl _
  · refine optA_some ?_
    refine keepA_trans ?_ (keep_execRetireTarget _ _ _)
    exact Keep.refl _
  · refine optA_some ?_
    refine keepA_trans ?_ (still_execGetReskeinStatus _ _).keep
    exact Keep.refl _
  · refine optA_some ?_
    refine keepA_trans ?_ (still_execDesignateReplica _ _ _ _ _).keep
    exact Keep.refl _
  · refine optA_some ?_
    refine keepA_trans ?_ (still_execResumeShare _ _ _ _).keep
    exact Keep.refl _
  · refine optA_some ?_
    refine keepA_trans ?_ (still_execGetTwineStatus _ _).keep
    exact Keep.refl _
  · refine optA_some ?_
    refine keepA_trans ?_ (still_execTranslateAddress _ _ _).keep
    exact Keep.refl _
  · refine optA_some ?_
    refine keepA_trans ?_ (still_execSpareRank _ _ _ _).keep
    exact Keep.refl _
  · refine optA_some ?_
    refine keepA_trans ?_ (still_execGetMemoryErrors _ _ _).keep
    exact Keep.refl _
  · refine optA_some ?_
    refine keepA_trans ?_ (still_execGetPackProfile _ _ _).keep
    exact Keep.refl _
  · refine optA_some ?_
    refine keepA_trans ?_ (still_execGetSnapshot _ _ _).keep
    exact Keep.refl _
  · refine optA_some ?_
    refine keepA_trans ?_ (still_execReadRails _ _).keep
    exact Keep.refl _
  · refine optA_some ?_
    refine keepA_trans ?_ (still_execGetTimeStatus _ _).keep
    exact Keep.refl _
  · refine optA_some ?_
    refine keepA_trans ?_ (still_execGetBootStatus _ _).keep
    exact Keep.refl _
  · refine optA_some ?_
    refine keepA_trans ?_ (still_execRequestRecovery _ _).keep
    exact Keep.refl _
  · refine optA_some ?_
    refine keepA_trans ?_ (still_execConfirmFirmware _ _).keep
    exact Keep.refl _
  · refine optA_some ?_
    refine keepA_trans ?_ (still_execLoadKeyShare _ _ _ _).keep
    exact Keep.refl _
  · refine optA_some ?_
    refine keepA_trans ?_ (still_execClearKeyShare _ _ _).keep
    exact Keep.refl _
  · refine optA_some ?_
    refine keepA_trans ?_ (still_execGetNonce _ _).keep
    exact Keep.refl _
  · refine optA_some ?_
    refine keepA_trans ?_ (keep_runToken _ _ _)
    exact Keep.refl _
  · refine optA_some ?_
    refine keepA_trans ?_ (still_execEnrolOwner _ _ _).keep
    exact Keep.refl _
  · refine optA_some ?_
    refine keepA_trans ?_ (still_execGetSecurityStatus _ _).keep
    exact Keep.refl _
  · refine optA_some ?_
    refine keepA_trans ?_ (still_execGetEventLayout _ _ _).keep
    exact Keep.refl _
  · refine optA_some ?_
    refine keepA_trans ?_ (still_execGetEventSummary _ _ _).keep
    exact Keep.refl _
  · refine optA_some ?_
    refine keepA_trans ?_ (still_execGetEventEntries _ _ _ _).keep
    exact Keep.refl _
  · exact optA_none

theorem keep_eraseAll (s : State) (v : Via) (all : Bool) : Keep s (State.eraseAll s v all) := by
  unfold State.eraseAll
  split
  · refine keep_ite ?_ ?_
    · refine keep_ite ?_ ?_
      · refine Keep.trans ?_ (still_reply _ _ _ _).keep
        exact Keep.refl _
      · refine Keep.trans ?_ (keep_discardImage _)
        refine Keep.trans ?_ (still_reply _ _ _ _).keep
        refine keep_mk ?_
        exact Keep.refl _
    · refine Keep.trans ?_ (still_reply _ _ _ _).keep
      exact Keep.refl _
  · refine Keep.trans ?_ (still_reply _ _ _ _).keep
    exact Keep.refl _

theorem keep_execSecureErase (v : Via) (s : State) : KeepA s (execSecureErase v s) := by
  unfold execSecureErase
  refine keepA_next ?_
  refine Keep.trans ?_ (keep_mbox _ _ _ _ _ _ ?_)
  · exact Keep.refl _
  · intro a1
    refine Keep.trans ?_ (keep_eraseAll _ _ _)
    exact Keep.refl _

theorem keep_execSanitize (v : Via) (s : State) : KeepA s (execSanitize v s) := by
  unfold execSanitize
  refine keepA_next ?_
  refine Keep.trans ?_ (keep_mbox _ _ _ _ _ _ ?_)
  · exact Keep.refl _
  · intro a1
    refine Keep.trans ?_ (keep_eraseAll _ _ _)
    exact Keep.refl _

theorem still_execGetScanMediaResults (v : Via) (s : State) : StillA s (execGetScanMediaResults v s) := by
  unfold execGetScanMediaResults
  refine stillA_next ?_
  refine Still.trans ?_ (still_mbox _ _ _ _ _ _ ?_)
  · exact Still.refl _
  · intro a1
    extract_lets v2
    refine Still.trans ?_ (still_reply _ _ _ _)
    exact Still.refl _

theorem still_startBg (s : State) (v : Via) (op : Nat) (a : Nat) (b : Nat) (f : State → State) (hf : ∀ z0, Still z0 (f z0)) : Still s
    (State.startBg s v op a b f) := by
  unfold State.startBg
  refine still_ite ?_ ?_
  · refine Still.trans ?_ (still_reply _ _ _ _)
    exact Still.refl _
  · extract_lets v1
    refine Still.trans ?_ (still_reply _ _ _ _)
    refine Still.trans ?_ (hf _)
    refine Still.trans ?_ (still_setHead _ _ _)
    exact Still.refl _

theorem keep_startBg (s : State) (v : Via) (op : Nat) (a : Nat) (b : Nat) (f : State → State) (hf : ∀ z0, Keep z0 (f z0)) : Keep s
    (State.startBg s v op a b f) := by
  unfold State.startBg
  refine keep_ite ?_ ?_
  · refine Keep.trans ?_ (still_reply _ _ _ _).keep
    exact Keep.refl _
  · extract_lets v1
    refine Keep.trans ?_ (still_reply _ _ _ _).keep
    refine Keep.trans ?_ (hf _)
    refine Keep.trans ?_ (still_setHead _ _ _).keep
    exact Keep.refl _

theorem still_execScanMedia (v : Via) (dpa : Nat) (len : Nat) (s : State) : StillA s (execScanMedia v dpa len s) := by
  unfold execScanMedia
  refine stillA_next ?_
  refine Still.trans ?_ (still_mbox _ _ _ _ _ _ ?_)
  · exact Still.refl _
  · intro a1
    refine still_ite ?_ ?_
    · refine Still.trans ?_ (still_reply _ _ _ _)
      exact Still.refl _
    · refine Still.trans ?_ (still_startBg _ _ _ _ _ _ ?_)
      · exact Still.refl _
      · intro a2
        refine Still.trans ?_ (still_setHead _ _ _)
        exact Still.refl _

theorem still_execGetScanMediaCapabilities (v : Via) (dpa : Nat) (len : Nat) (s : State) : StillA s (execGetScanMediaCapabilities v dpa len
    s) := by
  unfold execGetScanMediaCapabilities
  refine stillA_next ?_
  refine Still.trans ?_ (still_mbox _ _ _ _ _ _ ?_)
  · exact Still.refl _
  · intro a1
    refine still_ite ?_ ?_
    · refine Still.trans ?_ (still_reply _ _ _ _)
      exact Still.refl _
    · refine Still.trans ?_ (still_skipFree _)
      refine Still.trans ?_ (still_reply _ _ _ _)
      exact Still.refl _

theorem still_denyWrite (s : State) (k : Nat) (line : Nat) : Still s (State.denyWrite s k line) := by
  unfold State.denyWrite
  split
  · refine still_ite ?_ ?_
    · exact Still.refl _
    · refine Still.trans ?_ (still_bumpi _ _ _)
      exact Still.refl _
  · exact Still.refl _

theorem still_outOverflow (s : State) (port : Nat) : Still s (State.outOverflow s port) := by
  unfold State.outOverflow
  extract_lets v1
  have hv1 : Still s v1 := by
    subst v1
    refine Still.trans ?_ (still_event _ _ _)
    refine Still.trans ?_ (still_bump _ _)
    exact Still.refl _
  refine Still.trans ?_ (still_copyNext _)
  refine still_forEach _ ?_ ?_
  · intro a2 a3
    refine Still.trans ?_ (still_streamCut _ _)
    exact Still.refl _
  · exact hv1

theorem still_twineLine (s : State) (n : Nat) (line : Nat) (base : Nat) (d : BitVec 512) (poison : Bool) : Still s (State.twineLine s n
    line base d poison) := by
  unfold State.twineLine
  refine still_ite ?_ ?_
  · exact Still.refl _
  · extract_lets v1 v2 v3 v4
    have hv2 : Still s v2 := by
      clear v3 v4
      subst v2
      refine still_mk ?_
      exact Still.refl _
    refine still_ite ?_ ?_
    · exact hv2
    · refine still_ite ?_ ?_
      · refine Still.trans ?_ (still_outOverflow _ _)
        exact hv2
      · refine Still.trans ?_ (still_pushOut _ _ _)
        refine Still.trans ?_ (still_wr _ _ _)
        exact hv2

theorem keep_acceptLine (s : State) (k : Nat) (n : Nat) (line : Nat) (d : BitVec 512) (be : BitVec 64) (poison : Bool) : Keep s
    (State.acceptLine s k n line d be poison) := by
  unfold State.acceptLine
  extract_lets v1 v2 v3
  have hv1 : Keep s v1 := by
    clear v2 v3
    subst v1
    refine keep_ite ?_ ?_
    · refine Keep.trans ?_ (keep_markUnit _ _ _)
      exact Keep.refl _
    · exact Keep.refl _
  have hv2 : Keep s v2 := by
    clear v3
    subst v2
    refine Keep.trans ?_ (keep_ingressLine _ _ _ _ _ _)
    exact hv1
  have hv3 : Keep s v3 := by
    subst v3
    refine Keep.trans ?_ (still_twineLine _ _ _ _ _ _).keep
    exact hv2
  refine keep_ite ?_ ?_
  · refine Keep.trans ?_ (still_settleMr _).keep
    exact hv3
  · exact hv3

theorem still_headOnly (s : State) (v : Via) (f : State → Nat → State) (hf : ∀ z0 z1, Still z0 (f z0 z1)) : Still s (State.headOnly s v f) := by
  unfold State.headOnly
  split
  · refine Still.trans ?_ (hf _ _)
    exact Still.refl _
  · refine Still.trans ?_ (still_reply _ _ _ _)
    exact Still.refl _

theorem keep_headOnly (s : State) (v : Via) (f : State → Nat → State) (hf : ∀ z0 z1, Keep z0 (f z0 z1)) : Keep s (State.headOnly s v f) := by
  unfold State.headOnly
  split
  · refine Keep.trans ?_ (hf _ _)
    exact Keep.refl _
  · refine Keep.trans ?_ (still_reply _ _ _ _).keep
    exact Keep.refl _

theorem keep_execClearPoison (v : Via) (dpa : Nat) (data : BitVec 512) (s : State) : KeepA s (execClearPoison v dpa data s) := by
  unfold execClearPoison
  refine keepA_next ?_
  refine Keep.trans ?_ (keep_mbox _ _ _ _ _ _ ?_)
  · exact Keep.refl _
  · intro a1
    refine Keep.trans ?_ (keep_headOnly _ _ _ ?_)
    · exact Keep.refl _
    · intro a2 a3
      refine keep_ite ?_ ?_
      · refine Keep.trans ?_ (still_reply _ _ _ _).keep
        exact Keep.refl _
      · refine keep_ite ?_ ?_
        · split
          · refine Keep.trans ?_ (still_reply _ _ _ _).keep
            refine Keep.trans ?_ (keep_acceptLine _ _ _ _ _ _ _)
            exact Keep.refl _
          · refine Keep.trans ?_ (still_reply _ _ _ _).keep
            exact Keep.refl _
        · refine Keep.trans ?_ (still_reply _ _ _ _).keep
          refine Keep.trans ?_ (still_denyWrite _ _ _).keep
          exact Keep.refl _

theorem keep_execInjectPoison (v : Via) (dpa : Nat) (s : State) : KeepA s (execInjectPoison v dpa s) := by
  unfold execInjectPoison
  refine keepA_next ?_
  refine Keep.trans ?_ (keep_mbox _ _ _ _ _ _ ?_)
  · exact Keep.refl _
  · intro a1
    refine Keep.trans ?_ (keep_headOnly _ _ _ ?_)
    · exact Keep.refl _
    · intro a2 a3
      split
      · refine keep_ite ?_ ?_
        · refine Keep.trans ?_ (still_reply _ _ _ _).keep
          exact Keep.refl _
        · extract_lets v4 v5
          have hv5 : Keep a2 v5 := by
            subst v5
            refine keep_ite ?_ ?_
            · refine keep_mk ?_
              exact Keep.refl _
            · exact Keep.refl _
          refine Keep.trans ?_ (still_reply _ _ _ _).keep
          refine Keep.trans ?_ (keep_poisonLine _ _ _)
          exact hv5
      · refine Keep.trans ?_ (still_reply _ _ _ _).keep
        exact Keep.refl _

theorem still_execGetPoisonList (v : Via) (dpa : Nat) (len : Nat) (max : Nat) (s : State) : StillA s (execGetPoisonList v dpa len max s) := by
  unfold execGetPoisonList
  refine stillA_next ?_
  refine Still.trans ?_ (still_mbox _ _ _ _ _ _ ?_)
  · exact Still.refl _
  · intro a1
    extract_lets v2 v3
    refine Still.trans ?_ (still_reply _ _ _ _)
    exact Still.refl _

theorem still_execSetShutdownState (v : Via) (dirty : Bool) (s : State) : StillA s (execSetShutdownState v dirty s) := by
  unfold execSetShutdownState
  refine stillA_next ?_
  refine Still.trans ?_ (still_mbox _ _ _ _ _ _ ?_)
  · exact Still.refl _
  · intro a1
    refine Still.trans ?_ (still_headOnly _ _ _ ?_)
    · exact Still.refl _
    · intro a2 a3
      refine Still.trans ?_ (still_reply _ _ _ _)
      refine Still.trans ?_ (still_wri _ _ _ _)
      exact Still.refl _

theorem still_execGetShutdownState (v : Via) (s : State) : StillA s (execGetShutdownState v s) := by
  unfold execGetShutdownState
  refine stillA_next ?_
  refine Still.trans ?_ (still_mbox _ _ _ _ _ _ ?_)
  · exact Still.refl _
  · intro a1
    refine Still.trans ?_ (still_headOnly _ _ _ ?_)
    · exact Still.refl _
    · intro a2 a3
      refine Still.trans ?_ (still_reply _ _ _ _)
      exact Still.refl _

theorem still_execSetAlertConfiguration (v : Via) (life : Nat) (tempHigh : Nat) (tempLow : Nat) (s : State) : StillA s
    (execSetAlertConfiguration v life tempHigh tempLow s) := by
  unfold execSetAlertConfiguration
  refine stillA_next ?_
  refine Still.trans ?_ (still_mbox _ _ _ _ _ _ ?_)
  · exact Still.refl _
  · intro a1
    refine Still.trans ?_ (still_reply _ _ _ _)
    refine still_mk ?_
    exact Still.refl _

theorem still_execGetAlertConfiguration (v : Via) (s : State) : StillA s (execGetAlertConfiguration v s) := by
  unfold execGetAlertConfiguration
  refine stillA_next ?_
  refine Still.trans ?_ (still_mbox _ _ _ _ _ _ ?_)
  · exact Still.refl _
  · intro a1
    refine Still.trans ?_ (still_reply _ _ _ _)
    exact Still.refl _

theorem still_execGetHealthInfo (v : Via) (s : State) : StillA s (execGetHealthInfo v s) := by
  unfold execGetHealthInfo
  refine stillA_next ?_
  refine Still.trans ?_ (still_mbox _ _ _ _ _ _ ?_)
  · exact Still.refl _
  · intro a1
    refine Still.trans ?_ (still_reply _ _ _ _)
    refine Still.trans ?_ (still_skipFree _)
    exact Still.refl _

theorem keep_execSetLsa (v : Via) (off : Nat) (data : List Byte) (s : State) : KeepA s (execSetLsa v off data s) := by
  unfold execSetLsa
  refine keepA_next ?_
  refine Keep.trans ?_ (keep_mbox _ _ _ _ _ _ ?_)
  · exact Keep.refl _
  · intro a1
    refine Keep.trans ?_ (keep_headOnly _ _ _ ?_)
    · exact Keep.refl _
    · intro a2 a3
      refine keep_ite ?_ ?_
      · refine Keep.trans ?_ (still_reply _ _ _ _).keep
        exact Keep.refl _
      · refine Keep.trans ?_ (still_reply _ _ _ _).keep
        refine keep_mkc ?_ fun h => ⟨h.1, memWrite_wf _ _ h.2⟩
        exact Keep.refl _

theorem still_execGetLsa (v : Via) (off : Nat) (len : Nat) (s : State) : StillA s (execGetLsa v off len s) := by
  unfold execGetLsa
  refine stillA_next ?_
  refine Still.trans ?_ (still_mbox _ _ _ _ _ _ ?_)
  · exact Still.refl _
  · intro a1
    refine Still.trans ?_ (still_headOnly _ _ _ ?_)
    · exact Still.refl _
    · intro a2 a3
      refine still_ite ?_ ?_
      · refine Still.trans ?_ (still_reply _ _ _ _)
        exact Still.refl _
      · refine Still.trans ?_ (still_reply _ _ _ _)
        exact Still.refl _

theorem still_execSetPartitionInfo (v : Via) (s : State) : StillA s (execSetPartitionInfo v s) := by
  unfold execSetPartitionInfo
  refine stillA_next ?_
  refine Still.trans ?_ (still_mbox _ _ _ _ _ _ ?_)
  · exact Still.refl _
  · intro a1
    refine Still.trans ?_ (still_reply _ _ _ _)
    exact Still.refl _

theorem still_execGetPartitionInfo (v : Via) (s : State) : StillA s (execGetPartitionInfo v s) := by
  unfold execGetPartitionInfo
  refine stillA_next ?_
  refine Still.trans ?_ (still_mbox _ _ _ _ _ _ ?_)
  · exact Still.refl _
  · intro a1
    refine Still.trans ?_ (still_reply _ _ _ _)
    exact Still.refl _

theorem still_execIdentifyMemoryDevice (v : Via) (s : State) : StillA s (execIdentifyMemoryDevice v s) := by
  unfold execIdentifyMemoryDevice
  refine stillA_next ?_
  refine Still.trans ?_ (still_mbox _ _ _ _ _ _ ?_)
  · exact Still.refl _
  · intro a1
    refine Still.trans ?_ (still_reply _ _ _ _)
    exact Still.refl _

theorem still_execGetLog (v : Via) (uuid : Nat) (off : Nat) (len : Nat) (s : State) : StillA s (execGetLog v uuid off len s) := by
  unfold execGetLog
  refine stillA_next ?_
  refine Still.trans ?_ (still_mbox _ _ _ _ _ _ ?_)
  · exact Still.refl _
  · intro a1
    refine still_ite ?_ ?_
    · refine Still.trans ?_ (still_reply _ _ _ _)
      exact Still.refl _
    · extract_lets v2
      refine Still.trans ?_ (still_reply _ _ _ _)
      exact Still.refl _

theorem still_execGetSupportedLogs (v : Via) (s : State) : StillA s (execGetSupportedLogs v s) := by
  unfold execGetSupportedLogs
  refine stillA_next ?_
  refine Still.trans ?_ (still_mbox _ _ _ _ _ _ ?_)
  · exact Still.refl _
  · intro a1
    refine Still.trans ?_ (still_reply _ _ _ _)
    exact Still.refl _

theorem still_revertTrial (s : State) (cause : Nat) : Still s (State.revertTrial s cause) := by
  unfold State.revertTrial
  split
  · refine still_ite ?_ ?_
    · refine Still.trans ?_ (still_wr _ _ _)
      refine Still.trans ?_ (still_latchAttn _ _)
      refine Still.trans ?_ (still_event _ _ _)
      refine Still.trans ?_ (still_writeSwap _ _ _ _ _)
      exact Still.refl _
    · exact Still.refl _
  · exact Still.refl _

theorem still_mpRestart (s : State) (cause : Nat) : Still s (State.mpRestart s cause) := by
  unfold State.mpRestart
  refine still_ite ?_ ?_
  · extract_lets v1 v2 v3
    have hv1 : Still s v1 := by
      clear v2 v3
      subst v1
      refine Still.trans ?_ (still_event _ _ _)
      refine Still.trans ?_ (still_bump _ _)
      refine Still.trans ?_ (still_setProc _ _ _)
      exact Still.refl _
    have hv2 : Still s v2 := by
      clear v3
      subst v2
      refine still_ite ?_ ?_
      · exact hv1
      · refine Still.trans ?_ (still_revertTrial _ _)
        exact hv1
    refine Still.trans ?_ (still_updReady _)
    refine still_mk ?_
    exact hv2
  · exact Still.refl _

theorem still_activate (s : State) (b : Nat) (online : Bool) : Still s (State.activate s b online) := by
  unfold State.activate
  extract_lets v1
  have hv1 : Still s v1 := by
    subst v1
    refine Still.trans ?_ (still_event _ _ _)
    refine Still.trans ?_ (still_writeSwap _ _ _ _ _)
    exact Still.refl _
  refine Still.trans ?_ (still_wr _ _ _)
  refine Still.trans ?_ (still_wr _ _ _)
  exact hv1

theorem keep_execActivateFw (v : Via) (online : Bool) (slot : Nat) (s : State) : KeepA s (execActivateFw v online slot s) := by
  unfold execActivateFw
  refine keepA_next ?_
  refine Keep.trans ?_ (keep_mbox _ _ _ _ _ _ ?_)
  · exact Keep.refl _
  · intro a1
    split
    · refine Keep.trans ?_ (still_reply _ _ _ _).keep
      exact Keep.refl _
    · refine keep_ite ?_ ?_
      · refine Keep.trans ?_ (still_reply _ _ _ _).keep
        exact Keep.refl _
      · refine keep_ite ?_ ?_
        · refine keep_ite ?_ ?_
          · refine Keep.trans ?_ (still_reply _ _ _ _).keep
            exact Keep.refl _
          · refine Keep.trans ?_ (keep_rebirth _ _ _)
            refine Keep.trans ?_ (still_reply _ _ _ _).keep
            refine Keep.trans ?_ (still_activate _ _ _).keep
            exact Keep.refl _
        · refine keep_ite ?_ ?_
          · refine Keep.trans ?_ (still_reply _ _ _ _).keep
            exact Keep.refl _
          · refine keep_ite ?_ ?_
            · refine Keep.trans ?_ (still_reply _ _ _ _).keep
              exact Keep.refl _
            · extract_lets v2
              have hv2 : Keep a1 v2 := by
                subst v2
                refine Keep.trans ?_ (still_reply _ _ _ _).keep
                refine Keep.trans ?_ (still_activate _ _ _).keep
                exact Keep.refl _
              refine keep_ite ?_ ?_
              · refine Keep.trans ?_ (still_mpRestart _ _).keep
                exact hv2
              · exact hv2

theorem still_startPart (s : State) (who : Nat) (len : Nat) (last : Bool) (h : FwHeader) (k : Option (Nat × Nat)) (v : Option Via) : Still
    s (State.startPart s who len last h k v) := by
  unfold State.startPart
  extract_lets v1 v2 v3 v4 v5
  have hv2 : Still s v2 := by
    clear v3 v4 v5
    subst v2
    refine still_ite ?_ ?_
    · exact Still.refl _
    · refine Still.trans ?_ (still_wr _ _ _)
      refine Still.trans ?_ (still_wr _ _ _)
      refine Still.trans ?_ (still_wr _ _ _)
      exact Still.refl _
  have hv4 : Still s v4 := by
    clear v5
    subst v4
    refine Still.trans ?_ (still_setBit _ _ _ _)
    refine Still.trans ?_ (still_wr _ _ _)
    refine Still.trans ?_ (still_wr _ _ _)
    refine Still.trans ?_ (still_setBlock _ _ _)
    exact hv2
  refine still_mk ?_
  exact hv4

theorem still_execTransferFw (v : Via) (action : Nat) (slot : Nat) (off : Nat) (len : Nat) (hdr : FwHeader) (s : State) : StillA s
    (execTransferFw v action slot off len hdr s) := by
  unfold execTransferFw
  refine stillA_next ?_
  refine Still.trans ?_ (still_mbox _ _ _ _ _ _ ?_)
  · exact Still.refl _
  · intro a1
    refine still_ite ?_ ?_
    · refine still_ite ?_ ?_
      · refine Still.trans ?_ (still_reply _ _ _ _)
        refine Still.trans ?_ (still_endStaging _)
        exact Still.refl _
      · refine Still.trans ?_ (still_reply _ _ _ _)
        exact Still.refl _
    · refine still_ite ?_ ?_
      · refine Still.trans ?_ (still_reply _ _ _ _)
        exact Still.refl _
      · refine still_ite ?_ ?_
        · refine Still.trans ?_ (still_reply _ _ _ _)
          exact Still.refl _
        · refine still_ite ?_ ?_
          · refine Still.trans ?_ (still_reply _ _ _ _)
            exact Still.refl _
          · refine still_ite ?_ ?_
            · refine Still.trans ?_ (still_reply _ _ _ _)
              exact Still.refl _
            · extract_lets v2
              refine Still.trans ?_ (still_startBg _ _ _ _ _ _ ?_)
              · exact Still.refl _
              · intro a3
                extract_lets v4 v5
                have hv4 : Still a3 v4 := by
                  clear v5
                  subst v4
                  refine Still.trans ?_ (still_startPart _ _ _ _ _ _ _)
                  exact Still.refl _
                refine still_ite ?_ ?_
                · refine Still.trans ?_ (still_wr _ _ _)
                  refine Still.trans ?_ (still_wr _ _ _)
                  refine Still.trans ?_ (still_wr _ _ _)
                  exact hv4
                · exact hv4

theorem still_execGetFwInfo (v : Via) (s : State) : StillA s (execGetFwInfo v s) := by
  unfold execGetFwInfo
  refine stillA_next ?_
  refine Still.trans ?_ (still_mbox _ _ _ _ _ _ ?_)
  · exact Still.refl _
  · intro a1
    extract_lets v2 v3
    refine Still.trans ?_ (still_reply _ _ _ _)
    exact Still.refl _

theorem still_execSetEventInterruptPolicy (v : Via) (settings : List Nat) (s : State) : StillA s (execSetEventInterruptPolicy v settings s) := by
  unfold execSetEventInterruptPolicy
  refine stillA_next ?_
  refine Still.trans ?_ (still_mbox _ _ _ _ _ _ ?_)
  · exact Still.refl _
  · intro a1
    refine still_ite ?_ ?_
    · refine Still.trans ?_ (still_reply _ _ _ _)
      refine Still.trans ?_ (still_setHead _ _ _)
      exact Still.refl _
    · refine Still.trans ?_ (still_reply _ _ _ _)
      exact Still.refl _

theorem still_execGetEventInterruptPolicy (v : Via) (s : State) : StillA s (execGetEventInterruptPolicy v s) := by
  unfold execGetEventInterruptPolicy
  refine stillA_next ?_
  refine Still.trans ?_ (still_mbox _ _ _ _ _ _ ?_)
  · exact Still.refl _
  · intro a1
    refine Still.trans ?_ (still_reply _ _ _ _)
    exact Still.refl _

theorem still_execClearEventRecords (v : Via) (log : Nat) (all : Bool) (handles : List Nat) (s : State) : StillA s (execClearEventRecords v
    log all handles s) := by
  unfold execClearEventRecords
  refine stillA_next ?_
  refine Still.trans ?_ (still_mbox _ _ _ _ _ _ ?_)
  · exact Still.refl _
  · intro a1
    extract_lets v2 v3
    refine still_ite ?_ ?_
    · refine Still.trans ?_ (still_reply _ _ _ _)
      exact Still.refl _
    · refine still_ite ?_ ?_
      · refine Still.trans ?_ (still_reply _ _ _ _)
        refine Still.trans ?_ (still_setHead _ _ _)
        exact Still.refl _
      · refine still_ite ?_ ?_
        · refine Still.trans ?_ (still_reply _ _ _ _)
          refine Still.trans ?_ (still_setHead _ _ _)
          exact Still.refl _
        · refine Still.trans ?_ (still_reply _ _ _ _)
          exact Still.refl _

theorem still_execGetEventRecords (v : Via) (log : Nat) (max : Nat) (s : State) : StillA s (execGetEventRecords v log max s) := by
  unfold execGetEventRecords
  refine stillA_next ?_
  refine Still.trans ?_ (still_mbox _ _ _ _ _ _ ?_)
  · exact Still.refl _
  · intro a1
    refine still_ite ?_ ?_
    · refine Still.trans ?_ (still_reply _ _ _ _)
      exact Still.refl _
    · extract_lets v2 v3 v4
      refine Still.trans ?_ (still_reply _ _ _ _)
      exact Still.refl _

theorem opt_runStandard (s : State) (op : Nat) (w : Nat → Nat) (n : Nat) : OptA s (State.runStandard s op w n) := by
  unfold State.runStandard
  dsimp only
  split
  · refine optA_some ?_
    refine keepA_trans ?_ (still_execGetEventRecords _ _ _ _).keep
    exact Keep.refl _
  · refine optA_some ?_
    refine keepA_trans ?_ (still_execClearEventRecords _ _ _ _ _).keep
    exact Keep.refl _
  · refine optA_some ?_
    refine keepA_trans ?_ (still_execGetEventInterruptPolicy _ _).keep
    exact Keep.refl _
  · refine optA_some ?_
    refine keepA_trans ?_ (still_execSetEventInterruptPolicy _ _ _).keep
    exact Keep.refl _
  · refine optA_some ?_
    refine keepA_trans ?_ (still_execGetFwInfo _ _).keep
    exact Keep.refl _
  · refine optA_some ?_
    refine keepA_trans ?_ (still_execTransferFw _ _ _ _ _ _ _).keep
    refine keep_mk ?_
    exact Keep.refl _
  · refine optA_some ?_
    refine keepA_trans ?_ (keep_execActivateFw _ _ _ _)
    exact Keep.refl _
  · refine optA_some ?_
    refine keepA_trans ?_ (still_execGetTimestamp _ _).keep
    exact Keep.refl _
  · refine optA_some ?_
    refine keepA_trans ?_ (still_execSetTimestamp _ _ _).keep
    exact Keep.refl _
  · refine optA_some ?_
    refine keepA_trans ?_ (still_execGetSupportedLogs _ _).keep
    exact Keep.refl _
  · refine optA_some ?_
    refine keepA_trans ?_ (still_execGetLog _ _ _ _ _).keep
    exact Keep.refl _
  · refine optA_some ?_
    refine keepA_trans ?_ (still_execIdentifyMemoryDevice _ _).keep
    exact Keep.refl _
  · refine optA_some ?_
    refine keepA_trans ?_ (still_execGetPartitionInfo _ _).keep
    exact Keep.refl _
  · refine optA_some ?_
    refine keepA_trans ?_ (still_execSetPartitionInfo _ _).keep
    exact Keep.refl _
  · refine optA_some ?_
    refine keepA_trans ?_ (still_execGetLsa _ _ _ _).keep
    exact Keep.refl _
  · refine optA_some ?_
    refine keepA_trans ?_ (keep_execSetLsa _ _ _ _)
    exact Keep.refl _
  · refine optA_some ?_
    refine keepA_trans ?_ (still_execGetHealthInfo _ _).keep
    exact Keep.refl _
  · refine optA_some ?_
    refine keepA_trans ?_ (still_execGetAlertConfiguration _ _).keep
    exact Keep.refl _
  · refine optA_some ?_
    refine keepA_trans ?_ (still_execSetAlertConfiguration _ _ _ _ _).keep
    exact Keep.refl _
  · refine optA_some ?_
    refine keepA_trans ?_ (still_execGetShutdownState _ _).keep
    exact Keep.refl _
  · refine optA_some ?_
    refine keepA_trans ?_ (still_execSetShutdownState _ _ _).keep
    exact Keep.refl _
  · refine optA_some ?_
    refine keepA_trans ?_ (still_execGetPoisonList _ _ _ _ _).keep
    exact Keep.refl _
  · refine optA_some ?_
    refine keepA_trans ?_ (keep_execInjectPoison _ _ _)
    exact Keep.refl _
  · refine optA_some ?_
    refine keepA_trans ?_ (keep_execClearPoison _ _ _ _)
    exact Keep.refl _
  · refine optA_some ?_
    refine keepA_trans ?_ (still_execGetScanMediaCapabilities _ _ _ _).keep
    exact Keep.refl _
  · refine optA_some ?_
    refine keepA_trans ?_ (still_execScanMedia _ _ _ _).keep
    exact Keep.refl _
  · refine optA_some ?_
    refine keepA_trans ?_ (still_execGetScanMediaResults _ _).keep
    exact Keep.refl _
  · refine optA_some ?_
    refine keepA_trans ?_ (keep_execSanitize _ _)
    exact Keep.refl _
  · refine optA_some ?_
    refine keepA_trans ?_ (keep_execSecureErase _ _)
    exact Keep.refl _
  · exact optA_none

theorem keep_runCommand (s : State) (l : List Nat) : Keep s (State.runCommand s l) := by
  unfold State.runCommand
  extract_lets op p num w v t
  have h : Keep s t := (still_busFree s 0).keep
  clear_value t
  split
  · exact keep_act h (opt_runStandard _ _ _ _ _ ‹_›)
  · split
    · exact keep_act h (opt_runWimas _ _ _ _ _ ‹_›)
    · exact h.trans (still_reply _ _ _ _).keep

theorem still_runControl (s : State) (l : List Nat) : Still s (State.runControl s l) := by
  unfold State.runControl
  extract_lets v1
  refine still_ite ?_ ?_
  · refine still_act ?_ ?_
    · exact Still.refl _
    · refine stillA_trans ?_ (still_execSetEndpointId _ _)
      exact Still.refl _
  · refine still_ite ?_ ?_
    · refine still_act ?_ ?_
      · exact Still.refl _
      · refine stillA_trans ?_ (still_execGetEndpointId _)
        exact Still.refl _
    · refine still_ite ?_ ?_
      · refine still_act ?_ ?_
        · exact Still.refl _
        · refine stillA_trans ?_ (still_execGetEndpointUuid _)
          exact Still.refl _
      · refine still_ite ?_ ?_
        · refine still_act ?_ ?_
          · exact Still.refl _
          · refine stillA_trans ?_ (still_execGetMctpVersionSupport _ _)
            exact Still.refl _
        · refine still_ite ?_ ?_
          · refine still_act ?_ ?_
            · exact Still.refl _
            · refine stillA_trans ?_ (still_execGetMessageTypeSupport _)
              exact Still.refl _
          · refine Still.trans ?_ (still_control _ _ _ _)
            exact Still.refl _

theorem keep_runMessage (s : State) (l : List Nat) : Keep s (State.runMessage s l) := by
  unfold State.runMessage
  refine keep_ite ?_ ?_
  · refine Keep.trans ?_ (still_runControl _ _).keep
    exact Keep.refl _
  · refine keep_ite ?_ ?_
    · refine Keep.trans ?_ (keep_runCommand _ _)
      exact Keep.refl _
    · exact Keep.refl _

theorem keep_execMctpPacket (dst : Nat) (src : Nat) (seq : Nat) (tag : Nat) (som : Bool) (eom : Bool) (pec : Bool) (body : List Byte) (s :
    State) : KeepA s (execMctpPacket dst src seq tag som eom pec body s) := by
  unfold execMctpPacket
  extract_lets v1 v2 v3 v4
  have hv1 : Keep s v1 := by
    clear v2 v3 v4
    subst v1
    refine Keep.trans ?_ (still_begin _).keep
    exact Keep.refl _
  refine keepA_ite ?_ ?_
  · refine keepA_next ?_
    exact hv1
  · refine keepA_ite ?_ ?_
    · refine keepA_next ?_
      refine Keep.trans ?_ (still_bump _ _).keep
      exact hv1
    · refine keepA_ite ?_ ?_
      · refine keepA_next ?_
        exact hv1
      · clear_value v3
        split
        · refine keepA_next ?_
          dsimp only [v2]
          refine Keep.trans ?_ (still_event _ _ _).keep
          refine keep_mk ?_
          exact hv1
        · refine keepA_ite ?_ ?_
          · refine keepA_next ?_
            dsimp only [v2]
            refine Keep.trans ?_ (still_event _ _ _).keep
            refine keep_mk ?_
            exact hv1
          · refine keepA_ite ?_ ?_
            · refine keepA_next ?_
              refine Keep.trans ?_ (keep_runMessage _ _)
              refine keep_mk ?_
              exact hv1
            · refine keepA_next ?_
              refine keep_mk ?_
              exact hv1

theorem still_execSbReadStatus (s : State) : StillA s (execSbReadStatus s) := by
  unfold execSbReadStatus
  extract_lets v1
  have hv1 : Still s v1 := by
    subst v1
    refine Still.trans ?_ (still_begin _)
    exact Still.refl _
  refine stillA_ite ?_ ?_
  · refine stillA_next ?_
    refine Still.trans ?_ (still_sbAnswer _ _)
    exact hv1
  · refine stillA_next ?_
    exact hv1

theorem still_sbStatus (s : State) (v : Nat) : Still s (State.sbStatus s v) := by
  unfold State.sbStatus
  refine still_mk ?_
  exact Still.refl _

theorem keep_execSbRegWrite (off : Nat) (val : Nat) (pec : Nat) (stop : Bool) (s : State) : KeepA s (execSbRegWrite off val pec stop s) := by
  unfold execSbRegWrite
  extract_lets v1 v2 v3 v4
  have hv1 : Keep s v1 := by
    clear v2 v3 v4
    subst v1
    refine Keep.trans ?_ (still_begin _).keep
    exact Keep.refl _
  have hv3 : Keep s v3 := by
    clear v4
    subst v3
    refine keep_ite ?_ ?_
    · refine Keep.trans ?_ (still_bump _ _).keep
      exact hv1
    · exact hv1
  have hv4 : Keep s v4 := by
    subst v4
    refine Keep.trans ?_ (still_sbStatus _ _).keep
    refine Keep.trans ?_ (keep_writeReg _ _ _ _ _)
    exact hv3
  refine keepA_ite ?_ ?_
  · refine keepA_next ?_
    exact hv1
  · refine keepA_ite ?_ ?_
    · refine keepA_next ?_
      refine Keep.trans ?_ (still_event _ _ _).keep
      refine Keep.trans ?_ (still_sbStatus _ _).keep
      exact hv3
    · refine keepA_ite ?_ ?_
      · refine keepA_next ?_
        refine Keep.trans ?_ (still_sbStatus _ _).keep
        exact hv3
      · refine keepA_ite ?_ ?_
        · refine keepA_next ?_
          refine Keep.trans ?_ (keep_rebirth _ _ _)
          refine Keep.trans ?_ (still_wr _ _ _).keep
          exact hv4
        · refine keepA_next ?_
          exact hv4

theorem still_execSbRegRead (late : Bool) (s : State) : StillA s (execSbRegRead late s) := by
  unfold execSbRegRead
  extract_lets v1
  have hv1 : Still s v1 := by
    subst v1
    refine Still.trans ?_ (still_begin _)
    exact Still.refl _
  refine stillA_ite ?_ ?_
  · refine stillA_next ?_
    exact hv1
  · refine stillA_ite ?_ ?_
    · refine stillA_next ?_
      refine Still.trans ?_ (still_sbAnswer _ _)
      exact hv1
    · split
      rename_i w2 w3 w4 w5
      have hw3 : Still s w3 := by
        refine still_fst ?_ w5
        refine Still.trans ?_ (still_readReg _ _ _)
        exact hv1
      refine stillA_ite ?_ ?_
      · refine stillA_next ?_
        refine Still.trans ?_ (still_sbAnswer _ _)
        exact hv1
      · refine stillA_next ?_
        refine Still.trans ?_ (still_sbAnswer _ _)
        refine still_mk ?_
        exact hw3

theorem still_execSbSetPointer (off : Nat) (pec : Nat) (s : State) : StillA s (execSbSetPointer off pec s) := by
  unfold execSbSetPointer
  extract_lets v1 v2
  have hv1 : Still s v1 := by
    clear v2
    subst v1
    refine Still.trans ?_ (still_begin _)
    exact Still.refl _
  refine stillA_ite ?_ ?_
  · refine stillA_next ?_
    exact hv1
  · refine stillA_ite ?_ ?_
    · refine stillA_next ?_
      refine Still.trans ?_ (still_sbStatus _ _)
      refine Still.trans ?_ (still_bump _ _)
      exact hv1
    · refine stillA_ite ?_ ?_
      · refine stillA_next ?_
        refine Still.trans ?_ (still_sbStatus _ _)
        exact hv1
      · refine stillA_next ?_
        refine Still.trans ?_ (still_sbStatus _ _)
        refine still_mk ?_
        exact hv1

theorem still_execReferenceAge7Days (bay : Nat) (s : State) : StillA s (execReferenceAge7Days bay s) := by
  unfold execReferenceAge7Days
  extract_lets v1 v2
  have hv1 : Still s v1 := by
    clear v2
    subst v1
    refine Still.trans ?_ (still_begin _)
    exact Still.refl _
  refine stillA_ite ?_ ?_
  · refine stillA_next ?_
    refine Still.trans ?_ (still_event _ _ _)
    refine Still.trans ?_ (still_setBay _ _ _)
    exact hv1
  · refine stillA_next ?_
    exact hv1

theorem still_execInhibitClear (bay : Nat) (s : State) : StillA s (execInhibitClear bay s) := by
  unfold execInhibitClear
  extract_lets v1
  have hv1 : Still s v1 := by
    subst v1
    refine Still.trans ?_ (still_begin _)
    exact Still.refl _
  refine stillA_ite ?_ ?_
  · refine stillA_next ?_
    refine Still.trans ?_ (still_toCharge _ _)
    exact hv1
  · refine stillA_next ?_
    exact hv1

theorem still_execTestDischargeEnd (bay : Nat) (dv : Nat) (di : Nat) (s : State) : StillA s (execTestDischargeEnd bay dv di s) := by
  unfold execTestDischargeEnd
  extract_lets v1 v2 v3 v4
  have hv1 : Still s v1 := by
    clear v2 v3 v4
    subst v1
    refine Still.trans ?_ (still_begin _)
    exact Still.refl _
  refine stillA_ite ?_ ?_
  · refine stillA_next ?_
    refine Still.trans ?_ (still_wri _ _ _ _)
    refine Still.trans ?_ (still_setBay _ _ _)
    exact hv1
  · refine stillA_next ?_
    exact hv1

theorem still_execPauseAbort (bay : Nat) (s : State) : StillA s (execPauseAbort bay s) := by
  unfold execPauseAbort
  extract_lets v1
  have hv1 : Still s v1 := by
    subst v1
    refine Still.trans ?_ (still_begin _)
    exact Still.refl _
  refine stillA_ite ?_ ?_
  · refine stillA_next ?_
    refine Still.trans ?_ (still_endTestOrPause _ _)
    exact hv1
  · refine stillA_next ?_
    exact hv1

theorem still_putSigma (s : State) (b : Nat) : Still s (State.putSigma s b) := by
  unfold State.putSigma
  extract_lets v1 v2
  have hv2 : Still s v2 := by
    subst v2
    refine Still.trans ?_ (still_wri _ _ _ _)
    exact Still.refl _
  refine still_ite ?_ ?_
  · refine Still.trans ?_ (still_event _ _ _)
    refine Still.trans ?_ (still_wri _ _ _ _)
    exact hv2
  · exact hv2

theorem still_putSoh (s : State) (b : Nat) : Still s (State.putSoh s b) := by
  unfold State.putSoh
  extract_lets v1 v2 v3
  have hv3 : Still s v3 := by
    subst v3
    refine Still.trans ?_ (still_wri _ _ _ _)
    exact Still.refl _
  refine still_ite ?_ ?_
  · refine Still.trans ?_ (still_event _ _ _)
    exact hv3
  · exact hv3

theorem still_learn (s : State) (b : Nat) (c2 : Nat) (fl : Nat) : Still s (State.learn s b c2 fl) := by
  unfold State.learn
  extract_lets v1 v2 v3 v4 v5 v6 v7 v8 v9 v10 v11 v12
  have hv9 : Still s v9 := by
    clear v10 v11 v12
    subst v9
    refine Still.trans ?_ (still_setBay _ _ _)
    exact Still.refl _
  have hv10 : Still s v10 := by
    clear v11 v12
    subst v10
    iterate 3 refine Still.trans ?_ (still_wri _ _ _ _)
    exact hv9
  have hv11 : Still s v11 := by
    clear v12
    subst v11
    refine Still.trans ?_ (still_wri _ _ _ _)
    refine Still.trans ?_ (still_wri _ _ _ _)
    exact hv10
  have hv12 : Still s v12 := by
    subst v12
    refine still_ite ?_ ?_
    · refine Still.trans ?_ (still_event _ _ _)
      exact Still.refl _
    · refine Still.trans ?_ (still_putSoh _ _)
      refine Still.trans ?_ (still_putSigma _ _)
      refine Still.trans ?_ (still_writeLearn _ _)
      refine Still.trans ?_ (still_event _ _ _)
      exact hv11
  refine Still.trans ?_ (still_toCharge _ _)
  refine Still.trans ?_ (still_packTestEnd _ _)
  exact hv12

end Sys2Proof.Machine
end

