-- ==== Sys2Proof/Laws/Keep4.lean ====
section
/-! SUPPORT. Keep and Still, operation by operation: part 4 of 6. -/

namespace Sys2Proof.Machine

theorem still_setCharge (s : State) (b : Nat) (volt : Nat) : StillP s (State.setCharge s b volt) := by
  unfold State.setCharge
  extract_lets v1 v2
  refine stillP_mk ?_
  refine Still.trans ?_ (still_setBay _ _ _)
  exact Still.refl _

theorem still_setSigma (s : State) (b : Nat) (v : Nat) : Still s (State.setSigma s b v) := by
  unfold State.setSigma
  refine Still.trans ?_ (still_putSigma _ _)
  refine Still.trans ?_ (still_setBay _ _ _)
  exact Still.refl _

theorem still_reference (s : State) (b : Nat) (volt : Nat) (extra : Nat) : Still s (State.reference s b volt extra) := by
  unfold State.reference
  split
  rename_i w1 w2 w3 w4 w5
  have hw2 : Still s w2 := by
    refine still_fst ?_ w5
    refine Still.trans ?_ (still_setCharge _ _ _)
    exact Still.refl _
  extract_lets v6 v7 v8
  have hv7 : Still s v7 := by
    clear v8
    subst v7
    refine Still.trans ?_ (still_setBay _ _ _)
    exact hw2
  have hv8 : Still s v8 := by
    subst v8
    refine Still.trans ?_ (still_setSigma _ _ _)
    refine Still.trans ?_ (still_wri _ _ _ _)
    refine Still.trans ?_ (still_wri _ _ _ _)
    exact hv7
  refine Still.trans ?_ (still_event _ _ _)
  exact hv8

theorem still_execPauseComplete (bay : Nat) (volt : Nat) (s : State) : StillA s (execPauseComplete bay volt s) := by
  unfold execPauseComplete
  extract_lets v1 v2 v3 v4 v5 v6
  have hv1 : Still s v1 := by
    clear v2 v3 v4 v5 v6
    subst v1
    refine Still.trans ?_ (still_begin _)
    exact Still.refl _
  have hv5 : Still s v5 := by
    clear v6
    subst v5
    refine Still.trans ?_ (still_reference _ _ _ _)
    exact hv1
  refine stillA_ite ?_ ?_
  · refine stillA_next ?_
    exact hv1
  · refine stillA_ite ?_ ?_
    · refine stillA_next ?_
      refine Still.trans ?_ (still_charger _ _ _)
      refine Still.trans ?_ (still_wri _ _ _ _)
      exact hv5
    · refine stillA_ite ?_ ?_
      · split
        rename_i w7 w8 w9 w10 w11
        have hw8 : Still s w8 := by
          refine still_fst ?_ w11
          refine Still.trans ?_ (still_setCharge _ _ _)
          exact hv1
        refine stillA_ite ?_ ?_
        · extract_lets v12
          have hv12 : Still s v12 := by
            subst v12
            refine Still.trans ?_ (still_setBay _ _ _)
            exact hv5
          refine stillA_next ?_
          refine Still.trans ?_ (still_wri _ _ _ _)
          exact hv12
        · refine stillA_next ?_
          refine Still.trans ?_ (still_learn _ _ _ _)
          exact hv5
      · refine stillA_next ?_
        exact hv1

theorem still_chargerOff (s : State) (b : Nat) : Still s (State.chargerOff s b) := by
  unfold State.chargerOff
  refine Still.trans ?_ (still_setBay _ _ _)
  exact Still.refl _

theorem still_execPauseAttempt (bay : Nat) (s : State) : StillA s (execPauseAttempt bay s) := by
  unfold execPauseAttempt
  extract_lets v1
  have hv1 : Still s v1 := by
    subst v1
    refine Still.trans ?_ (still_begin _)
    exact Still.refl _
  refine stillA_ite ?_ ?_
  · refine stillA_next ?_
    refine Still.trans ?_ (still_chargerOff _ _)
    refine Still.trans ?_ (still_wri _ _ _ _)
    exact hv1
  · refine stillA_next ?_
    exact hv1

theorem still_execFloatDrop (bay : Nat) (s : State) : StillA s (execFloatDrop bay s) := by
  unfold execFloatDrop
  extract_lets v1
  have hv1 : Still s v1 := by
    subst v1
    refine Still.trans ?_ (still_begin _)
    exact Still.refl _
  refine stillA_ite ?_ ?_
  · refine stillA_next ?_
    refine Still.trans ?_ (still_toCharge _ _)
    refine Still.trans ?_ (still_wri _ _ _ _)
    exact hv1
  · refine stillA_next ?_
    exact hv1

theorem still_fullCheck (s : State) : Still s (State.fullCheck s) := by
  unfold State.fullCheck
  extract_lets v1
  refine still_ite ?_ ?_
  · refine Still.trans ?_ (still_wr _ _ _)
    exact Still.refl _
  · exact Still.refl _

theorem still_execChargeComplete (bay : Nat) (s : State) : StillA s (execChargeComplete bay s) := by
  unfold execChargeComplete
  extract_lets v1
  have hv1 : Still s v1 := by
    subst v1
    refine Still.trans ?_ (still_begin _)
    exact Still.refl _
  refine stillA_ite ?_ ?_
  · refine stillA_next ?_
    refine Still.trans ?_ (still_fullCheck _)
    refine Still.trans ?_ (still_wri _ _ _ _)
    refine Still.trans ?_ (still_wri _ _ _ _)
    exact hv1
  · refine stillA_next ?_
    exact hv1

theorem still_sums (s : State) : Still s (State.sums s) := by
  unfold State.sums
  extract_lets v1 v2 v3 v4
  have hv2 : Still s v2 := by
    clear v3 v4
    subst v2
    refine Still.trans ?_ (still_wr _ _ _)
    exact Still.refl _
  have hv3 : Still s v3 := by
    clear v4
    subst v3
    refine still_forEach _ ?_ ?_
    · intro a5 a6
      extract_lets v7
      refine Still.trans ?_ (still_wri _ _ _ _)
      refine Still.trans ?_ (still_wri _ _ _ _)
      exact Still.refl _
    · exact hv2
  have hv4 : Still s v4 := by
    subst v4
    refine Still.trans ?_ (still_wr _ _ _)
    refine Still.trans ?_ (still_wr _ _ _)
    exact hv3
  refine Still.trans ?_ (still_updReady _)
  exact hv4

theorem still_bayFault (s : State) (b : Nat) (cause : Nat) : Still s (State.bayFault s b cause) := by
  unfold State.bayFault
  extract_lets v1
  have hv1 : Still s v1 := by
    subst v1
    refine Still.trans ?_ (still_chargerOff _ _)
    refine Still.trans ?_ (still_endTestOrPause _ _)
    exact Still.refl _
  refine Still.trans ?_ (still_sums _)
  refine Still.trans ?_ (still_event _ _ _)
  iterate 3 refine Still.trans ?_ (still_wri _ _ _ _)
  exact hv1

theorem still_execPrechargeTimeout (bay : Nat) (s : State) : StillA s (execPrechargeTimeout bay s) := by
  unfold execPrechargeTimeout
  extract_lets v1
  have hv1 : Still s v1 := by
    subst v1
    refine Still.trans ?_ (still_begin _)
    exact Still.refl _
  refine stillA_ite ?_ ?_
  · refine stillA_next ?_
    refine Still.trans ?_ (still_bayFault _ _ _)
    exact hv1
  · refine stillA_next ?_
    exact hv1

theorem still_estimate (s : State) (b : Nat) (direct : Bool) : Still s (State.estimate s b direct) := by
  unfold State.estimate
  extract_lets v1 v2 v3 v4 v5 v6
  split
  rename_i w7 w8 w9 w10 w11
  extract_lets v12 v13 v14 v15 v16
  have hv14 : Still s v14 := by
    clear v15 v16
    subst v14
    refine Still.trans ?_ (still_setBay _ _ _)
    exact Still.refl _
  have hv15 : Still s v15 := by
    clear v16
    subst v15
    refine Still.trans ?_ (still_wri _ _ _ _)
    refine Still.trans ?_ (still_wri _ _ _ _)
    exact hv14
  have hv16 : Still s v16 := by
    subst v16
    iterate 3 refine Still.trans ?_ (still_wri _ _ _ _)
    exact hv15
  iterate 3 refine Still.trans ?_ (still_wri _ _ _ _)
  exact hv16

theorem still_provisional (s : State) (b : Nat) (volt : Nat) : Still s (State.provisional s b volt) := by
  unfold State.provisional
  split
  rename_i w1 w2 w3 w4 w5
  have hw2 : Still s w2 := by
    refine still_fst ?_ w5
    refine Still.trans ?_ (still_setCharge _ _ _)
    exact Still.refl _
  extract_lets v6
  have hv6 : Still s v6 := by
    subst v6
    refine Still.trans ?_ (still_setSigma _ _ _)
    refine Still.trans ?_ (still_wri _ _ _ _)
    refine Still.trans ?_ (still_wri _ _ _ _)
    exact hw2
  refine Still.trans ?_ (still_event _ _ _)
  exact hv6

theorem still_firstEstimate (s : State) (b : Nat) (volt : Nat) : Still s (State.firstEstimate s b volt) := by
  unfold State.firstEstimate
  extract_lets v1 v2 v3 v4
  have hv2 : Still s v2 := by
    clear v3 v4
    subst v2
    refine Still.trans ?_ (still_setBay _ _ _)
    exact Still.refl _
  have hv4 : Still s v4 := by
    subst v4
    refine still_ite ?_ ?_
    · exact Still.refl _
    · split
      · refine still_ite ?_ ?_
        · refine Still.trans ?_ (still_reference _ _ _ _)
          exact hv2
        · refine Still.trans ?_ (still_setSigma _ _ _)
          refine Still.trans ?_ (still_setBay _ _ _)
          exact hv2
      · refine Still.trans ?_ (still_provisional _ _ _)
        exact hv2
  refine Still.trans ?_ (still_sums _)
  refine Still.trans ?_ (still_toCharge _ _)
  refine Still.trans ?_ (still_estimate _ _ _)
  refine Still.trans ?_ (still_putSigma _ _)
  exact hv4

theorem still_execPrechargeComplete (bay : Nat) (volt : Nat) (s : State) : StillA s (execPrechargeComplete bay volt s) := by
  unfold execPrechargeComplete
  extract_lets v1
  have hv1 : Still s v1 := by
    subst v1
    refine Still.trans ?_ (still_begin _)
    exact Still.refl _
  refine stillA_ite ?_ ?_
  · refine stillA_next ?_
    refine Still.trans ?_ (still_firstEstimate _ _ _)
    refine Still.trans ?_ (still_wri _ _ _ _)
    exact hv1
  · refine stillA_next ?_
    exact hv1

theorem still_putTemp (s : State) (b : Nat) (therm : Option Int) : Still s (State.putTemp s b therm) := by
  unfold State.putTemp
  extract_lets v1
  split
  rename_i w2 w3 w4 w5
  extract_lets v6
  have hv6 : Still s v6 := by
    subst v6
    refine Still.trans ?_ (still_wri _ _ _ _)
    refine Still.trans ?_ (still_wri _ _ _ _)
    exact Still.refl _
  refine still_ite ?_ ?_
  · refine Still.trans ?_ (still_setBay _ _ _)
    exact hv6
  · exact hv6

theorem still_inhibit (s : State) (b : Nat) (cause : Nat) : Still s (State.inhibit s b cause) := by
  unfold State.inhibit
  refine still_ite ?_ ?_
  · refine Still.trans ?_ (still_chargerOff _ _)
    refine Still.trans ?_ (still_wri _ _ _ _)
    refine Still.trans ?_ (still_wri _ _ _ _)
    exact Still.refl _
  · exact Still.refl _

theorem still_sbsAlarms (s : State) (b : Nat) (st : Nat) : Still s (State.sbsAlarms s b st) := by
  unfold State.sbsAlarms
  extract_lets v1 v2 v3 v4 v5 v6 v7 v8
  have hv5 : Still s v5 := by
    clear v6 v7 v8
    subst v5
    refine still_ite ?_ ?_
    · refine Still.trans ?_ (still_event _ _ _)
      exact Still.refl _
    · exact Still.refl _
  have hv7 : Still s v7 := by
    clear v8
    subst v7
    refine Still.trans ?_ (still_setBay _ _ _)
    exact hv5
  have hv8 : Still s v8 := by
    subst v8
    refine still_ite ?_ ?_
    · refine Still.trans ?_ (still_endTestOrPause _ _)
      exact hv7
    · exact hv7
  refine Still.trans ?_ (still_sums _)
  refine still_ite ?_ ?_
  · refine Still.trans ?_ (still_inhibit _ _ _)
    exact hv8
  · exact hv8

theorem still_watch (s : State) (b : Nat) (i : Nat) (cond : Bool) (d : Nat) : StillP s (State.watch s b i cond d) := by
  unfold State.watch
  extract_lets v1
  refine stillP_ite ?_ ?_
  · refine stillP_mk ?_
    refine Still.trans ?_ (still_setBay _ _ _)
    exact Still.refl _
  · split
    · refine stillP_mk ?_
      refine Still.trans ?_ (still_setBay _ _ _)
      exact Still.refl _
    · refine stillP_ite ?_ ?_
      · refine stillP_mk ?_
        refine Still.trans ?_ (still_setBay _ _ _)
        exact Still.refl _
      · refine stillP_mk ?_
        exact Still.refl _

theorem still_execSbsPoll (bay : Nat) (ans : Option SbsData) (s : State) : StillA s (execSbsPoll bay ans s) := by
  unfold execSbsPoll
  extract_lets v1 v2 v3 v4
  have hv1 : Still s v1 := by
    clear v2 v3 v4
    subst v1
    refine Still.trans ?_ (still_begin _)
    exact Still.refl _
  have hv2 : Still s v2 := by
    clear v3 v4
    subst v2
    refine Still.trans ?_ (still_busFree _ _)
    exact hv1
  have hv3 : Still s v3 := by
    clear v4
    subst v3
    refine Still.trans ?_ (still_wri _ _ _ _)
    refine Still.trans ?_ (still_watch _ _ _ _ _)
    exact hv2
  refine stillA_ite ?_ ?_
  · refine stillA_next ?_
    exact hv1
  · split
    · extract_lets v5 v6
      have hv5 : Still s v5 := by
        clear v6
        subst v5
        refine Still.trans ?_ (still_setBay _ _ _)
        exact hv3
      have hv6 : Still s v6 := by
        subst v6
        split
        · refine Still.trans ?_ (still_wri _ _ _ _)
          exact hv5
        · exact hv5
      refine stillA_next ?_
      refine Still.trans ?_ (still_sbsAlarms _ _ _)
      refine Still.trans ?_ (still_putTemp _ _ _)
      exact hv6
    · split
      rename_i w7 w8 w9 w10
      have hw8 : Still s w8 := by
        refine still_fst ?_ w10
        refine Still.trans ?_ (still_watch _ _ _ _ _)
        exact hv2
      refine stillA_ite ?_ ?_
      · extract_lets v11 v12
        have hv12 : Still s v12 := by
          subst v12
          refine Still.trans ?_ (still_setBay _ _ _)
          exact hw8
        refine stillA_next ?_
        refine Still.trans ?_ (still_event _ _ _)
        refine Still.trans ?_ (still_wri _ _ _ _)
        exact hv12
      · refine stillA_next ?_
        exact hw8

theorem keep_alarmSleep (s : State) : Keep s (State.alarmSleep s) := by
  unfold State.alarmSleep
  extract_lets v1
  refine keep_ite ?_ ?_
  · refine Keep.trans ?_ (keep_powerDown _ _)
    exact Keep.refl _
  · exact Keep.refl _

theorem still_advanceModel (s : State) (b : Nat) (dq : Int) (curr : Int) : Still s (State.advanceModel s b dq curr) := by
  unfold State.advanceModel
  extract_lets v1 v2 v3 v4 v5 v6
  refine Still.trans ?_ (still_setBay _ _ _)
  exact Still.refl _

theorem still_senseFaults (s : State) (b : Nat) (volt : Nat) (curr : Int) : Still s (State.senseFaults s b volt curr) := by
  unfold State.senseFaults
  extract_lets v1 v2
  split
  rename_i w3 w4 w5 w6
  have hw4 : Still s w4 := by
    refine still_fst ?_ w6
    refine Still.trans ?_ (still_watch _ _ _ _ _)
    exact Still.refl _
  extract_lets v7 v8
  have hv8 : Still s v8 := by
    subst v8
    refine still_ite ?_ ?_
    · refine Still.trans ?_ (still_event _ _ _)
      refine Still.trans ?_ (still_setBay _ _ _)
      exact hw4
    · exact hw4
  split
  rename_i w9 w10 w11 w12
  have hw10 : Still s w10 := by
    refine still_fst ?_ w12
    refine Still.trans ?_ (still_watch _ _ _ _ _)
    exact hv8
  extract_lets v13 v14
  have hv13 : Still s v13 := by
    clear v14
    subst v13
    refine still_ite ?_ ?_
    · refine Still.trans ?_ (still_event _ _ _)
      refine Still.trans ?_ (still_setSigma _ _ _)
      exact hw10
    · exact hw10
  split
  rename_i w15 w16 w17 w18
  have hw16 : Still s w16 := by
    refine still_fst ?_ w18
    refine Still.trans ?_ (still_watch _ _ _ _ _)
    exact hv13
  refine still_ite ?_ ?_
  · refine Still.trans ?_ (still_event _ _ _)
    refine Still.trans ?_ (still_wri _ _ _ _)
    refine Still.trans ?_ (still_setSigma _ _ _)
    exact hw16
  · exact hw16

theorem still_chargeFaults (s : State) (b : Nat) (volt : Nat) (curr : Int) : Still s (State.chargeFaults s b volt curr) := by
  unfold State.chargeFaults
  extract_lets v1 v2
  split
  rename_i w3 w4 w5 w6
  have hw4 : Still s w4 := by
    refine still_fst ?_ w6
    refine Still.trans ?_ (still_watch _ _ _ _ _)
    exact Still.refl _
  split
  rename_i w7 w8 w9 w10
  have hw8 : Still s w8 := by
    refine still_fst ?_ w10
    refine Still.trans ?_ (still_watch _ _ _ _ _)
    exact hw4
  extract_lets v11 v12 v13
  have hv11 : Still s v11 := by
    clear v12 v13
    subst v11
    refine still_ite ?_ ?_
    · refine Still.trans ?_ (still_bayFault _ _ _)
      exact hw8
    · refine still_ite ?_ ?_
      · refine Still.trans ?_ (still_bayFault _ _ _)
        exact hw8
      · exact hw8
  have hv13 : Still s v13 := by
    subst v13
    refine still_ite ?_ ?_
    · refine Still.trans ?_ (still_event _ _ _)
      refine Still.trans ?_ (still_inhibit _ _ _)
      exact hv11
    · exact hv11
  refine still_ite ?_ ?_
  · refine Still.trans ?_ (still_endTestOrPause _ _)
    exact hv13
  · exact hv13

theorem still_bayUpdate (s : State) (b : Nat) (x : BaySense) : Still s (State.bayUpdate s b x) := by
  unfold State.bayUpdate
  extract_lets v1 v2 v3 v4 v5 v6 v7
  have hv1 : Still s v1 := by
    clear v2 v3 v4 v5 v6 v7
    subst v1
    refine Still.trans ?_ (still_wri _ _ _ _)
    exact Still.refl _
  have hv6 : Still s v6 := by
    clear v7
    subst v6
    refine Still.trans ?_ (still_putTemp _ _ _)
    refine Still.trans ?_ (still_wri _ _ _ _)
    refine Still.trans ?_ (still_wri _ _ _ _)
    exact hv1
  have hv7 : Still s v7 := by
    subst v7
    refine Still.trans ?_ (still_chargeFaults _ _ _ _)
    refine Still.trans ?_ (still_senseFaults _ _ _ _)
    refine Still.trans ?_ (still_advanceModel _ _ _ _)
    exact hv6
  refine still_ite ?_ ?_
  · exact hv1
  · refine still_ite ?_ ?_
    · exact hv6
    · refine Still.trans ?_ (still_writeLearn _ _)
      refine Still.trans ?_ (still_estimate _ _ _)
      refine Still.trans ?_ (still_putSigma _ _)
      exact hv7

theorem keep_execEstimatorUpdate (a : BaySense) (b : BaySense) (s : State) : KeepA s (execEstimatorUpdate a b s) := by
  unfold execEstimatorUpdate
  extract_lets v1 v2
  have hv1 : Keep s v1 := by
    clear v2
    subst v1
    refine Keep.trans ?_ (still_begin _).keep
    exact Keep.refl _
  have hv2 : Keep s v2 := by
    subst v2
    refine Keep.trans ?_ (still_bayUpdate _ _ _).keep
    refine Keep.trans ?_ (still_bayUpdate _ _ _).keep
    exact hv1
  refine keepA_ite ?_ ?_
  · refine keepA_next ?_
    exact hv1
  · refine keepA_ite ?_ ?_
    · refine keepA_next ?_
      exact hv2
    · refine keepA_next ?_
      refine Keep.trans ?_ (keep_alarmSleep _)
      refine Keep.trans ?_ (still_reflectEvent _ _).keep
      refine Keep.trans ?_ (still_reflectEvent _ _).keep
      refine Keep.trans ?_ (still_sums _).keep
      exact hv2

theorem still_dropBay (s : State) (b : Nat) (a2 : Nat) : Still s (State.dropBay s b a2) := by
  unfold State.dropBay
  refine Still.trans ?_ (still_reflectEvent _ _)
  refine Still.trans ?_ (still_sums _)
  refine Still.trans ?_ (still_event _ _ _)
  exact Still.refl _

theorem still_packPin (s : State) (b : Nat) (v : Nat) : Still s (State.packPin s b v) := by
  unfold State.packPin
  refine Still.trans ?_ (still_wr _ _ _)
  exact Still.refl _

theorem still_execPackRemoved (bay : Nat) (ticks : Nat) (s : State) : StillA s (execPackRemoved bay ticks s) := by
  unfold execPackRemoved
  extract_lets v1 v2 v3 v4 v5 v6 v7 v8 v9 v10 v11 v12 v13
  have hv1 : Still s v1 := by
    clear v2 v3 v4 v5 v6 v7 v8 v9 v10 v11 v12 v13
    subst v1
    refine Still.trans ?_ (still_begin _)
    exact Still.refl _
  have hv2 : Still s v2 := by
    clear v3 v4 v5 v6 v7 v8 v9 v10 v11 v12 v13
    subst v2
    refine Still.trans ?_ (still_packPin _ _ _)
    exact hv1
  have hv5 : Still s v5 := by
    clear v6 v7 v8 v9 v10 v11 v12 v13
    subst v5
    refine Still.trans ?_ (still_wakeDeep _ _)
    exact hv2
  have hv7 : Still s v7 := by
    clear v8 v9 v10 v11 v12 v13
    subst v7
    refine Still.trans ?_ (still_fallbackWeir _ _)
    exact hv5
  have hv8 : Still s v8 := by
    clear v9 v10 v11 v12 v13
    subst v8
    refine still_ite ?_ ?_
    · exact hv7
    · refine Still.trans ?_ (still_packTestEnd _ _)
      exact hv7
  have hv9 : Still s v9 := by
    clear v10 v11 v12 v13
    subst v9
    refine still_ite ?_ ?_
    · exact hv8
    · refine Still.trans ?_ (still_endTestOrPause _ _)
      exact hv8
  have hv10 : Still s v10 := by
    clear v11 v12 v13
    subst v10
    refine Still.trans ?_ (still_setBay _ _ _)
    exact hv9
  have hv11 : Still s v11 := by
    clear v12 v13
    subst v11
    refine still_forEach _ ?_ ?_
    · intro a14 a15
      refine Still.trans ?_ (still_wri _ _ _ _)
      exact Still.refl _
    · exact hv10
  have hv12 : Still s v12 := by
    clear v13
    subst v12
    refine still_ite ?_ ?_
    · refine Still.trans ?_ (still_dropBay _ _ _)
      exact hv11
    · exact hv11
  have hv13 : Still s v13 := by
    subst v13
    refine still_ite ?_ ?_
    · refine Still.trans ?_ (still_recompute _ _)
      refine Still.trans ?_ (still_wr _ _ _)
      exact hv12
    · exact hv12
  refine stillA_ite ?_ ?_
  · refine stillA_next ?_
    exact hv1
  · refine stillA_ite ?_ ?_
    · refine stillA_next ?_
      refine Still.trans ?_ (still_setBay _ _ _)
      exact hv2
    · refine stillA_ite ?_ ?_
      · refine stillA_next ?_
        refine Still.trans ?_ (still_setBay _ _ _)
        exact hv5
      · refine stillA_next ?_
        refine Still.trans ?_ (still_fullCheck _)
        exact hv13

theorem still_unprofiled (s : State) (bay : Nat) (names : List Nat) : Still s (State.unprofiled s bay names) := by
  unfold State.unprofiled
  refine Still.trans ?_ (still_sums _)
  refine Still.trans ?_ (still_event _ _ _)
  refine Still.trans ?_ (still_wri _ _ _ _)
  exact Still.refl _

theorem still_execIdentTimeout (bay : Nat) (s : State) : StillA s (execIdentTimeout bay s) := by
  unfold execIdentTimeout
  extract_lets v1
  have hv1 : Still s v1 := by
    subst v1
    refine Still.trans ?_ (still_begin _)
    exact Still.refl _
  refine stillA_ite ?_ ?_
  · refine stillA_next ?_
    refine Still.trans ?_ (still_unprofiled _ _ _)
    exact hv1
  · refine stillA_next ?_
    exact hv1

theorem still_loadLearning (s : State) (b : Nat) (mdate : Nat) (serial : Nat) (fcc : Nat) : Still s (State.loadLearning s b mdate serial
    fcc) := by
  unfold State.loadLearning
  extract_lets v1 v2 v3 v4 v5 v6
  have hv4 : Still s v4 := by
    clear v5 v6
    subst v4
    clear_value v2
    split
    · refine still_ite ?_ ?_
      · refine Still.trans ?_ (still_wri _ _ _ _)
        iterate 3 refine Still.trans ?_ (still_wri _ _ _ _)
        exact Still.refl _
      · refine Still.trans ?_ (still_wri _ _ _ _)
        iterate 3 refine Still.trans ?_ (still_wri _ _ _ _)
        exact Still.refl _
    · refine Still.trans ?_ (still_wri _ _ _ _)
      iterate 3 refine Still.trans ?_ (still_wri _ _ _ _)
      exact Still.refl _
  have hv6 : Still s v6 := by
    subst v6
    refine Still.trans ?_ (still_setBay _ _ _)
    exact hv4
  refine Still.trans ?_ (still_putSoh _ _)
  refine still_ite ?_ ?_
  · refine Still.trans ?_ (still_event _ _ _)
    refine Still.trans ?_ (still_wri _ _ _ _)
    exact hv6
  · exact hv6

theorem still_identified (s : State) (bay : Nat) (p : Nat) (id : PackId) (volt : Nat) : Still s (State.identified s bay p id volt) := by
  unfold State.identified
  extract_lets v1 v2 v3 v4 v5
  have hv2 : Still s v2 := by
    clear v3 v4 v5
    subst v2
    refine Still.trans ?_ (still_wri _ _ _ _)
    refine Still.trans ?_ (still_wri _ _ _ _)
    exact Still.refl _
  have hv3 : Still s v3 := by
    clear v4 v5
    subst v3
    iterate 4 refine Still.trans ?_ (still_wri _ _ _ _)
    exact hv2
  have hv4 : Still s v4 := by
    clear v5
    subst v4
    refine Still.trans ?_ (still_wr _ _ _)
    exact hv3
  have hv5 : Still s v5 := by
    subst v5
    refine Still.trans ?_ (still_loadLearning _ _ _ _ _)
    refine Still.trans ?_ (still_event _ _ _)
    exact hv4
  refine still_ite ?_ ?_
  · refine Still.trans ?_ (still_sums _)
    refine Still.trans ?_ (still_charger _ _ _)
    refine Still.trans ?_ (still_wri _ _ _ _)
    exact hv5
  · refine Still.trans ?_ (still_firstEstimate _ _ _)
    exact hv5

theorem still_execPackIdentified (bay : Nat) (id : PackId) (volt : Nat) (s : State) : StillA s (execPackIdentified bay id volt s) := by
  unfold execPackIdentified
  extract_lets v1
  have hv1 : Still s v1 := by
    subst v1
    refine Still.trans ?_ (still_begin _)
    exact Still.refl _
  refine stillA_ite ?_ ?_
  · refine stillA_next ?_
    exact hv1
  · split
    · refine stillA_next ?_
      refine Still.trans ?_ (still_unprofiled _ _ _)
      exact hv1
    · refine stillA_next ?_
      refine Still.trans ?_ (still_identified _ _ _ _ _)
      exact hv1

theorem still_execPackPresentDebounce (bay : Nat) (ticks : Nat) (s : State) : StillA s (execPackPresentDebounce bay ticks s) := by
  unfold execPackPresentDebounce
  extract_lets v1 v2 v3
  have hv1 : Still s v1 := by
    clear v2 v3
    subst v1
    refine Still.trans ?_ (still_begin _)
    exact Still.refl _
  have hv2 : Still s v2 := by
    clear v3
    subst v2
    refine Still.trans ?_ (still_packPin _ _ _)
    exact hv1
  have hv3 : Still s v3 := by
    subst v3
    refine Still.trans ?_ (still_wakeDeep _ _)
    exact hv2
  refine stillA_ite ?_ ?_
  · refine stillA_next ?_
    exact hv1
  · refine stillA_ite ?_ ?_
    · refine stillA_next ?_
      exact hv2
    · refine stillA_next ?_
      refine still_ite ?_ ?_
      · refine Still.trans ?_ (still_sums _)
        refine Still.trans ?_ (still_chargerOff _ _)
        refine Still.trans ?_ (still_wri _ _ _ _)
        exact hv3
      · exact hv3

theorem still_execTwinMapSwap (s : State) : StillA s (execTwinMapSwap s) := by
  unfold execTwinMapSwap
  extract_lets v1 v2
  have hv1 : Still s v1 := by
    clear v2
    subst v1
    refine Still.trans ?_ (still_begin _)
    exact Still.refl _
  refine stillA_ite ?_ ?_
  · refine stillA_next ?_
    refine still_mk ?_
    exact hv1
  · refine stillA_next ?_
    exact hv1

theorem keep_copyArrived (s : State) (p : Nat) (seq : Nat) (ty : Nat) (ws : List Nat) : Keep s (State.copyArrived s p seq ty ws) := by
  unfold State.copyArrived
  refine keep_ite ?_ ?_
  · exact Keep.refl _
  · extract_lets v1 v2
    have hv2 : Keep s v2 := by
      subst v2
      refine Keep.trans ?_ (still_noteCopy _ _ _ _ _).keep
      exact Keep.refl _
    refine Keep.trans ?_ (keep_runInbox _ _)
    exact hv2

theorem keep_execCatchupEnd (p : Nat) (seq : Nat) (share : Nat) (s : State) : KeepA s (execCatchupEnd p seq share s) := by
  unfold execCatchupEnd
  refine keepA_next ?_
  refine Keep.trans ?_ (keep_copyArrived _ _ _ _ _)
  refine Keep.trans ?_ (still_begin _).keep
  exact Keep.refl _

theorem keep_execCatchupBegin (p : Nat) (seq : Nat) (share : Nat) (full : Bool) (s : State) : KeepA s (execCatchupBegin p seq share full s) := by
  unfold execCatchupBegin
  refine keepA_next ?_
  refine Keep.trans ?_ (keep_copyArrived _ _ _ _ _)
  refine Keep.trans ?_ (still_begin _).keep
  exact Keep.refl _

theorem keep_execUnpair (p : Nat) (seq : Nat) (share : Nat) (s : State) : KeepA s (execUnpair p seq share s) := by
  unfold execUnpair
  refine keepA_next ?_
  refine Keep.trans ?_ (keep_copyArrived _ _ _ _ _)
  refine Keep.trans ?_ (still_begin _).keep
  exact Keep.refl _

theorem keep_execJoin (p : Nat) (seq : Nat) (share : Nat) (s : State) : KeepA s (execJoin p seq share s) := by
  unfold execJoin
  refine keepA_next ?_
  refine Keep.trans ?_ (keep_copyArrived _ _ _ _ _)
  refine Keep.trans ?_ (still_begin _).keep
  exact Keep.refl _

theorem still_execDesignateResp (pairid : Nat) (status : Nat) (s : State) : StillA s (execDesignateResp pairid status s) := by
  unfold execDesignateResp
  extract_lets v1 v2 v3 v4
  have hv1 : Still s v1 := by
    clear v2 v3 v4
    subst v1
    refine Still.trans ?_ (still_begin _)
    exact Still.refl _
  have hv4 : Still s v4 := by
    subst v4
    refine still_mk ?_
    exact hv1
  split
  · refine stillA_next ?_
    exact hv1
  · split
    · refine stillA_next ?_
      refine Still.trans ?_ (still_reply _ _ _ _)
      exact hv4
    · refine stillA_next ?_
      exact hv4

theorem still_setShareRegs (s : State) (n : Nat) (base : Nat) (size : Nat) (wtcap : Nat) (rpri : Nat) (hot : Nat) (mode : Nat) (grants :
    Nat) : Still s (State.setShareRegs s n base size wtcap rpri hot mode grants) := by
  unfold State.setShareRegs
  iterate 8 refine Still.trans ?_ (still_wri _ _ _ _)
  exact Still.refl _

theorem keep_becomeReplica (s : State) (n : Nat) (peer : Nat) (pairid : Nat) (base : Nat) (size : Nat) : Keep s (State.becomeReplica s n
    peer pairid base size) := by
  unfold State.becomeReplica
  extract_lets v1 v2 v3 v4 v5 v6
  have hv1 : Keep s v1 := by
    clear v2 v3 v4 v5 v6
    subst v1
    refine keep_ite ?_ ?_
    · exact Keep.refl _
    · refine Keep.trans ?_ (still_wri _ _ _ _).keep
      refine Keep.trans ?_ (still_setShareRegs _ _ _ _ _ _ _ _ _).keep
      exact Keep.refl _
  have hv2 : Keep s v2 := by
    clear v3 v4 v5 v6
    subst v2
    refine Keep.trans ?_ (keep_zeroShare _ _)
    refine Keep.trans ?_ (still_newKgen _ _).keep
    exact hv1
  have hv3 : Keep s v3 := by
    clear v4 v5 v6
    subst v3
    refine Keep.trans ?_ (still_setShMode _ _ _).keep
    refine Keep.trans ?_ (still_wri _ _ _ _).keep
    exact hv2
  have hv4 : Keep s v4 := by
    clear v5 v6
    subst v4
    refine Keep.trans ?_ (still_setShState _ _ _).keep
    refine Keep.trans ?_ (still_endChange _ _).keep
    exact hv3
  have hv6 : Keep s v6 := by
    subst v6
    refine keep_mk ?_
    exact hv4
  refine Keep.trans ?_ (still_settleMr _).keep
  refine Keep.trans ?_ (still_commitShare _ _).keep
  refine Keep.trans ?_ (still_setPair _ _ _).keep
  exact hv6

theorem keep_takeDesignate (t : State) (share : Nat) (peer : Nat) (pairid : Nat) (base : Nat) (size : Nat) : Keep t (State.takeDesignate t
    share peer pairid base size) := by
  unfold State.takeDesignate
  refine keep_ite ?_ ?_
  · exact Keep.refl _
  · extract_lets v1 v2
    have hv2 : Keep t v2 := by
      subst v2
      refine keep_ite ?_ ?_
      · refine Keep.trans ?_ (keep_becomeReplica _ _ _ _ _ _)
        exact Keep.refl _
      · refine keep_ite ?_ ?_
        · refine Keep.trans ?_ (still_wri _ _ _ _).keep
          exact Keep.refl _
        · exact Keep.refl _
    refine Keep.trans ?_ (still_send _ _).keep
    exact hv2

theorem keep_execDesignate (share : Nat) (peer : Nat) (pairid : Nat) (base : Nat) (size : Nat) (s : State) : KeepA s (execDesignate share
    peer pairid base size s) := by
  unfold execDesignate
  extract_lets v1
  have hv1 : Keep s v1 := by
    subst v1
    refine Keep.trans ?_ (still_begin _).keep
    exact Keep.refl _
  refine keepA_next ?_
  refine Keep.trans ?_ (keep_bySp3 _ _ _ ?_)
  · exact hv1
  · refine Keep.trans ?_ (keep_takeDesignate _ _ _ _ _ _)
    exact Keep.refl _

theorem still_peerLoss (s : State) (cause : Nat) : Still s (State.peerLoss s cause) := by
  unfold State.peerLoss
  refine still_ite ?_ ?_
  · refine Still.trans ?_ (still_pairLost _ _)
    exact Still.refl _
  · refine still_mk ?_
    exact Still.refl _

theorem still_execSaving (p : Nat) (s : State) : StillA s (execSaving p s) := by
  unfold execSaving
  extract_lets v1 v2
  have hv1 : Still s v1 := by
    clear v2
    subst v1
    refine Still.trans ?_ (still_begin _)
    exact Still.refl _
  refine stillA_ite ?_ ?_
  · refine stillA_next ?_
    refine Still.trans ?_ (still_peerLoss _ _)
    exact hv1
  · refine stillA_next ?_
    exact hv1

theorem keep_execReleaseMessage (p : Nat) (seq : Nat) (share : Nat) (units : Nat) (first : Nat) (s : State) : KeepA s (execReleaseMessage p
    seq share units first s) := by
  unfold execReleaseMessage
  extract_lets v1 v2 v3
  have hv1 : Keep s v1 := by
    clear v2 v3
    subst v1
    refine Keep.trans ?_ (still_begin _).keep
    exact Keep.refl _
  have hv3 : Keep s v3 := by
    subst v3
    refine Keep.trans ?_ (still_releaseCopy _ _ _ _ _ _).keep
    exact hv1
  refine keepA_ite ?_ ?_
  · refine keepA_next ?_
    exact hv1
  · refine keepA_ite ?_ ?_
    · refine keepA_next ?_
      refine Keep.trans ?_ (still_bump _ _).keep
      exact hv1
    · refine keepA_ite ?_ ?_
      · refine keepA_next ?_
        refine keep_mk ?_
        exact hv1
      · refine keepA_next ?_
        refine Keep.trans ?_ (keep_runInbox _ _)
        exact hv3

theorem keep_execReplicaWrite (p : Nat) (share : Nat) (off : Nat) (lines : List (BitVec 512 × Bool)) (s : State) : KeepA s
    (execReplicaWrite p share off lines s) := by
  unfold execReplicaWrite
  extract_lets v1 v2 v3
  have hv1 : Keep s v1 := by
    clear v2 v3
    subst v1
    refine Keep.trans ?_ (still_begin _).keep
    exact Keep.refl _
  refine keepA_ite ?_ ?_
  · refine keepA_next ?_
    exact hv1
  · refine keepA_ite ?_ ?_
    · refine keepA_next ?_
      refine Keep.trans ?_ (keep_applyWrite _ _)
      exact hv1
    · refine keepA_next ?_
      refine keep_mk ?_
      exact hv1

theorem still_copyEnded (s : State) (n : Nat) : Still s (State.copyEnded s n) := by
  unfold State.copyEnded
  extract_lets v1 v2
  refine Still.trans ?_ (still_event _ _ _)
  refine still_mk ?_
  exact Still.refl _

theorem still_catchupDone (s : State) (n : Nat) : Still s (State.catchupDone s n) := by
  unfold State.catchupDone
  extract_lets v1 v2 v3 v4
  have hv1 : Still s v1 := by
    clear v2 v3 v4
    subst v1
    refine Still.trans ?_ (still_setPstate _ _ _)
    exact Still.refl _
  have hv2 : Still s v2 := by
    clear v3 v4
    subst v2
    refine still_ite ?_ ?_
    · refine Still.trans ?_ (still_setMapovf _ _ _)
      refine Still.trans ?_ (still_setLossrep _ _ _)
      exact hv1
    · exact hv1
  have hv4 : Still s v4 := by
    subst v4
    refine still_mk ?_
    exact hv2
  refine Still.trans ?_ (still_copyEnded _ _)
  exact hv4

theorem still_endCatchups (s : State) : Still s (State.endCatchups s) := by
  unfold State.endCatchups
  refine still_ite ?_ ?_
  · refine still_forEach _ ?_ ?_
    · intro a1 a2
      refine Still.trans ?_ (still_catchupDone _ _)
      exact Still.refl _
    · exact Still.refl _
  · exact Still.refl _

theorem still_flushTwined (s : State) : Still s (State.flushTwined s) := by
  unfold State.flushTwined
  refine still_foldl _ ?_ ?_
  · intro a1 a2
    refine Still.trans ?_ (still_finish _ _ _ _ _)
    exact Still.refl _
  · exact Still.refl _

theorem still_execAck (a0 : Nat) (session : Nat) (s : State) : StillA s (execAck a0 session s) := by
  unfold execAck
  extract_lets v1 v2 v3 v4
  have hv1 : Still s v1 := by
    clear v2 v3 v4
    subst v1
    refine Still.trans ?_ (still_begin _)
    exact Still.refl _
  have hv2 : Still s v2 := by
    clear v3 v4
    subst v2
    refine Still.trans ?_ (still_wr _ _ _)
    exact hv1
  have hv4 : Still s v4 := by
    subst v4
    refine still_ite ?_ ?_
    · refine still_mk ?_
      exact hv2
    · exact hv2
  refine stillA_ite ?_ ?_
  · refine stillA_next ?_
    exact hv1
  · refine stillA_next ?_
    refine Still.trans ?_ (still_flushTwined _)
    refine Still.trans ?_ (still_endCatchups _)
    exact hv4

theorem still_execMark (p : Nat) (seq : Nat) (s : State) : StillA s (execMark p seq s) := by
  unfold execMark
  extract_lets v1 v2
  have hv1 : Still s v1 := by
    clear v2
    subst v1
    refine Still.trans ?_ (still_begin _)
    exact Still.refl _
  refine stillA_ite ?_ ?_
  · refine stillA_next ?_
    refine Still.trans ?_ (still_advance _)
    refine still_mk ?_
    exact hv1
  · refine stillA_next ?_
    exact hv1

theorem still_sendItem (s : State) (p : Nat) (i : OutItem) : Still s (State.sendItem s p i) := by
  unfold State.sendItem
  split
  · refine Still.trans ?_ (still_send _ _)
    exact Still.refl _
  · refine Still.trans ?_ (still_send _ _)
    exact Still.refl _

theorem still_drainPort (s : State) (p : Nat) (n : Nat) : Still s (State.drainPort s p n) := by
  unfold State.drainPort
  refine still_ite ?_ ?_
  · exact Still.refl _
  · extract_lets v1 v2 v3 v4 v5
    have hv2 : Still s v2 := by
      clear v3 v4 v5
      subst v2
      refine still_foldl _ ?_ ?_
      · intro a6 a7
        refine Still.trans ?_ (still_sendItem _ _ _)
        exact Still.refl _
      · exact Still.refl _
    have hv5 : Still s v5 := by
      subst v5
      refine still_mk ?_
      exact hv2
    refine Still.trans ?_ (still_sendMark _ _)
    exact hv5

theorem still_execMarkInterval (n0 : Nat) (n1 : Nat) (s : State) : StillA s (execMarkInterval n0 n1 s) := by
  unfold execMarkInterval
  extract_lets v1
  have hv1 : Still s v1 := by
    subst v1
    refine Still.trans ?_ (still_begin _)
    exact Still.refl _
  refine stillA_ite ?_ ?_
  · refine stillA_next ?_
    refine Still.trans ?_ (still_copyStep _)
    refine Still.trans ?_ (still_drainPort _ _ _)
    refine Still.trans ?_ (still_drainPort _ _ _)
    exact hv1
  · refine stillA_next ?_
    exact hv1

theorem keep_execLinkJoin (p : Nat) (seq : Nat) (s : State) : KeepA s (execLinkJoin p seq s) := by
  unfold execLinkJoin
  extract_lets v1
  have hv1 : Keep s v1 := by
    subst v1
    refine Keep.trans ?_ (still_begin _).keep
    exact Keep.refl _
  refine keepA_ite ?_ ?_
  · refine keepA_next ?_
    refine Keep.trans ?_ (keep_copyArrived _ _ _ _ _)
    exact hv1
  · refine keepA_next ?_
    exact hv1

theorem still_leavePair (s : State) (n : Nat) : Still s (State.leavePair s n) := by
  unfold State.leavePair
  extract_lets v1 v2 v3 v4 v5
  have hv3 : Still s v3 := by
    clear v4 v5
    subst v3
    refine Still.trans ?_ (still_wri _ _ _ _)
    exact Still.refl _
  have hv5 : Still s v5 := by
    subst v5
    refine still_mk ?_
    exact hv3
  refine still_ite ?_ ?_
  · exact hv5
  · refine Still.trans ?_ (still_tellGone _ _ _ _)
    exact hv5

theorem still_commitMode (s : State) (n : Nat) (mode : Nat) : Still s (State.commitMode s n mode) := by
  unfold State.commitMode
  refine Still.trans ?_ (still_settleMr _)
  refine Still.trans ?_ (still_commitShare _ _)
  refine Still.trans ?_ (still_setShMode _ _ _)
  refine Still.trans ?_ (still_wri _ _ _ _)
  exact Still.refl _

theorem still_untwine (s : State) (n : Nat) : Still s (State.untwine s n) := by
  unfold State.untwine
  extract_lets v1
  have hv1 : Still s v1 := by
    subst v1
    refine still_ite ?_ ?_
    · refine Still.trans ?_ (still_sendSeq _ _ _)
      exact Still.refl _
    · exact Still.refl _
  refine Still.trans ?_ (still_commitMode _ _ _)
  refine Still.trans ?_ (still_leavePair _ _)
  exact hv1

theorem still_demote (s : State) (n : Nat) : Still s (State.demote s n) := by
  unfold State.demote
  refine Still.trans ?_ (still_event _ _ _)
  refine still_ite ?_ ?_
  · refine Still.trans ?_ (still_untwine _ _)
    exact Still.refl _
  · refine Still.trans ?_ (still_leavePair _ _)
    exact Still.refl _

theorem still_reunite (s : State) (n : Nat) : Still s (State.reunite s n) := by
  unfold State.reunite
  extract_lets v1
  split
  · refine still_ite ?_ ?_
    · refine still_ite ?_ ?_
      · refine Still.trans ?_ (still_demote _ _)
        exact Still.refl _
      · refine still_ite ?_ ?_
        · refine Still.trans ?_ (still_dropSync _ _ _)
          exact Still.refl _
        · refine still_ite ?_ ?_
          · refine still_ite ?_ ?_
            · refine Still.trans ?_ (still_twinAbsent _ _)
              refine Still.trans ?_ (still_setPstate _ _ _)
              exact Still.refl _
            · refine Still.trans ?_ (still_enterCatchup _ _)
              exact Still.refl _
          · exact Still.refl _
    · refine still_ite ?_ ?_
      · refine Still.trans ?_ (still_wri _ _ _ _)
        refine Still.trans ?_ (still_send _ _)
        exact Still.refl _
      · refine still_ite ?_ ?_
        · refine Still.trans ?_ (still_setPstate _ _ _)
          exact Still.refl _
        · exact Still.refl _
  · refine still_ite ?_ ?_
    · refine still_ite ?_ ?_
      · refine Still.trans ?_ (still_dropSync _ _ _)
        exact Still.refl _
      · refine still_ite ?_ ?_
        · refine Still.trans ?_ (still_twinAbsent _ _)
          refine Still.trans ?_ (still_setPstate _ _ _)
          exact Still.refl _
        · exact Still.refl _
    · refine still_ite ?_ ?_
      · refine Still.trans ?_ (still_setPstate _ _ _)
        exact Still.refl _
      · exact Still.refl _

theorem still_takeState (t : State) (share : Nat) (partner : Nat) (role : Nat) (pstate : Nat) (lossrep : Bool) (last : Bool) (incons :
    Bool) (pairid : Nat) : Still t (State.takeState t share partner role pstate lossrep last incons pairid) := by
  unfold State.takeState
  refine still_ite ?_ ?_
  · exact Still.refl _
  · extract_lets v1 v2 v3 v4 v5
    have hv3 : Still t v3 := by
      clear v4 v5
      subst v3
      refine still_ite ?_ ?_
      · exact Still.refl _
      · refine still_mk ?_
        exact Still.refl _
    have hv5 : Still t v5 := by
      subst v5
      refine still_mk ?_
      exact hv3
    refine still_ite ?_ ?_
    · refine still_ite ?_ ?_
      · refine Still.trans ?_ (still_copyNext _)
        refine still_forEach _ ?_ ?_
        · intro a6 a7
          refine Still.trans ?_ (still_reunite _ _)
          exact Still.refl _
        · exact hv5
      · exact hv3
    · refine still_forEach _ ?_ ?_
      · intro a8 a9
        refine still_ite ?_ ?_
        · refine Still.trans ?_ (still_demote _ _)
          exact Still.refl _
        · exact Still.refl _
      · exact hv3

theorem still_execState (share : Nat) (partner : Nat) (role : Nat) (pstate : Nat) (lossrep : Bool) (last : Bool) (incons : Bool) (pairid :
    Nat) (s : State) : StillA s (execState share partner role pstate lossrep last incons pairid s) := by
  unfold execState
  extract_lets v1
  have hv1 : Still s v1 := by
    subst v1
    refine Still.trans ?_ (still_begin _)
    exact Still.refl _
  refine stillA_next ?_
  refine Still.trans ?_ (still_bySp3 _ _ _ ?_)
  · exact hv1
  · refine Still.trans ?_ (still_takeState _ _ _ _ _ _ _ _ _)
    exact Still.refl _

theorem still_mismatchPort (s : State) (p : Nat) : Still s (State.mismatchPort s p) := by
  unfold State.mismatchPort
  refine Still.trans ?_ (still_event _ _ _)
  refine Still.trans ?_ (still_wri _ _ _ _)
  refine Still.trans ?_ (still_wri _ _ _ _)
  exact Still.refl _

theorem still_sendStates (s : State) : Still s (State.sendStates s) := by
  unfold State.sendStates
  extract_lets v1
  refine still_ite ?_ ?_
  · refine Still.trans ?_ (still_send _ _)
    exact Still.refl _
  · refine still_forEach _ ?_ ?_
    · intro a2 a3
      refine Still.trans ?_ (still_send _ _)
      exact Still.refl _
    · exact Still.refl _

theorem still_openSession (s : State) (p : Nat) (n : Nat) : Still s (State.openSession s p n) := by
  unfold State.openSession
  extract_lets v1 v2 v3 v4 v5 v6 v7 v8
  have hv4 : Still s v4 := by
    clear v5 v6 v7 v8
    subst v4
    refine still_mk ?_
    exact Still.refl _
  have hv5 : Still s v5 := by
    clear v6 v7 v8
    subst v5
    iterate 3 refine Still.trans ?_ (still_wr _ _ _)
    exact hv4
  have hv6 : Still s v6 := by
    clear v7 v8
    subst v6
    iterate 4 refine Still.trans ?_ (still_wr _ _ _)
    exact hv5
  have hv7 : Still s v7 := by
    clear v8
    subst v7
    refine Still.trans ?_ (still_sendStates _)
    refine Still.trans ?_ (still_event _ _ _)
    exact hv6
  refine Still.trans ?_ (still_updReady _)
  refine still_ite ?_ ?_
  · refine Still.trans ?_ (still_mismatchPort _ _)
    exact hv7
  · refine still_ite ?_ ?_
    · refine Still.trans ?_ (still_joinLink _ _)
      exact hv7
    · exact hv7

theorem still_takeSession (t : State) (p : Nat) (n : Nat) (confirm : Bool) : Still t (State.takeSession t p n confirm) := by
  unfold State.takeSession
  refine still_ite ?_ ?_
  · exact Still.refl _
  · refine still_ite ?_ ?_
    · refine Still.trans ?_ (still_openSession _ _ _)
      refine Still.trans ?_ (still_send _ _)
      exact Still.refl _
    · refine still_ite ?_ ?_
      · refine Still.trans ?_ (still_openSession _ _ _)
        exact Still.refl _
      · exact Still.refl _

theorem still_execSession (p : Nat) (n : Nat) (confirm : Bool) (s : State) : StillA s (execSession p n confirm s) := by
  unfold execSession
  extract_lets v1
  have hv1 : Still s v1 := by
    subst v1
    refine Still.trans ?_ (still_begin _)
    exact Still.refl _
  refine stillA_next ?_
  refine Still.trans ?_ (still_bySp3 _ _ _ ?_)
  · exact hv1
  · refine Still.trans ?_ (still_takeSession _ _ _ _)
    exact Still.refl _

theorem still_execHello (p : Nat) (serial : Nat) (seen : Nat) (s : State) : StillA s (execHello p serial seen s) := by
  unfold execHello
  extract_lets v1 v2 v3
  have hv1 : Still s v1 := by
    clear v2 v3
    subst v1
    refine Still.trans ?_ (still_begin _)
    exact Still.refl _
  have hv3 : Still s v3 := by
    subst v3
    refine still_mk ?_
    exact hv1
  refine stillA_ite ?_ ?_
  · refine stillA_next ?_
    exact hv1
  · refine stillA_ite ?_ ?_
    · refine stillA_next ?_
      refine Still.trans ?_ (still_event _ _ _)
      refine Still.trans ?_ (still_wri _ _ _ _)
      refine Still.trans ?_ (still_wri _ _ _ _)
      exact hv1
    · refine stillA_ite ?_ ?_
      · refine stillA_next ?_
        refine Still.trans ?_ (still_event _ _ _)
        refine Still.trans ?_ (still_wri _ _ _ _)
        refine Still.trans ?_ (still_wri _ _ _ _)
        exact hv1
      · refine stillA_next ?_
        refine Still.trans ?_ (still_tryOpen _ _)
        refine Still.trans ?_ (still_wr _ _ _)
        exact hv3

theorem still_execHelloInterval (s : State) : StillA s (execHelloInterval s) := by
  unfold execHelloInterval
  refine stillA_next ?_
  refine still_forEach _ ?_ ?_
  · intro a1 a2
    refine still_ite ?_ ?_
    · refine Still.trans ?_ (still_send _ _)
      exact Still.refl _
    · exact Still.refl _
  · refine Still.trans ?_ (still_begin _)
    exact Still.refl _

theorem still_execLossTimeout (s : State) : StillA s (execLossTimeout s) := by
  unfold execLossTimeout
  extract_lets v1
  have hv1 : Still s v1 := by
    subst v1
    refine Still.trans ?_ (still_begin _)
    exact Still.refl _
  refine stillA_ite ?_ ?_
  · refine stillA_next ?_
    refine Still.trans ?_ (still_peerLoss _ _)
    exact hv1
  · refine stillA_next ?_
    exact hv1

theorem keep_execTwineIdeFail (p : Nat) (s : State) : KeepA s (execTwineIdeFail p s) := by
  unfold execTwineIdeFail
  extract_lets v1
  have hv1 : Keep s v1 := by
    subst v1
    refine Keep.trans ?_ (still_begin _).keep
    exact Keep.refl _
  refine keepA_ite ?_ ?_
  · refine keepA_next ?_
    refine Keep.trans ?_ (keep_twineDown _ _ _)
    refine Keep.trans ?_ (still_event _ _ _).keep
    refine Keep.trans ?_ (still_bump _ _).keep
    refine Keep.trans ?_ (still_wri _ _ _ _).keep
    exact hv1
  · refine keepA_next ?_
    exact hv1

theorem keep_execTwineLinkDown (p : Nat) (s : State) : KeepA s (execTwineLinkDown p s) := by
  unfold execTwineLinkDown
  extract_lets v1 v2
  have hv1 : Keep s v1 := by
    clear v2
    subst v1
    refine Keep.trans ?_ (still_begin _).keep
    exact Keep.refl _
  refine keepA_ite ?_ ?_
  · refine keepA_next ?_
    refine Keep.trans ?_ (keep_twineDown _ _ _)
    refine Keep.trans ?_ (still_wri _ _ _ _).keep
    refine Keep.trans ?_ (still_wri _ _ _ _).keep
    exact hv1
  · refine keepA_next ?_
    exact hv1

theorem still_execTwineIdeActive (p : Nat) (serial : Nat) (s : State) : StillA s (execTwineIdeActive p serial s) := by
  unfold execTwineIdeActive
  extract_lets v1
  have hv1 : Still s v1 := by
    subst v1
    refine Still.trans ?_ (still_begin _)
    exact Still.refl _
  refine stillA_ite ?_ ?_
  · refine stillA_ite ?_ ?_
    · refine stillA_next ?_
      refine Still.trans ?_ (still_whenDrbg _ _ _ ?_)
      · exact Still.refl _
      · refine Still.trans ?_ (still_tryOpen _ _)
        refine Still.trans ?_ (still_wri _ _ _ _)
        refine Still.trans ?_ (still_skipDrbg _)
        exact hv1
    · refine stillA_next ?_
      refine Still.trans ?_ (still_wri _ _ _ _)
      exact hv1
  · refine stillA_next ?_
    exact hv1

theorem still_execTwineLinkUp (p : Nat) (width : Nat) (rate : Nat) (flit : Bool) (s : State) : StillA s (execTwineLinkUp p width rate flit
    s) := by
  unfold execTwineLinkUp
  extract_lets v1 v2 v3 v4 v5 v6
  have hv1 : Still s v1 := by
    clear v2 v3 v4 v5 v6
    subst v1
    refine Still.trans ?_ (still_begin _)
    exact Still.refl _
  have hv3 : Still s v3 := by
    clear v4 v5 v6
    subst v3
    refine Still.trans ?_ (still_setBit _ _ _ _)
    exact hv1
  have hv6 : Still s v6 := by
    subst v6
    refine still_mk ?_
    exact hv3
  refine stillA_ite ?_ ?_
  · refine stillA_next ?_
    exact hv1
  · refine stillA_ite ?_ ?_
    · refine stillA_next ?_
      refine Still.trans ?_ (still_wri _ _ _ _)
      exact hv6
    · refine stillA_next ?_
      iterate 4 refine Still.trans ?_ (still_wri _ _ _ _)
      exact hv6

theorem still_rskCheckpoint (s : State) : Still s (State.rskCheckpoint s) := by
  unfold State.rskCheckpoint
  split
  · exact Still.refl _
  · extract_lets v1 v2
    refine Still.trans ?_ (still_wr _ _ _)
    refine still_mk ?_
    exact Still.refl _

theorem still_execReskeinCheckpointWrite (s : State) : StillA s (execReskeinCheckpointWrite s) := by
  unfold execReskeinCheckpointWrite
  extract_lets v1 v2 v3
  have hv1 : Still s v1 := by
    clear v2 v3
    subst v1
    refine Still.trans ?_ (still_begin _)
    exact Still.refl _
  have hv2 : Still s v2 := by
    clear v3
    subst v2
    refine Still.trans ?_ (still_rskCheckpoint _)
    exact hv1
  refine stillA_ite ?_ ?_
  · refine stillA_next ?_
    refine Still.trans ?_ (still_norProgram _)
    refine still_mk ?_
    exact hv2
  · refine stillA_next ?_
    exact hv1

theorem still_execReskeinRelocateEnd (s : State) : StillA s (execReskeinRelocateEnd s) := by
  unfold execReskeinRelocateEnd
  extract_lets v1 v2 v3
  have hv1 : Still s v1 := by
    clear v2 v3
    subst v1
    refine Still.trans ?_ (still_begin _)
    exact Still.refl _
  have hv2 : Still s v2 := by
    clear v3
    subst v2
    refine Still.trans ?_ (still_wr _ _ _)
    refine Still.trans ?_ (still_wr _ _ _)
    exact hv1
  split
  · refine stillA_next ?_
    exact hv1
  · refine stillA_ite ?_ ?_
    · refine stillA_next ?_
      refine Still.trans ?_ (still_rskCheckpoint _)
      refine still_mk ?_
      exact hv2
    · refine stillA_next ?_
      exact hv1

theorem still_dissolve (s : State) (b : Nat) (t : Nat) : Still s (State.dissolve s b t) := by
  unfold State.dissolve
  extract_lets v1 v2 v3 v4
  have hv3 : Still s v3 := by
    clear v4
    subst v3
    refine still_mk ?_
    exact Still.refl _
  have hv4 : Still s v4 := by
    subst v4
    refine still_forEach _ ?_ ?_
    · intro a5 a6
      refine Still.trans ?_ (still_setBlk _ _ _)
      exact Still.refl _
    · exact hv3
  refine Still.trans ?_ (still_journal _ _ _)
  exact hv4

theorem still_dissolveAll (s : State) (t : Nat) : Still s (State.dissolveAll s t) := by
  unfold State.dissolveAll
  extract_lets v1 v2 v3
  have hv2 : Still s v2 := by
    clear v3
    subst v2
    refine still_forEach _ ?_ ?_
    · intro a4 a5
      refine Still.trans ?_ (still_setBundle _ _ _)
      exact Still.refl _
    · exact Still.refl _
  have hv3 : Still s v3 := by
    subst v3
    refine still_foldl _ ?_ ?_
    · intro a6 a7
      refine Still.trans ?_ (still_dissolve _ _ _)
      exact Still.refl _
    · exact hv2
  refine Still.trans ?_ (still_ceilUpdate _ _)
  refine Still.trans ?_ (still_currentJournal _)
  refine Still.trans ?_ (still_announce _)
  exact hv3

theorem still_execReskeinStart (s : State) : StillA s (execReskeinStart s) := by
  unfold execReskeinStart
  extract_lets v1
  have hv1 : Still s v1 := by
    subst v1
    refine Still.trans ?_ (still_begin _)
    exact Still.refl _
  split
  · refine stillA_next ?_
    exact hv1
  · refine stillA_ite ?_ ?_
    · extract_lets v2 v3 v4 v5 v6
      have hv2 : Still s v2 := by
        clear v3 v4 v5 v6
        subst v2
        refine Still.trans ?_ (still_dissolveAll _ _)
        refine Still.trans ?_ (still_wr _ _ _)
        exact hv1
      have hv3 : Still s v3 := by
        clear v4 v5 v6
        subst v3
        iterate 3 refine Still.trans ?_ (still_wr _ _ _)
        exact hv2
      have hv6 : Still s v6 := by
        subst v6
        refine still_mk ?_
        exact hv3
      refine stillA_next ?_
      refine Still.trans ?_ (still_rskCheckpoint _)
      refine Still.trans ?_ (still_event _ _ _)
      exact hv6
    · refine stillA_next ?_
      exact hv1

theorem still_execReadCalibration (t : Nat) (bin : Nat) (counts : List Nat) (s : State) : StillA s (execReadCalibration t bin counts s) := by
  unfold execReadCalibration
  extract_lets v1 v2 v3 v4 v5 v6 v7 v8
  have hv1 : Still s v1 := by
    clear v2 v3 v4 v5 v6 v7 v8
    subst v1
    refine Still.trans ?_ (still_begin _)
    exact Still.refl _
  have hv8 : Still s v8 := by
    subst v8
    refine Still.trans ?_ (still_norProgram _)
    refine Still.trans ?_ (still_setTgt _ _ _)
    exact hv1
  refine stillA_ite ?_ ?_
  · refine stillA_ite ?_ ?_
    · refine stillA_next ?_
      refine Still.trans ?_ (still_event _ _ _)
      exact hv8
    · refine stillA_next ?_
      exact hv8
  · refine stillA_next ?_
    exact hv1

theorem still_execEraseResume (t : Nat) (s : State) : StillA s (execEraseResume t s) := by
  unfold execEraseResume
  extract_lets v1 v2
  have hv1 : Still s v1 := by
    clear v2
    subst v1
    refine Still.trans ?_ (still_begin _)
    exact Still.refl _
  split
  · extract_lets v3 v4
    refine stillA_ite ?_ ?_
    · refine stillA_next ?_
      refine Still.trans ?_ (still_setTgt _ _ _)
      refine Still.trans ?_ (still_setBlk _ _ _)
      exact hv1
    · refine stillA_next ?_
      exact hv1
  · refine stillA_next ?_
    exact hv1

theorem still_wearUpdate (s : State) : Still s (State.wearUpdate s) := by
  unfold State.wearUpdate
  extract_lets v1 v2 v3 v4
  iterate 3 refine Still.trans ?_ (still_wr _ _ _)
  exact Still.refl _

theorem still_retrySeg (s : State) : Still s (State.retrySeg s) := by
  unfold State.retrySeg
  split
  · refine still_ite ?_ ?_
    · refine Still.trans ?_ (still_startSeg _ _)
      exact Still.refl _
    · refine still_mk ?_
      exact Still.refl _
  · exact Still.refl _

theorem still_growBad (s : State) (b : Nat) : Still s (State.growBad s b) := by
  unfold State.growBad
  extract_lets v1
  refine still_ite ?_ ?_
  · exact Still.refl _
  · refine Still.trans ?_ (still_wearUpdate _)
    refine Still.trans ?_ (still_event _ _ _)
    refine Still.trans ?_ (still_setBlk _ _ _)
    exact Still.refl _

theorem keep_badBlock (s : State) (b : Nat) : Keep s (State.badBlock s b) := by
  unfold State.badBlock
  extract_lets v1
  have hv1 : Keep s v1 := by
    subst v1
    refine Keep.trans ?_ (still_growBad _ _).keep
    exact Keep.refl _
  refine keep_ite ?_ ?_
  · refine Keep.trans ?_ (keep_retire _ _ _)
    exact hv1
  · exact hv1

theorem keep_attemptFail (s : State) (b : Nat) : Keep s (State.attemptFail s b) := by
  unfold State.attemptFail
  extract_lets v1 v2
  have hv2 : Keep s v2 := by
    subst v2
    refine Keep.trans ?_ (still_bump _ _).keep
    exact Keep.refl _
  refine keep_ite ?_ ?_
  · refine Keep.trans ?_ (keep_badBlock _ _)
    exact hv2
  · refine Keep.trans ?_ (still_setBlk _ _ _).keep
    exact hv2

theorem keep_execSealVerify (b : Nat) (flips : List Nat) (s : State) : KeepA s (execSealVerify b flips s) := by
  unfold execSealVerify
  extract_lets v1 v2 v3 v4 v5
  have hv1 : Keep s v1 := by
    clear v2 v3 v4 v5
    subst v1
    refine Keep.trans ?_ (still_begin _).keep
    exact Keep.refl _
  have hv3 : Keep s v3 := by
    clear v4 v5
    subst v3
    refine Keep.trans ?_ (still_setBlk _ _ _).keep
    exact hv1
  have hv5 : Keep s v5 := by
    subst v5
    refine Keep.trans ?_ (still_setBlk _ _ _).keep
    exact hv3
  refine keepA_ite ?_ ?_
  · refine keepA_ite ?_ ?_
    · refine keepA_next ?_
      refine Keep.trans ?_ (still_ceilUpdate _ _).keep
      refine Keep.trans ?_ (keep_attemptFail _ _)
      exact hv1
    · refine keepA_ite ?_ ?_
      · refine keepA_next ?_
        refine Keep.trans ?_ (still_ceilUpdate _ _).keep
        refine Keep.trans ?_ (keep_badBlock _ _)
        exact hv3
      · refine keepA_next ?_
        refine Keep.trans ?_ (still_retrySeg _).keep
        refine Keep.trans ?_ (still_ceilUpdate _ _).keep
        refine Keep.trans ?_ (still_wearUpdate _).keep
        refine Keep.trans ?_ (still_journal _ _ _).keep
        exact hv5
  · refine keepA_next ?_
    exact hv1

theorem still_forgetBlock (s : State) (b : Nat) : Still s (State.forgetBlock s b) := by
  unfold State.forgetBlock
  extract_lets v1 v2 v3
  refine still_mk ?_
  exact Still.refl _

theorem still_protectFault (s : State) (b : Nat) : Still s (State.protectFault s b) := by
  unfold State.protectFault
  refine Still.trans ?_ (still_event _ _ _)
  refine Still.trans ?_ (still_bump _ _)
  exact Still.refl _

theorem keep_execBlockEraseComplete (b : Nat) (ok : Bool) (zeros : List Nat) (s : State) : KeepA s (execBlockEraseComplete b ok zeros s) := by
  unfold execBlockEraseComplete
  extract_lets v1 v2
  have hv1 : Keep s v1 := by
    clear v2
    subst v1
    refine Keep.trans ?_ (still_begin _).keep
    exact Keep.refl _
  have hv2 : Keep s v2 := by
    subst v2
    refine Keep.trans ?_ (still_forgetBlock _ _).keep
    exact hv1
  refine keepA_ite ?_ ?_
  · refine keepA_next ?_
    refine Keep.trans ?_ (still_protectFault _ _).keep
    exact hv1
  · split
    · refine keepA_next ?_
      exact hv1
    · refine keepA_ite ?_ ?_
      · refine keepA_ite ?_ ?_
        · extract_lets v3
          refine keepA_next ?_
          refine Keep.trans ?_ (still_setBlk _ _ _).keep
          exact hv2
        · refine keepA_next ?_
          refine Keep.trans ?_ (still_ceilUpdate _ _).keep
          refine Keep.trans ?_ (keep_attemptFail _ _)
          refine Keep.trans ?_ (still_setBlk _ _ _).keep
          exact hv2
      · refine keepA_next ?_
        exact hv1

theorem keep_saveStrandFail (s : State) (k : Skein) (j : Nat) : Keep s (State.saveStrandFail s k j) := by
  unfold State.saveStrandFail
  extract_lets v1 v2 v3
  have hv3 : Keep s v3 := by
    subst v3
    refine keep_mk ?_
    exact Keep.refl _
  refine keep_ite ?_ ?_
  · refine Keep.trans ?_ (keep_abandon _ _)
    exact hv3
  · exact hv3

theorem keep_programFail (s : State) (k : Skein) (j : Nat) : Keep s (State.programFail s k j) := by
  unfold State.programFail
  split
  · exact Keep.refl _
  · extract_lets v1
    have hv1 : Keep s v1 := by
      subst v1
      refine Keep.trans ?_ (still_event _ _ _).keep
      refine Keep.trans ?_ (still_bump _ _).keep
      exact Keep.refl _
    refine keep_ite ?_ ?_
    · refine Keep.trans ?_ (keep_saveStrandFail _ _ _)
      refine Keep.trans ?_ (still_exclude _ _).keep
      refine Keep.trans ?_ (keep_badBlock _ _)
      exact hv1
    · refine Keep.trans ?_ (keep_badBlock _ _)
      refine Keep.trans ?_ (keep_abandon _ _)
      exact hv1

theorem keep_execStrandProgramFail (gen : Nat) (strand : Nat) (s : State) : KeepA s (execStrandProgramFail gen strand s) := by
  unfold execStrandProgramFail
  extract_lets v1
  have hv1 : Keep s v1 := by
    subst v1
    refine Keep.trans ?_ (still_begin _).keep
    exact Keep.refl _
  split
  · refine keepA_ite ?_ ?_
    · refine keepA_next ?_
      refine Keep.trans ?_ (keep_programFail _ _ _)
      exact hv1
    · refine keepA_next ?_
      exact hv1
  · refine keepA_next ?_
    exact hv1

theorem keep_saveUnresponsive (s : State) (t : Nat) : Keep s (State.saveUnresponsive s t) := by
  unfold State.saveUnresponsive
  refine keep_foldl _ ?_ ?_
  · intro a1 a2
    split
    · split
      · refine Keep.trans ?_ (keep_saveStrandFail _ _ _)
        exact Keep.refl _
      · exact Keep.refl _
    · exact Keep.refl _
  · refine Keep.trans ?_ (still_exclude _ _).keep
    exact Keep.refl _

theorem still_resetLun (s : State) (t : Nat) : Still s (State.resetLun s t) := by
  unfold State.resetLun
  split
  · refine Still.trans ?_ (still_setTgt _ _ _)
    refine Still.trans ?_ (still_setBlk _ _ _)
    exact Still.refl _
  · exact Still.refl _

theorem keep_timedOut (s : State) (t : Nat) (op : Nat) (b : Nat) (gen : Nat) : Keep s (State.timedOut s t op b gen) := by
  unfold State.timedOut
  refine keep_ite ?_ ?_
  · extract_lets v1 v2 v3 v4
    have hv3 : Keep s v3 := by
      clear v4
      subst v3
      refine keep_mk ?_
      exact Keep.refl _
    split
    · refine keep_mk ?_
      exact hv3
    · exact hv3
  · refine keep_ite ?_ ?_
    · refine keep_ite ?_ ?_
      · exact Keep.refl _
      · split
        · split
          · refine Keep.trans ?_ (keep_programFail _ _ _)
            exact Keep.refl _
          · exact Keep.refl _
        · exact Keep.refl _
    · refine keep_ite ?_ ?_
      · refine Keep.trans ?_ (still_bump _ _).keep
        exact Keep.refl _
      · exact Keep.refl _

theorem keep_execCommandTimeout (t : Nat) (op : Nat) (b : Nat) (gen : Nat) (resetDone : Bool) (s : State) : KeepA s (execCommandTimeout t
    op b gen resetDone s) := by
  unfold execCommandTimeout
  extract_lets v1 v2 v3 v4 v5 v6 v7 v8
  have hv1 : Keep s v1 := by
    clear v2 v3 v4 v5 v6 v7 v8
    subst v1
    refine Keep.trans ?_ (still_begin _).keep
    exact Keep.refl _
  have hv4 : Keep s v4 := by
    clear v5 v6 v7 v8
    subst v4
    refine Keep.trans ?_ (still_event _ _ _).keep
    refine Keep.trans ?_ (still_bump _ _).keep
    refine Keep.trans ?_ (still_setTgt _ _ _).keep
    exact hv1
  have hv5 : Keep s v5 := by
    clear v6 v7 v8
    subst v5
    refine Keep.trans ?_ (keep_timedOut _ _ _ _ _)
    refine Keep.trans ?_ (still_resetLun _ _).keep
    exact hv4
  have hv6 : Keep s v6 := by
    clear v7 v8
    subst v6
    refine keep_ite ?_ ?_
    · refine Keep.trans ?_ (keep_saveUnresponsive _ _)
      exact hv5
    · exact hv5
  have hv7 : Keep s v7 := by
    clear v8
    subst v7
    refine keep_ite ?_ ?_
    · refine Keep.trans ?_ (keep_retire _ _ _)
      exact hv6
    · exact hv6
  have hv8 : Keep s v8 := by
    subst v8
    refine keep_forEach _ ?_ ?_
    · intro a9 a10
      refine Keep.trans ?_ (keep_retire _ _ _)
      exact Keep.refl _
    · exact hv7
  refine keepA_ite ?_ ?_
  · refine keepA_next ?_
    exact hv1
  · refine keepA_ite ?_ ?_
    · refine keepA_next ?_
      refine Keep.trans ?_ (still_sendFetches _).keep
      refine Keep.trans ?_ (still_ceilUpdate _ _).keep
      refine keep_ite ?_ ?_
      · exact hv8
      · refine Keep.trans ?_ (still_endChan _ _ _).keep
        exact hv8
    · refine keepA_next ?_
      refine Keep.trans ?_ (still_sendFetches _).keep
      exact hv7

theorem still_execZqCalibration (a0 : Nat) (s : State) : StillA s (execZqCalibration a0 s) := by
  unfold execZqCalibration
  refine stillA_next ?_
  refine Still.trans ?_ (still_begin _)
  exact Still.refl _

theorem still_dieGeo (s : State) (g : Nat × Nat) : Still s (State.dieGeo s g) := by
  unfold State.dieGeo
  refine still_mk ?_
  exact Still.refl _

theorem still_findVolume (s : State) (dies : List (Nat × Nat × Nat × Nat)) (x : Nat) : Still s (State.findVolume s dies x) := by
  unfold State.findVolume
  extract_lets v1
  split
  · dsimp only [v1]
    refine still_ite ?_ ?_
    · refine Still.trans ?_ (still_event _ _ _)
      exact Still.refl _
    · refine Still.trans ?_ (still_setTgt _ _ _)
      refine Still.trans ?_ (still_event _ _ _)
      exact Still.refl _
  · refine still_ite ?_ ?_
    · dsimp only [v1]
      refine still_ite ?_ ?_
      · refine Still.trans ?_ (still_event _ _ _)
        exact Still.refl _
      · refine Still.trans ?_ (still_setTgt _ _ _)
        refine Still.trans ?_ (still_event _ _ _)
        exact Still.refl _
    · extract_lets v2 v3
      have hv2 : Still s v2 := by
        clear v3
        subst v2
        refine Still.trans ?_ (still_dieGeo _ _)
        exact Still.refl _
      refine still_ite ?_ ?_
      · exact hv2
      · refine Still.trans ?_ (still_setTgt _ _ _)
        exact hv2

theorem still_findVolumes (s : State) (c : Nat) (dies : List (Nat × Nat × Nat × Nat)) (found : List (Nat × Nat × Nat × Nat)) : Still s
    (State.findVolumes s c dies found) := by
  unfold State.findVolumes
  extract_lets v1
  have hv1 : Still s v1 := by
    subst v1
    refine still_forEach _ ?_ ?_
    · intro a2 a3
      refine Still.trans ?_ (still_findVolume _ _ _)
      exact Still.refl _
    · exact Still.refl _
  refine still_foldl _ ?_ ?_
  · intro a4 a5
    refine still_ite ?_ ?_
    · refine still_mk ?_
      exact Still.refl _
    · exact Still.refl _
  · exact hv1

theorem keep_execFlashTrainingComplete (c : Nat) (rate : Option Nat) (dies : List (Nat × Nat × Nat × Nat)) (failed : List Nat) (found :
    List (Nat × Nat × Nat × Nat)) (s : State) : KeepA s (execFlashTrainingComplete c rate dies failed found s) := by
  unfold execFlashTrainingComplete
  extract_lets v1 v2 v3 v4 v5
  have hv1 : Keep s v1 := by
    clear v2 v3 v4 v5
    subst v1
    refine Keep.trans ?_ (still_begin _).keep
    exact Keep.refl _
  have hv2 : Keep s v2 := by
    clear v3 v4 v5
    subst v2
    refine Keep.trans ?_ (still_findVolumes _ _ _ _).keep
    exact hv1
  have hv4 : Keep s v4 := by
    clear v5
    subst v4
    refine Keep.trans ?_ (still_setChan _ _ _).keep
    exact hv2
  have hv5 : Keep s v5 := by
    subst v5
    refine keep_forEach _ ?_ ?_
    · intro a6 a7
      refine Keep.trans ?_ (keep_retire _ _ _)
      exact Keep.refl _
    · exact hv2
  refine keepA_ite ?_ ?_
  · refine keepA_next ?_
    exact hv1
  · refine keepA_ite ?_ ?_
    · refine keepA_next ?_
      refine Keep.trans ?_ (keep_imageStep _)
      refine keep_ite ?_ ?_
      · exact hv4
      · refine Keep.trans ?_ (still_setDom _ _ _).keep
        exact hv4
    · split
      · refine keepA_next ?_
        refine Keep.trans ?_ (keep_imageStep _)
        refine Keep.trans ?_ (still_ceilUpdate _ _).keep
        refine keep_ite ?_ ?_
        · exact hv5
        · refine Keep.trans ?_ (still_endChan _ _ _).keep
          exact hv5
      · extract_lets v8 v9 v10 v11
        have hv9 : Keep s v9 := by
          clear v10 v11
          subst v9
          refine Keep.trans ?_ (still_event _ _ _).keep
          refine Keep.trans ?_ (still_setChan _ _ _).keep
          exact hv2
        have hv11 : Keep s v11 := by
          subst v11
          refine keep_forEach _ ?_ ?_
          · intro a12 a13
            refine Keep.trans ?_ (keep_retire _ _ _)
            refine Keep.trans ?_ (still_event _ _ _).keep
            exact Keep.refl _
          · exact hv9
        refine keepA_next ?_
        refine Keep.trans ?_ (still_updReady _).keep
        refine Keep.trans ?_ (keep_imageStep _)
        refine Keep.trans ?_ (still_ceilUpdate _ _).keep
        refine Keep.trans ?_ (still_wearUpdate _).keep
        exact hv11

theorem still_moduleTemp (s : State) (c : Nat) (r : Option Int) : Still s (State.moduleTemp s c r) := by
  unfold State.moduleTemp
  split
  · refine Still.trans ?_ (still_setMch _ _ _)
    exact Still.refl _
  · extract_lets v1 v2
    have hv2 : Still s v2 := by
      subst v2
      refine Still.trans ?_ (still_setMch _ _ _)
      exact Still.refl _
    refine still_ite ?_ ?_
    · refine Still.trans ?_ (still_event _ _ _)
      exact hv2
    · exact hv2

theorem still_execModuleTemperaturePoll (temps : List (Option Int)) (s : State) : StillA s (execModuleTemperaturePoll temps s) := by
  unfold execModuleTemperaturePoll
  extract_lets v1 v2
  have hv1 : Still s v1 := by
    clear v2
    subst v1
    refine Still.trans ?_ (still_begin _)
    exact Still.refl _
  have hv2 : Still s v2 := by
    subst v2
    refine still_forEach _ ?_ ?_
    · intro a3 a4
      refine Still.trans ?_ (still_busFree _ _)
      exact Still.refl _
    · exact hv1
  refine stillA_ite ?_ ?_
  · refine stillA_next ?_
    refine Still.trans ?_ (still_settleAttn _)
    refine still_foldl _ ?_ ?_
    · intro a5 a6
      refine Still.trans ?_ (still_moduleTemp _ _ _)
      exact Still.refl _
    · exact hv2
  · refine stillA_next ?_
    exact hv1

theorem still_execSparePointerCheckpoint (ptr : Nat) (s : State) : StillA s (execSparePointerCheckpoint ptr s) := by
  unfold execSparePointerCheckpoint
  extract_lets v1 v2 v3 v4
  have hv1 : Still s v1 := by
    clear v2 v3 v4
    subst v1
    refine Still.trans ?_ (still_begin _)
    exact Still.refl _
  refine stillA_ite ?_ ?_
  · refine stillA_next ?_
    refine Still.trans ?_ (still_wr _ _ _)
    refine still_mk ?_
    exact hv1
  · refine stillA_next ?_
    exact hv1

theorem still_spareDone (s : State) (c : Nat) (r : Nat) : Still s (State.spareDone s c r) := by
  unfold State.spareDone
  extract_lets v1 v2 v3 v4
  have hv2 : Still s v2 := by
    clear v3 v4
    subst v2
    refine Still.trans ?_ (still_setMch _ _ _)
    exact Still.refl _
  have hv3 : Still s v3 := by
    clear v4
    subst v3
    refine Still.trans ?_ (still_wr _ _ _)
    refine Still.trans ?_ (still_wr _ _ _)
    exact hv2
  refine Still.trans ?_ (still_dramEvent _ _ _)
  refine Still.trans ?_ (still_event _ _ _)
  refine still_mk ?_
  exact hv3

theorem still_execRankSpareCopyEnd (s : State) : StillA s (execRankSpareCopyEnd s) := by
  unfold execRankSpareCopyEnd
  extract_lets v1
  have hv1 : Still s v1 := by
    subst v1
    refine Still.trans ?_ (still_begin _)
    exact Still.refl _
  refine stillA_ite ?_ ?_
  · refine stillA_next ?_
    refine Still.trans ?_ (still_spareDone _ _ _)
    exact hv1
  · refine stillA_next ?_
    exact hv1

theorem keep_fillUnit (s : State) (u : Nat) (x : Slot) : Keep s (State.fillUnit s u x) := by
  unfold State.fillUnit
  extract_lets v1 v2 v3 v4 v5 v6
  have hv3 : Keep s v3 := by
    clear v4 v5 v6
    subst v3
    refine keep_mkc ?_ fun h => ⟨foldl_memPut_wf _ _ (memZero_wf _ _ h.1), h.2⟩
    exact Keep.refl _
  have hv4 : Keep s v4 := by
    clear v5 v6
    subst v4
    refine keep_foldl _ ?_ ?_
    · intro a7 a8
      refine Keep.trans ?_ (keep_poisonLine _ _ _)
      exact Keep.refl _
    · exact hv3
  have hv5 : Keep s v5 := by
    clear v6
    subst v5
    refine keep_foldl _ ?_ ?_
    · intro a9 a10
      refine Keep.trans ?_ (keep_poisonLine _ _ _)
      exact Keep.refl _
    · exact hv4
  refine Keep.trans ?_ (still_prunePoison _).keep
  refine keep_mk ?_
  exact hv5

theorem still_refresh (s : State) (b : Nat) (m : Nat) : Still s (State.refresh s b m) := by
  unfold State.refresh
  refine still_ite ?_ ?_
  · exact Still.refl _
  · extract_lets v1 v2 v3
    have hv2 : Still s v2 := by
      clear v3
      subst v2
      refine Still.trans ?_ (still_bump _ _)
      refine Still.trans ?_ (still_setBlk _ _ _)
      exact Still.refl _
    refine still_ite ?_ ?_
    · exact hv2
    · refine still_mk ?_
      exact hv2

theorem still_strandReads (s : State) (k : Skein) (j : Nat) (n : Nat) (flips : List Nat) : Still s (State.strandReads s k j n flips) := by
  unfold State.strandReads
  split
  · exact Still.refl _
  · extract_lets v1 v2 v3
    have hv3 : Still s v3 := by
      subst v3
      refine Still.trans ?_ (still_setBlk _ _ _)
      exact Still.refl _
    refine still_ite ?_ ?_
    · refine Still.trans ?_ (still_refresh _ _ _)
      exact hv3
    · exact hv3

theorem still_rebuildReads (s : State) (k : Skein) (j : Nat) : Still s (State.rebuildReads s k j) := by
  unfold State.rebuildReads
  refine still_forEach _ ?_ ?_
  · intro a1 a2
    refine Still.trans ?_ (still_strandReads _ _ _ _ _)
    exact Still.refl _
  · exact Still.refl _

theorem still_strandRebuilt (s : State) (k : Skein) (j : Nat) : Still s (State.strandRebuilt s k j) := by
  unfold State.strandRebuilt
  extract_lets v1 v2
  refine Still.trans ?_ (still_event _ _ _)
  refine Still.trans ?_ (still_bump _ _)
  refine still_mk ?_
  exact Still.refl _

theorem still_tryRebuild (s : State) (k : Skein) (j : Nat) (others : List Nat) : StillP s (State.tryRebuild s k j others) := by
  unfold State.tryRebuild
  refine stillP_ite ?_ ?_
  · refine stillP_mk ?_
    refine Still.trans ?_ (still_strandRebuilt _ _ _)
    refine Still.trans ?_ (still_rebuildReads _ _ _)
    exact Still.refl _
  · refine stillP_mk ?_
    exact Still.refl _

theorem still_fetchRead (s : State) (atOnce : Bool) (k : Skein) (j : Nat) (flips : List Nat) (others : List Nat) : StillP s
    (State.fetchRead s atOnce k j flips others) := by
  unfold State.fetchRead
  extract_lets v1 v2
  have hv2 : Still s v2 := by
    subst v2
    refine still_ite ?_ ?_
    · refine Still.trans ?_ (still_strandReads _ _ _ _ _)
      exact Still.refl _
    · exact Still.refl _
  refine stillP_ite ?_ ?_
  · refine stillP_mk ?_
    exact hv2
  · refine Still.trans ?_ (still_tryRebuild _ _ _ _)
    exact hv2

theorem keep_execHealComplete (u : Nat) (flips : List Nat) (others : List Nat) (bad : Bool) (s : State) : KeepA s (execHealComplete u flips
    others bad s) := by
  unfold execHealComplete
  extract_lets v1 v2 v3
  have hv1 : Keep s v1 := by
    clear v2 v3
    subst v1
    refine Keep.trans ?_ (still_begin _).keep
    exact Keep.refl _
  have hv3 : Keep s v3 := by
    subst v3
    refine keep_mk ?_
    exact hv1
  refine keepA_ite ?_ ?_
  · refine keepA_next ?_
    exact hv1
  · refine keepA_ite ?_ ?_
    · refine keepA_next ?_
      exact hv3
    · split
      · refine keepA_next ?_
        exact hv3
      · split
        rename_i w4 w5 w6 w7
        have hw5 : Keep s w5 := by
          refine keep_fst ?_ w7
          refine Keep.trans ?_ (still_fetchRead _ _ _ _ _ _).keep
          exact hv3
        refine keepA_ite ?_ ?_
        · refine keepA_next ?_
          refine Keep.trans ?_ (still_event _ _ _).keep
          exact hw5
        · refine keepA_next ?_
          refine Keep.trans ?_ (still_mediaEvent _ _ _).keep
          refine Keep.trans ?_ (still_bump _ _).keep
          refine Keep.trans ?_ (keep_fillUnit _ _ _)
          exact hw5

theorem keep_reserveError (s : State) (dpa : Nat) (e : ReserveError) : Keep s (State.reserveError s dpa e) := by
  unfold State.reserveError
  extract_lets v1 v2 v3 v4 v5 v6 v7
  have hv4 : Keep s v4 := by
    clear v5 v6 v7
    subst v4
    refine Keep.trans ?_ (still_event _ _ _).keep
    refine Keep.trans ?_ (still_bump _ _).keep
    refine Keep.trans ?_ (still_setMch _ _ _).keep
    exact Keep.refl _
  have hv5 : Keep s v5 := by
    clear v6 v7
    subst v5
    refine keep_forEach _ ?_ ?_
    · intro a8 a9
      refine Keep.trans ?_ (still_cxlEvent _ _ _ _ _).keep
      exact Keep.refl _
    · exact hv4
  split
  · split
    · refine keep_ite ?_ ?_
      · refine Keep.trans ?_ (still_settleMr _).keep
        refine Keep.trans ?_ (keep_setUnit _ _ _)
        exact hv5
      · exact hv5
    · exact hv5
  · split
    · refine Keep.trans ?_ (still_finish _ _ _ _ _).keep
      exact hv5
    · exact hv5
  · refine keep_mk ?_
    exact hv5
  · refine keep_ite ?_ ?_
    · refine keep_mk ?_
      exact hv5
    · exact hv5
  · exact hv5

theorem still_markDevice (s : State) (c : Nat) (r : Nat) (sub : Nat) (d : Nat) : Still s (State.markDevice s c r sub d) := by
  unfold State.markDevice
  extract_lets v1 v2
  refine still_ite ?_ ?_
  · refine Still.trans ?_ (still_dramEvent _ _ _)
    refine Still.trans ?_ (still_event _ _ _)
    refine Still.trans ?_ (still_setMch _ _ _)
    exact Still.refl _
  · refine still_ite ?_ ?_
    · exact Still.refl _
    · refine still_ite ?_ ?_
      · refine Still.trans ?_ (still_startSpare _ _ _)
        exact Still.refl _
      · refine Still.trans ?_ (still_settleAttn _)
        refine Still.trans ?_ (still_latchAttn _ _)
        refine Still.trans ?_ (still_event _ _ _)
        exact Still.refl _

theorem still_repairRow (s : State) (c : Nat) (r : Nat) (sub : Nat) (d : Nat) (row : Nat) : Still s (State.repairRow s c r sub d row) := by
  unfold State.repairRow
  extract_lets v1
  refine still_ite ?_ ?_
  · exact Still.refl _
  · refine Still.trans ?_ (still_dramEvent _ _ _)
    refine Still.trans ?_ (still_event _ _ _)
    refine Still.trans ?_ (still_setMch _ _ _)
    exact Still.refl _

theorem still_deviceError (s : State) (line : Nat) (d : Nat) (row : Nat) (pat : Bool) : Still s (State.deviceError s line d row pat) := by
  unfold State.deviceError
  extract_lets v1 v2 v3 v4 v5 v6 v7 v8 v9
  have hv8 : Still s v8 := by
    clear v9
    subst v8
    refine still_mk ?_
    exact Still.refl _
  have hv9 : Still s v9 := by
    subst v9
    refine still_ite ?_ ?_
    · refine Still.trans ?_ (still_repairRow _ _ _ _ _ _)
      exact hv8
    · exact hv8
  refine still_ite ?_ ?_
  · refine Still.trans ?_ (still_markDevice _ _ _ _ _)
    exact hv9
  · exact hv9

theorem still_correctedLine (s : State) (line : Nat) (row : Nat) (ds : List (Nat × Bool)) : Still s (State.correctedLine s line row ds) := by
  unfold State.correctedLine
  extract_lets v1 v2 v3 v4 v5 v6
  have hv3 : Still s v3 := by
    clear v4 v5 v6
    subst v3
    refine Still.trans ?_ (still_bump _ _)
    refine Still.trans ?_ (still_setMch _ _ _)
    exact Still.refl _
  have hv6 : Still s v6 := by
    subst v6
    refine still_mk ?_
    exact hv3
  refine still_foldl _ ?_ ?_
  · intro a7 a8
    refine Still.trans ?_ (still_deviceError _ _ _ _ _)
    exact Still.refl _
  · exact hv6

theorem keep_lineRead (s : State) (line : Nat) (e : LineError) : Keep s (State.lineRead s line e) := by
  unfold State.lineRead
  refine keep_ite ?_ ?_
  · refine Keep.trans ?_ (keep_uncorrectableLine _ _)
    exact Keep.refl _
  · split
    · refine Keep.trans ?_ (still_correctedLine _ _ _ _).keep
      exact Keep.refl _
    · exact Keep.refl _

theorem keep_execPatrolScrub (found : List (Nat × LineError)) (reserve : List (Nat × ReserveError)) (s : State) : KeepA s (execPatrolScrub
    found reserve s) := by
  unfold execPatrolScrub
  extract_lets v1 v2 v3 v4 v5 v6
  have hv1 : Keep s v1 := by
    clear v2 v3 v4 v5 v6
    subst v1
    refine Keep.trans ?_ (still_begin _).keep
    exact Keep.refl _
  have hv4 : Keep s v4 := by
    clear v5 v6
    subst v4
    refine keep_ite ?_ ?_
    · refine Keep.trans ?_ (still_event _ _ _).keep
      exact hv1
    · exact hv1
  have hv5 : Keep s v5 := by
    clear v6
    subst v5
    refine Keep.trans ?_ (still_wr _ _ _).keep
    refine Keep.trans ?_ (still_wr _ _ _).keep
    exact hv4
  have hv6 : Keep s v6 := by
    subst v6
    refine keep_foldl _ ?_ ?_
    · intro a7 a8
      refine Keep.trans ?_ (keep_lineRead _ _ _)
      exact Keep.refl _
    · exact hv5
  refine keepA_ite ?_ ?_
  · refine keepA_next ?_
    exact hv1
  · refine keepA_next ?_
    refine Keep.trans ?_ (still_bump _ _).keep
    refine keep_foldl _ ?_ ?_
    · intro a9 a10
      refine Keep.trans ?_ (keep_reserveError _ _ _)
      exact Keep.refl _
    · exact hv6

theorem still_execMemoryLinkError (c : Nat) (cause : Nat) (tries : Nat) (retrained : Bool) (s : State) : StillA s (execMemoryLinkError c
    cause tries retrained s) := by
  unfold execMemoryLinkError
  extract_lets v1 v2 v3 v4 v5 v6
  have hv1 : Still s v1 := by
    clear v2 v3 v4 v5 v6
    subst v1
    refine Still.trans ?_ (still_begin _)
    exact Still.refl _
  have hv4 : Still s v4 := by
    clear v5 v6
    subst v4
    refine Still.trans ?_ (still_event _ _ _)
    exact hv1
  have hv6 : Still s v6 := by
    subst v6
    refine Still.trans ?_ (still_event _ _ _)
    refine Still.trans ?_ (still_setMch _ _ _)
    exact hv4
  refine stillA_ite ?_ ?_
  · refine stillA_next ?_
    exact hv1
  · refine stillA_ite ?_ ?_
    · refine stillA_next ?_
      refine Still.trans ?_ (still_setMch _ _ _)
      exact hv1
    · refine stillA_ite ?_ ?_
      · refine stillA_next ?_
        refine Still.trans ?_ (still_setMch _ _ _)
        exact hv4
      · refine stillA_ite ?_ ?_
        · refine stillA_next ?_
          refine Still.trans ?_ (still_updReady _)
          refine Still.trans ?_ (still_setBit _ _ _ _)
          refine Still.trans ?_ (still_setBit _ _ _ _)
          exact hv6
        · refine stillA_next ?_
          refine Still.trans ?_ (still_setMch _ _ _)
          exact hv4

theorem still_spareResume (s : State) : Still s (State.spareResume s) := by
  unfold State.spareResume
  split
  · exact Still.refl _
  · refine still_ite ?_ ?_
    · refine Still.trans ?_ (still_wr _ _ _)
      refine Still.trans ?_ (still_wr _ _ _)
      refine Still.trans ?_ (still_wr _ _ _)
      exact Still.refl _
    · refine Still.trans ?_ (still_spareDone _ _ _)
      exact Still.refl _

theorem still_hardRepair (s : State) (c : Nat) : Still s (State.hardRepair s c) := by
  unfold State.hardRepair
  extract_lets v1 v2 v3
  have hv3 : Still s v3 := by
    subst v3
    refine Still.trans ?_ (still_setMch _ _ _)
    exact Still.refl _
  refine still_foldl _ ?_ ?_
  · intro a4 a5
    refine Still.trans ?_ (still_dramEvent _ _ _)
    refine Still.trans ?_ (still_event _ _ _)
    exact Still.refl _
  · exact hv3

theorem keep_execMemoryTrainingComplete (rate : Option Nat) (cap : Nat) (ranks : Nat) (good : List Nat) (s : State) : KeepA s
    (execMemoryTrainingComplete rate cap ranks good s) := by
  unfold execMemoryTrainingComplete
  extract_lets v1 v2 v3 v4 v5
  have hv1 : Keep s v1 := by
    clear v2 v3 v4 v5
    subst v1
    refine Keep.trans ?_ (still_begin _).keep
    exact Keep.refl _
  have hv3 : Keep s v3 := by
    clear v4 v5
    subst v3
    refine keep_ite ?_ ?_
    · refine Keep.trans ?_ (still_wr _ _ _).keep
      refine Keep.trans ?_ (still_event _ _ _).keep
      exact hv1
    · exact hv1
  have hv5 : Keep s v5 := by
    subst v5
    refine keep_forEach _ ?_ ?_
    · intro a6 a7
      extract_lets v8 v9
      have hv9 : Keep a6 v9 := by
        subst v9
        refine Keep.trans ?_ (still_setMch _ _ _).keep
        exact Keep.refl _
      refine keep_ite ?_ ?_
      · exact hv9
      · refine Keep.trans ?_ (still_hardRepair _ _).keep
        exact hv9
    · exact hv3
  refine keepA_ite ?_ ?_
  · refine keepA_next ?_
    exact hv1
  · split
    · refine keepA_next ?_
      refine Keep.trans ?_ (still_enterRecoveryPhase _ _).keep
      refine Keep.trans ?_ (still_event _ _ _).keep
      exact hv1
    · extract_lets v10 v11 v12
      have hv10 : Keep s v10 := by
        clear v11 v12
        subst v10
        iterate 3 refine Keep.trans ?_ (still_wr _ _ _).keep
        exact hv5
      have hv12 : Keep s v12 := by
        subst v12
        refine keep_mk ?_
        exact hv10
      refine keepA_next ?_
      refine Keep.trans ?_ (keep_imageStep _)
      refine Keep.trans ?_ (still_updReady _).keep
      refine Keep.trans ?_ (still_spareResume _).keep
      exact hv12

theorem still_patchOut (s : State) (line : Nat) : Still s (State.patchOut s line) := by
  unfold State.patchOut
  split
  · exact Still.refl _
  · refine still_ite ?_ ?_
    · exact Still.refl _
    · extract_lets v1 v2 v3
      refine still_mk ?_
      exact Still.refl _

theorem keep_mergeWaits (s : State) (u : Nat) : Keep s (State.mergeWaits s u) := by
  unfold State.mergeWaits
  extract_lets v1 v2 v3
  have hv3 : Keep s v3 := by
    subst v3
    refine keep_mk ?_
    exact Keep.refl _
  refine keep_foldl _ ?_ ?_
  · intro a4 a5
    extract_lets v6
    have hv6 : Keep a4 v6 := by
      subst v6
      refine Keep.trans ?_ (keep_storeLine _ _ _ _ _)
      exact Keep.refl _
    refine keep_ite ?_ ?_
    · exact hv6
    · refine Keep.trans ?_ (still_patchOut _ _).keep
      exact hv6
  · exact hv3

theorem still_loseUnit (s : State) (u : Nat) (cause : Nat) : Still s (State.loseUnit s u cause) := by
  unfold State.loseUnit
  extract_lets v1 v2 v3 v4
  have hv3 : Still s v3 := by
    clear v4
    subst v3
    refine still_mk ?_
    exact Still.refl _
  have hv4 : Still s v4 := by
    subst v4
    refine still_ite ?_ ?_
    · refine Still.trans ?_ (still_bump _ _)
      exact hv3
    · refine Still.trans ?_ (still_bump _ _)
      exact hv3
  refine Still.trans ?_ (still_lostLines _ _ _)
  refine Still.trans ?_ (still_event _ _ _)
  exact hv4

theorem keep_poisonUnit (s : State) (u : Nat) : Keep s (State.poisonUnit s u) := by
  unfold State.poisonUnit
  refine Keep.trans ?_ (still_listPoison _ _ _ _).keep
  refine keep_mk ?_
  exact Keep.refl _

theorem keep_installUnit (s : State) (u : Nat) (cause : Nat) (x : Slot) : Keep s (State.installUnit s u cause x) := by
  unfold State.installUnit
  extract_lets v1 v2 v3 v4
  have hv1 : Keep s v1 := by
    clear v2 v3 v4
    subst v1
    refine keep_ite ?_ ?_
    · refine Keep.trans ?_ (keep_poisonUnit _ _)
      exact Keep.refl _
    · refine keep_ite ?_ ?_
      · refine Keep.trans ?_ (keep_fillUnit _ _ _)
        exact Keep.refl _
      · refine Keep.trans ?_ (keep_poisonUnit _ _)
        refine Keep.trans ?_ (still_loseUnit _ _ _).keep
        exact Keep.refl _
  have hv2 : Keep s v2 := by
    clear v3 v4
    subst v2
    refine Keep.trans ?_ (still_bump _ _).keep
    refine Keep.trans ?_ (still_setPresent _ _).keep
    exact hv1
  have hv4 : Keep s v4 := by
    subst v4
    refine keep_mk ?_
    exact hv2
  refine Keep.trans ?_ (keep_mergeWaits _ _)
  exact hv4

theorem still_readTime (s : State) (k : Nat) (wait : Nat) : Still s (State.readTime s k wait) := by
  unfold State.readTime
  refine Still.trans ?_ (still_wri _ _ _ _)
  exact Still.refl _

theorem still_answerPoison (s : State) (k : Nat) : Still s (State.answerPoison s k) := by
  unfold State.answerPoison
  refine Still.trans ?_ (still_bumpi _ _ _)
  refine Still.trans ?_ (still_skipFree _)
  refine Still.trans ?_ (still_send _ _)
  exact Still.refl _

theorem still_endFetch (s : State) (u : Nat) (us : Nat) (lost : Bool) : Still s (State.endFetch s u us lost) := by
  unfold State.endFetch
  split
  · exact Still.refl _
  · extract_lets v1 v2 v3 v4
    have hv2 : Still s v2 := by
      clear v3 v4
      subst v2
      refine still_mk ?_
      exact Still.refl _
    have hv3 : Still s v3 := by
      clear v4
      subst v3
      refine Still.trans ?_ (still_wr _ _ _)
      refine Still.trans ?_ (still_bump _ _)
      refine Still.trans ?_ (still_wr _ _ _)
      exact hv2
    have hv4 : Still s v4 := by
      subst v4
      refine still_ite ?_ ?_
      · refine Still.trans ?_ (still_event _ _ _)
        exact hv3
      · exact hv3
    refine Still.trans ?_ (still_sendFetches _)
    refine still_foldl _ ?_ ?_
    · intro a5 a6
      refine still_ite ?_ ?_
      · exact Still.refl _
      · refine still_ite ?_ ?_
        · refine Still.trans ?_ (still_answerPoison _ _)
          refine Still.trans ?_ (still_readTime _ _ _)
          exact Still.refl _
        · refine Still.trans ?_ (still_send _ _)
          refine Still.trans ?_ (still_readTime _ _ _)
          exact Still.refl _
    · exact hv4

theorem keep_execDemandFetchComplete (u : Nat) (flips : List Nat) (others : List Nat) (bad : Bool) (us : Nat) (s : State) : KeepA s
    (execDemandFetchComplete u flips others bad us s) := by
  unfold execDemandFetchComplete
  extract_lets v1
  have hv1 : Keep s v1 := by
    subst v1
    refine Keep.trans ?_ (still_begin _).keep
    exact Keep.refl _
  split
  · refine keepA_next ?_
    exact hv1
  · refine keepA_ite ?_ ?_
    · refine keepA_next ?_
      exact hv1
    · refine keepA_ite ?_ ?_
      · refine keepA_next ?_
        refine Keep.trans ?_ (still_endFetch _ _ _ _).keep
        exact hv1
      · split
        · refine keepA_next ?_
          refine Keep.trans ?_ (still_endFetch _ _ _ _).keep
          refine Keep.trans ?_ (keep_mergeWaits _ _)
          refine Keep.trans ?_ (still_setPresent _ _).keep
          exact hv1
        · refine keepA_ite ?_ ?_
          · extract_lets v2
            have hv2 : Keep s v2 := by
              subst v2
              refine Keep.trans ?_ (still_endFetch _ _ _ _).keep
              refine Keep.trans ?_ (keep_installUnit _ _ _ _)
              exact hv1
            refine keepA_ite ?_ ?_
            · refine keepA_next ?_
              refine Keep.trans ?_ (still_streamEnd _).keep
              exact hv2
            · refine keepA_next ?_
              refine Keep.trans ?_ (still_settleShares _).keep
              exact hv2
          · split
            rename_i w3 w4 w5 w6
            have hw4 : Keep s w4 := by
              refine keep_fst ?_ w6
              refine Keep.trans ?_ (still_fetchRead _ _ _ _ _ _).keep
              exact hv1
            refine keepA_ite ?_ ?_
            · refine keepA_next ?_
              refine Keep.trans ?_ (still_endFetch _ _ _ _).keep
              refine keep_mk ?_
              exact hw4
            · extract_lets v7
              have hv7 : Keep s v7 := by
                subst v7
                refine Keep.trans ?_ (still_endFetch _ _ _ _).keep
                refine Keep.trans ?_ (keep_installUnit _ _ _ _)
                exact hw4
              refine keepA_ite ?_ ?_
              · refine keepA_next ?_
                refine Keep.trans ?_ (still_streamEnd _).keep
                exact hv7
              · refine keepA_next ?_
                refine Keep.trans ?_ (still_settleShares _).keep
                exact hv7

theorem keep_eagerSlot (s : State) (k : Skein) (j : Nat) (held : Bool) (bad : List Nat) (q : Nat) : Keep s (State.eagerSlot s k j held bad
    q) := by
  unfold State.eagerSlot
  split
  · refine keep_ite ?_ ?_
    · refine Keep.trans ?_ (keep_installUnit _ _ _ _)
      exact Keep.refl _
    · exact Keep.refl _
  · exact Keep.refl _

theorem keep_notIntact (s : State) (k : Skein) (j : Nat) : Keep s (State.notIntact s k j) := by
  unfold State.notIntact
  split
  · exact Keep.refl _
  · extract_lets v1 v2 v3 v4
    have hv3 : Keep s v3 := by
      clear v4
      subst v3
      refine Keep.trans ?_ (still_bump _ _).keep
      refine Keep.trans ?_ (still_setTgt _ _ _).keep
      exact Keep.refl _
    have hv4 : Keep s v4 := by
      subst v4
      refine Keep.trans ?_ (still_event _ _ _).keep
      exact hv3
    refine keep_ite ?_ ?_
    · refine Keep.trans ?_ (keep_retire _ _ _)
      exact hv4
    · exact hv4

theorem keep_retryRead (s : State) (k : Skein) (j : Nat) (reads : List (List Nat)) : KeepP s (State.retryRead s k j reads) := by
  unfold State.retryRead
  split
  rename_i w1 w2 w3 w4 w5
  refine keepP_ite ?_ ?_
  · refine keepP_mk ?_
    exact Keep.refl _
  · extract_lets v6 v7 v8 v9 v10
    have hv6 : Keep s v6 := by
      clear v7 v8 v9 v10
      subst v6
      refine keep_ite ?_ ?_
      · exact Keep.refl _
      · refine Keep.trans ?_ (still_bump _ _).keep
        refine Keep.trans ?_ (still_bump _ _).keep
        exact Keep.refl _
    have hv7 : Keep s v7 := by
      clear v8 v9 v10
      subst v7
      refine Keep.trans ?_ (still_strandReads _ _ _ _ _).keep
      exact hv6
    have hv10 : Keep s v10 := by
      subst v10
      refine keep_mk ?_
      exact hv7
    refine keepP_mk ?_
    refine keep_ite ?_ ?_
    · exact hv10
    · refine Keep.trans ?_ (keep_notIntact _ _ _)
      exact hv10

theorem keep_execEagerReadComplete (gen : Nat) (strand : Nat) (reads : List (List Nat)) (others : List Nat) (bad : List Nat) (s : State) :
    KeepA s (execEagerReadComplete gen strand reads others bad s) := by
  unfold execEagerReadComplete
  extract_lets v1
  have hv1 : Keep s v1 := by
    subst v1
    refine Keep.trans ?_ (still_begin _).keep
    exact Keep.refl _
  split
  · refine keepA_next ?_
    exact hv1
  · refine keepA_ite ?_ ?_
    · split
      rename_i w2 w3 w4 w5
      have hw3 : Keep s w3 := by
        refine keep_fst ?_ w5
        refine Keep.trans ?_ (keep_retryRead _ _ _ _)
        exact hv1
      split
      rename_i w6 w7 w8 w9
      have hw7 : Keep s w7 := by
        refine keep_fst ?_ w9
        show KeepP _ _
        refine keepP_ite ?_ ?_
        · refine keepP_mk ?_
          exact hw3
        · refine Keep.trans ?_ (still_tryRebuild _ _ _ _).keep
          exact hw3
      refine keepA_next ?_
      refine Keep.trans ?_ (still_settleShares _).keep
      refine keep_forEach _ ?_ ?_
      · intro a10 a11
        refine Keep.trans ?_ (keep_eagerSlot _ _ _ _ _ _)
        exact Keep.refl _
      · exact hw7
    · refine keepA_next ?_
      exact hv1

theorem keep_openData (s : State) : Keep s (State.openData s) := by
  unfold State.openData
  extract_lets v1 v2 v3 v4 v5 v6 v7 v8 v9 v10 v11 v12 v13 v14 v15 v16
  have hv8 : Keep s v8 := by
    clear v9 v10 v11 v12 v13 v14 v15 v16
    subst v8
    refine keep_mk ?_
    exact Keep.refl _
  have hv11 : Keep s v11 := by
    clear v12 v13 v14 v15 v16
    subst v11
    refine Keep.trans ?_ (still_prunePoison _).keep
    refine keep_mk ?_
    exact hv8
  have hv13 : Keep s v13 := by
    clear v14 v15 v16
    subst v13
    refine keep_foldl _ ?_ ?_
    · intro a17 a18
      refine keep_forEach _ ?_ ?_
      · intro a19 a20
        refine Keep.trans ?_ (still_setPresent _ _).keep
        refine Keep.trans ?_ (keep_poisonUnit _ _)
        exact Keep.refl _
      · exact Keep.refl _
    · exact hv11
  have hv14 : Keep s v14 := by
    clear v15 v16
    subst v14
    refine keep_forEach _ ?_ ?_
    · intro a21 a22
      refine keep_ite ?_ ?_
      · refine Keep.trans ?_ (still_event _ _ _).keep
        refine Keep.trans ?_ (still_setShState _ _ _).keep
        exact Keep.refl _
      · refine Keep.trans ?_ (still_setShState _ _ _).keep
        exact Keep.refl _
    · exact hv13
  have hv16 : Keep s v16 := by
    subst v16
    refine Keep.trans ?_ (still_enterPhase _ _ _).keep
    iterate 3 refine Keep.trans ?_ (still_wr _ _ _).keep
    refine Keep.trans ?_ (still_voidQueues _).keep
    exact hv14
  refine Keep.trans ?_ (still_settleShares _).keep
  refine Keep.trans ?_ (still_serve _).keep
  refine Keep.trans ?_ (still_event _ _ _).keep
  exact hv16

theorem still_loadSave (s : State) (l : List JRec) (result : Nat) : Still s (State.loadSave s l result) := by
  unfold State.loadSave
  extract_lets v1 v2
  have hv1 : Still s v1 := by
    clear v2
    subst v1
    refine Still.trans ?_ (still_wr _ _ _)
    refine Still.trans ?_ (still_wr _ _ _)
    exact Still.refl _
  have hv2 : Still s v2 := by
    subst v2
    split
    · extract_lets v3 v4
      have hv3 : Still s v3 := by
        clear v4
        subst v3
        iterate 3 refine Still.trans ?_ (still_wr _ _ _)
        exact hv1
      have hv4 : Still s v4 := by
        subst v4
        iterate 3 refine Still.trans ?_ (still_wr _ _ _)
        exact hv3
      refine Still.trans ?_ (still_wr _ _ _)
      refine Still.trans ?_ (still_wr _ _ _)
      exact hv4
    · exact hv1
  split
  · refine Still.trans ?_ (still_wr _ _ _)
    refine Still.trans ?_ (still_wr _ _ _)
    refine Still.trans ?_ (still_wr _ _ _)
    exact hv2
  · exact hv2

theorem keep_replayRun (s : State) (segs : FMap (Nat × Nat)) (lsn : Nat) (lo : Nat) (hi : Nat) (e : IdxEntry) : Keep s (State.replayRun s
    segs lsn lo hi e) := by
  unfold State.replayRun
  refine keep_forEach _ ?_ ?_
  · intro a1 a2
    refine keep_ite ?_ ?_
    · refine Keep.trans ?_ (keep_setIndex _ _ _ _)
      exact Keep.refl _
    · exact Keep.refl _
  · exact Keep.refl _

theorem still_loadShare (s : State) (a : List Nat) : Still s (State.loadShare s a) := by
  unfold State.loadShare
  split
  · extract_lets v1 v2 v3 v4 v5 v6 v7
    have hv2 : Still s v2 := by
      clear v3 v4 v5 v6 v7
      subst v2
      iterate 3 refine Still.trans ?_ (still_wri _ _ _ _)
      exact Still.refl _
    have hv3 : Still s v3 := by
      clear v4 v5 v6 v7
      subst v3
      iterate 3 refine Still.trans ?_ (still_wri _ _ _ _)
      exact hv2
    have hv4 : Still s v4 := by
      clear v5 v6 v7
      subst v4
      iterate 3 refine Still.trans ?_ (still_wri _ _ _ _)
      exact hv3
    have hv5 : Still s v5 := by
      clear v6 v7
      subst v5
      refine Still.trans ?_ (still_wri _ _ _ _)
      refine Still.trans ?_ (still_wri _ _ _ _)
      exact hv4
    have hv6 : Still s v6 := by
      clear v7
      subst v6
      refine Still.trans ?_ (still_wri _ _ _ _)
      exact hv5
    refine still_mk ?_
    exact hv6
  · exact Still.refl _

theorem keep_replayCommit (s : State) (segs : FMap (Nat × Nat)) (lsn : Nat) (a : List Nat) : Keep s (State.replayCommit s segs lsn a) := by
  unfold State.replayCommit
  split
  · refine keep_foldl _ ?_ ?_
    · intro a1 a2
      refine keep_ite ?_ ?_
      · exact Keep.refl _
      · refine Keep.trans ?_ (keep_replayRun _ _ _ _ _ _)
        exact Keep.refl _
    · exact Keep.refl _
  · exact Keep.refl _

theorem keep_replayRec (s : State) (segs : FMap (Nat × Nat)) (r : JRec) : Keep s (State.replayRec s segs r) := by
  unfold State.replayRec
  extract_lets v1 v2 v3 v4 v5
  have hv2 : Keep s v2 := by
    clear v3 v4 v5
    subst v2
    refine keep_ite ?_ ?_
    · refine Keep.trans ?_ (keep_replayCommit _ _ _ _)
      exact Keep.refl _
    · refine keep_ite ?_ ?_
      · refine Keep.trans ?_ (still_loadShare _ _).keep
        exact Keep.refl _
      · split
        · refine keep_ite ?_ ?_
          · refine Keep.trans ?_ (keep_replayRun _ _ _ _ _ _)
            exact Keep.refl _
          · refine keep_ite ?_ ?_
            · refine Keep.trans ?_ (keep_replayRun _ _ _ _ _ _)
              exact Keep.refl _
            · refine keep_ite ?_ ?_
              · refine Keep.trans ?_ (still_setBundle _ _ _).keep
                exact Keep.refl _
              · refine keep_ite ?_ ?_
                · refine keep_foldl _ ?_ ?_
                  · intro a6 a7
                    refine Keep.trans ?_ (still_wri _ _ _ _).keep
                    refine Keep.trans ?_ (still_wri _ _ _ _).keep
                    exact Keep.refl _
                  · exact Keep.refl _
                · exact Keep.refl _
        · refine keep_ite ?_ ?_
          · refine keep_mk ?_
            exact Keep.refl _
          · exact Keep.refl _
        · exact Keep.refl _
  split
  · exact hv2
  · refine keep_mkc ?_ fun h => ⟨h.1, foldl_memPut_wf _ _ (memZero_wf _ _ h.2)⟩
    exact hv2
  · refine keep_mk ?_
    exact hv2
  · refine keep_mk ?_
    exact hv2
  · refine keep_mk ?_
    exact hv2
  · refine keep_ite ?_ ?_
    · refine keep_mk ?_
      exact hv2
    · extract_lets v8 v9
      have hv9 : Keep s v9 := by
        subst v9
        refine keep_mk ?_
        exact hv2
      refine Keep.trans ?_ (still_wr _ _ _).keep
      refine Keep.trans ?_ (still_wr _ _ _).keep
      exact hv9

end Sys2Proof.Machine
end

