-- ==== Sys2Proof/Laws/Keep5.lean ====
section
/-! SUPPORT. Keep and Still, operation by operation: part 5 of 6. -/

namespace Sys2Proof.Machine

theorem still_rejoinJournal (s : State) (l : List JRec) (b : Nat) (mem : List Nat) : Still s (State.rejoinJournal s l b mem) := by
  unfold State.rejoinJournal
  extract_lets v1 v2 v3 v4 v5 v6 v7
  have hv4 : Still s v4 := by
    clear v5 v6 v7
    subst v4
    refine still_mk ?_
    exact Still.refl _
  have hv6 : Still s v6 := by
    clear v7
    subst v6
    refine still_ite ?_ ?_
    · refine Still.trans ?_ (still_setBundle _ _ _)
      refine still_mk ?_
      exact hv4
    · refine still_mk ?_
      exact hv4
  split
  · refine still_ite ?_ ?_
    · dsimp only [v1]
      refine Still.trans ?_ (still_setBundle _ _ _)
      refine still_mk ?_
      exact hv6
    · refine still_mk ?_
      exact hv6
  · refine still_mk ?_
    exact hv6

theorem keep_replay (s : State) (a : Anchor) (l : List JRec) (b : Nat) (mem : List Nat) : Keep s (State.replay s a l b mem) := by
  unfold State.replay
  extract_lets v1 v2 v3 v4 v5 v6 v7 v8 v9
  have hv4 : Keep s v4 := by
    clear v5 v6 v7 v8 v9
    subst v4
    refine keep_mk ?_
    exact Keep.refl _
  have hv5 : Keep s v5 := by
    clear v6 v7 v8 v9
    subst v5
    refine Keep.trans ?_ (still_rejoinJournal _ _ _ _).keep
    refine keep_foldl _ ?_ ?_
    · intro a10 a11
      refine Keep.trans ?_ (keep_replayRec _ _ _)
      exact Keep.refl _
    · exact hv4
  have hv9 : Keep s v9 := by
    subst v9
    refine keep_mk ?_
    exact hv5
  refine keep_forEach _ ?_ ?_
  · intro a12 a13
    extract_lets v14
    have hv14 : Keep a12 v14 := by
      subst v14
      refine Keep.trans ?_ (still_wri _ _ _ _).keep
      exact Keep.refl _
    refine keep_ite ?_ ?_
    · refine Keep.trans ?_ (still_setShState _ _ _).keep
      exact hv14
    · exact hv14
  · refine Keep.trans ?_ (still_wr _ _ _).keep
    exact hv9

theorem keep_prepared (s : State) (bad : List Nat) (lost : List (Nat × Nat)) : Keep s (State.prepared s bad lost) := by
  unfold State.prepared
  extract_lets v1 v2
  split
  · refine Keep.trans ?_ (still_imageRecovery _ _).keep
    exact Keep.refl _
  · refine keep_ite ?_ ?_
    · refine Keep.trans ?_ (still_imageRecovery _ _).keep
      exact Keep.refl _
    · refine keep_ite ?_ ?_
      · refine Keep.trans ?_ (still_imageRecovery _ _).keep
        exact Keep.refl _
      · split
        rename_i w3 w4 w5 w6 w7 w8
        extract_lets v9 v10 v11 v12 v13 v14 v15 v16 v17 v18 v19 v20 v21 v22 v23
        have hv11 : Keep s v11 := by
          clear v12 v13 v14 v15 v16 v17 v18 v19 v20 v21 v22 v23
          subst v11
          refine keep_mk ?_
          exact Keep.refl _
        have hv12 : Keep s v12 := by
          clear v13 v14 v15 v16 v17 v18 v19 v20 v21 v22 v23
          subst v12
          refine Keep.trans ?_ (keep_replay _ _ _ _ _)
          refine Keep.trans ?_ (still_wr _ _ _).keep
          exact hv11
        have hv13 : Keep s v13 := by
          clear v14 v15 v16 v17 v18 v19 v20 v21 v22 v23
          subst v13
          refine Keep.trans ?_ (still_loadSave _ _ _).keep
          refine Keep.trans ?_ (still_armFlash _ _).keep
          exact hv12
        have hv15 : Keep s v15 := by
          clear v16 v17 v18 v19 v20 v21 v22 v23
          subst v15
          refine keep_ite ?_ ?_
          · refine keep_mk ?_
            exact hv13
          · exact hv13
        have hv18 : Keep s v18 := by
          clear v19 v20 v21 v22 v23
          subst v18
          refine keep_mk ?_
          exact hv15
        have hv19 : Keep s v19 := by
          clear v20 v21 v22 v23
          subst v19
          refine Keep.trans ?_ (still_wr _ _ _).keep
          refine Keep.trans ?_ (still_wr _ _ _).keep
          exact hv18
        have hv20 : Keep s v20 := by
          clear v21 v22 v23
          subst v20
          refine Keep.trans ?_ (still_wr _ _ _).keep
          exact hv19
        have hv21 : Keep s v21 := by
          clear v22 v23
          subst v21
          refine Keep.trans ?_ (still_event _ _ _).keep
          exact hv20
        have hv23 : Keep s v23 := by
          subst v23
          refine keep_mk ?_
          exact hv21
        refine keep_ite ?_ ?_
        · refine Keep.trans ?_ (keep_openData _)
          exact hv23
        · refine Keep.trans ?_ (still_updReady _).keep
          exact hv23

theorem keep_execPreparationComplete (bad : List Nat) (lost : List (Nat × Nat)) (s : State) : KeepA s (execPreparationComplete bad lost s) := by
  unfold execPreparationComplete
  extract_lets v1
  have hv1 : Keep s v1 := by
    subst v1
    refine Keep.trans ?_ (still_begin _).keep
    exact Keep.refl _
  refine keepA_ite ?_ ?_
  · refine keepA_next ?_
    refine Keep.trans ?_ (keep_prepared _ _ _)
    exact hv1
  · refine keepA_next ?_
    exact hv1

theorem still_firstAdmit (s : State) : Still s (State.firstAdmit s) := by
  unfold State.firstAdmit
  extract_lets v1 v2 v3 v4
  have hv1 : Still s v1 := by
    clear v2 v3 v4
    subst v1
    refine Still.trans ?_ (still_skipDrbg _)
    exact Still.refl _
  have hv3 : Still s v3 := by
    clear v4
    subst v3
    refine still_mk ?_
    exact hv1
  refine Still.trans ?_ (still_beginPass _)
  refine Still.trans ?_ (still_wr _ _ _)
  refine still_mk ?_
  exact hv3

theorem keep_grantAdmission (s : State) (first : Bool) : Keep s (State.grantAdmission s first) := by
  unfold State.grantAdmission
  extract_lets v1 v2 v3 v4
  have hv2 : Keep s v2 := by
    clear v3 v4
    subst v2
    refine keep_mk ?_
    exact Keep.refl _
  have hv3 : Keep s v3 := by
    clear v4
    subst v3
    refine Keep.trans ?_ (still_event _ _ _).keep
    refine Keep.trans ?_ (still_wr _ _ _).keep
    refine Keep.trans ?_ (still_wr _ _ _).keep
    exact hv2
  have hv4 : Keep s v4 := by
    subst v4
    refine keep_ite ?_ ?_
    · refine keep_ite ?_ ?_
      · refine Keep.trans ?_ (still_resumeData _).keep
        exact hv3
      · refine Keep.trans ?_ (keep_openData _)
        exact hv3
    · refine Keep.trans ?_ (still_settleShares _).keep
      exact hv3
  refine Keep.trans ?_ (still_updReady _).keep
  refine Keep.trans ?_ (still_resumePass _).keep
  exact hv4

theorem keep_execAdmissionEvaluate (s : State) : KeepA s (execAdmissionEvaluate s) := by
  unfold execAdmissionEvaluate
  extract_lets v1 v2 v3 v4
  have hv1 : Keep s v1 := by
    clear v2 v3 v4
    subst v1
    refine Keep.trans ?_ (still_begin _).keep
    exact Keep.refl _
  have hv3 : Keep s v3 := by
    clear v4
    subst v3
    refine Keep.trans ?_ (still_wr _ _ _).keep
    exact hv1
  refine keepA_ite ?_ ?_
  · refine keepA_next ?_
    exact hv1
  · refine keepA_ite ?_ ?_
    · split
      · refine keepA_next ?_
        refine Keep.trans ?_ (keep_grantAdmission _ _)
        exact hv3
      · refine keepA_next ?_
        refine Keep.trans ?_ (still_firstAdmit _).keep
        exact hv3
    · refine keepA_ite ?_ ?_
      · refine keepA_next ?_
        refine Keep.trans ?_ (still_settleAttn _).keep
        refine Keep.trans ?_ (still_event _ _ _).keep
        refine keep_mk ?_
        exact hv3
      · refine keepA_next ?_
        exact hv3

theorem still_reskeinDone (s : State) (pass : Nat) : Still s (State.reskeinDone s pass) := by
  unfold State.reskeinDone
  refine still_ite ?_ ?_
  · exact Still.refl _
  · split
    · exact Still.refl _
    · extract_lets v1 v2 v3 v4 v5 v6
      have hv2 : Still s v2 := by
        clear v3 v4 v5 v6
        subst v2
        refine Still.trans ?_ (still_setTgt _ _ _)
        exact Still.refl _
      have hv3 : Still s v3 := by
        clear v4 v5 v6
        subst v3
        refine Still.trans ?_ (still_event _ _ _)
        exact hv2
      have hv6 : Still s v6 := by
        subst v6
        refine still_mk ?_
        exact hv3
      refine Still.trans ?_ (still_ceilUpdate _ _)
      iterate 3 refine Still.trans ?_ (still_wr _ _ _)
      exact hv6

theorem still_eraseAnchors (s : State) : Still s (State.eraseAnchors s) := by
  unfold State.eraseAnchors
  dsimp only
  split
  · exact Still.refl s
  · split
    · exact still_foldl _ (fun a b => still_listRun a b 1) (Still.refl s)
    · exact Still.refl s

theorem still_standAnchor (s : State) (a : Anchor) (good : Nat) : Still s (State.standAnchor s a good) := by
  unfold State.standAnchor
  refine Still.trans ?_ (still_eraseAnchors _)
  refine still_mk ?_
  exact Still.refl _

theorem still_passDone (s : State) (a : Anchor) (good : Nat) : Still s (State.passDone s a good) := by
  unfold State.passDone
  extract_lets v1 v2 v3 v4
  have hv1 : Still s v1 := by
    clear v2 v3 v4
    subst v1
    refine Still.trans ?_ (still_event _ _ _)
    refine Still.trans ?_ (still_standAnchor _ _ _)
    exact Still.refl _
  have hv4 : Still s v4 := by
    subst v4
    refine still_mk ?_
    exact hv1
  refine still_ite ?_ ?_
  · exact hv4
  · refine Still.trans ?_ (still_beginPass _)
    refine Still.trans ?_ (still_freeDead _)
    refine Still.trans ?_ (still_reskeinDone _ _)
    exact hv4

theorem still_rewriteAnchor (s : State) (a : Anchor) : Still s (State.rewriteAnchor s a) := by
  unfold State.rewriteAnchor
  split
  rename_i w1 w2 w3 w4
  have hw2 : Still s w2 := by
    refine still_fst ?_ w4
    refine Still.trans ?_ (still_anchorCopies _ _ _)
    exact Still.refl _
  extract_lets v5 v6
  refine still_mk ?_
  exact hw2

theorem still_readBack (s : State) (a : Anchor) (flips : List (List Nat)) : StillP s (State.readBack s a flips) := by
  unfold State.readBack
  extract_lets v1 v2
  have hv2 : Still s v2 := by
    subst v2
    refine still_foldl _ ?_ ?_
    · intro a3 a4
      refine Still.trans ?_ (still_event _ _ _)
      exact Still.refl _
    · exact Still.refl _
  refine stillP_mk ?_
  exact hv2

theorem keep_execFirstAdmissionComplete (flips : List (List Nat)) (s : State) : KeepA s (execFirstAdmissionComplete flips s) := by
  unfold execFirstAdmissionComplete
  extract_lets v1
  have hv1 : Keep s v1 := by
    subst v1
    refine Keep.trans ?_ (still_begin _).keep
    exact Keep.refl _
  refine keepA_ite ?_ ?_
  · refine keepA_next ?_
    exact hv1
  · split
    · refine keepA_next ?_
      exact hv1
    · split
      rename_i w2 w3 w4 w5
      have hw3 : Keep s w3 := by
        refine keep_fst ?_ w5
        refine Keep.trans ?_ (still_readBack _ _ _).keep
        exact hv1
      refine keepA_ite ?_ ?_
      · refine keepA_next ?_
        refine Keep.trans ?_ (still_rewriteAnchor _ _).keep
        exact hw3
      · extract_lets v6 v7 v8
        have hv8 : Keep s v8 := by
          subst v8
          refine keep_mk ?_
          exact hw3
        refine keepA_next ?_
        refine Keep.trans ?_ (keep_grantAdmission _ _)
        refine Keep.trans ?_ (still_passDone _ _ _).keep
        refine Keep.trans ?_ (still_wr _ _ _).keep
        exact hv8

theorem still_execAnchorReadback (flips : List (List Nat)) (s : State) : StillA s (execAnchorReadback flips s) := by
  unfold execAnchorReadback
  extract_lets v1
  have hv1 : Still s v1 := by
    subst v1
    refine Still.trans ?_ (still_begin _)
    exact Still.refl _
  split
  · refine stillA_next ?_
    exact hv1
  · split
    rename_i w2 w3 w4 w5
    have hw3 : Still s w3 := by
      refine still_fst ?_ w5
      refine Still.trans ?_ (still_readBack _ _ _)
      exact hv1
    refine stillA_ite ?_ ?_
    · refine stillA_ite ?_ ?_
      · refine stillA_next ?_
        refine Still.trans ?_ (still_dropPass _ _)
        refine still_mk ?_
        exact hw3
      · refine stillA_next ?_
        refine Still.trans ?_ (still_rewriteAnchor _ _)
        exact hw3
    · refine stillA_ite ?_ ?_
      · refine stillA_next ?_
        refine Still.trans ?_ (still_passDone _ _ _)
        exact hw3
      · refine stillA_next ?_
        refine Still.trans ?_ (still_begin _)
        exact Still.refl _

theorem still_restate (s : State) : Still s (State.restate s) := by
  unfold State.restate
  extract_lets v1 v2
  have hv1 : Still s v1 := by
    clear v2
    subst v1
    refine still_foldl _ ?_ ?_
    · intro a3 a4
      refine Still.trans ?_ (still_append _ _ _ _ _)
      exact Still.refl _
    · refine Still.trans ?_ (still_twinFit _)
      exact Still.refl _
  have hv2 : Still s v2 := by
    subst v2
    refine Still.trans ?_ (still_twinRec _)
    refine Still.trans ?_ (still_shutdownRec _)
    refine Still.trans ?_ (still_poisonRecs _)
    refine Still.trans ?_ (still_tableRecs _)
    refine Still.trans ?_ (still_eraseRecs _)
    exact hv1
  refine Still.trans ?_ (still_reportJournal _ _ _ _ _ _ _)
  exact hv2

theorem still_execIndexSegmentCommit (s : State) : StillA s (execIndexSegmentCommit s) := by
  unfold execIndexSegmentCommit
  extract_lets v1
  have hv1 : Still s v1 := by
    subst v1
    refine Still.trans ?_ (still_begin _)
    exact Still.refl _
  split
  · refine stillA_next ?_
    exact hv1
  · refine stillA_ite ?_ ?_
    · refine stillA_next ?_
      exact hv1
    · extract_lets v2 v3 v4 v5 v6 v7 v8
      have hv2 : Still s v2 := by
        clear v3 v4 v5 v6 v7 v8
        subst v2
        refine Still.trans ?_ (still_land _ _)
        exact hv1
      have hv4 : Still s v4 := by
        clear v5 v6 v7 v8
        subst v4
        refine still_mk ?_
        exact hv2
      have hv5 : Still s v5 := by
        clear v6 v7 v8
        subst v5
        refine Still.trans ?_ (still_journal _ _ _)
        exact hv4
      have hv7 : Still s v7 := by
        clear v8
        subst v7
        refine Still.trans ?_ (still_takeGen _)
        refine Still.trans ?_ (still_restate _)
        exact hv5
      refine stillA_ite ?_ ?_
      · refine stillA_next ?_
        refine Still.trans ?_ (still_startSeg _ _)
        exact hv5
      · refine stillA_next ?_
        refine Still.trans ?_ (still_journal _ _ _)
        refine still_mk ?_
        exact hv7

theorem still_execRecordSkeinCommit (gen : Nat) (s : State) : StillA s (execRecordSkeinCommit gen s) := by
  unfold execRecordSkeinCommit
  extract_lets v1
  have hv1 : Still s v1 := by
    subst v1
    refine Still.trans ?_ (still_begin _)
    exact Still.refl _
  split
  · refine stillA_ite ?_ ?_
    · refine stillA_next ?_
      refine Still.trans ?_ (still_commitRecord _ _)
      exact hv1
    · refine stillA_next ?_
      exact hv1
  · refine stillA_next ?_
    exact hv1

theorem still_execJournalFlushTimeout (s : State) : StillA s (execJournalFlushTimeout s) := by
  unfold execJournalFlushTimeout
  extract_lets v1
  have hv1 : Still s v1 := by
    subst v1
    refine Still.trans ?_ (still_begin _)
    exact Still.refl _
  refine stillA_ite ?_ ?_
  · refine stillA_next ?_
    refine Still.trans ?_ (still_retrySeg _)
    refine Still.trans ?_ (still_flushTail _)
    exact hv1
  · refine stillA_next ?_
    exact hv1

theorem still_execBucketRecordWrite (s : State) : StillA s (execBucketRecordWrite s) := by
  unfold execBucketRecordWrite
  extract_lets v1 v2
  have hv1 : Still s v1 := by
    clear v2
    subst v1
    refine Still.trans ?_ (still_begin _)
    exact Still.refl _
  refine stillA_ite ?_ ?_
  · refine stillA_next ?_
    refine Still.trans ?_ (still_norProgram _)
    refine still_mk ?_
    exact hv1
  · refine stillA_next ?_
    exact hv1

theorem keep_execAgeSweep (s : State) : KeepA s (execAgeSweep s) := by
  unfold execAgeSweep
  extract_lets v1
  have hv1 : Keep s v1 := by
    subst v1
    refine Keep.trans ?_ (still_begin _).keep
    exact Keep.refl _
  refine keepA_ite ?_ ?_
  · refine keepA_next ?_
    refine keep_mk ?_
    exact hv1
  · refine keepA_next ?_
    exact hv1

theorem still_execBucketFill (s : State) : StillA s (execBucketFill s) := by
  unfold execBucketFill
  extract_lets v1 v2 v3 v4
  have hv1 : Still s v1 := by
    clear v2 v3 v4
    subst v1
    refine Still.trans ?_ (still_begin _)
    exact Still.refl _
  refine stillA_ite ?_ ?_
  · refine stillA_next ?_
    exact hv1
  · refine stillA_next ?_
    refine still_mk ?_
    exact hv1

theorem still_offer (s : State) (c : Nat) (bind : Nat) : Still s (State.offer s c bind) := by
  unfold State.offer
  extract_lets v1 v2 v3 v4
  refine still_ite ?_ ?_
  · refine Still.trans ?_ (still_setWeir _ _ _)
    refine still_mk ?_
    exact Still.refl _
  · refine still_ite ?_ ?_
    · refine Still.trans ?_ (still_wr _ _ _)
      refine still_mk ?_
      exact Still.refl _
    · refine still_ite ?_ ?_
      · refine still_mk ?_
        exact Still.refl _
      · refine Still.trans ?_ (still_setWeir _ _ _)
        refine still_mk ?_
        exact Still.refl _

theorem still_weirRegs (s : State) : Still s (State.weirRegs s) := by
  unfold State.weirRegs
  extract_lets v1 v2 v3 v4
  have hv3 : Still s v3 := by
    clear v4
    subst v3
    iterate 4 refine Still.trans ?_ (still_wr _ _ _)
    exact Still.refl _
  have hv4 : Still s v4 := by
    subst v4
    iterate 4 refine Still.trans ?_ (still_wr _ _ _)
    exact hv3
  refine still_forEach _ ?_ ?_
  · intro a5 a6
    refine Still.trans ?_ (still_wri _ _ _ _)
    exact Still.refl _
  · exact hv4

theorem still_execWeirCandidate (s : State) : StillA s (execWeirCandidate s) := by
  unfold execWeirCandidate
  dsimp only
  refine stillA_ite (stillA_next (still_begin s)) (stillA_next ?_)
  have h : Still s s.begin.weirRegs := (still_begin s).trans (still_weirRegs _)
  refine still_ite h ?_
  refine Still.trans ?_ (still_offer _ _ _)
  exact still_mk (h.trans (still_wr _ _ _))

theorem still_satisfy (s : State) (p : Ticket → Bool) (lo : Nat) (hi : Nat) : Still s (State.satisfy s p lo hi) := by
  unfold State.satisfy
  refine still_mk ?_
  exact Still.refl _

theorem still_satisfyUnit (s : State) (g : Nat) (x : Option Slot) : Still s (State.satisfyUnit s g x) := by
  unfold State.satisfyUnit
  split
  · refine Still.trans ?_ (still_satisfy _ _ _ _)
    exact Still.refl _
  · exact Still.refl _

theorem still_flushFlash (s : State) (before : List Ticket) : Still s (State.flushFlash s before) := by
  unfold State.flushFlash
  refine still_foldl _ ?_ ?_
  · intro a1 a2
    refine Still.trans ?_ (still_finish _ _ _ _ _)
    exact Still.refl _
  · exact Still.refl _

theorem still_rskProgress (s : State) : Still s (State.rskProgress s) := by
  unfold State.rskProgress
  split
  · refine still_ite ?_ ?_
    · extract_lets v1 v2
      refine Still.trans ?_ (still_wr _ _ _)
      refine still_mk ?_
      exact Still.refl _
    · exact Still.refl _
  · exact Still.refl _

theorem keep_commitSlot (s : State) (g : Nat) (i : Nat) (x : Option Slot) : KeepP s (State.commitSlot s g i x) := by
  unfold State.commitSlot
  split
  · refine keepP_mk ?_
    exact Keep.refl _
  · extract_lets v1 v2 v3
    have hv3 : Keep s v3 := by
      subst v3
      refine keep_mk ?_
      exact Keep.refl _
    split
    · refine keepP_ite ?_ ?_
      · refine keepP_mk ?_
        refine Keep.trans ?_ (keep_setIndex _ _ _ _)
        exact Keep.refl _
      · refine keepP_mk ?_
        exact Keep.refl _
    · refine keepP_ite ?_ ?_
      · refine keepP_mk ?_
        refine Keep.trans ?_ (still_addi _ _ _ _).keep
        refine Keep.trans ?_ (keep_setIndex _ _ _ _)
        exact hv3
      · refine keepP_ite ?_ ?_
        · refine keepP_mk ?_
          refine Keep.trans ?_ (keep_setIndex _ _ _ _)
          refine Keep.trans ?_ (keep_setUnit _ _ _)
          exact Keep.refl _
        · refine keepP_mk ?_
          exact Keep.refl _

theorem keep_commitSlots (s : State) (g i : Nat) (l : List (Option Slot)) : KeepP s (State.commitSlots s g i l) := by
  induction l generalizing s i with
  | nil => exact Keep.refl s
  | cons x l ih =>
    unfold State.commitSlots
    have h := keep_commitSlot s g i x
    generalize s.commitSlot g i x = p at h
    obtain ⟨t, ok⟩ := p
    have k := ih t (i + 1)
    dsimp only
    generalize t.commitSlots g (i + 1) l = p at k
    exact Keep.trans h k

theorem keep_commitData (s : State) (k : Skein) : Keep s (State.commitData s k) := by
  unfold State.commitData
  have h := keep_commitSlots s k.gen 0 k.slots
  generalize s.commitSlots k.gen 0 k.slots = p at h
  obtain ⟨t, sl⟩ := p
  replace h : Keep s t := h
  dsimp -zeta only
  extract_lets v1 v2 v3 v4 v5 v6 v7 v8 v9 v10 v11 v12
  have hv2 : Keep s v2 := by
    clear v3 v4 v5 v6 v7 v8 v9 v10 v11 v12
    subst v2
    refine Keep.trans ?_ (still_journal _ _ _).keep
    exact h
  have hv3 : Keep s v3 := by
    clear v4 v5 v6 v7 v8 v9 v10 v11 v12
    subst v3
    refine Keep.trans ?_ (still_land _ _).keep
    exact hv2
  have hv5 : Keep s v5 := by
    clear v6 v7 v8 v9 v10 v11 v12
    subst v5
    refine keep_mk ?_
    exact hv3
  have hv7 : Keep s v7 := by
    clear v8 v9 v10 v11 v12
    subst v7
    refine keep_ite ?_ ?_
    · exact hv5
    · refine Keep.trans ?_ (still_event _ _ _).keep
      refine keep_mk ?_
      exact hv5
  have hv10 : Keep s v10 := by
    clear v11 v12
    subst v10
    refine keep_ite ?_ ?_
    · refine Keep.trans ?_ (still_wr _ _ _).keep
      refine keep_mk ?_
      exact hv7
    · exact hv7
  have hv11 : Keep s v11 := by
    clear v12
    subst v11
    refine Keep.trans ?_ (still_rskProgress _).keep
    exact hv10
  refine Keep.trans ?_ (still_settleMr _).keep
  refine Keep.trans ?_ (still_flushFlash _ _).keep
  refine keep_foldl _ ?_ ?_
  · intro a13 a14
    refine Keep.trans ?_ (still_satisfyUnit _ _ _).keep
    exact Keep.refl _
  · exact hv11

theorem keep_execSkeinCommit (gen : Nat) (s : State) : KeepA s (execSkeinCommit gen s) := by
  unfold execSkeinCommit
  extract_lets v1
  have hv1 : Keep s v1 := by
    subst v1
    refine Keep.trans ?_ (still_begin _).keep
    exact Keep.refl _
  split
  · refine keepA_ite ?_ ?_
    · refine keepA_next ?_
      refine Keep.trans ?_ (still_sendFetches _).keep
      refine Keep.trans ?_ (still_streamEnd _).keep
      refine Keep.trans ?_ (keep_commitData _ _)
      exact hv1
    · refine keepA_next ?_
      exact hv1
  · refine keepA_next ?_
    exact hv1

theorem still_execPartialSkeinTimeout (s : State) : StillA s (execPartialSkeinTimeout s) := by
  unfold execPartialSkeinTimeout
  extract_lets v1 v2 v3
  have hv1 : Still s v1 := by
    clear v2 v3
    subst v1
    refine Still.trans ?_ (still_begin _)
    exact Still.refl _
  refine stillA_ite ?_ ?_
  · refine stillA_next ?_
    refine still_mk ?_
    exact hv1
  · refine stillA_next ?_
    exact hv1

theorem keep_drainUnit (s : State) (p : Nat × Bool) : Keep s (State.drainUnit s p) := by
  unfold State.drainUnit
  refine keep_ite ?_ ?_
  · exact Keep.refl _
  · refine Keep.trans ?_ (keep_setUnit _ _ _)
    exact Keep.refl _

theorem keep_drainError (s : State) (line : Nat) : Keep s (State.drainError s line) := by
  unfold State.drainError
  extract_lets v1 v2 v3 v4
  have hv2 : Keep s v2 := by
    clear v3 v4
    subst v2
    refine Keep.trans ?_ (still_event _ _ _).keep
    refine Keep.trans ?_ (still_bump _ _).keep
    refine Keep.trans ?_ (still_setMch _ _ _).keep
    exact Keep.refl _
  have hv3 : Keep s v3 := by
    clear v4
    subst v3
    refine Keep.trans ?_ (still_mediaEvent _ _ _).keep
    refine Keep.trans ?_ (keep_poisonLine _ _ _)
    exact hv2
  refine keep_ite ?_ ?_
  · refine keep_mk ?_
    exact hv3
  · exact hv3

theorem keep_execSkeinStart (bad : List Nat) (s : State) : KeepA s (execSkeinStart bad s) := by
  unfold execSkeinStart
  extract_lets v1 v2
  have hv1 : Keep s v1 := by
    clear v2
    subst v1
    refine Keep.trans ?_ (still_begin _).keep
    exact Keep.refl _
  refine keepA_ite ?_ ?_
  · refine keepA_next ?_
    exact hv1
  · split
    rename_i w3 w4 w5 w6
    have hw4 : Keep s w4 := by
      refine keep_fst ?_ w6
      refine Keep.trans ?_ (still_dataBundle _).keep
      exact hv1
    split
    · rename_i w7
      refine keepA_next ?_
      refine Keep.trans ?_ (still_streamEnd _).keep
      exact hw4
    · rename_i w8 w9
      refine keepA_ite ?_ ?_
      · refine keepA_next ?_
        exact hw4
      · extract_lets v10 v11 v12 v13 v14 v15 v16 v17 v18
        have hv11 : Keep s v11 := by
          clear v12 v13 v14 v15 v16 v17 v18
          subst v11
          refine keep_foldl _ ?_ ?_
          · intro a19 a20
            refine Keep.trans ?_ (keep_drainError _ _)
            exact Keep.refl _
          · exact hw4
        have hv14 : Keep s v14 := by
          clear v15 v16 v17 v18
          subst v14
          refine Keep.trans ?_ (still_takePage _ _).keep
          refine Keep.trans ?_ (still_takeGen _).keep
          refine keep_foldl _ ?_ ?_
          · intro a21 a22
            refine Keep.trans ?_ (keep_drainUnit _ _)
            exact Keep.refl _
          · exact hv11
        have hv15 : Keep s v15 := by
          clear v16 v17 v18
          subst v15
          refine Keep.trans ?_ (still_fly _ _).keep
          exact hv14
        have hv17 : Keep s v17 := by
          clear v18
          subst v17
          refine keep_mk ?_
          exact hv15
        have hv18 : Keep s v18 := by
          subst v18
          refine Keep.trans ?_ (still_debit _ _).keep
          refine Keep.trans ?_ (still_wr _ _ _).keep
          exact hv17
        refine keepA_next ?_
        refine Keep.trans ?_ (still_wr _ _ _).keep
        refine Keep.trans ?_ (still_ceilUpdate _ _).keep
        exact hv18

theorem still_takeEntry (s : State) (q : Nat) (f : State → State) (hf : ∀ z0, Still z0 (f z0)) : Still s (State.takeEntry s q f) := by
  unfold State.takeEntry
  refine still_ite ?_ ?_
  · refine Still.trans ?_ (hf _)
    exact Still.refl _
  · exact Still.refl _

theorem keep_takeEntry (s : State) (q : Nat) (f : State → State) (hf : ∀ z0, Keep z0 (f z0)) : Keep s (State.takeEntry s q f) := by
  unfold State.takeEntry
  refine keep_ite ?_ ?_
  · refine Keep.trans ?_ (hf _)
    exact Keep.refl _
  · exact Keep.refl _

theorem still_adminOp (s : State) (h : Nat) (tag : Nat) (share : Nat) (f : State → Ticket → State) (hf : ∀ z0 z1, Still z0 (f z0 z1)) :
    Still s (State.adminOp s h tag share f) := by
  unfold State.adminOp
  extract_lets v1
  refine still_ite ?_ ?_
  · refine Still.trans ?_ (still_takeEntry _ _ _ ?_)
    · exact Still.refl _
    · intro a2
      split
      rename_i w3 w4 w5 w6
      have hw4 : Still a2 w4 := by
        refine still_fst ?_ w6
        refine Still.trans ?_ (still_newTicket _ _ _ _ _ _ _ _)
        exact Still.refl _
      refine Still.trans ?_ (hf _ _)
      exact hw4
  · exact Still.refl _

theorem keep_adminOp (s : State) (h : Nat) (tag : Nat) (share : Nat) (f : State → Ticket → State) (hf : ∀ z0 z1, Keep z0 (f z0 z1)) : Keep
    s (State.adminOp s h tag share f) := by
  unfold State.adminOp
  extract_lets v1
  refine keep_ite ?_ ?_
  · refine Keep.trans ?_ (keep_takeEntry _ _ _ ?_)
    · exact Keep.refl _
    · intro a2
      split
      rename_i w3 w4 w5 w6
      have hw4 : Keep a2 w4 := by
        refine keep_fst ?_ w6
        refine Keep.trans ?_ (still_newTicket _ _ _ _ _ _ _ _).keep
        exact Keep.refl _
      refine Keep.trans ?_ (hf _ _)
      exact hw4
  · exact Keep.refl _

theorem still_adminMp (s : State) (c : Instr) (h : Nat) (tag : Nat) (share : Nat) (f : State → Ticket → State) (hf : ∀ z0 z1, Still z0 (f
    z0 z1)) : Still s (State.adminMp s c h tag share f) := by
  unfold State.adminMp
  refine still_ite ?_ ?_
  · refine Still.trans ?_ (still_adminOp _ _ _ _ _ ?_)
    · exact Still.refl _
    · intro a1 a2
      refine Still.trans ?_ (hf _ _)
      exact Still.refl _
  · extract_lets v3 v4
    have hv4 : Still s v4 := by
      subst v4
      refine still_mk ?_
      exact Still.refl _
    refine still_ite ?_ ?_
    · refine Still.trans ?_ (still_setQueue _ _ _)
      exact hv4
    · exact hv4

theorem keep_adminMp (s : State) (c : Instr) (h : Nat) (tag : Nat) (share : Nat) (f : State → Ticket → State) (hf : ∀ z0 z1, Keep z0 (f z0
    z1)) : Keep s (State.adminMp s c h tag share f) := by
  unfold State.adminMp
  refine keep_ite ?_ ?_
  · refine Keep.trans ?_ (keep_adminOp _ _ _ _ _ ?_)
    · exact Keep.refl _
    · intro a1 a2
      refine Keep.trans ?_ (hf _ _)
      exact Keep.refl _
  · extract_lets v3 v4
    have hv4 : Keep s v4 := by
      subst v4
      refine keep_mk ?_
      exact Keep.refl _
    refine keep_ite ?_ ?_
    · refine Keep.trans ?_ (still_setQueue _ _ _).keep
      exact hv4
    · exact hv4

theorem still_execMpRestart (h : Nat) (tag : Nat) (s : State) : StillA s (execMpRestart h tag s) := by
  unfold execMpRestart
  refine stillA_next ?_
  refine Still.trans ?_ (still_adminMp _ _ _ _ _ _ ?_)
  · refine Still.trans ?_ (still_begin _)
    exact Still.refl _
  · intro a1 a2
    refine Still.trans ?_ (still_mpRestart _ _)
    refine Still.trans ?_ (still_finish _ _ _ _ _)
    exact Still.refl _

theorem still_execSpReload (h : Nat) (tag : Nat) (n : Nat) (s : State) : StillA s (execSpReload h tag n s) := by
  unfold execSpReload
  refine stillA_next ?_
  refine Still.trans ?_ (still_adminMp _ _ _ _ _ _ ?_)
  · refine Still.trans ?_ (still_begin _)
    exact Still.refl _
  · intro a1 a2
    refine still_ite ?_ ?_
    · refine Still.trans ?_ (still_finish _ _ _ _ _)
      exact Still.refl _
    · extract_lets v3 v4
      have hv3 : Still a1 v3 := by
        clear v4
        subst v3
        refine Still.trans ?_ (still_keepTicket _ _)
        exact Still.refl _
      refine Still.trans ?_ (still_nextReload _)
      refine still_mk ?_
      exact hv3

theorem still_execFwStatus (h : Nat) (tag : Nat) (s : State) : StillA s (execFwStatus h tag s) := by
  unfold execFwStatus
  refine stillA_next ?_
  refine Still.trans ?_ (still_adminMp _ _ _ _ _ _ ?_)
  · refine Still.trans ?_ (still_begin _)
    exact Still.refl _
  · intro a1 a2
    refine Still.trans ?_ (still_finish _ _ _ _ _)
    exact Still.refl _

theorem still_execFwActivate (h : Nat) (tag : Nat) (online : Bool) (s : State) : StillA s (execFwActivate h tag online s) := by
  unfold execFwActivate
  refine stillA_next ?_
  refine Still.trans ?_ (still_adminMp _ _ _ _ _ _ ?_)
  · refine Still.trans ?_ (still_begin _)
    exact Still.refl _
  · intro a1 a2
    refine still_ite ?_ ?_
    · refine Still.trans ?_ (still_finish _ _ _ _ _)
      exact Still.refl _
    · split
      · refine Still.trans ?_ (still_finish _ _ _ _ _)
        exact Still.refl _
      · refine still_ite ?_ ?_
        · refine Still.trans ?_ (still_finish _ _ _ _ _)
          exact Still.refl _
        · extract_lets v3
          have hv3 : Still a1 v3 := by
            subst v3
            refine Still.trans ?_ (still_finish _ _ _ _ _)
            refine Still.trans ?_ (still_activate _ _ _)
            exact Still.refl _
          refine still_ite ?_ ?_
          · refine Still.trans ?_ (still_mpRestart _ _)
            exact hv3
          · exact hv3

theorem still_execFwStage (h : Nat) (tag : Nat) (addr : Nat) (len : Nat) (off : Nat) (last : Bool) (hdr : FwHeader) (s : State) : StillA s
    (execFwStage h tag addr len off last hdr s) := by
  unfold execFwStage
  refine stillA_next ?_
  refine Still.trans ?_ (still_adminMp _ _ _ _ _ _ ?_)
  · refine Still.trans ?_ (still_begin _)
    exact Still.refl _
  · intro a1 a2
    refine still_ite ?_ ?_
    · refine Still.trans ?_ (still_finish _ _ _ _ _)
      exact Still.refl _
    · refine still_ite ?_ ?_
      · refine Still.trans ?_ (still_finish _ _ _ _ _)
        exact Still.refl _
      · extract_lets v3
        have hv3 : Still a1 v3 := by
          subst v3
          refine Still.trans ?_ (still_keepTicket _ _)
          exact Still.refl _
        refine Still.trans ?_ (still_startPart _ _ _ _ _ _ _)
        exact hv3

theorem still_packOp (s : State) (c : Instr) (h : Nat) (tag : Nat) (b : Nat) (f : State → Ticket → State) (hf : ∀ z0 z1, Still z0 (f z0
    z1)) : Still s (State.packOp s c h tag b f) := by
  unfold State.packOp
  refine Still.trans ?_ (still_adminMp _ _ _ _ _ _ ?_)
  · refine Still.trans ?_ (still_begin _)
    exact Still.refl _
  · intro a1 a2
    refine still_ite ?_ ?_
    · refine Still.trans ?_ (still_finish _ _ _ _ _)
      exact Still.refl _
    · refine still_ite ?_ ?_
      · refine Still.trans ?_ (still_finish _ _ _ _ _)
        exact Still.refl _
      · refine Still.trans ?_ (hf _ _)
        exact Still.refl _

theorem keep_packOp (s : State) (c : Instr) (h : Nat) (tag : Nat) (b : Nat) (f : State → Ticket → State) (hf : ∀ z0 z1, Keep z0 (f z0 z1))
    : Keep s (State.packOp s c h tag b f) := by
  unfold State.packOp
  refine Keep.trans ?_ (keep_adminMp _ _ _ _ _ _ ?_)
  · refine Keep.trans ?_ (still_begin _).keep
    exact Keep.refl _
  · intro a1 a2
    refine keep_ite ?_ ?_
    · refine Keep.trans ?_ (still_finish _ _ _ _ _).keep
      exact Keep.refl _
    · refine keep_ite ?_ ?_
      · refine Keep.trans ?_ (still_finish _ _ _ _ _).keep
        exact Keep.refl _
      · refine Keep.trans ?_ (hf _ _)
        exact Keep.refl _

theorem still_execPackRelease (h : Nat) (tag : Nat) (bay : Nat) (undo : Bool) (s : State) : StillA s (execPackRelease h tag bay undo s) := by
  unfold execPackRelease
  refine stillA_next ?_
  refine Still.trans ?_ (still_packOp _ _ _ _ _ _ ?_)
  · exact Still.refl _
  · intro a1 a2
    extract_lets v3 v4 v5 v6
    have hv4 : Still a1 v4 := by
      clear v5 v6
      subst v4
      refine Still.trans ?_ (still_wri _ _ _ _)
      exact Still.refl _
    have hv5 : Still a1 v5 := by
      clear v6
      subst v5
      refine still_ite ?_ ?_
      · refine Still.trans ?_ (still_toCharge _ _)
        exact hv4
      · exact hv4
    have hv6 : Still a1 v6 := by
      subst v6
      refine Still.trans ?_ (still_wri _ _ _ _)
      refine Still.trans ?_ (still_endTestOrPause _ _)
      exact Still.refl _
    refine still_ite ?_ ?_
    · refine still_ite ?_ ?_
      · refine Still.trans ?_ (still_finish _ _ _ _ _)
        exact Still.refl _
      · refine Still.trans ?_ (still_finish _ _ _ _ _)
        refine Still.trans ?_ (still_settleMr _)
        refine Still.trans ?_ (still_sums _)
        exact hv5
    · refine still_ite ?_ ?_
      · refine Still.trans ?_ (still_finish _ _ _ _ _)
        exact Still.refl _
      · refine Still.trans ?_ (still_finish _ _ _ _ _)
        refine Still.trans ?_ (still_settleMr _)
        refine Still.trans ?_ (still_sums _)
        refine Still.trans ?_ (still_chargerOff _ _)
        exact hv6

theorem still_execPackStatus (h : Nat) (tag : Nat) (bay : Nat) (s : State) : StillA s (execPackStatus h tag bay s) := by
  unfold execPackStatus
  refine stillA_next ?_
  refine Still.trans ?_ (still_packOp _ _ _ _ _ _ ?_)
  · exact Still.refl _
  · intro a1 a2
    extract_lets v3 v4 v5
    refine Still.trans ?_ (still_finish _ _ _ _ _)
    refine still_ite ?_ ?_
    · exact Still.refl _
    · refine Still.trans ?_ (still_skipFree _)
      exact Still.refl _

theorem still_execPackPause (h : Nat) (tag : Nat) (bay : Nat) (cancel : Bool) (s : State) : StillA s (execPackPause h tag bay cancel s) := by
  unfold execPackPause
  refine stillA_next ?_
  refine Still.trans ?_ (still_packOp _ _ _ _ _ _ ?_)
  · exact Still.refl _
  · intro a1 a2
    extract_lets v3
    refine Still.trans ?_ (still_finish _ _ _ _ _)
    refine still_ite ?_ ?_
    · refine Still.trans ?_ (still_endTestOrPause _ _)
      exact Still.refl _
    · refine Still.trans ?_ (still_wri _ _ _ _)
      exact Still.refl _

theorem still_execPackTest (h : Nat) (tag : Nat) (bay : Nat) (depth : Nat) (power : Nat) (s : State) : StillA s (execPackTest h tag bay
    depth power s) := by
  unfold execPackTest
  refine stillA_next ?_
  refine Still.trans ?_ (still_packOp _ _ _ _ _ _ ?_)
  · exact Still.refl _
  · intro a1 a2
    extract_lets v3 v4 v5 v6 v7
    have hv7 : Still a1 v7 := by
      subst v7
      refine Still.trans ?_ (still_setBay _ _ _)
      exact Still.refl _
    refine still_ite ?_ ?_
    · refine Still.trans ?_ (still_finish _ _ _ _ _)
      exact Still.refl _
    · refine still_ite ?_ ?_
      · refine Still.trans ?_ (still_finish _ _ _ _ _)
        exact Still.refl _
      · refine still_ite ?_ ?_
        · refine Still.trans ?_ (still_finish _ _ _ _ _)
          exact Still.refl _
        · refine Still.trans ?_ (still_finish _ _ _ _ _)
          refine Still.trans ?_ (still_settleMr _)
          refine Still.trans ?_ (still_setWaits _)
          refine Still.trans ?_ (still_wri _ _ _ _)
          exact hv7

theorem still_execTestAbort (h : Nat) (tag : Nat) (n : Nat) (s : State) : StillA s (execTestAbort h tag n s) := by
  unfold execTestAbort
  refine stillA_next ?_
  refine Still.trans ?_ (still_adminMp _ _ _ _ _ _ ?_)
  · refine Still.trans ?_ (still_begin _)
    exact Still.refl _
  · intro a1 a2
    split
    · refine Still.trans ?_ (still_finish _ _ _ _ _)
      exact Still.refl _
    · refine still_ite ?_ ?_
      · extract_lets v3 v4
        have hv3 : Still a1 v3 := by
          clear v4
          subst v3
          refine Still.trans ?_ (still_freeTgts _ _ _)
          exact Still.refl _
        have hv4 : Still a1 v4 := by
          subst v4
          refine still_mk ?_
          exact hv3
        refine Still.trans ?_ (still_finish _ _ _ _ _)
        refine Still.trans ?_ (still_settleMr _)
        refine Still.trans ?_ (still_setWaits _)
        exact hv4
      · refine Still.trans ?_ (still_finish _ _ _ _ _)
        exact Still.refl _

theorem still_execTestStatus (h : Nat) (tag : Nat) (n : Nat) (s : State) : StillA s (execTestStatus h tag n s) := by
  unfold execTestStatus
  refine stillA_next ?_
  refine Still.trans ?_ (still_adminMp _ _ _ _ _ _ ?_)
  · refine Still.trans ?_ (still_begin _)
    exact Still.refl _
  · intro a1 a2
    split
    · refine Still.trans ?_ (still_finish _ _ _ _ _)
      exact Still.refl _
    · refine still_ite ?_ ?_
      · refine Still.trans ?_ (still_finish _ _ _ _ _)
        refine Still.trans ?_ (still_skipFree _)
        exact Still.refl _
      · extract_lets v3
        have hv3 : Still a1 v3 := by
          subst v3
          refine still_ite ?_ ?_
          · exact Still.refl _
          · refine still_mk ?_
            exact Still.refl _
        refine Still.trans ?_ (still_finish _ _ _ _ _)
        exact hv3

theorem still_holdTgts (s : State) (l : List Nat) : Still s (State.holdTgts s l) := by
  unfold State.holdTgts
  extract_lets v1
  have hv1 : Still s v1 := by
    subst v1
    refine still_forEach _ ?_ ?_
    · intro a2 a3
      refine Still.trans ?_ (still_setTgt _ _ _)
      exact Still.refl _
    · exact Still.refl _
  refine Still.trans ?_ (still_ceilUpdate _ _)
  refine Still.trans ?_ (still_wr _ _ _)
  exact hv1

theorem still_restOne (s : State) (b : Nat) : Still s (State.restOne s b) := by
  unfold State.restOne
  extract_lets v1 v2
  have hv1 : Still s v1 := by
    clear v2
    subst v1
    refine Still.trans ?_ (still_chargerOff _ _)
    refine Still.trans ?_ (still_wri _ _ _ _)
    refine Still.trans ?_ (still_wri _ _ _ _)
    exact Still.refl _
  have hv2 : Still s v2 := by
    subst v2
    refine Still.trans ?_ (still_wr _ _ _)
    refine Still.trans ?_ (still_wri _ _ _ _)
    exact hv1
  refine Still.trans ?_ (still_sums _)
  refine Still.trans ?_ (still_estimate _ _ _)
  exact hv2

theorem still_execTestBegin (which : Nat) (s : State) : StillA s (execTestBegin which s) := by
  unfold execTestBegin
  extract_lets v1 v2 v3
  have hv1 : Still s v1 := by
    clear v2 v3
    subst v1
    refine Still.trans ?_ (still_begin _)
    exact Still.refl _
  have hv3 : Still s v3 := by
    subst v3
    refine Still.trans ?_ (still_restOne _ _)
    exact hv1
  refine stillA_ite ?_ ?_
  · refine stillA_next ?_
    exact hv1
  · refine stillA_ite ?_ ?_
    · refine stillA_ite ?_ ?_
      · refine stillA_next ?_
        exact hv1
      · refine stillA_next ?_
        refine still_ite ?_ ?_
        · refine Still.trans ?_ (still_settleMr _)
          refine Still.trans ?_ (still_setWaits _)
          exact hv3
        · exact hv1
    · split
      · refine stillA_next ?_
        exact hv1
      · refine stillA_ite ?_ ?_
        · refine stillA_next ?_
          exact hv1
        · extract_lets v4 v5 v6
          have hv5 : Still s v5 := by
            clear v6
            subst v5
            refine still_ite ?_ ?_
            · exact hv1
            · refine Still.trans ?_ (still_holdTgts _ _)
              exact hv1
          have hv6 : Still s v6 := by
            subst v6
            refine still_mk ?_
            exact hv5
          refine stillA_next ?_
          refine still_ite ?_ ?_
          · refine Still.trans ?_ (still_settleMr _)
            refine Still.trans ?_ (still_setWaits _)
            exact hv6
          · exact hv1

theorem still_execTestStart (h : Nat) (tag : Nat) (cls : Nat) (unit : Nat) (disrupt : Bool) (s : State) : StillA s (execTestStart h tag cls
    unit disrupt s) := by
  unfold execTestStart
  refine stillA_next ?_
  refine Still.trans ?_ (still_adminMp _ _ _ _ _ _ ?_)
  · refine Still.trans ?_ (still_begin _)
    exact Still.refl _
  · intro a1 a2
    refine still_ite ?_ ?_
    · refine Still.trans ?_ (still_finish _ _ _ _ _)
      exact Still.refl _
    · refine still_ite ?_ ?_
      · refine Still.trans ?_ (still_finish _ _ _ _ _)
        exact Still.refl _
      · refine still_ite ?_ ?_
        · refine Still.trans ?_ (still_finish _ _ _ _ _)
          exact Still.refl _
        · refine still_ite ?_ ?_
          · refine Still.trans ?_ (still_finish _ _ _ _ _)
            exact Still.refl _
          · refine still_ite ?_ ?_
            · refine Still.trans ?_ (still_finish _ _ _ _ _)
              exact Still.refl _
            · split
              · refine Still.trans ?_ (still_finish _ _ _ _ _)
                exact Still.refl _
              · extract_lets v3 v4
                have hv4 : Still a1 v4 := by
                  subst v4
                  refine still_mk ?_
                  exact Still.refl _
                refine Still.trans ?_ (still_finish _ _ _ _ _)
                refine Still.trans ?_ (still_settleMr _)
                refine Still.trans ?_ (still_setWaits _)
                exact hv4

theorem keep_execShrCfgEnWrite (n : Nat) (val : Nat) (s : State) : KeepA s (execShrCfgEnWrite n val s) := by
  unfold execShrCfgEnWrite
  refine keepA_next ?_
  refine Keep.trans ?_ (keep_whenDrbg _ _ _ ?_)
  · exact Keep.refl _
  · refine Keep.trans ?_ (keep_cfgWrite _ _ _)
    refine Keep.trans ?_ (still_begin _).keep
    exact Keep.refl _

theorem still_refuseShare (s : State) (k : Ticket) (n : Nat) (why : Nat) : Still s (State.refuseShare s k n why) := by
  unfold State.refuseShare
  refine Still.trans ?_ (still_finish _ _ _ _ _)
  refine Still.trans ?_ (still_wri _ _ _ _)
  exact Still.refl _

theorem still_shareSet (s : State) (k : Ticket) (n : Nat) (flags : Nat) (cfg : Nat) (grants : Nat) : Still s (State.shareSet s k n flags
    cfg grants) := by
  unfold State.shareSet
  refine still_ite ?_ ?_
  · refine Still.trans ?_ (still_refuseShare _ _ _ _)
    exact Still.refl _
  · refine still_ite ?_ ?_
    · refine Still.trans ?_ (still_finish _ _ _ _ _)
      exact Still.refl _
    · extract_lets v1 v2
      have hv1 : Still s v1 := by
        clear v2
        subst v1
        refine still_ite ?_ ?_
        · refine Still.trans ?_ (still_wri _ _ _ _)
          exact Still.refl _
        · exact Still.refl _
      have hv2 : Still s v2 := by
        subst v2
        refine still_ite ?_ ?_
        · refine Still.trans ?_ (still_wri _ _ _ _)
          refine Still.trans ?_ (still_wri _ _ _ _)
          refine Still.trans ?_ (still_wri _ _ _ _)
          exact hv1
        · exact hv1
      refine Still.trans ?_ (still_finish _ _ _ _ _)
      refine Still.trans ?_ (still_settleMr _)
      exact hv2

theorem still_execShareSet (h : Nat) (tag : Nat) (n : Nat) (flags : Nat) (cfg : Nat) (grants : Nat) (s : State) : StillA s (execShareSet h
    tag n flags cfg grants s) := by
  unfold execShareSet
  refine stillA_next ?_
  refine Still.trans ?_ (still_adminOp _ _ _ _ _ ?_)
  · refine Still.trans ?_ (still_begin _)
    exact Still.refl _
  · intro a1 a2
    refine Still.trans ?_ (still_shareSet _ _ _ _ _ _)
    exact Still.refl _

theorem keep_releaseShare (s : State) (n : Nat) : Keep s (State.releaseShare s n) := by
  unfold State.releaseShare
  extract_lets v1
  have hv1 : Keep s v1 := by
    subst v1
    refine Keep.trans ?_ (keep_setIndex _ _ _ _)
    refine Keep.trans ?_ (keep_cleanRange _ _ _)
    exact Keep.refl _
  refine Keep.trans ?_ (still_journal _ _ _).keep
  exact hv1

theorem still_leaveRestore (s : State) (n : Nat) : Still s (State.leaveRestore s n) := by
  unfold State.leaveRestore
  extract_lets v1 v2 v3 v4 v5
  have hv4 : Still s v4 := by
    clear v5
    subst v4
    refine still_mk ?_
    exact Still.refl _
  have hv5 : Still s v5 := by
    subst v5
    refine still_foldl _ ?_ ?_
    · intro a6 a7
      refine Still.trans ?_ (still_answerPoison _ _)
      exact Still.refl _
    · exact hv4
  refine still_ite ?_ ?_
  · exact hv5
  · refine Still.trans ?_ (still_wr _ _ _)
    refine Still.trans ?_ (still_sendFetches _)
    exact hv5

theorem keep_undefineShare (s : State) (n : Nat) : Keep s (State.undefineShare s n) := by
  unfold State.undefineShare
  extract_lets v1 v2 v3 v4 v5 v6 v7
  have hv1 : Keep s v1 := by
    clear v2 v3 v4 v5 v6 v7
    subst v1
    refine Keep.trans ?_ (still_leaveRestore _ _).keep
    exact Keep.refl _
  have hv2 : Keep s v2 := by
    clear v3 v4 v5 v6 v7
    subst v2
    refine keep_ite ?_ ?_
    · refine Keep.trans ?_ (keep_releaseShare _ _)
      exact hv1
    · exact hv1
  have hv3 : Keep s v3 := by
    clear v4 v5 v6 v7
    subst v3
    refine keep_ite ?_ ?_
    · exact hv2
    · refine Keep.trans ?_ (still_leavePair _ _).keep
      exact hv2
  have hv5 : Keep s v5 := by
    clear v6 v7
    subst v5
    refine keep_mkc ?_ fun h => ⟨memZero_wf _ _ h.1, h.2⟩
    exact hv3
  have hv6 : Keep s v6 := by
    clear v7
    subst v6
    refine Keep.trans ?_ (still_commitShare _ _).keep
    refine Keep.trans ?_ (still_setShMode _ _ _).keep
    refine Keep.trans ?_ (still_setShState _ _ _).keep
    exact hv5
  have hv7 : Keep s v7 := by
    subst v7
    iterate 8 refine Keep.trans ?_ (still_wri _ _ _ _).keep
    exact hv6
  refine Keep.trans ?_ (still_settleMr _).keep
  refine Keep.trans ?_ (still_wri _ _ _ _).keep
  refine Keep.trans ?_ (still_wri _ _ _ _).keep
  exact hv7

theorem keep_shareDelete (s : State) (k : Ticket) (n : Nat) : Keep s (State.shareDelete s k n) := by
  unfold State.shareDelete
  extract_lets v1
  refine keep_ite ?_ ?_
  · refine Keep.trans ?_ (still_finish _ _ _ _ _).keep
    exact Keep.refl _
  · refine keep_ite ?_ ?_
    · refine Keep.trans ?_ (still_refuseShare _ _ _ _).keep
      exact Keep.refl _
    · refine keep_ite ?_ ?_
      · refine Keep.trans ?_ (still_refuseShare _ _ _ _).keep
        exact Keep.refl _
      · refine keep_ite ?_ ?_
        · refine Keep.trans ?_ (still_refuseShare _ _ _ _).keep
          exact Keep.refl _
        · refine keep_ite ?_ ?_
          · refine Keep.trans ?_ (still_refuseShare _ _ _ _).keep
            exact Keep.refl _
          · refine keep_ite ?_ ?_
            · refine Keep.trans ?_ (still_refuseShare _ _ _ _).keep
              exact Keep.refl _
            · refine Keep.trans ?_ (still_finish _ _ _ _ _).keep
              refine Keep.trans ?_ (keep_undefineShare _ _)
              exact Keep.refl _

theorem keep_execShareDelete (h : Nat) (tag : Nat) (n : Nat) (s : State) : KeepA s (execShareDelete h tag n s) := by
  unfold execShareDelete
  refine keepA_next ?_
  refine Keep.trans ?_ (keep_adminOp _ _ _ _ _ ?_)
  · refine Keep.trans ?_ (still_begin _).keep
    exact Keep.refl _
  · intro a1 a2
    refine Keep.trans ?_ (keep_shareDelete _ _ _)
    exact Keep.refl _

theorem still_unsealShare (s : State) (k : Ticket) (n : Nat) (slot : Nat) : Still s (State.unsealShare s k n slot) := by
  unfold State.unsealShare
  refine still_ite ?_ ?_
  · refine Still.trans ?_ (still_finish _ _ _ _ _)
    exact Still.refl _
  · refine still_ite ?_ ?_
    · refine Still.trans ?_ (still_refuseShare _ _ _ _)
      exact Still.refl _
    · refine still_ite ?_ ?_
      · refine Still.trans ?_ (still_refuseShare _ _ _ _)
        exact Still.refl _
      · refine still_ite ?_ ?_
        · refine Still.trans ?_ (still_refuseShare _ _ _ _)
          exact Still.refl _
        · refine still_ite ?_ ?_
          · refine Still.trans ?_ (still_refuseShare _ _ _ _)
            exact Still.refl _
          · refine still_ite ?_ ?_
            · refine Still.trans ?_ (still_refuseShare _ _ _ _)
              exact Still.refl _
            · refine still_ite ?_ ?_
              · refine Still.trans ?_ (still_refuseShare _ _ _ _)
                exact Still.refl _
              · refine still_ite ?_ ?_
                · refine Still.trans ?_ (still_refuseShare _ _ _ _)
                  refine Still.trans ?_ (still_failedCheck _)
                  exact Still.refl _
                · extract_lets v1 v2 v3
                  have hv3 : Still s v3 := by
                    subst v3
                    refine still_mk ?_
                    exact Still.refl _
                  refine Still.trans ?_ (still_finish _ _ _ _ _)
                  refine Still.trans ?_ (still_settleKeys _)
                  refine Still.trans ?_ (still_commitMode _ _ _)
                  exact hv3

theorem still_execShareUnseal (h : Nat) (tag : Nat) (n : Nat) (slot : Nat) (s : State) : StillA s (execShareUnseal h tag n slot s) := by
  unfold execShareUnseal
  refine stillA_next ?_
  refine Still.trans ?_ (still_adminOp _ _ _ _ _ ?_)
  · refine Still.trans ?_ (still_begin _)
    exact Still.refl _
  · intro a1 a2
    refine Still.trans ?_ (still_unsealShare _ _ _ _)
    exact Still.refl _

theorem still_execSealCommit (n : Nat) (s : State) : StillA s (execSealCommit n s) := by
  unfold execSealCommit
  extract_lets v1 v2 v3 v4 v5 v6
  have hv1 : Still s v1 := by
    clear v2 v3 v4 v5 v6
    subst v1
    refine Still.trans ?_ (still_begin _)
    exact Still.refl _
  have hv5 : Still s v5 := by
    clear v6
    subst v5
    refine still_mk ?_
    exact hv1
  have hv6 : Still s v6 := by
    subst v6
    refine Still.trans ?_ (still_settleKeys _)
    refine Still.trans ?_ (still_commitMode _ _ _)
    refine Still.trans ?_ (still_setShState _ _ _)
    refine Still.trans ?_ (still_endChange _ _)
    exact hv5
  refine stillA_ite ?_ ?_
  · split
    · refine stillA_next ?_
      refine Still.trans ?_ (still_finish _ _ _ _ _)
      exact hv6
    · refine stillA_next ?_
      exact hv6
  · refine stillA_next ?_
    exact hv1

theorem still_sealShare (s : State) (k : Ticket) (n : Nat) (owner : Bool) : Still s (State.sealShare s k n owner) := by
  unfold State.sealShare
  extract_lets v1 v2 v3 v4 v5
  have hv4 : Still s v4 := by
    clear v5
    subst v4
    refine still_mk ?_
    exact Still.refl _
  have hv5 : Still s v5 := by
    subst v5
    refine Still.trans ?_ (still_setShState _ _ _)
    refine Still.trans ?_ (still_wri _ _ _ _)
    refine Still.trans ?_ (still_wri _ _ _ _)
    exact hv4
  refine still_ite ?_ ?_
  · refine Still.trans ?_ (still_finish _ _ _ _ _)
    exact Still.refl _
  · refine still_ite ?_ ?_
    · refine Still.trans ?_ (still_refuseShare _ _ _ _)
      exact Still.refl _
    · refine still_ite ?_ ?_
      · refine Still.trans ?_ (still_refuseShare _ _ _ _)
        exact Still.refl _
      · refine still_ite ?_ ?_
        · refine Still.trans ?_ (still_refuseShare _ _ _ _)
          exact Still.refl _
        · refine still_ite ?_ ?_
          · refine Still.trans ?_ (still_refuseShare _ _ _ _)
            exact Still.refl _
          · refine still_ite ?_ ?_
            · refine Still.trans ?_ (still_refuseShare _ _ _ _)
              exact Still.refl _
            · refine still_ite ?_ ?_
              · refine Still.trans ?_ (still_refuseShare _ _ _ _)
                exact Still.refl _
              · refine Still.trans ?_ (still_keepTicket _ _)
                exact hv5

theorem still_execShareSeal (h : Nat) (tag : Nat) (n : Nat) (owner : Bool) (s : State) : StillA s (execShareSeal h tag n owner s) := by
  unfold execShareSeal
  refine stillA_next ?_
  refine Still.trans ?_ (still_adminOp _ _ _ _ _ ?_)
  · refine Still.trans ?_ (still_begin _)
    exact Still.refl _
  · intro a1 a2
    refine Still.trans ?_ (still_sealShare _ _ _ _)
    exact Still.refl _

theorem still_promote (s : State) (k : Ticket) (n : Nat) : Still s (State.promote s k n) := by
  unfold State.promote
  refine still_ite ?_ ?_
  · refine Still.trans ?_ (still_finish _ _ _ _ _)
    exact Still.refl _
  · refine still_ite ?_ ?_
    · refine Still.trans ?_ (still_refuseShare _ _ _ _)
      exact Still.refl _
    · refine still_ite ?_ ?_
      · refine Still.trans ?_ (still_refuseShare _ _ _ _)
        exact Still.refl _
      · refine still_ite ?_ ?_
        · refine Still.trans ?_ (still_refuseShare _ _ _ _)
          exact Still.refl _
        · refine still_ite ?_ ?_
          · refine Still.trans ?_ (still_refuseShare _ _ _ _)
            exact Still.refl _
          · extract_lets v1 v2
            have hv2 : Still s v2 := by
              subst v2
              refine Still.trans ?_ (still_setPair _ _ _)
              exact Still.refl _
            refine Still.trans ?_ (still_finish _ _ _ _ _)
            refine Still.trans ?_ (still_event _ _ _)
            refine Still.trans ?_ (still_commitMode _ _ _)
            exact hv2

theorem still_execPromote (h : Nat) (tag : Nat) (n : Nat) (s : State) : StillA s (execPromote h tag n s) := by
  unfold execPromote
  refine stillA_next ?_
  refine Still.trans ?_ (still_adminOp _ _ _ _ _ ?_)
  · refine Still.trans ?_ (still_begin _)
    exact Still.refl _
  · intro a1 a2
    refine still_ite ?_ ?_
    · refine Still.trans ?_ (still_promote _ _ _)
      exact Still.refl _
    · refine Still.trans ?_ (still_keepTicket _ _)
      exact Still.refl _

theorem still_execFullSyncCommit (n : Nat) (s : State) : StillA s (execFullSyncCommit n s) := by
  unfold execFullSyncCommit
  extract_lets v1 v2 v3 v4 v5
  have hv1 : Still s v1 := by
    clear v2 v3 v4 v5
    subst v1
    refine Still.trans ?_ (still_begin _)
    exact Still.refl _
  have hv3 : Still s v3 := by
    clear v4 v5
    subst v3
    refine still_mk ?_
    exact hv1
  have hv4 : Still s v4 := by
    clear v5
    subst v4
    refine Still.trans ?_ (still_setShState _ _ _)
    refine Still.trans ?_ (still_endChange _ _)
    refine Still.trans ?_ (still_setLossrep _ _ _)
    refine Still.trans ?_ (still_setPstate _ _ _)
    exact hv3
  have hv5 : Still s v5 := by
    subst v5
    refine Still.trans ?_ (still_copyEnded _ _)
    refine Still.trans ?_ (still_commitMode _ _ _)
    exact hv4
  split
  · refine stillA_next ?_
    exact hv1
  · refine stillA_ite ?_ ?_
    · split
      · refine stillA_next ?_
        refine Still.trans ?_ (still_finish _ _ _ _ _)
        exact hv5
      · refine stillA_next ?_
        exact hv5
    · refine stillA_next ?_
      exact hv1

theorem still_takeDesig (s : State) (n : Nat) (d : Desig) (p : Nat) : Still s (State.takeDesig s n d p) := by
  unfold State.takeDesig
  extract_lets v1 v2
  have hv2 : Still s v2 := by
    subst v2
    refine still_mk ?_
    exact Still.refl _
  refine Still.trans ?_ (still_setPair _ _ _)
  exact hv2

theorem keep_shareMode (s : State) (k : Ticket) (n : Nat) (target : Nat) (peer : Option Nat) : Keep s (State.shareMode s k n target peer) := by
  unfold State.shareMode
  extract_lets v1
  refine keep_ite ?_ ?_
  · refine Keep.trans ?_ (still_finish _ _ _ _ _).keep
    exact Keep.refl _
  · refine keep_ite ?_ ?_
    · refine Keep.trans ?_ (still_refuseShare _ _ _ _).keep
      exact Keep.refl _
    · refine keep_ite ?_ ?_
      · refine Keep.trans ?_ (still_refuseShare _ _ _ _).keep
        exact Keep.refl _
      · refine keep_ite ?_ ?_
        · refine Keep.trans ?_ (still_refuseShare _ _ _ _).keep
          exact Keep.refl _
        · refine keep_ite ?_ ?_
          · refine Keep.trans ?_ (still_refuseShare _ _ _ _).keep
            exact Keep.refl _
          · refine keep_ite ?_ ?_
            · refine keep_ite ?_ ?_
              · refine Keep.trans ?_ (still_refuseShare _ _ _ _).keep
                exact Keep.refl _
              · refine Keep.trans ?_ (still_finish _ _ _ _ _).keep
                refine Keep.trans ?_ (still_commitMode _ _ _).keep
                refine Keep.trans ?_ (keep_zeroShare _ _)
                refine Keep.trans ?_ (still_newKgen _ _).keep
                exact Keep.refl _
            · refine keep_ite ?_ ?_
              · refine keep_ite ?_ ?_
                · refine Keep.trans ?_ (still_refuseShare _ _ _ _).keep
                  exact Keep.refl _
                · refine Keep.trans ?_ (still_finish _ _ _ _ _).keep
                  refine Keep.trans ?_ (still_commitMode _ _ _).keep
                  refine Keep.trans ?_ (keep_releaseShare _ _)
                  exact Keep.refl _
              · refine keep_ite ?_ ?_
                · refine keep_ite ?_ ?_
                  · refine Keep.trans ?_ (still_finish _ _ _ _ _).keep
                    refine Keep.trans ?_ (still_commitMode _ _ _).keep
                    refine Keep.trans ?_ (still_leavePair _ _).keep
                    refine Keep.trans ?_ (keep_releaseShare _ _)
                    exact Keep.refl _
                  · refine Keep.trans ?_ (still_refuseShare _ _ _ _).keep
                    exact Keep.refl _
                · refine keep_ite ?_ ?_
                  · refine keep_ite ?_ ?_
                    · refine Keep.trans ?_ (still_refuseShare _ _ _ _).keep
                      exact Keep.refl _
                    · split
                      · refine Keep.trans ?_ (still_refuseShare _ _ _ _).keep
                        exact Keep.refl _
                      · refine keep_ite ?_ ?_
                        · refine Keep.trans ?_ (still_refuseShare _ _ _ _).keep
                          exact Keep.refl _
                        · extract_lets v2 v3 v4
                          have hv2 : Keep s v2 := by
                            clear v3 v4
                            subst v2
                            refine Keep.trans ?_ (still_setShState _ _ _).keep
                            refine Keep.trans ?_ (still_wri _ _ _ _).keep
                            refine Keep.trans ?_ (still_wri _ _ _ _).keep
                            refine Keep.trans ?_ (still_takeDesig _ _ _ _).keep
                            exact Keep.refl _
                          have hv4 : Keep s v4 := by
                            subst v4
                            refine keep_mk ?_
                            exact hv2
                          refine Keep.trans ?_ (still_copyNext _).keep
                          refine Keep.trans ?_ (still_keepTicket _ _).keep
                          exact hv4
                  · refine keep_ite ?_ ?_
                    · refine Keep.trans ?_ (still_finish _ _ _ _ _).keep
                      refine Keep.trans ?_ (still_untwine _ _).keep
                      exact Keep.refl _
                    · refine Keep.trans ?_ (still_finish _ _ _ _ _).keep
                      refine Keep.trans ?_ (still_commitMode _ _ _).keep
                      exact Keep.refl _

theorem still_pairLater (s : State) (k : Ticket) (c : Instr) : Still s (State.pairLater s k c) := by
  unfold State.pairLater
  extract_lets v1 v2
  have hv1 : Still s v1 := by
    clear v2
    subst v1
    refine Still.trans ?_ (still_keepTicket _ _)
    exact Still.refl _
  refine still_mk ?_
  exact hv1

theorem keep_execShareMode (h : Nat) (tag : Nat) (n : Nat) (target : Nat) (peer : Option Nat) (s : State) : KeepA s (execShareMode h tag n
    target peer s) := by
  unfold execShareMode
  refine keepA_next ?_
  refine Keep.trans ?_ (keep_whenDrbg _ _ _ ?_)
  · exact Keep.refl _
  · refine Keep.trans ?_ (keep_adminOp _ _ _ _ _ ?_)
    · refine Keep.trans ?_ (still_begin _).keep
      exact Keep.refl _
    · intro a1 a2
      refine keep_ite ?_ ?_
      · refine Keep.trans ?_ (still_pairLater _ _ _).keep
        exact Keep.refl _
      · refine Keep.trans ?_ (keep_shareMode _ _ _ _ _)
        exact Keep.refl _

theorem keep_shareCreate (s : State) (k : Ticket) (n : Nat) (base : Nat) (size : Nat) (cfg : Nat) (grants : Nat) (peer : Option Nat) : Keep
    s (State.shareCreate s k n base size cfg grants peer) := by
  unfold State.shareCreate
  extract_lets v1 v2
  have hv2 : Keep s v2 := by
    subst v2
    refine Keep.trans ?_ (still_setShareRegs _ _ _ _ _ _ _ _ _).keep
    exact Keep.refl _
  refine keep_ite ?_ ?_
  · refine Keep.trans ?_ (still_refuseShare _ _ _ _).keep
    exact Keep.refl _
  · refine keep_ite ?_ ?_
    · refine Keep.trans ?_ (still_refuseShare _ _ _ _).keep
      exact Keep.refl _
    · refine keep_ite ?_ ?_
      · refine Keep.trans ?_ (still_refuseShare _ _ _ _).keep
        exact Keep.refl _
      · refine keep_ite ?_ ?_
        · refine Keep.trans ?_ (still_refuseShare _ _ _ _).keep
          exact Keep.refl _
        · refine keep_ite ?_ ?_
          · refine Keep.trans ?_ (still_refuseShare _ _ _ _).keep
            exact Keep.refl _
          · refine keep_ite ?_ ?_
            · refine Keep.trans ?_ (still_refuseShare _ _ _ _).keep
              exact Keep.refl _
            · refine keep_ite ?_ ?_
              · refine Keep.trans ?_ (still_finish _ _ _ _ _).keep
                refine Keep.trans ?_ (keep_defineShare _ _ _)
                exact hv2
              · refine keep_ite ?_ ?_
                · refine Keep.trans ?_ (still_refuseShare _ _ _ _).keep
                  exact Keep.refl _
                · split
                  · refine Keep.trans ?_ (still_refuseShare _ _ _ _).keep
                    exact Keep.refl _
                  · extract_lets v3 v4
                    have hv4 : Keep s v4 := by
                      subst v4
                      refine Keep.trans ?_ (keep_defineShare _ _ _)
                      refine Keep.trans ?_ (still_takeDesig _ _ _ _).keep
                      exact hv2
                    refine keep_ite ?_ ?_
                    · refine Keep.trans ?_ (still_refuseShare _ _ _ _).keep
                      exact Keep.refl _
                    · refine Keep.trans ?_ (still_finish _ _ _ _ _).keep
                      refine Keep.trans ?_ (still_sendSeq _ _ _).keep
                      exact hv4

theorem keep_execShareCreate (h : Nat) (tag : Nat) (n : Nat) (base : Nat) (size : Nat) (cfg : Nat) (grants : Nat) (peer : Option Nat) (s :
    State) : KeepA s (execShareCreate h tag n base size cfg grants peer s) := by
  unfold execShareCreate
  refine keepA_next ?_
  refine Keep.trans ?_ (keep_whenDrbg _ _ _ ?_)
  · exact Keep.refl _
  · refine Keep.trans ?_ (keep_adminOp _ _ _ _ _ ?_)
    · refine Keep.trans ?_ (still_begin _).keep
      exact Keep.refl _
    · intro a1 a2
      refine keep_ite ?_ ?_
      · refine Keep.trans ?_ (still_pairLater _ _ _).keep
        exact Keep.refl _
      · refine Keep.trans ?_ (keep_shareCreate _ _ _ _ _ _ _ _)
        exact Keep.refl _

theorem still_reportRead (s : State) (h : Nat) (k : Ticket) (kind : Nat) (first : Nat) (buf : Nat) (len : Nat) : Still s (State.reportRead
    s h k kind first buf len) := by
  unfold State.reportRead
  refine still_ite ?_ ?_
  · refine Still.trans ?_ (still_finish _ _ _ _ _)
    exact Still.refl _
  · extract_lets v1 v2
    refine Still.trans ?_ (still_finish _ _ _ _ _)
    refine Still.trans ?_ (still_send _ _)
    exact Still.refl _

theorem still_execReportRead (h : Nat) (tag : Nat) (kind : Nat) (first : Nat) (buf : Nat) (len : Nat) (s : State) : StillA s
    (execReportRead h tag kind first buf len s) := by
  unfold execReportRead
  refine stillA_next ?_
  refine Still.trans ?_ (still_adminOp _ _ _ _ _ ?_)
  · refine Still.trans ?_ (still_begin _)
    exact Still.refl _
  · intro a1 a2
    refine Still.trans ?_ (still_reportRead _ _ _ _ _ _ _)
    exact Still.refl _

theorem still_queueDelete (s : State) (h : Nat) (k : Ticket) (qid : Nat) : Still s (State.queueDelete s h k qid) := by
  unfold State.queueDelete
  refine still_ite ?_ ?_
  · refine Still.trans ?_ (still_finish _ _ _ _ _)
    exact Still.refl _
  · refine still_ite ?_ ?_
    · refine Still.trans ?_ (still_finish _ _ _ _ _)
      exact Still.refl _
    · refine still_ite ?_ ?_
      · refine Still.trans ?_ (still_finish _ _ _ _ _)
        exact Still.refl _
      · extract_lets v1
        refine Still.trans ?_ (still_finish _ _ _ _ _)
        refine Still.trans ?_ (still_deleteQueue _ _)
        exact Still.refl _

theorem still_execQueueDelete (h : Nat) (tag : Nat) (qid : Nat) (s : State) : StillA s (execQueueDelete h tag qid s) := by
  unfold execQueueDelete
  refine stillA_next ?_
  refine Still.trans ?_ (still_adminOp _ _ _ _ _ ?_)
  · refine Still.trans ?_ (still_begin _)
    exact Still.refl _
  · intro a1 a2
    refine Still.trans ?_ (still_queueDelete _ _ _ _)
    exact Still.refl _

theorem still_queueCreate (s : State) (h : Nat) (k : Ticket) (qid : Nat) (sqb : Nat) (cqb : Nat) (cfg : Nat) : Still s (State.queueCreate s
    h k qid sqb cqb cfg) := by
  unfold State.queueCreate
  refine still_ite ?_ ?_
  · refine Still.trans ?_ (still_finish _ _ _ _ _)
    exact Still.refl _
  · refine still_ite ?_ ?_
    · refine Still.trans ?_ (still_finish _ _ _ _ _)
      exact Still.refl _
    · refine still_ite ?_ ?_
      · refine Still.trans ?_ (still_finish _ _ _ _ _)
        exact Still.refl _
      · refine Still.trans ?_ (still_finish _ _ _ _ _)
        refine Still.trans ?_ (still_setQueue _ _ _)
        exact Still.refl _

theorem still_execQueueCreate (h : Nat) (tag : Nat) (qid : Nat) (sqb : Nat) (cqb : Nat) (cfg : Nat) (s : State) : StillA s (execQueueCreate
    h tag qid sqb cqb cfg s) := by
  unfold execQueueCreate
  refine stillA_next ?_
  refine Still.trans ?_ (still_adminOp _ _ _ _ _ ?_)
  · refine Still.trans ?_ (still_begin _)
    exact Still.refl _
  · intro a1 a2
    refine Still.trans ?_ (still_queueCreate _ _ _ _ _ _ _)
    exact Still.refl _

theorem still_ioEntry (s : State) (q : Nat) (tag : Nat) (share : Nat) (level : Nat) (u : Bool) (f : State → State) (hf : ∀ z0, Still z0 (f
    z0)) : Still s (State.ioEntry s q tag share level u f) := by
  unfold State.ioEntry
  refine still_ite ?_ ?_
  · split
    rename_i w1 w2 w3 w4
    have hw2 : Still s w2 := by
      refine still_fst ?_ w4
      refine Still.trans ?_ (still_newTicket _ _ _ _ _ _ _ _)
      exact Still.refl _
    refine Still.trans ?_ (still_finish _ _ _ _ _)
    exact hw2
  · refine Still.trans ?_ (hf _)
    exact Still.refl _

theorem keep_ioEntry (s : State) (q : Nat) (tag : Nat) (share : Nat) (level : Nat) (u : Bool) (f : State → State) (hf : ∀ z0, Keep z0 (f
    z0)) : Keep s (State.ioEntry s q tag share level u f) := by
  unfold State.ioEntry
  refine keep_ite ?_ ?_
  · split
    rename_i w1 w2 w3 w4
    have hw2 : Keep s w2 := by
      refine keep_fst ?_ w4
      refine Keep.trans ?_ (still_newTicket _ _ _ _ _ _ _ _).keep
      exact Keep.refl _
    refine Keep.trans ?_ (still_finish _ _ _ _ _).keep
    exact hw2
  · refine Keep.trans ?_ (hf _)
    exact Keep.refl _

theorem still_execProbe (q : Nat) (tag : Nat) (share : Nat) (off : Nat) (len : Nat) (u : Bool) (s : State) : StillA s (execProbe q tag
    share off len u s) := by
  unfold execProbe
  refine stillA_next ?_
  refine Still.trans ?_ (still_takeEntry _ _ _ ?_)
  · refine Still.trans ?_ (still_begin _)
    exact Still.refl _
  · intro a1
    refine Still.trans ?_ (still_ioEntry _ _ _ _ _ _ _ ?_)
    · exact Still.refl _
    · intro a2
      refine Still.trans ?_ (still_takeProbe _ _ _ _ _ _ _ _ _)
      exact Still.refl _

theorem keep_releaseAbsent (s : State) (lo : Nat) (hi : Nat) : Keep s (State.releaseAbsent s lo hi) := by
  unfold State.releaseAbsent
  extract_lets v1 v2 v3 v4
  have hv3 : Keep s v3 := by
    clear v4
    subst v3
    refine keep_mk ?_
    exact Keep.refl _
  have hv4 : Keep s v4 := by
    subst v4
    refine keep_foldl _ ?_ ?_
    · intro a5 a6
      refine Keep.trans ?_ (keep_cleanLines _ _ _)
      exact Keep.refl _
    · exact hv3
  refine keep_ite ?_ ?_
  · exact Keep.refl _
  · refine Keep.trans ?_ (still_addi _ _ _ _).keep
    exact hv4

theorem keep_walkRange (s : State) (lo : Nat) (hi : Nat) : Keep s (State.walkRange s lo hi) := by
  unfold State.walkRange
  extract_lets v1 v2 v3 v4 v5 v6 v7
  have hv6 : Keep s v6 := by
    clear v7
    subst v6
    refine keep_mk ?_
    exact Keep.refl _
  have hv7 : Keep s v7 := by
    subst v7
    refine keep_foldl _ ?_ ?_
    · intro a8 a9
      refine Keep.trans ?_ (keep_releaseAbsent _ _ _)
      refine Keep.trans ?_ (still_voidSlots _ _ _).keep
      refine Keep.trans ?_ (still_satisfy _ _ _ _).keep
      exact Keep.refl _
    · exact hv6
  refine Keep.trans ?_ (still_addi _ _ _ _).keep
  exact hv7

theorem still_logReleased (s : State) (share : Nat) (lo : Nat) (hi : Nat) (kept : Segs UnitSt) : Still s (State.logReleased s share lo hi
    kept) := by
  unfold State.logReleased
  refine still_foldl _ ?_ ?_
  · intro a1 a2
    refine Still.trans ?_ (still_journal _ _ _)
    exact Still.refl _
  · exact Still.refl _

theorem keep_execReleaseWalkEnd (r : Nat) (s : State) : KeepA s (execReleaseWalkEnd r s) := by
  unfold execReleaseWalkEnd
  extract_lets v1 v2 v3
  have hv1 : Keep s v1 := by
    clear v2 v3
    subst v1
    refine Keep.trans ?_ (still_begin _).keep
    exact Keep.refl _
  have hv3 : Keep s v3 := by
    subst v3
    refine keep_mk ?_
    exact hv1
  split
  · refine keepA_next ?_
    exact hv1
  · refine keepA_ite ?_ ?_
    · refine keepA_next ?_
      exact hv1
    · extract_lets v4 v5 v6 v7 v8
      have hv6 : Keep s v6 := by
        clear v7 v8
        subst v6
        refine Keep.trans ?_ (still_logReleased _ _ _ _ _).keep
        refine Keep.trans ?_ (keep_walkRange _ _ _)
        exact hv3
      have hv7 : Keep s v7 := by
        clear v8
        subst v7
        split
        · refine Keep.trans ?_ (still_finish _ _ _ _ _).keep
          exact hv6
        · exact hv6
      have hv8 : Keep s v8 := by
        subst v8
        refine Keep.trans ?_ (still_settleMr _).keep
        refine Keep.trans ?_ (still_flushFlash _ _).keep
        exact hv7
      refine keepA_next ?_
      refine keep_ite ?_ ?_
      · refine Keep.trans ?_ (still_settleShares _).keep
        exact hv8
      · exact hv8

theorem still_startWalk (s : State) (r : Nat) (t : Ticket) : Still s (State.startWalk s r t) := by
  unfold State.startWalk
  extract_lets v1 v2 v3
  have hv1 : Still s v1 := by
    clear v2 v3
    subst v1
    refine still_mk ?_
    exact Still.refl _
  have hv3 : Still s v3 := by
    subst v3
    refine Still.trans ?_ (still_setQueue _ _ _)
    exact hv1
  refine still_ite ?_ ?_
  · refine Still.trans ?_ (still_sendSeq _ _ _)
    exact hv3
  · exact hv3

theorem still_execReleaseCapture (q : Nat) (seq : Nat) (s : State) : StillA s (execReleaseCapture q seq s) := by
  unfold execReleaseCapture
  extract_lets v1
  have hv1 : Still s v1 := by
    subst v1
    refine Still.trans ?_ (still_begin _)
    exact Still.refl _
  split
  · refine stillA_next ?_
    exact hv1
  · split
    · refine stillA_next ?_
      exact hv1
    · refine stillA_ite ?_ ?_
      · refine stillA_next ?_
        exact hv1
      · extract_lets v2
        have hv2 : Still s v2 := by
          subst v2
          refine Still.trans ?_ (still_startWalk _ _ _)
          exact hv1
        refine stillA_next ?_
        refine still_ite ?_ ?_
        · refine Still.trans ?_ (still_event _ _ _)
          exact hv2
        · exact hv2

theorem still_takeRelease (s : State) (q : Nat) (tag : Nat) (share : Nat) (off : Nat) (len : Nat) (u : Bool) : Still s (State.takeRelease s
    q tag share off len u) := by
  unfold State.takeRelease
  extract_lets v1
  split
  rename_i w2 w3 w4 w5
  have hw3 : Still s w3 := by
    refine still_fst ?_ w5
    refine Still.trans ?_ (still_newTicket _ _ _ _ _ _ _ _)
    exact Still.refl _
  split
  · refine Still.trans ?_ (still_finish _ _ _ _ _)
    exact hw3
  · split
    rename_i w6 w7 w8 w9
    extract_lets v10 v11 v12
    have hv12 : Still s v12 := by
      subst v12
      refine Still.trans ?_ (still_keepTicket _ _)
      refine Still.trans ?_ (still_setQueue _ _ _)
      exact hw3
    split
    · refine still_ite ?_ ?_
      · exact hv12
      · refine Still.trans ?_ (still_startWalk _ _ _)
        exact hv12
    · exact hv12

theorem still_execRelease (q : Nat) (tag : Nat) (share : Nat) (off : Nat) (len : Nat) (u : Bool) (s : State) : StillA s (execRelease q tag
    share off len u s) := by
  unfold execRelease
  refine stillA_next ?_
  refine Still.trans ?_ (still_takeEntry _ _ _ ?_)
  · refine Still.trans ?_ (still_begin _)
    exact Still.refl _
  · intro a1
    refine Still.trans ?_ (still_ioEntry _ _ _ _ _ _ _ ?_)
    · exact Still.refl _
    · intro a2
      refine Still.trans ?_ (still_takeRelease _ _ _ _ _ _ _)
      exact Still.refl _

theorem still_execFence (q : Nat) (tag : Nat) (b : Bool) (u : Bool) (s : State) : StillA s (execFence q tag b u s) := by
  unfold execFence
  refine stillA_next ?_
  refine Still.trans ?_ (still_takeEntry _ _ _ ?_)
  · refine Still.trans ?_ (still_begin _)
    exact Still.refl _
  · intro a1
    refine Still.trans ?_ (still_ioEntry _ _ _ _ _ _ _ ?_)
    · exact Still.refl _
    · intro a2
      refine Still.trans ?_ (still_captureFence _ _ _ _ _ _ _ _)
      exact Still.refl _

theorem keep_execCommit (q : Nat) (tag : Nat) (share : Nat) (level : Nat) (off : Nat) (len : Nat) (u : Bool) (s : State) : KeepA s
    (execCommit q tag share level off len u s) := by
  unfold execCommit
  refine keepA_next ?_
  refine Keep.trans ?_ (keep_takeEntry _ _ _ ?_)
  · refine Keep.trans ?_ (still_begin _).keep
    exact Keep.refl _
  · intro a1
    refine Keep.trans ?_ (keep_ioEntry _ _ _ _ _ _ _ ?_)
    · exact Keep.refl _
    · intro a2
      refine Keep.trans ?_ (keep_captureCommit _ _ _ _ _ _ _ _ _)
      exact Keep.refl _

theorem still_execInterruptAggregationTimeout (q : Nat) (s : State) : StillA s (execInterruptAggregationTimeout q s) := by
  unfold execInterruptAggregationTimeout
  extract_lets v1 v2
  have hv1 : Still s v1 := by
    clear v2
    subst v1
    refine Still.trans ?_ (still_begin _)
    exact Still.refl _
  refine stillA_ite ?_ ?_
  · refine stillA_next ?_
    refine Still.trans ?_ (still_signalQueue _ _)
    exact hv1
  · refine stillA_next ?_
    exact hv1

theorem still_faultEntry (s : State) (q : Nat) (d : Desc) (why : Nat) : Still s (State.faultEntry s q d why) := by
  unfold State.faultEntry
  refine Still.trans ?_ (still_takeEntry _ _ _ ?_)
  · exact Still.refl _
  · intro a1
    split
    rename_i w2 w3 w4 w5
    have hw3 : Still a1 w3 := by
      refine still_fst ?_ w5
      refine Still.trans ?_ (still_newTicket _ _ _ _ _ _ _ _)
      exact Still.refl _
    refine Still.trans ?_ (still_finish _ _ _ _ _)
    exact hw3

theorem keep_ioAnswer (q : Nat) (d : Desc) (s : State) : KeepA s (ioAnswer q d s) := by
  unfold ioAnswer
  extract_lets v1 v2
  refine keepA_ite ?_ ?_
  · refine keepA_trans ?_ (keep_execCommit _ _ _ _ _ _ _ _)
    exact Keep.refl _
  · refine keepA_ite ?_ ?_
    · refine keepA_trans ?_ (still_execFence _ _ _ _ _).keep
      exact Keep.refl _
    · refine keepA_ite ?_ ?_
      · refine keepA_trans ?_ (still_execRelease _ _ _ _ _ _ _).keep
        exact Keep.refl _
      · refine keepA_trans ?_ (still_execProbe _ _ _ _ _ _ _).keep
        exact Keep.refl _

theorem keep_adminAnswer (h : Nat) (d : Desc) (s : State) : KeepA s (adminAnswer h d s) := by
  unfold adminAnswer
  extract_lets v1 v2 v3
  split
  · refine keepA_trans ?_ (still_execQueueCreate _ _ _ _ _ _ _).keep
    exact Keep.refl _
  · refine keepA_trans ?_ (still_execQueueDelete _ _ _ _).keep
    exact Keep.refl _
  · refine keepA_trans ?_ (still_execReportRead _ _ _ _ _ _ _).keep
    exact Keep.refl _
  · refine keepA_trans ?_ (keep_execShareCreate _ _ _ _ _ _ _ _ _)
    exact Keep.refl _
  · refine keepA_trans ?_ (keep_execShareMode _ _ _ _ _ _)
    exact Keep.refl _
  · refine keepA_trans ?_ (still_execPromote _ _ _ _).keep
    exact Keep.refl _
  · refine keepA_trans ?_ (still_execShareSeal _ _ _ _ _).keep
    exact Keep.refl _
  · refine keepA_trans ?_ (still_execShareUnseal _ _ _ _ _).keep
    exact Keep.refl _
  · refine keepA_trans ?_ (keep_execShareDelete _ _ _ _)
    exact Keep.refl _
  · refine keepA_trans ?_ (still_execShareSet _ _ _ _ _ _ _).keep
    exact Keep.refl _
  · refine keepA_trans ?_ (still_execTestStart _ _ _ _ _ _).keep
    exact Keep.refl _
  · refine keepA_trans ?_ (still_execTestStatus _ _ _ _).keep
    exact Keep.refl _
  · refine keepA_trans ?_ (still_execTestAbort _ _ _ _).keep
    exact Keep.refl _
  · refine keepA_trans ?_ (still_execPackTest _ _ _ _ _ _).keep
    exact Keep.refl _
  · refine keepA_trans ?_ (still_execPackPause _ _ _ _ _).keep
    exact Keep.refl _
  · refine keepA_trans ?_ (still_execPackStatus _ _ _ _).keep
    exact Keep.refl _
  · refine keepA_trans ?_ (still_execPackRelease _ _ _ _ _).keep
    exact Keep.refl _
  · refine keepA_trans ?_ (still_execFwStage _ _ _ _ _ _ _ _).keep
    refine keep_mk ?_
    exact Keep.refl _
  · refine keepA_trans ?_ (still_execFwActivate _ _ _ _).keep
    exact Keep.refl _
  · refine keepA_trans ?_ (still_execFwStatus _ _ _).keep
    exact Keep.refl _
  · refine keepA_trans ?_ (still_execSpReload _ _ _ _).keep
    exact Keep.refl _
  · refine keepA_trans ?_ (still_execMpRestart _ _ _).keep
    exact Keep.refl _

theorem keep_takeDesc (s : State) (q : Nat) (d : Desc) : Keep s (State.takeDesc s q d) := by
  unfold State.takeDesc
  extract_lets v1 v2 v3
  have hv3 : Keep s v3 := by
    subst v3
    refine Keep.trans ?_ (still_setQueue _ _ _).keep
    exact Keep.refl _
  refine keep_ite ?_ ?_
  · exact Keep.refl _
  · refine keep_ite ?_ ?_
    · refine Keep.trans ?_ (still_faultEntry _ _ _ _).keep
      exact Keep.refl _
    · refine keep_ite ?_ ?_
      · refine Keep.trans ?_ (still_faultEntry _ _ _ _).keep
        exact Keep.refl _
      · refine keep_ite ?_ ?_
        · refine Keep.trans ?_ (still_faultEntry _ _ _ _).keep
          exact Keep.refl _
        · refine keep_act ?_ ?_
          · exact hv3
          · refine keepA_ite ?_ ?_
            · refine keepA_trans ?_ (keep_adminAnswer _ _ _)
              exact Keep.refl _
            · refine keepA_trans ?_ (keep_ioAnswer _ _ _)
              exact Keep.refl _

theorem keep_releaseInline (s : State) (q : Nat) : Keep s (State.releaseInline s q) := by
  unfold State.releaseInline
  split
  · exact Keep.refl _
  · refine keep_ite ?_ ?_
    · refine Keep.trans ?_ (keep_captureInline _ _ _ _)
      refine Keep.trans ?_ (still_setQueue _ _ _).keep
      exact Keep.refl _
    · exact Keep.refl _

theorem keep_turnFetch (s : State) (ds : List Desc) (fail : Nat) : Keep s (State.turnFetch s ds fail) := by
  unfold State.turnFetch
  split
  · exact Keep.refl _
  · extract_lets v1 v2 v3 v4 v5 v6
    have hv1 : Keep s v1 := by
      clear v2 v3 v4 v5 v6
      subst v1
      refine keep_mk ?_
      exact Keep.refl _
    have hv2 : Keep s v2 := by
      clear v3 v4 v5 v6
      subst v2
      refine Keep.trans ?_ (keep_releaseInline _ _)
      exact hv1
    have hv5 : Keep s v5 := by
      clear v6
      subst v5
      refine keep_foldl _ ?_ ?_
      · intro a7 a8
        refine Keep.trans ?_ (keep_takeDesc _ _ _)
        exact Keep.refl _
      · exact hv1
    have hv6 : Keep s v6 := by
      subst v6
      refine keep_ite ?_ ?_
      · refine keep_foldl _ ?_ ?_
        · intro a9 a10
          refine keep_ite ?_ ?_
          · refine Keep.trans ?_ (still_faultEntry _ _ _ _).keep
            refine Keep.trans ?_ (still_event _ _ _).keep
            exact Keep.refl _
          · exact Keep.refl _
        · exact hv5
      · exact hv5
    refine keep_ite ?_ ?_
    · exact hv2
    · refine keep_ite ?_ ?_
      · refine Keep.trans ?_ (still_queueError _ _ _).keep
        exact hv6
      · exact hv6

theorem keep_execDescriptorFetch (q : Nat) (ds : List Desc) (fail : Nat) (s : State) : KeepA s (execDescriptorFetch q ds fail s) := by
  unfold execDescriptorFetch
  extract_lets v1
  have hv1 : Keep s v1 := by
    subst v1
    refine Keep.trans ?_ (still_begin _).keep
    exact Keep.refl _
  refine keepA_ite ?_ ?_
  · refine keepA_next ?_
    refine keep_ite ?_ ?_
    · refine Keep.trans ?_ (still_queueError _ _ _).keep
      exact hv1
    · exact hv1
  · refine keepA_next ?_
    refine Keep.trans ?_ (keep_turnFetch _ _ _)
    exact hv1

theorem keep_execInlineCommitRelease (q : Nat) (s : State) : KeepA s (execInlineCommitRelease q s) := by
  unfold execInlineCommitRelease
  refine keepA_next ?_
  refine Keep.trans ?_ (keep_releaseInline _ _)
  refine Keep.trans ?_ (still_begin _).keep
  exact Keep.refl _

theorem still_execGpfPhase2 (h : Nat) (s : State) : StillA s (execGpfPhase2 h s) := by
  unfold execGpfPhase2
  extract_lets v1
  have hv1 : Still s v1 := by
    subst v1
    refine Still.trans ?_ (still_begin _)
    exact Still.refl _
  refine stillA_ite ?_ ?_
  · refine stillA_next ?_
    refine Still.trans ?_ (still_send _ _)
    refine Still.trans ?_ (still_event _ _ _)
    refine Still.trans ?_ (still_bumpi _ _ _)
    exact hv1
  · refine stillA_next ?_
    exact hv1

theorem still_execGpfPhase1 (h : Nat) (s : State) : StillA s (execGpfPhase1 h s) := by
  unfold execGpfPhase1
  extract_lets v1
  have hv1 : Still s v1 := by
    subst v1
    refine Still.trans ?_ (still_begin _)
    exact Still.refl _
  refine stillA_ite ?_ ?_
  · refine stillA_next ?_
    refine Still.trans ?_ (still_send _ _)
    refine Still.trans ?_ (still_event _ _ _)
    refine Still.trans ?_ (still_bumpi _ _ _)
    exact hv1
  · refine stillA_next ?_
    exact hv1

theorem still_dropRetrain (s : State) (k : Nat) : Still s (State.dropRetrain s k) := by
  unfold State.dropRetrain
  refine still_mk ?_
  exact Still.refl _

theorem still_disableQueues (s : State) (k : Nat) : Still s (State.disableQueues s k) := by
  unfold State.disableQueues
  extract_lets v1
  have hv1 : Still s v1 := by
    subst v1
    refine still_forEach _ ?_ ?_
    · intro a2 a3
      extract_lets v4 v5 v6 v7
      have hv4 : Still a2 v4 := by
        clear v5 v6 v7
        subst v4
        refine Still.trans ?_ (still_dropHeld _ _)
        exact Still.refl _
      have hv5 : Still a2 v5 := by
        clear v6 v7
        subst v5
        refine still_foldl _ ?_ ?_
        · intro a8 a9
          refine Still.trans ?_ (still_setQueue _ _ _)
          exact Still.refl _
        · exact hv4
      have hv6 : Still a2 v6 := by
        clear v7
        subst v6
        refine still_mk ?_
        exact hv5
      refine Still.trans ?_ (still_setQueue _ _ _)
      exact hv6
    · exact Still.refl _
  refine Still.trans ?_ (still_wri _ _ _ _)
  refine Still.trans ?_ (still_poolCheck _)
  exact hv1

theorem still_execHeadFlr (h : Nat) (s : State) : StillA s (execHeadFlr h s) := by
  unfold execHeadFlr
  extract_lets v1 v2 v3 v4
  have hv1 : Still s v1 := by
    clear v2 v3 v4
    subst v1
    refine Still.trans ?_ (still_begin _)
    exact Still.refl _
  have hv2 : Still s v2 := by
    clear v3 v4
    subst v2
    refine Still.trans ?_ (still_disableQueues _ _)
    exact hv1
  have hv4 : Still s v4 := by
    subst v4
    refine Still.trans ?_ (still_setHead _ _ _)
    exact hv2
  refine stillA_ite ?_ ?_
  · refine stillA_next ?_
    refine Still.trans ?_ (still_dropRetrain _ _)
    refine still_mk ?_
    exact hv4
  · refine stillA_next ?_
    exact hv1

theorem still_execHpPerstRelease (h : Nat) (s : State) : StillA s (execHpPerstRelease h s) := by
  unfold execHpPerstRelease
  extract_lets v1 v2
  have hv1 : Still s v1 := by
    clear v2
    subst v1
    refine Still.trans ?_ (still_begin _)
    exact Still.refl _
  have hv2 : Still s v2 := by
    subst v2
    refine Still.trans ?_ (still_setBit _ _ _ _)
    exact hv1
  refine stillA_ite ?_ ?_
  · refine stillA_next ?_
    exact hv1
  · refine stillA_ite ?_ ?_
    · refine stillA_next ?_
      refine Still.trans ?_ (still_setLink _ _ _)
      exact hv2
    · refine stillA_next ?_
      exact hv2

theorem still_resetFunction (s : State) (k : Nat) : Still s (State.resetFunction s k) := by
  unfold State.resetFunction
  extract_lets v1 v2 v3 v4
  have hv1 : Still s v1 := by
    clear v2 v3 v4
    subst v1
    refine Still.trans ?_ (still_disableQueues _ _)
    exact Still.refl _
  have hv3 : Still s v3 := by
    clear v4
    subst v3
    refine Still.trans ?_ (still_setHead _ _ _)
    exact hv1
  have hv4 : Still s v4 := by
    subst v4
    refine Still.trans ?_ (still_dropRetrain _ _)
    refine still_mk ?_
    exact hv3
  refine still_ite ?_ ?_
  · refine Still.trans ?_ (still_headChanged _ _)
    refine Still.trans ?_ (still_wri _ _ _ _)
    exact hv4
  · exact hv4

theorem still_execHpPerstAssert (h : Nat) (s : State) : StillA s (execHpPerstAssert h s) := by
  unfold execHpPerstAssert
  extract_lets v1 v2 v3 v4
  have hv1 : Still s v1 := by
    clear v2 v3 v4
    subst v1
    refine Still.trans ?_ (still_begin _)
    exact Still.refl _
  have hv2 : Still s v2 := by
    clear v3 v4
    subst v2
    refine Still.trans ?_ (still_setBit _ _ _ _)
    exact hv1
  have hv3 : Still s v3 := by
    clear v4
    subst v3
    refine still_ite ?_ ?_
    · refine Still.trans ?_ (still_linkDown _ _)
      exact hv2
    · exact hv2
  have hv4 : Still s v4 := by
    subst v4
    refine still_ite ?_ ?_
    · refine Still.trans ?_ (still_wr _ _ _)
      refine Still.trans ?_ (still_wr _ _ _)
      exact hv2
    · exact hv2
  refine stillA_ite ?_ ?_
  · refine stillA_next ?_
    exact hv1
  · refine stillA_ite ?_ ?_
    · refine stillA_next ?_
      exact hv2
    · refine stillA_ite ?_ ?_
      · refine stillA_next ?_
        refine Still.trans ?_ (still_updReady _)
        refine Still.trans ?_ (still_resetFunction _ _)
        exact hv3
      · refine stillA_ite ?_ ?_
        · refine stillA_next ?_
          refine Still.trans ?_ (still_updReady _)
          refine Still.trans ?_ (still_setLink _ _ _)
          refine Still.trans ?_ (still_resetFunction _ _)
          exact hv4
        · refine stillA_next ?_
          exact hv2

theorem still_execViral (h : Nat) (s : State) : StillA s (execViral h s) := by
  unfold execViral
  extract_lets v1
  have hv1 : Still s v1 := by
    subst v1
    refine Still.trans ?_ (still_begin _)
    exact Still.refl _
  refine stillA_ite ?_ ?_
  · refine stillA_next ?_
    refine Still.trans ?_ (still_event _ _ _)
    refine Still.trans ?_ (still_headChanged _ _)
    refine Still.trans ?_ (still_wri _ _ _ _)
    exact hv1
  · refine stillA_next ?_
    exact hv1

theorem still_execIdeIntegrityFailure (h : Nat) (s : State) : StillA s (execIdeIntegrityFailure h s) := by
  unfold execIdeIntegrityFailure
  extract_lets v1
  have hv1 : Still s v1 := by
    subst v1
    refine Still.trans ?_ (still_begin _)
    exact Still.refl _
  refine stillA_ite ?_ ?_
  · refine stillA_next ?_
    refine Still.trans ?_ (still_linkDown _ _)
    refine Still.trans ?_ (still_headChanged _ _)
    refine Still.trans ?_ (still_wri _ _ _ _)
    refine Still.trans ?_ (still_event _ _ _)
    exact hv1
  · refine stillA_next ?_
    exact hv1

theorem still_execSurpriseLinkDown (h : Nat) (s : State) : StillA s (execSurpriseLinkDown h s) := by
  unfold execSurpriseLinkDown
  extract_lets v1
  have hv1 : Still s v1 := by
    subst v1
    refine Still.trans ?_ (still_begin _)
    exact Still.refl _
  refine stillA_ite ?_ ?_
  · refine stillA_next ?_
    refine Still.trans ?_ (still_linkDown _ _)
    exact hv1
  · refine stillA_next ?_
    exact hv1

theorem still_execLinkDownTimeout (h : Nat) (s : State) : StillA s (execLinkDownTimeout h s) := by
  unfold execLinkDownTimeout
  extract_lets v1
  have hv1 : Still s v1 := by
    subst v1
    refine Still.trans ?_ (still_begin _)
    exact Still.refl _
  refine stillA_ite ?_ ?_
  · refine stillA_next ?_
    refine Still.trans ?_ (still_linkDown _ _)
    exact hv1
  · refine stillA_next ?_
    exact hv1

theorem still_execLinkRecovery (h : Nat) (replays : Nat) (enters : Bool) (s : State) : StillA s (execLinkRecovery h replays enters s) := by
  unfold execLinkRecovery
  extract_lets v1 v2
  have hv1 : Still s v1 := by
    clear v2
    subst v1
    refine Still.trans ?_ (still_begin _)
    exact Still.refl _
  have hv2 : Still s v2 := by
    subst v2
    refine Still.trans ?_ (still_addi _ _ _ _)
    exact hv1
  refine stillA_ite ?_ ?_
  · refine stillA_next ?_
    refine still_ite ?_ ?_
    · refine Still.trans ?_ (still_enterRecovery _ _)
      exact hv2
    · exact hv2
  · refine stillA_next ?_
    exact hv1

theorem still_resumeQueue (s : State) (q : Nat) : Still s (State.resumeQueue s q) := by
  unfold State.resumeQueue
  extract_lets v1 v2 v3 v4
  have hv2 : Still s v2 := by
    clear v3 v4
    subst v2
    refine still_foldl _ ?_ ?_
    · intro a5 a6
      refine Still.trans ?_ (still_send _ _)
      exact Still.refl _
    · exact Still.refl _
  have hv3 : Still s v3 := by
    clear v4
    subst v3
    refine Still.trans ?_ (still_setQueue _ _ _)
    exact hv2
  have hv4 : Still s v4 := by
    subst v4
    refine Still.trans ?_ (still_postKept _ _)
    exact hv3
  refine still_ite ?_ ?_
  · refine Still.trans ?_ (still_signalQueue _ _)
    exact hv4
  · exact hv4

theorem still_execHeadLinkUp (h : Nat) (width : Nat) (rate : Nat) (flit256 : Bool) (s : State) : StillA s (execHeadLinkUp h width rate
    flit256 s) := by
  unfold execHeadLinkUp
  extract_lets v1 v2 v3 v4 v5 v6 v7 v8 v9 v10 v11 v12 v13 v14 v15
  have hv1 : Still s v1 := by
    clear v2 v3 v4 v5 v6 v7 v8 v9 v10 v11 v12 v13 v14 v15
    subst v1
    refine Still.trans ?_ (still_begin _)
    exact Still.refl _
  have hv7 : Still s v7 := by
    clear v8 v9 v10 v11 v12 v13 v14 v15
    subst v7
    iterate 3 refine Still.trans ?_ (still_wri _ _ _ _)
    exact hv1
  have hv8 : Still s v8 := by
    clear v9 v10 v11 v12 v13 v14 v15
    subst v8
    refine Still.trans ?_ (still_setLink _ _ _)
    refine Still.trans ?_ (still_wri _ _ _ _)
    exact hv7
  have hv9 : Still s v9 := by
    clear v10 v11 v12 v13 v14 v15
    subst v9
    refine Still.trans ?_ (still_event _ _ _)
    refine Still.trans ?_ (still_bumpi _ _ _)
    refine Still.trans ?_ (still_setIdle _ _)
    exact hv8
  have hv10 : Still s v10 := by
    clear v11 v12 v13 v14 v15
    subst v10
    split
    · refine Still.trans ?_ (still_reply _ _ _ _)
      exact hv9
    · exact hv9
  have hv12 : Still s v12 := by
    clear v13 v14 v15
    subst v12
    refine still_ite ?_ ?_
    · refine Still.trans ?_ (still_headChanged _ _)
      refine Still.trans ?_ (still_wri _ _ _ _)
      exact hv8
    · exact hv8
  have hv14 : Still s v14 := by
    clear v15
    subst v14
    refine Still.trans ?_ (still_setHead _ _ _)
    refine Still.trans ?_ (still_event _ _ _)
    refine Still.trans ?_ (still_setIdle _ _)
    exact hv12
  have hv15 : Still s v15 := by
    subst v15
    refine still_forEach _ ?_ ?_
    · intro a16 a17
      refine Still.trans ?_ (still_resumeQueue _ _)
      exact Still.refl _
    · exact hv14
  refine stillA_ite ?_ ?_
  · refine stillA_next ?_
    exact hv1
  · refine stillA_ite ?_ ?_
    · refine stillA_next ?_
      refine Still.trans ?_ (still_pauseQueues _ _ _)
      refine Still.trans ?_ (still_setHead _ _ _)
      exact hv10
    · refine stillA_next ?_
      refine Still.trans ?_ (still_updReady _)
      exact hv15

theorem keep_readLine (s : State) (k : Nat) (line : Nat) (err : LineError) : Keep s (State.readLine s k line err) := by
  unfold State.readLine
  extract_lets v1
  have hv1 : Keep s v1 := by
    subst v1
    refine Keep.trans ?_ (keep_lineRead _ _ _)
    exact Keep.refl _
  refine keep_ite ?_ ?_
  · refine Keep.trans ?_ (still_answerPoison _ _).keep
    exact hv1
  · refine Keep.trans ?_ (still_send _ _).keep
    exact hv1

theorem keep_execHostRead (h : Nat) (hpa : Nat) (wait : Nat) (err : LineError) (s : State) : KeepA s (execHostRead h hpa wait err s) := by
  unfold execHostRead
  extract_lets v1
  have hv1 : Keep s v1 := by
    subst v1
    refine Keep.trans ?_ (still_begin _).keep
    exact Keep.refl _
  refine keepA_ite ?_ ?_
  · refine keepA_next ?_
    exact hv1
  · refine keepA_ite ?_ ?_
    · refine keepA_next ?_
      refine Keep.trans ?_ (still_answerPoison _ _).keep
      refine Keep.trans ?_ (still_readTime _ _ _).keep
      exact hv1
    · split
      · refine keepA_next ?_
        refine Keep.trans ?_ (still_answerPoison _ _).keep
        refine Keep.trans ?_ (still_readTime _ _ _).keep
        exact hv1
      · split
        · refine keepA_next ?_
          refine Keep.trans ?_ (still_answerPoison _ _).keep
          refine Keep.trans ?_ (still_readTime _ _ _).keep
          exact hv1
        · refine keepA_ite ?_ ?_
          · refine keepA_next ?_
            refine Keep.trans ?_ (still_answerPoison _ _).keep
            refine Keep.trans ?_ (still_readTime _ _ _).keep
            refine Keep.trans ?_ (still_bumpi _ _ _).keep
            exact hv1
          · refine keepA_ite ?_ ?_
            · refine keepA_next ?_
              refine Keep.trans ?_ (still_answerPoison _ _).keep
              refine Keep.trans ?_ (still_readTime _ _ _).keep
              exact hv1
            · refine keepA_ite ?_ ?_
              · refine keepA_ite ?_ ?_
                · refine keepA_next ?_
                  refine Keep.trans ?_ (still_answerPoison _ _).keep
                  refine Keep.trans ?_ (still_readTime _ _ _).keep
                  exact hv1
                · refine keepA_next ?_
                  refine Keep.trans ?_ (still_startFetch _ _ _).keep
                  exact hv1
              · refine keepA_ite ?_ ?_
                · refine keepA_next ?_
                  refine Keep.trans ?_ (still_send _ _).keep
                  refine Keep.trans ?_ (still_readTime _ _ _).keep
                  exact hv1
                · refine keepA_next ?_
                  refine Keep.trans ?_ (keep_readLine _ _ _ _)
                  refine Keep.trans ?_ (still_readTime _ _ _).keep
                  exact hv1

theorem keep_execHostWrite (h : Nat) (hpa : Nat) (data : BitVec 512) (be : BitVec 64) (poison : Bool) (s : State) : KeepA s (execHostWrite
    h hpa data be poison s) := by
  unfold execHostWrite
  extract_lets v1 v2 v3
  have hv1 : Keep s v1 := by
    clear v2 v3
    subst v1
    refine Keep.trans ?_ (still_begin _).keep
    exact Keep.refl _
  have hv2 : Keep s v2 := by
    clear v3
    subst v2
    refine keep_ite ?_ ?_
    · refine Keep.trans ?_ (still_bumpi _ _ _).keep
      exact hv1
    · exact hv1
  have hv3 : Keep s v3 := by
    subst v3
    refine Keep.trans ?_ (still_send _ _).keep
    exact hv2
  refine keepA_ite ?_ ?_
  · refine keepA_next ?_
    exact hv1
  · refine keepA_ite ?_ ?_
    · refine keepA_next ?_
      exact hv3
    · split
      · refine keepA_next ?_
        exact hv3
      · refine keepA_ite ?_ ?_
        · split
          · refine keepA_next ?_
            refine Keep.trans ?_ (keep_acceptLine _ _ _ _ _ _ _)
            exact hv3
          · refine keepA_next ?_
            exact hv3
        · refine keepA_next ?_
          refine Keep.trans ?_ (still_denyWrite _ _ _).keep
          exact hv3

theorem still_execTrialConfirmTimeout (s : State) : StillA s (execTrialConfirmTimeout s) := by
  unfold execTrialConfirmTimeout
  extract_lets v1
  have hv1 : Still s v1 := by
    subst v1
    refine Still.trans ?_ (still_begin _)
    exact Still.refl _
  refine stillA_ite ?_ ?_
  · refine stillA_next ?_
    refine Still.trans ?_ (still_confirmTrial _)
    exact hv1
  · refine stillA_next ?_
    exact hv1

end Sys2Proof.Machine
end

