-- ==== Sys2Proof/Laws/Keep6.lean ====
section
/-! SUPPORT. Keep and Still, operation by operation: part 6 of 6. -/

namespace Sys2Proof.Machine

theorem still_restartBlock (s : State) : StillP s (State.restartBlock s) := by
  unfold State.restartBlock
  split
  · refine stillP_ite ?_ ?_
    · refine stillP_mk ?_
      refine Still.trans ?_ (still_writeSwap _ _ _ _ _)
      exact Still.refl _
    · refine stillP_mk ?_
      exact Still.refl _
  · refine stillP_mk ?_
    exact Still.refl _

theorem keep_execMpRestartComplete (s : State) : KeepA s (execMpRestartComplete s) := by
  unfold execMpRestartComplete
  extract_lets v1
  have hv1 : Keep s v1 := by
    subst v1
    refine Keep.trans ?_ (still_begin _).keep
    exact Keep.refl _
  refine keepA_ite ?_ ?_
  · refine keepA_next ?_
    exact hv1
  · split
    rename_i w2 w3 w4 w5
    have hw3 : Keep s w3 := by
      refine keep_fst ?_ w5
      refine Keep.trans ?_ (still_restartBlock _).keep
      exact hv1
    refine keepA_ite ?_ ?_
    · refine keepA_next ?_
      refine Keep.trans ?_ (still_updReady _).keep
      refine Keep.trans ?_ (still_wr _ _ _).keep
      refine Keep.trans ?_ (still_setProc _ _ _).keep
      refine keep_mk ?_
      exact hw3
    · extract_lets v6 v7 v8 v9 v10 v11 v12
      have hv7 : Keep s v7 := by
        clear v8 v9 v10 v11 v12
        subst v7
        refine keep_ite ?_ ?_
        · refine Keep.trans ?_ (still_runBlock _ _).keep
          exact hw3
        · exact hw3
      have hv8 : Keep s v8 := by
        clear v9 v10 v11 v12
        subst v8
        refine keep_ite ?_ ?_
        · refine Keep.trans ?_ (still_wr _ _ _).keep
          exact hv7
        · refine keep_ite ?_ ?_
          · refine Keep.trans ?_ (still_wr _ _ _).keep
            exact hv7
          · exact hv7
      have hv10 : Keep s v10 := by
        clear v11 v12
        subst v10
        refine keep_mk ?_
        exact hv8
      have hv11 : Keep s v11 := by
        clear v12
        subst v11
        refine Keep.trans ?_ (still_updReady _).keep
        refine Keep.trans ?_ (still_setProc _ _ _).keep
        exact hv10
      have hv12 : Keep s v12 := by
        subst v12
        refine keep_ite ?_ ?_
        · refine Keep.trans ?_ (keep_imageStep _)
          exact hv11
        · exact hv11
      refine keepA_next ?_
      refine Keep.trans ?_ (still_nextReload _).keep
      exact hv12

theorem still_takeBack (s : State) (k : Ticket) : Still s (State.takeBack s k) := by
  unfold State.takeBack
  refine still_mk ?_
  exact Still.refl _

theorem keep_sp3Run (s : State) (c : Instr) : Keep s (State.sp3Run s c) := by
  unfold State.sp3Run
  split
  · refine Keep.trans ?_ (still_takeSession _ _ _ _).keep
    exact Keep.refl _
  · refine Keep.trans ?_ (still_takeState _ _ _ _ _ _ _ _ _).keep
    exact Keep.refl _
  · refine Keep.trans ?_ (keep_takeDesignate _ _ _ _ _ _)
    exact Keep.refl _
  · refine Keep.trans ?_ (still_designateNow _ _ _ _ _).keep
    exact Keep.refl _
  · refine Keep.trans ?_ (still_resumeNow _ _ _ _).keep
    exact Keep.refl _
  · split
    · refine Keep.trans ?_ (keep_shareCreate _ _ _ _ _ _ _ _)
      refine Keep.trans ?_ (still_takeBack _ _).keep
      exact Keep.refl _
    · exact Keep.refl _
  · split
    · refine Keep.trans ?_ (keep_shareMode _ _ _ _ _)
      refine Keep.trans ?_ (still_takeBack _ _).keep
      exact Keep.refl _
    · exact Keep.refl _
  · exact Keep.refl _

theorem keep_sp3Back (s : State) : Keep s (State.sp3Back s) := by
  unfold State.sp3Back
  extract_lets v1 v2 v3 v4
  have hv1 : Keep s v1 := by
    clear v2 v3 v4
    subst v1
    split
    · refine Keep.trans ?_ (still_pairLost _ _).keep
      exact Keep.refl _
    · exact Keep.refl _
  have hv2 : Keep s v2 := by
    clear v3 v4
    subst v2
    refine keep_foldl _ ?_ ?_
    · intro a5 a6
      refine Keep.trans ?_ (still_promote _ _ _).keep
      exact Keep.refl _
    · exact hv1
  have hv4 : Keep s v4 := by
    subst v4
    refine keep_foldl _ ?_ ?_
    · intro a7 a8
      refine Keep.trans ?_ (keep_sp3Run _ _)
      exact Keep.refl _
    · refine keep_mk ?_
      exact hv2
  refine Keep.trans ?_ (still_twineServe _).keep
  refine Keep.trans ?_ (still_flushTwined _).keep
  refine Keep.trans ?_ (still_endCatchups _).keep
  refine Keep.trans ?_ (keep_runInbox _ _)
  exact hv4

theorem still_sp2Back (s : State) : Still s (State.sp2Back s) := by
  unfold State.sp2Back
  refine Still.trans ?_ (still_sendFetches _)
  refine Still.trans ?_ (still_recompute _ _)
  refine Still.trans ?_ (still_ceilUpdate _ _)
  exact Still.refl _

theorem keep_spBack (s : State) (n : Nat) : Keep s (State.spBack s n) := by
  unfold State.spBack
  extract_lets v1
  have hv1 : Keep s v1 := by
    subst v1
    refine keep_ite ?_ ?_
    · refine Keep.trans ?_ (still_settleMr _).keep
      exact Keep.refl _
    · refine keep_ite ?_ ?_
      · refine Keep.trans ?_ (still_sp2Back _).keep
        exact Keep.refl _
      · refine keep_ite ?_ ?_
        · refine Keep.trans ?_ (keep_sp3Back _)
          exact Keep.refl _
        · exact Keep.refl _
  refine keep_ite ?_ ?_
  · refine Keep.trans ?_ (keep_imageStep _)
    exact hv1
  · exact hv1

theorem keep_execSpReloadComplete (n : Nat) (storeOk : Bool) (s : State) : KeepA s (execSpReloadComplete n storeOk s) := by
  unfold execSpReloadComplete
  extract_lets v1 v2 v3 v4 v5
  have hv1 : Keep s v1 := by
    clear v2 v3 v4 v5
    subst v1
    refine Keep.trans ?_ (still_begin _).keep
    exact Keep.refl _
  have hv4 : Keep s v4 := by
    clear v5
    subst v4
    refine Keep.trans ?_ (still_bump _ _).keep
    refine Keep.trans ?_ (still_setProc _ _ _).keep
    exact hv1
  refine keepA_ite ?_ ?_
  · refine keepA_next ?_
    exact hv1
  · split
    rename_i w6 w7 w8 w9
    extract_lets v10 v11 v12 v13
    have hv11 : Keep s v11 := by
      clear v12 v13
      subst v11
      refine keep_mk ?_
      exact hv4
    have hv12 : Keep s v12 := by
      clear v13
      subst v12
      refine Keep.trans ?_ (keep_spBack _ _)
      refine Keep.trans ?_ (still_updReady _).keep
      refine Keep.trans ?_ (still_event _ _ _).keep
      exact hv11
    have hv13 : Keep s v13 := by
      subst v13
      refine keep_ite ?_ ?_
      · refine Keep.trans ?_ (still_event _ _ _).keep
        exact hv12
      · exact hv12
    refine keepA_next ?_
    refine keep_ite ?_ ?_
    · refine Keep.trans ?_ (still_nextReload _).keep
      refine Keep.trans ?_ (still_finishSeq _ _ _ _ _).keep
      exact hv13
    · refine Keep.trans ?_ (still_nextReload _).keep
      exact hv13

theorem still_mpExpire (s : State) (cause : Nat) : Still s (State.mpExpire s cause) := by
  unfold State.mpExpire
  extract_lets v1 v2 v3
  have hv3 : Still s v3 := by
    subst v3
    refine still_mk ?_
    exact Still.refl _
  refine still_ite ?_ ?_
  · exact Still.refl _
  · refine still_ite ?_ ?_
    · refine still_ite ?_ ?_
      · refine Still.trans ?_ (still_enterRecoveryPhase _ _)
        refine Still.trans ?_ (still_mpRestart _ _)
        exact hv3
      · refine Still.trans ?_ (still_mpRestart _ _)
        exact hv3
    · refine Still.trans ?_ (still_mpRestart _ _)
      exact Still.refl _

theorem still_expire (s : State) (p : Nat) (spCause : Nat) (mpCause : Nat) : Still s (State.expire s p spCause mpCause) := by
  unfold State.expire
  refine still_ite ?_ ?_
  · refine Still.trans ?_ (still_mpExpire _ _)
    exact Still.refl _
  · refine Still.trans ?_ (still_startReload _ _ _)
    exact Still.refl _

theorem still_execExecuteFault (p : Nat) (addr : Nat) (s : State) : StillA s (execExecuteFault p addr s) := by
  unfold execExecuteFault
  extract_lets v1
  have hv1 : Still s v1 := by
    subst v1
    refine Still.trans ?_ (still_begin _)
    exact Still.refl _
  refine stillA_ite ?_ ?_
  · refine stillA_next ?_
    refine Still.trans ?_ (still_expire _ _ _ _)
    refine Still.trans ?_ (still_event _ _ _)
    refine Still.trans ?_ (still_bump _ _)
    exact hv1
  · refine stillA_next ?_
    exact hv1

theorem still_execSramUncorrectable (p : Nat) (s : State) : StillA s (execSramUncorrectable p s) := by
  unfold execSramUncorrectable
  refine stillA_next ?_
  refine Still.trans ?_ (still_expire _ _ _ _)
  refine Still.trans ?_ (still_begin _)
  exact Still.refl _

theorem still_execMpWatchdogExpiry (s : State) : StillA s (execMpWatchdogExpiry s) := by
  unfold execMpWatchdogExpiry
  refine stillA_next ?_
  refine Still.trans ?_ (still_mpExpire _ _)
  refine Still.trans ?_ (still_begin _)
  exact Still.refl _

theorem still_execSpWatchdogExpiry (n : Nat) (s : State) : StillA s (execSpWatchdogExpiry n s) := by
  unfold execSpWatchdogExpiry
  refine stillA_next ?_
  refine Still.trans ?_ (still_startReload _ _ _)
  refine Still.trans ?_ (still_begin _)
  exact Still.refl _

theorem still_execLockstepMismatch (pc : Nat) (s : State) : StillA s (execLockstepMismatch pc s) := by
  unfold execLockstepMismatch
  extract_lets v1
  have hv1 : Still s v1 := by
    subst v1
    refine Still.trans ?_ (still_begin _)
    exact Still.refl _
  refine stillA_ite ?_ ?_
  · refine stillA_next ?_
    refine Still.trans ?_ (still_startReload _ _ _)
    refine Still.trans ?_ (still_event _ _ _)
    refine Still.trans ?_ (still_bump _ _)
    exact hv1
  · refine stillA_next ?_
    exact hv1

theorem keep_powerTrigger (s : State) (reason : Nat) (trig : Nat) (ticks : Nat) : Keep s (State.powerTrigger s reason trig ticks) := by
  unfold State.powerTrigger
  extract_lets v1
  refine keep_ite ?_ ?_
  · refine Keep.trans ?_ (keep_startSave _ _ _)
    refine Keep.trans ?_ (still_wakeDeep _ _).keep
    exact Keep.refl _
  · refine keep_ite ?_ ?_
    · refine keep_ite ?_ ?_
      · refine Keep.trans ?_ (keep_offRequest _ _)
        exact Keep.refl _
      · exact Keep.refl _
    · refine keep_ite ?_ ?_
      · dsimp only [v1]
        refine keep_ite ?_ ?_
        · refine Keep.trans ?_ (still_wr _ _ _).keep
          refine keep_ite ?_ ?_
          · refine Keep.trans ?_ (still_wr _ _ _).keep
            refine keep_ite ?_ ?_
            · refine Keep.trans ?_ (still_wr _ _ _).keep
              exact Keep.refl _
            · exact Keep.refl _
          · refine keep_ite ?_ ?_
            · refine Keep.trans ?_ (still_wr _ _ _).keep
              exact Keep.refl _
            · exact Keep.refl _
        · refine keep_ite ?_ ?_
          · refine Keep.trans ?_ (still_wr _ _ _).keep
            refine keep_ite ?_ ?_
            · refine Keep.trans ?_ (still_wr _ _ _).keep
              exact Keep.refl _
            · exact Keep.refl _
          · refine keep_ite ?_ ?_
            · refine Keep.trans ?_ (still_wr _ _ _).keep
              exact Keep.refl _
            · exact Keep.refl _
      · exact Keep.refl _

theorem keep_execTemperatureSample (readings : List Int) (s : State) : KeepA s (execTemperatureSample readings s) := by
  unfold execTemperatureSample
  extract_lets v1 v2 v3
  have hv1 : Keep s v1 := by
    clear v2 v3
    subst v1
    refine Keep.trans ?_ (still_begin _).keep
    exact Keep.refl _
  split
  · refine keepA_next ?_
    exact hv1
  · refine keepA_ite ?_ ?_
    · refine keepA_next ?_
      exact hv1
    · extract_lets v4 v5 v6 v7
      have hv6 : Keep s v6 := by
        clear v7
        subst v6
        refine keep_mk ?_
        exact hv1
      have hv7 : Keep s v7 := by
        subst v7
        refine keep_ite ?_ ?_
        · exact hv6
        · refine Keep.trans ?_ (still_recap _).keep
          refine Keep.trans ?_ (still_event _ _ _).keep
          refine Keep.trans ?_ (still_wr _ _ _).keep
          exact hv6
      refine keepA_ite ?_ ?_
      · refine keepA_next ?_
        refine Keep.trans ?_ (keep_powerTrigger _ _ _ _)
        exact hv7
      · refine keepA_next ?_
        refine Keep.trans ?_ (keep_imageStep _)
        refine Keep.trans ?_ (still_settleAttn _).keep
        exact hv7

theorem still_opDone (s : State) : Still s (State.opDone s) := by
  unfold State.opDone
  extract_lets v1 v2 v3 v4 v5
  have hv1 : Still s v1 := by
    clear v2 v3 v4 v5
    subst v1
    refine Still.trans ?_ (still_wr _ _ _)
    refine Still.trans ?_ (still_wr _ _ _)
    exact Still.refl _
  have hv4 : Still s v4 := by
    clear v5
    subst v4
    refine still_mk ?_
    exact hv1
  have hv5 : Still s v5 := by
    subst v5
    clear_value v2
    split
    · refine still_ite ?_ ?_
      · exact hv4
      · refine Still.trans ?_ (still_seekOp _ _)
        exact hv4
    · exact hv4
  refine still_ite ?_ ?_
  · refine Still.trans ?_ (still_powerAdvance _ _)
    exact hv5
  · exact hv5

theorem still_execOpChangeComplete (mv : Nat) (s : State) : StillA s (execOpChangeComplete mv s) := by
  unfold execOpChangeComplete
  extract_lets v1 v2 v3 v4
  have hv1 : Still s v1 := by
    clear v2 v3 v4
    subst v1
    refine Still.trans ?_ (still_wr _ _ _)
    refine Still.trans ?_ (still_begin _)
    exact Still.refl _
  refine stillA_ite ?_ ?_
  · refine stillA_next ?_
    exact hv1
  · refine stillA_ite ?_ ?_
    · refine stillA_next ?_
      refine Still.trans ?_ (still_opDone _)
      exact hv1
    · refine stillA_ite ?_ ?_
      · refine stillA_next ?_
        refine Still.trans ?_ (still_event _ _ _)
        refine Still.trans ?_ (still_bump _ _)
        exact hv1
      · refine stillA_next ?_
        refine still_mk ?_
        exact hv1

theorem still_execStandbyEntry (s : State) : StillA s (execStandbyEntry s) := by
  unfold execStandbyEntry
  extract_lets v1 v2 v3 v4 v5 v6 v7
  have hv1 : Still s v1 := by
    clear v2 v3 v4 v5 v6 v7
    subst v1
    refine Still.trans ?_ (still_begin _)
    exact Still.refl _
  have hv3 : Still s v3 := by
    clear v4 v5 v6 v7
    subst v3
    refine Still.trans ?_ (still_updReady _)
    refine Still.trans ?_ (still_event _ _ _)
    exact hv1
  have hv4 : Still s v4 := by
    clear v5 v6 v7
    subst v4
    refine Still.trans ?_ (still_setDom _ _ _)
    iterate 4 refine Still.trans ?_ (still_setDoms _ _ _)
    exact hv3
  have hv5 : Still s v5 := by
    clear v6 v7
    subst v5
    refine Still.trans ?_ (still_dropRails _ _)
    refine Still.trans ?_ (still_setDom _ _ _)
    exact hv4
  have hv7 : Still s v7 := by
    subst v7
    refine still_mk ?_
    exact hv5
  refine stillA_ite ?_ ?_
  · refine stillA_next ?_
    refine Still.trans ?_ (still_updReady _)
    refine Still.trans ?_ (still_sleepLatch _)
    refine Still.trans ?_ (still_wr _ _ _)
    refine Still.trans ?_ (still_wr _ _ _)
    exact hv7
  · refine stillA_next ?_
    exact hv1

theorem still_execHoldupMeasurement (tm : Nat) (packHigh : Bool) (s : State) : StillA s (execHoldupMeasurement tm packHigh s) := by
  unfold execHoldupMeasurement
  extract_lets v1 v2 v3 v4 v5 v6 v7 v8 v9 v10
  have hv1 : Still s v1 := by
    clear v2 v3 v4 v5 v6 v7 v8 v9 v10
    subst v1
    refine Still.trans ?_ (still_begin _)
    exact Still.refl _
  have hv9 : Still s v9 := by
    clear v10
    subst v9
    refine still_mk ?_
    exact hv1
  have hv10 : Still s v10 := by
    subst v10
    iterate 3 refine Still.trans ?_ (still_wr _ _ _)
    exact hv9
  refine stillA_ite ?_ ?_
  · refine stillA_next ?_
    exact hv1
  · refine stillA_next ?_
    refine Still.trans ?_ (still_event _ _ _)
    refine Still.trans ?_ (still_wr _ _ _)
    refine Still.trans ?_ (still_wr _ _ _)
    exact hv10

theorem keep_groupOff (s : State) (g : Nat) : Keep s (State.groupOff s g) := by
  unfold State.groupOff
  extract_lets v1 v2 v3
  have hv1 : Keep s v1 := by
    clear v2 v3
    subst v1
    refine keep_forEach _ ?_ ?_
    · intro a4 a5
      refine Keep.trans ?_ (still_wri _ _ _ _).keep
      exact Keep.refl _
    · exact Keep.refl _
  have hv2 : Keep s v2 := by
    clear v3
    subst v2
    refine keep_forEach _ ?_ ?_
    · intro a6 a7
      extract_lets v8
      have hv8 : Keep a6 v8 := by
        subst v8
        refine keep_ite ?_ ?_
        · refine Keep.trans ?_ (still_linkDown _ _).keep
          exact Keep.refl _
        · exact Keep.refl _
      refine keep_ite ?_ ?_
      · exact hv8
      · refine Keep.trans ?_ (still_setLink _ _ _).keep
        exact hv8
    · exact hv1
  have hv3 : Keep s v3 := by
    subst v3
    refine keep_forEach _ ?_ ?_
    · intro a9 a10
      extract_lets v11
      have hv11 : Keep a9 v11 := by
        subst v11
        refine keep_ite ?_ ?_
        · refine Keep.trans ?_ (keep_twineDown _ _ _)
          exact Keep.refl _
        · exact Keep.refl _
      refine keep_ite ?_ ?_
      · exact hv11
      · refine Keep.trans ?_ (still_wri _ _ _ _).keep
        exact hv11
    · exact hv1
  refine keep_ite ?_ ?_
  · refine Keep.trans ?_ (still_setDoms _ _ _).keep
    exact hv2
  · refine Keep.trans ?_ (still_setDoms _ _ _).keep
    exact hv3

theorem keep_groupFault (s : State) (g : Nat) : Keep s (State.groupFault s g) := by
  unfold State.groupFault
  extract_lets v1 v2
  have hv1 : Keep s v1 := by
    clear v2
    subst v1
    refine Keep.trans ?_ (keep_groupOff _ _)
    exact Keep.refl _
  refine keep_ite ?_ ?_
  · refine keep_mk ?_
    exact hv1
  · refine keep_mk ?_
    exact hv1

theorem still_downUnpowered (s : State) (slot : Nat) : Still s (State.downUnpowered s slot) := by
  unfold State.downUnpowered
  split
  · exact Still.refl _
  · refine still_ite ?_ ?_
    · exact Still.refl _
    · extract_lets v1 v2
      have hv1 : Still s v1 := by
        clear v2
        subst v1
        refine Still.trans ?_ (still_event _ _ _)
        exact Still.refl _
      refine still_mk ?_
      exact hv1

theorem keep_unwind (s : State) : Keep s (State.unwind s) := by
  unfold State.unwind
  extract_lets v1 v2 v3 v4
  have hv1 : Keep s v1 := by
    clear v2 v3 v4
    subst v1
    refine Keep.trans ?_ (still_snapWrite _).keep
    exact Keep.refl _
  have hv2 : Keep s v2 := by
    clear v3 v4
    subst v2
    refine Keep.trans ?_ (still_putRegs _ _).keep
    refine Keep.trans ?_ (keep_resetLogic _ _)
    exact hv1
  have hv3 : Keep s v3 := by
    clear v4
    subst v3
    refine keep_forEach _ ?_ ?_
    · intro a5 a6
      refine keep_ite ?_ ?_
      · refine Keep.trans ?_ (still_wri _ _ _ _).keep
        exact Keep.refl _
      · exact Keep.refl _
    · refine Keep.trans ?_ (still_wr _ _ _).keep
      exact hv2
  refine keep_mk ?_
  exact hv3

theorem keep_sequenceFault (s : State) (slot : Nat) (g : Nat) : Keep s (State.sequenceFault s slot g) := by
  unfold State.sequenceFault
  refine keep_ite ?_ ?_
  · extract_lets v1 v2 v3
    have hv1 : Keep s v1 := by
      clear v2 v3
      subst v1
      refine Keep.trans ?_ (still_event _ _ _).keep
      refine Keep.trans ?_ (still_snapshot _ _ _).keep
      exact Keep.refl _
    have hv3 : Keep s v3 := by
      subst v3
      refine Keep.trans ?_ (keep_unwind _)
      refine keep_mk ?_
      exact hv1
    refine Keep.trans ?_ (still_setSeq _ _ _).keep
    refine Keep.trans ?_ (still_wr _ _ _).keep
    exact hv3
  · extract_lets v4 v5 v6
    have hv4 : Keep s v4 := by
      clear v5 v6
      subst v4
      refine Keep.trans ?_ (still_event _ _ _).keep
      exact Keep.refl _
    have hv5 : Keep s v5 := by
      clear v6
      subst v5
      refine Keep.trans ?_ (keep_unwind _)
      exact hv4
    refine keep_ite ?_ ?_
    · refine Keep.trans ?_ (still_downUnpowered _ _).keep
      refine Keep.trans ?_ (keep_powerDown _ _)
      exact hv4
    · refine Keep.trans ?_ (still_powerUp _).keep
      refine keep_mk ?_
      exact hv5

theorem keep_railFault (s : State) (slot : Nat) (kind : Nat) : Keep s (State.railFault s slot kind) := by
  unfold State.railFault
  refine keep_ite ?_ ?_
  · exact Keep.refl _
  · extract_lets v1 v2 v3 v4 v5 v6 v7 v8
    have hv2 : Keep s v2 := by
      clear v3 v4 v5 v6 v7 v8
      subst v2
      iterate 3 refine Keep.trans ?_ (still_wr _ _ _).keep
      exact Keep.refl _
    have hv3 : Keep s v3 := by
      clear v4 v5 v6 v7 v8
      subst v3
      refine Keep.trans ?_ (still_wri _ _ _ _).keep
      refine Keep.trans ?_ (still_bump _ _).keep
      refine Keep.trans ?_ (still_wr _ _ _).keep
      exact hv2
    have hv4 : Keep s v4 := by
      clear v5 v6 v7 v8
      subst v4
      refine keep_ite ?_ ?_
      · refine Keep.trans ?_ (still_wri _ _ _ _).keep
        exact hv3
      · exact hv3
    have hv5 : Keep s v5 := by
      clear v6 v7 v8
      subst v5
      refine Keep.trans ?_ (still_event _ _ _).keep
      refine Keep.trans ?_ (still_snapshot _ _ _).keep
      exact hv4
    have hv7 : Keep s v7 := by
      clear v8
      subst v7
      refine Keep.trans ?_ (keep_groupOff _ _)
      exact hv5
    refine keep_ite ?_ ?_
    · refine Keep.trans ?_ (still_downFault _ _).keep
      exact hv5
    · refine keep_ite ?_ ?_
      · refine keep_ite ?_ ?_
        · refine Keep.trans ?_ (still_powerAdvance _ _).keep
          refine keep_mk ?_
          exact hv7
        · refine Keep.trans ?_ (keep_sequenceFault _ _ _)
          exact hv5
      · refine keep_ite ?_ ?_
        · refine keep_ite ?_ ?_
          · refine Keep.trans ?_ (keep_groupFault _ _)
            exact hv5
          · refine Keep.trans ?_ (keep_powerTrigger _ _ _ _)
            exact hv5
        · refine keep_ite ?_ ?_
          · refine Keep.trans ?_ (keep_powerDown _ _)
            exact hv5
          · exact hv5

theorem keep_statusWord (s : State) (slot : Nat) (w : Nat) : Keep s (State.statusWord s slot w) := by
  unfold State.statusWord
  extract_lets v1 v2 v3 v4 v5
  have hv4 : Keep s v4 := by
    clear v5
    subst v4
    refine Keep.trans ?_ (still_wri _ _ _ _).keep
    refine keep_mk ?_
    exact Keep.refl _
  have hv5 : Keep s v5 := by
    subst v5
    refine keep_ite ?_ ?_
    · refine Keep.trans ?_ (still_event _ _ _).keep
      exact hv4
    · exact hv4
  refine keep_ite ?_ ?_
  · refine Keep.trans ?_ (keep_railFault _ _ _)
    exact hv5
  · exact hv5

theorem keep_execLbAlert (slot : Nat) (status : Nat) (s : State) : KeepA s (execLbAlert slot status s) := by
  unfold execLbAlert
  extract_lets v1
  have hv1 : Keep s v1 := by
    subst v1
    refine Keep.trans ?_ (still_begin _).keep
    exact Keep.refl _
  refine keepA_ite ?_ ?_
  · refine keepA_next ?_
    refine Keep.trans ?_ (keep_statusWord _ _ _)
    exact hv1
  · refine keepA_next ?_
    exact hv1

theorem keep_execPmbusStatusPoll (status : List (Nat × Nat)) (tele : List (Nat × Nat × Nat)) (s : State) : KeepA s (execPmbusStatusPoll
    status tele s) := by
  unfold execPmbusStatusPoll
  extract_lets v1 v2 v3 v4 v5 v6
  have hv1 : Keep s v1 := by
    clear v2 v3 v4 v5 v6
    subst v1
    refine Keep.trans ?_ (still_begin _).keep
    exact Keep.refl _
  have hv4 : Keep s v4 := by
    clear v5 v6
    subst v4
    refine keep_foldl _ ?_ ?_
    · intro a7 a8
      refine Keep.trans ?_ (keep_statusWord _ _ _)
      exact Keep.refl _
    · exact hv1
  have hv5 : Keep s v5 := by
    clear v6
    subst v5
    refine keep_foldl _ ?_ ?_
    · intro a9 a10
      refine Keep.trans ?_ (still_wri _ _ _ _).keep
      refine Keep.trans ?_ (still_wri _ _ _ _).keep
      exact Keep.refl _
    · exact hv4
  have hv6 : Keep s v6 := by
    subst v6
    refine keep_foldl _ ?_ ?_
    · intro a11 a12
      extract_lets v13 v14 v15
      have hv15 : Keep a11 v15 := by
        subst v15
        refine keep_mk ?_
        exact Keep.refl _
      refine keep_ite ?_ ?_
      · refine Keep.trans ?_ (still_event _ _ _).keep
        refine Keep.trans ?_ (still_event _ _ _).keep
        exact hv15
      · exact hv15
    · exact hv5
  refine keepA_ite ?_ ?_
  · refine keepA_next ?_
    exact hv1
  · refine keepA_next ?_
    refine Keep.trans ?_ (still_busFree _ _).keep
    exact hv6

theorem still_execOffWaitExpiry (ticks : Nat) (s : State) : StillA s (execOffWaitExpiry ticks s) := by
  unfold execOffWaitExpiry
  extract_lets v1 v2
  have hv1 : Still s v1 := by
    clear v2
    subst v1
    refine Still.trans ?_ (still_downRest _)
    refine Still.trans ?_ (still_begin _)
    exact Still.refl _
  have hv2 : Still s v2 := by
    subst v2
    refine Still.trans ?_ (still_setSeq _ _ _)
    refine Still.trans ?_ (still_wr _ _ _)
    exact hv1
  refine stillA_ite ?_ ?_
  · refine stillA_next ?_
    exact hv1
  · refine stillA_ite ?_ ?_
    · refine stillA_next ?_
      refine Still.trans ?_ (still_powerStart _ _ _)
      exact hv2
    · refine stillA_next ?_
      refine Still.trans ?_ (still_powerUp _)
      exact hv2

theorem still_execRailWarning (slot : Nat) (kind : Nat) (reading : Nat) (s : State) : StillA s (execRailWarning slot kind reading s) := by
  unfold execRailWarning
  extract_lets v1 v2
  have hv1 : Still s v1 := by
    clear v2
    subst v1
    refine Still.trans ?_ (still_begin _)
    exact Still.refl _
  have hv2 : Still s v2 := by
    subst v2
    refine still_ite ?_ ?_
    · refine Still.trans ?_ (still_wri _ _ _ _)
      exact hv1
    · refine still_ite ?_ ?_
      · refine Still.trans ?_ (still_wri _ _ _ _)
        exact hv1
      · exact hv1
  refine stillA_ite ?_ ?_
  · refine stillA_next ?_
    exact hv1
  · refine stillA_next ?_
    refine Still.trans ?_ (still_event _ _ _)
    exact hv2

theorem keep_execRailFault (slot : Nat) (kind : Nat) (s : State) : KeepA s (execRailFault slot kind s) := by
  unfold execRailFault
  refine keepA_next ?_
  refine Keep.trans ?_ (keep_railFault _ _ _)
  refine Keep.trans ?_ (still_begin _).keep
  exact Keep.refl _

theorem still_groupOn (s : State) (g : Nat) : Still s (State.groupOn s g) := by
  unfold State.groupOn
  refine still_ite ?_ ?_
  · refine Still.trans ?_ (still_trainLinks _)
    refine Still.trans ?_ (still_setDoms _ _ _)
    exact Still.refl _
  · refine still_ite ?_ ?_
    · refine Still.trans ?_ (still_trainLinks _)
      refine Still.trans ?_ (still_setDoms _ _ _)
      exact Still.refl _
    · exact Still.refl _

theorem still_execRailPowerGood (slot : Nat) (mv : Nat) (s : State) : StillA s (execRailPowerGood slot mv s) := by
  unfold execRailPowerGood
  extract_lets v1 v2 v3 v4 v5 v6 v7
  have hv1 : Still s v1 := by
    clear v2 v3 v4 v5 v6 v7
    subst v1
    refine Still.trans ?_ (still_begin _)
    exact Still.refl _
  have hv4 : Still s v4 := by
    clear v5 v6 v7
    subst v4
    refine Still.trans ?_ (still_wri _ _ _ _)
    refine Still.trans ?_ (still_wri _ _ _ _)
    exact hv1
  have hv6 : Still s v6 := by
    clear v7
    subst v6
    refine still_mk ?_
    exact hv4
  refine stillA_ite ?_ ?_
  · refine stillA_next ?_
    exact hv1
  · refine stillA_ite ?_ ?_
    · refine stillA_ite ?_ ?_
      · refine stillA_next ?_
        refine Still.trans ?_ (still_powerAdvance _ _)
        exact hv6
      · refine stillA_next ?_
        exact hv1
    · refine stillA_ite ?_ ?_
      · refine stillA_next ?_
        refine still_ite ?_ ?_
        · refine Still.trans ?_ (still_groupOn _ _)
          exact hv4
        · exact hv4
      · refine stillA_next ?_
        exact hv1

theorem keep_execLingerEnergyLimit (s : State) : KeepA s (execLingerEnergyLimit s) := by
  unfold execLingerEnergyLimit
  extract_lets v1
  have hv1 : Keep s v1 := by
    subst v1
    refine Keep.trans ?_ (still_begin _).keep
    exact Keep.refl _
  refine keepA_ite ?_ ?_
  · refine keepA_next ?_
    refine Keep.trans ?_ (keep_powerDown _ _)
    refine Keep.trans ?_ (still_event _ _ _).keep
    exact hv1
  · refine keepA_next ?_
    exact hv1

theorem keep_execLingerTimerExpiry (s : State) : KeepA s (execLingerTimerExpiry s) := by
  unfold execLingerTimerExpiry
  extract_lets v1
  have hv1 : Keep s v1 := by
    subst v1
    refine Keep.trans ?_ (still_begin _).keep
    exact Keep.refl _
  refine keepA_ite ?_ ?_
  · refine keepA_next ?_
    refine Keep.trans ?_ (keep_powerDown _ _)
    refine Keep.trans ?_ (still_event _ _ _).keep
    exact hv1
  · refine keepA_next ?_
    exact hv1

theorem keep_execEnergyFail (s : State) : KeepA s (execEnergyFail s) := by
  unfold execEnergyFail
  extract_lets v1
  have hv1 : Keep s v1 := by
    subst v1
    refine Keep.trans ?_ (still_begin _).keep
    exact Keep.refl _
  refine keepA_ite ?_ ?_
  · refine keepA_next ?_
    refine Keep.trans ?_ (keep_failSave _)
    exact hv1
  · refine keepA_next ?_
    exact hv1

theorem still_execTruncatedManifestClose (s : State) : StillA s (execTruncatedManifestClose s) := by
  unfold execTruncatedManifestClose
  extract_lets v1
  have hv1 : Still s v1 := by
    subst v1
    refine Still.trans ?_ (still_begin _)
    exact Still.refl _
  refine stillA_ite ?_ ?_
  · refine stillA_next ?_
    refine Still.trans ?_ (still_closeOut _ _)
    exact hv1
  · refine stillA_next ?_
    exact hv1

theorem still_execSaveBusLow (mv : Nat) (s : State) : StillA s (execSaveBusLow mv s) := by
  unfold execSaveBusLow
  extract_lets v1 v2
  have hv1 : Still s v1 := by
    clear v2
    subst v1
    iterate 3 refine Still.trans ?_ (still_wr _ _ _)
    refine Still.trans ?_ (still_begin _)
    exact Still.refl _
  refine stillA_ite ?_ ?_
  · refine stillA_next ?_
    refine still_mk ?_
    exact hv1
  · refine stillA_next ?_
    exact hv1

theorem still_execSaveBusWarning (mv : Nat) (s : State) : StillA s (execSaveBusWarning mv s) := by
  unfold execSaveBusWarning
  extract_lets v1 v2
  have hv1 : Still s v1 := by
    clear v2
    subst v1
    refine Still.trans ?_ (still_wr _ _ _)
    refine Still.trans ?_ (still_wr _ _ _)
    refine Still.trans ?_ (still_begin _)
    exact Still.refl _
  refine stillA_ite ?_ ?_
  · refine stillA_ite ?_ ?_
    · refine stillA_next ?_
      refine Still.trans ?_ (still_lowerRate _ _ _ _)
      refine Still.trans ?_ (still_bump _ _)
      exact hv1
    · refine stillA_next ?_
      exact hv1
  · refine stillA_next ?_
    exact hv1

theorem keep_warmReturn (s : State) (ticks : Nat) : Keep s (State.warmReturn s ticks) := by
  unfold State.warmReturn
  extract_lets v1 v2 v3 v4 v5 v6 v7 v8 v9 v10 v11 v12 v13 v14 v15 v16
  have hv2 : Keep s v2 := by
    clear v3 v4 v5 v6 v7 v8 v9 v10 v11 v12 v13 v14 v15 v16
    subst v2
    refine Keep.trans ?_ (still_boscStart _).keep
    refine Keep.trans ?_ (still_sleepWake _ _).keep
    exact Keep.refl _
  have hv3 : Keep s v3 := by
    clear v4 v5 v6 v7 v8 v9 v10 v11 v12 v13 v14 v15 v16
    subst v3
    refine Keep.trans ?_ (still_setDoms _ _ _).keep
    refine Keep.trans ?_ (still_setDoms _ _ _).keep
    refine Keep.trans ?_ (still_setDom _ _ _).keep
    exact hv2
  have hv4 : Keep s v4 := by
    clear v5 v6 v7 v8 v9 v10 v11 v12 v13 v14 v15 v16
    subst v4
    refine Keep.trans ?_ (still_setDoms _ _ _).keep
    refine Keep.trans ?_ (still_setDoms _ _ _).keep
    exact hv3
  have hv5 : Keep s v5 := by
    clear v6 v7 v8 v9 v10 v11 v12 v13 v14 v15 v16
    subst v5
    refine keep_forEach _ ?_ ?_
    · intro a17 a18
      refine keep_ite ?_ ?_
      · refine Keep.trans ?_ (still_wri _ _ _ _).keep
        exact Keep.refl _
      · exact Keep.refl _
    · exact hv4
  have hv6 : Keep s v6 := by
    clear v7 v8 v9 v10 v11 v12 v13 v14 v15 v16
    subst v6
    iterate 3 refine Keep.trans ?_ (still_wr _ _ _).keep
    refine Keep.trans ?_ (still_setSeq _ _ _).keep
    refine Keep.trans ?_ (still_wr _ _ _).keep
    exact hv5
  have hv7 : Keep s v7 := by
    clear v8 v9 v10 v11 v12 v13 v14 v15 v16
    subst v7
    refine Keep.trans ?_ (still_countShutdown _ _).keep
    refine Keep.trans ?_ (still_omitUnsaved _ _).keep
    refine Keep.trans ?_ (still_voidQueues _).keep
    exact hv6
  have hv8 : Keep s v8 := by
    clear v9 v10 v11 v12 v13 v14 v15 v16
    subst v8
    refine Keep.trans ?_ (still_enterPhase _ _ _).keep
    exact hv7
  have hv9 : Keep s v9 := by
    clear v10 v11 v12 v13 v14 v15 v16
    subst v9
    refine Keep.trans ?_ (still_event _ _ _).keep
    exact hv8
  have hv10 : Keep s v10 := by
    clear v11 v12 v13 v14 v15 v16
    subst v10
    refine keep_ite ?_ ?_
    · refine Keep.trans ?_ (still_wr _ _ _).keep
      exact hv9
    · exact hv9
  have hv11 : Keep s v11 := by
    clear v12 v13 v14 v15 v16
    subst v11
    refine keep_ite ?_ ?_
    · refine Keep.trans ?_ (still_wr _ _ _).keep
      exact hv10
    · exact hv10
  have hv14 : Keep s v14 := by
    clear v15 v16
    subst v14
    refine keep_mk ?_
    exact hv11
  have hv15 : Keep s v15 := by
    clear v16
    subst v15
    refine keep_ite ?_ ?_
    · refine Keep.trans ?_ (still_wr _ _ _).keep
      exact hv14
    · exact hv14
  have hv16 : Keep s v16 := by
    subst v16
    refine Keep.trans ?_ (still_nextReload _).keep
    refine Keep.trans ?_ (still_updReady _).keep
    refine Keep.trans ?_ (still_settleMr _).keep
    refine Keep.trans ?_ (still_resumePass _).keep
    refine Keep.trans ?_ (still_trainLinks _).keep
    refine Keep.trans ?_ (still_snapWrite _).keep
    refine Keep.trans ?_ (still_norRetire _).keep
    exact hv15
  refine keep_ite ?_ ?_
  · refine Keep.trans ?_ (keep_startSave _ _ _)
    exact hv16
  · exact hv16

theorem keep_enterLinger (s : State) : Keep s (State.enterLinger s) := by
  unfold State.enterLinger
  extract_lets v1 v2 v3 v4 v5 v6 v7
  have hv1 : Keep s v1 := by
    clear v2 v3 v4 v5 v6 v7
    subst v1
    refine Keep.trans ?_ (still_event _ _ _).keep
    exact Keep.refl _
  have hv2 : Keep s v2 := by
    clear v3 v4 v5 v6 v7
    subst v2
    refine Keep.trans ?_ (still_enterPhase _ _ _).keep
    exact hv1
  have hv3 : Keep s v3 := by
    clear v4 v5 v6 v7
    subst v3
    refine Keep.trans ?_ (still_setDom _ _ _).keep
    refine Keep.trans ?_ (still_setDoms _ _ _).keep
    refine Keep.trans ?_ (still_setDoms _ _ _).keep
    exact hv2
  have hv4 : Keep s v4 := by
    clear v5 v6 v7
    subst v4
    refine Keep.trans ?_ (still_dropRails _ _).keep
    exact hv3
  have hv6 : Keep s v6 := by
    clear v7
    subst v6
    refine keep_mk ?_
    exact hv4
  have hv7 : Keep s v7 := by
    subst v7
    refine Keep.trans ?_ (still_updReady _).keep
    refine Keep.trans ?_ (still_sleepLatch _).keep
    refine Keep.trans ?_ (still_wr _ _ _).keep
    exact hv6
  refine keep_ite ?_ ?_
  · refine Keep.trans ?_ (keep_warmReturn _ _)
    exact hv7
  · refine keep_ite ?_ ?_
    · refine Keep.trans ?_ (keep_powerDown _ _)
      refine Keep.trans ?_ (still_event _ _ _).keep
      exact hv7
    · refine keep_ite ?_ ?_
      · refine Keep.trans ?_ (keep_powerDown _ _)
        refine Keep.trans ?_ (still_event _ _ _).keep
        exact hv7
      · refine keep_ite ?_ ?_
        · refine Keep.trans ?_ (keep_powerDown _ _)
          refine Keep.trans ?_ (still_event _ _ _).keep
          exact hv7
        · exact hv7

theorem keep_saveEnd (s : State) (result : Nat) : Keep s (State.saveEnd s result) := by
  unfold State.saveEnd
  extract_lets v1 v2 v3 v4 v5 v6 v7 v8 v9 v10 v11
  have hv3 : Keep s v3 := by
    clear v4 v5 v6 v7 v8 v9 v10 v11
    subst v3
    refine Keep.trans ?_ (still_wr _ _ _).keep
    refine Keep.trans ?_ (still_wr _ _ _).keep
    exact Keep.refl _
  have hv4 : Keep s v4 := by
    clear v5 v6 v7 v8 v9 v10 v11
    subst v4
    refine keep_ite ?_ ?_
    · exact hv3
    · refine Keep.trans ?_ (still_wr _ _ _).keep
      exact hv3
  have hv5 : Keep s v5 := by
    clear v6 v7 v8 v9 v10 v11
    subst v5
    refine keep_ite ?_ ?_
    · refine Keep.trans ?_ (still_event _ _ _).keep
      exact hv4
    · exact hv4
  have hv8 : Keep s v8 := by
    clear v9 v10 v11
    subst v8
    refine keep_mk ?_
    exact hv5
  have hv9 : Keep s v9 := by
    clear v10 v11
    subst v9
    refine Keep.trans ?_ (keep_releaseTargets _)
    exact hv8
  have hv11 : Keep s v11 := by
    subst v11
    refine keep_mk ?_
    exact hv9
  refine keep_ite ?_ ?_
  · refine Keep.trans ?_ (keep_rebirth _ _ _)
    exact hv11
  · refine keep_ite ?_ ?_
    · refine Keep.trans ?_ (keep_rebirth _ _ _)
      exact hv11
    · refine keep_ite ?_ ?_
      · refine Keep.trans ?_ (keep_powerDown _ _)
        refine Keep.trans ?_ (still_event _ _ _).keep
        exact hv11
      · refine Keep.trans ?_ (keep_enterLinger _)
        exact hv11

theorem keep_execManifestClosed (flips : List (List Nat)) (s : State) : KeepA s (execManifestClosed flips s) := by
  unfold execManifestClosed
  extract_lets v1
  have hv1 : Keep s v1 := by
    subst v1
    refine Keep.trans ?_ (still_begin _).keep
    exact Keep.refl _
  refine keepA_ite ?_ ?_
  · refine keepA_next ?_
    exact hv1
  · split
    · refine keepA_next ?_
      exact hv1
    · refine keepA_ite ?_ ?_
      · refine keepA_next ?_
        exact hv1
      · split
        rename_i w2 w3 w4 w5
        have hw3 : Keep s w3 := by
          refine keep_fst ?_ w5
          refine Keep.trans ?_ (still_readBack _ _ _).keep
          exact hv1
        refine keepA_ite ?_ ?_
        · refine keepA_next ?_
          refine Keep.trans ?_ (still_rewriteAnchor _ _).keep
          exact hw3
        · refine keepA_next ?_
          refine Keep.trans ?_ (keep_saveEnd _ _)
          refine Keep.trans ?_ (still_standAnchor _ _ _).keep
          exact hw3

theorem still_startRecord (s : State) : Still s (State.startRecord s) := by
  unfold State.startRecord
  extract_lets v1 v2 v3 v4
  have hv1 : Still s v1 := by
    clear v2 v3 v4
    subst v1
    refine Still.trans ?_ (still_journal _ _ _)
    exact Still.refl _
  have hv2 : Still s v2 := by
    clear v3 v4
    subst v2
    refine Still.trans ?_ (still_commitRecords _ _)
    exact hv1
  have hv4 : Still s v4 := by
    subst v4
    refine still_mk ?_
    exact hv2
  refine still_ite ?_ ?_
  · refine Still.trans ?_ (still_earlyRecs _)
    exact hv4
  · exact hv4

theorem keep_execSaveStartRecord (s : State) : KeepA s (execSaveStartRecord s) := by
  unfold execSaveStartRecord
  extract_lets v1
  have hv1 : Keep s v1 := by
    subst v1
    refine Keep.trans ?_ (still_begin _).keep
    exact Keep.refl _
  refine keepA_ite ?_ ?_
  · refine keepA_next ?_
    exact hv1
  · refine keepA_ite ?_ ?_
    · refine keepA_next ?_
      refine Keep.trans ?_ (keep_saveEnd _ _)
      exact hv1
    · refine keepA_ite ?_ ?_
      · refine keepA_next ?_
        refine Keep.trans ?_ (keep_failSave _)
        exact hv1
      · refine keepA_next ?_
        refine Keep.trans ?_ (still_streamEnd _).keep
        refine Keep.trans ?_ (still_startRecord _).keep
        exact hv1

theorem keep_execForcedAbort (commits : List Nat) (s : State) : KeepA s (execForcedAbort commits s) := by
  unfold execForcedAbort
  extract_lets v1 v2 v3 v4 v5
  have hv1 : Keep s v1 := by
    clear v2 v3 v4 v5
    subst v1
    refine Keep.trans ?_ (still_begin _).keep
    exact Keep.refl _
  have hv2 : Keep s v2 := by
    clear v3 v4 v5
    subst v2
    refine keep_ite ?_ ?_
    · exact hv1
    · refine Keep.trans ?_ (still_startRecord _).keep
      exact hv1
  have hv4 : Keep s v4 := by
    clear v5
    subst v4
    refine keep_foldl _ ?_ ?_
    · intro a6 a7
      refine keep_ite ?_ ?_
      · refine Keep.trans ?_ (keep_commitData _ _)
        exact Keep.refl _
      · refine Keep.trans ?_ (keep_abandon _ _)
        exact Keep.refl _
    · exact hv2
  refine keepA_ite ?_ ?_
  · refine keepA_next ?_
    exact hv1
  · refine keepA_ite ?_ ?_
    · refine keepA_next ?_
      refine Keep.trans ?_ (keep_rebirth _ _ _)
      refine Keep.trans ?_ (keep_releaseTargets _)
      exact hv1
    · refine keepA_next ?_
      refine Keep.trans ?_ (still_closeOut _ _).keep
      refine keep_mk ?_
      exact hv4

theorem keep_execResetDatagram (payload : List Byte) (s : State) : KeepA s (execResetDatagram payload s) := by
  unfold execResetDatagram
  extract_lets v1 v2
  have hv1 : Keep s v1 := by
    clear v2
    subst v1
    refine Keep.trans ?_ (still_begin _).keep
    exact Keep.refl _
  refine keepA_ite ?_ ?_
  · refine keepA_next ?_
    refine Keep.trans ?_ (keep_softReset _ _ _)
    exact hv1
  · refine keepA_next ?_
    exact hv1

theorem still_execResetNRelease (ticks : Nat) (s : State) : StillA s (execResetNRelease ticks s) := by
  unfold execResetNRelease
  extract_lets v1 v2 v3
  have hv1 : Still s v1 := by
    clear v2 v3
    subst v1
    refine Still.trans ?_ (still_wr _ _ _)
    refine Still.trans ?_ (still_begin _)
    exact Still.refl _
  have hv3 : Still s v3 := by
    subst v3
    refine still_mk ?_
    exact hv1
  refine stillA_ite ?_ ?_
  · refine stillA_next ?_
    refine Still.trans ?_ (still_onRequest _ _ _)
    exact hv3
  · refine stillA_ite ?_ ?_
    · refine stillA_next ?_
      refine Still.trans ?_ (still_powerAdvance _ _)
      refine Still.trans ?_ (still_bootChain _)
      exact hv3
    · refine stillA_next ?_
      exact hv3

theorem keep_execResetNAssert (ticks : Nat) (s : State) : KeepA s (execResetNAssert ticks s) := by
  unfold execResetNAssert
  extract_lets v1 v2 v3
  have hv1 : Keep s v1 := by
    clear v2 v3
    subst v1
    refine Keep.trans ?_ (still_wr _ _ _).keep
    refine Keep.trans ?_ (still_begin _).keep
    exact Keep.refl _
  have hv3 : Keep s v3 := by
    subst v3
    refine keep_mk ?_
    exact hv1
  refine keepA_next ?_
  refine Keep.trans ?_ (keep_deviceReset _ _ _)
  exact hv3

theorem keep_execLatchOpen (ticks : Nat) (s : State) : KeepA s (execLatchOpen ticks s) := by
  unfold execLatchOpen
  extract_lets v1 v2 v3
  have hv1 : Keep s v1 := by
    clear v2 v3
    subst v1
    refine Keep.trans ?_ (still_wr _ _ _).keep
    refine Keep.trans ?_ (still_begin _).keep
    exact Keep.refl _
  have hv3 : Keep s v3 := by
    subst v3
    refine Keep.trans ?_ (still_event _ _ _).keep
    exact hv1
  refine keepA_ite ?_ ?_
  · refine keepA_next ?_
    exact hv1
  · refine keepA_ite ?_ ?_
    · refine keepA_next ?_
      exact hv3
    · refine keepA_next ?_
      refine Keep.trans ?_ (keep_powerTrigger _ _ _ _)
      exact hv3

theorem keep_execComparatorTrip (b : Nat) (ticks : Nat) (s : State) : KeepA s (execComparatorTrip b ticks s) := by
  unfold execComparatorTrip
  extract_lets v1 v2 v3
  have hv1 : Keep s v1 := by
    clear v2 v3
    subst v1
    refine Keep.trans ?_ (still_wr _ _ _).keep
    refine Keep.trans ?_ (still_begin _).keep
    exact Keep.refl _
  have hv3 : Keep s v3 := by
    subst v3
    refine keep_mk ?_
    exact hv1
  refine keepA_next ?_
  refine Keep.trans ?_ (keep_powerTrigger _ _ _ _)
  exact hv3

theorem still_execEnergyGone (s : State) : StillA s (execEnergyGone s) := by
  unfold execEnergyGone
  extract_lets v1
  have hv1 : Still s v1 := by
    subst v1
    refine Still.trans ?_ (still_begin _)
    exact Still.refl _
  refine stillA_next ?_
  refine still_ite ?_ ?_
  · refine Still.trans ?_ (still_energyGone _)
    exact hv1
  · exact hv1

theorem still_execWakeNFall (ticks : Nat) (s : State) : StillA s (execWakeNFall ticks s) := by
  unfold execWakeNFall
  extract_lets v1 v2
  have hv1 : Still s v1 := by
    clear v2
    subst v1
    refine Still.trans ?_ (still_wr _ _ _)
    refine Still.trans ?_ (still_begin _)
    exact Still.refl _
  refine stillA_ite ?_ ?_
  · refine stillA_ite ?_ ?_
    · refine stillA_next ?_
      refine Still.trans ?_ (still_onRequest _ _ _)
      exact hv1
    · refine stillA_next ?_
      refine still_mk ?_
      exact hv1
  · refine stillA_ite ?_ ?_
    · refine stillA_next ?_
      refine Still.trans ?_ (still_wakeDeep _ _)
      exact hv1
    · refine stillA_next ?_
      exact hv1

theorem keep_execServiceInputValid (ticks : Nat) (s : State) : KeepA s (execServiceInputValid ticks s) := by
  unfold execServiceInputValid
  extract_lets v1 v2 v3
  have hv1 : Keep s v1 := by
    clear v2 v3
    subst v1
    refine Keep.trans ?_ (still_wr _ _ _).keep
    refine Keep.trans ?_ (still_begin _).keep
    exact Keep.refl _
  have hv3 : Keep s v3 := by
    subst v3
    refine keep_mk ?_
    exact hv1
  refine keepA_ite ?_ ?_
  · refine keepA_next ?_
    refine Keep.trans ?_ (still_onRequest _ _ _).keep
    exact hv3
  · refine keepA_ite ?_ ?_
    · refine keepA_next ?_
      refine Keep.trans ?_ (still_onRequest _ _ _).keep
      exact hv3
    · refine keepA_ite ?_ ?_
      · refine keepA_next ?_
        refine Keep.trans ?_ (keep_warmReturn _ _)
        exact hv3
      · refine keepA_ite ?_ ?_
        · refine keepA_next ?_
          refine Keep.trans ?_ (still_event _ _ _).keep
          refine Keep.trans ?_ (still_wr _ _ _).keep
          exact hv3
        · refine keepA_next ?_
          exact hv3

theorem still_unwait (s : State) (h : Nat) (sub : Option (Nat × Nat × Bool)) : Still s (State.unwait s h sub) := by
  unfold State.unwait
  extract_lets v1 v2 v3
  have hv1 : Still s v1 := by
    clear v2 v3
    subst v1
    refine still_mk ?_
    exact Still.refl _
  refine still_ite ?_ ?_
  · refine Still.trans ?_ (still_setQueue _ _ _)
    exact hv1
  · exact hv1

end Sys2Proof.Machine
end

