-- ==== Sys2Proof/Laws/Ready.lean ====
section
/-! SUPPORT. What the gates before a command's effect do when they are open: a ready mailbox, an admin queue that can take an entry, a doorbell
page whose head is in L0. -/

namespace Sys2Proof.Machine

/-- A ready mailbox runs its command at once. -/
theorem mbox_ready {s : State} {v : Via} (h : MailboxReady s v) (c : Instr) (k : MbClass) (b : Bool) (f : State → State) :
    s.mbox v c k b f = f s.begin := by
  obtain ⟨a, m, p, q, r⟩ := h
  unfold State.mbox
  simp [a, m, p, q, r]

/-- A command of one head through its own mailbox. -/
theorem headOnly_head (s : State) (k : Nat) (f : State → Nat → State) : s.headOnly (.head k) f = f s k := rfl

/-- A command of one head over MCTP. -/
theorem headOnly_mctp (s : State) (p : Option Nat) (f : State → Nat → State) :
    s.headOnly (.mctp p) f = s.reply (.mctp p) .unsupported [] := rfl

/-- An admin queue that can take an entry runs its operation on what the capture leaves. -/
theorem adminOp_ready {s : State} {h : Nat} (r : AdminReady s h) (tag share : Nat) (f : State → Ticket → State) :
    s.begin.adminOp h tag share f = f (adminCapture s h tag share).1 (adminCapture s h tag share).2 := by
  obtain ⟨a, b, c, d, e, _⟩ := r
  unfold State.adminOp State.takeEntry
  simp [a, b, c, d, e]
  rfl

/-- The same where the operation needs the MP, which runs. -/
theorem adminMp_ready {s : State} {h : Nat} (r : AdminReady s h) (m : s.mpRuns = true) (i : Instr) (tag share : Nat)
    (f : State → Ticket → State) :
    s.begin.adminMp i h tag share f = f (adminCapture s h tag share).1 (adminCapture s h tag share).2 := by
  unfold State.adminMp
  simp only [State.begin_mpRuns, m, if_true]
  exact adminOp_ready r tag share f

/-- A doorbell page whose head exists and is in L0 accepts the write. -/
theorem doorbell_ready {s : State} {h : Nat} (a : s.headExists h = true) (b : s.headUp h = true) (f : State → State) :
    s.begin.doorbell h f = f s.begin := by
  unfold State.doorbell
  simp [a, b]

end Sys2Proof.Machine
end

