-- ==== Sys2Proof/Machine/Line.lean ====
section
/-! DEFINITION. How DRAM holds a line: its ciphertext, its check code and the devices its symbols lie in (R229 to R232). -/

namespace Sys2Proof.Machine

/-! ### The check code (R229) -/

/-- R229: the generator of the Reed–Solomon (80, 64) code, its constant coefficient first: roots α^0 to α^15. -/
def dramGen : List Nat := ((List.range 16).map fun i => gfPow 8 rsPoly 2 i).foldl (timesRoot mul8) [1]

/-- R229: one data symbol divided in: the 16 remainder symbols, the highest coefficient first. -/
def dramStep (r : List Nat) (c : Nat) : List Nat :=
  let f := Nat.xor c (r.headD 0)
  List.zipWith (fun a g => Nat.xor a (mul8 f g)) (r.drop 1 ++ [0]) (dramGen.take 16).reverse

/-- R229: the 16 check symbols of 64 data symbols. Symbol i is the coefficient of x^(79 − i), as R136 orders its symbols (DEDUCED, log 196: R229
does not order the polynomial). -/
def dramCheck (data : List Nat) : List Nat := data.foldl dramStep (List.replicate 16 0)

/-- R229, R231: the 80 symbols of a line of 64 ciphertext bytes: devices 0 to 7 carry them in order, devices 8 and 9 the check symbols, of a poisoned
line XORed with 0x50. -/
def dramCodeword (cipher : List Nat) (poison : Bool) : List Nat :=
  cipher ++ (dramCheck cipher).map fun c => if poison then Nat.xor c 0x50 else c

/-- R229: what device d of the subchannel carries on burst beat b: symbol 8d + k holds beats 2k, in the low nibble, and 2k + 1. -/
def dramBeat (word : List Nat) (d b : Nat) : Nat := natField (word.getD (8 * d + b / 2) 0) (4 * (b % 2)) 4

/-! ### Lines as stored (R225, R231, R232) -/

/-- R232: the ciphertext of a line: under the key of its share, or the reserve key outside every share; the tweak is its device address over 64. -/
def State.cipherLine (s : State) (line : Nat) : List Nat :=
  let data := leBytes 64 (memLine s.mem (line * 64)).toNat
  match s.shareOf (line / 64) with
  | some n => lineCipher n (natField (FMap.get 0 s.sec.keyw n) 0 40) line data
  | none => xts (reserveKey s.sec.rgen) line data

/-- R229, R231, R232: the codeword a line is stored as. -/
def State.storedLine (s : State) (line : Nat) : List Nat := dramCodeword (s.cipherLine line) (s.linePoisoned line)

/-- R225, R229: where a line is stored: channel, rank and subchannel, and what each device of the subchannel carries on each of 16 beats. -/
def State.lineDevices (s : State) (line : Nat) : Nat × Nat × Nat × List (List Nat) :=
  let w := s.storedLine line
  (unitChan (line / 64), s.unitRank (line / 64), lineSub line, (List.range 10).map fun d => (List.range 16).map (dramBeat w d))

end Sys2Proof.Machine
end

