-- ==== Sys2Proof/Tests/Slice0.lean ====
section
/-! SUPPORT. Tests: an ill-formed command for each check of WellFormed, single steps whose results the spec states, and for every obligation
with premises a theorem that concrete states and operands meet them, clause by clause. -/

namespace Sys2Proof.Tests
open Sys2Proof Sys2Proof.Machine

set_option Elab.async false

/-- A state with register fields set: field, instance, value. -/
def regs (s : State) (l : List (Field × Nat × Nat)) : State := l.foldl (fun t e => t.wri e.1 e.2.1 e.2.2) s

/-- A processor of every kind runs and every domain is on. -/
def up : State := regs { State.reset with regs := [] } [(F.QUE_ALLOC_COUNT, 0, 512), (F.FW_PROC_STATE, 0, 0x2222222), (F.PW_DOM_DOM, 0, 0x5555555555555)]

/-- SERVICE: head 0's link in L0, DRBG and readiness; share 0 is 256 MiB from 0, HELD and READY, granted read-write to head 0. -/
def sv : State :=
  let s := regs up [(F.GEN_PHASE_PHASE, 0, 2), (F.HP_LINK_STATE, 0, 3), (F.SEC_STS_DRBGOK, 0, 1), (F.SHR_SIZE_ADDR, 0, 1), (F.SHR_STATUS_STATE, 0, 4),
    (F.SHR_STATUS_MODE, 0, 1), (F.SHR_STATUS_TARGET, 0, 7), (F.SHR_HEADS_GRANT, 0, 2), (F.SHR_CFG_EN, 0, 1)]
  { s with queues := [(0, { state := 1, admin := true, depth := 64, sqTail := 1, vec := 0, ien := true }),
                      (1, { state := 1, depth := 64, sqTail := 3, vec := 1 })],
           heads := [(0, { decoders := [(0, { base := 0, size := 2 ^ 28, ways := 1, gran := 256, dpa := 0, committed := true })], unmasked := [0, 1] })] }

/-- sv with unit 1 DIRTY. -/
def svD : State := { sv with dmap := [(1, 2, { st := 1, stamp := 0 })] }

/-- sv with queue 1 changed. -/
def svQ (f : Queue → Queue) : State := sv.setQueue 1 (f (sv.queue 1))

/-! states of the ring tests -/
def svN : State := { sv with turnQ := 0 }
def svF : State := regs sv [(F.SHR_STATUS_STATE, 0, 1)]
def svR : State := { sv with tickets := [{ qid := 1, seq := 5, tag := 9, kind := .release, level := 0, share := 0, lo := 1, hi := 2, gen := 0, oseq := none, wait := [], urgent := false, inl := false, ctx := 1, sqhd := 1, since := 0, walking := false, op := 1, outcome := none }] }
def svW : State := { svD with walks := [(3, { share := 0, lo := 1, hi := 3, qid := 1, seq := 5, twine := false, links := 0 })] }
def wI : Nat := 2^62 + 2^60 + 1 * 2^22
def svP : State := svQ (fun x => { x with paused := true })
def svH : State := svQ (fun x => { x with held := some (some 7, wI) })
def svL : State := { sv with report := { gen := 3, losses := [{ share := 0, lo := 1, units := 1, cause := 2, lgen := 1 }] } }
def svA4 : State := regs sv [(F.GEN_READY_BITS, 0, 2^13)]
def svA5 : State := regs sv [(F.QUE_ACTL_EN, 0, 1)]
def svI : State := svQ (fun x => { x with ien := true, aggt := 1, unsig := 1 })
def svI2 : State := { sv with heads := [(0, { msixPend := [1] })] }
def svB : State := svQ (fun x => { x with cqHead := 5 })

def bun (u : Nat) : Bundle := { use := u, members := [], next := 1, closed := false, lastLsn := 0 }
def slot1 : Slot := { unit := 1, share := 0, pmask := 0, cells := [], moved := none }
def sk (g ty : Nat) : Skein := { gen := g, ty := ty, bundle := 5, page := 1, slots := [some slot1], recs := [], seg := 0, snap := 0, entries := [], failed := [] }
def imS : State := { regs svD [(F.FC_PROT_ARMED, 0, 1), (F.MR_GEN_NEXT, 0, 10), (F.SHR_CAP_VISIBLE, 0, 2)] with
  im := { dataB := some 5, jb := some 6, bundles := [(5, bun 1), (6, bun 2)], tail := [{ lsn := 3, ty := 2, args := [1, 2], pay := .none, count := 1 }] }, mr := { svD.mr with partialOk := true } }
def imF (st : Nat) : State := { imS with im := { imS.im with flight := [sk 7 1, sk 8 2, sk 9 3], passLsn := some 1 }, dmap := [(1, 2, { st := st, stamp := 0 })] }
def imF2 : State := imF 2
def imF3 : State := imF 3
def imF4 : State := regs imF2 [(F.SHR_CAP_VISIBLE, 0, 16)]
def anc (k : Nat) : Anchor := { gen := 4, kind := k, result := 0, reason := 0, imageId := 1, prev := 0, prevman := 0, cklsn := 0, lastLsn := 0, nextGen := 5, units := 0, time := 0, pass := 0, good := 0, copies := [(0, 1)] }
def imA : State := { imS with im := { imS.im with anchorW := some (anc 1) } }

def svV : State := regs sv [(F.SHR_CAP_VISIBLE, 0, 16), (F.GEN_ADMIT_ADMITTED, 0, 1)]
def svJ : State := { regs sv [(F.TW_ASEQ_VALUE, 0, 8), (F.TW_S_PAIR, 0, 2*2^58)] with tw := { sv.tw with joinSeq := [(0, 8)] } }
def svT : State := { svR with tickets := svR.tickets.map fun t => { t with kind := .commit } }

def svX : State := regs sv [(F.HP_LINK_IDE, 0, 1), (F.SHR_CAP_VISIBLE, 0, 2), (F.TWB_SB_MCTPEN, 0, 1), (F.TWB_SB_EID, 0, 9), (F.GEN_PINS_PERST, 0, 65535), (F.HP_PORT_CFG_MAXRATE, 0, 2)]
def svNo : State := regs sv [(F.SHR_HEADS_GRANT, 0, 0)]
def svRo : State := regs sv [(F.SHR_HEADS_GRANT, 0, 1)]
def svY : State := { svX with heads := [(0, { decoders := [(0, { base := 0, size := 2^28, ways := 1, gran := 256, dpa := 0, committed := true, lock := true })], bg := some (0x4304, 0, 4096) })] }

def svX4 : State := regs svX [(F.HP_LINK_STATE, 0, 4)]
def svX1 : State := regs svX [(F.HP_LINK_STATE, 0, 1), (F.HP_LINK_STATE, 3, 1)]
def svX3 : State := { svX with lsa := [(131071, 4), (131072, 5)] }

def occ1 : Occ := { code := 0x1003, d0 := 0, d1 := 0, stamp := {}, phase := 2, count := 1, token := true }
def evS : State := { regs svX [(F.EV_STS_AVAIL, 0, 1), (F.EV_RANGE_OLDEST, 0, 3), (F.EV_LSEL_SEQ, 0, 4), (F.EV_SEL_CODE, 0, 0x1003)] with ev := { svX.ev with queue := [occ1], next := 5, sums := [(0x1003, { count := 2, hist := [1, 1] })], fetch := true, episode := some 4, log := [{ seq := 4, code := 0x1003, typ := 1, phase := 2, xtrm := false, crit := false, part := 0, body := [1, 2] }, { seq := 3, code := 0x1003, typ := 1, phase := 2, xtrm := false, crit := false, part := 0, body := [1, 2] }] },  heads := [(0, { logs := [(1, [{ handle := 1, code := 5, data := [1], time := 2 }])] })] }
def evF : State := { evS with ev := { evS.ev with queue := List.replicate 4096 occ1 } }

def svC : State := { evS with norMask := [(0xF0008, 0x00FF000000000000)] }

def tw1 : State := { regs svC [(F.TWB_SB_WRMASK, 0, 0xFFFF)] with twb := { alert := true, ptr := 0x30000, status := 3, txs := [(1, { target := 9, wait := 1, due := 0 })], states := [(2, 1), (3, 2)] } }
def tw2 : State := { regs svC [(F.TWB_SB_WRMASK, 0, 0)] with twb := { alert := true, ptr := 0x60010, status := 3 } }

def ckS (st : Nat) : State := { regs svC [(F.CK_STS_STATE, 0, st), (F.CK_STS_REFOK, 0, 1), (F.CK_PPS_EN, 0, 1), (F.CK_ALCTL_ARM, 0, 1), (F.CK_CTL_TRIM, 0, 2), (F.CK_CTL_PTPEN, 0, 1), (F.CK_CTL_PTMEN, 0, 1), (F.CK_UNC_UNC, 0, 5000), (F.CK_PTP_UTCOFF, 0, 37), (F.GEN_PINS_PERST, 0, 65535), (F.CK_ALARM_AT, 0, 1000), (F.CK_STS_HOLDOVER, 0, 0)] with
  ck := { svC.ck with ns := 10^18, mono := 10^18, frac := 5 }, pan := { svC.pan with ethUp := true } }
def ckM : State := { ckS 2 with ck := { (ckS 2).ck with master := some 9 } }
def ckL : State := regs ckM [(F.CK_SERVO_SSTATE, 0, 2)]
def ckT : State := regs (ckS 2) [(F.CK_CTL_TRIM, 0, 0)]

def en (st : Nat) : State := regs (ckS 2) [(F.EN_STS_STATE, 0, st), (F.EN_STS_STATE, 1, st), (F.PW_STATE_STBY, 0, 0), (F.EN_STS_TSTEP, 0, 3), (F.EN_STS_PAUSEREQ, 0, 1), (F.EN_STS_PAUSEREQ, 1, 1)]
def enT (st : Nat) : State := regs (en st) [(F.EN_STS_TSTEP, 0, 0)]
def enF : State := { en 5 with bayA := { first := true } }
def enR : State := regs (en 3) [(F.EN_STS_RELEASED, 0, 1)]
def enD : State := regs (en 0) [(F.GEN_PHASE_PHASE, 0, 0)]
def tr1 : State := { en 5 with trials := [(0, { cls := 5, unit := 0, disrupt := false, st := 1, prog := 0, faults := 0 }), (2, { cls := 1, unit := 0, disrupt := false, st := 4, prog := 100, faults := 70000 })] }
def tr2 : State := { en 5 with trials := [(3, { cls := 5, unit := 0, disrupt := false, st := 2, prog := 0, faults := 0 })] }

def fw0 (ph : Nat) : State := regs svC [(F.GEN_PHASE_PHASE, 0, ph), (F.SEC_STS_SVNMIN, 0, 2)]
def okb (v : Nat) : BootBlock := { verr := v, train := 3, minor := 1, build := 7, svn := 4, layout := 0 }
def fw1 : State := { regs (fw0 1) [(F.FW_PROC_STATE, 0, 0x2222222)] with fw := { svC.fw with mpExp := 2 } }
def fw2 : State := { regs (fw0 2) [(F.FW_PROC_STATE, 0, 0x2222233)] with fw := { svC.fw with cause := [(1, (2, 0))], reloads := [(0, 4)], blkA := okb 0, wanted := [(3, none)] } }
def fw3 : State := { fw2 with fw := { fw2.fw with blkA := okb 3 } }
def fw4 : State := { regs (fw0 2) [(F.FW_STG_STATE, 0, 2)] with fw := { svC.fw with slot := some 1, blkB := okb 0, blkA := okb 0 } }
def fwN (n : Nat) (p : Option StagePart) : State := { regs (fw0 2) [(F.FW_NOR_STATE, 0, n), (F.FW_STG_STATE, 0, 1)] with fw := { svC.fw with part := p, slot := some 1, xfer := some 32, blkB := okb 1 } }
def prt : StagePart := { len := 4096, last := true, blk := okb 0, ticket := none, via := some (.head 0) }
def trS : State := { fw0 2 with ck := { (fw0 2).ck with mono := 10 ^ 13 }, fw := { svC.fw with swap := some { seq := 3, svn := 2, attempts := 1, trial := true, active := 0 } } }
def rc : State := { regs (fw0 7) [(F.FW_REC_XPORT, 0, 3)] with pan := { svC.pan with ethUp := true }, fw := { svC.fw with tftp := 4, tries := 2 } }
def rc5 : State := { rc with fw := { rc.fw with tries := 5 } }
def hdrOk : FwHeader := { fail := 0, train := 3, minor := 4, build := 5, svn := 6, layout := 0 }

def pn : State := { regs svC [(F.MR_HOLDUP_THU, 0, 200000), (F.GEN_PINS_PERST, 0, 65535)] with pan := { svC.pan with ready := true, touchBase := some 1000000, touch := 4, latched := [13, 5] }, dmap := [] }
def pnR (n : Nat) : State := regs pn [(F.GEN_PANEL_RMV, 0, n)]
def pnT : State := { pn with pan := { pn.pan with touch := 199 } }

def tgH (off : List Nat) : Target := { state := 1, offs := off }
def fl (ph : Nat) : State := { regs imF2 [(F.GEN_PHASE_PHASE, 0, ph), (F.CK_STS_STATE, 0, 2), (F.FC_PROT_ARMED, 0, 1), (F.FC_CFG_WEARLIM, 0, 100), (F.TWB_SB_MCTPEN, 0, 1), (F.TWB_SB_EID, 0, 9)] with fc := { imF2.fc with tgts := [(0, tgH []), (1, tgH [0, 8, 0, 0, 0, 0, 0, 15]), (16, { state := 1, susp := some 65541 }), (32, tgH [])], chans := [(0, { trained := true, rate := 5 })], blocks := [(5, 6, { st := 2, ers := 7, tries := 1 }), (6, 7, { st := 3, ers := 7 }), (7, 8, { st := 3, ers := 100 }), (4096, 4097, { st := 2 }), (65541, 65542, { st := 8 })] }, im := { imF2.im with bundles := [(5, { use := 1, members := [5, 4096], next := 1, closed := false, lastLsn := 0 }), (6, bun 2)], flight := [sk 7 1] } }
def flE : State := { fl 2 with im := { (fl 2).im with flight := [] } }
def flT : State := { fl 2 with fc := { (fl 2).fc with tgts := [(0, { state := 1, tmoAt := some 0 }), (1, tgH [])] } }
def flB : State := { fl 2 with fc := { (fl 2).fc with blocks := [(4100, 4101, { st := 5, sealPage := some (0, 0) })] } }
def flQ (st : Nat) : State := { regs (fl 2) [(F.FC_RSK_STATE, 0, st), (F.MR_HOLDUP_THU, 0, 200000)] with fc := { (fl 2).fc with queue := [3, 4], ckpt := (1, 7) }, mr := { (fl 2).mr with testWaits := true }, dmap := [] }

def wr (s : State) : State := { regs s [(F.MR_HOLDUP_THU, 0, 200000), (F.MR_WEIR_WEIR, 0, 41), (F.EN_PWR_PD, 0, 300), (F.EN_PWR_PD, 1, 300), (F.EN_ENG_EU, 0, 45000), (F.EN_ENG_EU, 1, 45000)] with fc := { s.fc with rfl := 40000000000 } }
def enP : State := { wr (en 5) with regs := (regs (wr (en 5)) [(F.EN_STS_STATE, 1, 4), (F.EN_MEAS_TEMP, 0, 250), (F.MR_WEIR_WEIR, 0, 72)]).regs, bayA := { tOld := 251 } }

def mm (ph : Nat) : State := { regs svC [(F.GEN_PHASE_PHASE, 0, ph), (F.CK_STS_STATE, 0, 2), (F.MC_SPARE_STATE, 0, 0), (F.MC_CFG_SPARE, 0, 0)] with
  pw := { svC.pw with dram := true }, im := { svC.im with skeins := [(7, sk 7 1)] }, index := [(1, 2, .slot 7 0)] }
def mmU : State := { mm 2 with mc := { trained := true, heals := [1], chans := [(0, { state := 2, cap := 16, ranks := 2, retrains := [5], retry := 254, rows := [(1, 0, 3, 77)] }), (1, { state := 2, cap := 16, ranks := 2 })] } }
def mmB : State := { mmU with fc := { mmU.fc with tgts := [(0, tgH [])] }, im := { mmU.im with bundles := [(5, { use := 1, members := List.range 32, next := 2, closed := false, lastLsn := 0 })] } }
def mmS : State := { regs mmU [(F.MC_SPARE_STATE, 0, 1), (F.MC_CFG_SPARE, 0, 1)] with mc := { mmU.mc with spare := some (0, 1), ptr := 77 } }

def pwU : State := { regs svC [(F.PW_RAIL_EN, 3, 1), (F.PW_RAIL_EN, 4, 1), (F.PW_RAIL_VNOM, 3, 1000), (F.PW_RAIL_STEP, 3, 2), (F.PW_RAIL_STEP, 4, 2), (F.PW_RAIL_GRP, 3, 3), (F.PW_RAIL_PMB, 3, 1), (F.GEN_PHASE_PHASE, 0, 1), (F.PW_STATE_STBY, 0, 0)] with
  pw := { svC.pw with up := 2, good := [], snaps := [], snapPend := [] } }
def pwS : State := { regs pwU [(F.GEN_PHASE_PHASE, 0, 2), (F.PW_STATE_SEQ, 0, 3), (F.HP_LINK_STATE, 0, 1), (F.PW_CTL_STBY, 0, 60), (F.MR_WEIR_WEIR, 0, 20), (F.SPN_RST_STAGE, 0, 4)] with heads := [] }
def pwD : State := regs pwS [(F.GEN_PHASE_PHASE, 0, 5)]
def pwV : State := regs pwS [(F.GEN_PHASE_PHASE, 0, 3), (F.SPN_SAVE_REASON, 0, 1)]
def pwO (h : Bool) (a b : Nat) : State := { regs svC [(F.PW_OP_BUSY, 0, 1), (F.PW_OP_CUR, 0, a), (F.PW_OP_TARGET, 0, b)] with pw := { svC.pw with opHalf := h } }

def sa (ph : Nat) : State := regs svC [(F.GEN_PHASE_PHASE, 0, ph), (F.TWB_SB_WRMASK, 0, 1), (F.GEN_CFG_NETRST, 0, 1), (F.GEN_SERIAL_SERIAL, 0, 0x1122334455667788), (F.PW_VIN_OK, 0, 1)]
def saL : State := regs (sa 2) [(F.GEN_PANEL_RMV, 0, 2)]
def saN : State := { sa 2 with pan := { svC.pan with ethUp := true } }
def saB : State := { regs (sa 1) [(F.FW_PROC_STATE, 0, 0x2222220)] with pw := { svC.pw with done := 2, resetLow := true } }
def saD : State := { sa 5 with pw := { svC.pw with onHeld := true, resetLow := true, cause := 4 }, ck := { svC.ck with sleep := some (5, 0, 0, 0) } }
def dg : List Byte := [0x44, 0x54, 0x53, 0x52, 0, 0, 0, 0, 0x88, 0x77, 0x66, 0x55, 0x44, 0x33, 0x22, 0x11]
def sS (st cl : Bool) : State := { imS with regs := (sa 3).regs, im := { imS.im with flight := [sk 7 1, sk 8 2] }, sv := { svC.sv with started := st, closing := cl, rs := 10^10, rcap := 2*10^10 }, pw := { svC.pw with resetLow := true } }
def sSc : State := { sS true false with sv := { (sS true false).sv with cut := true }, im := { imS.im with flight := [sk 8 2] } }
def sSa (k : Nat) : State := { sS true true with im := { imS.im with anchorW := some (anc k) } }

def ad : State := { regs imS [(F.CK_STS_STATE, 0, 2), (F.SPN_PLD_CHKA, 0, 1), (F.SEC_STS_PUFOK, 0, 1), (F.EN_SUM_READY, 0, 3), (F.MC_STAT_FAILED, 0, 0), (F.FC_CEIL_USABLE, 0, 40), (F.FW_PROC_STATE, 0, 0x2222222), (F.GEN_ADMIT_ADMITTED, 0, 0), (F.GEN_ADMIT_FIRST, 0, 0)] with
  mc := { imS.mc with trained := true }, rs := { imS.rs with imageDone := true }, im := { imS.im with imageId := some (5, true) } }
def ad0 : State := { ad with im := { ad.im with imageId := none } }
def adU : State := { regs ad [(F.CK_STS_STATE, 0, 3)] with pan := { ad.pan with blocked := true } }
def adF : State := { regs ad [(F.GEN_ADMIT_FIRST, 0, 1)] with im := { ad.im with imageId := some (5, false), anchorW := some (anc 1) } }
def adP : State := { regs ad [(F.GEN_PHASE_PHASE, 0, 1), (F.SPN_RST_STAGE, 0, 1)] with rs := { imS.rs with imageDone := false } }
def rd (ph : Nat) : State := { mm ph with fc := mmB.fc, im := { mmB.im with skeins := (mm ph).im.skeins }, rs := { rmap := [(1, 2, 1)], fetches := [(1, { readers := [(0, 4096)], byRead := some 0, sent := true }), (9, { readers := [], byRead := none, sent := true })], waits := [{ head := 0, line := 64, data := 7, be := 1, poison := false }] } }
def rdE : State := { rd 6 with rs := { (rd 6).rs with fetches := [] } }
def rdS : State := { rd 6 with rs := { (rd 6).rs with rmap := [(1, 2, 1), (9, 10, 1)] } }
def rdL : State := { rd 6 with rs := { (rd 6).rs with listed := [{ share := 0, lo := 1, units := 1, cause := 2, lgen := 1 }] } }

def se : State := { regs svC [(F.GEN_SERIAL_SERIAL, 0, 77), (F.TWB_SB_MCTPEN, 0, 1), (F.TWB_SB_EID, 0, 9)] with sec := { svC.sec with nonce := some (5, 0), keyw := [(0, 2 ^ 40 + 3), (1, 9)], slots := [(4, 7)] }, heads := [(0, { ideKeys := 4, spdm := 1 })] }
def seO : State := { se with sec := { se.sec with keyw := [(0, 9)] } }
def seM (m : Nat) (t : State) : State := regs t [(F.GEN_ADMIT_ADMITTED, 0, 1), (F.SHR_STATUS_MODE, 0, m), (F.SHR_STATUS_STATE, 0, 4)]
def seG : State := { regs (seM 1 se) [(F.SHR_STATUS_STATE, 0, 6), (F.SHR_STATUS_TARGET, 0, 5)] with sec := { se.sec with sealFrom := [(0, 9)] } }
def seN : State := { se with ck := { se.ck with ns := 300000000000, mono := 300000000000 } }
def seS : State := { se with sec := { se.sec with sanitize := some (60000000000, 0) } }
def seT : State := { se with sec := { se.sec with sanitize := some (60000000000, 16) } }
def tok (g : List Nat) : Token := { magic := 0x41555448, version := 1, serial := 77, nonce := 5, p6 := 1, p7 := 2, sig := g }

def tl (st0 st1 links : Nat) : State := { regs svC [(F.TW_CTL_EN, 0, 3), (F.TW_PORT_STATE, 0, st0), (F.TW_PORT_STATE, 1, st1), (F.TW_PAIR_LINKS, 0, links), (F.TW_PAIR_STATE, 0, if links = 0 then 0 else 1), (F.GEN_SERIAL_SERIAL, 0, 77), (F.TW_CTL_IDEREQ, 0, 0), (F.TW_PORT_IDE, 0, 1), (F.TW_OSEQ_VALUE, 0, 9), (F.TW_ASEQ_VALUE, 0, 5), (F.TW_PAIR_SESSION, 0, 0x1234)] with
  tw := { svC.tw with hello := 3, inLinks := links, serial0 := 99 } }
def tl0 : State := { tl 3 1 0 with tw := { (tl 3 1 0).tw with hello := 0 } }
def tlO : State := { tl 3 3 0 with tw := { (tl 3 3 0).tw with offered := some 6 } }
def tlR : State := { regs (tl 3 3 1) [(F.TW_S_PAIR, 0, 2*2^62 + 3*2^58)] with walks := [] }
def tlC : State := { regs (tl 3 3 1) [(F.TW_S_PAIR, 0, 2^62 + 4*2^58)] with tw := { (tl 3 3 1).tw with copying := some (0, false) } }
def tlH : State := regs (tl 3 3 1) [(F.TW_S_PAIR, 0, 2^62 + 7*2^58)]
def tlL (p m : Nat) : State := regs (tl 3 3 0) [(F.TW_S_PAIR, 0, 2*2^62 + p*2^58), (F.SHR_STATUS_MODE, 0, m)]
def tlNo3 : State := regs (tl 3 3 0) [(F.FW_PROC_STATE, 0, 0x2202222), (F.TW_PAIR_STATE, 0, 3)]
def dsg : Desig := { own := 4, peer := 5, pairid := 6, size := 2, ok := false, via := some (.head 0) }
def tlD : State := { tl 3 3 1 with tw := { (tl 3 3 1).tw with desigs := [dsg] } }

/-! commands and other data named -/
def dsc (a b c : Nat) : Desc := { op4 := 0, op5 := 0, op6 := 0, op7 := 0, tag := 7, w0 := a, op2 := b, op3 := c }
def sk8 : Skein := sk 8 2
def dcd : Decoder := { base := 0, size := 2 ^ 28, ways := 1, gran := 256, dpa := 0, committed := true }
def dcd7 : Decoder := { base := 2 ^ 40, size := 2 ^ 28, ways := 1, gran := 256, dpa := 2 ^ 28, committed := true, lock := true }
def imJ : State := { imF4.begin.land 8 with im := { (imF4.begin.land 8).im with skeins := FMap.put (imF4.begin.land 8).im.skeins 8 sk8, segs := (imF4.begin.land 8).im.segs ++ [((imF4.begin.land 8).im.pass, 0, 8)] } }
def smy (l : List Nat) (u : Nat) : Summary := { hist := l, unbinned := u, count := 3 }
def btx : BusTx := { target := 9, wait := 1, due := 0 }
def trl (c st p f : Nat) : Trial := { cls := c, unit := 0, disrupt := false, st := st, prog := p, faults := f }
def dcd1 : Decoder := { base := 2 ^ 28, size := 2 ^ 28, dpa := 2 ^ 28, committed := true, lock := true }
def ft0 : Fetch := { readers := [], byRead := none, sent := true }
def ft1 : Fetch := { readers := [(0, 4096)], byRead := some 0, sent := true }
def pwG2 : State := { pwU with pw := { pwU.pw with good := [3] } }
def mpw : State := { sv with mpWait := [(0, .getReadiness (.head 0), none)] }

/-- imS with the members 0 to 31 in bundle 5. -/
def bunS : State := { imS with im := { imS.im with bundles := [(5, { use := 1, members := List.range 32, next := 1, closed := false, lastLsn := 0 })] } }

def ckB : State := { ckS 1 with ck := { (ckS 1).ck with starts := 2 } }
def ckC : State := { ckS 2 with ck := { (ckS 2).ck with losses := [(3, [10 ^ 18, 10 ^ 18 - 5])] } }
def dnS : State := { sv with pw := { sv.pw with down := some { left := [3], phase := 4, arm := false, at_ := 0, skipped := 0, held := false } } }
def svVi : State := regs sv [(F.HP_LINK_VIRAL, 0, 1)]
def svAb : State := { sv with rs := { sv.rs with rmap := [(2, 3, 1)] } }
def imAs : State := regs imA [(F.GEN_PHASE_PHASE, 0, 3)]

/-- The state of FlashComplex's timeout clause: a read of target 0 times out a first time. -/
def tmoOf (s : State) (done : Bool) : State :=
  let a := (((s.begin.setTgt 0 { s.tgt 0 with tmoAt := some s.ck.mono }).bump F.FC_ERR_TMO).event 0x6003 [0, 0])
  let a := (a.resetLun 0).timedOut 0 0 5 3
  let again := match (s.tgt 0).tmoAt with | some w => decide (s.ck.mono < w + 1000000000) | none => false
  if again || !done then a.retire 0 1 else a

/-- The state and outcome of MemoryChannels' heal clause on unit 1. -/
def healOf (s : State) (flips others : List Nat) : State × Bool :=
  let t : State := { s.begin with mc := { s.mc with heals := s.mc.heals.filter (· != 1) } }
  t.fetchRead (t.fetchAtOnce 1) (sk 7 1) 0 flips others


/-- The state a command answers. -/
def nextOf (a : Answer) : State := match a with | .next t => t | _ => State.reset

/-! ### Well-formed commands, and one ill-formed command for each check -/

def tk : Token := { magic := 0x41555448, version := 1, serial := 0, nonce := 0, p6 := 0, p7 := 0, sig := List.replicate 12 0 }
def tkBad : Token := { tk with nonce := 2 ^ 256 }
def hd : FwHeader := { fail := 0, train := 0, minor := 0, build := 0, svn := 0, layout := 0 }
def hdBad : FwHeader := { hd with fail := 7 }
def ds : Desc := { w0 := 0, tag := 0, op2 := 0, op3 := 0, op4 := 0, op5 := 0, op6 := 0, op7 := 0 }
def dsBad : Desc := { ds with op3 := 2 ^ 64 }
def pk : PackId := { names := [], inMwh := false, cap := 0, volt := 0, fcc := 0, mdate := 0, serial := 0, cycles := 0, spec := 0 }
def pkBad : PackId := { pk with cap := 2 ^ 16 }
def bs : BaySense := { dq := 0, curr := 0, volt := 0, therm := none }

/-- The words of a token each have their width. -/
theorem test_token_wf : Token.wf tk = true ∧ ([{ tk with magic := 2 ^ 32 }, { tk with version := 256 }, { tk with serial := 2 ^ 64 }, tkBad,
    { tk with p6 := 2 ^ 64 }, { tk with p7 := 2 ^ 64 }, { tk with sig := [] }, { tk with sig := List.replicate 12 (2 ^ 64) }].any Token.wf) = false := by
  decide +kernel

/-- Each word of a descriptor has 64 bits. -/
theorem test_descriptor_wf : Desc.wf ds = true ∧ ([{ ds with w0 := 2 ^ 64 }, { ds with tag := 2 ^ 64 }, { ds with op2 := 2 ^ 64 }, dsBad,
    { ds with op4 := 2 ^ 64 }, { ds with op5 := 2 ^ 64 }, { ds with op6 := 2 ^ 64 }, { ds with op7 := 2 ^ 64 }].any Desc.wf) = false := by decide +kernel

/-- The numbers of a pack monitor are 16-bit words. -/
theorem test_pack_wf : PackId.wf pk = true ∧ ([pkBad, { pk with volt := 2 ^ 16 }, { pk with fcc := 2 ^ 16 }, { pk with mdate := 2 ^ 16 },
    { pk with serial := 2 ^ 16 }, { pk with cycles := 2 ^ 16 }, { pk with spec := 2 ^ 16 }].any PackId.wf) = false := by decide +kernel

/-- Commands with every operand in range. -/
theorem test_wf_1 : ([
    .resetDevice (.head 0), .getSnapshot (.head 0) 0, .readRails (.head 0), .getTimeStatus (.head 0), .identifyMemoryDevice (.head 0),
    .getPartitionInfo (.head 0), .setPartitionInfo (.head 0), .getLsa (.head 0) 0 0, .setLsa (.head 0) 0 [], .getHealthInfo (.head 0),
    .getAlertConfiguration (.head 0), .setAlertConfiguration (.head 0) 0 0 0, .getShutdownState (.head 0), .setShutdownState (.head 0) false,
    .getPoisonList (.head 0) 0 0 0, .injectPoison (.head 0) 0, .clearPoison (.head 0) 0 0, .getScanMediaCapabilities (.head 0) 0 0,
    .scanMedia (.head 0) 0 0, .getScanMediaResults (.head 0), .sanitize (.head 0), .secureErase (.head 0), .headRetrain (.head 0) 0 0,
    .getHeadCounters (.head 0), .getEventRecords (.head 0) 0 0, .clearEventRecords (.head 0) 0 false [], .getEventInterruptPolicy (.head 0),
    .setEventInterruptPolicy (.head 0) [], .getFwInfo (.head 0), .transferFw (.head 0) 0 0 0 0 hd, .activateFw (.head 0) false 0,
    .getTimestamp (.head 0), .setTimestamp (.head 0) 0, .getSupportedLogs (.head 0), .getLog (.head 0) 0 0 0, .translateAddress (.head 0) 0,
    .spareRank (.head 0) 0 0, .getMemoryErrors (.head 0) 0, .getFlashTarget (.head 0) 0, .flashDiagnosticRead (.head 0) 0 0 0 0 0 [],
    .retireTarget (.head 0) 0, .getReskeinStatus (.head 0), .designateReplica (.head 0) 0 0 0, .resumeShare (.head 0) 0 false,
    .getTwineStatus (.head 0), .getPackProfile (.head 0) 0, .getBootStatus (.head 0), .requestRecovery (.head 0), .confirmFirmware (.head 0),
    .loadKeyShare (.head 0) 0 0, .clearKeyShare (.head 0) 0, .getNonce (.head 0), .enrolOwner (.head 0) 0, .getSecurityStatus (.head 0),
    .clearRecorder (.head 0) tk, .discardImage (.head 0) tk, .unlockDebug (.head 0) tk, .tokenSanitize (.head 0) tk, .replaceOwner (.head 0) tk,
    .clearOwner (.head 0) tk, .getEventLayout (.head 0) 0, .getEventSummary (.head 0) 0, .getEventEntries (.head 0) 0 0, .requestRemoval (.head 0),
    .removalCancel (.head 0), .setLocate (.head 0) false, .getReadiness (.head 0), .getBootConfiguration (.head 0) 0,
    .setBootConfiguration (.head 0) 0 0 0 false, .readRegisters (.head 0) 0 0, .queueCreate 0 0 0 0 0 0, .queueDelete 0 0 0,
    .reportRead 0 0 0 0 0 0, .shareCreate 0 0 0 0 0 0 0 none, .shareMode 0 0 0 0 none, .promote 0 0 0, .shareSeal 0 0 0 false, .shareUnseal 0 0 0 0,
    .shareDelete 0 0 0, .shareSet 0 0 0 0 0 0] : List Instr).all Instr.wf = true := by decide +kernel

/-- Commands with every operand in range. -/
theorem test_wf_2 : ([
    .testStart 0 0 0 0 false, .testStatus 0 0 0, .testAbort 0 0 0, .packTest 0 0 0 0 0, .packPause 0 0 0 false, .packStatus 0 0 0,
    .packRelease 0 0 0 false, .fwStage 0 0 0 0 0 false hd, .fwActivate 0 0 false, .fwStatus 0 0, .spReload 0 0 0, .mpRestart 0 0,
    .shrCfgEnWrite 0 0, .twineIdeActive 0 0, .secNonceRead 0, .registerWrite 0 0 0 0 0, .spdmDoeMessage 0 (.finish), .serviceInputValid 0,
    .wakeNFall 0, .comparatorTrip 0 0, .latchOpen 0, .resetNAssert 0, .resetNRelease 0, .genRstWrite false 0 0, .resetDatagram [], .forcedAbort [],
    .manifestClosed [], .saveBusWarning 0, .saveBusLow 0, .railPowerGood 0 0, .railFault 0 0, .railWarning 0 0 0, .offWaitExpiry 0,
    .pmbusStatusPoll [] [], .lbAlert 0 0, .holdupMeasurement 0 false, .opChangeComplete 0, .temperatureSample [], .lockstepMismatch 0,
    .spWatchdogExpiry 0, .sramUncorrectable 0, .executeFault 0 0, .spReloadComplete 0 false, .clockCheckRetry false, .boscStartCheckPass 0,
    .boscMonitorTrip 0, .refclkMonitorTrip 0, .pllLockLoss 0, .ptpSync 0 0 0 0, .ptpAnnounce 0 0 0, .ptmRequest false 0, .compatibilityTrim 0 0 0,
    .lfoTrim 0, .ckSetWrite 0, .ckPtpWrite 0, .ckCmonWrite 0, .alarmFired 0, .hostWrite 0 0 0 0 false, .hostRead 0 0 0 (.clean),
    .headLinkUp 0 0 0 false, .linkRecovery 0 0 false, .linkDownTimeout 0, .surpriseLinkDown 0, .ideIntegrityFailure 0, .viral 0, .hpPerstAssert 0,
    .hpPerstRelease 0, .headFlr 0, .gpfPhase1 0, .gpfPhase2 0, .hpCtlRetrain 0 0, .sqTailWrite 0 0 0, .cqHeadWrite 0 0 0, .inlTagWrite 0 0 0,
    .inlCmdWrite 0 0 none 0, .inlineCommitRelease 0, .descriptorFetch 0 [] 0, .queActlWrite 0 0, .interruptAggregationTimeout 0,
    .commit 0 0 0 0 0 0 false] : List Instr).all Instr.wf = true := by decide +kernel

/-- Commands with every operand in range. -/
theorem test_wf_3 : ([
    .fence 0 0 false false, .release 0 0 0 0 0 false, .releaseCapture 0 0, .releaseWalkEnd 0, .probe 0 0 0 0 0 false, .fullSyncCommit 0,
    .sealCommit 0, .testBegin 0, .skeinStart [], .skeinCommit 0, .mrMarksWrite 0, .recordSkeinCommit 0, .anchorReadback [],
    .firstAdmissionComplete [], .preparationComplete [] [], .eagerReadComplete 0 0 [] [] [], .demandFetchComplete 0 [] [] false 0,
    .memoryTrainingComplete none 0 0 [], .memoryLinkError 0 0 0 false, .patrolScrub [] [], .healComplete 0 [] [] false, .sparePointerCheckpoint 0,
    .moduleTemperaturePoll [], .flashTrainingComplete 0 none [] [] [], .zqCalibration 0, .commandTimeout 0 0 0 0 false, .strandProgramFail 0 0,
    .blockEraseComplete 0 false [], .sealVerify 0 [], .eraseResume 0, .readCalibration 0 0 (List.replicate 16 0), .twineLinkUp 0 0 0 false,
    .twineLinkDown 0, .twineIdeFail 0, .hello 0 0 0, .session 0 0 false, .state 0 0 0 0 false false false 0, .linkJoin 0 0, .markInterval 0 0,
    .mark 0 0, .ack 0 0, .replicaWrite 0 0 0 [], .releaseMessage 0 0 0 0 0, .saving 0, .designate 0 0 0 0 0, .designateResp 0 0, .join 0 0 0,
    .unpair 0 0 0, .catchupBegin 0 0 0 false, .catchupEnd 0 0 0, .packPresentDebounce 0 0, .packIdentified 0 pk 0, .identTimeout 0,
    .packRemoved 0 0, .estimatorUpdate bs bs, .sbsPoll 0 none, .prechargeComplete 0 0, .prechargeTimeout 0, .chargeComplete 0, .floatDrop 0,
    .pauseAttempt 0, .pauseComplete 0 0, .pauseAbort 0, .testDischargeEnd 0 0 0, .inhibitClear 0, .referenceAge7Days 0, .sbSetPointer 0 0,
    .sbRegRead false, .sbRegWrite 0 0 0 false, .mctpPacket 0 0 0 0 false false false [], .setEndpointId 0, .getMctpVersionSupport 0,
    .alertResponse false, .sbTargetTimeout 0, .controllerTimeout 0 0 false, .arbitrationLoss 0 0 false, .arbitrationBackoffExpiry 0, .nackRetry 0 0,
    .sdaStuck 0, .busRecoveryRetry 0 none] : List Instr).all Instr.wf = true := by decide +kernel

/-- Commands with every operand in range. -/
theorem test_wf_4 : ([
    .alarmWarningReceived 0, .fwCtlRecreq 0, .tftpBlock 0 0 hd, .recoveryImageReceived 0 hd, .drbgHealthFailure 0, .drbgRetry false, .evLselWrite 0,
    .buttonPressRelease 0, .touchMeasure 0, .testComplete 0 false 0 [], .hdmDecoderCommit 0 0 0 0 0 0 0 false, .mgtEthLinkChange false,
    .msixVectorUnmask 0 none, .scanMediaComplete 0 [], .energyGone, .saveStartRecord, .truncatedManifestClose, .energyFail, .lingerTimerExpiry,
    .lingerEnergyLimit, .standbyEntry, .mpWatchdogExpiry, .mpRestartComplete, .trialConfirmTimeout, .refclkReturn, .boscReturn, .lfoMonitorTrip,
    .aoscMonitorTrip, .announceTimeout, .ckTimeRead, .ppsPulse, .partialSkeinTimeout, .weirCandidate, .bucketFill, .ageSweep, .bucketRecordWrite,
    .journalFlushTimeout, .indexSegmentCommit, .admissionEvaluate, .rankSpareCopyEnd, .reskeinStart, .reskeinRelocateEnd, .reskeinCheckpointWrite,
    .lossTimeout, .helloInterval, .twinMapSwap, .sbReadStatus, .getEndpointId, .getEndpointUuid, .getMessageTypeSupport, .sbRepeatedStart,
    .tftpRetransmit, .nonceExpiry, .drbgReseed, .occurrenceProcess, .recorderCheckpoint, .deviceLimitEpisodeEnd, .evS0Read, .logEntryFetchComplete,
    .buttonHold3s, .removalSafe, .removalTimeout, .moduleUnseated, .moduleSeated, .copyEngineScanEnd, .norOperationComplete, .operatingSecondsWrite] : List Instr).all Instr.wf = true := by decide +kernel

/-- Commands with one operand out of range. -/
theorem test_ill_formed_1 : ([
    .resetDevice (.head 16), .getSnapshot (.head 16) 0, .getSnapshot (.head 0) 256, .readRails (.head 16), .getTimeStatus (.head 16),
    .identifyMemoryDevice (.head 16), .identifyMemoryDevice (.mctp (some 0)), .getPartitionInfo (.head 16), .getPartitionInfo (.mctp (some 0)),
    .setPartitionInfo (.head 16), .setPartitionInfo (.mctp (some 0)), .getLsa (.head 16) 0 0, .getLsa (.mctp (some 0)) 0 0,
    .getLsa (.head 0) (2^64) 0, .getLsa (.head 0) 0 (2^64), .setLsa (.head 16) 0 [], .setLsa (.mctp (some 0)) 0 [], .setLsa (.head 0) (2^64) [],
    .setLsa (.head 0) 0 (List.replicate 131073 0), .getHealthInfo (.head 16), .getHealthInfo (.mctp (some 0)), .getAlertConfiguration (.head 16),
    .getAlertConfiguration (.mctp (some 0)), .setAlertConfiguration (.head 16) 0 0 0, .setAlertConfiguration (.mctp (some 0)) 0 0 0,
    .setAlertConfiguration (.head 0) 101 0 0, .getShutdownState (.head 16), .getShutdownState (.mctp (some 0)), .setShutdownState (.head 16) false,
    .setShutdownState (.mctp (some 0)) false, .getPoisonList (.head 16) 0 0 0, .getPoisonList (.mctp (some 0)) 0 0 0,
    .getPoisonList (.head 0) (2^64) 0 0, .getPoisonList (.head 0) 0 (2^64) 0, .getPoisonList (.head 0) 0 0 (2^64), .injectPoison (.head 16) 0,
    .injectPoison (.mctp (some 0)) 0, .injectPoison (.head 0) (2^64), .clearPoison (.head 16) 0 0, .clearPoison (.mctp (some 0)) 0 0,
    .clearPoison (.head 0) (2^64) 0, .getScanMediaCapabilities (.head 16) 0 0, .getScanMediaCapabilities (.mctp (some 0)) 0 0,
    .getScanMediaCapabilities (.head 0) (2^64) 0, .getScanMediaCapabilities (.head 0) 0 (2^64), .scanMedia (.head 16) 0 0,
    .scanMedia (.mctp (some 0)) 0 0, .scanMedia (.head 0) (2^64) 0, .scanMedia (.head 0) 0 (2^64), .getScanMediaResults (.head 16),
    .getScanMediaResults (.mctp (some 0)), .sanitize (.head 16), .sanitize (.mctp (some 0)), .secureErase (.head 16), .secureErase (.mctp (some 0)),
    .headRetrain (.head 16) 0 0, .headRetrain (.head 0) 16 0, .headRetrain (.head 0) 0 8, .getHeadCounters (.head 16),
    .getEventRecords (.head 16) 0 0, .getEventRecords (.mctp (some 0)) 0 0, .getEventRecords (.head 0) 4 0, .getEventRecords (.head 0) 0 (2^64),
    .clearEventRecords (.head 16) 0 false [], .clearEventRecords (.mctp (some 0)) 0 false [], .clearEventRecords (.head 0) 4 false [],
    .getEventInterruptPolicy (.head 16), .getEventInterruptPolicy (.mctp (some 0)), .setEventInterruptPolicy (.head 16) [],
    .setEventInterruptPolicy (.mctp (some 0)) [], .getFwInfo (.head 16), .getFwInfo (.mctp (some 0)), .transferFw (.head 16) 0 0 0 0 hd,
    .transferFw (.mctp (some 0)) 0 0 0 0 hd, .transferFw (.head 0) 5 0 0 0 hd, .transferFw (.head 0) 0 256 0 0 hd,
    .transferFw (.head 0) 0 0 (2^64) 0 hd, .transferFw (.head 0) 0 0 0 (2^64) hd, .transferFw (.head 0) 0 0 0 0 hdBad,
    .activateFw (.head 16) false 0] : List Instr).any Instr.wf = false := by decide +kernel

/-- Commands with one operand out of range. -/
theorem test_ill_formed_2 : ([
    .activateFw (.mctp (some 0)) false 0, .activateFw (.head 0) false 256, .getTimestamp (.head 16), .getTimestamp (.mctp (some 0)),
    .setTimestamp (.head 16) 0, .setTimestamp (.mctp (some 0)) 0, .setTimestamp (.head 0) (2^64), .getSupportedLogs (.head 16),
    .getSupportedLogs (.mctp (some 0)), .getLog (.head 16) 0 0 0, .getLog (.mctp (some 0)) 0 0 0, .getLog (.head 0) (2^128) 0 0,
    .getLog (.head 0) 0 (2^64) 0, .getLog (.head 0) 0 0 (2^64), .translateAddress (.head 16) 0, .translateAddress (.head 0) (2^64),
    .spareRank (.head 16) 0 0, .spareRank (.head 0) 64 0, .spareRank (.head 0) 0 16, .getMemoryErrors (.head 16) 0, .getMemoryErrors (.head 0) 64,
    .getFlashTarget (.head 16) 0, .getFlashTarget (.head 0) 1024, .flashDiagnosticRead (.head 16) 0 0 0 0 0 [],
    .flashDiagnosticRead (.head 0) 1024 0 0 0 0 [], .flashDiagnosticRead (.head 0) 0 4194304 0 0 0 [],
    .flashDiagnosticRead (.head 0) 0 0 1152 0 0 [], .flashDiagnosticRead (.head 0) 0 0 0 2 0 [], .flashDiagnosticRead (.head 0) 0 0 0 0 0 [149248],
    .retireTarget (.head 16) 0, .retireTarget (.head 0) 1024, .getReskeinStatus (.head 16), .designateReplica (.head 16) 0 0 0,
    .designateReplica (.head 0) 64 0 0, .designateReplica (.head 0) 0 (2^64) 0, .designateReplica (.head 0) 0 0 (2^64),
    .resumeShare (.head 16) 0 false, .resumeShare (.head 0) 64 false, .getTwineStatus (.head 16), .getPackProfile (.head 16) 0,
    .getPackProfile (.head 0) 256, .getBootStatus (.head 16), .requestRecovery (.head 16), .confirmFirmware (.head 16),
    .loadKeyShare (.head 16) 0 0, .loadKeyShare (.head 0) 256 0, .loadKeyShare (.head 0) 0 (2^768), .clearKeyShare (.head 16) 0,
    .clearKeyShare (.head 0) 256, .getNonce (.head 16), .enrolOwner (.head 16) 0, .enrolOwner (.head 0) (2^768), .getSecurityStatus (.head 16),
    .clearRecorder (.head 16) tk, .clearRecorder (.head 0) tkBad, .discardImage (.head 16) tk, .discardImage (.head 0) tkBad,
    .unlockDebug (.head 16) tk, .unlockDebug (.head 0) tkBad, .tokenSanitize (.head 16) tk, .tokenSanitize (.head 0) tkBad,
    .replaceOwner (.head 16) tk, .replaceOwner (.head 0) tkBad, .clearOwner (.head 16) tk, .clearOwner (.head 0) tkBad,
    .getEventLayout (.head 16) 0, .getEventLayout (.head 0) (2^16), .getEventSummary (.head 16) 0, .getEventSummary (.head 0) (2^16),
    .getEventEntries (.head 16) 0 0, .getEventEntries (.head 0) (2^64) 0, .getEventEntries (.head 0) 0 (2^64), .requestRemoval (.head 16),
    .removalCancel (.head 16), .setLocate (.head 16) false, .getReadiness (.head 16), .getBootConfiguration (.head 16) 0,
    .getBootConfiguration (.head 0) (2^64), .setBootConfiguration (.head 16) 0 0 0 false, .setBootConfiguration (.head 0) (2^64) 0 0 false] : List Instr).any Instr.wf = false := by decide +kernel

/-- Commands with one operand out of range. -/
theorem test_ill_formed_3 : ([
    .setBootConfiguration (.head 0) 0 (2^64) 0 false, .setBootConfiguration (.head 0) 0 0 (2^64) false, .readRegisters (.head 16) 0 0,
    .readRegisters (.head 0) (2^64) 0, .readRegisters (.head 0) 0 (2^64), .queueCreate 16 0 0 0 0 0, .queueCreate 0 (2^64) 0 0 0 0,
    .queueCreate 0 0 4096 0 0 0, .queueCreate 0 0 0 (2^64) 0 0, .queueCreate 0 0 0 0 (2^64) 0, .queueCreate 0 0 0 0 0 (2^64), .queueDelete 16 0 0,
    .queueDelete 0 (2^64) 0, .queueDelete 0 0 4096, .reportRead 16 0 0 0 0 0, .reportRead 0 (2^64) 0 0 0 0, .reportRead 0 0 2 0 0 0,
    .reportRead 0 0 0 (2^32) 0 0, .reportRead 0 0 0 0 (2^64) 0, .reportRead 0 0 0 0 0 (2^64), .shareCreate 16 0 0 0 0 0 0 none,
    .shareCreate 0 (2^64) 0 0 0 0 0 none, .shareCreate 0 0 64 0 0 0 0 none, .shareCreate 0 0 0 (2^64) 0 0 0 none,
    .shareCreate 0 0 0 0 (2^64) 0 0 none, .shareCreate 0 0 0 0 0 (2^64) 0 none, .shareCreate 0 0 0 0 0 0 (2^32) none,
    .shareCreate 0 0 0 0 0 0 0 (some (64)), .shareMode 16 0 0 0 none, .shareMode 0 (2^64) 0 0 none, .shareMode 0 0 64 0 none,
    .shareMode 0 0 0 8 none, .shareMode 0 0 0 0 (some (64)), .promote 16 0 0, .promote 0 (2^64) 0, .promote 0 0 64, .shareSeal 16 0 0 false,
    .shareSeal 0 (2^64) 0 false, .shareSeal 0 0 64 false, .shareUnseal 16 0 0 0, .shareUnseal 0 (2^64) 0 0, .shareUnseal 0 0 64 0,
    .shareUnseal 0 0 0 256, .shareDelete 16 0 0, .shareDelete 0 (2^64) 0, .shareDelete 0 0 64, .shareSet 16 0 0 0 0 0, .shareSet 0 (2^64) 0 0 0 0,
    .shareSet 0 0 64 0 0 0, .shareSet 0 0 0 4 0 0, .shareSet 0 0 0 0 (2^64) 0, .shareSet 0 0 0 0 0 (2^32), .testStart 16 0 0 0 false,
    .testStart 0 (2^64) 0 0 false, .testStart 0 0 16 0 false, .testStart 0 0 0 1024 false, .testStatus 16 0 0, .testStatus 0 (2^64) 0,
    .testStatus 0 0 4, .testAbort 16 0 0, .testAbort 0 (2^64) 0, .testAbort 0 0 4, .packTest 16 0 0 0 0, .packTest 0 (2^64) 0 0 0,
    .packTest 0 0 2 0 0, .packTest 0 0 0 256 0, .packTest 0 0 0 0 (2^16), .packPause 16 0 0 false, .packPause 0 (2^64) 0 false,
    .packPause 0 0 2 false, .packStatus 16 0 0, .packStatus 0 (2^64) 0, .packStatus 0 0 2, .packRelease 16 0 0 false, .packRelease 0 (2^64) 0 false,
    .packRelease 0 0 2 false, .fwStage 16 0 0 0 0 false hd, .fwStage 0 (2^64) 0 0 0 false hd, .fwStage 0 0 (2^64) 0 0 false hd,
    .fwStage 0 0 0 (2^32) 0 false hd] : List Instr).any Instr.wf = false := by decide +kernel

/-- Commands with one operand out of range. -/
theorem test_ill_formed_4 : ([
    .fwStage 0 0 0 0 (2^24) false hd, .fwStage 0 0 0 0 0 false hdBad, .fwActivate 16 0 false, .fwActivate 0 (2^64) false, .fwStatus 16 0,
    .fwStatus 0 (2^64), .spReload 16 0 0, .spReload 0 (2^64) 0, .spReload 0 0 6, .mpRestart 16 0, .mpRestart 0 (2^64), .shrCfgEnWrite 64 0,
    .shrCfgEnWrite 0 (2^64), .twineIdeActive 2 0, .twineIdeActive 0 (2^64), .secNonceRead 16, .registerWrite 16 0 0 0 0, .registerWrite 0 5 0 0 0,
    .registerWrite 0 0 (2^64) 0 0, .registerWrite 0 0 0 9 0, .registerWrite 0 0 0 0 (2^64), .spdmDoeMessage 16 (.finish),
    .spdmDoeMessage 0 (.ideKeyProg 2), .spdmDoeMessage 0 (.ideSetGo 2), .spdmDoeMessage 0 (.ideSetStop 2), .comparatorTrip 2 0,
    .genRstWrite false (2^64) 0, .manifestClosed ([[], [149248]]), .railPowerGood 14 0, .railFault 14 0, .railFault 0 8, .railWarning 14 0 0,
    .railWarning 0 8 0, .lbAlert 14 0, .lockstepMismatch (2^64), .spWatchdogExpiry 6, .sramUncorrectable 7, .executeFault 7 0,
    .executeFault 0 (2^64), .spReloadComplete 6 false, .boscMonitorTrip 8, .refclkMonitorTrip 8, .pllLockLoss 8, .ckSetWrite (2^64),
    .ckPtpWrite (2^64), .ckCmonWrite (2^64), .hostWrite 16 0 0 0 false, .hostWrite 0 (2^64) 0 0 false, .hostRead 16 0 0 (.clean),
    .hostRead 0 (2^64) 0 (.clean), .hostRead 0 0 0 ({ wrong := [80] }), .headLinkUp 16 0 0 false, .headLinkUp 0 17 0 false, .headLinkUp 0 0 8 false,
    .linkRecovery 16 0 false, .linkDownTimeout 16, .surpriseLinkDown 16, .ideIntegrityFailure 16, .viral 16, .hpPerstAssert 16, .hpPerstRelease 16,
    .headFlr 16, .gpfPhase1 16, .gpfPhase2 16, .hpCtlRetrain 16 0, .hpCtlRetrain 0 (2^64), .sqTailWrite 16 0 0, .sqTailWrite 0 4096 0,
    .sqTailWrite 0 0 (2^64), .cqHeadWrite 16 0 0, .cqHeadWrite 0 4096 0, .cqHeadWrite 0 0 (2^64), .inlTagWrite 16 0 0, .inlTagWrite 0 4096 0,
    .inlTagWrite 0 0 (2^64), .inlCmdWrite 16 0 none 0, .inlCmdWrite 0 4096 none 0, .inlCmdWrite 0 0 (some (2^64)) 0, .inlCmdWrite 0 0 none (2^64),
    .inlineCommitRelease 4096] : List Instr).any Instr.wf = false := by decide +kernel

/-- Commands with one operand out of range. -/
theorem test_ill_formed_5 : ([
    .descriptorFetch 4096 [] 0, .descriptorFetch 0 (List.replicate 9 ds) 0, .descriptorFetch 0 [dsBad] 0, .descriptorFetch 0 [] 8,
    .queActlWrite 16 0, .queActlWrite 0 (2^64), .interruptAggregationTimeout 4096, .commit 4096 0 0 0 0 0 false, .commit 0 (2^64) 0 0 0 0 false,
    .commit 0 0 64 0 0 0 false, .commit 0 0 0 4 0 0 false, .commit 0 0 0 0 (2^64) 0 false, .commit 0 0 0 0 0 (2^64) false,
    .fence 4096 0 false false, .fence 0 (2^64) false false, .release 4096 0 0 0 0 false, .release 0 (2^64) 0 0 0 false, .release 0 0 64 0 0 false,
    .release 0 0 0 (2^64) 0 false, .release 0 0 0 0 (2^64) false, .releaseCapture 4096 0, .releaseCapture 0 (2^48), .releaseWalkEnd 16,
    .probe 4096 0 0 0 0 false, .probe 0 (2^64) 0 0 0 false, .probe 0 0 64 0 0 false, .probe 0 0 0 (2^64) 0 false, .probe 0 0 0 0 (2^64) false,
    .fullSyncCommit 64, .sealCommit 64, .testBegin 6, .skeinCommit (2^48), .mrMarksWrite (2^64), .recordSkeinCommit (2^48),
    .anchorReadback ([[], [149248]]), .firstAdmissionComplete ([[], [149248]]), .eagerReadComplete (2^48) 0 [] [] [],
    .eagerReadComplete 0 32 [] [] [], .eagerReadComplete 0 0 ([[], [149248]]) [] [], .eagerReadComplete 0 0 [] ([31, 32]) [],
    .demandFetchComplete (2^32) [] [] false 0, .demandFetchComplete 0 [149248] [] false 0, .demandFetchComplete 0 [] ([31, 32]) false 0,
    .memoryTrainingComplete (some (8)) 0 0 [], .memoryLinkError 64 0 0 false, .patrolScrub ([(0, { wrong := [80] })]) [],
    .patrolScrub [] ([(0, .unitEntry (2 ^ 32))]), .patrolScrub [] ([(0, .ticket 4096 0)]), .patrolScrub [] ([(0, .ticket 0 (2 ^ 48))]),
    .patrolScrub [] ([(0, .twinWord (2 ^ 26))]), .patrolScrub [] ([(0, .restoreEntry (2 ^ 32))]), .healComplete (2^32) [] [] false,
    .healComplete 0 [149248] [] false, .healComplete 0 [] ([31, 32]) false, .moduleTemperaturePoll (List.replicate 49 none),
    .flashTrainingComplete 64 none [] [] [], .flashTrainingComplete 0 (some (7)) [] [] [], .zqCalibration 1024, .commandTimeout 1024 0 0 0 false,
    .commandTimeout 0 3 0 0 false, .commandTimeout 0 0 4194304 0 false, .commandTimeout 0 0 0 (2^48) false, .strandProgramFail (2^48) 0,
    .strandProgramFail 0 32, .blockEraseComplete 4194304 false [], .blockEraseComplete 0 false [149248], .sealVerify 4194304 [],
    .sealVerify 0 [149248], .eraseResume 1024, .readCalibration 1024 0 (List.replicate 16 0), .readCalibration 0 16 (List.replicate 16 0),
    .readCalibration 0 0 (List.replicate 17 0), .twineLinkUp 2 0 0 false, .twineLinkUp 0 17 0 false, .twineLinkUp 0 0 8 false, .twineLinkDown 2,
    .twineIdeFail 2, .hello 2 0 0, .hello 0 (2^64) 0, .session 2 0 false] : List Instr).any Instr.wf = false := by decide +kernel

/-- Commands with one operand out of range. -/
theorem test_ill_formed_6 : ([
    .session 0 (2^64) false, .state 64 0 0 0 false false false 0, .state 0 64 0 0 false false false 0, .state 0 0 4 0 false false false 0,
    .state 0 0 0 8 false false false 0, .state 0 0 0 0 false false false (2^64), .linkJoin 2 0, .linkJoin 0 (2^64), .mark 2 0, .mark 0 (2^64),
    .ack (2^64) 0, .ack 0 (2^64), .replicaWrite 2 0 0 [], .replicaWrite 0 64 0 [], .replicaWrite 0 0 (2^64) [],
    .replicaWrite 0 0 0 (List.replicate 5 (0, false)), .releaseMessage 2 0 0 0 0, .releaseMessage 0 (2^64) 0 0 0, .releaseMessage 0 0 64 0 0,
    .releaseMessage 0 0 0 (2^32) 0, .releaseMessage 0 0 0 0 (2^32), .saving 2, .designate 64 0 0 0 0, .designate 0 64 0 0 0,
    .designate 0 0 (2^64) 0 0, .designate 0 0 0 (2^64) 0, .designate 0 0 0 0 (2^64), .designateResp (2^64) 0, .designateResp 0 256, .join 2 0 0,
    .join 0 (2^64) 0, .join 0 0 64, .unpair 2 0 0, .unpair 0 (2^64) 0, .unpair 0 0 64, .catchupBegin 2 0 0 false, .catchupBegin 0 (2^64) 0 false,
    .catchupBegin 0 0 64 false, .catchupEnd 2 0 0, .catchupEnd 0 (2^64) 0, .catchupEnd 0 0 64, .packPresentDebounce 2 0, .packIdentified 2 pk 0,
    .packIdentified 0 pkBad 0, .identTimeout 2, .packRemoved 2 0, .sbsPoll 2 none, .prechargeComplete 2 0, .prechargeTimeout 2, .chargeComplete 2,
    .floatDrop 2, .pauseAttempt 2, .pauseComplete 2 0, .pauseAbort 2, .testDischargeEnd 2 0 0, .inhibitClear 2, .referenceAge7Days 2,
    .sbSetPointer (2^24) 0, .sbSetPointer 0 256, .sbRegWrite (2^24) 0 0 false, .sbRegWrite 0 (2^64) 0 false, .sbRegWrite 0 0 256 false,
    .mctpPacket 256 0 0 0 false false false [], .mctpPacket 0 256 0 0 false false false [], .mctpPacket 0 0 4 0 false false false [],
    .mctpPacket 0 0 0 8 false false false [], .setEndpointId 256, .getMctpVersionSupport 256, .sbTargetTimeout 256, .controllerTimeout 8 0 false,
    .controllerTimeout 0 128 false, .arbitrationLoss 8 0 false, .arbitrationLoss 0 128 false, .arbitrationBackoffExpiry 8, .nackRetry 8 0,
    .nackRetry 0 128, .sdaStuck 8, .busRecoveryRetry 8 none, .alarmWarningReceived 8, .fwCtlRecreq (2^64)] : List Instr).any Instr.wf = false := by decide +kernel

/-- Commands with one operand out of range. -/
theorem test_ill_formed_7 : ([
    .tftpBlock (2^16) 0 hd, .tftpBlock 0 (2^64) hd, .tftpBlock 0 0 hdBad, .recoveryImageReceived 4 hd, .recoveryImageReceived 0 hdBad,
    .drbgHealthFailure 8, .evLselWrite (2^64), .touchMeasure (2^64), .testComplete 4 false 0 [], .hdmDecoderCommit 16 0 0 0 0 0 0 false,
    .hdmDecoderCommit 0 8 0 0 0 0 0 false, .hdmDecoderCommit 0 0 (2^64) 0 0 0 0 false, .hdmDecoderCommit 0 0 0 (2^64) 0 0 0 false,
    .hdmDecoderCommit 0 0 0 0 17 0 0 false, .hdmDecoderCommit 0 0 0 0 0 (2^14) 0 false, .hdmDecoderCommit 0 0 0 0 0 0 (2^64) false,
    .msixVectorUnmask 16 none, .msixVectorUnmask 0 (some (2048)), .scanMediaComplete 16 []] : List Instr).any Instr.wf = false := by decide +kernel

/-! ### One step each, expected results from the spec's worked examples and rules -/

/-- The reference module's Weir inputs: save settings at their factory values, hold-up 116 ms. -/
def weirOf (pd eu : Nat) (degraded : Bool) : Nat × Nat :=
  let t := (regs up [(F.MR_HOLDUP_THU, 0, 116000)]).weirTerms { pd := pd, eu := eu, rfl := 180000000000, degraded := degraded }
  (t.gib, t.bind)

/-- The worked example of 05_millrace_weir_sluice.md, "the Weir under five conditions": GiB and the term that binds. -/
theorem test_weir_table : [weirOf 600 144000 false, weirOf 300 72000 false, weirOf 340 120000 false, weirOf 0 0 false, weirOf 600 144000 true] =
    [(320, 0), (111, 1), (186, 1), (1, 5), (36, 4)] := by decide +kernel

/-- The worked example of 04_rings_and_tickets.md: the inline commit word 0x600048D00000000C is a TWINED-level commit of 4 units at offset
0x123400000000 of share 0. The share is 1,024 GiB and TWINED; the ticket waits for the outbound sequence. -/
theorem test_inline_word :
    (nextOf (exec (.inlCmdWrite 0 1 (some 0x7A31) 0x600048D00000000C)
      (regs sv [(F.SHR_SIZE_ADDR, 0, 4096), (F.SHR_STATUS_MODE, 0, 2), (F.TW_OSEQ_VALUE, 0, 5000214), (F.TW_PAIR_STATE, 0, 1),
        (F.TW_S_PAIR, 0, 2 ^ 62 + 3 * 2 ^ 58)]))).tickets.map (fun t => (t.tag, t.level, t.share, t.lo, t.hi - t.lo, t.oseq)) =
      [(0x7A31, 2, 0, 0x1234000, 4, some 5000214)] := by decide +kernel

/-- R42: byte enables choose the bytes a write stores, the first byte of the line lowest. -/
theorem test_write_enables :
    (nextOf (exec (.hostWrite 0 128 0x0807060504030201 0x12 false) sv)).mem = [(129, 2), (132, 5)] := by decide +kernel

/-- R72: a HELD COMMIT completes at once with status DONE, its tag and submission head in the entry. -/
theorem test_commit_held :
    ((nextOf (exec (.commit 1 0x7A31 0 1 4096 4096 false) sv)).out.map fun m => match m with
      | .completion q i ws => (q, i, ws.headD 0, (ws.getD 2 0) % 2 ^ 8)
      | _ => (0, 0, 0, 0)) = [(1, 0, 0x7A31, 0)] := by decide +kernel

/-- The worked example of 20_registers_and_commands.md, "bifurcating port 2": the change waits for the next bring-up. -/
theorem test_bifurcation :
    (nextOf (exec (.getBootConfiguration (.head 0) 0x10008) (nextOf (exec (.setBootConfiguration (.head 0) 0x10008 0xC30000 0xC30000 false)
      (regs sv [(F.GEN_LOCK_BLOCKS, 0, 2)]))))).out = [.reply (.head 0) .success [0x8383838383838383, 0x8383838383C38383, 0xC30000, 0x8383838383838383]] := by decide +kernel

/-- R39: an access outside every committed decoder reaches no line; the last byte of a decoder is in it. -/
theorem test_decoder_edges : [sv.lineOf 0 (2 ^ 28 - 1), sv.lineOf 0 (2 ^ 28)] = [some (2 ^ 22 - 1), none] := by decide +kernel

/-- 02_shares_and_modes.md: grants 0xAAA give heads 0 to 5 read-write, 0x555 read-only, and no other head anything. -/
theorem test_grants :
    let s := regs sv [(F.SHR_HEADS_GRANT, 0, 0xAAA), (F.SHR_HEADS_GRANT, 1, 0x555)]
    [s.grant 0 0, s.grant 0 5, s.grant 0 6, s.grant 1 0, s.grant 1 5, s.grant 1 6] = [2, 2, 0, 1, 1, 0] := by decide +kernel

/-- The worked example of 07_laolo_image.md, "finding one unit in an image": the entry of a unit at bundle 18,977, page 203, slot 57 of
generation 0x3C11A0; and slot 57's Strand 14 lies on member 25. -/
theorem test_index_entry :
    let k : Skein := { gen := 0x3C11A0, ty := 1, bundle := 18977, page := 203, slots := [], recs := [], seg := 0, snap := 0, entries := [], failed := [] }
    let x : Skein := { k with gen := 0x3C11A1, ty := 2, locs := [(0x3C11A0, (18977, 203))] }
    let s : State := { State.reset with regs := [], im := { written := [k], bundles := [(18977, { use := 1, members := List.range 32, next := 204
                                                                                                  closed := false, lastLsn := 0 })] } }
    (x.entryWord (.slot 0x3C11A0 57), s.strandBlk k (57 / 4)) = (0x81288465B93C11A0, some 25) := by decide +kernel

/-- R136: the generator of the outer code is x^4 + 15x^3 + 54x^2 + 120x + 64, by hand from its four roots. -/
theorem test_rs_generator : rsGen = [64, 120, 54, 15, 1] := by decide +kernel

/-- R352, the worked example of 17_security.md: the fields of the key word 0x3456792F41C09A3B. -/
theorem test_key_word :
    let s : State := { up with sec := { up.sec with keyw := [(2, 0x3456792F41C09A3B)] } }
    (s.ownerSealed 2, natField (FMap.get 0 s.sec.keyw 2) 41 23, natField (FMap.get 0 s.sec.keyw 2) 0 40) = (true, 0x1A2B3C, 0x2F41C09A3B) := by decide +kernel

/-! ### Witnesses: states and operands that meet the premises of each obligation -/

theorem witness_CommitCompletion :
  ((Taking sv 1) ∧ (sv.rangeFault (sv.queue 1).head 0 4096 4096 false = none) ∧ (sv.sealing 0 = false) ∧ (modeAccepts (sv.shMode 0) 3 = true) ∧ (3 =
    1 ∧ sv.shMode 0 ≠ mdWritethru ∨ 3 = 3 ∧ sv.dirtyRuns (sv.rangeUnits 0 4096 4096).fst (sv.rangeUnits 0 4096 4096).snd = [])) ∧
  ((Taking svD 1) ∧ (svD.rangeFault (svD.queue 1).head 0 4096 4096 false = none) ∧ (svD.sealing 0 = false) ∧ (modeAccepts (svD.shMode 0) 3 = true) ∧
    (svD.dirtyRuns (svD.rangeUnits 0 4096 4096).fst (svD.rangeUnits 0 4096 4096).snd ≠ [])) := by
  and_intros <;> (try dsimp only [Taking]) <;> decide +kernel

theorem witness_FenceAndProbe :
  ((Taking sv 1) ∧ (∀ (a : Ticket), a ∈ sv.tickets → a.qid ≠ 1)) ∧
  ((Taking svD 1) ∧ (svD.rangeFault (svD.queue 1).head 0 4096 4096 false = none)) := by
  and_intros <;> (try dsimp only [Taking]) <;> decide +kernel

theorem witness_RangeFaults :
  ((Taking sv 1) ∧ (1 ≠ 0) ∧ (sv.rangeFault (sv.queue 1).head 0 4096 0 false = some (5, 5))) ∧
  ((sv.shDefined 1 = false)) ∧
  ((sv.shDefined 0 = true) ∧ (sv.rdi F.SHR_SIZE_ADDR 0 * 2 ^ 28 < 1 + 2 ^ 28)) ∧
  ((sv.shDefined 0 = true) ∧ (1 + 1 ≤ sv.rdi F.SHR_SIZE_ADDR 0 * 2 ^ 28) ∧ (sv.grant 0 1 ≠ 2)) ∧
  ((sv.shDefined 0 = true) ∧ (2 ^ 28 ≤ sv.rdi F.SHR_SIZE_ADDR 0 * 2 ^ 28) ∧ (sv.grant 0 0 = 2)) ∧
  ((svF.shDefined 0 = true) ∧ (0 < 2 ^ 28) ∧ (0 + 2 ^ 28 ≤ svF.rdi F.SHR_SIZE_ADDR 0 * 2 ^ 28) ∧ (svF.grant 0 0 = 2) ∧ (svF.shOpen 0 = false)) := by
  and_intros <;> (try dsimp only [Taking]) <;> decide +kernel

theorem witness_ReleaseWalks :
  ((Taking sv 1) ∧ (sv.rangeFault (sv.queue 1).head 0 4096 4096 true = none) ∧ (sv.freeWalk = some 0) ∧ (sv.coveredByFlash (sv.rangeUnits 0 4096
    4096).fst (sv.rangeUnits 0 4096 4096).snd = false)) ∧
  ((List.find? (fun a => a.qid == 1 && a.seq == 5 && a.kind == TKind.release && !a.walking && a.outcome.isNone) svR.tickets = some
    (svR.tickets.headD svR.tickets[0])) ∧ (svR.freeWalk = some 0) ∧ (svR.coveredByFlash (svR.tickets.headD svR.tickets[0]).lo (svR.tickets.headD
    svR.tickets[0]).hi = false)) ∧
  ((svW.walks.find 3 = some { share := 0, lo := 1, hi := 3, qid := 1, seq := 5, twine := false, links := 0 }) ∧ (svW.serving = true)) := by
  and_intros <;> (try dsimp only [Taking]) <;> decide +kernel

theorem witness_DoorbellsAndInline :
  ((sv.headExists 0 = true) ∧ (sv.headUp 0 = true) ∧ (sv.ownsQueue 0 1 = true) ∧ ((sv.queue 1).state = 1) ∧ (63 < (sv.queue 1).depth) ∧ (((sv.queue
    1).sqTail + (sv.queue 1).depth - (sv.queue 1).sqHead) % (sv.queue 1).depth < (63 + (sv.queue 1).depth - (sv.queue 1).sqHead) % (sv.queue
    1).depth)) ∧
  ((sv.headExists 0 = true) ∧ (sv.headUp 0 = true) ∧ (sv.ownsQueue 0 1 = true) ∧ ((sv.queue 1).state = 1) ∧ ((sv.queue 1).depth ≤ 64)) ∧
  ((sv.headExists 0 = true) ∧ (sv.headUp 0 = true) ∧ (sv.ownsQueue 0 1 = true) ∧ ((sv.queue 1).state = 1) ∧ (0 < (sv.queue 1).depth) ∧ ((0 +
    (sv.queue 1).depth - (sv.queue 1).cqHead) % (sv.queue 1).depth ≤ (sv.queue 1).ring.length)) ∧
  ((sv.headExists 0 = true) ∧ (sv.headUp 0 = true) ∧ (sv.ownsQueue 0 1 = true) ∧ ((sv.queue 1).state = 1)) ∧
  ((sv.headExists 0 = true) ∧ (sv.headUp 0 = true) ∧ (sv.ownsQueue 0 512 = false)) ∧
  ((natField wI 62 2 = 1) ∧ (natField wI 60 2 = 1) ∧ (natField wI 0 2 = 0) ∧ ((sv.queue 1).state = 1) ∧ ((sv.queue 1).admin = false) ∧
    (sv.rangeFault (sv.queue 1).head (natField wI 54 6) (natField wI 22 32 * 4096) ((natField wI 2 20 + 1) * 4096) false = none) ∧ (sv.sealing
    (natField wI 54 6) = false) ∧ (sv.shMode (natField wI 54 6) = mdHeld ∨ sv.shMode (natField wI 54 6) = mdTwined) ∧ (sv.headExists 0 = true) ∧
    (sv.headUp 0 = true) ∧ (sv.ownsQueue 0 1 = true) ∧ ((sv.queue 1).held = none) ∧ ((sv.queue 1).paused = false) ∧ (sv.hasRoom 1 = true) ∧
    (sv.commonUsed ≤ 1048320)) ∧
  ((natField wI 62 2 = 1) ∧ (natField wI 60 2 = 1) ∧ (natField wI 0 2 = 0) ∧ ((svP.queue 1).state = 1) ∧ ((svP.queue 1).admin = false) ∧
    (svP.rangeFault (svP.queue 1).head (natField wI 54 6) (natField wI 22 32 * 4096) ((natField wI 2 20 + 1) * 4096) false = none) ∧ (svP.sealing
    (natField wI 54 6) = false) ∧ (svP.shMode (natField wI 54 6) = mdHeld ∨ svP.shMode (natField wI 54 6) = mdTwined) ∧ (svP.headExists 0 = true) ∧
    (svP.headUp 0 = true) ∧ (svP.ownsQueue 0 1 = true) ∧ ((svP.queue 1).held = none) ∧ ((svP.queue 1).paused = true ∨ svP.hasRoom 1 = false)) ∧
  ((natField wI 62 2 = 1) ∧ (natField wI 60 2 = 1) ∧ (natField wI 0 2 = 0) ∧ ((svH.queue 1).state = 1) ∧ ((svH.queue 1).admin = false) ∧
    (svH.rangeFault (svH.queue 1).head (natField wI 54 6) (natField wI 22 32 * 4096) ((natField wI 2 20 + 1) * 4096) false = none) ∧ (svH.sealing
    (natField wI 54 6) = false) ∧ (svH.shMode (natField wI 54 6) = mdHeld ∨ svH.shMode (natField wI 54 6) = mdTwined) ∧ ((svH.queue 1).held = some
    (some 7, wI)) ∧ ((svH.queue 1).paused = false) ∧ (svH.hasRoom 1 = true) ∧ (svH.commonUsed ≤ 1048320)) := by
  and_intros <;> decide +kernel

theorem witness_QueueAdmin :
  ((AdminReady sv 0) ∧ (sv.ioQueueOf 0 2 = true) ∧ ((sv.queue 2).state = 0) ∧ (4096 % 4096 = 0) ∧ (8192 % 4096 = 0) ∧ (natField (2 ^ 40 + 63 + 2 ^
    58) 0 16 ≠ 0) ∧ (natField (2 ^ 40 + 63 + 2 ^ 58) 40 11 ≠ 0)) ∧
  ((AdminReady sv 0) ∧ (sv.ioQueueOf 0 1 = true) ∧ ((sv.queue 1).state = 1) ∧ ((sv.queue 1).held = none) ∧ (∀ (a : Ticket), a ∈ sv.tickets → a.qid ≠
    1)) ∧
  ((AdminReady svL 0) ∧ (64 % 32 = 0) ∧ (64 % 32 = 0) ∧ (64 ≤ 64)) ∧
  ((svA4.ownsQueue 0 (svA4.adminQueue 0) = true) ∧ (svA4.flagi F.QUE_ACTL_EN 0 = false) ∧ (natBit (2 ^ 63 + 15) 63 = true) ∧ (natBit (svA4.rd
    F.GEN_READY_BITS) 13 = true)) ∧
  ((svA5.ownsQueue 0 (svA5.adminQueue 0) = true) ∧ (svA5.flagi F.QUE_ACTL_EN 0 = true) ∧ (natBit 15 63 = false)) := by
  and_intros <;> (try dsimp only [AdminReady]) <;> decide +kernel

theorem witness_Interrupts :
  (((svI.queue 1).ien = true) ∧ ((svI.queue 1).aggt ≠ 0) ∧ ((svI.queue 1).unsig ≠ 0) ∧ ((svI.queue 1).posting = true)) ∧
  ((1 ∈ (svI2.head 0).msixPend) ∧ ((svI2.head 0).fmask = false) ∧ (svI2.headUp 0 = true)) ∧
  (((sv.head 0).msixPend = [])) := by
  and_intros <;> decide +kernel

theorem witness_DescriptorFields :
  ((Taking svN 1) ∧ (svN.begin.nextTurn = some 1) ∧ ((svN.queue 1).held = none) ∧ ((dsc (1 + 256 + 2 ^ 17) 4096 4096).w0 < 2 ^ 18) ∧ ((dsc (1 + 256
    + 2 ^ 17) 4096 4096).op4 = 0) ∧ ((dsc (1 + 256 + 2 ^ 17) 4096 4096).op5 = 0) ∧ ((dsc (1 + 256 + 2 ^ 17) 4096 4096).op6 = 0) ∧ ((dsc (1 + 256 + 2
    ^ 17) 4096 4096).op7 = 0) ∧ ((dsc (1 + 256 + 2 ^ 17) 4096 4096).op2 < 2 ^ 44) ∧ ((dsc (1 + 256 + 2 ^ 17) 4096 4096).op3 < 2 ^ 44) ∧ (natField
    (dsc (1 + 256 + 2 ^ 17) 4096 4096).w0 0 8 = 1)) ∧
  ((Taking svN 1) ∧ (svN.begin.nextTurn = some 1) ∧ ((svN.queue 1).held = none) ∧ ((dsc (2 + 2 ^ 16 + 2 ^ 17) 0 0).w0 < 2 ^ 18) ∧ ((dsc (2 + 2 ^ 16
    + 2 ^ 17) 0 0).op4 = 0) ∧ ((dsc (2 + 2 ^ 16 + 2 ^ 17) 0 0).op5 = 0) ∧ ((dsc (2 + 2 ^ 16 + 2 ^ 17) 0 0).op6 = 0) ∧ ((dsc (2 + 2 ^ 16 + 2 ^ 17) 0
    0).op7 = 0) ∧ ((dsc (2 + 2 ^ 16 + 2 ^ 17) 0 0).op2 < 2 ^ 44) ∧ ((dsc (2 + 2 ^ 16 + 2 ^ 17) 0 0).op3 < 2 ^ 44) ∧ (natField (dsc (2 + 2 ^ 16 + 2 ^
    17) 0 0).w0 0 8 = 2)) ∧
  ((Taking svN 1) ∧ (svN.begin.nextTurn = some 1) ∧ ((svN.queue 1).held = none) ∧ ((dsc 3 4096 4096).w0 < 2 ^ 18) ∧ ((dsc 3 4096 4096).op4 = 0) ∧
    ((dsc 3 4096 4096).op5 = 0) ∧ ((dsc 3 4096 4096).op6 = 0) ∧ ((dsc 3 4096 4096).op7 = 0) ∧ ((dsc 3 4096 4096).op2 < 2 ^ 44) ∧ ((dsc 3 4096
    4096).op3 < 2 ^ 44) ∧ (natField (dsc 3 4096 4096).w0 0 8 = 3)) ∧
  ((Taking svN 1) ∧ (svN.begin.nextTurn = some 1) ∧ ((svN.queue 1).held = none) ∧ ((dsc 4 4096 4096).w0 < 2 ^ 18) ∧ ((dsc 4 4096 4096).op4 = 0) ∧
    ((dsc 4 4096 4096).op5 = 0) ∧ ((dsc 4 4096 4096).op6 = 0) ∧ ((dsc 4 4096 4096).op7 = 0) ∧ ((dsc 4 4096 4096).op2 < 2 ^ 44) ∧ ((dsc 4 4096
    4096).op3 < 2 ^ 44) ∧ (natField (dsc 4 4096 4096).w0 0 8 = 4)) ∧
  ((Taking svN 1) ∧ (svN.begin.nextTurn = some 1) ∧ ((svN.queue 1).held = none) ∧ (natField (dsc (133 + 2 ^ 10) 4096 4096).w0 0 8 = 0 ∨ 133 ≤
    natField (dsc (133 + 2 ^ 10) 4096 4096).w0 0 8)) := by
  and_intros <;> (try dsimp only [Taking]) <;> decide +kernel

theorem witness_BadDoorbells :
  ((sv.headExists 0 = true) ∧ (sv.headUp 0 = true) ∧ (sv.ownsQueue 0 1 = true) ∧ ((sv.queue 1).state = 1) ∧ ((sv.queue 1).depth ≤ 64)) ∧
  ((sv.headExists 0 = true) ∧ (sv.headUp 0 = true) ∧ (sv.ownsQueue 0 1 = true) ∧ ((sv.queue 1).state = 1) ∧ (3 < (sv.queue 1).depth) ∧ ((3 +
    (sv.queue 1).depth - (sv.queue 1).sqHead) % (sv.queue 1).depth ≤ ((sv.queue 1).sqTail + (sv.queue 1).depth - (sv.queue 1).sqHead) % (sv.queue
    1).depth)) ∧
  ((svB.headExists 0 = true) ∧ (svB.headUp 0 = true) ∧ (svB.ownsQueue 0 1 = true) ∧ ((svB.queue 1).state = 1) ∧ (4 < (svB.queue 1).depth) ∧
    ((svB.queue 1).ring.length < (4 + (svB.queue 1).depth - (svB.queue 1).cqHead) % (svB.queue 1).depth)) := by
  and_intros <;> decide +kernel

theorem witness_SkeinMovesUnits :
  ((imS.skeinAllowed imS.selection.length = true) ∧ (imS.begin.dataBundle.snd = some 5) ∧ (imS.begin.dataBundle.fst.workFits
    (imS.begin.dataBundle.fst.bundle 5).members = true)) ∧
  ((imF2.inFlight (sk 7 1).gen = some (sk 7 1)) ∧ ((sk 7 1).ty = 1) ∧ (imF2.pageBefore (sk 7 1) = false)) ∧
  ((imS.serving = true) ∧ (1 ≤ imS.selection.length) ∧ (imS.selection.length < 112)) := by
  and_intros <;> decide +kernel

theorem witness_CommittedUnit :
  ((slot1.moved = none) ∧ ((imF2.unit slot1.unit).st = 2)) ∧
  ((slot1.moved = none) ∧ ((imF3.unit slot1.unit).st = 3)) ∧
  ((slot1.moved = none) ∧ ((imS.unit slot1.unit).st ≠ 2) ∧ ((imS.unit slot1.unit).st ≠ 3)) ∧
  ((slot1.moved = none)) := by
  and_intros <;> decide +kernel

theorem witness_MillraceTimers :
  ((sv.phase ≠ phLinger) ∧ (sv.phase ≠ phDormant) ∧ (sv.phase ≠ phOff)) ∧
  ((imS.serving = true)) ∧
  ((0 < natField (20 * 256 + 50 * 65536 + 99 * 2 ^ 24 + 7 * 2 ^ 48) 8 8) ∧ (natField (20 * 256 + 50 * 65536 + 99 * 2 ^ 24 + 7 * 2 ^ 48) 8 8 <
    natField (20 * 256 + 50 * 65536 + 99 * 2 ^ 24 + 7 * 2 ^ 48) 16 8) ∧ (natField (20 * 256 + 50 * 65536 + 99 * 2 ^ 24 + 7 * 2 ^ 48) 16 8 < natField
    (20 * 256 + 50 * 65536 + 99 * 2 ^ 24 + 7 * 2 ^ 48) 24 8) ∧ (natField (20 * 256 + 50 * 65536 + 99 * 2 ^ 24 + 7 * 2 ^ 48) 24 8 < 100)) ∧
  ((100 ≤ natField (20 * 256 + 50 * 65536 + 100 * 2 ^ 24) 24 8 ∨ natField (20 * 256 + 50 * 65536 + 100 * 2 ^ 24) 8 8 = 0)) ∧
  ((sv.serving = true) ∧ (sv.mpRuns = true)) ∧
  ((sv.spRuns 0 = true) ∧ (sv.serving = true) ∧ (sv.rd F.MR_WEIR_FBSET = 0)) ∧
  ((imS.serving = true) ∧ (imS.armed = true)) ∧
  ((List.find? (fun k => k.ty == 3) imF2.im.flight = some (sk 9 3))) ∧
  ((imA.im.anchorW = some (anc 1)) ∧ ((imA.begin.readBack (anc 1) [List.range 80]).snd = 0)) ∧
  ((imA.im.anchorW = some (anc 1)) ∧ ((imA.begin.readBack (anc 1) [[5, 6]]).snd ≠ 0) ∧ ((anc 1).kind = 1) ∧ (imA.flag F.GEN_ADMIT_FIRST = false)) ∧
  (((imF4.im.flight.find? fun k => k.ty == 2) = some sk8) ∧ (imF4.phase ≠ phSave) ∧ (imF4.im.passLsn ≠ none) ∧ (sk8.seg + 1 < (imJ.journal jIndexSeg
    [sk8.seg, imJ.im.pass, sk8.bundle, sk8.page, sk8.gen, sk8.snap]).segCount)) ∧
  ((imA.im.anchorW = some (anc 1)) ∧ ((imA.begin.readBack (anc 1) [List.range 80]).2 = 0) ∧ (imA.phase ≠ phSave ∨ (anc 1).kind ≠ 1)) ∧
  ((imAs.im.anchorW = some (anc 1)) ∧ ((imAs.begin.readBack (anc 1) [List.range 80]).2 = 0) ∧ (imAs.phase = phSave) ∧ ((anc 1).kind = 1)) := by
  and_intros <;> decide +kernel

theorem witness_ShareOperations :
  ((AdminReady svV 0) ∧ (svV.flag F.SEC_STS_DRBGOK = true) ∧ (svV.phase = phService) ∧ (svV.changing 64 = false) ∧ (svV.removing = false) ∧
    (svV.shDefined 64 = false) ∧ (natField 0 0 3 = 0 ∨ natField 0 0 3 = 1 ∨ natField 0 0 3 = 4) ∧ (svV.fits 64 (2 ^ 28) (2 ^ 28) = true) ∧ (natField
    0 0 3 = 0 ∨ svV.admitted = true)) ∧
  ((AdminReady svV 0) ∧ (svV.phase = phService) ∧ (svV.shDefined 0 = true) ∧ (svV.changing 0 = false) ∧ (svV.removing = false) ∧ (svV.shMode 0 =
    mdVolatile ∨ svV.shMode 0 = mdHeld ∨ svV.shMode 0 = mdWritethru) ∧ (svV.shState 0 = shReady) ∧ (svV.ticketsOn 0 = false)) ∧
  ((1 < 64) ∧ ((regs svV [(F.SHR_BASE_ADDR, 1, 1), (F.SHR_SIZE_ADDR, 1, 2)]).flag F.SEC_STS_DRBGOK = true) ∧ ((regs svV [(F.SHR_BASE_ADDR, 1, 1),
    (F.SHR_SIZE_ADDR, 1, 2)]).phase = phService) ∧ ((regs svV [(F.SHR_BASE_ADDR, 1, 1), (F.SHR_SIZE_ADDR, 1, 2)]).removing = false) ∧ ((regs svV
    [(F.SHR_BASE_ADDR, 1, 1), (F.SHR_SIZE_ADDR, 1, 2)]).flagi F.SHR_CFG_EN 1 = false) ∧ (natBit (2 ^ 63) 63 = true) ∧ (natField (2 ^ 63) 0 3 = 0) ∧
    ((regs svV [(F.SHR_BASE_ADDR, 1, 1), (F.SHR_SIZE_ADDR, 1, 2)]).fits 1 ((regs svV [(F.SHR_BASE_ADDR, 1, 1), (F.SHR_SIZE_ADDR, 1, 2)]).rdi
    F.SHR_BASE_ADDR 1 * 2 ^ 28) ((regs svV [(F.SHR_BASE_ADDR, 1, 1), (F.SHR_SIZE_ADDR, 1, 2)]).rdi F.SHR_SIZE_ADDR 1 * 2 ^ 28) = true)) ∧
  ((AdminReady sv 0) ∧ (sv.flag F.SEC_STS_DRBGOK = true) ∧ (sv.shDefined 0 = true) ∧ (sv.phase = phService) ∧ (sv.changing 0 = false) ∧ (sv.removing
    = false) ∧ (sv.shState 0 = shReady) ∧ (sv.shMode 0 = 1) ∧ (1 = mdHeld ∧ 4 = mdWritethru ∨ 1 = mdWritethru ∧ 4 = mdHeld)) ∧
  ((AdminReady sv 0) ∧ (sv.serving = true) ∧ (sv.shDefined 0 = true)) ∧
  ((svJ.tw.joinSeq.find 0 = some 8) ∧ (svJ.pstate 0 = psSync) ∧ (8 ≤ svJ.rd F.TW_ASEQ_VALUE) ∧ (svJ.spRuns 3 = true)) := by
  and_intros <;> (try dsimp only [AdminReady]) <;> decide +kernel

theorem witness_ShareRefusals :
  ((AdminReady svT 0) ∧ (0 < 64) ∧ (svT.shDefined 0 = true) ∧ (svT.spRuns 3 = true)) := by
  and_intros <;> (try dsimp only [AdminReady]) <;> decide +kernel

theorem witness_HostWriteStores :
  ((sv.headExists 0 = true) ∧ (sv.headUp 0 = true) ∧ (sv.writeCredit 0 = true) ∧ (sv.flagi F.HP_LINK_VIRAL 0 = false) ∧ (sv.lineOf 0 (2 ^ 28 - 64) =
    some 4194303) ∧ (sv.mayWrite 0 4194303 = true) ∧ (sv.shareOf (4194303 / 64) = some 0) ∧ (sv.rmapOf (4194303 / 64) = 0)) := by
  decide +kernel

theorem witness_HostReadAnswers :
  ((sv.headExists 0 = true) ∧ (sv.headUp 0 = true) ∧ (sv.readCredit 0 = true) ∧ (sv.flagi F.HP_LINK_VIRAL 0 = false) ∧ (sv.lineOf 0 8195 = some 128)
    ∧ (sv.shareOf (128 / 64) = some 0) ∧ (sv.readGranted 0 0 = true) ∧ (sv.shOpen 0 = true) ∧ (sv.serving = true) ∧ (sv.rmapOf (128 / 64) = 0) ∧
    ((sv.mch (unitChan (128 / 64))).state ≠ 4) ∧ (sv.linePoisoned 128 = false)) := by
  decide +kernel

theorem witness_DeniedAccess :
  ((0 < 64) ∧ (svRo.headExists 0 = true) ∧ (svRo.headUp 0 = true) ∧ (svRo.flagi F.HP_LINK_VIRAL 0 = false) ∧ (svRo.lineOf 0 8195 = some 128) ∧
    (svRo.shareOf (128 / 64) = some 0) ∧ (svRo.writeCredit 0 = true) ∧ (svRo.writeGranted 0 0 = false)) ∧
  ((0 < 64) ∧ (svNo.headExists 0 = true) ∧ (svNo.headUp 0 = true) ∧ (svNo.flagi F.HP_LINK_VIRAL 0 = false) ∧ (svNo.lineOf 0 8195 = some 128) ∧
    (svNo.shareOf (128 / 64) = some 0) ∧ (svNo.readCredit 0 = true) ∧ (svNo.readGranted 0 0 = false)) := by
  and_intros <;> decide +kernel

theorem witness_PoisonCommands :
  ((MailboxReady sv (Via.head 0)) ∧ (sv.shareOf (8195 / 4096) = some 0) ∧ (sv.grant 0 0 = 2)) ∧
  ((MailboxReady sv (Via.head 0)) ∧ (sv.shareOf (8192 / 4096) = some 0)) ∧
  (((svY.head 0).bg = some (17156, 0, 4096))) ∧
  ((MailboxReady sv (.head 0)) ∧ (sv.shareOf (8195 / 4096) = some 0) ∧ (sv.grant 0 0 = 2) ∧ (sv.rmapOf (8195 / 4096) ≠ 1)) ∧
  ((MailboxReady svAb (.head 0)) ∧ (svAb.shareOf (8195 / 4096) = some 0) ∧ (svAb.grant 0 0 = 2) ∧ (svAb.rmapOf (8195 / 4096) = 1)) ∧
  ((MailboxReady sv (.head 0)) ∧ (sv.shareOf (8192 / 4096) = some 0) ∧ (sv.flagi F.HP_LINK_VIRAL 0 = false) ∧ (sv.mayWrite 0 (8192 / 64) = true)) ∧
  ((MailboxReady svVi (.head 0)) ∧ (svVi.shareOf (8192 / 4096) = some 0) ∧ (svVi.flagi F.HP_LINK_VIRAL 0 = true)) := by
  and_intros <;> (try dsimp only [MailboxReady]) <;> decide +kernel

theorem witness_HeadEvents :
  ((svX4.mayTrain 0 = true) ∧ (svX4.rdi F.HP_LINK_STATE 0 = 4) ∧ ((svX4.head 0).retrain = none) ∧ (svX4.flagi F.HP_PORT_CFG_BIF (0 % 8) = false) ∧
    (16 ≤ 16)) ∧
  ((svX.headUp 0 = true)) ∧
  ((svX4.rdi F.HP_LINK_STATE 0 = 4)) ∧
  ((svX.headUp 0 = true) ∧ (svX.flagi F.HP_LINK_IDE 0 = true)) ∧
  ((svX.headUp 0 = true) ∧ (svX.flagi F.HP_LINK_VIRAL 0 = false)) ∧
  ((0 < 16) ∧ (svX.serving = true) ∧ (svX.headExists 0 = true) ∧ (svX.headUp 0 = true)) ∧
  ((3 < 16) ∧ (svX1.phase = phService) ∧ ((svX1.begin.setBit F.GEN_PINS_PERST 3 true).mayTrain 3 = true) ∧ ((svX1.begin.setBit F.GEN_PINS_PERST 3
    true).rdi F.HP_LINK_STATE 3 = 1)) ∧
  ((svY.headExists 0 = true) ∧ (svY.headUp 0 = true)) ∧
  ((svX.headExists 0 = true) ∧ (svX.headUp 0 = true) ∧ (natBit (2 ^ 63 + 7 * 2 ^ 16) 63 = true)) ∧
  ((MailboxReady svX (Via.mctp none)) ∧ (svX.headExists 0 = true) ∧ (svX.headUp 0 = true) ∧ ((svX.head 0).retrain = none)) ∧
  ((svX.headExists 0 = true) ∧ (svX.headUp 0 = true) ∧ (7 < 8) ∧ ((FMap.get { } (svX.head 0).decoders 7).lock = false) ∧ (dcd7.legal = true) ∧
    ((List.any (svX.head 0).decoders fun e => e.fst != 7 && e.snd.committed && e.snd.overlaps dcd7) = false)) ∧
  ((svX.headExists 0 = true) ∧ (svX.headUp 0 = true) ∧ (7 < 8) ∧ ((FMap.get {} (svX.head 0).decoders 7).lock = false) ∧ dcd7.legal = true ∧
    ((svX.head 0).decoders.any fun e => e.1 != 7 && e.2.committed && e.2.overlaps dcd7) = false) := by
  and_intros <;> (try dsimp only [MailboxReady]) <;> decide +kernel

theorem witness_DecoderLock :
  (((FMap.get { } (svY.head 0).decoders 0).committed = true) ∧ ((FMap.get { } (svY.head 0).decoders 0).lock = true)) ∧
  ((svX.headExists 0 = true) ∧ (svX.headUp 0 = true) ∧ (1 < 8) ∧ ((FMap.get { } (svX.head 0).decoders 1).lock = false)) := by
  and_intros <;> decide +kernel

theorem witness_MailboxCommands :
  ((MailboxReady svX (Via.mctp (some 3)))) ∧
  ((MailboxReady svX (Via.mctp none))) ∧
  ((MailboxReady svX (Via.mctp none)) ∧ (0 + 4096 ≤ svX.rd F.SHR_CAP_VISIBLE * 2 ^ 28)) ∧
  ((MailboxReady svX (Via.mctp none)) ∧ (0 + 4096 ≤ svX.rd F.SHR_CAP_VISIBLE * 2 ^ 28) ∧ ((svX.head (bgKey (Via.mctp none))).bg = none)) ∧
  ((MailboxReady svX3 (Via.head 0)) ∧ (131000 + 72 ≤ 131072)) ∧
  ((MailboxReady svX3 (Via.head 0)) ∧ (131070 + [1, 2].length ≤ 131072)) ∧
  ((MailboxReady svX3 (Via.head 0)) ∧ (131072 < 131070 + [1, 2, 3].length)) ∧
  ((MailboxReady svX3 (Via.head 0))) ∧
  ((MailboxReady svX3 (Via.mctp none))) := by
  and_intros <;> (try dsimp only [MailboxReady]) <;> decide +kernel

theorem witness_RaisingCounts :
  ((evF.ev.queue.length ≤ 4096)) ∧
  ((evS.ev.queue.length ≤ 4096) ∧ (0x1004 ≠ 0x1003)) ∧
  ((evF.ev.queue.length ≤ 4096) ∧ (evF.ev.queue.length = 4096)) := by
  and_intros <;> decide +kernel

theorem witness_EveryOccurrenceBinned :
  (((smy [2 ^ 32 - 2] 1).hist.length ≤ 16)) ∧
  (((smy [1, 1] 0).hist.length ≤ 16) ∧ ((smy [1, 1] 0).binned + (smy [1, 1] 0).unbinned < 2 ^ 32 - 1)) ∧
  (((smy [2 ^ 32 - 2] 1).hist.length ≤ 16) ∧ (2 ^ 32 - 1 ≤ (smy [2 ^ 32 - 2] 1).binned + (smy [2 ^ 32 - 2] 1).unbinned)) := by
  and_intros <;> decide +kernel

theorem witness_Recorder :
  ((evS.ev.queue = [occ1]) ∧ (evS.mpRuns = true) ∧ (evS.flag F.EV_STS_AVAIL = true) ∧ (evS.phase = phService)) ∧
  ((evS.phase = phService) ∧ (evS.flag F.EV_STS_AVAIL = true)) ∧
  ((evS.ev.episode = some 4) ∧ (1000000000 ≤ evS.devLevel)) ∧
  ((evS.flag F.EV_STS_AVAIL = true) ∧ (evS.mpRuns = true) ∧ (evS.flag F.EV_SEL_ITER = false) ∧ (evS.rd F.EV_SEL_CODE = 4099) ∧ (evS.ev.sums.find
    4099 = some ({ count := 2, hist := [1, 1] } : Summary))) ∧
  ((evS.ev.fetch = true) ∧ (evS.rd F.EV_RANGE_OLDEST ≤ evS.rd F.EV_LSEL_SEQ) ∧ (List.find? (fun e => e.seq == evS.rd F.EV_LSEL_SEQ) evS.ev.log =
    some { seq := 4, code := 4099, typ := 1, phase := 2, xtrm := false, crit := false, part := 0, body := [1, 2] })) ∧
  ((evS.mpRuns = true) ∧ (evS.phase = phService)) ∧
  ((MailboxReady evS (Via.mctp (some 0)))) ∧
  ((MailboxReady evS (Via.mctp (some 0))) ∧ (evS.ev.sums.find 4099 = some ({ count := 2, hist := [1, 1] } : Summary))) ∧
  ((MailboxReady evS (Via.mctp (some 0))) ∧ (0 < 4096) ∧ (4096 ≤ 4096)) ∧
  ((MailboxReady evS (Via.mctp (some 0))) ∧ (1 ≤ 3)) ∧
  ((MailboxReady evS (Via.mctp (some 0))) ∧ ([1029, 1, 2, 3].length = 4)) := by
  and_intros <;> (try dsimp only [MailboxReady]) <;> decide +kernel

theorem witness_RegisterAccesses :
  ((svC.viaOpen (Via.head 0) = true) ∧ (svC.flag F.SEC_STS_DRBGOK = true) ∧ (1048568 % 8 = 0) ∧ (983048 ≤ 1048568) ∧ (1048568 < 1048576) ∧ (1048568
    ≠ 983064) ∧ (svC.isolated 1048568 = false)) ∧
  ((svC.viaOpen (Via.head 0) = true) ∧ (8 ≠ 8 ∨ 196612 % 8 ≠ 0)) ∧
  ((MailboxReady svC (Via.mctp none)) ∧ (svC.flag F.SEC_STS_DRBGOK = true) ∧ (0 < 1) ∧ (1 ≤ 64) ∧ (262136 % 8 = 0) ∧ (262136 < 1048576) ∧ (262136 /
    65536 = (262136 + 8 * 1 - 8) / 65536)) := by
  and_intros <;> (try dsimp only [MailboxReady]) <;> decide +kernel

theorem witness_FieldAccess :
  ((5 < 2 ^ F.EV_STS_CLEARS.width) ∧ (F.EV_STS_CLEARS.acc = Acc.ro ∨ F.EV_STS_CLEARS.acc = Acc.rc)) ∧
  ((5 < 2 ^ F.SHR_BASE_ADDR.width) ∧ (F.SHR_BASE_ADDR.acc = Acc.rwl) ∧ (svC.lockedNow F.SHR_BASE_ADDR 0 = true)) ∧
  ((4 < 2 ^ F.SHR_CHG_FLAGS.width) ∧ (F.SHR_CHG_FLAGS.acc = Acc.w1c)) ∧
  ((44 < 2 ^ F.HP_CTL_DOWN_TO.width) ∧ (F.HP_CTL_DOWN_TO.acc = Acc.rw) ∧ (F.HP_CTL_DOWN_TO.limit 44 = 44)) ∧
  ((5 < 2 ^ F.GEN_ATTN_SIL.width) ∧ (F.GEN_ATTN_SIL.acc = .w1s)) ∧
  ((5 < 2 ^ F.SHR_BASE_ADDR.width) ∧ (F.SHR_BASE_ADDR.key 0 ≠ F.SHR_SIZE_ADDR.key 0)) := by
  and_intros <;> decide +kernel

theorem witness_ConfigurationRecord :
  ((MailboxReady svC (Via.head 0)) ∧ (svC.phase = phService) ∧ (65535 * 2 ^ 48 ≠ 0) ∧ (983048 / 65536 = 15) ∧ (bgKey (Via.head 0) ≠ 16) ∧ ((65535 *
    2 ^ 48).land (maskOf (Via.head 0).idx 983048 fun f _ => f.inRecord) = 65535 * 2 ^ 48)) ∧
  ((MailboxReady svC (Via.mctp none)) ∧ (fieldsAt (Via.mctp none).idx 393216 ≠ []) ∧ (svC.isolated 393216 = false)) ∧
  ((MailboxReady svC (Via.head 0))) ∧
  ((MailboxReady svC (Via.head 0)) ∧ (3 + 20 ≤ 4 * celEntries.length)) := by
  and_intros <;> (try dsimp only [MailboxReady]) <;> decide +kernel

theorem witness_SbWindow :
  ((tw1.sbOn = true) ∧ (1048568 % 8 = 0) ∧ (1048568 < 1048576)) ∧
  ((tw2.sbOn = true) ∧ (tw2.twb.ptr % 8 = 0) ∧ (tw2.twb.ptr < 1048576) ∧ (tw2.flag F.SEC_STS_DRBGOK = true)) ∧
  ((tw1.sbOn = true) ∧ (tw1.sbWriteStatus 983048 1 = 0) ∧ (tw1.flag F.SEC_STS_DRBGOK = true) ∧ (983048 ≠ 851984)) ∧
  ((tw1.sbOn = true)) ∧
  ((tw1.sbOn = true) ∧ (tw1.twb.alert = true)) := by
  and_intros <;> decide +kernel

theorem witness_RefusedSbWrite :
  ((tw1.sbOn = true) ∧ (tw1.sbWriteStatus 851984 2 ≠ 0)) := by
  decide +kernel

theorem witness_TwoWire :
  ((tw1.mctpOn = true) ∧ (8 ≤ 254) ∧ (254 ≤ 254)) ∧
  ((tw1.mctpOn = true)) ∧
  ((tw1.mctpOn = true) ∧ ([1, 2].length ≤ 64)) ∧
  ((tw1.busOn = true) ∧ (tw1.twb.txs.find 5 = none) ∧ (FMap.get 0 tw1.twb.states 5 = 0) ∧ (tw1.flag F.SEC_STS_DRBGOK = true)) ∧
  ((tw1.busOn = true) ∧ (tw1.twb.txs.find 1 = some btx) ∧ (btx.wait = 1) ∧ (btx.due ≤ tw1.ck.mono)) ∧
  ((tw1.busOn = true) ∧ (2 < 7) ∧ (FMap.get 0 tw1.twb.states 2 = 1)) ∧
  ((tw1.busOn = true) ∧ (tw1.twb.txs.find 5 = none) ∧ (FMap.get 0 tw1.twb.states 5 = 0) ∧ (0 < tw1.rd F.TWB_LB_RETRY)) ∧
  ((tw1.busOn = true) ∧ (0 < 7) ∧ (FMap.get 0 tw1.twb.states 0 = 0)) ∧
  ((tw1.busOn = true) ∧ (3 < 7) ∧ (2 ≤ FMap.get 0 tw1.twb.states 3)) ∧
  ((tw1.busOn = true)) := by
  and_intros <;> decide +kernel

theorem witness_TimeStatus :
  ((MailboxReady ckM (Via.mctp none))) := by
  and_intros <;> (try dsimp only [MailboxReady]) <;> decide +kernel

theorem witness_ClockFaults :
  (((ckS 2).clocksRun = true) ∧ ((ckS 2).rd F.CK_STS_STATE = 2)) ∧
  (((ckS 2).clocksRun = true) ∧ ((ckS 2).flag F.CK_STS_REFOK = true) ∧ ((ckS 2).rd F.CK_STS_STATE = 2) ∧ ((ckS 2).ck.plls = [])) ∧
  (((ckS 3).clocksRun = true) ∧ ((ckS 3).flag F.CK_STS_REFOK = true) ∧ ((ckS 3).rd F.CK_STS_STATE = 3)) ∧
  (((ckS 4).clocksRun = true) ∧ ((ckS 4).phase ≠ phSave) ∧ ((ckS 4).serving = true) ∧ ((ckS 4).rd F.CK_STS_STATE = 4)) ∧
  (((ckS 3).clocksRun = true) ∧ ((ckS 3).phase ≠ phSave) ∧ ((ckS 3).serving = true) ∧ ((ckS 3).rd F.CK_STS_STATE ≠ 4)) ∧
  (((ckS 4).clocksRun = true) ∧ ((ckS 4).rd F.CK_STS_STATE = 3 ∨ (ckS 4).rd F.CK_STS_STATE = 4) ∧ ((ckS 4).serving = true)) ∧
  (((ckS 1).clocksRun = true) ∧ ((ckS 1).rd F.CK_STS_STATE = 1)) ∧
  (((ckS 1).clocksRun = true) ∧ ((ckS 1).rd F.CK_STS_STATE = 1) ∧ ((ckS 1).ck.starts < 2)) ∧
  (((ckS 2).clocksRun = true) ∧ (3 < 4) ∧ (¬3 ∈ (ckS 2).ck.stopped) ∧ (((ckS 2).ck.mono :: List.filter (fun w => decide ((ckS 2).ck.mono < w +
    1000000000)) (FMap.get [] (ckS 2).ck.losses 3)).length < 3)) ∧
  (((ckS 2).clocksRun = true) ∧ ((ckS 2).rd F.CK_STS_STATE = 2) ∧ ((ckS 2).ck.plls = []) ∧ ((ckS 2).phase ≠ phSave)) ∧
  (((ckS 4).clocksRun = true) ∧ ((ckS 4).rd F.CK_STS_STATE = 4) ∧ ((ckS 4).phase ≠ phSave)) ∧
  (((ckS 4).clocksRun = true)) ∧
  ((ckB.clocksRun = true) ∧ (ckB.rd F.CK_STS_STATE = 1) ∧ (ckB.ck.starts = 2)) ∧
  ((ckC.clocksRun = true) ∧ (3 < 4) ∧ (3 ∉ ckC.ck.stopped) ∧ (3 ≤ (ckC.ck.mono :: (FMap.get [] ckC.ck.losses 3).filter fun w => decide (ckC.ck.mono
    < w + 1000000000)).length) ∧ (3 ≠ 2) ∧ (ckC.phase ≠ phSave) ∧ (ckC.rd F.CK_STS_STATE = 2) ∧ (ckC.ck.plls = []) ∧ (ckC.flag F.CK_STS_REFOK =
    true)) := by
  and_intros <;> decide +kernel

theorem witness_TimeKeeping :
  (((ckS 2).clocksRun = true) ∧ ((ckS 2).ptpLocked = false)) ∧
  ((ckL.clocksRun = true) ∧ (ckL.ptpLocked = true)) ∧
  (((ckS 2).clocksRun = true)) ∧
  ((ckL.clocksRun = true)) ∧
  (((ckS 2).clocksRun = true) ∧ ((ckS 2).flag F.CK_PPS_EN = true) ∧ ((ckS 2).flag F.CK_STS_HOLDOVER = false) ∧ ((ckS 2).rd F.CK_UNC_UNC ≠ 2 ^ 48 -
    1) ∧ ((ckS 2).ck.ppsAt = none)) ∧
  (((ckS 2).clocksRun = true) ∧ ((ckS 2).flag F.CK_ALCTL_ARM = true) ∧ ((ckS 2).phase = phService) ∧ ((ckS 2).rd F.PW_STATE_STBY = 0) ∧ ((ckS 2).rd
    F.CK_ALARM_AT ≤ (ckS 2).ck.ns)) ∧
  (((ckS 2).clocksRun = true) ∧ ((ckS 2).mayTrim = true) ∧ ((ckS 2).flag F.CK_STS_REFOK = true) ∧ ((ckS 2).ptpLocked = false) ∧ ((ckS 2).rd
    F.CK_CTL_TRIM = 2) ∧ (0 ≤ 500)) ∧
  ((ckT.clocksRun = true) ∧ (ckT.mayTrim = true) ∧ (ckT.rd F.CK_CTL_TRIM = 0)) ∧
  (((ckS 2).clocksRun = true) ∧ ((ckS 2).flag F.CK_CTL_PTPEN = true) ∧ ((ckS 2).pan.ethUp = true) ∧ ((ckS 2).spRuns 5 = true) ∧ ((ckS 2).ck.master =
    none)) ∧
  ((ckM.clocksRun = true) ∧ (ckM.ck.master = some 9)) ∧
  (((ckS 2).clocksRun = true) ∧ ((ckS 2).flag F.CK_CTL_PTMEN = true) ∧ ((ckS 2).spRuns 5 = true) ∧ ((ckS 2).ptpLocked = false) ∧ ((ckS 2).headUp
    ((ckS 2).rd F.CK_CTL_PTMHEAD) = true)) ∧
  (((ckS 2).clocksRun = true) ∧ (MailboxReady (ckS 2) (Via.head 0))) ∧
  (((ckS 2).clocksRun = true) ∧ (MailboxReady (ckS 2) (Via.mctp none))) := by
  and_intros <;> (try dsimp only [MailboxReady]) <;> decide +kernel

theorem witness_PtpServo :
  ((ckM.clocksRun = true) ∧ (ckM.flag F.CK_CTL_PTPEN = true) ∧ (ckM.pan.ethUp = true) ∧ (ckM.ck.master ≠ none) ∧ (ckM.spRuns 5 = true) ∧ (-4 ≤ 1) ∧
    (1 ≤ 1) ∧ (ckM.ptpLocked = false) ∧ (ckM.ck.good < 7) ∧ ((-1000).natAbs ≤ max 1 (ckM.rd F.CK_CTL_STEPTH) * 1000) ∧ ((-1000).natAbs < 2 ^ 31 - 1)
    ∧ (Int.natAbs 1000000 ≤ 1000000)) := by
  decide +kernel

theorem witness_PackLife :
  ((0 < 2) ∧ ((en 0).phase = phService) ∧ ((en 0).spRuns 4 = true) ∧ ((en 0).bayState 0 = 0) ∧ ((((en 0).begin.packPin 0 0).wakeDeep 3).bayState 0 =
    0)) ∧
  ((0 < 2) ∧ ((en 1).phase = phService) ∧ ((en 1).spRuns 4 = true) ∧ ((en 1).bayState 0 = 1)) ∧
  ((1 < 2) ∧ ((en 1).phase = phService) ∧ ((en 1).spRuns 4 = true) ∧ ((en 1).bayState 1 = 1)) ∧
  ((1 < 2) ∧ ((en 3).phase = phService) ∧ ((en 3).spRuns 4 = true) ∧ ((en 3).bayState 1 = 3)) ∧
  ((1 < 2) ∧ ((en 4).phase = phService) ∧ ((en 4).spRuns 4 = true) ∧ ((en 4).bayState 1 = 4)) ∧
  ((1 < 2) ∧ ((en 5).phase = phService) ∧ ((en 5).spRuns 4 = true) ∧ ((en 5).bayState 1 = 5)) ∧
  ((1 < 2) ∧ ((en 8).phase = phService) ∧ ((en 8).spRuns 4 = true) ∧ ((en 8).bayState 1 = 8)) ∧
  ((enD.phase = phDormant ∨ enD.phase = phOff)) := by
  and_intros <;> decide +kernel

theorem witness_PackMeasures :
  ((0 < 2) ∧ (enP.spRuns 4 = true) ∧ (enP.mayPause 0 = true)) ∧
  ((0 < 2) ∧ ((en 6).spRuns 4 = true) ∧ ((en 6).bayState 0 = 6)) ∧
  ((0 < 2) ∧ ((en 7).spRuns 4 = true) ∧ ((en 7).bayState 0 = 7) ∧ ((en 7).rdi F.EN_STS_TSTEP 0 = 3)) ∧
  ((0 < 2) ∧ (enF.spRuns 4 = true) ∧ ((enF.bay 0).first = true)) ∧
  ((0 < 2) ∧ ((en 4).spRuns 4 = true) ∧ ((en 4).phase = phService) ∧ ((((en 4).begin.bayUpdate 0
    { dq := 5, curr := 100, volt := 15000, therm := none }).bayUpdate 1 { dq := -5, curr := 100, volt := 15000, therm := some 250 }).spRuns 4 =
    true)) ∧
  ((1 < 2) ∧ ((en 4).spRuns 4 = true) ∧ ((en 4).bayState 1 = 4) ∧ (((en 4).begin.busFree (5 + 1)).twb.faulted (5 + 1) = false)) := by
  and_intros <;> decide +kernel

theorem witness_PackOperations :
  ((0 < 2) ∧ (AdminReady (enT 5) 0) ∧ ((enT 5).mpRuns = true) ∧ ((enT 5).phase = phService) ∧ ((enT 5).bayState 0 ≠ 0) ∧ (20 = 0 ∨ 20 ≤ 20 ∧ 20 ≤
    60) ∧ (0 = 0 ∨ 50 ≤ 0 ∧ 0 ≤ (adminCapture (enT 5) 0 9 0).fst.profN 0 2) ∧ ((enT 5).bayState 0 = 5) ∧ ((enT 5).removing = false) ∧ (([0, 1].any
    fun i => (enT 5).rdi F.EN_STS_TSTEP i != 0 || [6, 7].contains ((enT 5).bayState i) || (enT 5).flagi F.EN_STS_RELEASED i) = false)) ∧
  ((0 < 2) ∧ (AdminReady (en 5) 0) ∧ ((en 5).mpRuns = true) ∧ ((en 5).phase = phService) ∧ ((en 5).bayState 0 ≠ 0)) ∧
  ((0 < 2) ∧ (AdminReady (en 7) 0) ∧ ((en 7).mpRuns = true) ∧ ((en 7).phase = phService) ∧ ((en 7).bayState 0 ≠ 0)) ∧
  ((0 < 2) ∧ (AdminReady (enT 7) 0) ∧ ((enT 7).mpRuns = true) ∧ ((enT 7).phase = phService) ∧ ((enT 7).bayState 0 ≠ 0) ∧ ((enT 7).rdi F.EN_STS_TSTEP
    0 = 0)) ∧
  ((0 < 2) ∧ (AdminReady (en 5) 0) ∧ ((en 5).mpRuns = true) ∧ ((en 5).phase = phService) ∧ ((en 5).bayState 0 ≠ 0) ∧ ((en 5).flagi F.EN_STS_RELEASED
    (1 - 0) = false)) ∧
  ((0 < 2) ∧ (AdminReady enR 0) ∧ (enR.mpRuns = true) ∧ (enR.phase = phService) ∧ (enR.bayState 0 ≠ 0) ∧ (enR.flagi F.EN_STS_RELEASED 0 = true) ∧
    (enR.bayState 0 = 3)) ∧
  ((MailboxReady (en 5) (Via.head 0)) ∧ (1 < 2) ∧ (2 < (en 5).bayState 1)) := by
  and_intros <;> (try dsimp only [MailboxReady, AdminReady]) <;> decide +kernel

theorem witness_SelfTests :
  ((AdminReady (en 5) 0) ∧ ((en 5).mpRuns = true) ∧ ((en 5).phase = phService) ∧ (testUnit 5 0 = true) ∧ ((en 5).removing = false) ∧ ((List.any (en
    5).trials fun e => e.snd.cls == 5 && e.snd.unit == 0) = false) ∧ ((en 5).testable 5 0 = true) ∧ (List.find? (fun n => !(en 5).trials.has n)
    (List.range 4) = some 0)) ∧
  ((0 < 4) ∧ ((wr tr1).phase = phService) ∧ ((wr tr1).trials.find 0 = some (trl 5 1 0 0)) ∧ ((trl 5 1 0 0).st = 1) ∧ ((wr tr1).testTgts (trl 5 1 0
    0).cls (trl 5 1 0 0).unit = []) ∧ ((wr tr1).belowMark = true)) ∧
  ((2 < 4) ∧ (AdminReady tr1 0) ∧ (tr1.mpRuns = true) ∧ (tr1.trials.find 2 = some (trl 1 4 100 70000)) ∧ (3 ≤ (trl 1 4 100 70000).st)) ∧
  ((0 < 4) ∧ (AdminReady tr1 0) ∧ (tr1.mpRuns = true) ∧ (tr1.trials.find 0 = some (trl 5 1 0 0)) ∧ ((trl 5 1 0 0).st = 1) ∧ ((trl 5 1 0 0).cls = 5)) ∧
  ((tr2.trials.find 3 = some (trl 5 2 0 0)) ∧ ((trl 5 2 0 0).st = 2)) := by
  and_intros <;> (try dsimp only [AdminReady]) <;> decide +kernel

theorem witness_ProcessorFaults :
  (((fw0 2).spRuns 1 = true)) ∧
  (((fw0 2).spRuns 0 = true)) ∧
  (((fw0 2).mpRuns = true) ∧ ((fw0 2).phase ≠ phBringup) ∧ (∀ (r : SwapRec), (fw0 2).fw.swap = some r → r.trial = false)) ∧
  ((fw1.mpRuns = true) ∧ (fw1.phase = phBringup) ∧ (fw1.fw.mpExp = 2)) ∧
  ((0 < 6) ∧ (fw2.proc (0 + 1) = 3) ∧ (FMap.get (0, fw2.ck.mono) fw2.fw.cause (0 + 1) = (2, 0))) ∧
  ((fw2.proc 0 = 3) ∧ (fw2.fw.swap = none) ∧ (fw2.fw.activating = false) ∧ (fw2.rd F.FW_STG_STATE ≠ 5) ∧ ((fw2.block (fw2.rd F.FW_BOOT_ACTIVE)).verr
    = 0)) ∧
  ((fw3.proc 0 = 3) ∧ (fw3.fw.swap = none) ∧ ((fw3.block (fw3.rd F.FW_BOOT_ACTIVE)).verr ≠ 0)) := by
  and_intros <;> decide +kernel

theorem witness_Firmware :
  ((AdminReady (fw0 2) 0) ∧ ((fw0 2).mpRuns = true) ∧ (4096 % 256 = 0) ∧ (0 + 4096 ≤ 2 ^ 24) ∧ ((fw0 2).rd F.FW_STG_STATE ≠ 1) ∧ ((fw0 2).rd
    F.FW_NOR_STATE = 0)) ∧
  ((AdminReady (fw0 2) 0) ∧ ((fw0 2).mpRuns = true)) ∧
  ((AdminReady fw4 0) ∧ (fw4.mpRuns = true) ∧ (fw4.phase = phService) ∧ (fw4.stagedBlock = some 1)) ∧
  ((AdminReady fw4 0) ∧ (fw4.mpRuns = true) ∧ (fw4.phase = phService) ∧ (fw4.stagedBlock = some 1) ∧ ((fw4.block 1).layout = fw4.fw.layout)) ∧
  ((AdminReady (fw0 2) 0) ∧ ((fw0 2).mpRuns = true) ∧ (5 < 6)) ∧
  (((fwN 2 (some prt)).rd F.FW_NOR_STATE = 2) ∧ ((fwN 2 (some prt)).fw.part.isSome = true)) ∧
  (((fwN 5 none).rd F.FW_NOR_STATE = 5)) ∧
  (((fwN 1 none).rd F.FW_NOR_STATE = 1) ∧ ((fwN 1 none).fw.part = none)) ∧
  (((fwN 1 (some prt)).rd F.FW_NOR_STATE = 1) ∧ ((fwN 1 (some prt)).fw.part = some prt)) ∧
  ((MailboxReady (fw0 2) (Via.mctp none)) ∧ ((fw0 2).rd F.FW_STG_STATE ≠ 1) ∧ ((fw0 2).rd F.FW_NOR_STATE = 0) ∧ (4096 + 128 ≤ 2 ^ 24)) ∧
  ((MailboxReady fw4 (Via.mctp none)) ∧ (fw4.phase = phService) ∧ (fw4.stagedBlock = some 1)) ∧
  (((regs rc [(F.FW_PROC_STATE, 0, 0)]).viaOpen (Via.mctp none) = true) ∧ ((regs rc [(F.FW_PROC_STATE, 0, 0)]).phase = phRecovery ∨ (regs rc
    [(F.FW_PROC_STATE, 0, 0)]).mpRuns = true) ∧ ((regs rc [(F.FW_PROC_STATE, 0, 0)]).rd F.FW_STG_STATE ≠ 2)) ∧
  ((trS.phase = phService) ∧ (trS.onTrial = true) ∧ (trS.mpRuns = true) ∧ ((List.range 6).all trS.spRuns = true) ∧ ((List.all trS.fw.trialRld fun e
    => decide (e.snd ≤ 3)) = true) ∧ (trS.fw.trialAt + trS.rd F.FW_CTL_CONFIRM * 1000000000 ≤ trS.ck.mono)) ∧
  ((MailboxReady trS (Via.head 0)) ∧ (trS.onTrial = true)) ∧
  ((MailboxReady (fw0 2) (Via.head 0)) ∧ ((fw0 2).onTrial = false)) ∧
  ((MailboxReady (fw0 2) (Via.head 0)) ∧ ((fw0 2).phase = phService)) ∧
  ((rc.viaOpen (Via.mctp none) = true) ∧ (rc.phase = phRecovery ∨ rc.mpRuns = true)) ∧
  ((rc.phase = phRecovery) ∧ ((rc.newBlock hdrOk).verr = 0)) ∧
  ((rc.phase = phRecovery) ∧ (rc.pan.ethUp = true)) ∧
  ((rc.phase = phRecovery) ∧ (rc.pan.ethUp = true) ∧ (rc.fw.tries < 5)) ∧
  ((rc5.phase = phRecovery) ∧ (rc5.pan.ethUp = true) ∧ (rc5.fw.tries = 5)) := by
  and_intros <;> (try dsimp only [MailboxReady, AdminReady]) <;> decide +kernel

theorem witness_Panel :
  ((MailboxReady pn (Via.head 0)) ∧ (pn.serving = true) ∧ (pn.removing = false)) ∧
  ((MailboxReady (pnR 1) (Via.mctp none)) ∧ ((pnR 1).removing = true)) ∧
  (((pnR 1).rd F.GEN_PANEL_RMV = 1) ∧ ((pnR 1).serving = true) ∧ ((pnR 1).removalSafe = true)) ∧
  (((pnR 2).rd F.GEN_PANEL_RMV = 2)) ∧
  ((pn.panelOn = true) ∧ (pn.pan.acted = false) ∧ (pn.serving = true) ∧ (pn.removing = false)) ∧
  (((pnR 1).panelOn = true) ∧ ((pnR 1).pan.acted = false) ∧ ((pnR 1).serving = true) ∧ ((pnR 1).removing = true)) ∧
  ((0 < 1000) ∧ ((regs pn [(F.GEN_PANEL_LOCATE, 0, 1), (F.GEN_PANEL_PRESSES, 0, 65535)]).panelOn = true)) ∧
  ((pn.panelOn = true) ∧ (pn.pan.touchBase = some 1000000) ∧ (pn.begin.settleAttn.touched 1000000 200 = true) ∧ (pn.pan.touch = 4)) ∧
  ((pnT.panelOn = true) ∧ (pnT.pan.touchBase = some 1000000) ∧ (pnT.begin.settleAttn.touched 1000000 200 = true) ∧ (pnT.pan.touch = 199)) ∧
  ((MailboxReady pn (Via.head 0))) ∧
  ((pn.phase ≠ phOff) ∧ (pn.phase ≠ phDormant) ∧ (pn.ledSafe ≠ 1)) ∧
  ((pn.phase ≠ phOff) ∧ (pn.phase ≠ phDormant)) ∧
  ((pn.dom 0 = 1)) := by
  and_intros <;> (try dsimp only [MailboxReady]) <;> decide +kernel

theorem witness_FlashComplex :
  ((3 < 64) ∧ ((fl 1).phase = phBringup) ∧ ((fl 1).dom (18 + 3 / 8) = 1) ∧ ((fl 1).rd F.CK_STS_STATE = 2) ∧ (((fl 1).chan 3).trained = false) ∧
    (((fl 1).chan 3).retired = false)) ∧
  (((fl 2).inFlight 7 = some (sk 7 1)) ∧ (0 < 32) ∧ (((fl 2).bundle (sk 7 1).bundle).members[(0 + (sk 7 1).page) % 32]? = some 4096) ∧ ((fl 2).phase
    ≠ phSave)) ∧
  (((fl 3).inFlight 7 = some (sk 7 1)) ∧ (0 < 32) ∧ (((fl 3).bundle (sk 7 1).bundle).members[(0 + (sk 7 1).page) % 32]? = some 4096) ∧ ((fl 3).phase
    = phSave)) ∧
  ((flE.erases 5 = true) ∧ (flE.erasing (blkTgt 5) = some (5, flE.blk 5)) ∧ (flE.isProtected 5 = false) ∧ (erasedProbe [] = true)) ∧
  ((flE.erases 5 = true) ∧ (flE.erasing (blkTgt 5) = some (5, flE.blk 5)) ∧ (flE.isProtected 5 = false)) ∧
  (((fl 2).erases 6 = true) ∧ (((fl 2).blk 6).st = 3) ∧ (pageDecodes 8 (List.range 9) = false)) ∧
  (((fl 2).erases 7 = true) ∧ (((fl 2).blk 7).st = 3) ∧ (pageDecodes 8 [] = true) ∧ (max 1 ((fl 2).rd F.FC_CFG_WEARLIM) ≤ ((fl 2).blk 7).ers + 1)) ∧
  (((fl 2).erases 6 = true) ∧ (((fl 2).blk 6).st = 3) ∧ (pageDecodes 8 [3] = true) ∧ (((fl 2).blk 6).ers + 1 < max 1 ((fl 2).rd F.FC_CFG_WEARLIM))) ∧
  (((fl 2).erases 65541 = true) ∧ (((fl 2).tgt 16).susp = some 65541) ∧ ((fl 2).erasesWait 16 = false) ∧ ((fl 2).anyHot = false)) ∧
  ((flB.serving = true) ∧ (flB.healthy 1 = true) ∧ (0 < 8) ∧ ([0, 8, 7, 6, 5, 4, 3, 2, 1, 2, 3, 4, 5, 6, 7, 8].length = 16) ∧ (flB.binHeld 1 0 =
    true) ∧ (flB.binDue 1 0 = true)) ∧
  (((flQ 0).fc.queue = [3, 4]) ∧ ((flQ 0).phase = phService) ∧ ((flQ 0).spRuns 1 = true) ∧ ((flQ 0).rd F.FC_RSK_STATE = 0) ∧ ((flQ 0).drainState ≠
    3)) ∧
  (((flQ 2).fc.queue = [3, 4]) ∧ ((flQ 2).phase = phService) ∧ ((flQ 2).spRuns 1 = true) ∧ ((flQ 2).rd F.FC_RSK_STATE = 2) ∧ ((flQ 2).liveOn 3 =
    [])) ∧
  (((flQ 2).fc.queue = [3, 4]) ∧ ((flQ 2).phase = phService) ∧ ((flQ 2).rd F.FC_RSK_STATE ≠ 0)) ∧
  ((MailboxReady (fl 2) (Via.head 0)) ∧ (1023 < 1024)) ∧
  ((MailboxReady (fl 2) (Via.mctp none)) ∧ (32 < 1024) ∧ (7 < blocksPerTarget) ∧ (5 < 1152) ∧ (0 ≤ 1) ∧ (-8 ≤ -8) ∧ (-8 ≤ 7) ∧ (((fl 2).tgt
    32).state ≠ tgAbsent) ∧ (((fl 2).tgt 32).state ≠ tgBound) ∧ (((fl 2).tgt 32).state ≠ tgRetired) ∧ ((fl 2).idleTgt 32 = true)) ∧
  ((MailboxReady (fl 2) (Via.head 0)) ∧ (1 < 1024) ∧ (((fl 2).tgt 1).state ≠ tgAbsent) ∧ (((fl 2).tgt 1).state ≠ tgBound) ∧ (((fl 2).tgt 1).state ≠
    tgRetired)) ∧
  ((MailboxReady (flQ 2) (Via.head 0))) ∧
  (((fl 2).healthy 0 = true) ∧ ((fl 2).phase ≠ phSave) ∧ ((tmoOf (fl 2) true).chanTimedOut (tgtChan 0) = false)) ∧
  ((flT.healthy 0 = true) ∧ (flT.phase ≠ phSave) ∧ ((tmoOf flT true).chanTimedOut (tgtChan 0) = false)) := by
  and_intros <;> (try dsimp only [MailboxReady]) <;> decide +kernel

theorem witness_PagesAndStrands :
  (((bunS.bundle (sk 7 1).bundle).members.length = 32) ∧ ((bunS.bundle (sk 7 1).bundle).members.Nodup) ∧ (31 < 32) ∧ (0 < 32) ∧ ((bunS.bundle (sk 7
    1).bundle).members.contains 31 = true)) ∧
  ((0 < 1151) ∧ (4194303 < 2 ^ 22)) ∧
  (((bunS.bundle (sk 7 1).bundle).members.length = 32) ∧ ((bunS.bundle (sk 7 1).bundle).members.Nodup) ∧ (0 < 32) ∧ (31 < 32) ∧ (bunS.strandBlk (sk
    7 1) 31 = bunS.strandBlk (sk 7 1) 31)) := by
  and_intros <;> decide +kernel

theorem witness_MemoryChannels :
  (((mm 1).phase = phBringup) ∧ ((mm 1).mc.trained = false) ∧ ((mm 1).rd F.CK_STS_STATE = 2) ∧ ((domsMCG.all fun d => (mm 1).dom d == 1) = true)) ∧
  (((mm 1).phase = phBringup) ∧ ((mm 1).mc.trained = false) ∧ ((mm 1).rd F.CK_STS_STATE = 2) ∧ ((domsMCG.all fun d => (mm 1).dom d == 1) = true) ∧
    ((mm 1).flag F.MC_CFG_SPARE = false) ∧ ((mm 1).pw.dram = true)) ∧
  ((mmU.phase = phService) ∧ ((mmU.mch 0).state = 2) ∧ (3 ≤ 3)) ∧
  ((mmU.phase = phService) ∧ ((mmU.mch 0).state = 2) ∧ (3 < 4)) ∧
  ((mmU.phase = phService) ∧ ((mmU.mch 0).state = 2) ∧ (3 < 4) ∧ ((mmU.mch 0).retrains = [5]) ∧ (mmU.ck.mono < 5 + 3600000000000)) ∧
  ((mmU.serving = true) ∧ (mmU.mc.trained = true) ∧ (24 * (mmU.mch 0).cap * 2 ^ 30 ≤ 6000000000 * 3600 * max 1 (mmU.rd F.MC_SCRUB_PERIOD))) ∧
  ((mmB.serving = true) ∧ (mmB.mc.heals.contains 1 = true) ∧ ((mmB.unit 1).st = 0) ∧ (mmB.slotOf 1 = some (sk 7 1, 0, slot1))) ∧
  ((mmS.rd F.MC_SPARE_STATE = 1) ∧ (mmS.serving = true)) ∧
  ((mmU.serving = true)) ∧
  ((MailboxReady mmU (Via.head 0))) ∧
  ((MailboxReady mmU (Via.head 0)) ∧ (0 < 24) ∧ (1 < 2) ∧ (mmU.flag F.MC_CFG_SPARE = false)) ∧
  ((MailboxReady mmS (Via.head 0)) ∧ (0 < 24) ∧ (1 < 2) ∧ (mmS.flag F.MC_CFG_SPARE = true) ∧ (mmS.rd F.MC_SPARE_STATE ≠ 0)) ∧
  ((MailboxReady (regs mmU [(F.MC_CFG_SPARE, 0, 1)]) (Via.head 0)) ∧ (0 < 24) ∧ (0 < 2) ∧ ((regs mmU [(F.MC_CFG_SPARE, 0, 1)]).spareFree 0 = true) ∧
    (0 = bit01 ((regs mmU [(F.MC_CFG_SPARE, 0, 1)]).mch 0).swap)) ∧
  ((MailboxReady mmU (Via.head 0)) ∧ (0 < 24)) ∧
  ((mmB.serving = true) ∧ (mmB.mc.heals.contains 1 = true) ∧ ((mmB.unit 1).st = 0) ∧ (mmB.slotOf 1 = some (sk 7 1, 0, slot1)) ∧ ((healOf mmB [3]
    []).2 = true)) ∧
  ((mmB.serving = true) ∧ (mmB.mc.heals.contains 1 = true) ∧ ((mmB.unit 1).st = 0) ∧ (mmB.slotOf 1 = some (sk 7 1, 0, slot1)) ∧ ((healOf mmB
    (List.range 80) [1, 2, 3, 4, 5]).2 = false)) := by
  and_intros <;> (try dsimp only [MailboxReady]) <;> decide +kernel

theorem witness_RailEvents :
  ((3 < 16) ∧ (inWindow (pwU.railNominal 3) 949 = false)) ∧
  ((4 < 16) ∧ (inWindow (pwG2.railNominal 4) 0 = true) ∧ (pwG2.pw.up ≠ 0) ∧ ((pwG2.stepSlots pwG2.pw.up).contains 4 = true) ∧ (((List.takeWhile (fun
    x => x != 4) (pwG2.stepSlots pwG2.pw.up)).all fun i => pwG2.pw.good.contains i) = true)) ∧
  ((4 < 16) ∧ (pwS.flagi F.PW_RAIL_EN 4 = true) ∧ (pwS.serving = true) ∧ (2 ≠ 3) ∧ (2 ≠ 4)) ∧
  ((3 < 16) ∧ (pwS.flagi F.PW_RAIL_EN 3 = true) ∧ (pwS.phase ≠ phOff) ∧ (pwS.phase ≠ phDormant)) ∧
  ((pwD.begin.downRest.rd F.PW_STATE_SEQ = 3)) := by
  and_intros <;> decide +kernel

theorem witness_PowerMonitor :
  ((pwS.spRuns 5 = true) ∧ (pwS.phase ≠ phOff) ∧ (pwS.phase ≠ phDormant) ∧ (pwS.rd F.PW_STATE_STBY ≠ 1) ∧ (pwS.twb.faulted 1 = false)) ∧
  ((pwS.spRuns 5 = true) ∧ (pwS.pmbusSlots.contains 3 = true)) ∧
  ((pwV.phase = phSave) ∧ (pwV.rd F.SPN_SAVE_REASON = 1) ∧ (pwV.flag F.SPN_SAVE_PWRBACK = false)) ∧
  ((pwS.phase = phService) ∧ (pwS.rd F.PW_CTL_STBY ≠ 0) ∧ (pwS.coreIdle = true) ∧ (pwS.residue = 0) ∧ (pwS.rd F.PW_STATE_STBY = 0)) ∧
  (((pwO true 1 2).flag F.PW_OP_BUSY = true) ∧ ((pwO true 1 2).pw.opHalf = true)) ∧
  (((pwO false 1 2).flag F.PW_OP_BUSY = true) ∧ ((pwO false 1 2).pw.opHalf = false) ∧ ((pwO false 1 2).rd F.PW_OP_CUR ≤ (pwO false 1 2).rd
    F.PW_OP_TARGET)) ∧
  (((pwO false 2 0).flag F.PW_OP_BUSY = true) ∧ ((pwO false 2 0).pw.opHalf = false) ∧ ((pwO false 2 0).rd F.PW_OP_TARGET < (pwO false 2 0).rd
    F.PW_OP_CUR) ∧ (100 * 700 < 98 * [800, 720, 650, 600].getD ((pwO false 2 0).rd F.PW_OP_TARGET) 600)) ∧
  ((svC.phase ≠ phOff) ∧ (svC.phase ≠ phDormant)) ∧
  ((MailboxReady svC (Via.head 0))) := by
  and_intros <;> (try dsimp only [MailboxReady]) <;> decide +kernel

theorem witness_TriggersAndInput :
  ((0 < 2) ∧ ((sa 6).serving = true)) ∧
  ((0 < 2) ∧ ((sa 1).phase = phBringup) ∧ ((sa 1).rd F.PW_STATE_SEQ = 0)) ∧
  ((1 < 2) ∧ ((regs (sa 1) [(F.PW_STATE_SEQ, 0, 1)]).phase = phBringup) ∧ ((regs (sa 1) [(F.PW_STATE_SEQ, 0, 1)]).rd F.PW_STATE_SEQ = 1)) ∧
  ((1 < 2) ∧ ((regs (sa 1) [(F.PW_STATE_SEQ, 0, 3), (F.PW_STATE_ONPEND, 0, 1)]).phase = phBringup) ∧ ((regs (sa 1) [(F.PW_STATE_SEQ, 0, 3),
    (F.PW_STATE_ONPEND, 0, 1)]).rd F.PW_STATE_SEQ = 3)) ∧
  ((1 < 2) ∧ ((sa 3).phase = phSave)) ∧
  (((sa 2).serving = true) ∧ ((sa 2).ledSafe ≠ 1)) ∧
  ((saL.serving = true) ∧ (saL.ledSafe = 1)) ∧
  (((sa 2).serving = true)) ∧
  (((sa 0).phase = phOff)) ∧
  (((sa 5).phase = phDormant)) ∧
  (((sa 4).phase = phLinger)) ∧
  (((sa 3).phase = phSave)) ∧
  (((sa 5).phase = phDormant) ∧ ((sa 5).flag F.PW_VIN_OK = true)) ∧
  (((regs (sa 5) [(F.PW_VIN_OK, 0, 0)]).phase = phDormant) ∧ ((regs (sa 5) [(F.PW_VIN_OK, 0, 0)]).flag F.PW_VIN_OK = false)) ∧
  (((sa 2).phase = phService)) ∧
  ((1 < 2) ∧ ((sa 1).phase = phBringup) ∧ ((sa 1).rd F.PW_STATE_SEQ = 0)) ∧
  ((1 < 2) ∧ ((regs (sa 1) [(F.PW_STATE_SEQ, 0, 1)]).phase = phBringup) ∧ ((regs (sa 1) [(F.PW_STATE_SEQ, 0, 1)]).rd F.PW_STATE_SEQ = 1)) ∧
  ((1 < 2) ∧ ((regs (sa 1) [(F.PW_STATE_SEQ, 0, 3)]).phase = phBringup) ∧ ((regs (sa 1) [(F.PW_STATE_SEQ, 0, 3)]).rd F.PW_STATE_SEQ = 3)) := by
  and_intros <;> decide +kernel

theorem witness_SoftwareResets :
  (((sa 2).phase ≠ phOff) ∧ ((sa 2).phase ≠ phDormant) ∧ (natField (165 * 2 ^ 56 + 1) 56 8 = 165) ∧ (natBit (165 * 2 ^ 56 + 1) 0 = true) ∧ (false =
    false ∨ natBit ((sa 2).rd F.TWB_SB_WRMASK) 0 = true)) ∧
  (((sa 2).phase ≠ phOff) ∧ ((sa 2).phase ≠ phDormant) ∧ (natField (165 * 2 ^ 56) 56 8 ≠ 165 ∨ natBit (165 * 2 ^ 56) 0 = false)) ∧
  (((sa 3).phase = phSave) ∧ ((sa 3).flag F.SPN_SAVE_DEFER = false)) ∧
  ((MailboxReady (sa 2) (Via.head 0))) ∧
  ((saN.phase ≠ phOff) ∧ (saN.phase ≠ phDormant) ∧ (dg.length = 16) ∧ (natField (joinBytes dg) 0 32 = 1381192772) ∧ (natField (joinBytes dg) 32 32 =
    0) ∧ (natField (joinBytes dg) 64 64 = saN.rd F.GEN_SERIAL_SERIAL) ∧ (saN.pan.ethUp = true) ∧ (saN.flag F.GEN_CFG_NETRST = true)) ∧
  (((regs saN [(F.GEN_CFG_NETRST, 0, 0)]).phase ≠ phOff) ∧ ((regs saN [(F.GEN_CFG_NETRST, 0, 0)]).phase ≠ phDormant) ∧ (dg.length = 16) ∧ (natField
    (joinBytes dg) 0 32 = 1381192772) ∧ (natField (joinBytes dg) 32 32 = 0) ∧ (natField (joinBytes dg) 64 64 = (regs saN [(F.GEN_CFG_NETRST, 0,
    0)]).rd F.GEN_SERIAL_SERIAL) ∧ ((regs saN [(F.GEN_CFG_NETRST, 0, 0)]).pan.ethUp = true) ∧ ((regs saN [(F.GEN_CFG_NETRST, 0, 0)]).flag
    F.GEN_CFG_NETRST = false)) ∧
  ((saD.phase = phDormant) ∧ (saD.pw.onHeld = true)) ∧
  ((saB.phase = phBringup) ∧ (saB.mpRuns = false) ∧ (2 ≤ saB.pw.done)) := by
  and_intros <;> (try dsimp only [MailboxReady]) <;> decide +kernel

theorem witness_SaveCourse :
  (((sS false false).phase = phSave) ∧ ((sS false false).sv.started = false) ∧ ((sS false false).spRuns 1 = true)) ∧
  (((sSa 2).phase = phSave) ∧ ((sSa 2).im.anchorW = some (anc 2)) ∧ ((anc 2).kind ≠ 1)) ∧
  (((sS true false).phase = phSave) ∧ ((sS true false).sv.started = true) ∧ ((sS true false).sv.closing = false) ∧ ((sS true false).sv.cut = false)
    ∧ (max ((sS true false).sv.rs * 3 / 4) ((sS true false).sv.rcap / 16) < (sS true false).sv.rs)) ∧
  (((sS true false).phase = phSave) ∧ ((sS true false).sv.started = true) ∧ ((sS true false).sv.closing = false) ∧ ((sS true false).im.anchorW =
    none)) ∧
  ((sSc.phase = phSave) ∧ (sSc.sv.cut = true) ∧ (sSc.sv.closing = false) ∧ (sSc.im.anchorW = none) ∧ ((sSc.im.flight.any fun k => k.ty == 1) =
    false)) ∧
  (((sS true false).phase = phSave) ∧ ((sS true false).pw.resetLow = true) ∧ ((sS true false).sv.empty = false) ∧ ((sS true false).sv.started =
    true) ∧ ((sS true false).sv.closing = false ∨ (sS true false).sv.result ≠ 3)) ∧
  (((sSa 2).phase = phSave)) ∧
  (((sa 4).phase = phLinger)) := by
  and_intros <;> decide +kernel

theorem witness_AdmissionAndRestore :
  ((ad.mpRuns = true) ∧ (ad.phase = phBringup ∨ ad.serving = true) ∧ (ad.admitted = false) ∧ (ad.flag F.GEN_ADMIT_FIRST = false) ∧ (ad.unmet = 0) ∧
    (ad.im.imageId = some (5, true))) ∧
  ((ad0.mpRuns = true) ∧ (ad0.phase = phBringup ∨ ad0.serving = true) ∧ (ad0.admitted = false) ∧ (ad0.flag F.GEN_ADMIT_FIRST = false) ∧ (ad0.unmet =
    0) ∧ (ad0.im.imageId = none)) ∧
  ((adU.mpRuns = true) ∧ (adU.phase = phBringup ∨ adU.serving = true) ∧ (adU.admitted = false) ∧ (adU.flag F.GEN_ADMIT_FIRST = false) ∧ (adU.unmet ≠
    0) ∧ (adU.pan.blocked = true)) ∧
  ((adF.flag F.GEN_ADMIT_FIRST = true) ∧ (adF.phase ≠ phSave) ∧ (adF.im.anchorW = some (anc 1))) ∧
  ((adP.phase = phBringup) ∧ (adP.rd F.SPN_RST_STAGE = 1) ∧ (adP.rs.imageDone = false) ∧ (adP.spRuns 1 = true)) ∧
  ((rdE.im.skeins.find 7 = some (sk 7 1)) ∧ (rdE.restoring = true) ∧ (rdE.spRuns 1 = true) ∧ ((sk 7 1).ty = 1) ∧ (rdE.eagerDue (sk 7 1) 0 = true)) ∧
  (((rd 6).rs.fetches.find 9 = some ft0) ∧ ((ft0.sent || ft0.atOnce) = true) ∧ ((rd 6).serving = true) ∧ ((rd 6).rmapOf 9 ≠ 1)) ∧
  ((rdS.rs.fetches.find 9 = some ft0) ∧ ((ft0.sent || ft0.atOnce) = true) ∧ (rdS.serving = true) ∧ (rdS.rmapOf 9 = 1) ∧ (rdS.slotOf 9 = none)) ∧
  ((rdL.rs.fetches.find 1 = some ft1) ∧ ((ft1.sent || ft1.atOnce) = true) ∧ (rdL.serving = true) ∧ (rdL.rmapOf 1 = 1) ∧ (rdL.slotOf 1 = some (sk 7
    1, 0, slot1)) ∧ (rdL.isListed 1 = true)) ∧
  (((rd 6).rs.fetches.find 1 = some ft1) ∧ ((ft1.sent || ft1.atOnce) = true) ∧ ((rd 6).serving = true) ∧ ((rd 6).rmapOf 1 = 1) ∧ ((rd 6).slotOf 1 =
    some (sk 7 1, 0, slot1)) ∧ ((rd 6).isListed 1 = false) ∧ (((rd 6).begin.fetchRead ft1.atOnce (sk 7 1) (0 / 4) (List.range 80) [4]).snd = true)) ∧
  (((rd 6).rs.fetches.find 1 = some ft1) ∧ ((ft1.sent || ft1.atOnce) = true) ∧ ((rd 6).serving = true) ∧ ((rd 6).rmapOf 1 = 1) ∧ ((rd 6).slotOf 1 =
    some (sk 7 1, 0, slot1)) ∧ ((rd 6).isListed 1 = false) ∧ (((rd 6).begin.fetchRead ft1.atOnce (sk 7 1) (0 / 4) (List.range 80) [4, 5, 6, 7,
    8]).snd = false)) := by
  and_intros <;> decide +kernel

theorem witness_Sealing :
  ((AdminReady (seM 1 se) 0) ∧ ((seM 1 se).shDefined 0 = true) ∧ ((seM 1 se).phase = phService) ∧ ((seM 1 se).changing 0 = false) ∧ ((seM 1
    se).removing = false) ∧ ((seM 1 se).shMode 0 = mdHeld) ∧ ((seM 1 se).shState 0 = shReady) ∧ ((seM 1 se).ticketsOn 0 = false)) ∧
  ((AdminReady (seM 5 seO) 0) ∧ ((seM 5 seO).shDefined 0 = true) ∧ ((seM 5 seO).phase = phService) ∧ ((seM 5 seO).changing 0 = false) ∧ ((seM 5
    seO).removing = false) ∧ ((seM 5 seO).shMode 0 = mdSealed) ∧ ((seM 5 seO).shState 0 = shReady ∨ (seM 5 seO).shState 0 = shLocked) ∧ ((seM 5
    seO).admitted = true) ∧ ((seM 5 seO).ownerSealed 0 = false)) ∧
  ((AdminReady (seM 5 se) 0) ∧ ((seM 5 se).shDefined 0 = true) ∧ ((seM 5 se).phase = phService) ∧ ((seM 5 se).changing 0 = false) ∧ ((seM 5
    se).removing = false) ∧ ((seM 5 se).shMode 0 = mdSealed) ∧ ((seM 5 se).shState 0 = shReady ∨ (seM 5 se).shState 0 = shLocked) ∧ ((seM 5
    se).admitted = true) ∧ ((seM 5 se).ownerSealed 0 = true) ∧ ((seM 5 se).flag F.SEC_STS_LOCKOUT = false) ∧ ((seM 5 se).sec.slots.find 5 = none)) ∧
  ((seG.sealing 0 = true) ∧ (seG.shDirty 0 = 0) ∧ (seG.sec.seals.find 0 = none)) := by
  and_intros <;> (try dsimp only [AdminReady]) <;> decide +kernel

theorem witness_KeysAndNonces :
  ((MailboxReady se (Via.head 0)) ∧ (se.ideOn (Via.head 0) = true) ∧ (se.flag F.SEC_STS_LOCKOUT = false) ∧ (15 < 16) ∧ (((List.range 64).all fun n
    => se.shState n != shLocked) = true)) ∧
  ((MailboxReady se (Via.mctp none)) ∧ (255 < 16 ∨ 255 = 255)) ∧
  ((MailboxReady se (Via.mctp none))) ∧
  ((MailboxReady se (Via.mctp none)) ∧ (se.flag F.SEC_STS_DRBGOK = true)) ∧
  ((se.viaOpen (Via.head 0) = true) ∧ (se.flag F.SEC_STS_DRBGOK = true)) ∧
  ((seN.sec.nonce = some (5, 0)) ∧ (0 + 300000000000 ≤ seN.ck.mono)) ∧
  ((MailboxReady se (Via.head 0)) ∧ (se.sec.owner = none) ∧ (se.ideOn (Via.head 0) = true)) ∧
  ((se.phase ≠ phOff) ∧ (se.phase ≠ phDormant) ∧ (se.flag F.SEC_STS_DRBGOK = true)) ∧
  (((regs se [(F.SEC_STS_DRBGOK, 0, 0)]).phase ≠ phOff) ∧ ((regs se [(F.SEC_STS_DRBGOK, 0, 0)]).phase ≠ phDormant) ∧ ((regs se [(F.SEC_STS_DRBGOK,
    0, 0)]).flag F.SEC_STS_DRBGOK = false)) ∧
  ((se.flag F.SEC_STS_DRBGOK = true)) ∧
  ((se.viaOpen (Via.head 0) = true) ∧ (se.mpRuns = true) ∧ (se.phase ≠ phRecovery) ∧ (doeAnswer DoeMsg.finish (se.head 0).spdm = none)) ∧
  ((se.viaOpen (Via.head 0) = true) ∧ (se.mpRuns = true) ∧ (se.phase ≠ phRecovery) ∧ (doeAnswer DoeMsg.getMeasurements (se.head 0).spdm = some (96,
    1)) ∧ (doeKeys DoeMsg.getMeasurements (se.head 0).ideKeys = (se.head 0).ideKeys)) := by
  and_intros <;> (try dsimp only [MailboxReady]) <;> decide +kernel

theorem witness_OwnerTokens :
  ((MailboxReady se (Via.head 0)) ∧ (se.sec.rejected < 16) ∧ (6 = 1 ∧ Instr.clearOwner (Via.head 0) (tok [0, 0]) = Instr.clearRecorder (Via.head 0)
    (tok [0, 0]) ∨ 6 = 2 ∧ Instr.clearOwner (Via.head 0) (tok [0, 0]) = Instr.discardImage (Via.head 0) (tok [0, 0]) ∨ 6 = 3 ∧ Instr.clearOwner
    (Via.head 0) (tok [0, 0]) = Instr.unlockDebug (Via.head 0) (tok [0, 0]) ∨ 6 = 4 ∧ Instr.clearOwner (Via.head 0) (tok [0, 0]) =
    Instr.tokenSanitize (Via.head 0) (tok [0, 0]) ∨ 6 = 5 ∧ Instr.clearOwner (Via.head 0) (tok [0, 0]) = Instr.replaceOwner (Via.head 0) (tok [0,
    0]) ∨ 6 = 6 ∧ Instr.clearOwner (Via.head 0) (tok [0, 0]) = Instr.clearOwner (Via.head 0) (tok [0, 0])) ∧ (se.tokenCheck 6 (tok [0, 0]) = 1)) ∧
  ((MailboxReady se (Via.mctp none)) ∧ (se.sec.rejected < 16) ∧ (6 = 1 ∧ Instr.clearOwner (Via.mctp none) (tok [0, 1]) = Instr.clearRecorder
    (Via.mctp none) (tok [0, 1]) ∨ 6 = 2 ∧ Instr.clearOwner (Via.mctp none) (tok [0, 1]) = Instr.discardImage (Via.mctp none) (tok [0, 1]) ∨ 6 = 3 ∧
    Instr.clearOwner (Via.mctp none) (tok [0, 1]) = Instr.unlockDebug (Via.mctp none) (tok [0, 1]) ∨ 6 = 4 ∧ Instr.clearOwner (Via.mctp none) (tok
    [0, 1]) = Instr.tokenSanitize (Via.mctp none) (tok [0, 1]) ∨ 6 = 5 ∧ Instr.clearOwner (Via.mctp none) (tok [0, 1]) = Instr.replaceOwner
    (Via.mctp none) (tok [0, 1]) ∨ 6 = 6 ∧ Instr.clearOwner (Via.mctp none) (tok [0, 1]) = Instr.clearOwner (Via.mctp none) (tok [0, 1])) ∧
    (se.tokenCheck 6 (tok [0, 1]) = 2)) ∧
  ((MailboxReady seT (Via.mctp none)) ∧ (seT.sec.sanitize = some (60000000000, bgKey (Via.mctp none))) ∧ (seT.ck.mono ≤ 60000000000) ∧ (seT.phase =
    phService)) ∧
  ((MailboxReady seS (Via.head 0)) ∧ (seS.sec.sanitize = some (60000000000, bgKey (Via.head 0))) ∧ (seS.ck.mono ≤ 60000000000) ∧ (seS.phase =
    phService)) ∧
  ((MailboxReady se (Via.head 0)) ∧ (se.sec.sanitize = none)) := by
  and_intros <;> (try dsimp only [MailboxReady]) <;> decide +kernel

theorem witness_TwineLinks :
  ((1 < 2) ∧ (8 = 4 ∨ 8 = 8 ∨ 8 = 16) ∧ (natBit ((tl 1 1 0).rd F.TW_CTL_EN) 1 = true) ∧ ((tl 1 1 0).serving = true) ∧ ((tl 1 1 0).flag
    F.GEN_PINS_PRSNT = false) ∧ ((tl 1 1 0).rdi F.TW_PORT_STATE 1 = 1) ∧ (3 ≠ 0)) ∧
  ((0 < 2) ∧ ((tl 3 1 0).rdi F.TW_PORT_STATE 0 = 3) ∧ (natBit (tl 3 1 0).tw.hello 0 = true) ∧ ((tl 3 1 0).flag F.SEC_STS_DRBGOK = true)) ∧
  ((0 < 2) ∧ ((tl 3 1 0).rdi F.TW_PORT_STATE 0 = 3) ∧ (natBit (tl 3 1 0).tw.hello 0 = true) ∧ (98 ≠ (tl 3 1 0).peerSerial 0)) ∧
  ((1 < 2) ∧ ((tl 3 3 3).rdi F.TW_PORT_STATE 1 = 3)) ∧
  ((0 < 2) ∧ ((tl 3 1 1).flagi F.TW_PORT_IDE 0 = true)) ∧
  ((0 < 2) ∧ ((tl 3 1 0).rdi F.TW_PORT_STATE 0 = 3)) ∧
  ((0 < 2) ∧ ((tl 3 3 0).rdi F.TW_PORT_STATE 0 = 3) ∧ (50 ≠ (tl 3 3 0).serial) ∧ ((tl 3 3 0).session = false)) ∧
  ((0 < 2) ∧ ((regs (tl 3 3 0) [(F.TW_PAIR_PERS, 0, 2)]).serving = true) ∧ ((regs (tl 3 3 0) [(F.TW_PAIR_PERS, 0, 2)]).spRuns 3 = true) ∧ ((regs (tl
    3 3 0) [(F.TW_PAIR_PERS, 0, 2)]).portReady 0 = true) ∧ ((regs (tl 3 3 0) [(F.TW_PAIR_PERS, 0, 2)]).session = false) ∧ ((regs (tl 3 3 0)
    [(F.TW_PAIR_PERS, 0, 2)]).rd F.TW_PAIR_PERS = 2)) ∧
  ((0 < 2) ∧ (tlO.serving = true) ∧ (tlO.spRuns 3 = true) ∧ (tlO.portReady 0 = true) ∧ (tlO.session = false) ∧ (tlO.tw.offered = some 6)) ∧
  ((0 < 2) ∧ ((tl 3 3 1).rd F.TW_PAIR_STATE = 1) ∧ ((tl 3 3 1).spRuns 3 = true)) ∧
  (((regs (tl 3 3 0) [(F.TW_PAIR_STATE, 0, 3)]).rd F.TW_PAIR_STATE = 3) ∧ ((regs (tl 3 3 0) [(F.TW_PAIR_STATE, 0, 3)]).spRuns 3 = true)) ∧
  ((tlNo3.rd F.TW_PAIR_STATE = 3) ∧ (tlNo3.spRuns 3 = false)) ∧
  ((tl0.rdi F.TW_PORT_STATE 0 = 3) ∧ (tl0.rdi F.TW_PORT_STATE 1 ≠ 3) ∧ (natBit tl0.tw.hello 0 = false)) := by
  and_intros <;> decide +kernel

theorem witness_TwineStream :
  (((tl 3 3 1).session = true)) ∧
  (((tl 3 3 3).session = true) ∧ ((tl 3 3 3).linkIn 0 = true)) ∧
  (((tl 3 3 3).session = true) ∧ ((tl 3 3 3).rd F.TW_ASEQ_VALUE < 7)) ∧
  ((tlR.session = true) ∧ (tlR.linkIn 0 = true) ∧ (tlR.flag F.MR_SLUICE_STALL = false) ∧ (tlR.creditsHeld 0 = false) ∧ (natBit tlR.tw.inLinks 0 =
    true)) ∧
  ((tlR.session = true) ∧ (tlR.linkIn 0 = true) ∧ (tlR.creditsHeld 0 = false) ∧ (natBit tlR.tw.inLinks 0 = true) ∧ (tlR.shDefined 0 = true) ∧
    (tlR.role 0 = 2) ∧ (List.find? (fun w => w.snd.twine && w.snd.seq == 9) tlR.walks = none) ∧ (tlR.freeWalk = some 0) ∧ (tlR.tw.relWait.find 9 =
    none)) ∧
  ((tlR.session = true) ∧ (tlR.spRuns 3 = true) ∧ (tlR.tw.reunited = false) ∧ (1 ≠ 0)) ∧
  ((tlR.session = true) ∧ (0 < 2) ∧ (tlR.spRuns 3 = true) ∧ (tlR.tw.inbox = []) ∧ (Instr.catchupEnd 0 9 0 = Instr.join 0 9 0 ∧ 37 = 34 ∧ [0] = [0] ∨
    Instr.catchupEnd 0 9 0 = Instr.unpair 0 9 0 ∧ 37 = 35 ∧ [0] = [0] ∨ Instr.catchupEnd 0 9 0 = Instr.catchupBegin 0 9 0 true ∧ 37 = 36 ∧ [0] = [0,
    bit01 true] ∨ Instr.catchupEnd 0 9 0 = Instr.catchupEnd 0 9 0 ∧ 37 = 37 ∧ [0] = [0]) ∧ (tlR.rd F.TW_PAIR_LINKS = 2 ^ 0)) ∧
  (((tl 3 3 3).session = true) ∧ (0 < 2) ∧ ((tl 3 3 3).spRuns 3 = true) ∧ ((tl 3 3 3).tw.inbox = []) ∧ (Instr.catchupBegin 0 9 0 true = Instr.join 0
    9 0 ∧ 36 = 34 ∧ [0, 1] = [0] ∨ Instr.catchupBegin 0 9 0 true = Instr.unpair 0 9 0 ∧ 36 = 35 ∧ [0, 1] = [0] ∨ Instr.catchupBegin 0 9 0 true =
    Instr.catchupBegin 0 9 0 true ∧ 36 = 36 ∧ [0, 1] = [0, bit01 true] ∨ Instr.catchupBegin 0 9 0 true = Instr.catchupEnd 0 9 0 ∧ 36 = 37 ∧ [0, 1] =
    [0]) ∧ ((tl 3 3 3).rd F.TW_PAIR_LINKS = 3)) ∧
  (((tl 3 3 3).session = true) ∧ (natBit (tl 3 3 3).tw.inLinks 1 = true)) ∧
  (((tl 3 3 1).tw.mapPrev = [])) := by
  and_intros <;> decide +kernel

theorem witness_TwinePairs :
  (((tl 3 3 1).session = true) ∧ ((tl 3 3 1).spRuns 3 = true)) ∧
  ((List.find? (fun d => d.pairid == 6 && d.via.isSome) tlD.tw.desigs = some dsg) ∧ (dsg.via = some (Via.head 0))) ∧
  ((MailboxReady (tl 3 3 0) (Via.head 0)) ∧ ((tl 3 3 0).spRuns 3 = true) ∧ ((tl 3 3 0).session = false)) ∧
  ((MailboxReady (tl 3 3 1) (Via.head 0)) ∧ ((tl 3 3 1).spRuns 3 = true) ∧ ((tl 3 3 1).session = true) ∧ ((tl 3 3 1).flag F.SEC_STS_DRBGOK = true)) ∧
  ((MailboxReady tlH (Via.head 0)) ∧ (tlH.spRuns 3 = true) ∧ (0 < 64) ∧ (tlH.pstate 0 = psHold) ∧ (tlH.session = true)) ∧
  ((MailboxReady tlH (Via.head 0))) ∧
  ((tlC.tw.copying = some (0, false)) ∧ (tlC.session = true) ∧ (tlC.pstate 0 = psCatchup) ∧ (tlC.tw.left = [])) ∧
  ((AdminReady tlNo3 0) ∧ (tlNo3.spRuns 3 = false)) ∧
  ((AdminReady (tlL 5 3) 0) ∧ ((tlL 5 3).spRuns 3 = true) ∧ ((tlL 5 3).shDefined 0 = true) ∧ ((tlL 5 3).phase = phService) ∧ ((tlL 5 3).changing 0 =
    false) ∧ ((tlL 5 3).removing = false) ∧ ((tlL 5 3).shMode 0 = mdReplica) ∧ ((tlL 5 3).pstate 0 = psLost ∨ (tlL 5 3).pstate 0 = psStale) ∧ ((tlL
    5 3).shState 0 = shReady ∨ (tlL 5 3).shState 0 = shHot)) := by
  and_intros <;> (try dsimp only [MailboxReady, AdminReady]) <;> decide +kernel

theorem witness_StepTakesTheFront :
  ((sv.pending = []) ∧ (sv.pw.down = none) ∧ (sv.mpWait = [])) ∧
  ((mpw.pending = []) ∧ (mpw.pw.down = none) ∧ (mpw.mpWait = [(0, Instr.getReadiness (Via.head 0), none)])) ∧
  ((dnS.pending = []) ∧ (dnS.pw.down.isSome = true)) := by
  and_intros <;> decide +kernel

theorem witness_ResetState :
  ((15 < 16) ∧ (7 < 8) ∧ (63 < 64)) := by
  decide +kernel

theorem witness_StepKeepsTheForm :
  ((Canonical sv) ∧ ((match step sv with | .next _ => true | _ => false) = true)) := by
  and_intros <;> (try dsimp only [Canonical]) <;> decide +kernel

end Sys2Proof.Tests
end

section
/-! PROOFS. Doorbell values a queue does not accept (R64): out of range, not ahead of the present tail, or past the entries posted. -/

namespace Sys2Proof.Machine

/-! ### What the operations under a doorbell do -/

/-- R369: a raising of an event code adds one to its COUNT, whether or not the buffer has room. -/
theorem event_count (s : State) (c : Nat) (l : List Nat) :
    (FMap.get {} (s.event c l).ev.sums c).count = (FMap.get {} s.ev.sums c).count + 1 := by
  unfold State.event
  dsimp only
  split
  case isTrue room => simp
  case isFalse full => simp

/-- A raising of an event code leaves every queue. -/
@[simp] theorem event_queue (s : State) (c : Nat) (l : List Nat) (q : Nat) : (s.event c l).queue q = s.queue q := by
  simp [State.queue]

/-- Discarding a held inline commit raises no event. -/
@[simp] theorem dropHeld_ev (s : State) (q : Nat) : (s.dropHeld q).ev = s.ev := by
  unfold State.dropHeld
  dsimp only
  split <;> rfl

/-- R60, R64: a queue moved to ERROR holds the reason; its other fields are those `dropHeld` leaves. -/
theorem queueError_queue_self (s : State) (q why : Nat) :
    (s.queueError q why).queue q = { (s.dropHeld q).queue q with state := 2, err := why } := by
  simp [State.queueError, State.setQueue_queue]

/-- R64: a queue moved to ERROR raises event 0x2101 once. -/
theorem queueError_count (s : State) (q why : Nat) :
    (FMap.get {} (s.queueError q why).ev.sums 0x2101).count = (FMap.get {} s.ev.sums 0x2101).count + 1 := by
  simp [State.queueError, event_count]

/-- R402: a count that was raised reads one more, up to the most its width holds. -/
theorem bumpi_rdi_self (s : State) (f : Field) (i : Nat) :
    (s.bumpi f i).rdi f i = min (s.rdi f i + 1) (2 ^ f.width - 1) := by
  have fits : min (s.rdi f i + 1) (2 ^ f.width - 1) < 2 ^ f.width := by
    have := Nat.two_pow_pos f.width
    omega
  simp only [State.bumpi, State.addi, State.wri_rdi_self, Nat.mod_eq_of_lt fits]

/-- The start of a command leaves everything a frame names. -/
theorem begin_leaves (s : State) : Leaves s s.begin [] := by
  simp [Leaves]

/-- Raising one count leaves everything a frame names but that count. -/
theorem bumpi_leaves (s : State) (f : Field) (i : Nat) : Leaves s (s.bumpi f i) [(f, i)] := by
  refine ⟨fun _ => rfl, rfl, rfl, rfl, rfl, rfl, fun g j other => ?_⟩
  exact State.wri_rdi_ne s _ (other (f, i) (List.mem_singleton_self _))

/-! ### The doorbells of an ACTIVE queue at its own head -/

section
variable {s : State} {h q : Nat} (present : s.headExists h = true) (up : s.headUp h = true) (owned : s.ownsQueue h q = true)
  (active : (s.queue q).state = 1)
include present up owned active

/-- R63, R64: the three answers to a tail written by the owner of an ACTIVE queue. -/
theorem exec_sqTailWrite_active (val : Nat) :
    exec (.sqTailWrite h q val) s = .next (
      if (s.queue q).depth ≤ val then s.begin.queueError q 1
      else if ((s.queue q).sqTail + (s.queue q).depth - (s.queue q).sqHead) % (s.queue q).depth <
          (val + (s.queue q).depth - (s.queue q).sqHead) % (s.queue q).depth
      then s.begin.setQueue q { s.queue q with sqTail := val }
      else s.begin) := by
  change execSqTailWrite h q val s = _
  unfold execSqTailWrite
  rw [doorbell_ready present up]
  simp [owned, active]

/-- R63, R64: the three answers to a completion head written by the owner of an ACTIVE queue. -/
theorem exec_cqHeadWrite_active (val : Nat) :
    exec (.cqHeadWrite h q val) s = .next (
      if (s.queue q).depth ≤ val then s.begin.queueError q 2
      else if (s.queue q).ring.length < (val + (s.queue q).depth - (s.queue q).cqHead) % (s.queue q).depth
      then s.begin.bumpi F.QUE_ERRC_STALE h
      else s.begin.setQueue q { s.queue q with
        cqHead := val, ring := (s.queue q).ring.drop ((val + (s.queue q).depth - (s.queue q).cqHead) % (s.queue q).depth) }) := by
  change execCqHeadWrite h q val s = _
  unfold execCqHeadWrite
  rw [doorbell_ready present up]
  simp [owned, active]

end

/-! ### The obligation -/

/-- What R64 says of a queue in ERROR for a doorbell value of the depth or more, at the start of a command. -/
theorem begin_queueError_state_err_count (s : State) (q why : Nat) :
    ((s.begin.queueError q why).queue q).state = 2 ∧ ((s.begin.queueError q why).queue q).err = why ∧
      (FMap.get {} (s.begin.queueError q why).ev.sums 0x2101).count = (FMap.get {} s.ev.sums 0x2101).count + 1 := by
  refine ⟨?state, ?err, queueError_count s.begin q why⟩
  case state => rw [queueError_queue_self]
  case err => rw [queueError_queue_self]

/-- Settles O9: each clause is one of the three answers of `exec_sqTailWrite_active` or of `exec_cqHeadWrite_active`. -/
theorem badDoorbells : Obligations.BadDoorbells := by
  intro s h q val present up owned active
  have tail := exec_sqTailWrite_active present up owned active val
  have head := exec_cqHeadWrite_active present up owned active val
  refine ⟨fun past => ⟨?badTail, ?badHead⟩, fun inRange behind => ?staleTail, fun inRange backward => ?staleHead⟩
  case badTail =>
    rw [if_pos past] at tail
    exact ⟨_, tail, begin_queueError_state_err_count s q 1⟩
  case badHead =>
    rw [if_pos past] at head
    exact ⟨_, head, begin_queueError_state_err_count s q 2⟩
  case staleTail =>
    rw [if_neg (Nat.not_le.mpr inRange), if_neg (Nat.not_lt.mpr behind)] at tail
    exact ⟨_, tail, fun _ => rfl, rfl, rfl, begin_leaves s⟩
  case staleHead =>
    rw [if_neg (Nat.not_le.mpr inRange), if_pos backward] at head
    refine ⟨_, head, fun _ => rfl, rfl, ?count, bumpi_leaves s.begin F.QUE_ERRC_STALE h⟩
    rw [bumpi_rdi_self, State.begin_rdi]

end Sys2Proof.Machine
end

section
/-! PROOFS. Get Time Status (R306, R308): the six clock registers of one instant, answered through a ready mailbox. -/

namespace Sys2Proof.Machine

/-- R306: through a ready mailbox Get Time Status answers Success with the clock registers of the state the command found, and nothing else
happens. -/
theorem exec_getTimeStatus_ready {s : State} {v : Via} (ready : MailboxReady s v) :
    exec (.getTimeStatus v) s = .next (s.begin.reply v .success s.clockWords) := by
  change execGetTimeStatus v s = _
  unfold execGetTimeStatus
  rw [mbox_ready ready, State.begin_clockWords]

/-- A field that begins at bit 0 of its register contributes its own value to the register's word. -/
theorem rd_mul_two_pow_lo_of_lo_eq_zero (s : State) {f : Field} (lowest : f.lo = 0) : s.rd f * 2 ^ f.lo = s.rd f := by
  rw [lowest, Nat.pow_zero, Nat.mul_one]

/-- Settles O31: the answer is `State.clockWords`. Its places are R308's, which the field table holds; UNC and OFFSET begin at bit 0. -/
theorem timeStatus : Obligations.TimeStatus := by
  intro s v ready sts tfrac unc servo trim
  have uncPlace := rd_mul_two_pow_lo_of_lo_eq_zero s (f := F.CK_UNC_UNC) rfl
  have offsetPlace := rd_mul_two_pow_lo_of_lo_eq_zero s (f := F.CK_SERVO_OFFSET) rfl
  have words : s.clockWords = [sts, s.ck.ns % 2 ^ 64, tfrac, unc, servo, trim] := by
    unfold State.clockWords
    dsimp only
    rw [uncPlace, offsetPlace]
    rfl
  rw [exec_getTimeStatus_ready ready, words]

end Sys2Proof.Machine
end

section
/-! PROOFS. The machine as a whole: every command answers a next state, and a step keeps the byte memories canonical and takes exactly the front
of the queue. -/

namespace Sys2Proof.Machine

/-! ### Command by command -/

/-- Every command answers a next state. -/
theorem nexts_exec : ∀ (c : Instr) (s : State), Nexts (exec c s)
  | .serviceInputValid ticks, s => next_execServiceInputValid ticks s
  | .wakeNFall ticks, s => next_execWakeNFall ticks s
  | .energyGone, s => next_execEnergyGone s
  | .comparatorTrip b ticks, s => next_execComparatorTrip b ticks s
  | .latchOpen ticks, s => next_execLatchOpen ticks s
  | .resetNAssert ticks, s => next_execResetNAssert ticks s
  | .resetNRelease ticks, s => next_execResetNRelease ticks s
  | .genRstWrite sb val ticks, s => next_execGenRstWrite sb val ticks s
  | .resetDevice v, s => next_execResetDevice v s
  | .resetDatagram payload, s => next_execResetDatagram payload s
  | .forcedAbort commits, s => next_execForcedAbort commits s
  | .saveStartRecord, s => next_execSaveStartRecord s
  | .manifestClosed flips, s => next_execManifestClosed flips s
  | .saveBusWarning mv, s => next_execSaveBusWarning mv s
  | .saveBusLow mv, s => next_execSaveBusLow mv s
  | .truncatedManifestClose, s => next_execTruncatedManifestClose s
  | .energyFail, s => next_execEnergyFail s
  | .lingerTimerExpiry, s => next_execLingerTimerExpiry s
  | .lingerEnergyLimit, s => next_execLingerEnergyLimit s
  | .railPowerGood slot mv, s => next_execRailPowerGood slot mv s
  | .railFault slot kind, s => next_execRailFault slot kind s
  | .railWarning slot kind reading, s => next_execRailWarning slot kind reading s
  | .offWaitExpiry ticks, s => next_execOffWaitExpiry ticks s
  | .pmbusStatusPoll status tele, s => next_execPmbusStatusPoll status tele s
  | .lbAlert slot status, s => next_execLbAlert slot status s
  | .holdupMeasurement tm packHigh, s => next_execHoldupMeasurement tm packHigh s
  | .standbyEntry, s => next_execStandbyEntry s
  | .opChangeComplete mv, s => next_execOpChangeComplete mv s
  | .temperatureSample readings, s => next_execTemperatureSample readings s
  | .getSnapshot v idx, s => next_execGetSnapshot v idx s
  | .readRails v, s => next_execReadRails v s
  | .lockstepMismatch pc, s => next_execLockstepMismatch pc s
  | .spWatchdogExpiry n, s => next_execSpWatchdogExpiry n s
  | .mpWatchdogExpiry, s => next_execMpWatchdogExpiry s
  | .sramUncorrectable p, s => next_execSramUncorrectable p s
  | .executeFault p addr, s => next_execExecuteFault p addr s
  | .spReloadComplete n storeOk, s => next_execSpReloadComplete n storeOk s
  | .mpRestartComplete, s => next_execMpRestartComplete s
  | .trialConfirmTimeout, s => next_execTrialConfirmTimeout s
  | .clockCheckRetry ref, s => next_execClockCheckRetry ref s
  | .boscStartCheckPass lfo, s => next_execBoscStartCheckPass lfo s
  | .boscMonitorTrip test, s => next_execBoscMonitorTrip test s
  | .refclkMonitorTrip test, s => next_execRefclkMonitorTrip test s
  | .refclkReturn, s => next_execRefclkReturn s
  | .boscReturn, s => next_execBoscReturn s
  | .pllLockLoss p, s => next_execPllLockLoss p s
  | .lfoMonitorTrip, s => next_execLfoMonitorTrip s
  | .aoscMonitorTrip, s => next_execAoscMonitorTrip s
  | .ptpSync off freq logInt ticks, s => next_execPtpSync off freq logInt ticks s
  | .ptpAnnounce id rank utcOff, s => next_execPtpAnnounce id rank utcOff s
  | .announceTimeout, s => next_execAnnounceTimeout s
  | .ptmRequest enabled freq, s => next_execPtmRequest enabled freq s
  | .compatibilityTrim spread change period, s => next_execCompatibilityTrim spread change period s
  | .lfoTrim trim, s => next_execLfoTrim trim s
  | .ckSetWrite utc, s => next_execCkSetWrite utc s
  | .ckTimeRead, s => next_execCkTimeRead s
  | .ckPtpWrite val, s => next_execCkPtpWrite val s
  | .ckCmonWrite val, s => next_execCkCmonWrite val s
  | .ppsPulse, s => next_execPpsPulse s
  | .alarmFired ticks, s => next_execAlarmFired ticks s
  | .getTimeStatus v, s => next_execGetTimeStatus v s
  | .hostWrite h hpa data be poison, s => next_execHostWrite h hpa data be poison s
  | .hostRead h hpa wait err, s => next_execHostRead h hpa wait err s
  | .headLinkUp h width rate flit256, s => next_execHeadLinkUp h width rate flit256 s
  | .linkRecovery h replays enters, s => next_execLinkRecovery h replays enters s
  | .linkDownTimeout h, s => next_execLinkDownTimeout h s
  | .surpriseLinkDown h, s => next_execSurpriseLinkDown h s
  | .ideIntegrityFailure h, s => next_execIdeIntegrityFailure h s
  | .viral h, s => next_execViral h s
  | .hpPerstAssert h, s => next_execHpPerstAssert h s
  | .hpPerstRelease h, s => next_execHpPerstRelease h s
  | .headFlr h, s => next_execHeadFlr h s
  | .gpfPhase1 h, s => next_execGpfPhase1 h s
  | .gpfPhase2 h, s => next_execGpfPhase2 h s
  | .identifyMemoryDevice v, s => next_execIdentifyMemoryDevice v s
  | .getPartitionInfo v, s => next_execGetPartitionInfo v s
  | .setPartitionInfo v, s => next_execSetPartitionInfo v s
  | .getLsa v off len, s => next_execGetLsa v off len s
  | .setLsa v off data, s => next_execSetLsa v off data s
  | .getHealthInfo v, s => next_execGetHealthInfo v s
  | .getAlertConfiguration v, s => next_execGetAlertConfiguration v s
  | .setAlertConfiguration v life tempHigh tempLow, s => next_execSetAlertConfiguration v life tempHigh tempLow s
  | .getShutdownState v, s => next_execGetShutdownState v s
  | .setShutdownState v dirty, s => next_execSetShutdownState v dirty s
  | .getPoisonList v dpa len max, s => next_execGetPoisonList v dpa len max s
  | .injectPoison v dpa, s => next_execInjectPoison v dpa s
  | .clearPoison v dpa data, s => next_execClearPoison v dpa data s
  | .getScanMediaCapabilities v dpa len, s => next_execGetScanMediaCapabilities v dpa len s
  | .scanMedia v dpa len, s => next_execScanMedia v dpa len s
  | .getScanMediaResults v, s => next_execGetScanMediaResults v s
  | .sanitize v, s => next_execSanitize v s
  | .secureErase v, s => next_execSecureErase v s
  | .headRetrain v h rate, s => next_execHeadRetrain v h rate s
  | .hpCtlRetrain h val, s => next_execHpCtlRetrain h val s
  | .getHeadCounters v, s => next_execGetHeadCounters v s
  | .getEventRecords v log max, s => next_execGetEventRecords v log max s
  | .clearEventRecords v log all handles, s => next_execClearEventRecords v log all handles s
  | .getEventInterruptPolicy v, s => next_execGetEventInterruptPolicy v s
  | .setEventInterruptPolicy v settings, s => next_execSetEventInterruptPolicy v settings s
  | .getFwInfo v, s => next_execGetFwInfo v s
  | .transferFw v action slot off len hdr, s => next_execTransferFw v action slot off len hdr s
  | .activateFw v online slot, s => next_execActivateFw v online slot s
  | .getTimestamp v, s => next_execGetTimestamp v s
  | .setTimestamp v utc, s => next_execSetTimestamp v utc s
  | .getSupportedLogs v, s => next_execGetSupportedLogs v s
  | .getLog v uuid off len, s => next_execGetLog v uuid off len s
  | .sqTailWrite h q val, s => next_execSqTailWrite h q val s
  | .cqHeadWrite h q val, s => next_execCqHeadWrite h q val s
  | .inlTagWrite h q val, s => next_execInlTagWrite h q val s
  | .inlCmdWrite h q tag val, s => next_execInlCmdWrite h q tag val s
  | .inlineCommitRelease q, s => next_execInlineCommitRelease q s
  | .descriptorFetch q ds fail, s => next_execDescriptorFetch q ds fail s
  | .queActlWrite h val, s => next_execQueActlWrite h val s
  | .interruptAggregationTimeout q, s => next_execInterruptAggregationTimeout q s
  | .commit q tag share level off len u, s => next_execCommit q tag share level off len u s
  | .fence q tag b u, s => next_execFence q tag b u s
  | .release q tag share off len u, s => next_execRelease q tag share off len u s
  | .releaseCapture q seq, s => next_execReleaseCapture q seq s
  | .releaseWalkEnd r, s => next_execReleaseWalkEnd r s
  | .probe q tag share off len u, s => next_execProbe q tag share off len u s
  | .queueCreate h tag qid sqb cqb cfg, s => next_execQueueCreate h tag qid sqb cqb cfg s
  | .queueDelete h tag qid, s => next_execQueueDelete h tag qid s
  | .reportRead h tag kind first buf len, s => next_execReportRead h tag kind first buf len s
  | .shareCreate h tag n base size cfg grants peer, s => next_execShareCreate h tag n base size cfg grants peer s
  | .shareMode h tag n target peer, s => next_execShareMode h tag n target peer s
  | .fullSyncCommit n, s => next_execFullSyncCommit n s
  | .promote h tag n, s => next_execPromote h tag n s
  | .shareSeal h tag n owner, s => next_execShareSeal h tag n owner s
  | .sealCommit n, s => next_execSealCommit n s
  | .shareUnseal h tag n slot, s => next_execShareUnseal h tag n slot s
  | .shareDelete h tag n, s => next_execShareDelete h tag n s
  | .shareSet h tag n flags cfg grants, s => next_execShareSet h tag n flags cfg grants s
  | .shrCfgEnWrite n val, s => next_execShrCfgEnWrite n val s
  | .testStart h tag cls unit disrupt, s => next_execTestStart h tag cls unit disrupt s
  | .testBegin which, s => next_execTestBegin which s
  | .testStatus h tag n, s => next_execTestStatus h tag n s
  | .testAbort h tag n, s => next_execTestAbort h tag n s
  | .packTest h tag bay depth power, s => next_execPackTest h tag bay depth power s
  | .packPause h tag bay cancel, s => next_execPackPause h tag bay cancel s
  | .packStatus h tag bay, s => next_execPackStatus h tag bay s
  | .packRelease h tag bay undo, s => next_execPackRelease h tag bay undo s
  | .fwStage h tag addr len off last hdr, s => next_execFwStage h tag addr len off last hdr s
  | .fwActivate h tag online, s => next_execFwActivate h tag online s
  | .fwStatus h tag, s => next_execFwStatus h tag s
  | .spReload h tag n, s => next_execSpReload h tag n s
  | .mpRestart h tag, s => next_execMpRestart h tag s
  | .skeinStart bad, s => next_execSkeinStart bad s
  | .partialSkeinTimeout, s => next_execPartialSkeinTimeout s
  | .skeinCommit gen, s => next_execSkeinCommit gen s
  | .weirCandidate, s => next_execWeirCandidate s
  | .bucketFill, s => next_execBucketFill s
  | .ageSweep, s => next_execAgeSweep s
  | .mrMarksWrite val, s => next_execMrMarksWrite val s
  | .bucketRecordWrite, s => next_execBucketRecordWrite s
  | .journalFlushTimeout, s => next_execJournalFlushTimeout s
  | .recordSkeinCommit gen, s => next_execRecordSkeinCommit gen s
  | .indexSegmentCommit, s => next_execIndexSegmentCommit s
  | .anchorReadback flips, s => next_execAnchorReadback flips s
  | .firstAdmissionComplete flips, s => next_execFirstAdmissionComplete flips s
  | .admissionEvaluate, s => next_execAdmissionEvaluate s
  | .preparationComplete bad lost, s => next_execPreparationComplete bad lost s
  | .eagerReadComplete gen strand reads others bad, s => next_execEagerReadComplete gen strand reads others bad s
  | .demandFetchComplete u flips others bad us, s => next_execDemandFetchComplete u flips others bad us s
  | .memoryTrainingComplete rate cap ranks good, s => next_execMemoryTrainingComplete rate cap ranks good s
  | .memoryLinkError c cause tries retrained, s => next_execMemoryLinkError c cause tries retrained s
  | .patrolScrub found reserve, s => next_execPatrolScrub found reserve s
  | .healComplete u flips others bad, s => next_execHealComplete u flips others bad s
  | .rankSpareCopyEnd, s => next_execRankSpareCopyEnd s
  | .sparePointerCheckpoint ptr, s => next_execSparePointerCheckpoint ptr s
  | .moduleTemperaturePoll temps, s => next_execModuleTemperaturePoll temps s
  | .translateAddress v dpa, s => next_execTranslateAddress v dpa s
  | .spareRank v c r, s => next_execSpareRank v c r s
  | .getMemoryErrors v c, s => next_execGetMemoryErrors v c s
  | .flashTrainingComplete c rate dies failed found, s => next_execFlashTrainingComplete c rate dies failed found s
  | .zqCalibration t, s => next_execZqCalibration t s
  | .commandTimeout t op b gen resetDone, s => next_execCommandTimeout t op b gen resetDone s
  | .strandProgramFail gen strand, s => next_execStrandProgramFail gen strand s
  | .blockEraseComplete b ok zeros, s => next_execBlockEraseComplete b ok zeros s
  | .sealVerify b flips, s => next_execSealVerify b flips s
  | .eraseResume t, s => next_execEraseResume t s
  | .readCalibration t bin counts, s => next_execReadCalibration t bin counts s
  | .reskeinStart, s => next_execReskeinStart s
  | .reskeinRelocateEnd, s => next_execReskeinRelocateEnd s
  | .reskeinCheckpointWrite, s => next_execReskeinCheckpointWrite s
  | .getFlashTarget v t, s => next_execGetFlashTarget v t s
  | .flashDiagnosticRead v t b page mode off flips, s => next_execFlashDiagnosticRead v t b page mode off flips s
  | .retireTarget v t, s => next_execRetireTarget v t s
  | .getReskeinStatus v, s => next_execGetReskeinStatus v s
  | .twineLinkUp p width rate flit, s => next_execTwineLinkUp p width rate flit s
  | .twineIdeActive p serial, s => next_execTwineIdeActive p serial s
  | .twineLinkDown p, s => next_execTwineLinkDown p s
  | .twineIdeFail p, s => next_execTwineIdeFail p s
  | .lossTimeout, s => next_execLossTimeout s
  | .helloInterval, s => next_execHelloInterval s
  | .hello p serial seen, s => next_execHello p serial seen s
  | .session p n confirm, s => next_execSession p n confirm s
  | .state share partner role pstate lossrep last incons pairid, s => next_execState share partner role pstate lossrep last incons pairid s
  | .linkJoin p seq, s => next_execLinkJoin p seq s
  | .markInterval n0 n1, s => next_execMarkInterval n0 n1 s
  | .mark p seq, s => next_execMark p seq s
  | .ack prefix_ session, s => next_execAck prefix_ session s
  | .replicaWrite p share off lines, s => next_execReplicaWrite p share off lines s
  | .releaseMessage p seq share units first, s => next_execReleaseMessage p seq share units first s
  | .saving p, s => next_execSaving p s
  | .designate share peer pairid base size, s => next_execDesignate share peer pairid base size s
  | .designateResp pairid status, s => next_execDesignateResp pairid status s
  | .join p seq share, s => next_execJoin p seq share s
  | .unpair p seq share, s => next_execUnpair p seq share s
  | .catchupBegin p seq share full, s => next_execCatchupBegin p seq share full s
  | .catchupEnd p seq share, s => next_execCatchupEnd p seq share s
  | .twinMapSwap, s => next_execTwinMapSwap s
  | .designateReplica v share base size, s => next_execDesignateReplica v share base size s
  | .resumeShare v share full, s => next_execResumeShare v share full s
  | .getTwineStatus v, s => next_execGetTwineStatus v s
  | .packPresentDebounce bay ticks, s => next_execPackPresentDebounce bay ticks s
  | .packIdentified bay id volt, s => next_execPackIdentified bay id volt s
  | .identTimeout bay, s => next_execIdentTimeout bay s
  | .packRemoved bay ticks, s => next_execPackRemoved bay ticks s
  | .estimatorUpdate a b, s => next_execEstimatorUpdate a b s
  | .sbsPoll bay ans, s => next_execSbsPoll bay ans s
  | .prechargeComplete bay volt, s => next_execPrechargeComplete bay volt s
  | .prechargeTimeout bay, s => next_execPrechargeTimeout bay s
  | .chargeComplete bay, s => next_execChargeComplete bay s
  | .floatDrop bay, s => next_execFloatDrop bay s
  | .pauseAttempt bay, s => next_execPauseAttempt bay s
  | .pauseComplete bay volt, s => next_execPauseComplete bay volt s
  | .pauseAbort bay, s => next_execPauseAbort bay s
  | .testDischargeEnd bay dv di, s => next_execTestDischargeEnd bay dv di s
  | .inhibitClear bay, s => next_execInhibitClear bay s
  | .referenceAge7Days bay, s => next_execReferenceAge7Days bay s
  | .getPackProfile v sel, s => next_execGetPackProfile v sel s
  | .sbSetPointer off pec, s => next_execSbSetPointer off pec s
  | .sbRegRead late, s => next_execSbRegRead late s
  | .sbRegWrite off val pec stop, s => next_execSbRegWrite off val pec stop s
  | .sbReadStatus, s => next_execSbReadStatus s
  | .mctpPacket dst src seq tag som eom pec body, s => next_execMctpPacket dst src seq tag som eom pec body s
  | .setEndpointId eid, s => next_execSetEndpointId eid s
  | .getEndpointId, s => next_execGetEndpointId s
  | .getEndpointUuid, s => next_execGetEndpointUuid s
  | .getMctpVersionSupport ty, s => next_execGetMctpVersionSupport ty s
  | .getMessageTypeSupport, s => next_execGetMessageTypeSupport s
  | .alertResponse lost, s => next_execAlertResponse lost s
  | .sbRepeatedStart, s => next_execSbRepeatedStart s
  | .sbTargetTimeout cmd, s => next_execSbTargetTimeout cmd s
  | .controllerTimeout seg target sdaLow, s => next_execControllerTimeout seg target sdaLow s
  | .arbitrationLoss seg target stop, s => next_execArbitrationLoss seg target stop s
  | .arbitrationBackoffExpiry seg, s => next_execArbitrationBackoffExpiry seg s
  | .nackRetry seg target, s => next_execNackRetry seg target s
  | .sdaStuck seg, s => next_execSdaStuck seg s
  | .busRecoveryRetry seg pulses, s => next_execBusRecoveryRetry seg pulses s
  | .alarmWarningReceived seg, s => next_execAlarmWarningReceived seg s
  | .getBootStatus v, s => next_execGetBootStatus v s
  | .requestRecovery v, s => next_execRequestRecovery v s
  | .fwCtlRecreq val, s => next_execFwCtlRecreq val s
  | .confirmFirmware v, s => next_execConfirmFirmware v s
  | .tftpBlock n len hdr, s => next_execTftpBlock n len hdr s
  | .tftpRetransmit, s => next_execTftpRetransmit s
  | .recoveryImageReceived xport hdr, s => next_execRecoveryImageReceived xport hdr s
  | .loadKeyShare v slot key, s => next_execLoadKeyShare v slot key s
  | .clearKeyShare v slot, s => next_execClearKeyShare v slot s
  | .getNonce v, s => next_execGetNonce v s
  | .secNonceRead h, s => next_execSecNonceRead h s
  | .nonceExpiry, s => next_execNonceExpiry s
  | .enrolOwner v key, s => next_execEnrolOwner v key s
  | .getSecurityStatus v, s => next_execGetSecurityStatus v s
  | .clearRecorder v t, s => next_execClearRecorder v t s
  | .discardImage v t, s => next_execDiscardImage v t s
  | .unlockDebug v t, s => next_execUnlockDebug v t s
  | .tokenSanitize v t, s => next_execTokenSanitize v t s
  | .replaceOwner v t, s => next_execReplaceOwner v t s
  | .clearOwner v t, s => next_execClearOwner v t s
  | .drbgHealthFailure test, s => next_execDrbgHealthFailure test s
  | .drbgRetry ok, s => next_execDrbgRetry ok s
  | .drbgReseed, s => next_execDrbgReseed s
  | .occurrenceProcess, s => next_execOccurrenceProcess s
  | .recorderCheckpoint, s => next_execRecorderCheckpoint s
  | .deviceLimitEpisodeEnd, s => next_execDeviceLimitEpisodeEnd s
  | .evS0Read, s => next_execEvS0Read s
  | .evLselWrite val, s => next_execEvLselWrite val s
  | .logEntryFetchComplete, s => next_execLogEntryFetchComplete s
  | .getEventLayout v code, s => next_execGetEventLayout v code s
  | .getEventSummary v code, s => next_execGetEventSummary v code s
  | .getEventEntries v first count, s => next_execGetEventEntries v first count s
  | .buttonPressRelease ms, s => next_execButtonPressRelease ms s
  | .buttonHold3s, s => next_execButtonHold3s s
  | .touchMeasure count, s => next_execTouchMeasure count s
  | .requestRemoval v, s => next_execRequestRemoval v s
  | .removalCancel v, s => next_execRemovalCancel v s
  | .removalSafe, s => next_execRemovalSafe s
  | .removalTimeout, s => next_execRemovalTimeout s
  | .moduleUnseated, s => next_execModuleUnseated s
  | .moduleSeated, s => next_execModuleSeated s
  | .setLocate v on, s => next_execSetLocate v on s
  | .getReadiness v, s => next_execGetReadiness v s
  | .getBootConfiguration v off, s => next_execGetBootConfiguration v off s
  | .setBootConfiguration v off val mask factory, s => next_execSetBootConfiguration v off val mask factory s
  | .readRegisters v off count, s => next_execReadRegisters v off count s
  | .registerWrite h bar off size val, s => next_execRegisterWrite h bar off size val s
  | .copyEngineScanEnd, s => next_execCopyEngineScanEnd s
  | .testComplete n passed faults causes, s => next_execTestComplete n passed faults causes s
  | .norOperationComplete, s => next_execNorOperationComplete s
  | .hdmDecoderCommit h seg base size ways gran dpa lock, s => next_execHdmDecoderCommit h seg base size ways gran dpa lock s
  | .spdmDoeMessage h m, s => next_execSpdmDoeMessage h m s
  | .mgtEthLinkChange up, s => next_execMgtEthLinkChange up s
  | .msixVectorUnmask h vec, s => next_execMsixVectorUnmask h vec s
  | .scanMediaComplete h found, s => next_execScanMediaComplete h found s
  | .operatingSecondsWrite, s => next_execOperatingSecondsWrite s

/-- Every command keeps the queue and the canonical form of the byte memories. -/
theorem keepA_exec : ∀ (c : Instr) (s : State), KeepA s (exec c s)
  | .serviceInputValid ticks, s => keep_execServiceInputValid ticks s
  | .wakeNFall ticks, s => (still_execWakeNFall ticks s).keep
  | .energyGone, s => (still_execEnergyGone s).keep
  | .comparatorTrip b ticks, s => keep_execComparatorTrip b ticks s
  | .latchOpen ticks, s => keep_execLatchOpen ticks s
  | .resetNAssert ticks, s => keep_execResetNAssert ticks s
  | .resetNRelease ticks, s => (still_execResetNRelease ticks s).keep
  | .genRstWrite sb val ticks, s => keep_execGenRstWrite sb val ticks s
  | .resetDevice v, s => keep_execResetDevice v s
  | .resetDatagram payload, s => keep_execResetDatagram payload s
  | .forcedAbort commits, s => keep_execForcedAbort commits s
  | .saveStartRecord, s => keep_execSaveStartRecord s
  | .manifestClosed flips, s => keep_execManifestClosed flips s
  | .saveBusWarning mv, s => (still_execSaveBusWarning mv s).keep
  | .saveBusLow mv, s => (still_execSaveBusLow mv s).keep
  | .truncatedManifestClose, s => (still_execTruncatedManifestClose s).keep
  | .energyFail, s => keep_execEnergyFail s
  | .lingerTimerExpiry, s => keep_execLingerTimerExpiry s
  | .lingerEnergyLimit, s => keep_execLingerEnergyLimit s
  | .railPowerGood slot mv, s => (still_execRailPowerGood slot mv s).keep
  | .railFault slot kind, s => keep_execRailFault slot kind s
  | .railWarning slot kind reading, s => (still_execRailWarning slot kind reading s).keep
  | .offWaitExpiry ticks, s => (still_execOffWaitExpiry ticks s).keep
  | .pmbusStatusPoll status tele, s => keep_execPmbusStatusPoll status tele s
  | .lbAlert slot status, s => keep_execLbAlert slot status s
  | .holdupMeasurement tm packHigh, s => (still_execHoldupMeasurement tm packHigh s).keep
  | .standbyEntry, s => (still_execStandbyEntry s).keep
  | .opChangeComplete mv, s => (still_execOpChangeComplete mv s).keep
  | .temperatureSample readings, s => keep_execTemperatureSample readings s
  | .getSnapshot v idx, s => (still_execGetSnapshot v idx s).keep
  | .readRails v, s => (still_execReadRails v s).keep
  | .lockstepMismatch pc, s => (still_execLockstepMismatch pc s).keep
  | .spWatchdogExpiry n, s => (still_execSpWatchdogExpiry n s).keep
  | .mpWatchdogExpiry, s => (still_execMpWatchdogExpiry s).keep
  | .sramUncorrectable p, s => (still_execSramUncorrectable p s).keep
  | .executeFault p addr, s => (still_execExecuteFault p addr s).keep
  | .spReloadComplete n storeOk, s => keep_execSpReloadComplete n storeOk s
  | .mpRestartComplete, s => keep_execMpRestartComplete s
  | .trialConfirmTimeout, s => (still_execTrialConfirmTimeout s).keep
  | .clockCheckRetry ref, s => (still_execClockCheckRetry ref s).keep
  | .boscStartCheckPass lfo, s => keep_execBoscStartCheckPass lfo s
  | .boscMonitorTrip test, s => keep_execBoscMonitorTrip test s
  | .refclkMonitorTrip test, s => keep_execRefclkMonitorTrip test s
  | .refclkReturn, s => (still_execRefclkReturn s).keep
  | .boscReturn, s => (still_execBoscReturn s).keep
  | .pllLockLoss p, s => keep_execPllLockLoss p s
  | .lfoMonitorTrip, s => keep_execLfoMonitorTrip s
  | .aoscMonitorTrip, s => (still_execAoscMonitorTrip s).keep
  | .ptpSync off freq logInt ticks, s => keep_execPtpSync off freq logInt ticks s
  | .ptpAnnounce id rank utcOff, s => (still_execPtpAnnounce id rank utcOff s).keep
  | .announceTimeout, s => (still_execAnnounceTimeout s).keep
  | .ptmRequest enabled freq, s => (still_execPtmRequest enabled freq s).keep
  | .compatibilityTrim spread change period, s => (still_execCompatibilityTrim spread change period s).keep
  | .lfoTrim trim, s => (still_execLfoTrim trim s).keep
  | .ckSetWrite utc, s => (still_execCkSetWrite utc s).keep
  | .ckTimeRead, s => (still_execCkTimeRead s).keep
  | .ckPtpWrite val, s => (still_execCkPtpWrite val s).keep
  | .ckCmonWrite val, s => (still_execCkCmonWrite val s).keep
  | .ppsPulse, s => (still_execPpsPulse s).keep
  | .alarmFired ticks, s => (still_execAlarmFired ticks s).keep
  | .getTimeStatus v, s => (still_execGetTimeStatus v s).keep
  | .hostWrite h hpa data be poison, s => keep_execHostWrite h hpa data be poison s
  | .hostRead h hpa wait err, s => keep_execHostRead h hpa wait err s
  | .headLinkUp h width rate flit256, s => (still_execHeadLinkUp h width rate flit256 s).keep
  | .linkRecovery h replays enters, s => (still_execLinkRecovery h replays enters s).keep
  | .linkDownTimeout h, s => (still_execLinkDownTimeout h s).keep
  | .surpriseLinkDown h, s => (still_execSurpriseLinkDown h s).keep
  | .ideIntegrityFailure h, s => (still_execIdeIntegrityFailure h s).keep
  | .viral h, s => (still_execViral h s).keep
  | .hpPerstAssert h, s => (still_execHpPerstAssert h s).keep
  | .hpPerstRelease h, s => (still_execHpPerstRelease h s).keep
  | .headFlr h, s => (still_execHeadFlr h s).keep
  | .gpfPhase1 h, s => (still_execGpfPhase1 h s).keep
  | .gpfPhase2 h, s => (still_execGpfPhase2 h s).keep
  | .identifyMemoryDevice v, s => (still_execIdentifyMemoryDevice v s).keep
  | .getPartitionInfo v, s => (still_execGetPartitionInfo v s).keep
  | .setPartitionInfo v, s => (still_execSetPartitionInfo v s).keep
  | .getLsa v off len, s => (still_execGetLsa v off len s).keep
  | .setLsa v off data, s => keep_execSetLsa v off data s
  | .getHealthInfo v, s => (still_execGetHealthInfo v s).keep
  | .getAlertConfiguration v, s => (still_execGetAlertConfiguration v s).keep
  | .setAlertConfiguration v life tempHigh tempLow, s => (still_execSetAlertConfiguration v life tempHigh tempLow s).keep
  | .getShutdownState v, s => (still_execGetShutdownState v s).keep
  | .setShutdownState v dirty, s => (still_execSetShutdownState v dirty s).keep
  | .getPoisonList v dpa len max, s => (still_execGetPoisonList v dpa len max s).keep
  | .injectPoison v dpa, s => keep_execInjectPoison v dpa s
  | .clearPoison v dpa data, s => keep_execClearPoison v dpa data s
  | .getScanMediaCapabilities v dpa len, s => (still_execGetScanMediaCapabilities v dpa len s).keep
  | .scanMedia v dpa len, s => (still_execScanMedia v dpa len s).keep
  | .getScanMediaResults v, s => (still_execGetScanMediaResults v s).keep
  | .sanitize v, s => keep_execSanitize v s
  | .secureErase v, s => keep_execSecureErase v s
  | .headRetrain v h rate, s => (still_execHeadRetrain v h rate s).keep
  | .hpCtlRetrain h val, s => (still_execHpCtlRetrain h val s).keep
  | .getHeadCounters v, s => (still_execGetHeadCounters v s).keep
  | .getEventRecords v log max, s => (still_execGetEventRecords v log max s).keep
  | .clearEventRecords v log all handles, s => (still_execClearEventRecords v log all handles s).keep
  | .getEventInterruptPolicy v, s => (still_execGetEventInterruptPolicy v s).keep
  | .setEventInterruptPolicy v settings, s => (still_execSetEventInterruptPolicy v settings s).keep
  | .getFwInfo v, s => (still_execGetFwInfo v s).keep
  | .transferFw v action slot off len hdr, s => (still_execTransferFw v action slot off len hdr s).keep
  | .activateFw v online slot, s => keep_execActivateFw v online slot s
  | .getTimestamp v, s => (still_execGetTimestamp v s).keep
  | .setTimestamp v utc, s => (still_execSetTimestamp v utc s).keep
  | .getSupportedLogs v, s => (still_execGetSupportedLogs v s).keep
  | .getLog v uuid off len, s => (still_execGetLog v uuid off len s).keep
  | .sqTailWrite h q val, s => (still_execSqTailWrite h q val s).keep
  | .cqHeadWrite h q val, s => (still_execCqHeadWrite h q val s).keep
  | .inlTagWrite h q val, s => (still_execInlTagWrite h q val s).keep
  | .inlCmdWrite h q tag val, s => keep_execInlCmdWrite h q tag val s
  | .inlineCommitRelease q, s => keep_execInlineCommitRelease q s
  | .descriptorFetch q ds fail, s => keep_execDescriptorFetch q ds fail s
  | .queActlWrite h val, s => (still_execQueActlWrite h val s).keep
  | .interruptAggregationTimeout q, s => (still_execInterruptAggregationTimeout q s).keep
  | .commit q tag share level off len u, s => keep_execCommit q tag share level off len u s
  | .fence q tag b u, s => (still_execFence q tag b u s).keep
  | .release q tag share off len u, s => (still_execRelease q tag share off len u s).keep
  | .releaseCapture q seq, s => (still_execReleaseCapture q seq s).keep
  | .releaseWalkEnd r, s => keep_execReleaseWalkEnd r s
  | .probe q tag share off len u, s => (still_execProbe q tag share off len u s).keep
  | .queueCreate h tag qid sqb cqb cfg, s => (still_execQueueCreate h tag qid sqb cqb cfg s).keep
  | .queueDelete h tag qid, s => (still_execQueueDelete h tag qid s).keep
  | .reportRead h tag kind first buf len, s => (still_execReportRead h tag kind first buf len s).keep
  | .shareCreate h tag n base size cfg grants peer, s => keep_execShareCreate h tag n base size cfg grants peer s
  | .shareMode h tag n target peer, s => keep_execShareMode h tag n target peer s
  | .fullSyncCommit n, s => (still_execFullSyncCommit n s).keep
  | .promote h tag n, s => (still_execPromote h tag n s).keep
  | .shareSeal h tag n owner, s => (still_execShareSeal h tag n owner s).keep
  | .sealCommit n, s => (still_execSealCommit n s).keep
  | .shareUnseal h tag n slot, s => (still_execShareUnseal h tag n slot s).keep
  | .shareDelete h tag n, s => keep_execShareDelete h tag n s
  | .shareSet h tag n flags cfg grants, s => (still_execShareSet h tag n flags cfg grants s).keep
  | .shrCfgEnWrite n val, s => keep_execShrCfgEnWrite n val s
  | .testStart h tag cls unit disrupt, s => (still_execTestStart h tag cls unit disrupt s).keep
  | .testBegin which, s => (still_execTestBegin which s).keep
  | .testStatus h tag n, s => (still_execTestStatus h tag n s).keep
  | .testAbort h tag n, s => (still_execTestAbort h tag n s).keep
  | .packTest h tag bay depth power, s => (still_execPackTest h tag bay depth power s).keep
  | .packPause h tag bay cancel, s => (still_execPackPause h tag bay cancel s).keep
  | .packStatus h tag bay, s => (still_execPackStatus h tag bay s).keep
  | .packRelease h tag bay undo, s => (still_execPackRelease h tag bay undo s).keep
  | .fwStage h tag addr len off last hdr, s => (still_execFwStage h tag addr len off last hdr s).keep
  | .fwActivate h tag online, s => (still_execFwActivate h tag online s).keep
  | .fwStatus h tag, s => (still_execFwStatus h tag s).keep
  | .spReload h tag n, s => (still_execSpReload h tag n s).keep
  | .mpRestart h tag, s => (still_execMpRestart h tag s).keep
  | .skeinStart bad, s => keep_execSkeinStart bad s
  | .partialSkeinTimeout, s => (still_execPartialSkeinTimeout s).keep
  | .skeinCommit gen, s => keep_execSkeinCommit gen s
  | .weirCandidate, s => (still_execWeirCandidate s).keep
  | .bucketFill, s => (still_execBucketFill s).keep
  | .ageSweep, s => keep_execAgeSweep s
  | .mrMarksWrite val, s => (still_execMrMarksWrite val s).keep
  | .bucketRecordWrite, s => (still_execBucketRecordWrite s).keep
  | .journalFlushTimeout, s => (still_execJournalFlushTimeout s).keep
  | .recordSkeinCommit gen, s => (still_execRecordSkeinCommit gen s).keep
  | .indexSegmentCommit, s => (still_execIndexSegmentCommit s).keep
  | .anchorReadback flips, s => (still_execAnchorReadback flips s).keep
  | .firstAdmissionComplete flips, s => keep_execFirstAdmissionComplete flips s
  | .admissionEvaluate, s => keep_execAdmissionEvaluate s
  | .preparationComplete bad lost, s => keep_execPreparationComplete bad lost s
  | .eagerReadComplete gen strand reads others bad, s => keep_execEagerReadComplete gen strand reads others bad s
  | .demandFetchComplete u flips others bad us, s => keep_execDemandFetchComplete u flips others bad us s
  | .memoryTrainingComplete rate cap ranks good, s => keep_execMemoryTrainingComplete rate cap ranks good s
  | .memoryLinkError c cause tries retrained, s => (still_execMemoryLinkError c cause tries retrained s).keep
  | .patrolScrub found reserve, s => keep_execPatrolScrub found reserve s
  | .healComplete u flips others bad, s => keep_execHealComplete u flips others bad s
  | .rankSpareCopyEnd, s => (still_execRankSpareCopyEnd s).keep
  | .sparePointerCheckpoint ptr, s => (still_execSparePointerCheckpoint ptr s).keep
  | .moduleTemperaturePoll temps, s => (still_execModuleTemperaturePoll temps s).keep
  | .translateAddress v dpa, s => (still_execTranslateAddress v dpa s).keep
  | .spareRank v c r, s => (still_execSpareRank v c r s).keep
  | .getMemoryErrors v c, s => (still_execGetMemoryErrors v c s).keep
  | .flashTrainingComplete c rate dies failed found, s => keep_execFlashTrainingComplete c rate dies failed found s
  | .zqCalibration t, s => (still_execZqCalibration t s).keep
  | .commandTimeout t op b gen resetDone, s => keep_execCommandTimeout t op b gen resetDone s
  | .strandProgramFail gen strand, s => keep_execStrandProgramFail gen strand s
  | .blockEraseComplete b ok zeros, s => keep_execBlockEraseComplete b ok zeros s
  | .sealVerify b flips, s => keep_execSealVerify b flips s
  | .eraseResume t, s => (still_execEraseResume t s).keep
  | .readCalibration t bin counts, s => (still_execReadCalibration t bin counts s).keep
  | .reskeinStart, s => (still_execReskeinStart s).keep
  | .reskeinRelocateEnd, s => (still_execReskeinRelocateEnd s).keep
  | .reskeinCheckpointWrite, s => (still_execReskeinCheckpointWrite s).keep
  | .getFlashTarget v t, s => (still_execGetFlashTarget v t s).keep
  | .flashDiagnosticRead v t b page mode off flips, s => (still_execFlashDiagnosticRead v t b page mode off flips s).keep
  | .retireTarget v t, s => keep_execRetireTarget v t s
  | .getReskeinStatus v, s => (still_execGetReskeinStatus v s).keep
  | .twineLinkUp p width rate flit, s => (still_execTwineLinkUp p width rate flit s).keep
  | .twineIdeActive p serial, s => (still_execTwineIdeActive p serial s).keep
  | .twineLinkDown p, s => keep_execTwineLinkDown p s
  | .twineIdeFail p, s => keep_execTwineIdeFail p s
  | .lossTimeout, s => (still_execLossTimeout s).keep
  | .helloInterval, s => (still_execHelloInterval s).keep
  | .hello p serial seen, s => (still_execHello p serial seen s).keep
  | .session p n confirm, s => (still_execSession p n confirm s).keep
  | .state share partner role pstate lossrep last incons pairid, s => (still_execState share partner role pstate lossrep last incons pairid s).keep
  | .linkJoin p seq, s => keep_execLinkJoin p seq s
  | .markInterval n0 n1, s => (still_execMarkInterval n0 n1 s).keep
  | .mark p seq, s => (still_execMark p seq s).keep
  | .ack prefix_ session, s => (still_execAck prefix_ session s).keep
  | .replicaWrite p share off lines, s => keep_execReplicaWrite p share off lines s
  | .releaseMessage p seq share units first, s => keep_execReleaseMessage p seq share units first s
  | .saving p, s => (still_execSaving p s).keep
  | .designate share peer pairid base size, s => keep_execDesignate share peer pairid base size s
  | .designateResp pairid status, s => (still_execDesignateResp pairid status s).keep
  | .join p seq share, s => keep_execJoin p seq share s
  | .unpair p seq share, s => keep_execUnpair p seq share s
  | .catchupBegin p seq share full, s => keep_execCatchupBegin p seq share full s
  | .catchupEnd p seq share, s => keep_execCatchupEnd p seq share s
  | .twinMapSwap, s => (still_execTwinMapSwap s).keep
  | .designateReplica v share base size, s => (still_execDesignateReplica v share base size s).keep
  | .resumeShare v share full, s => (still_execResumeShare v share full s).keep
  | .getTwineStatus v, s => (still_execGetTwineStatus v s).keep
  | .packPresentDebounce bay ticks, s => (still_execPackPresentDebounce bay ticks s).keep
  | .packIdentified bay id volt, s => (still_execPackIdentified bay id volt s).keep
  | .identTimeout bay, s => (still_execIdentTimeout bay s).keep
  | .packRemoved bay ticks, s => (still_execPackRemoved bay ticks s).keep
  | .estimatorUpdate a b, s => keep_execEstimatorUpdate a b s
  | .sbsPoll bay ans, s => (still_execSbsPoll bay ans s).keep
  | .prechargeComplete bay volt, s => (still_execPrechargeComplete bay volt s).keep
  | .prechargeTimeout bay, s => (still_execPrechargeTimeout bay s).keep
  | .chargeComplete bay, s => (still_execChargeComplete bay s).keep
  | .floatDrop bay, s => (still_execFloatDrop bay s).keep
  | .pauseAttempt bay, s => (still_execPauseAttempt bay s).keep
  | .pauseComplete bay volt, s => (still_execPauseComplete bay volt s).keep
  | .pauseAbort bay, s => (still_execPauseAbort bay s).keep
  | .testDischargeEnd bay dv di, s => (still_execTestDischargeEnd bay dv di s).keep
  | .inhibitClear bay, s => (still_execInhibitClear bay s).keep
  | .referenceAge7Days bay, s => (still_execReferenceAge7Days bay s).keep
  | .getPackProfile v sel, s => (still_execGetPackProfile v sel s).keep
  | .sbSetPointer off pec, s => (still_execSbSetPointer off pec s).keep
  | .sbRegRead late, s => (still_execSbRegRead late s).keep
  | .sbRegWrite off val pec stop, s => keep_execSbRegWrite off val pec stop s
  | .sbReadStatus, s => (still_execSbReadStatus s).keep
  | .mctpPacket dst src seq tag som eom pec body, s => keep_execMctpPacket dst src seq tag som eom pec body s
  | .setEndpointId eid, s => (still_execSetEndpointId eid s).keep
  | .getEndpointId, s => (still_execGetEndpointId s).keep
  | .getEndpointUuid, s => (still_execGetEndpointUuid s).keep
  | .getMctpVersionSupport ty, s => (still_execGetMctpVersionSupport ty s).keep
  | .getMessageTypeSupport, s => (still_execGetMessageTypeSupport s).keep
  | .alertResponse lost, s => (still_execAlertResponse lost s).keep
  | .sbRepeatedStart, s => (still_execSbRepeatedStart s).keep
  | .sbTargetTimeout cmd, s => (still_execSbTargetTimeout cmd s).keep
  | .controllerTimeout seg target sdaLow, s => (still_execControllerTimeout seg target sdaLow s).keep
  | .arbitrationLoss seg target stop, s => (still_execArbitrationLoss seg target stop s).keep
  | .arbitrationBackoffExpiry seg, s => (still_execArbitrationBackoffExpiry seg s).keep
  | .nackRetry seg target, s => (still_execNackRetry seg target s).keep
  | .sdaStuck seg, s => (still_execSdaStuck seg s).keep
  | .busRecoveryRetry seg pulses, s => (still_execBusRecoveryRetry seg pulses s).keep
  | .alarmWarningReceived seg, s => (still_execAlarmWarningReceived seg s).keep
  | .getBootStatus v, s => (still_execGetBootStatus v s).keep
  | .requestRecovery v, s => (still_execRequestRecovery v s).keep
  | .fwCtlRecreq val, s => (still_execFwCtlRecreq val s).keep
  | .confirmFirmware v, s => (still_execConfirmFirmware v s).keep
  | .tftpBlock n len hdr, s => keep_execTftpBlock n len hdr s
  | .tftpRetransmit, s => (still_execTftpRetransmit s).keep
  | .recoveryImageReceived xport hdr, s => keep_execRecoveryImageReceived xport hdr s
  | .loadKeyShare v slot key, s => (still_execLoadKeyShare v slot key s).keep
  | .clearKeyShare v slot, s => (still_execClearKeyShare v slot s).keep
  | .getNonce v, s => (still_execGetNonce v s).keep
  | .secNonceRead h, s => (still_execSecNonceRead h s).keep
  | .nonceExpiry, s => (still_execNonceExpiry s).keep
  | .enrolOwner v key, s => (still_execEnrolOwner v key s).keep
  | .getSecurityStatus v, s => (still_execGetSecurityStatus v s).keep
  | .clearRecorder v t, s => keep_execClearRecorder v t s
  | .discardImage v t, s => keep_execDiscardImage v t s
  | .unlockDebug v t, s => keep_execUnlockDebug v t s
  | .tokenSanitize v t, s => keep_execTokenSanitize v t s
  | .replaceOwner v t, s => keep_execReplaceOwner v t s
  | .clearOwner v t, s => keep_execClearOwner v t s
  | .drbgHealthFailure test, s => (still_execDrbgHealthFailure test s).keep
  | .drbgRetry ok, s => keep_execDrbgRetry ok s
  | .drbgReseed, s => (still_execDrbgReseed s).keep
  | .occurrenceProcess, s => (still_execOccurrenceProcess s).keep
  | .recorderCheckpoint, s => (still_execRecorderCheckpoint s).keep
  | .deviceLimitEpisodeEnd, s => (still_execDeviceLimitEpisodeEnd s).keep
  | .evS0Read, s => (still_execEvS0Read s).keep
  | .evLselWrite val, s => (still_execEvLselWrite val s).keep
  | .logEntryFetchComplete, s => (still_execLogEntryFetchComplete s).keep
  | .getEventLayout v code, s => (still_execGetEventLayout v code s).keep
  | .getEventSummary v code, s => (still_execGetEventSummary v code s).keep
  | .getEventEntries v first count, s => (still_execGetEventEntries v first count s).keep
  | .buttonPressRelease ms, s => (still_execButtonPressRelease ms s).keep
  | .buttonHold3s, s => (still_execButtonHold3s s).keep
  | .touchMeasure count, s => (still_execTouchMeasure count s).keep
  | .requestRemoval v, s => (still_execRequestRemoval v s).keep
  | .removalCancel v, s => (still_execRemovalCancel v s).keep
  | .removalSafe, s => (still_execRemovalSafe s).keep
  | .removalTimeout, s => (still_execRemovalTimeout s).keep
  | .moduleUnseated, s => (still_execModuleUnseated s).keep
  | .moduleSeated, s => (still_execModuleSeated s).keep
  | .setLocate v on, s => (still_execSetLocate v on s).keep
  | .getReadiness v, s => (still_execGetReadiness v s).keep
  | .getBootConfiguration v off, s => (still_execGetBootConfiguration v off s).keep
  | .setBootConfiguration v off val mask factory, s => (still_execSetBootConfiguration v off val mask factory s).keep
  | .readRegisters v off count, s => (still_execReadRegisters v off count s).keep
  | .registerWrite h bar off size val, s => keep_execRegisterWrite h bar off size val s
  | .copyEngineScanEnd, s => (still_execCopyEngineScanEnd s).keep
  | .testComplete n passed faults causes, s => keep_execTestComplete n passed faults causes s
  | .norOperationComplete, s => (still_execNorOperationComplete s).keep
  | .hdmDecoderCommit h seg base size ways gran dpa lock, s => (still_execHdmDecoderCommit h seg base size ways gran dpa lock s).keep
  | .spdmDoeMessage h m, s => (still_execSpdmDoeMessage h m s).keep
  | .mgtEthLinkChange up, s => (still_execMgtEthLinkChange up s).keep
  | .msixVectorUnmask h vec, s => (still_execMsixVectorUnmask h vec s).keep
  | .scanMediaComplete h found, s => keep_execScanMediaComplete h found s
  | .operatingSecondsWrite, s => (still_execOperatingSecondsWrite s).keep

/-! ### A step -/

/-- R15, R301: what happens while no command is queued keeps memory in canonical form and the queue empty of commands: the end of a power-down's step, a
command that waited, or a tick. -/
theorem keepA_idle (s : State) : KeepA s s.idle := by
  have tick : KeepA s (.next s.begin.tick) := keepA_next ((still_begin s).trans (still_tick _)).keep
  unfold State.idle
  split
  case isTrue down => exact keepA_next ((still_begin s).trans (still_downStep _)).keep
  case isFalse up =>
    split
    case h_1 e rest waits =>
      split
      case isTrue runs => exact keepA_trans (still_unwait s e.1 e.2.2).keep (keepA_exec e.2.1 _)
      case isFalse absent => exact tick
    case h_2 noneWaits => exact tick

/-- Settles O59: `nexts_exec`, command by command. -/
theorem everyCommandCompletes : Obligations.EveryCommandCompletes := nexts_exec

/-- Settles O60: on a queue of commands the front runs on the rest (`keepA_exec`), on an empty one the state idles (`keepA_idle`). -/
theorem stepKeepsTheForm : Obligations.StepKeepsTheForm := by
  intro s t canonical stepped
  unfold step at stepped
  split at stepped
  case h_1 c rest queued =>
    have kept : Keep { s with pending := rest } t := keepA_exec c _ t stepped
    exact ⟨kept.2 canonical, by rw [queued]; exact kept.1⟩
  case h_2 empty =>
    have kept : Keep s t := keepA_idle s t stepped
    exact ⟨kept.2 canonical, by rw [kept.1, empty]; rfl⟩

/-- Settles O57: each clause reads off `step`, or `State.idle` on an empty queue. -/
theorem stepTakesTheFront : Obligations.StepTakesTheFront := by
  have idle {s : State} (empty : s.pending = []) : step s = s.idle := by simp [step, empty]
  refine ⟨fun s c l => rfl, fun s empty down => ?down, fun s empty up none => ?tick, fun s k c d l empty up waits => ?waits,
    fun s nbits w => ⟨rfl, rfl⟩⟩
  case down => simp [idle empty, State.idle, down]
  case tick => simp [idle empty, State.idle, up, none]
  case waits => simp [idle empty, State.idle, up, waits]

/-! ### Reset -/

/-- R58, R293, R308, R348, R382, R399 and the other register tables: the values the fields of one register read right after reset. -/
theorem reset_fields :
    let s := State.reset
    s.phase = phBringup ∧ s.rd F.GEN_ID_PART = 0x9416 ∧ s.rd F.GEN_READY_BITS = 0 ∧
    s.flag F.GEN_ADMIT_ADMITTED = false ∧ s.rd F.GEN_ADMIT_BLOCK = 0x1FF ∧ s.rd F.FW_WP_AREA = 0x7F ∧ s.flag F.CK_STS_HOLDOVER = true ∧
    s.rd F.CK_UNC_UNC = 2 ^ 48 - 1 ∧ s.rd F.PW_OP_CUR = 3 ∧ s.rd F.PW_OP_TARGET = 3 ∧ s.rd F.MR_DRAIN_STATE = 4 ∧ s.rd F.MR_SLUICE_STEP = 15 ∧
    s.rd F.MR_MARKS_LOW = 20 ∧ s.rd F.MR_MARKS_HIGH = 50 ∧ s.rd F.MR_MARKS_SLUICE = 75 ∧ s.rd F.SPN_PLD_THA = 950 ∧ s.rd F.SPN_PLD_THB = 925 ∧
    s.rd F.FC_CFG_ERSMAX = 16 ∧ s.rd F.TW_CTL_LOSS_TO = 100 ∧ s.rd F.MC_THR_DEVCE = 4096 ∧ s.rd F.EN_CTL_DORMI = 25 ∧ s.rd F.EV_CFG_BURST = 16 ∧
    s.rd F.TWB_SB_NADDR = 0x60 ∧ s.flag F.TWB_SB_PECREQ = true := by
  decide +kernel

/-- R58: the admin queue and the link time limit of each head right after reset. -/
theorem reset_heads : ∀ k, k < 16 → State.reset.flagi F.QUE_ACTL_EN k = false ∧ State.reset.rdi F.QUE_ACTL_DEPTHM1 k = 63 ∧
    State.reset.flagi F.QUE_ACTL_IEN k = true ∧ State.reset.rdi F.HP_CTL_DOWN_TO k = 0x30 := by
  decide +kernel

/-- R58: the default allocation of the queues to the ports right after reset. -/
theorem reset_queues : ∀ p, p < 8 → State.reset.rdi F.QUE_ALLOC_FIRST p = 512 * p ∧ State.reset.rdi F.QUE_ALLOC_COUNT p = 512 := by
  decide +kernel

/-- R34: no share is defined right after reset, and its registers hold their factory values. -/
theorem reset_shares : ∀ n, n < 64 → State.reset.shDefined n = false ∧ State.reset.rdi F.SHR_CFG_RPRI n = 3 ∧
    State.reset.rdi F.SHR_CFG_WT_CAP n = 0x10 ∧ State.reset.rdi F.SHR_STATUS_TARGET n = 7 := by
  decide +kernel

/-- Settles O58: the groups of reset values above, and `reset_wf`. -/
theorem resetState : Obligations.ResetState := by
  obtain ⟨phase, part, ready, admitted, block, wp, holdover, unc, cur, target, drain, sluice, low, high, mark, tha, thb, ers, loss, devce, dormi,
    burst, naddr, pec⟩ := reset_fields
  exact ⟨rfl, reset_wf, phase, part, ready, admitted, block, wp, holdover, unc, cur, target, drain, sluice, low, high, mark, tha, thb, ers, loss,
    devce, dormi, burst, naddr, pec, reset_heads, reset_queues, reset_shares⟩

end Sys2Proof.Machine
end

section
/-! PROOFS. How frames (`Leaves`) are built: from operations that leave memory and its maps (`Still`) and either leave the register file or write
fields the frame lists. -/

namespace Sys2Proof
open Machine

/-- Two states with the same register file read the same everywhere. -/
theorem rdi_eq_of_regs {s t : State} (regs : t.regs = s.regs) (g : Field) (j : Nat) : t.rdi g j = s.rdi g j := by
  unfold State.rdi
  rw [regs]

/-- What leaves memory and its maps and the register file leaves everything a frame names. -/
theorem Machine.Still.leaves {s t : State} (still : Still s t) (regs : t.regs = s.regs) (fs : List (Field × Nat)) : Leaves s t fs := by
  obtain ⟨pending, mem, lsa, poisoned, dmap, index⟩ := still
  exact ⟨fun a => by rw [mem], poisoned, lsa, dmap, index, pending, fun g j _ => rdi_eq_of_regs regs g j⟩

/-- The start of a command leaves everything a frame names. -/
theorem leaves_begin (s : State) (fs : List (Field × Nat)) : Leaves s s.begin fs := (still_begin s).leaves rfl fs

section
variable {s t : State} {fs : List (Field × Nat)} (leaves : Leaves s t fs)
include leaves

/-- A frame may list more fields. -/
theorem Leaves.mono {gs : List (Field × Nat)} (sub : ∀ e ∈ fs, e ∈ gs) : Leaves s t gs := by
  obtain ⟨mem, poisoned, lsa, dmap, index, pending, regs⟩ := leaves
  exact ⟨mem, poisoned, lsa, dmap, index, pending, fun g j other => regs g j fun e he => other e (sub e he)⟩

/-- A frame goes on through what leaves memory and its maps and the register file. -/
theorem Leaves.still {u : State} (still : Still t u) (regs : u.regs = t.regs) : Leaves s u fs := Machine.Leaves.trans leaves (still.leaves regs fs)

/-- A frame goes on through a write of a field it lists. -/
theorem Leaves.wri (f : Field) (i v : Nat) (listed : (f, i) ∈ fs) : Leaves s (t.wri f i v) fs := by
  refine Machine.Leaves.trans leaves ?_
  exact ⟨fun _ => rfl, rfl, rfl, rfl, rfl, rfl, fun g j other => State.wri_rdi_ne t v (other (f, i) listed)⟩

/-- A frame goes on through a write of the only field of a register it lists. -/
theorem Leaves.wr (f : Field) (v : Nat) (listed : (f, 0) ∈ fs) : Leaves s (t.wr f v) fs := leaves.wri f 0 v listed

/-- A frame goes on through the raising of a count it lists. -/
theorem Leaves.bumpi (f : Field) (i : Nat) (listed : (f, i) ∈ fs) : Leaves s (t.bumpi f i) fs := leaves.wri f i _ listed

theorem Leaves.bump (f : Field) (listed : (f, 0) ∈ fs) : Leaves s (t.bump f) fs := leaves.wri f 0 _ listed

/-- A frame goes on through the raising of an event. -/
theorem Leaves.event (c : Nat) (l : List Nat) : Leaves s (t.event c l) fs := leaves.still (still_event t c l) (State.event_regs t c l)

/-- A frame goes on through what is sent. -/
theorem Leaves.send (m : Msg) : Leaves s (t.send m) fs := leaves.still ⟨rfl, rfl, rfl, rfl, rfl, rfl⟩ rfl

/-- A frame goes on through a change of a head or of a queue. -/
theorem Leaves.setHead (k : Nat) (h : Head) : Leaves s (t.setHead k h) fs := leaves.still ⟨rfl, rfl, rfl, rfl, rfl, rfl⟩ rfl

theorem Leaves.setQueue (q : Nat) (x : Queue) : Leaves s (t.setQueue q x) fs := leaves.still ⟨rfl, rfl, rfl, rfl, rfl, rfl⟩ rfl

/-- A frame goes on through a draw of a free value or of the DRBG. -/
theorem Leaves.skipFree : Leaves s t.skipFree fs := leaves.still ⟨rfl, rfl, rfl, rfl, rfl, rfl⟩ rfl

theorem Leaves.skipDrbg : Leaves s t.skipDrbg fs := leaves.still ⟨rfl, rfl, rfl, rfl, rfl, rfl⟩ rfl

/-- A frame goes on through a ticket's completion. -/
theorem Leaves.finish (k : Ticket) (st rs res : Nat) : Leaves s (t.finish k st rs res) fs :=
  leaves.still (still_finish t k st rs res) (by
    obtain ⟨_, _, _, _, _, whole⟩ := (completing_finish t k st rs res).frame
    rw [whole])

/-- A frame goes on through a signalled vector. -/
theorem Leaves.msix (k v : Nat) : Leaves s (t.msix k v) fs := leaves.still (still_msix t k v) (State.msix_regs t k v)

/-- A frame goes on through a mailbox answer. -/
theorem Leaves.reply (v : Via) (r : Ret) (w : List Nat) : Leaves s (t.reply v r w) fs :=
  leaves.still (still_reply t v r w) (State.reply_regs t v r w)

end

/-- The capture of an admin operation leaves everything a frame names. -/
theorem leaves_adminCapture (s : State) (h tag share : Nat) (fs : List (Field × Nat)) : Leaves s (adminCapture s h tag share).1 fs :=
  (leaves_begin s fs).still ⟨rfl, rfl, rfl, rfl, rfl, rfl⟩ rfl

end Sys2Proof
end

section
/-! PROOFS. COMMIT and PROBE (R69, R71 to R73): what is posted at once, what a range fault posts, and what a waiting FLASH COMMIT keeps. -/

namespace Sys2Proof.Machine

/-! ### Entries taken -/

section
variable {s : State} {q : Nat} (taking : Taking s q)
include taking

/-- R71, R73: a COMMIT on a queue that can take it is captured. -/
theorem exec_commit_taking (tag share level off len : Nat) (u : Bool) :
    exec (.commit q tag share level off len u) s = .next (s.begin.captureCommit q tag share level off len u false) := by
  change execCommit q tag share level off len u s = _
  unfold execCommit
  rw [taking_take taking, taking_io taking]

/-- R73: a PROBE on a queue that can take it is taken. -/
theorem exec_probe_taking (tag share off len : Nat) (u : Bool) :
    exec (.probe q tag share off len u) s = .next (s.begin.takeProbe q tag share 0 off len u false) := by
  change execProbe q tag share off len u s = _
  unfold execProbe
  rw [taking_take taking, taking_io taking]

/-- R73, R80: a FENCE on a queue that can take it is captured. -/
theorem exec_fence_taking (tag : Nat) (b u : Bool) :
    exec (.fence q tag b u) s = .next (s.begin.captureFence q tag 0 0 b u false) := by
  change execFence q tag b u s = _
  unfold execFence
  rw [taking_take taking, taking_io taking]

/-- R73, R96: a RELEASE on a queue that can take it is taken. -/
theorem exec_release_taking (tag share off len : Nat) (u : Bool) :
    exec (.release q tag share off len u) s = .next (s.begin.takeRelease q tag share off len u) := by
  change execRelease q tag share off len u s = _
  unfold execRelease
  rw [taking_take taking, taking_io taking]

end

/-! ### What a capture answers at once -/

/-- The fields of a ticket that its completion entry shows (R67), and the queue and sequence it is found by. -/
def Ticket.shownAs (t c : Ticket) : Prop :=
  t.qid = c.qid ∧ t.seq = c.seq ∧ t.tag = c.tag ∧ t.share = c.share ∧ t.level = c.level ∧ t.inl = c.inl ∧ t.sqhd = c.sqhd

/-- The queue after a capture that is inline or that no fetched descriptor stands beside. -/
theorem newTicket_queue_plain (s : State) {q : Nat} (tag : Nat) (k : TKind) (level share : Nat) (u : Bool) {inl : Bool}
    (plain : inl = true ∨ (s.queue q).submitted = none) :
    (s.newTicket q tag k level share u inl).1.queue q =
      { s.queue q with
        last := (s.queue q).last + 1, twin := (s.queue q).twin || (k == .commit && level == 2)
        sqHead := if inl then (s.queue q).sqHead else if (s.queue q).sqHead + 1 = (s.queue q).depth then 0 else (s.queue q).sqHead + 1
        holdF := if k = .commit ∨ k = .admin then ((s.queue q).last + 1) :: (s.queue q).holdF else (s.queue q).holdF
        holdH := if k = .admin then ((s.queue q).last + 1) :: (s.queue q).holdH else (s.queue q).holdH } := by
  rcases plain with inline | unsubmitted
  · subst inline
    simp [State.newTicket, State.setQueue_queue]
  · exact newTicket_queue s q tag k level share u inl unsubmitted

/-- R67: a ticket captured inline or beside no fetched descriptor, of a queue that posts, and completed at once posts what its command named and
leaves memory, the dirty map, the index and every register, whatever range and lines it covers. -/
theorem finish_posts_leaves {s : State} {q tag share level : Nat} {k : TKind} {u inl : Bool} (posts : (s.queue q).posting = true)
    (plain : inl = true ∨ (s.queue q).submitted = none) {t : Ticket} (shown : t.shownAs (s.begin.newTicket q tag k level share u inl).2)
    (st rs res : Nat) :
    Posts s ((s.begin.newTicket q tag k level share u inl).1.finish t st rs res) q tag share level inl st rs res ∧
      Leaves s ((s.begin.newTicket q tag k level share u inl).1.finish t st rs res) [] := by
  obtain ⟨qid, seq, tg, sh, lv, il, hd⟩ := shown
  have qid' : t.qid = q := qid
  have named : (if inl = true then (share, level, u) else (s.begin.queue q).submitted.getD (share, level, u)) = (share, level, u) := by
    rcases plain with inline | unsubmitted <;> simp [*]
  have sh' : t.share = share := sh.trans (congrArg Prod.fst named)
  have lv' : t.level = level := lv.trans (congrArg (fun p => p.2.1) named)
  have queue := newTicket_queue_plain s.begin tag k level share u plain
  have posts' : ((s.begin.newTicket q tag k level share u inl).1.queue t.qid).posting = true := by
    rw [qid', queue]
    exact posts
  refine ⟨⟨?out, ?last⟩, Leaves.trans (newTicket_leaves s.begin q tag k level share u inl) (completing_finish _ t st rs res).leaves⟩
  case out =>
    obtain ⟨o, out⟩ := finish_out (s.begin.newTicket q tag k level share u inl).1 t st rs res posts'
    refine ⟨o, out.trans ?_⟩
    rw [qid', queue]
    simp only [completionWords, qid', seq, tg, sh', lv', il, hd]
    rfl
  case last =>
    have same := (completing_finish (s.begin.newTicket q tag k level share u inl).1 t st rs res).same
    rw [qid'] at same
    obtain ⟨_, _, _, _, _, _, _, _, _, _, _, _, _, _, _, last, _⟩ := same
    rw [last, queue]
    rfl

/-- The ticket a capture gives is shown as itself. -/
theorem Ticket.shownAs_refl (t : Ticket) : t.shownAs t := ⟨rfl, rfl, rfl, rfl, rfl, rfl, rfl⟩

/-! ### COMMIT -/

/-- R71: the ticket of a COMMIT of a valid range: what the capture gave, with the units and lines covered and the generation. -/
def State.commitTicket (s : State) (c : Ticket) (share off len : Nat) : Ticket :=
  { c with lo := (s.rangeUnits share off len).1, hi := (s.rangeUnits share off len).2, gen := s.rd F.MR_GEN_NEXT
           line0 := s.shLo share * 64 + off / 64, line1 := s.shLo share * 64 + (off + len + 63) / 64 }

section
variable {s : State} {q tag share level off len : Nat} {u inl : Bool}

/-- R69, R73: a COMMIT at a level whose range does not check completes with the fault found. -/
theorem captureCommit_fault {st rs : Nat} (given : level ≠ 0)
    (fault : s.rangeFault (s.queue q).head share off len false = some (st, rs)) :
    s.captureCommit q tag share level off len u inl =
      (s.newTicket q tag .commit level share u inl).1.finish (s.newTicket q tag .commit level share u inl).2 st rs 0 := by
  have fault' : (s.newTicket q tag .commit level share u inl).1.rangeFault (s.queue q).head share off len false = some (st, rs) := fault
  simp only [State.captureCommit, given, if_false, fault']

variable (valid : s.rangeFault (s.queue q).head share off len false = none) (unsealed : s.sealing share = false)
  (accepted : modeAccepts (s.shMode share) level = true)
include valid unsealed accepted

/-- R71, R72: a COMMIT at HELD or FLASH of a valid range on a share whose mode accepts the level: it completes DONE where nothing is waited for,
and otherwise keeps the runs that are not CLEAN. -/
theorem captureCommit_accepted (kinds : level = 1 ∨ level = 3) :
    let c := s.newTicket q tag .commit level share u inl
    let w := s.dirtyRuns (s.rangeUnits share off len).1 (s.rangeUnits share off len).2
    s.captureCommit q tag share level off len u inl =
      if (level = 1 ∧ s.shMode share ≠ mdWritethru) ∨ w = [] then c.1.finish (s.commitTicket c.2 share off len) 0 0 0
      else (c.1.markWanted (s.rangeUnits share off len).1 (s.rangeUnits share off len).2).keepTicket
        { s.commitTicket c.2 share off len with wait := w } := by
  have given : level ≠ 0 := by omega
  have untwined : level ≠ 2 := by omega
  have faults : (s.newTicket q tag .commit level share u inl).1.rangeFault = s.rangeFault := rfl
  have sealings : (s.newTicket q tag .commit level share u inl).1.sealing = s.sealing := rfl
  have modes : (s.newTicket q tag .commit level share u inl).1.shMode = s.shMode := rfl
  have units : (s.newTicket q tag .commit level share u inl).1.rangeUnits = s.rangeUnits := rfl
  have runs : (s.newTicket q tag .commit level share u inl).1.dirtyRuns = s.dirtyRuns := rfl
  have tickets : (s.newTicket q tag .commit level share u inl).1.commitTicket = s.commitTicket := rfl
  unfold State.captureCommit
  generalize s.newTicket q tag .commit level share u inl = e at faults sealings modes units runs tickets ⊢
  obtain ⟨r, t⟩ := e
  dsimp only at faults sealings modes units runs tickets
  simp only [given, untwined, if_false, faults, valid, sealings, unsealed, modes, accepted, units, runs, Bool.not_true, Bool.false_eq_true,
    List.isEmpty_iff, ← tickets, ite_or]
  simp only [State.commitTicket, units]

end

/-- The ticket of a COMMIT of a valid range is shown as the one its capture gave. -/
theorem commitTicket_shownAs (s : State) (c : Ticket) (share off len : Nat) : (s.commitTicket c share off len).shownAs c :=
  ⟨rfl, rfl, rfl, rfl, rfl, rfl, rfl⟩

/-! ### PROBE -/

/-- R73: a PROBE whose range does not check completes with the fault found. -/
theorem takeProbe_fault {s : State} {q share off len st rs : Nat} (tag level : Nat) (u inl : Bool)
    (fault : s.rangeFault (s.queue q).head share off len false = some (st, rs)) :
    s.takeProbe q tag share level off len u inl =
      (s.newTicket q tag .fence level share u inl).1.finish (s.newTicket q tag .fence level share u inl).2 st rs 0 := by
  have fault' : (s.newTicket q tag .fence level share u inl).1.rangeFault (s.queue q).head share off len false = some (st, rs) := fault
  simp only [State.takeProbe, fault']

/-- R73: a PROBE of a valid range completes DONE with the levels held and the number of units that are not CLEAN. -/
theorem takeProbe_valid {s : State} {q share off len : Nat} (tag level : Nat) (u inl : Bool)
    (valid : s.rangeFault (s.queue q).head share off len false = none) :
    s.takeProbe q tag share level off len u inl =
      (s.newTicket q tag .fence level share u inl).1.finish (s.newTicket q tag .fence level share u inl).2 0
        (s.probeBits share (s.rangeUnits share off len).1 (s.rangeUnits share off len).2)
        (min (Segs.count (fun e => e.st != 0) (s.rangeUnits share off len).1 (s.rangeUnits share off len).2 s.dmap) 0xFFFFFFFF) := by
  have valid' : (s.newTicket q tag .fence level share u inl).1.rangeFault (s.queue q).head share off len false = none := valid
  simp only [State.takeProbe, valid']
  rfl

/-! ### The obligation of range faults -/

/-- R69, R73: the checks of a byte range in their order (log 16). -/
theorem rangeFault_in_order (s : State) (k share off len : Nat) :
    (s.shDefined share = false → s.rangeFault k share off len false = some (5, 1)) ∧
    (s.shDefined share = true → s.rdi F.SHR_SIZE_ADDR share * 2 ^ 28 < off + len → s.rangeFault k share off len false = some (5, 2)) ∧
    (s.shDefined share = true → off + len ≤ s.rdi F.SHR_SIZE_ADDR share * 2 ^ 28 → s.grant share k ≠ 2 →
      s.rangeFault k share off len false = some (5, 3)) ∧
    (s.shDefined share = true → off ≤ s.rdi F.SHR_SIZE_ADDR share * 2 ^ 28 → s.grant share k = 2 →
      s.rangeFault k share off 0 false = some (5, 5)) ∧
    (s.shDefined share = true → 0 < len → off + len ≤ s.rdi F.SHR_SIZE_ADDR share * 2 ^ 28 → s.grant share k = 2 → s.shOpen share = false →
      s.rangeFault k share off len false = some (4, 6)) := by
  unfold State.rangeFault
  refine ⟨fun undefined => ?_, fun defined past => ?_, fun defined within ungranted => ?_, fun defined within granted => ?_,
    fun defined some within granted closed => ?_⟩
  · simp [undefined]
  · simp only [defined, past, Bool.not_true, Bool.false_eq_true, if_false, if_true]
  · simp only [defined, Nat.not_lt.mpr within, ungranted, Bool.not_true, Bool.false_eq_true, if_false, if_true, ne_eq, not_false_eq_true]
  · simpa [defined, granted] using within
  · simpa [defined, granted, Nat.pos_iff_ne_zero.mp some, closed] using within

/-- Settles O3: a fault found at capture completes the ticket at once (`captureCommit_fault`, `takeProbe_fault`); the order is `rangeFault`'s. -/
theorem rangeFaults : Obligations.RangeFaults := by
  refine ⟨fun s q tag share level off len st rs u taking given fault => ⟨?commit, ?probe⟩, rangeFault_in_order⟩
  all_goals obtain ⟨can, _, _, _, plain⟩ := id taking
  case commit =>
    refine ⟨_, exec_commit_taking taking .., ?_⟩
    rw [captureCommit_fault (s := s.begin) given fault]
    exact finish_posts_leaves (canTake_posting can) (.inr plain) (Ticket.shownAs_refl _) st rs 0
  case probe =>
    refine ⟨_, exec_probe_taking taking .., ?_⟩
    rw [takeProbe_fault (s := s.begin) _ _ _ _ fault]
    exact finish_posts_leaves (canTake_posting can) (.inr plain) (Ticket.shownAs_refl _) st rs 0

/-! ### The obligation of COMMIT -/

section
variable (s : State) (t : Ticket)

@[simp] theorem keepTicket_out : (s.keepTicket t).out = s.out := by
  unfold State.keepTicket; dsimp only; split <;> split <;> simp [State.wr]

@[simp] theorem keepTicket_mem : (s.keepTicket t).mem = s.mem := by
  unfold State.keepTicket; dsimp only; split <;> split <;> simp

@[simp] theorem keepTicket_dmap : (s.keepTicket t).dmap = s.dmap := by
  unfold State.keepTicket; dsimp only; split <;> split <;> simp

@[simp] theorem keepTicket_queues : (s.keepTicket t).queues = s.queues := by
  unfold State.keepTicket; dsimp only; split <;> split <;> simp

@[simp] theorem keepTicket_tickets : (s.keepTicket t).tickets = s.tickets ++ [{ t with ctx := s.ctxKind t.qid }] := by
  unfold State.keepTicket; dsimp only; split <;> split <;> simp

@[simp] theorem keepTicket_queue (q : Nat) : (s.keepTicket t).queue q = s.queue q := by
  simp [State.queue]

@[simp] theorem keepTicket_walks : (s.keepTicket t).walks = s.walks := by
  unfold State.keepTicket; dsimp only; split <;> split <;> simp

end

/-- R71, R72, R88: a captured FLASH COMMIT that waits: its ticket names its queue, tag, sequence and runs, its units are marked, nothing is sent. -/
theorem waiting_commit_kept {s : State} {q tag share off len : Nat} (u : Bool) (plain : (s.queue q).submitted = none) (w : List (Nat × Nat)) :
    let c := s.begin.newTicket q tag .commit 3 share u false
    let t := (c.1.markWanted (s.rangeUnits share off len).1 (s.rangeUnits share off len).2).keepTicket
      { s.commitTicket c.2 share off len with wait := w }
    t.out = [] ∧ (∃ k ∈ t.tickets, k.qid = q ∧ k.tag = tag ∧ k.seq = (s.queue q).last + 1 ∧ k.outcome = none ∧ k.wait = w) ∧
      t.dmap = (s.markWanted (s.rangeUnits share off len).1 (s.rangeUnits share off len).2).dmap ∧ t.mem = s.mem ∧
      (t.queue q).last = (s.queue q).last + 1 := by
  intro c t
  have queue := newTicket_queue s.begin q tag .commit 3 share u false plain
  have last : ((c.1.markWanted (s.rangeUnits share off len).1 (s.rangeUnits share off len).2).queue q).last = (s.queue q).last + 1 :=
    congrArg Queue.last queue
  refine ⟨?_, ⟨{ s.commitTicket c.2 share off len with
    wait := w, ctx := (c.1.markWanted (s.rangeUnits share off len).1 (s.rangeUnits share off len).2).ctxKind q }, ?_, rfl, rfl, rfl, rfl, rfl⟩,
    ?_, ?_, ?_⟩
  · simp only [t, keepTicket_out]; rfl
  · simp only [t, keepTicket_tickets]
    exact List.mem_append_right _ (List.mem_singleton_self _)
  · simp only [t, keepTicket_dmap]; rfl
  · simp only [t, keepTicket_mem]; rfl
  · simp only [t, keepTicket_queue, last]

/-- Settles O1: `captureCommit_accepted`, whose two answers are a ticket completed (`finish_posts_leaves`) and one kept (`waiting_commit_kept`). -/
theorem commitCompletion : Obligations.CommitCompletion := by
  refine ⟨fun s q tag share level off len u taking valid unsealed accepted holds => ?done,
    fun s q tag share off len u taking valid unsealed accepted dirty => ?waits⟩
  all_goals obtain ⟨can, _, _, _, plain⟩ := id taking
  case done =>
    have kinds : level = 1 ∨ level = 3 := holds.imp And.left And.left
    have now : (level = 1 ∧ s.shMode share ≠ mdWritethru) ∨ s.dirtyRuns (s.rangeUnits share off len).1 (s.rangeUnits share off len).2 = [] :=
      holds.imp id And.right
    have answer := (captureCommit_accepted (s := s.begin) (q := q) (tag := tag) (u := u) (inl := false) valid unsealed accepted kinds).trans
      (if_pos now)
    refine ⟨_, exec_commit_taking taking .., ?_⟩
    rw [answer]
    exact finish_posts_leaves (canTake_posting can) (.inr plain) (commitTicket_shownAs _ _ _ _ _) 0 0 0
  case waits =>
    have answer := (captureCommit_accepted (s := s.begin) (q := q) (tag := tag) (u := u) (inl := false) valid unsealed accepted (.inr rfl)).trans
      (if_neg (by simpa using dirty))
    obtain ⟨out, ⟨k, mem, named⟩, dmap, kept, last⟩ := waiting_commit_kept (s := s) (q := q) (tag := tag) (share := share) (off := off) (len := len)
      u plain (s.dirtyRuns (s.rangeUnits share off len).1 (s.rangeUnits share off len).2)
    obtain ⟨qid, tg, seq, outcome, wait⟩ := named
    refine ⟨_, k, exec_commit_taking taking .., ?_⟩
    rw [answer]
    exact ⟨out, mem, qid, tg, seq, outcome, wait, dmap, kept, last⟩

end Sys2Proof.Machine
end

section
/-! PROOFS. FENCE and PROBE (R73, R80): a FENCE with no open ticket before it, and a PROBE of a valid range, post at once. -/

namespace Sys2Proof.Machine

/-! ### FENCE -/

/-- R80: with no other ticket on the queue, an open FENCE added last is the ready one. -/
theorem readyFence_append {s : State} {f : Ticket} (alone : ∀ a ∈ s.tickets, a.qid ≠ f.qid) (fence : f.kind = .fence) (isOpen : f.outcome = none) :
    State.readyFence { s with tickets := s.tickets ++ [f] } f.qid = some f := by
  have others : ∀ a ∈ s.tickets, (a.qid == f.qid) = false := fun a ha => by simpa using alone a ha
  have none_before : (s.tickets ++ [f]).any (fun a => a.qid == f.qid && decide (a.seq < f.seq) && a.outcome.isNone) = false := by
    simp only [List.any_append, List.any_cons, List.any_nil, Nat.lt_irrefl, decide_false, Bool.and_false, Bool.false_and, Bool.or_false]
    exact List.any_eq_false.mpr fun a ha => by simp [others a ha]
  unfold State.readyFence
  rw [List.find?_append, List.find?_eq_none.mpr fun a ha => by simp [others a ha]]
  simp only [Option.none_or, List.find?_cons, fence, isOpen, none_before, beq_self_eq_true, Option.isNone_none, Bool.and_self, Bool.not_false]

/-- R67, R80: running the FENCEs of a queue that posts, the first of them ready: the first thing sent is its completion, with the number of
earlier tickets that completed other than DONE. -/
theorem runFences_out {s : State} {f : Ticket} {q : Nat} (n : Nat) (ready : s.readyFence q = some f) (posts : (s.queue q).posting = true) :
    ∃ o, (s.runFences q (n + 1)).out = s.out ++ .completion q (s.queue q).cqTail (completionWords (s.queue q) f 0 0
      (min ((s.queue q).fails.filter fun a => decide (a < f.seq)).length 0xFFFFFFFF) s.ck.ns) :: o := by
  have qid := readyFence_qid ready
  subst qid
  let y := { s.queue f.qid with
    fails := (s.queue f.qid).fails.filter fun a => !decide (a < f.seq)
    barrier := if (s.queue f.qid).barrier = some f.seq then none else (s.queue f.qid).barrier }
  have queue : (s.setQueue f.qid y).queue f.qid = y := by rw [State.setQueue_queue, if_pos rfl]
  obtain ⟨o, first⟩ := decideTicket_out (s.setQueue f.qid y) f 0 0
    (min ((s.queue f.qid).fails.filter fun a => decide (a < f.seq)).length 0xFFFFFFFF) (by rw [queue]; exact posts)
  obtain ⟨qs, ts, later, hs, b, rest⟩ := (completing_runFences n f.qid ((s.setQueue f.qid y).decideTicket f 0 0
    (min ((s.queue f.qid).fails.filter fun a => decide (a < f.seq)).length 0xFFFFFFFF))).frame
  refine ⟨o ++ later, ?_⟩
  unfold State.runFences
  rw [ready]
  dsimp only
  rw [rest]
  dsimp only
  rw [first, queue]
  simp [y, completionWords, State.setQueue]

/-- R73, R80: a FENCE on a queue with no ticket is added and the queue's FENCEs run. -/
theorem captureFence_alone {s : State} {q : Nat} (tag share level : Nat) (b u inl : Bool) (alone : ∀ a ∈ s.tickets, a.qid ≠ q) :
    let c := s.newTicket q tag .fence level share u inl
    s.captureFence q tag share level b u inl =
      State.runFences { c.1 with tickets := s.tickets ++ [c.2] } q ((s.tickets ++ [c.2]).length + 1) := by
  have none_open : (s.newTicket q tag .fence level share u inl).1.tickets.any (fun a => a.qid == q && a.outcome.isNone) = false :=
    List.any_eq_false.mpr fun a ha => by simp [alone a ha]
  unfold State.captureFence
  simp only [none_open, Bool.false_eq_true, if_false]
  rfl

/-- R73, R80: a FENCE captured on a queue with no ticket posts DONE and leaves memory, the dirty map, the index and every register. -/
theorem captureFence_posts {s : State} {q : Nat} (tag : Nat) (b u : Bool) (can : s.canTake q = true) (plain : (s.queue q).submitted = none)
    (alone : ∀ a ∈ s.tickets, a.qid ≠ q) :
    Posts s (s.begin.captureFence q tag 0 0 b u false) q tag 0 0 false 0 0
        (min ((s.queue q).fails.filter fun a => decide (a < (s.queue q).last + 1)).length 0xFFFFFFFF) ∧
      Leaves s (s.begin.captureFence q tag 0 0 b u false) [] := by
  have alone' : ∀ a ∈ s.begin.tickets, a.qid ≠ q := alone
  rw [captureFence_alone (s := s.begin) tag 0 0 b u false alone']
  have queue := newTicket_queue s.begin q tag .fence 0 0 u false plain
  have named : ((s.begin.queue q).submitted.getD (0, 0, u)) = (0, 0, u) := by simp [plain]
  have share : (s.begin.newTicket q tag .fence 0 0 u false).2.share = 0 := congrArg Prod.fst named
  have level : (s.begin.newTicket q tag .fence 0 0 u false).2.level = 0 := congrArg (fun p => p.2.1) named
  let r : State := { (s.begin.newTicket q tag .fence 0 0 u false).1 with
    tickets := s.begin.tickets ++ [(s.begin.newTicket q tag .fence 0 0 u false).2] }
  have ready : r.readyFence q = some (s.begin.newTicket q tag .fence 0 0 u false).2 :=
    readyFence_append (s := (s.begin.newTicket q tag .fence 0 0 u false).1) alone rfl rfl
  have rqueue : r.queue q = (s.begin.newTicket q tag .fence 0 0 u false).1.queue q := rfl
  have posts : (r.queue q).posting = true := by
    rw [rqueue, queue]
    exact canTake_posting can
  have done := completing_runFences ((s.begin.tickets ++ [(s.begin.newTicket q tag .fence 0 0 u false).2]).length + 1) q r
  refine ⟨⟨?out, ?last⟩, Leaves.trans (newTicket_leaves s.begin q tag .fence 0 0 u false) done.leaves⟩
  case out =>
    obtain ⟨o, out⟩ := runFences_out (s.begin.tickets ++ [(s.begin.newTicket q tag .fence 0 0 u false).2]).length ready posts
    refine ⟨o, out.trans ?_⟩
    rw [rqueue, queue]
    simp only [completionWords, share, level]
    rfl
  case last =>
    obtain ⟨_, _, _, _, _, _, _, _, _, _, _, _, _, _, _, kept, _⟩ := done.same
    have last : (r.queue q).last = (s.queue q).last + 1 := by rw [rqueue, queue]; rfl
    exact kept.trans last

/-- Settles O2: `captureFence_posts`, and `takeProbe_valid` completed at once. -/
theorem fenceAndProbe : Obligations.FenceAndProbe := by
  refine ⟨fun s q tag b u taking alone => ?fence, fun s q tag share off len u taking valid => ?probe⟩
  all_goals obtain ⟨can, _, _, _, plain⟩ := id taking
  case fence =>
    obtain ⟨posts, mem, _, _, dmap, index, _⟩ := captureFence_posts tag b u can plain alone
    exact ⟨_, exec_fence_taking taking .., posts, mem, dmap, index⟩
  case probe =>
    refine ⟨_, exec_probe_taking taking .., ?_⟩
    rw [takeProbe_valid (s := s.begin) _ _ _ _ valid]
    exact finish_posts_leaves (canTake_posting can) (.inr plain) (Ticket.shownAs_refl _) 0 _ _

end Sys2Proof.Machine
end

section
/-! PROOFS. Fetching descriptors (R62, R66, R69): a descriptor acts as the operation its words spell; one that spells none posts FAULT. -/

namespace Sys2Proof.Machine

/-- R62: the turn has passed to queue q. -/
def State.atTurn (s : State) (q : Nat) : State := { s with turnQ := q }

/-- R67: queue q keeps the SHARE, LEVEL and U of the descriptor fetched from it. -/
def State.besideDesc (s : State) (q : Nat) (d : Desc) : State :=
  s.setQueue q { s.queue q with submitted := some (Desc.share d, Desc.level d, Desc.u d) }

/-- R62: one descriptor fetched at the turn of a queue that holds no inline commit is taken from that queue. -/
theorem turnFetch_one {s : State} {q : Nat} (d : Desc) (turn : s.nextTurn = some q) (unheld : (s.queue q).held = none) :
    s.turnFetch [d] 0 = (s.atTurn q).takeDesc q d := by
  have unheld' : ((s.atTurn q).queue q).held = none := unheld
  unfold State.turnFetch
  rw [turn]
  change (if ((s.atTurn q).queue q).held.isSome && _ then _ else _) = _
  rw [unheld']
  rfl

section
variable {s : State} {q : Nat} (taking : Taking s q)
include taking

/-- R69: a descriptor of no operation, taken from a queue that can take it, posts FAULT BAD_OPCODE with SHARE and LEVEL as submitted. -/
theorem takeDesc_badOpcode {d : Desc} (bad : (ioOps ++ adminOps).contains (Desc.op d) = false) :
    let c := s.newTicket q d.tag .admin (Desc.level d) (Desc.share d) (Desc.u d) false
    s.takeDesc q d = c.1.finish c.2 6 1 0 := by
  obtain ⟨can, unbarred, unfetched, _, _⟩ := taking
  intro c
  have takes : s.faultEntry q d 1 = c.1.finish c.2 6 1 0 := by
    unfold State.faultEntry State.takeEntry
    exact if_pos (by simp [can, unbarred, unfetched])
  unfold State.takeDesc
  rw [if_neg (by simp [can, unbarred, unfetched]), if_pos (by rw [bad]; rfl), takes]

/-- R66, R73: a descriptor of an I/O operation with no reserved bit set, taken from an I/O queue that can take it, runs that operation. -/
theorem takeDesc_io {d : Desc} (io : ioOps.contains (Desc.op d) = true) (plain : Desc.reserved d = false) :
    s.takeDesc q d = (s.besideDesc q d).act (ioAnswer q d (s.besideDesc q d)) := by
  obtain ⟨can, unbarred, unfetched, notAdmin, _⟩ := taking
  have known : (ioOps ++ adminOps).contains (Desc.op d) = true := by simp at io ⊢; exact .inl io
  have unshared : adminOps.contains (Desc.op d) = false := by
    have cases : Desc.op d = 1 ∨ Desc.op d = 2 ∨ Desc.op d = 3 ∨ Desc.op d = 4 := by simpa [ioOps] using io
    rcases cases with h | h | h | h <;> rw [h] <;> rfl
  unfold State.takeDesc
  rw [if_neg (by simp [can, unbarred, unfetched]), if_neg (by rw [known]; decide), if_neg (by simp [plain]), if_neg (by rw [unshared, notAdmin]; decide)]
  exact congrArg (State.act _) (if_neg (by simp [notAdmin]))

end

/-- An answer taken on by a state that has sent nothing is the answer's state. -/
theorem act_next_of_out_nil {s : State} (t : State) (quiet : s.out = []) : s.act (.next t) = t := by
  simp [State.act, quiet]

/-- R66, R69: a descriptor whose first word is below 2 ^ 18, whose words 4 to 7 are zero and whose range words are below 2 ^ 44 has no reserved bit
set. -/
theorem reserved_eq_false {d : Desc} (w0 : d.w0 < 2 ^ 18) (op4 : d.op4 = 0) (op5 : d.op5 = 0) (op6 : d.op6 = 0) (op7 : d.op7 = 0)
    (op2 : d.op2 < 2 ^ 44) (op3 : d.op3 < 2 ^ 44) : Desc.reserved d = false := by
  have words : decide (2 ^ 18 ≤ d.w0) = false ∧ decide (2 ^ 44 ≤ d.op2) = false ∧ decide (2 ^ 44 ≤ d.op3) = false :=
    ⟨decide_eq_false (by omega), decide_eq_false (by omega), decide_eq_false (by omega)⟩
  simp only [Desc.reserved, words, op4, op5, op6, op7, bne_self_eq_false, Bool.or_self, Bool.and_false]

section
variable {s : State} {q : Nat} {d : Desc} (taking : Taking s q) (turn : s.begin.nextTurn = some q) (unheld : (s.queue q).held = none)
include taking turn unheld

/-- R62, R66: fetching one descriptor of an I/O operation answers what the operation answers beside it. -/
theorem exec_descriptorFetch_io (p : Nat) (io : ioOps.contains (Desc.op d) = true) (plain : Desc.reserved d = false) {t : State}
    (answer : ioAnswer q d ((s.atTurn q).besideDesc q d) = .next t) : exec (.descriptorFetch p [d] 0) s = .next t := by
  have taking' : Taking (s.begin.atTurn q) q := taking
  have begun : ioAnswer q d ((s.begin.atTurn q).besideDesc q d) = ioAnswer q d ((s.atTurn q).besideDesc q d) := rfl
  have quiet : ((s.begin.atTurn q).besideDesc q d).out = [] := rfl
  change execDescriptorFetch p [d] 0 s = _
  have fetched : execDescriptorFetch p [d] 0 s = .next (s.begin.turnFetch [d] 0) := rfl
  rw [fetched, turnFetch_one d turn unheld, takeDesc_io taking' io plain, begun, answer, act_next_of_out_nil t quiet]

/-- R62, R69: fetching one descriptor of no operation posts FAULT BAD_OPCODE, its SHARE and LEVEL as submitted, and the turn passes. -/
theorem exec_descriptorFetch_badOpcode (p : Nat) (bad : (ioOps ++ adminOps).contains (Desc.op d) = false) :
    ∃ t, exec (.descriptorFetch p [d] 0) s = .next t ∧ Posts s t q d.tag (Desc.share d) (Desc.level d) false 6 1 0 ∧ t.turnQ = q ∧ Leaves s t [] := by
  have taking' : Taking (s.begin.atTurn q) q := taking
  have fetched : exec (.descriptorFetch p [d] 0) s = .next (s.begin.turnFetch [d] 0) := rfl
  refine ⟨_, fetched, ?_⟩
  rw [turnFetch_one d turn unheld, takeDesc_badOpcode taking' bad]
  obtain ⟨can, _, _, _, plain⟩ := taking
  obtain ⟨posts, leaves⟩ := finish_posts_leaves (s := s.atTurn q) (tag := d.tag) (share := Desc.share d) (level := Desc.level d) (k := .admin)
    (u := Desc.u d) (inl := false) (canTake_posting can) (.inr plain) (Ticket.shownAs_refl _) 6 1 0
  refine ⟨posts, ?turn, leaves⟩
  case turn =>
    obtain ⟨_, _, _, _, _, whole⟩ := (completing_finish ((s.begin.atTurn q).newTicket q d.tag .admin (Desc.level d) (Desc.share d) (Desc.u d) false).1
      ((s.begin.atTurn q).newTicket q d.tag .admin (Desc.level d) (Desc.share d) (Desc.u d) false).2 6 1 0).frame
    rw [whole]
    rfl

end

/-- Settles O8: `exec_descriptorFetch_io` for each I/O operation, `exec_descriptorFetch_badOpcode` for an opcode of none. -/
theorem descriptorFields : Obligations.DescriptorFields := by
  intro s p q d taking turn unheld share level r
  refine ⟨fun w0 op4 op5 op6 op7 op2 op3 => ?io, fun none => ?bad⟩
  case io =>
    have plain := reserved_eq_false w0 op4 op5 op6 op7 op2 op3
    have same : r = (s.atTurn q).besideDesc q d := rfl
    rw [same]
    have acts : ∀ c : Instr, ioOps.contains (Desc.op d) = true → ioAnswer q d ((s.atTurn q).besideDesc q d) = exec c ((s.atTurn q).besideDesc q d) →
        exec (.descriptorFetch p [d] 0) s = exec c ((s.atTurn q).besideDesc q d) := fun c io answer => by
      obtain ⟨t, next⟩ := nexts_exec c ((s.atTurn q).besideDesc q d)
      rw [next] at answer ⊢
      exact exec_descriptorFetch_io taking turn unheld p io plain answer
    refine ⟨fun op => acts _ ?_ ?_, fun op => acts _ ?_ ?_, fun op => acts _ ?_ ?_, fun op => acts _ ?_ ?_⟩
    all_goals have op' : Desc.op d = _ := op
    all_goals simp only [op', ioAnswer]
    all_goals rfl
  case bad =>
    refine exec_descriptorFetch_badOpcode taking turn unheld p ?_
    have none' : Desc.op d = 0 ∨ 0x85 ≤ Desc.op d := none
    simp only [ioOps, adminOps, List.contains_eq_mem]
    simp
    omega

end Sys2Proof.Machine
end

section
/-! PROOFS. Doorbells that move indices, and inline commits (R61, R63 to R65, R81). -/

namespace Sys2Proof.Machine

/-! ### Doorbells -/

/-- Discarding a held inline commit leaves the tickets. -/
@[simp] theorem dropHeld_tickets (s : State) (q : Nat) : (s.dropHeld q).tickets = s.tickets := by
  unfold State.dropHeld
  dsimp only
  split <;> rfl

/-- R60, R64: a queue moved to ERROR shows its state and reason; memory and the tickets stay. -/
theorem queueError_effect (s : State) (q why : Nat) :
    ((s.queueError q why).queue q).state = 2 ∧ ((s.queueError q why).queue q).err = why ∧ (s.queueError q why).mem = s.mem ∧
      (s.queueError q why).tickets = s.tickets := by
  refine ⟨?_, ?_, (still_queueError s q why).2.1, ?_⟩
  · rw [queueError_queue_self]
  · rw [queueError_queue_self]
  · simp [State.queueError, State.setQueue]

/-- R65: a queue whose tag has gone with an inline command word; one whose held commit was taken from its doorbell page. -/
def Queue.untagged (x : Queue) : Queue := { x with inlTag := none }
def Queue.released (x : Queue) : Queue := { x with held := none }

section
variable {s : State} {h : Nat} (present : s.headExists h = true) (up : s.headUp h = true)
include present up

/-- R65: the owner of an ACTIVE queue sets the tag of its next inline commit. -/
theorem exec_inlTagWrite_active {q : Nat} (val : Nat) (owned : s.ownsQueue h q = true) (active : (s.queue q).state = 1) :
    exec (.inlTagWrite h q val) s = .next (s.begin.setQueue q { s.queue q with inlTag := some val }) := by
  change execInlTagWrite h q val s = _
  unfold execInlTagWrite
  rw [doorbell_ready present up]
  simp [owned, active]

/-- R63: a doorbell of a queue the head does not own is discarded and counted, whichever of the three it is. -/
theorem exec_doorbells_foreign {q : Nat} (val : Nat) (other : s.ownsQueue h q = false) :
    exec (.sqTailWrite h q val) s = .next (s.begin.bumpi F.QUE_ERRC_FOREIGN h) ∧
      exec (.cqHeadWrite h q val) s = .next (s.begin.bumpi F.QUE_ERRC_FOREIGN h) ∧
      exec (.inlTagWrite h q val) s = .next (s.begin.bumpi F.QUE_ERRC_FOREIGN h) := by
  refine ⟨?tail, ?head, ?tag⟩
  case tail =>
    change execSqTailWrite h q val s = _
    unfold execSqTailWrite
    rw [doorbell_ready present up]
    simp [other, State.foreign]
  case head =>
    change execCqHeadWrite h q val s = _
    unfold execCqHeadWrite
    rw [doorbell_ready present up]
    simp [other, State.foreign]
  case tag =>
    change execInlTagWrite h q val s = _
    unfold execInlTagWrite
    rw [doorbell_ready present up]
    simp [other, State.foreign]

/-- R65: what an inline command word of the owner of an ACTIVE queue that holds none does: it is captured, or held. -/
theorem exec_inlCmdWrite_active {q : Nat} (tag w : Nat) (owned : s.ownsQueue h q = true) (active : (s.queue q).state = 1)
    (unheld : (s.queue q).held = none) :
    let t := s.setQueue q (s.queue q).untagged
    exec (.inlCmdWrite h q (some tag) w) s = .next (if t.begin.inlineOpen q (some tag) w then t.begin.captureInline q (some tag) w
      else t.begin.setQueue q { t.queue q with held := some (some tag, w) }) := by
  change execInlCmdWrite h q (some tag) w s = _
  unfold execInlCmdWrite
  rw [doorbell_ready present up]
  exact congrArg Host.Outcome.next ((if_neg (by simp [owned, active])).trans ((if_neg (by simp [unheld])).trans rfl))

end

/-! ### Completing never takes a context -/

/-- R68: deciding a ticket of a queue that posts takes tickets away only. -/
theorem decideTicket_tickets_sublist {s : State} {t : Ticket} (st rs res : Nat) (posts : (s.queue t.qid).posting = true) :
    (s.decideTicket t st rs res).tickets.Sublist s.tickets := by
  have posts' : ((s.queue t.qid).settled t.kind t.seq st).posting = true := posts
  unfold State.decideTicket
  dsimp only
  rw [if_pos (by exact posts')]
  have kept : ∀ r : State, (r.postEntry t st rs res s.ck.ns).tickets = r.tickets := fun r => by
    unfold State.postEntry State.signalQueue
    dsimp only
    split
    · simp [State.setQueue]
    · rfl
  rw [kept]
  exact List.filter_sublist

/-- R81: whether a queue posts is not changed by completing tickets. -/
theorem Completing.posting {q : Nat} {s t : State} (done : Completing q s t) : (t.queue q).posting = (s.queue q).posting := by
  obtain ⟨state, _, _, _, _, _, _, _, _, _, _, _, _, _, _, _, _, _, paused, _⟩ := done.same
  simp only [Queue.posting, state, paused]

/-- R80: running the FENCEs of a queue that posts takes tickets away only. -/
theorem runFences_tickets_sublist (n : Nat) : ∀ {q : Nat} {s : State}, (s.queue q).posting = true →
    (s.runFences q n).tickets.Sublist s.tickets := by
  induction n with
  | zero => exact fun _ => List.Sublist.refl _
  | succ n ih =>
    intro q s posts
    unfold State.runFences
    split
    case h_1 none => exact List.Sublist.refl _
    case h_2 f ready =>
      have qid := readyFence_qid ready
      subst qid
      dsimp only
      generalize queued : s.setQueue f.qid _ = r
      have posts' : (r.queue f.qid).posting = true := by
        rw [← queued, State.setQueue_queue, if_pos rfl]
        exact posts
      have tickets : r.tickets = s.tickets := by rw [← queued]; rfl
      have step := decideTicket_tickets_sublist 0 (min ((s.queue f.qid).fails.filter fun a => decide (a < f.seq)).length 0xFFFFFFFF) 0 posts'
      have step := decideTicket_tickets_sublist 0 0 (min ((s.queue f.qid).fails.filter fun a => decide (a < f.seq)).length 0xFFFFFFFF) posts'
      rw [tickets] at step
      exact (ih ((completing_decideTicket r f 0 0 _).posting.trans posts')).trans step

/-- R68, R80: completing a ticket of a queue that posts takes tickets away only. -/
theorem finish_tickets_sublist {s : State} {t : Ticket} (st rs res : Nat) (posts : (s.queue t.qid).posting = true) :
    (s.finish t st rs res).tickets.Sublist s.tickets := by
  have check : ∀ r : State, r.poolCheck.tickets = r.tickets := fun r => by unfold State.poolCheck; split <;> rfl
  unfold State.finish
  dsimp only
  rw [check]
  exact (runFences_tickets_sublist _ ((completing_decideTicket s t st rs res).posting.trans posts)).trans
    (decideTicket_tickets_sublist st rs res posts)

/-- R77: completing a ticket of a queue that posts takes no context of the common pool. -/
theorem finish_commonUsed_le {s : State} {t : Ticket} (st rs res : Nat) (posts : (s.queue t.qid).posting = true) :
    (s.finish t st rs res).commonUsed ≤ s.commonUsed :=
  ((finish_tickets_sublist st rs res posts).filter _).length_le

/-! ### An inline HELD COMMIT -/

/-- R65: an inline word that spells a HELD COMMIT with no reserved bit set: kind 1, level 1. -/
def SpellsHeldCommit (w : Nat) : Prop := natField w 62 2 = 1 ∧ natField w 60 2 = 1 ∧ natField w 0 2 = 0

/-- R65: the share, offset and length an inline word names. -/
def inlineShare (w : Nat) : Nat := natField w 54 6
def inlineOff (w : Nat) : Nat := natField w 22 32 * 4096
def inlineLen (w : Nat) : Nat := (natField w 2 20 + 1) * 4096

/-- R25, R65, R71: the queue is an I/O queue and the range an inline word names can hold a HELD COMMIT at once: it is valid, the share is not being
sealed, and its mode is HELD or TWINED. -/
def HoldsInline (s : State) (q w : Nat) : Prop :=
  (s.queue q).admin = false ∧ s.rangeFault (s.queue q).head (inlineShare w) (inlineOff w) (inlineLen w) false = none ∧
    s.sealing (inlineShare w) = false ∧ (s.shMode (inlineShare w) = mdHeld ∨ s.shMode (inlineShare w) = mdTwined)

section
variable {s : State} {q w : Nat} (spelled : SpellsHeldCommit w) (holds : HoldsInline s q w)
include spelled holds

/-- R65, R71: an inline HELD COMMIT that can hold at once is captured and completed DONE. -/
theorem captureInline_held (tag : Nat) :
    let c := s.newTicket q tag .commit 1 (inlineShare w) false true
    s.captureInline q (some tag) w = c.1.finish (s.commitTicket c.2 (inlineShare w) (inlineOff w) (inlineLen w)) 0 0 0 := by
  obtain ⟨kind, level, plain⟩ := spelled
  obtain ⟨io, valid, unsealed, mode⟩ := holds
  have accepted : modeAccepts (s.shMode (inlineShare w)) 1 = true := by rcases mode with mode | mode <;> rw [mode] <;> rfl
  have deep : s.shMode (inlineShare w) ≠ mdWritethru := by rcases mode with mode | mode <;> rw [mode] <;> decide
  have captured := (captureCommit_accepted (tag := tag) (u := false) (inl := true) valid unsealed accepted (.inl rfl)).trans
    (if_pos (.inl ⟨rfl, deep⟩))
  intro c
  refine Eq.trans ?_ captured
  simp [State.captureInline, io, kind, level, plain]
  rfl

/-- R61, R65, R77: an inline HELD COMMIT that can hold at once can be captured on an ACTIVE queue that is not paused and has room, while the pool
is not overdrawn. -/
theorem inlineOpen_held (tag : Nat) (active : (s.queue q).state = 1) (running : (s.queue q).paused = false) (room : s.hasRoom q = true)
    (pool : s.commonUsed ≤ 1048320) : s.inlineOpen q (some tag) w = true := by
  have queue := newTicket_queue_plain s tag .commit 1 (inlineShare w) false (q := q) (inl := true) (.inl rfl)
  have posts : ((s.newTicket q tag .commit 1 (inlineShare w) false true).1.queue q).posting = true := by
    rw [queue]
    simp [Queue.posting, active, running]
  have used := finish_commonUsed_le (t := s.commitTicket (s.newTicket q tag .commit 1 (inlineShare w) false true).2 (inlineShare w) (inlineOff w)
    (inlineLen w)) 0 0 0 posts
  have used' : (s.newTicket q tag .commit 1 (inlineShare w) false true).1.commonUsed = s.commonUsed := rfl
  unfold State.inlineOpen
  rw [captureInline_held spelled holds tag]
  simp [active, running, room]
  omega

/-- R65, R67, R71: an inline HELD COMMIT that can hold at once posts DONE and leaves memory, the dirty map, the index and every register. -/
theorem captureInline_held_posts (tag : Nat) (posts : (s.queue q).posting = true) :
    Posts s (s.begin.captureInline q (some tag) w) q tag (inlineShare w) 1 true 0 0 0 ∧ Leaves s (s.begin.captureInline q (some tag) w) [] ∧
      ((s.begin.captureInline q (some tag) w).queue q).held = (s.queue q).held := by
  have captured := captureInline_held (s := s.begin) spelled holds tag
  rw [captured]
  obtain ⟨posted, leaves⟩ := finish_posts_leaves (s := s) (q := q) (tag := tag) (share := inlineShare w) (level := 1) (k := .commit) (u := false)
    (inl := true) posts (.inl rfl) (commitTicket_shownAs s.begin _ (inlineShare w) (inlineOff w) (inlineLen w)) 0 0 0
  refine ⟨posted, leaves, ?held⟩
  case held =>
    have queue := newTicket_queue_plain s.begin tag .commit 1 (inlineShare w) false (q := q) (inl := true) (.inl rfl)
    have done := completing_finish (s.begin.newTicket q tag .commit 1 (inlineShare w) false true).1
      (s.begin.commitTicket (s.begin.newTicket q tag .commit 1 (inlineShare w) false true).2 (inlineShare w) (inlineOff w) (inlineLen w)) 0 0 0
    obtain ⟨_, _, _, _, _, _, _, _, _, _, _, _, _, _, _, _, _, held, _⟩ := done.same
    have kept : ((s.begin.newTicket q tag .commit 1 (inlineShare w) false true).1.queue q).held = (s.queue q).held := by
      rw [queue]
      rfl
    exact held.trans kept

end

/-- A completion entry posted from a state with one field of the queue changed that the entry does not show. -/
theorem Posts.of_setQueue {s t : State} {q tag share level st rs res : Nat} {inl : Bool} (x : Queue)
    (posted : Posts (s.setQueue q x) t q tag share level inl st rs res)
    (same : x.sqHead = (s.queue q).sqHead ∧ x.depth = (s.queue q).depth ∧ x.cqTail = (s.queue q).cqTail ∧ x.last = (s.queue q).last ∧
      x.phase = (s.queue q).phase) : Posts s t q tag share level inl st rs res := by
  obtain ⟨head, depth, tail, last, phase⟩ := same
  simp only [Posts, State.setQueue_queue, if_true, head, depth, tail, last, phase] at posted ⊢
  exact posted

/-- R61, R65: an inline commit that is not permitted is held with its tag. -/
theorem exec_inlCmdWrite_held {s : State} {h q : Nat} (tag w : Nat) (active : (s.queue q).state = 1)
    (present : s.headExists h = true) (up : s.headUp h = true) (owned : s.ownsQueue h q = true)
    (unheld : (s.queue q).held = none) (closed : (s.queue q).paused = true ∨ s.hasRoom q = false) :
    ∃ t, exec (.inlCmdWrite h q (some tag) w) s = .next t ∧ (t.queue q).held = some (some tag, w) ∧ (t.queue q).last = (s.queue q).last := by
  have queue : (s.setQueue q (s.queue q).untagged).queue q = (s.queue q).untagged := by rw [State.setQueue_queue, if_pos rfl]
  have shut : (s.setQueue q (s.queue q).untagged).begin.inlineOpen q (some tag) w = false := by
    have rooms : (s.setQueue q (s.queue q).untagged).begin.hasRoom q = s.hasRoom q := by
      unfold State.hasRoom
      rw [State.begin_queue, queue]
      rfl
    have pauses : ((s.setQueue q (s.queue q).untagged).begin.queue q).paused = (s.queue q).paused := by
      rw [State.begin_queue, queue]
      rfl
    unfold State.inlineOpen
    rw [rooms, pauses]
    rcases closed with paused | full <;> simp [*]
  refine ⟨_, exec_inlCmdWrite_active present up tag w owned active unheld, ?_⟩
  rw [shut, if_neg (by decide), State.setQueue_queue, if_pos rfl, queue]
  exact ⟨rfl, rfl⟩

/-- What an inline HELD COMMIT of queue q needs does not change with what the queue keeps of it. -/
theorem HoldsInline.setQueue {s : State} {q w : Nat} (holds : HoldsInline s q w) {x : Queue} (admin : x.admin = (s.queue q).admin)
    (head : x.head = (s.queue q).head) : HoldsInline (s.setQueue q x) q w := by
  obtain ⟨io, valid, unsealed, mode⟩ := holds
  refine ⟨?_, ?_, unsealed, mode⟩
  · rw [State.setQueue_queue, if_pos rfl, admin, io]
  · rw [State.setQueue_queue, if_pos rfl, head]
    exact valid

section
variable {s : State} {q w : Nat} (spelled : SpellsHeldCommit w) (holds : HoldsInline s q w) (active : (s.queue q).state = 1)
include spelled holds active

/-- R65: a state whose queue q was changed in what it keeps of an inline commit alone captures the commit and posts DONE. -/
theorem captureInline_after_setQueue (tag : Nat) {x : Queue} (same : x.same { s.queue q with inlTag := x.inlTag, held := x.held })
    (shown : x.cqTail = (s.queue q).cqTail ∧ x.phase = (s.queue q).phase) (running : (s.queue q).paused = false) :
    Posts s ((s.setQueue q x).begin.captureInline q (some tag) w) q tag (inlineShare w) 1 true 0 0 0 ∧
      Leaves s ((s.setQueue q x).begin.captureInline q (some tag) w) [] ∧
      (((s.setQueue q x).begin.captureInline q (some tag) w).queue q).held = x.held := by
  obtain ⟨state, _, head, admin, depth, _, _, _, _, _, _, _, _, sqHead, _, last, _, _, paused, _⟩ := same
  obtain ⟨tail, phase⟩ := shown
  have queue : (s.setQueue q x).queue q = x := by rw [State.setQueue_queue, if_pos rfl]
  have posts : ((s.setQueue q x).queue q).posting = true := by
    rw [queue]
    simp [Queue.posting, state, active, paused, running]
  obtain ⟨posted, leaves, held⟩ := captureInline_held_posts spelled (holds.setQueue admin head) tag posts
  exact ⟨Posts.of_setQueue x posted ⟨sqHead, depth, tail, last, phase⟩, leaves, held.trans (congrArg Queue.held queue)⟩

/-- R61, R65: an inline HELD COMMIT that is permitted posts DONE. -/
theorem exec_inlCmdWrite_now {h : Nat} (tag : Nat) (present : s.headExists h = true) (up : s.headUp h = true) (owned : s.ownsQueue h q = true)
    (unheld : (s.queue q).held = none) (running : (s.queue q).paused = false) (room : s.hasRoom q = true) (pool : s.commonUsed ≤ 1048320) :
    ∃ t, exec (.inlCmdWrite h q (some tag) w) s = .next t ∧ Posts s t q tag (inlineShare w) 1 true 0 0 0 ∧ Leaves s t [] := by
  have queue : (s.setQueue q (s.queue q).untagged).queue q = (s.queue q).untagged := by rw [State.setQueue_queue, if_pos rfl]
  have rooms : (s.setQueue q (s.queue q).untagged).hasRoom q = s.hasRoom q := by unfold State.hasRoom; rw [queue]; rfl
  have opened := inlineOpen_held (s := (s.setQueue q (s.queue q).untagged).begin) spelled (holds.setQueue rfl rfl) tag
    (by rw [State.begin_queue, queue]; exact active) (by rw [State.begin_queue, queue]; exact running) (rooms.trans room) pool
  obtain ⟨posted, leaves, _⟩ := captureInline_after_setQueue spelled holds active tag (x := (s.queue q).untagged) (Queue.same_refl _) ⟨rfl, rfl⟩ running
  refine ⟨_, ?_, posted, leaves⟩
  rw [exec_inlCmdWrite_active present up tag w owned active unheld, if_pos opened]

/-- R65: a held inline HELD COMMIT posts DONE once the queue permits, and is held no more. -/
theorem exec_inlineCommitRelease_held (tag : Nat) (held : (s.queue q).held = some (some tag, w)) (running : (s.queue q).paused = false)
    (room : s.hasRoom q = true) (pool : s.commonUsed ≤ 1048320) :
    ∃ t, exec (.inlineCommitRelease q) s = .next t ∧ Posts s t q tag (inlineShare w) 1 true 0 0 0 ∧ (t.queue q).held = none ∧ Leaves s t [] := by
  have opened := inlineOpen_held (s := s.begin) spelled holds tag active running room pool
  obtain ⟨posted, leaves, freed⟩ := captureInline_after_setQueue spelled holds active tag (x := (s.queue q).released) (Queue.same_refl _) ⟨rfl, rfl⟩ running
  have answer : exec (.inlineCommitRelease q) s = .next ((s.setQueue q (s.queue q).released).begin.captureInline q (some tag) w) := by
    change execInlineCommitRelease q s = _
    unfold execInlineCommitRelease State.releaseInline
    rw [State.begin_queue, held]
    dsimp only
    rw [if_pos opened]
    rfl
  exact ⟨_, answer, posted, freed, leaves⟩

end

/-! ### The obligation -/

/-- Settles O5: the doorbells' answers, and an inline HELD COMMIT captured, held, or released. -/
theorem doorbellsAndInline : Obligations.DoorbellsAndInline := by
  refine ⟨fun s h q val present up => ⟨?tail, ?badTail, ?head, ?badHead, ?tag, fun other => exec_doorbells_foreign present up val other⟩,
    fun s h q tag w => ?inline⟩
  case tail =>
    intro owned active inRange ahead
    rw [exec_sqTailWrite_active present up owned active val, if_neg (Nat.not_le.mpr inRange), if_pos ahead]
  case badTail =>
    intro owned active past
    rw [exec_sqTailWrite_active present up owned active val, if_pos past]
    exact ⟨_, rfl, queueError_effect s.begin q 1⟩
  case head =>
    intro owned active inRange posted
    rw [exec_cqHeadWrite_active present up owned active val, if_neg (Nat.not_le.mpr inRange), if_neg (Nat.not_lt.mpr posted)]
  case badHead =>
    intro owned active past
    rw [exec_cqHeadWrite_active present up owned active val, if_pos past]
    exact ⟨_, rfl, queueError_effect s.begin q 2⟩
  case tag => exact fun owned active => exec_inlTagWrite_active present up val owned active
  case inline =>
    intro share off len kind level plain active io valid unsealed mode
    have spelled : SpellsHeldCommit w := ⟨kind, level, plain⟩
    have holds : HoldsInline s q w := ⟨io, valid, unsealed, mode⟩
    exact ⟨fun present up owned => exec_inlCmdWrite_now spelled holds active tag present up owned,
      fun present up owned => exec_inlCmdWrite_held tag w active present up owned,
      exec_inlineCommitRelease_held spelled holds active tag⟩

end Sys2Proof.Machine
end

section
/-! PROOFS. Queue administration (R59, R76, R85) and the interrupts of completion queues (R79, R407). -/

namespace Sys2Proof.Machine

/-! ### Admin operations -/

/-- R67, R74: the ticket of a ready admin queue's operation, completed from a state whose admin queue and clock are those the capture left and which
has sent nothing, posts first. -/
theorem admin_posts {s r : State} {h : Nat} (ready : AdminReady s h) (tag share st rs res : Nat)
    (queue : r.queue (s.adminQueue h) = (adminCapture s h tag share).1.queue (s.adminQueue h)) (clock : r.ck = s.ck) (out : r.out = []) :
    Posts s (r.finish (adminCapture s h tag share).2 st rs res) (s.adminQueue h) tag share 0 false st rs res := by
  obtain ⟨_, _, can, _, _, plain⟩ := ready
  have captured := newTicket_queue s.begin (s.adminQueue h) tag .admin 0 share false false plain
  have named : ((s.begin.queue (s.adminQueue h)).submitted.getD (share, 0, false)) = (share, 0, false) := by simp [plain]
  exact posts_finish (s := s.begin) (u := false) (k := .admin) st rs res can plain queue clock out rfl rfl rfl (congrArg Prod.fst named)
    (congrArg (fun p => p.2.1) named) rfl (by rw [queue]; exact (congrArg Queue.sqHead captured).symm)

/-- R74: the capture of an admin operation leaves every other queue. -/
theorem adminCapture_queue_ne (s : State) (h tag share : Nat) {q : Nat} (other : q ≠ s.adminQueue h) :
    (adminCapture s h tag share).1.queue q = s.queue q := by
  have captured : (adminCapture s h tag share).1.queue q = _ := State.setQueue_queue s.begin (s.adminQueue h) _ q
  rw [captured, if_neg (Ne.symm other), State.begin_queue]

/-- R74: the ticket of an admin operation is on the admin queue. -/
theorem adminCapture_qid (s : State) (h tag share : Nat) : (adminCapture s h tag share).2.qid = s.adminQueue h := rfl

/-- R76: an I/O queue of a head is not its admin queue. -/
theorem ne_adminQueue_of_ioQueueOf {s : State} {h q : Nat} (io : s.ioQueueOf h q = true) : q ≠ s.adminQueue h := by
  simp only [State.ioQueueOf, Bool.and_eq_true, bne_iff_ne] at io
  exact io.2

/-! ### QUEUE_CREATE, QUEUE_DELETE, REPORT_READ -/

section
variable {s : State} {h qid : Nat} (ready : AdminReady s h) (io : s.ioQueueOf h qid = true)
include ready io

/-- R76: QUEUE_CREATE of a DISABLED I/O queue with aligned rings, a depth and a vector makes the queue and completes DONE. -/
theorem exec_queueCreate_ready (tag sqb cqb cfg : Nat) (disabled : (s.queue qid).state = 0) (sqAligned : sqb % 4096 = 0)
    (cqAligned : cqb % 4096 = 0) (depth : natField cfg 0 16 ≠ 0) (vec : natField cfg 40 11 ≠ 0) :
    let c := adminCapture s h tag 0
    exec (.queueCreate h tag qid sqb cqb cfg) s = .next ((c.1.setQueue qid (newQueue h false (natField cfg 0 16 + 1) sqb cqb
      (natField cfg 40 11) (natField cfg 24 8) (natField cfg 32 8) (natBit cfg 58) (natBit cfg 59))).finish c.2 0 0 0) := by
  have io' : (adminCapture s h tag 0).1.ioQueueOf h qid = true := io
  have disabled' : ((adminCapture s h tag 0).1.queue qid).state = 0 := by
    rw [adminCapture_queue_ne s h tag 0 (ne_adminQueue_of_ioQueueOf io), disabled]
  change execQueueCreate h tag qid sqb cqb cfg s = _
  unfold execQueueCreate
  rw [adminOp_ready ready]
  simp [State.queueCreate, io', disabled', sqAligned, cqAligned, depth, vec]

/-- R76: QUEUE_DELETE of an ACTIVE I/O queue without tickets deletes it and completes DONE. -/
theorem exec_queueDelete_ready (tag : Nat) (active : (s.queue qid).state = 1) (idle : ∀ a ∈ s.tickets, a.qid ≠ qid) :
    let c := adminCapture s h tag 0
    exec (.queueDelete h tag qid) s = .next ((c.1.deleteQueue qid).finish c.2 0 0 0) := by
  have io' : (adminCapture s h tag 0).1.ioQueueOf h qid = true := io
  have active' : ((adminCapture s h tag 0).1.queue qid).state = 1 := by
    rw [adminCapture_queue_ne s h tag 0 (ne_adminQueue_of_ioQueueOf io), active]
  have none_open : (adminCapture s h tag 0).1.tickets.filter (fun t => t.qid == qid && t.outcome.isNone) = [] :=
    List.filter_eq_nil_iff.mpr fun a ha => by simp [idle a ha]
  change execQueueDelete h tag qid s = _
  unfold execQueueDelete
  rw [adminOp_ready ready]
  simp [State.queueDelete, io', active', none_open]

end

/-- R85: REPORT_READ of an aligned buffer writes the report's header and records and completes DONE. -/
theorem exec_reportRead_ready {s : State} {h : Nat} (ready : AdminReady s h) (tag kind first : Nat) {buf len : Nat} (aligned : buf % 32 = 0)
    (whole : len % 32 = 0) (room : 64 ≤ len) :
    let c := adminCapture s h tag 0
    let recs := ((s.reportRecs h (kind % 2)).drop first).take (len / 32 - 1)
    exec (.reportRead h tag kind first buf len) s = .next ((c.1.send (.hostWrite h buf
      (s.reportHeader (kind % 2) (s.reportRecs h (kind % 2)).length recs.length first ++ recs.flatten))).finish c.2 0 0 recs.length) := by
  change execReportRead h tag kind first buf len s = _
  unfold execReportRead
  rw [adminOp_ready ready]
  exact congrArg Host.Outcome.next (if_neg (by simp [aligned, whole]; omega))

/-- R65: a queue that holds no inline commit has none to discard. -/
theorem dropHeld_unheld {s : State} {q : Nat} (unheld : (s.queue q).held = none) : s.dropHeld q = s := by
  simp [State.dropHeld, unheld]

/-- R78: the check for the end of an episode changes at most whether the pool is exhausted. -/
theorem poolCheck_frame (s : State) : ∃ b, s.poolCheck = { s with poolOut := b } := by
  unfold State.poolCheck
  split
  · exact ⟨false, rfl⟩
  · exact ⟨s.poolOut, rfl⟩

/-- R76: a queue without tickets or a held inline commit is deleted: it is DISABLED with an empty ring, and of the rest at most the end of an
exhausted pool's episode shows. -/
theorem deleteQueue_idle {s : State} {q : Nat} (unheld : (s.queue q).held = none) (idle : ∀ a ∈ s.tickets, a.qid ≠ q) :
    ∃ b x y, s.deleteQueue q = { s with queues := FMap.put (FMap.put (FMap.put s.queues q x) q y) q { y with
      state := 0, ring := [], inlTag := none, barrier := none, unsig := 0 }, poolOut := b } := by
  let x : Queue := { s.queue q with state := 3 }
  let y : Queue := { x with barrier := none }
  have none_open : s.tickets.filter (fun t => t.qid == q && t.outcome.isNone) = [] := List.filter_eq_nil_iff.mpr fun a ha => by simp [idle a ha]
  have aborted : (s.setQueue q x).abortQueue q = ((s.setQueue q x).setQueue q y).poolCheck := by
    have queue : (s.setQueue q x).queue q = x := by rw [State.setQueue_queue, if_pos rfl]
    have none_open' : (s.setQueue q x).tickets.filter (fun t => t.qid == q && t.outcome.isNone) = [] := none_open
    unfold State.abortQueue
    rw [none_open']
    dsimp only [List.foldl_nil]
    rw [queue]
  obtain ⟨b, checked⟩ := poolCheck_frame ((s.setQueue q x).setQueue q y)
  refine ⟨b, x, y, ?_⟩
  unfold State.deleteQueue
  rw [dropHeld_unheld unheld]
  dsimp only
  rw [aborted, checked]
  have queue : State.queue { (s.setQueue q x).setQueue q y with poolOut := b } q = y := by simp [State.queue, State.setQueue]
  rw [queue]
  rfl

/-! ### QUE_ACTL -/

/-- R76: deleting a queue, whatever it holds, leaves it DISABLED. -/
theorem deleteQueue_state (s : State) (q : Nat) : ((s.deleteQueue q).queue q).state = 0 := by
  unfold State.deleteQueue
  dsimp only
  rw [State.setQueue_queue, if_pos rfl]

/-- R57: a head that owns a queue exists. -/
theorem headExists_of_ownsQueue {s : State} {h q : Nat} (owned : s.ownsQueue h q = true) : s.headExists h = true := by
  simp only [State.ownsQueue, Bool.and_eq_true] at owned
  exact owned.1.1

section
variable {s : State} {h : Nat} (owned : s.ownsQueue h (s.adminQueue h) = true)
include owned

/-- R59: QUE_ACTL with EN 0 deletes the admin queue that EN 1 stands for. -/
theorem exec_queActlWrite_off {val : Nat} (on : s.flagi F.QUE_ACTL_EN h = true) (off : natBit val 63 = false) :
    exec (.queActlWrite h val) s = .next ((s.begin.deleteQueue (s.adminQueue h)).wri F.QUE_ACTL_EN h 0) := by
  have present := headExists_of_ownsQueue owned
  change execQueActlWrite h val s = _
  simp [execQueActlWrite, present, owned, on, off]

/-- R59: the registers of the admin queue written by QUE_ACTL while EN is 0. -/
def State.actlFields (s : State) (h val : Nat) : State :=
  ((((s.wri F.QUE_ACTL_AGGT h (natField val 48 8)).wri F.QUE_ACTL_AGGC h (natField val 40 8)).wri F.QUE_ACTL_IEN h
    (natField val 35 1)).wri F.QUE_ACTL_VEC h (max 1 (natField val 24 11))).wri F.QUE_ACTL_DEPTHM1 h (max 1 (natField val 0 12))

omit owned in
/-- R59: writing QUE_ACTL moves no queue. -/
theorem actlFields_adminQueue (val : Nat) : (s.actlFields h val).adminQueue h = s.adminQueue h := by
  unfold State.adminQueue State.actlFields
  rw [State.wri_rdi_ne _ _ (by simp [Field.key, F.QUE_ACTL_DEPTHM1, F.QUE_ALLOC_FIRST]; omega),
    State.wri_rdi_ne _ _ (by simp [Field.key, F.QUE_ACTL_VEC, F.QUE_ALLOC_FIRST]; omega),
    State.wri_rdi_ne _ _ (by simp [Field.key, F.QUE_ACTL_IEN, F.QUE_ALLOC_FIRST]; omega),
    State.wri_rdi_ne _ _ (by simp [Field.key, F.QUE_ACTL_AGGC, F.QUE_ALLOC_FIRST]; omega),
    State.wri_rdi_ne _ _ (by simp [Field.key, F.QUE_ACTL_AGGT, F.QUE_ALLOC_FIRST]; omega)]

omit owned in
/-- R59: the depth of the admin queue is the one written, at least 2. -/
theorem actlFields_depth (val : Nat) : (s.actlFields h val).rdi F.QUE_ACTL_DEPTHM1 h = max 1 (natField val 0 12) := by
  have fits : natField val 0 12 < 2 ^ 12 := Nat.mod_lt _ (by decide)
  unfold State.actlFields
  rw [State.wri_rdi_self]
  exact Nat.mod_eq_of_lt (by change _ < 2 ^ 12; omega)

/-- R59: QUE_ACTL with EN 1 makes the admin queue from the registers it writes, while the ticket engine is ready. -/
theorem exec_queActlWrite_on {val : Nat} (off : s.flagi F.QUE_ACTL_EN h = false) (on : natBit val 63 = true)
    (engine : natBit (s.rd F.GEN_READY_BITS) 13 = true) :
    let t := s.begin.actlFields h val
    exec (.queActlWrite h val) s = .next ((t.setQueue (t.adminQueue h) (newQueue h true (t.rdi F.QUE_ACTL_DEPTHM1 h + 1)
      (t.rdi F.QUE_ASQB_ADDR h * 4096) (t.rdi F.QUE_ACQB_ADDR h * 4096) (t.rdi F.QUE_ACTL_VEC h) (t.rdi F.QUE_ACTL_AGGC h)
      (t.rdi F.QUE_ACTL_AGGT h) (t.flagi F.QUE_ACTL_IEN h) false)).wri F.QUE_ACTL_EN h 1) := by
  have present := headExists_of_ownsQueue owned
  change execQueActlWrite h val s = _
  unfold execQueActlWrite
  exact (if_neg (by simp [present])).trans ((if_neg (by simp [owned, on, engine])).trans ((if_neg (by simp [off])).trans (if_pos on)))

end

/-- Settles O6: the answers above, their frames and what the admin queue posts. -/
theorem queueAdmin : Obligations.QueueAdmin := by
  refine ⟨fun s h tag qid sqb cqb cfg ready io disabled sqAligned cqAligned depth vec => ?create,
    fun s h tag qid ready io active unheld idle => ?delete, fun s h tag kind first buf len ready aligned whole room => ?report,
    fun s h val owned off on engine => ?enable, fun s h val owned on off => ?disable⟩
  case create =>
    have other := ne_adminQueue_of_ioQueueOf io
    refine ⟨_, exec_queueCreate_ready ready io tag sqb cqb cfg disabled sqAligned cqAligned depth vec, ?_⟩
    have made := (completing_finish ((adminCapture s h tag 0).1.setQueue qid (newQueue h false (natField cfg 0 16 + 1) sqb cqb
      (natField cfg 40 11) (natField cfg 24 8) (natField cfg 32 8) (natBit cfg 58) (natBit cfg 59))) (adminCapture s h tag 0).2 0 0 0).others qid other
    rw [State.setQueue_queue, if_pos rfl] at made
    rw [made]
    refine ⟨?_, rfl, rfl, rfl, rfl, rfl, rfl, rfl, rfl, rfl, ?_⟩
    · exact admin_posts ready tag 0 0 0 0 (by rw [State.setQueue_queue, if_neg other]) rfl rfl
    · exact ((leaves_adminCapture s h tag 0 []).setQueue qid _).finish _ 0 0 0
  case delete =>
    have other := ne_adminQueue_of_ioQueueOf io
    refine ⟨_, exec_queueDelete_ready ready io tag active idle, ?_⟩
    have unheld' : ((adminCapture s h tag 0).1.queue qid).held = none := by rw [adminCapture_queue_ne s h tag 0 other, unheld]
    obtain ⟨b, x, y, deleted⟩ := deleteQueue_idle unheld' (s := (adminCapture s h tag 0).1) idle
    have gone := (completing_finish ((adminCapture s h tag 0).1.deleteQueue qid) (adminCapture s h tag 0).2 0 0 0).others qid other
    rw [gone]
    refine ⟨?_, deleteQueue_state _ qid, ?_, ?_⟩
    · refine admin_posts ready tag 0 0 0 0 ?_ ?_ ?_ <;> rw [deleted]
      · simp [State.queue, FMap.get_put, other]
      · rfl
      · rfl
    · rw [deleted]
      simp [State.queue]
    · exact ((leaves_adminCapture s h tag 0 []).still (still_deleteQueue _ qid) (by rw [deleted])).finish _ 0 0 0
  case report =>
    have posts : ((adminCapture s h tag 0).1.queue (s.adminQueue h)).posting = true := by
      obtain ⟨_, _, can, _, _, plain⟩ := ready
      have captured := newTicket_queue s.begin (s.adminQueue h) tag .admin 0 0 false false plain
      exact (congrArg Queue.posting captured).trans (canTake_posting can)
    have answer := exec_reportRead_ready ready tag kind first aligned whole room
    obtain ⟨o, out⟩ := finish_out ((adminCapture s h tag 0).1.send (.hostWrite h buf (s.reportHeader (kind % 2)
      (s.reportRecs h (kind % 2)).length (((s.reportRecs h (kind % 2)).drop first).take (len / 32 - 1)).length first ++
      (((s.reportRecs h (kind % 2)).drop first).take (len / 32 - 1)).flatten))) (adminCapture s h tag 0).2 0 0
      (((s.reportRecs h (kind % 2)).drop first).take (len / 32 - 1)).length posts
    exact ⟨_, _, answer, out, ((leaves_adminCapture s h tag 0 []).send _).finish _ 0 0 _⟩
  case enable =>
    refine ⟨_, exec_queActlWrite_on owned off on engine, ?_, ?_⟩
    · unfold State.flagi
      rw [State.wri_rdi_self]
      rfl
    · rw [State.wri_queue, actlFields_adminQueue, State.begin_adminQueue, State.setQueue_queue, if_pos rfl, actlFields_depth]
      exact ⟨rfl, rfl, rfl, rfl⟩
  case disable =>
    obtain ⟨_, mem, _⟩ := still_deleteQueue s.begin (s.adminQueue h)
    have disabled := deleteQueue_state s.begin (s.adminQueue h)
    refine ⟨_, exec_queActlWrite_off owned on off, ?_, ?_, ?_⟩
    · unfold State.flagi
      rw [State.wri_rdi_self]
      rfl
    · rw [State.wri_queue, disabled]
    · rw [State.wri_mem, mem, State.begin_mem]

/-! ### Interrupts -/

/-- R79: the aggregation timeout of a queue with completions not signalled signals its vector. -/
theorem exec_interruptAggregationTimeout_due {s : State} {q : Nat} (ien : (s.queue q).ien = true) (aggt : (s.queue q).aggt ≠ 0)
    (unsig : (s.queue q).unsig ≠ 0) (posting : (s.queue q).posting = true) :
    exec (.interruptAggregationTimeout q) s = .next (s.begin.signalQueue q) := by
  change execInterruptAggregationTimeout q s = _
  unfold execInterruptAggregationTimeout
  exact if_pos (by simp [ien, aggt, unsig, posting])

/-- R407: an unmasked vector of a head whose function is not masked and whose link is in L0 is sent. -/
theorem msix_unmasked {s : State} {k v : Nat} (fmask : (s.head k).fmask = false) (unmasked : v ∈ (s.head k).unmasked) (up : s.headUp k = true) :
    s.msix k v = s.send (.msix k v) := by
  simp [State.msix, fmask, unmasked, up]

/-- Settles O7: the timeout's answer, and the two forms of an unmask. -/
theorem interrupts : Obligations.Interrupts := by
  refine ⟨fun s q ien aggt unsig posting => ?timeout, fun s h v pending fmask up => ?unmask, fun s h quiet => ?function⟩
  case timeout =>
    refine ⟨_, exec_interruptAggregationTimeout_due ien aggt unsig posting, ?_, ?_, fun fmask unmasked up => ?_⟩
    · have queues : ∀ r : State, (r.msix (s.queue q).head (s.queue q).vec).queue q = r.queue q := fun r => by simp [State.queue]
      unfold State.signalQueue
      dsimp only
      rw [State.begin_queue, queues, State.setQueue_queue, if_pos rfl]
    · exact ((leaves_begin s []).setQueue q _).msix _ _
    · unfold State.signalQueue
      rw [State.begin_queue, msix_unmasked (s := s.begin.setQueue q _) fmask unmasked up]
      rfl
  case unmask =>
    let x : Head := { s.head h with
      unmasked := if (s.head h).unmasked.contains v then (s.head h).unmasked else v :: (s.head h).unmasked
      msixPend := (s.head h).msixPend.filter (· != v) }
    have shown : (s.begin.setHead h x).head h = x := by rw [State.setHead_head, if_pos rfl]
    have unmasked : v ∈ x.unmasked := by
      by_cases already : v ∈ (s.head h).unmasked <;> simp [x, already]
    have answer : exec (.msixVectorUnmask h (some v)) s = .next ((s.begin.setHead h x).send (.msix h v)) := by
      have sent := msix_unmasked (s := s.begin.setHead h x) (k := h) (v := v) (by rw [shown]; exact fmask) (by rw [shown]; exact unmasked) up
      rw [← sent]
      exact congrArg Host.Outcome.next (if_pos (by simpa using pending))
    refine ⟨_, answer, ?_, ?_, rfl, ((leaves_begin s []).setHead h x).send _⟩
    · exact (congrArg Head.unmasked shown).symm ▸ unmasked
    · have gone : v ∉ x.msixPend := by simp [x]
      exact (congrArg Head.msixPend shown).symm ▸ gone
  case function =>
    change execMsixVectorUnmask h none s = _
    simp [execMsixVectorUnmask, quiet]

end Sys2Proof.Machine
end

section
/-! PROOFS. The segment maps, and what a committed slot makes of its unit (R88). -/

namespace Sys2Proof

/-- A read where an entry was cut. -/
theorem Segs.get_cutOne_append {α : Type} (d : α) (lo hi a b : Nat) (v : α) (m : Segs α) (x : Nat) (outside : x < lo ∨ hi ≤ x) :
    Segs.get d (Segs.cutOne lo hi a b v ++ m) x = if a ≤ x ∧ x < b then v else Segs.get d m x := by
  unfold Segs.cutOne
  split <;> split <;> simp only [List.nil_append, List.cons_append, Segs.get] <;> grind

/-- A read after a range was cut: the default inside, as before outside. -/
theorem Segs.get_cut {α : Type} (d : α) (lo hi : Nat) (m : Segs α) (x : Nat) :
    Segs.get d (Segs.cut lo hi m) x = if lo ≤ x ∧ x < hi then d else Segs.get d m x := by
  induction m with
  | nil => simp [Segs.cut, Segs.get]
  | cons e m ih =>
    obtain ⟨a, b, v⟩ := e
    by_cases inside : lo ≤ x ∧ x < hi
    · rw [if_pos inside] at ih ⊢
      unfold Segs.cut Segs.cutOne
      split <;> split <;> simp only [List.nil_append, List.cons_append, Segs.get, ih] <;> grind
    · rw [if_neg inside] at ih ⊢
      rw [Segs.cut, Segs.get_cutOne_append d lo hi a b v _ x (by omega), ih, Segs.get]

/-- A read after a range was set to one value. -/
theorem Segs.get_fill {α : Type} (d : α) (m : Segs α) (lo hi : Nat) (v : α) (x : Nat) :
    Segs.get d (Segs.fill m lo hi v) x = if lo ≤ x ∧ x < hi then v else Segs.get d m x := by
  unfold Segs.fill
  split
  · rw [Segs.get, Segs.get_cut]
    split <;> rfl
  · rw [if_neg (by omega)]

/-- A read after one number was set. -/
theorem Segs.get_put {α : Type} (d : α) (m : Segs α) (x : Nat) (v : α) (y : Nat) :
    Segs.get d (Segs.put m x v) y = if y = x then v else Segs.get d m y := by
  rw [Segs.put, Segs.get_fill]
  exact if_congr (by omega) rfl rfl

namespace Machine

/-- The index entry of a unit after one unit's entry was set. -/
theorem State.setIndex_idx (s : State) (u : Nat) (e : IdxEntry) (v : Nat) :
    (s.setIndex u (u + 1) e).idx v = if v = u then e else s.idx v := by
  have at_ : (u ≤ v ∧ v ≤ u) = (v = u) := propext (by omega)
  cases e <;> simp [State.setIndex, State.idx, Segs.get_cut, Segs.get_fill, at_]

@[simp] theorem State.setIndex_unit (s : State) (lo hi : Nat) (e : IdxEntry) (v : Nat) : (s.setIndex lo hi e).unit v = s.unit v := rfl

/-- The state of a unit after one unit's state was set. -/
theorem State.setUnit_unit (s : State) (u : Nat) (e : UnitSt) (v : Nat) : (s.setUnit u e).unit v = if v = u then e else s.unit v :=
  Segs.get_put ..

/-- A unit made CLEAN, its KEEP as before. -/
theorem cleaned_unit (m : Segs UnitSt) (u : Nat) (keep : Bool) (v : Nat) :
    Segs.get {} (if keep then Segs.put m u { keep := true } else Segs.cut u (u + 1) m) v =
      if v = u then { keep := keep } else Segs.get {} m v := by
  have at_ : (u ≤ v ∧ v ≤ u) = (v = u) := propext (by omega)
  cases keep <;> simp [Segs.get_cut, Segs.get_put, at_]

section
variable (s : State) (g i : Nat) (x : Slot) (unmoved : x.moved = none)
include unmoved

/-- R88: the slot of a DRAINING unit stands: the unit is CLEAN, its KEEP as before, and its index entry names the slot. -/
theorem commitSlot_draining (draining : (s.unit x.unit).st = 2) :
    (s.commitSlot g i (some x)).2 = true ∧
      (∀ v, (s.commitSlot g i (some x)).1.unit v = if v = x.unit then { keep := (s.unit x.unit).keep } else s.unit v) ∧
      (∀ v, (s.commitSlot g i (some x)).1.idx v = if v = x.unit then .slot g i else s.idx v) ∧
      (s.commitSlot g i (some x)).1.mem = s.mem := by
  unfold State.commitSlot
  simp only [unmoved]
  rw [if_pos draining]
  exact ⟨rfl, cleaned_unit s.dmap x.unit (s.unit x.unit).keep, State.setIndex_idx s x.unit (.slot g i), rfl⟩

/-- R88: the slot of a REDIRTY unit stands: the unit is DIRTY again, stamped now, and its index entry names the slot. -/
theorem commitSlot_redirty (redirty : (s.unit x.unit).st = 3) :
    (s.commitSlot g i (some x)).2 = true ∧
      (∀ v, (s.commitSlot g i (some x)).1.unit v = if v = x.unit then { s.unit x.unit with st := 1, stamp := s.nowSec } else s.unit v) ∧
      (∀ v, (s.commitSlot g i (some x)).1.idx v = if v = x.unit then .slot g i else s.idx v) ∧
      (s.commitSlot g i (some x)).1.mem = s.mem := by
  unfold State.commitSlot
  simp only [unmoved]
  rw [if_neg (by simp [redirty]), if_pos redirty]
  exact ⟨rfl, State.setUnit_unit s x.unit _, State.setIndex_idx s x.unit (.slot g i), rfl⟩

/-- R88: the slot of a unit in any other state is void. -/
theorem commitSlot_void (undrained : (s.unit x.unit).st ≠ 2) (clear : (s.unit x.unit).st ≠ 3) : s.commitSlot g i (some x) = (s, false) := by
  simp only [State.commitSlot, unmoved, undrained, clear, if_false]

end

/-- Settles O11, by the state of the slot's unit. -/
theorem committedUnit : Obligations.CommittedUnit := by
  unfold Obligations.CommittedUnit
  intro s g i x unmoved
  by_cases draining : (s.unit x.unit).st = 2
  · obtain ⟨stands, units, entries, mem⟩ := commitSlot_draining s g i x unmoved draining
    exact ⟨fun _ => ⟨stands, by rw [units, if_pos rfl], by rw [units, if_pos rfl], by rw [entries, if_pos rfl]⟩,
      fun redirty => absurd (draining.symm.trans redirty) (by decide), fun other => absurd draining other, mem,
      fun v other => ⟨by rw [units, if_neg other], by rw [entries, if_neg other]⟩⟩
  by_cases redirty : (s.unit x.unit).st = 3
  · obtain ⟨stands, units, entries, mem⟩ := commitSlot_redirty s g i x unmoved redirty
    exact ⟨fun draining' => absurd draining' draining,
      fun _ => ⟨stands, by rw [units, if_pos rfl], by rw [units, if_pos rfl], by rw [entries, if_pos rfl]⟩,
      fun _ other => absurd redirty other, mem, fun v other => ⟨by rw [units, if_neg other], by rw [entries, if_neg other]⟩⟩
  · have void := commitSlot_void s g i x unmoved draining redirty
    exact ⟨fun draining' => absurd draining' draining, fun redirty' => absurd redirty' redirty, fun _ _ => void, by rw [void],
      fun v _ => by rw [void]; exact ⟨rfl, rfl⟩⟩

end Machine
end Sys2Proof
end

section
/-! PROOFS. The event recorder's counts (R369, R371, R375): what a raising counts, and the sum of the bins. -/

namespace Sys2Proof.Machine

/-- The summaries after a raising: only the code's own is another. -/
theorem event_sums_ne (s : State) (c : Nat) (l : List Nat) {d : Nat} (other : d ≠ c) :
    FMap.get {} (s.event c l).ev.sums d = FMap.get {} s.ev.sums d := by
  unfold State.event
  dsimp only
  split <;> exact FMap.get_put_ne _ _ _ (Ne.symm other)

/-- R375: the on-die buffer never grows past 4,096 occurrences. -/
theorem event_queue_length (s : State) (c : Nat) (l : List Nat) (within : s.ev.queue.length ≤ 4096) : (s.event c l).ev.queue.length ≤ 4096 := by
  unfold State.event
  dsimp only
  split
  · simp only [List.length_append, List.length_singleton]
    omega
  · exact within

/-- R375: an occurrence that finds the on-die buffer full is counted suppressed and dropped and is not queued. -/
theorem event_full (s : State) (c : Nat) (l : List Nat) (full : s.ev.queue.length = 4096) :
    (s.event c l).ev.queue = s.ev.queue ∧
      (FMap.get {} (s.event c l).ev.sums c).suppr = (FMap.get {} s.ev.sums c).suppr + 1 ∧
      (FMap.get {} (s.event c l).ev.sums c).dropped = (FMap.get {} s.ev.sums c).dropped + 1 := by
  unfold State.event
  dsimp only
  rw [if_neg (by omega)]
  simp only [FMap.get_put_self, and_self]

/-- Settles O22. -/
theorem raisingCounts : Obligations.RaisingCounts := by
  unfold Obligations.RaisingCounts
  intro s c l within
  exact ⟨event_count s c l, fun d other => event_sums_ne s c l other, event_queue_length s c l within, event_full s c l, State.event_out s c l,
    (still_event s c l).leaves (State.event_regs s c l) []⟩

/-! ### The bins -/

/-- R371: every measure falls in one of the sixteen bins. -/
theorem histBin_lt (code : Nat) (m : Int) : histBin code m < 16 := by
  unfold histBin
  have := List.length_filter_le (fun i => decide (Config.evBase code * 2 ^ i ≤ m.natAbs)) (List.range 15)
  simp only [List.length_range] at this
  omega

/-- The sum of a list is the sum of its first n entries read with a default of 0, when it is no longer. -/
theorem foldl_add_eq_sum_range (l : List Nat) {n : Nat} (short : l.length ≤ n) :
    l.foldl (· + ·) 0 = ∑ i ∈ Finset.range n, l.getD i 0 := by
  rw [← List.sum_eq_foldl]
  induction l generalizing n with
  | nil => simp
  | cons x l ih =>
    obtain ⟨n, rfl⟩ : ∃ k, n = k + 1 := ⟨n - 1, by simp at short; omega⟩
    rw [Finset.sum_range_succ', List.sum_cons, ih (Nat.le_of_succ_le_succ short)]
    simp [Nat.add_comm]

/-- R371: a measure counted in its bin adds one to the sum of the bins. -/
theorem binned_count (l : List Nat) (short : l.length ≤ 16) {b : Nat} (bin : b < 16) :
    ((List.range 16).map fun i => l.getD i 0 + (if i = b then 1 else 0)).foldl (· + ·) 0 = l.foldl (· + ·) 0 + 1 := by
  rw [foldl_add_eq_sum_range l short, ← List.sum_eq_foldl]
  change ∑ i ∈ Finset.range 16, (l.getD i 0 + if i = b then 1 else 0) = _
  rw [Finset.sum_add_distrib]
  simp [bin]

/-- Settles O23: the measure's bin, or the unbinned count, gains one until the joint saturation. -/
theorem everyOccurrenceBinned : Obligations.EveryOccurrenceBinned := by
  unfold Obligations.EveryOccurrenceBinned
  intro u code m short
  unfold Summary.bin
  refine ⟨fun below => ?_, fun saturated => if_pos (by omega), ?_⟩
  · rw [if_neg (by omega)]
    cases m with
    | none => exact (Nat.add_assoc _ _ _).symm
    | some x =>
      change _ + u.unbinned = _
      rw [Summary.binned, binned_count u.hist short (histBin_lt code x)]
      exact Nat.add_right_comm _ 1 _
  · split
    · exact short
    · cases m with
      | none => exact short
      | some x => simp

end Sys2Proof.Machine
end

section
/-! PROOFS. What a register write makes of one field, by its access code (R7, R404). -/

namespace Sys2Proof.Machine

theorem natBit_eq_testBit (v b : Nat) : natBit v b = v.testBit b := by
  rw [natBit, Nat.testBit_eq_decide_div_mod_eq, beq_eq_decide]

/-- R404: the bits a write-1-to-clear field keeps. -/
theorem testBit_cleared {w v b : Nat} (r : Nat) (below : b < w) :
    natBit (Nat.land r (Nat.xor v (2 ^ w - 1)) % 2 ^ w) b = (natBit r b && !natBit v b) := by
  simp only [natBit_eq_testBit, Nat.testBit_mod_two_pow]
  change (decide (b < w) && (r &&& (v ^^^ (2 ^ w - 1))).testBit b) = _
  simp [below]

/-- R404: the bits a write-1-to-set field holds. -/
theorem testBit_set {w b : Nat} (r v : Nat) (below : b < w) : natBit (Nat.lor r v % 2 ^ w) b = (natBit r b || natBit v b) := by
  simp only [natBit_eq_testBit, Nat.testBit_mod_two_pow]
  change (decide (b < w) && (r ||| v).testBit b) = _
  simp [below]

/-- A write of one field reads back in no other. -/
theorem writeField_rdi_ne (s : State) {f g : Field} {i j : Nat} (v : Nat) (other : f.key i ≠ g.key j) :
    (s.writeField f i v).rdi g j = s.rdi g j := by
  unfold State.writeField
  split
  case h_3 =>
    split
    · rfl
    · exact State.wri_rdi_ne s _ other
  case h_6 | h_7 => rfl
  all_goals exact State.wri_rdi_ne s _ other

/-- Settles O26, by the field's access code. -/
theorem fieldAccess : Obligations.FieldAccess := by
  unfold Obligations.FieldAccess
  intro s f i v fits
  refine ⟨?ro, ?rwl, ?w1c, ?w1s, ?rw, fun g j other => writeField_rdi_ne s v other⟩
  case ro => rintro (acc | acc) <;> simp [State.writeField, acc]
  case rwl =>
    intro acc locked
    simp [State.writeField, acc, locked]
  case w1c =>
    intro acc b below
    simp only [State.writeField, acc, State.wri_rdi_self]
    exact testBit_cleared (s.rdi f i) below
  case w1s =>
    intro acc b below
    simp only [State.writeField, acc, State.wri_rdi_self]
    exact testBit_set (s.rdi f i) v below
  case rw =>
    intro acc stands
    simp only [State.writeField, acc, State.wri_rdi_self, stands]
    exact Nat.mod_eq_of_lt fits

end Sys2Proof.Machine
end

section
/-! PROOFS. Commits of HDM decoders (R39): a locked decoder stands, and an overlap is refused. -/

namespace Sys2Proof.Machine

/-- R39: a decoder committed with LOCK is left by every commit. -/
theorem exec_hdmDecoderCommit_locked {s : State} {h i : Nat} (base size ways gran dpa : Nat) (lock : Bool)
    (committed : (FMap.get {} (s.head h).decoders i).committed = true) (locked : (FMap.get {} (s.head h).decoders i).lock = true) :
    exec (.hdmDecoderCommit h i base size ways gran dpa lock) s = .next s.begin := by
  change execHdmDecoderCommit h i base size ways gran dpa lock s = _
  unfold execHdmDecoderCommit
  rw [if_pos (by simp [committed, locked])]

/-- R39: the commit of a decoder that is not locked, of a head whose link is up: it stands where it is legal and overlaps no other of the head, and
otherwise shows Commit Error. -/
theorem exec_hdmDecoderCommit_unlocked {s : State} {h i : Nat} (base size ways gran dpa : Nat) (lock : Bool) (exists_ : s.headExists h = true)
    (up : s.headUp h = true) (index : i < 8) (unlocked : (FMap.get {} (s.head h).decoders i).lock = false) :
    let d : Decoder := { base := base, size := size, ways := ways, gran := gran, dpa := dpa, committed := true, lock := lock, error := false }
    let fits := d.legal && !(s.head h).decoders.any fun e => e.1 != i && e.2.committed && e.2.overlaps d
    exec (.hdmDecoderCommit h i base size ways gran dpa lock) s = .next (s.begin.setHead h { s.head h with
      decoders := FMap.put (s.head h).decoders i (if fits then d else { d with committed := false, error := true }) }) := by
  change execHdmDecoderCommit h i base size ways gran dpa lock s = _
  unfold execHdmDecoderCommit
  rw [if_neg (by simp [exists_, up, index, unlocked])]
  rfl

/-- A pair found in a map stands in it. -/
theorem FMap.mem_of_find {α : Type} {m : FMap α} {x : Nat} {v : α} (found : FMap.find m x = some v) : (x, v) ∈ m := by
  induction m with
  | nil => cases found
  | cons e m ih =>
    obtain ⟨k, w⟩ := e
    by_cases here : k = x
    · simp only [FMap.find, here, if_true, Option.some.injEq] at found
      simp [here, found]
    · simp only [FMap.find, here, if_false] at found
      exact List.mem_cons_of_mem _ (ih found)

/-- Settles O20. -/
theorem decoderLock : Obligations.DecoderLock := by
  unfold Obligations.DecoderLock
  intro s h i base size ways gran dpa lock
  refine ⟨fun committed locked => ⟨_, exec_hdmDecoderCommit_locked base size ways gran dpa lock committed locked, rfl, leaves_begin s []⟩, ?_⟩
  intro exists_ up index unlocked j e other found committed below above
  have clash : ((s.head h).decoders.any fun e => e.1 != i && e.2.committed && e.2.overlaps
      { base := base, size := size, ways := ways, gran := gran, dpa := dpa, committed := true, lock := lock, error := false }) = true := by
    refine List.any_eq_true.mpr ⟨(j, e), FMap.mem_of_find found, ?_⟩
    simp only [bne_iff_ne, ne_eq, other, not_false_eq_true, committed, Decoder.overlaps, Decoder.span, Bool.and_eq_true, true_and]
    exact ⟨decide_eq_true below, decide_eq_true above⟩
  refine ⟨_, exec_hdmDecoderCommit_unlocked base size ways gran dpa lock exists_ up index unlocked, ?_⟩
  rw [clash, Bool.not_true, Bool.and_false, if_neg Bool.false_ne_true]
  simp only [State.setHead_head, if_true, FMap.get_put_self, and_self]

end Sys2Proof.Machine
end

section
/-! PROOFS. Where Strands lie and how pages are laid out (R133 to R135, R186). -/

namespace Sys2Proof.Machine

/-! ### Strands over the members of a bundle -/

section
variable {s : State} {k : Skein} (whole : (s.bundle k.bundle).members.length = 32)
include whole

/-- R133: a Strand of a bundle of 32 members lies on one of them. -/
theorem strandBlk_eq (j : Nat) : s.strandBlk k j =
    some ((s.bundle k.bundle).members[(j + k.page) % 32]'(by rw [whole]; exact Nat.mod_lt _ (by decide))) :=
  List.getElem?_eq_getElem _

/-- R133: two Strands of a page lie on two members. -/
theorem strandBlk_injective (distinct : (s.bundle k.bundle).members.Nodup) {i j : Nat} (hi : i < 32) (hj : j < 32)
    (same : s.strandBlk k i = s.strandBlk k j) : i = j := by
  rw [strandBlk_eq whole i, strandBlk_eq whole j, Option.some.injEq, distinct.getElem_inj_iff] at same
  omega

/-- R133: every member of a bundle of 32 carries a Strand of the page. -/
theorem strandBlk_surjective {b : Nat} (member : (s.bundle k.bundle).members.contains b = true) : ∃ j, j < 32 ∧ s.strandBlk k j = some b := by
  obtain ⟨n, below, at_⟩ := List.mem_iff_getElem.mp (List.contains_iff_mem.mp member)
  refine ⟨(n + 32 - k.page % 32) % 32, Nat.mod_lt _ (by decide), ?_⟩
  rw [strandBlk_eq whole, Option.some.injEq, ← at_]
  congr 1
  omega

end

/-! ### Pages -/

theorem length_leBytes (n v : Nat) : (leBytes n v).length = n := by simp [leBytes]

theorem wordBytes_cons (w : Nat) (ws : List Nat) : wordBytes (w :: ws) = leBytes 8 w ++ wordBytes ws := rfl

/-- Every word is eight bytes. -/
theorem length_wordBytes (ws : List Nat) : (wordBytes ws).length = 8 * ws.length := by
  induction ws with
  | nil => rfl
  | cons w ws ih =>
    rw [wordBytes_cons, List.length_append, length_leBytes, ih, List.length_cons, Nat.mul_succ, Nat.add_comm]

/-- The bytes of a sequence are as many as asked for. -/
theorem length_prbs (n k count seed : Nat) : (prbs n k count seed).length = count := by
  have steps (l : List Nat) (p : List Nat × Nat) : (l.foldl (fun (p : List Nat × Nat) _ =>
      let (b, s) := (List.range 8).foldl (fun q _ => let (o, s) := prbsBit n k q.2; (2 * q.1 + o, s)) (0, p.2)
      (b :: p.1, s)) p).1.length = p.1.length + l.length := by
    induction l generalizing p with
    | nil => rfl
    | cons x l ih =>
      rw [List.foldl_cons, ih]
      simp
      omega
  rw [prbs, List.length_reverse, prbsRev, steps]
  simp

theorem length_fitTo (n fill : Nat) (l : List Nat) : (fitTo n fill l).length = n := by
  simp [fitTo]
  omega

/-- A flat map whose parts are all of one length. -/
theorem length_flatMap_const {α β : Type} (f : α → List β) {n : Nat} (l : List α) (each : ∀ a ∈ l, (f a).length = n) :
    (l.flatMap f).length = l.length * n := by
  rw [List.length_flatMap, List.map_congr_left each]
  simp

/-- R134: a page programmed from 16,640 bytes of content is 18,656 bytes. -/
theorem length_encodePage (block page : Nat) {content : List Nat} (whole : content.length = 16640) :
    (encodePage block page content).length = 18656 := by
  have each : ∀ i ∈ List.range 16, (codeword content i ++ bchParity (codeword content i)).length = 1166 := by
    intro i below
    have := List.mem_range.mp below
    simp only [codeword, bchParity, beBytes, List.length_append, List.length_take, List.length_drop, List.length_reverse, length_leBytes, whole]
    omega
  rw [encodePage, List.length_zipWith, length_flatMap_const _ _ each, scramble, length_prbs]
  rfl

/-- The second and third of four parts, by the lengths of the first three. -/
theorem drop_take_middle {α : Type} (a b c d : List α) (ha : a.length = 8) (hb : b.length = 8) (hc : c.length = 8) :
    ((a ++ b ++ c ++ d).drop 8).take 16 = b ++ c := by
  rw [List.append_assoc, List.append_assoc, List.drop_left' ha, ← List.append_assoc, List.take_left' (by rw [List.length_append, hb, hc])]

/-! ### The seal page -/

/-- R135: the pattern of a seal page is 16,336 bytes. -/
theorem length_sealPattern (raw : List Nat) (whole : raw.length = 16336) :
    ((List.range 2042).flatMap fun i => ((raw.drop (8 * i)).take 8).reverse).length = 16336 := by
  rw [length_flatMap_const (n := 8)]
  · simp
  · intro i below
    have := List.mem_range.mp below
    simp [whole]
    omega

/-- R135: the layout of a seal page: 16,384 bytes that begin with the magic word, the block, the erase count, the LSN and the time, and 256 bytes of
zero metadata. -/
theorem sealContent_layout (block ers time lsn : Nat) : ∃ body : List Nat, body.length = 16384 ∧
    (∃ rest, body = leBytes 8 (0x5345414C * 2 ^ 32 + 2 ^ 24) ++ leBytes 8 (block % 2 ^ 32) ++ leBytes 8 (ers % 2 ^ 32) ++ rest) ∧
    sealContent block ers time lsn = body ++ List.replicate 256 0 := by
  have size := length_prbs 31 28 16336 ((block + 1) % 2 ^ 31)
  unfold sealContent
  generalize prbs 31 28 16336 ((block + 1) % 2 ^ 31) = raw at size ⊢
  refine ⟨_, ?_, ?_, rfl⟩
  · rw [List.length_append, List.length_append, length_wordBytes, length_sealPattern raw size, length_leBytes]
    simp only [List.length_cons, List.length_nil]
  · simp only [wordBytes_cons, List.append_assoc]
    exact ⟨_, rfl⟩

/-! ### Erased pages -/

/-- R186: a page past the seal of a block whose contents were erased reads all ones (the model's reading, log 170). -/
theorem pageRead_forgotten (s : State) {b page : Nat} (past : 0 < page) (real : b < 2 ^ 22) :
    (s.forgetBlock b).pageRead b page [] = List.replicate 18656 0xFF := by
  have written : ((s.forgetBlock b).im.written.find? fun k => k.page == page && k.members.contains b) = none := by
    simp only [State.forgetBlock, List.find?_eq_none, List.mem_filter, List.mem_map]
    rintro _ ⟨⟨k, _, rfl⟩, _⟩
    simp only [Bool.and_eq_true, List.contains_iff_mem, List.mem_map, not_and]
    rintro _ ⟨m, _, at_⟩
    split at at_ <;> omega
  have anchored : ((s.forgetBlock b).im.anchored.find? fun a => a.copies.contains (b, page)) = none := by
    simp only [State.forgetBlock, List.find?_eq_none, List.mem_filter, List.mem_map]
    rintro _ ⟨⟨k, _, rfl⟩, _⟩
    simp
  have unspoilt : (s.forgetBlock b).pageSpoilt b page = false := by simp only [State.pageSpoilt, written]
  have erased : (s.forgetBlock b).pageContent b page = none := by
    simp only [State.pageContent, anchored, written, Nat.ne_of_gt past, if_false]
  simp only [State.pageRead, unspoilt, erased, List.foldl_nil, Bool.false_eq_true, if_false]

/-- Settles O43. -/
theorem pagesAndStrands : Obligations.PagesAndStrands := by
  unfold Obligations.PagesAndStrands
  refine ⟨?strands, ?pages, ?layout, fun s b page past real => pageRead_forgotten s past real⟩
  case strands =>
    intro s k whole distinct
    refine ⟨fun j _ => ⟨_, strandBlk_eq whole j, List.contains_iff_mem.mpr (List.getElem_mem _)⟩,
      fun i j hi hj same => strandBlk_injective whole distinct hi hj same, fun b member => strandBlk_surjective whole member, fun j => ?_⟩
    simp only [State.strandBlk]
    congr 2
    omega
  case pages => exact fun block page content => length_encodePage block page (length_fitTo ..)
  case layout =>
    intro block ers time lsn
    obtain ⟨body, size, ⟨rest, parts⟩, layout⟩ := sealContent_layout block ers time lsn
    refine ⟨by rw [layout, List.length_append, size, List.length_replicate], by rw [layout, ← size, List.drop_left], ?_⟩
    rw [layout, parts, List.append_assoc, drop_take_middle _ _ _ _ (length_leBytes 8 _) (length_leBytes 8 _) (length_leBytes 8 _)]

end Sys2Proof.Machine
end

section
/-! PROOFS. What a share operation that cannot proceed answers (R30, R32). -/

namespace Sys2Proof.Machine

/-- A completion draws nothing from the DRBG. -/
@[simp] theorem finish_drbgCtr (s : State) (k : Ticket) (st rs res : Nat) : (s.finish k st rs res).drbgCtr = s.drbgCtr := by
  obtain ⟨_, _, _, _, _, whole⟩ := (completing_finish s k st rs res).frame
  rw [whole]

/-- A completion leaves every register. -/
@[simp] theorem finish_regs (s : State) (k : Ticket) (st rs res : Nat) : (s.finish k st rs res).regs = s.regs := by
  obtain ⟨_, _, _, _, _, whole⟩ := (completing_finish s k st rs res).frame
  rw [whole]

/-- A command that drew nothing from the DRBG stands. -/
theorem whenDrbg_undrawn {s r : State} (c : Instr) (undrawn : r.drbgCtr = s.drbgCtr) : s.whenDrbg c r = r := by simp [State.whenDrbg, undrawn]

/-- R32: a refused share operation posts REFUSED with its reason, which SHR_STATUS.REFUSE shows, and changes nothing else of the share. -/
theorem refuseShare_posts {s : State} {h : Nat} (ready : AdminReady s h) (tag n why : Nat) (fits : why < 2 ^ F.SHR_STATUS_REFUSE.width) :
    let t := (adminCapture s h tag n).1.refuseShare (adminCapture s h tag n).2 n why
    Posts s t (s.adminQueue h) tag n 0 false 4 why 0 ∧ t.rdi F.SHR_STATUS_REFUSE n = why ∧ Leaves s t [(F.SHR_STATUS_REFUSE, n)] := by
  refine ⟨admin_posts ready tag n 4 why 0 rfl rfl rfl, ?_, ?_⟩
  · rw [State.refuseShare, rdi_eq_of_regs (finish_regs _ _ _ _ _), State.wri_rdi_self, Nat.mod_eq_of_lt fits]
  · exact ((leaves_adminCapture s h tag n _).wri F.SHR_STATUS_REFUSE n why (by simp)).finish _ _ _ _

section
variable {s : State} {k : Ticket} {n : Nat} (defined_ : s.shDefined n = true)
include defined_

/-- R32: outside SERVICE a delete is refused with reason 11, during a change or a removal hold with reason 8. -/
theorem shareDelete_gate : (s.phase ≠ phService → s.shareDelete k n = s.refuseShare k n 11) ∧
    (s.phase = phService → s.changing n = true ∨ s.removing = true → s.shareDelete k n = s.refuseShare k n 8) := by
  unfold State.shareDelete
  constructor
  · intro phase
    rw [if_neg (by simp [defined_]), if_pos phase]
  · intro phase busy
    rw [if_neg (by simp [defined_]), if_neg (by simp [phase]), if_pos (by simpa using busy)]

/-- R32: the same for a change of mode. -/
theorem shareMode_gate (dst : Nat) (peer : Option Nat) : (s.phase ≠ phService → s.shareMode k n dst peer = s.refuseShare k n 11) ∧
    (s.phase = phService → s.changing n = true ∨ s.removing = true → s.shareMode k n dst peer = s.refuseShare k n 8) := by
  unfold State.shareMode
  constructor
  · intro phase
    rw [if_neg (by simp [defined_]), if_pos phase]
  · intro phase busy
    rw [if_neg (by simp [defined_]), if_neg (by simp [phase]), if_pos (by simpa using busy)]

/-- R30: a delete of a READY share with tickets in flight is refused with reason 1. -/
theorem shareDelete_tickets (phase : s.phase = phService) (still : s.changing n = false) (seated : s.removing = false)
    (mode : s.shMode n = mdHeld) (state : s.shState n = shReady) (tickets : s.ticketsOn n = true) :
    s.shareDelete k n = s.refuseShare k n 1 := by
  unfold State.shareDelete
  rw [if_neg (by simp [defined_]), if_neg (by simp [phase]), if_neg (by simp [still, seated]), if_neg (by simp [mode]),
    if_neg (by simp [state]), if_pos tickets]

end

section
variable {s : State} {h : Nat} (ready : AdminReady s h) (tag n : Nat)
include ready

/-- R30: SHARE_DELETE on a ready admin queue. -/
theorem exec_shareDelete_ready :
    exec (.shareDelete h tag n) s = .next ((adminCapture s h tag n).1.shareDelete (adminCapture s h tag n).2 n) := by
  change execShareDelete h tag n s = _
  unfold execShareDelete
  rw [adminOp_ready ready]

/-- R30: SHARE_MODE on a ready admin queue while SP3 runs, when it draws nothing from the DRBG. -/
theorem exec_shareMode_ready (runs : s.spRuns 3 = true) (dst : Nat) (peer : Option Nat)
    (undrawn : ((adminCapture s h tag n).1.shareMode (adminCapture s h tag n).2 n dst peer).drbgCtr = s.drbgCtr) :
    exec (.shareMode h tag n dst peer) s = .next ((adminCapture s h tag n).1.shareMode (adminCapture s h tag n).2 n dst peer) := by
  have runs' : (adminCapture s h tag n).1.spRuns 3 = true := runs
  change execShareMode h tag n dst peer s = _
  unfold execShareMode
  rw [adminOp_ready ready, if_neg (by simp [runs']), whenDrbg_undrawn _ undrawn]

end

/-- Settles O14, by the cause of the refusal. -/
theorem shareRefusals : Obligations.ShareRefusals := by
  unfold Obligations.ShareRefusals
  intro s h tag n ready _ defined_ runs c why dst peer cause
  have defined' : (adminCapture s h tag n).1.shDefined n = true := defined_
  have refused_delete (code : Nat) (fits : code < 2 ^ F.SHR_STATUS_REFUSE.width)
      (refused : (adminCapture s h tag n).1.shareDelete (adminCapture s h tag n).2 n =
        (adminCapture s h tag n).1.refuseShare (adminCapture s h tag n).2 n code) :
      ∃ t, exec (.shareDelete h tag n) s = .next t ∧ Posts s t (s.adminQueue h) tag n 0 false 4 code 0 ∧
        t.rdi F.SHR_STATUS_REFUSE n = code ∧ Leaves s t [(F.SHR_STATUS_REFUSE, n)] :=
    ⟨_, (exec_shareDelete_ready ready tag n).trans (congrArg _ refused), refuseShare_posts ready tag n code fits⟩
  have refused_mode (code : Nat) (fits : code < 2 ^ F.SHR_STATUS_REFUSE.width)
      (refused : (adminCapture s h tag n).1.shareMode (adminCapture s h tag n).2 n dst peer =
        (adminCapture s h tag n).1.refuseShare (adminCapture s h tag n).2 n code) :
      ∃ t, exec (.shareMode h tag n dst peer) s = .next t ∧ Posts s t (s.adminQueue h) tag n 0 false 4 code 0 ∧
        t.rdi F.SHR_STATUS_REFUSE n = code ∧ Leaves s t [(F.SHR_STATUS_REFUSE, n)] :=
    ⟨_, (exec_shareMode_ready ready tag n runs dst peer (by rw [refused, State.refuseShare, finish_drbgCtr]; rfl)).trans (congrArg _ refused),
      refuseShare_posts ready tag n code fits⟩
  obtain ⟨phase, rfl, which⟩ | ⟨phase, busy, rfl, which⟩ | ⟨phase, still, seated, mode, state, tickets, rfl, rfl⟩ := cause
  · rcases which with rfl | rfl
    · exact refused_delete 11 (by decide) ((shareDelete_gate defined').1 phase)
    · exact refused_mode 11 (by decide) ((shareMode_gate defined' dst peer).1 phase)
  · rcases which with rfl | rfl
    · exact refused_delete 8 (by decide) ((shareDelete_gate defined').2 phase busy)
    · exact refused_mode 8 (by decide) ((shareMode_gate defined' dst peer).2 phase busy)
  · exact refused_delete 1 (by decide) (shareDelete_tickets defined' phase still seated mode state tickets)

end Sys2Proof.Machine
end

section
/-! PROOFS. A refused register write on SB (R312, R313). -/

namespace Sys2Proof.Machine

/-- The count of PEC errors that a refused write with a wrong PEC raises. -/
def State.pecCounted (s : State) (st : Nat) : State := if st = 5 then s.bump F.TWB_SB_ERR_PECERR else s

theorem pecCounted_frame (s : State) (st : Nat) : ∃ r, s.pecCounted st = { s with regs := r } := by
  unfold State.pecCounted
  split
  · exact ⟨_, rfl⟩
  · exact ⟨s.regs, rfl⟩

theorem leaves_pecCounted (s : State) (st : Nat) : Leaves s (s.begin.pecCounted st) [(F.TWB_SB_ERR_PECERR, 0)] := by
  unfold State.pecCounted
  split
  · exact (leaves_begin s _).bump _ (by simp)
  · exact leaves_begin s _

/-- R312, R313: a register write on SB that is refused leaves its status and event 0xC007. -/
theorem exec_sbRegWrite_refused {s : State} {off pec : Nat} (val : Nat) (on : s.sbOn = true) (refused : s.sbWriteStatus off pec ≠ 0) :
    exec (.sbRegWrite off val pec true) s =
      .next (((s.begin.pecCounted (s.sbWriteStatus off pec)).sbStatus (s.sbWriteStatus off pec)).event 0xC007 [off, s.sbWriteStatus off pec]) := by
  change execSbRegWrite off val pec true s = _
  unfold execSbRegWrite
  rw [if_neg (by simp [on])]
  exact if_pos (by exact refused)

/-- Settles O29. -/
theorem refusedSbWrite : Obligations.RefusedSbWrite := by
  unfold Obligations.RefusedSbWrite
  intro s off val pec on refused
  refine ⟨_, exec_sbRegWrite_refused val on refused, ?_⟩
  have leaves := leaves_pecCounted s (s.sbWriteStatus off pec)
  obtain ⟨r, counted⟩ := pecCounted_frame s.begin (s.sbWriteStatus off pec)
  rw [counted] at leaves ⊢
  have stored : Leaves s (State.sbStatus { s.begin with regs := r } (s.sbWriteStatus off pec)) [(F.TWB_SB_ERR_PECERR, 0)] :=
    leaves.still ⟨rfl, rfl, rfl, rfl, rfl, rfl⟩ rfl
  refine ⟨?_, ?_, ?_, event_count _ _ _, stored.event _ _⟩
  · rw [State.event_twb]
    rfl
  · rw [State.event_queues]
    rfl
  · rw [State.event_out]
    rfl

end Sys2Proof.Machine
end

section
/-! PROOFS. A Sync within the step threshold (R301). -/

namespace Sys2Proof.Machine

/-- R301: what a Sync within the step threshold writes before the servo judges it: the offset, the correction and the time of the Sync, and, after a
sleep, the first offset seen. -/
def State.synced (s : State) (first : Option Int) (off freq : Int) (ticks : Nat) : State :=
  { (s.wr F.CK_SERVO_OFFSET (signedIn 32 off)).wr F.CK_SERVO_FREQ (signedIn 30 freq) with
    ck := { s.ck with firstOff := first, wild := 0, syncAt := some (s.ck.mono, ticks) } }

/-- A signed value of a width is held by a field of that width. -/
theorem signedIn_mod (w : Nat) (v : Int) : signedIn w v % 2 ^ w = signedIn w v := by
  have : (0 : Int) < 2 ^ w := by positivity
  refine Nat.mod_eq_of_lt ?_
  have below := Int.emod_lt_of_pos v this
  have least := Int.emod_nonneg v (ne_of_gt this)
  rw [signedIn, Int.toNat_lt least]
  exact_mod_cast below

/-- The state with the first offset seen since a sleep. -/
def State.firstOffset (s : State) (first : Option Int) : State := { s with ck := { s.ck with firstOff := first } }

theorem synced_ptpLocked (s : State) (first : Option Int) (off freq : Int) (ticks : Nat) : (s.synced first off freq ticks).ptpLocked = s.ptpLocked := by
  have reads : (s.synced first off freq ticks).rd F.CK_SERVO_SSTATE = s.rd F.CK_SERVO_SSTATE :=
    (State.wri_rdi_ne _ _ (by decide)).trans (State.wri_rdi_ne _ _ (by decide))
  rw [State.ptpLocked, reads, State.ptpLocked]

section
variable {s : State} (off : Int) (unlocked : s.ptpLocked = false) (few : s.ck.good < 7)
include unlocked few

/-- R301: a servo that is not locked and has seen fewer than seven good Syncs shows tracking and counts the Sync. -/
theorem servoLock_tracking : ∃ bad, s.servoLock off =
    { s.wr F.CK_SERVO_SSTATE 1 with ck := { s.ck with good := if off.natAbs < 1000 then s.ck.good + 1 else 0, bad := bad } } := by
  refine ⟨if decide (100000 < off.natAbs) then s.ck.bad + 1 else 0, ?_⟩
  have below : (if decide (off.natAbs < 1000) then s.ck.good + 1 else 0) < 8 := by split <;> omega
  unfold State.servoLock
  refine (if_neg (ne_true_of_eq_false unlocked)).trans ((if_neg (Nat.not_le.mpr below)).trans ?_)
  simp only [decide_eq_true_eq]
  rfl

end

/-- R301: a servo that is not locked takes no trim from a Sync. -/
theorem nativeTrim_unlocked {s : State} (unlocked : s.ptpLocked = false) (freq : Int) (elapsed ticks : Nat) :
    s.nativeTrim freq elapsed ticks = s := by
  simp [State.nativeTrim, unlocked]

section
variable {s : State} {off freq logInt : Int} (ticks : Nat) (runs : s.clocksRun = true) (on : s.flag F.CK_CTL_PTPEN = true)
  (link : s.pan.ethUp = true) (master : s.ck.master ≠ none) (sp : s.spRuns 5 = true) (least : -4 ≤ logInt) (most : logInt ≤ 1)
  (unlocked : s.ptpLocked = false) (few : s.ck.good < 7) (within : off.natAbs ≤ max 1 (s.rd F.CK_CTL_STEPTH) * 1000)
  (fits : off.natAbs < 2 ^ 31 - 1) (tame : freq.natAbs ≤ 1000000)
include runs on link master sp least most unlocked few within fits tame

/-- R301: what a Sync within the step threshold makes of a servo that is not locked and stays so. -/
theorem exec_ptpSync_tracking : exec (.ptpSync off freq logInt ticks) s =
    .next ((s.begin.synced (if s.ck.firstOff.isNone && s.ck.wakeRest.isSome then some off else s.ck.firstOff) off freq ticks).servoLock off) := by
  change execPtpSync off freq logInt ticks s = _
  unfold execPtpSync
  refine (if_neg (by simp [runs, on, link, master, sp, least, most])).trans ?_
  extract_lets elapsed _ t1 th t2 t3 wild known _ t4 t5 _ t6
  set first := if s.ck.firstOff.isNone && s.ck.wakeRest.isSome then some off else s.ck.firstOff with firstIs
  have found : t1 = s.begin.firstOffset first := by
    by_cases unseen : (s.ck.firstOff.isNone && s.ck.wakeRest.isSome) = true
    · rw [firstIs, if_pos unseen]
      exact if_pos unseen
    · rw [firstIs, if_neg unseen]
      exact if_neg unseen
  have whole : t2 = t1 := if_neg (by
    have : th = max 1 (s.rd F.CK_CTL_STEPTH) * 1000 := by
      simp only [th, found]
      rfl
    omega)
  have clamped : clampInt 2147483647 off = off := by unfold clampInt; omega
  have untamed : wild = 0 := if_neg (by omega)
  have synced : t4 = s.begin.synced first off freq ticks := by
    have third : t3 = ((s.begin.firstOffset first).wr F.CK_SERVO_OFFSET (signedIn 32 off)).wr F.CK_SERVO_FREQ (signedIn 30 freq) := by
      rw [← clamped, ← found, ← whole]
    change { t3 with ck := { t3.ck with wild := wild, syncAt := some (t3.ck.mono, ticks) } } = _
    rw [untamed, third]
    rfl
  have loose : t4.ptpLocked = false := by rw [synced, synced_ptpLocked, ← unlocked]; rfl
  obtain ⟨bad, tracking⟩ := servoLock_tracking off loose (by rw [synced]; exact few)
  have stays : (t4.servoLock off).ptpLocked = false := by
    rw [tracking]
    have reads : State.rdi (t4.wr F.CK_SERVO_SSTATE 1) F.CK_SERVO_SSTATE 0 = 1 := State.wri_rdi_self _ _ _ _
    exact beq_false_of_ne (by rw [State.rd]; exact (reads.trans_ne (by decide)))
  have untrimmed : t5 = t4.servoLock off := nativeTrim_unlocked stays freq elapsed _
  have last : t6 = t5 := if_neg (by simp [untrimmed, stays])
  rw [← synced, ← untrimmed, ← last]
  exact if_neg (by simp [untamed])

end

/-- Settles O34. -/
theorem ptpServo : Obligations.PtpServo := by
  unfold Obligations.PtpServo
  intro s off freq logInt ticks runs on link master sp least most unlocked few within fits tame
  refine ⟨_, exec_ptpSync_tracking ticks runs on link master sp least most unlocked few within fits tame, ?_⟩
  generalize (if s.ck.firstOff.isNone && s.ck.wakeRest.isSome then some off else s.ck.firstOff) = first
  have loose : (s.begin.synced first off freq ticks).ptpLocked = false := (synced_ptpLocked ..).trans unlocked
  obtain ⟨bad, tracking⟩ := servoLock_tracking off loose few
  rw [tracking]
  refine ⟨rfl, ?_, ?_, ?_, rfl, rfl, ?_⟩
  · exact (State.wri_rdi_self _ _ _ _).trans rfl
  · exact (State.wri_rdi_ne _ _ (by decide)).trans ((State.wri_rdi_ne _ _ (by decide)).trans ((State.wri_rdi_self _ _ _ _).trans (signedIn_mod 32 off)))
  · exact (State.wri_rdi_ne _ _ (by decide)).trans ((State.wri_rdi_self _ _ _ _).trans (signedIn_mod 30 freq))
  · exact ((((leaves_begin s _).wr F.CK_SERVO_OFFSET _ (by simp)).wr F.CK_SERVO_FREQ _ (by simp)).wr F.CK_SERVO_SSTATE 1 (by simp)).still
      ⟨rfl, rfl, rfl, rfl, rfl, rfl⟩ rfl

end Sys2Proof.Machine
end

section
/-! PROOFS. The frame of what follows a change of the dirty set: the settling of the Weir, the Sluice and the drain (R101 to R106), and the Twine
stream's share of a write (R97, R200, R202). -/

namespace Sys2Proof.Machine

/-- No more than the registers, the event recorder, the records of the Millrace and the panel, and the free values drawn are another. -/
def Settled (s t : State) : Prop :=
  ∃ regs ev mr pan freeCtr, t = { s with regs := regs, ev := ev, mr := mr, pan := pan, freeCtr := freeCtr }

theorem Settled.refl (s : State) : Settled s s := ⟨s.regs, s.ev, s.mr, s.pan, s.freeCtr, rfl⟩

theorem Settled.trans {s t u : State} (first : Settled s t) (second : Settled t u) : Settled s u := by
  obtain ⟨_, _, _, _, _, rfl⟩ := first
  obtain ⟨regs, ev, mr, pan, freeCtr, rfl⟩ := second
  exact ⟨regs, ev, mr, pan, freeCtr, rfl⟩

theorem Settled.ite {s t u : State} (c : Prop) [Decidable c] (yes : Settled s t) (no : Settled s u) : Settled s (if c then t else u) := by
  split
  · exact yes
  · exact no

section
variable {s t : State} (settled : Settled s t)
include settled

theorem Settled.wri (f : Field) (i v : Nat) : Settled s (t.wri f i v) := settled.trans ⟨_, t.ev, t.mr, t.pan, t.freeCtr, rfl⟩

theorem Settled.wr (f : Field) (v : Nat) : Settled s (t.wr f v) := settled.wri f 0 v

theorem Settled.bump (f : Field) : Settled s (t.bump f) := settled.wri f 0 _

theorem Settled.event (c : Nat) (l : List Nat) : Settled s (t.event c l) := by
  refine settled.trans ?_
  unfold State.event
  dsimp only
  split <;> exact ⟨t.regs, _, t.mr, t.pan, t.freeCtr, rfl⟩

theorem Settled.skipFree : Settled s t.skipFree := settled.trans ⟨t.regs, t.ev, t.mr, t.pan, _, rfl⟩

theorem Settled.setMr (mr : Millrace) : Settled s { t with mr := mr } := settled.trans ⟨t.regs, t.ev, mr, t.pan, t.freeCtr, rfl⟩

theorem Settled.setPan (pan : Panel) : Settled s { t with pan := pan } := settled.trans ⟨t.regs, t.ev, t.mr, pan, t.freeCtr, rfl⟩

/-- The frame goes on through a walk over a list. -/
theorem Settled.forEach (l : List Nat) (f : State → Nat → State) (each : ∀ a k, Settled a (f a k)) : Settled s (t.forEach l f) := by
  induction l generalizing t with
  | nil => exact settled
  | cons k l ih => exact ih (settled.trans (each t k))

end

theorem settled_settlePartial (s : State) : Settled s s.settlePartial := .ite _ ((Settled.refl s).setMr _) (.refl s)

/-- R101 to R106: the settling after a change of the dirty set. -/
theorem settled_settleMr (s : State) : Settled s s.settleMr := by
  unfold State.settleMr
  extract_lets r ovh was t1 _ t2 t3 step hs mask stall t4 t5 hold hs' t6 t7 t8 since _ t9 t10
  have peak : Settled s t1 := .ite _ ((Settled.refl s).wr _ _) (.refl s)
  have overhang : Settled s t2 := .ite _ ((peak.setMr _).event _ _) (.ite _ (peak.event _ _) peak)
  have stalled : Settled s t4 := .ite _ ((overhang.wr _ _).event _ _) (overhang.wr _ _)
  have stepped : Settled s t5 := ((stalled.wr _ _).wr _ _).wr _ _
  have credits : Settled s t6 := stepped.forEach _ _ fun a k =>
    .ite _ (.ite _ (.refl a) ((Settled.refl a).wri _ _ _)) (.ite _ ((Settled.refl a).wri _ _ _) ((Settled.refl a).wri _ _ _).skipFree)
  have safe : Settled s t7 := credits.forEach _ _ fun a b => .ite _ (.refl a) ((Settled.refl a).wri _ _ _)
  have drain : Settled s t8 := safe.wr _ _
  have since : Settled s t9 := .ite _ drain (drain.setPan _)
  have removal : Settled s t10 := .ite _ (since.wr _ _) since
  exact removal.trans (settled_settlePartial t10)

/-! ### The Twine stream -/

/-- No more than the registers, the event recorder and the Twine stream are another, and messages sent. -/
def Streamed (s t : State) : Prop := ∃ regs ev tw o, t = { s with regs := regs, ev := ev, tw := tw, out := s.out ++ o }

theorem Streamed.refl (s : State) : Streamed s s := ⟨s.regs, s.ev, s.tw, [], by rw [List.append_nil]⟩

theorem Streamed.trans {s t u : State} (first : Streamed s t) (second : Streamed t u) : Streamed s u := by
  obtain ⟨_, _, _, o, rfl⟩ := first
  obtain ⟨regs, ev, tw, o', rfl⟩ := second
  exact ⟨regs, ev, tw, o ++ o', by simp only [List.append_assoc]⟩

theorem Streamed.ite {s t u : State} (c : Prop) [Decidable c] (yes : Streamed s t) (no : Streamed s u) : Streamed s (if c then t else u) := by
  split
  · exact yes
  · exact no

section
variable {s t : State} (streamed : Streamed s t)
include streamed

theorem Streamed.wri (f : Field) (i v : Nat) : Streamed s (t.wri f i v) := streamed.trans ⟨_, t.ev, t.tw, [], by rw [List.append_nil]; rfl⟩

theorem Streamed.wr (f : Field) (v : Nat) : Streamed s (t.wr f v) := streamed.wri f 0 v

theorem Streamed.bump (f : Field) : Streamed s (t.bump f) := streamed.wri f 0 _

theorem Streamed.event (c : Nat) (l : List Nat) : Streamed s (t.event c l) := by
  refine streamed.trans ?_
  unfold State.event
  dsimp only
  split <;> exact ⟨t.regs, _, t.tw, [], by rw [List.append_nil]⟩

theorem Streamed.send (m : Msg) : Streamed s (t.send m) := streamed.trans ⟨t.regs, t.ev, t.tw, [m], rfl⟩

theorem Streamed.setTw (tw : Twine) : Streamed s { t with tw := tw } := streamed.trans ⟨t.regs, t.ev, tw, [], by rw [List.append_nil]⟩

theorem Streamed.forEach (l : List Nat) (f : State → Nat → State) (each : ∀ a k, Streamed a (f a k)) : Streamed s (t.forEach l f) := by
  induction l generalizing t with
  | nil => exact streamed
  | cons k l ih => exact ih (streamed.trans (each t k))

theorem Streamed.pushOut (p : Nat) (i : OutItem) : Streamed s (t.pushOut p i) :=
  streamed.trans (.ite _ ((Streamed.refl t).setTw _) ((Streamed.refl t).setTw _))

theorem Streamed.sendSeq (ty : Nat) (ws : List Nat) : Streamed s (t.sendSeq ty ws) := by
  have counted : Streamed t (t.wr F.TW_OSEQ_VALUE (t.rd F.TW_OSEQ_VALUE + 1)) := (Streamed.refl t).wr _ _
  unfold State.sendSeq
  extract_lets q u v
  have first : Streamed t v := .ite _ (counted.pushOut _ _) counted
  exact streamed.trans (.ite _ (first.pushOut _ _) first)

theorem Streamed.startScan (n : Nat) (full : Bool) : Streamed s (t.startScan n full) := streamed.setTw _

theorem Streamed.againSync (n : Nat) : Streamed s (t.againSync n) := streamed.setTw _

theorem Streamed.setPstate (n p : Nat) : Streamed s (t.setPstate n p) :=
  streamed.trans (.ite _ (.refl t) (.trans ((Streamed.refl t).wri _ _ _) (.ite _ ((Streamed.refl _).send _) (.refl _))))

end

/-- R209: the copy engine's next share. -/
theorem streamed_copyNext (s : State) : Streamed s s.copyNext := by
  unfold State.copyNext
  extract_lets pick
  refine .ite _ (.refl s) ?_
  split
  · extract_lets full t1 t2 _ t3
    have scanned : Streamed s t3 := (((Streamed.refl s).sendSeq _ _).startScan _ _).setTw _
    exact ((((scanned.wr _ _).wr _ _).wr _ _).wr _ _).wr _ _
  · split
    · exact (((Streamed.refl s).wr _ _).wr _ _).wr _ _
    · extract_lets t1 t2 _ t3
      have scanned : Streamed s t3 := (((Streamed.refl s).sendSeq _ _).startScan _ _).setTw _
      exact ((((scanned.wr _ _).wr _ _).wr _ _).wr _ _).wr _ _

/-- R208: a share that loses the stream goes to catch-up. -/
theorem streamed_enterCatchup (s : State) (n : Nat) : Streamed s (s.enterCatchup n) := by
  unfold State.enterCatchup
  have moved : Streamed s (s.setPstate n psCatchup) := (Streamed.refl s).setPstate n psCatchup
  exact .ite _ (moved.startScan _ _) (.ite _ moved (moved.setTw _))

theorem streamed_restartSync (s : State) (n : Nat) : Streamed s (s.restartSync n) := by
  unfold State.restartSync
  split
  · exact .ite _ ((Streamed.refl s).startScan _ _) (.ite _ ((Streamed.refl s).againSync _) (.refl s))
  · exact .ite _ ((Streamed.refl s).againSync _) (.refl s)

theorem streamed_streamCut (s : State) (n : Nat) : Streamed s (s.streamCut n) :=
  .ite _ (.refl s) (.ite _ (streamed_enterCatchup s n) (.ite _ (streamed_restartSync s n) (.refl s)))

/-- R202: an outbound buffer that overflows cuts every share's stream. -/
theorem streamed_outOverflow (s : State) (port : Nat) : Streamed s (s.outOverflow port) :=
  ((((Streamed.refl s).bump _).event _ _).forEach _ _ streamed_streamCut).trans (streamed_copyNext _)

/-- R97, R200: a write's line in the Twine stream. -/
theorem streamed_twineLine (s : State) (n line base : Nat) (d : BitVec 512) (poison : Bool) : Streamed s (s.twineLine n line base d poison) := by
  unfold State.twineLine
  have mapped : Streamed s { s with tw := { s.tw with mapCur := Segs.put s.tw.mapCur (line / 64) true } } := (Streamed.refl s).setTw _
  exact .ite _ (.refl s) (.ite _ mapped (.ite _ (mapped.trans (streamed_outOverflow _ _)) ((mapped.wr _ _).pushOut _ _)))

end Sys2Proof.Machine
end

section
/-! PROOFS. Host writes and reads (R39 to R44, R89): what a permitted access does, and what a denied one does not. -/

namespace Sys2Proof.Machine

/-! ### A line taken in -/

/-- R50: a line written whole is no longer poisoned; nothing but the records of poison is another. -/
theorem cleanLines_frame (s : State) (lo hi : Nat) : ∃ poisoned poisonList poisonWait poisonOvf, s.cleanLines lo hi =
    { s with poisoned := poisoned, poisonList := poisonList, poisonWait := poisonWait, poisonOvf := poisonOvf } := by
  unfold State.cleanLines
  split
  · exact ⟨s.poisoned, s.poisonList, s.poisonWait, s.poisonOvf, rfl⟩
  · exact ⟨_, _, _, _, rfl⟩

/-- R42: a line stored without poison: memory holds its enabled bytes, and of the rest only the records of poison are others. -/
theorem storeLine_frame (s : State) (line : Nat) (d : BitVec 512) (be : BitVec 64) : ∃ poisoned poisonList poisonWait poisonOvf,
    s.storeLine line d be false = { s with
      mem := memWriteLine s.mem (line * 64) d be 64, poisoned := poisoned, poisonList := poisonList, poisonWait := poisonWait
      poisonOvf := poisonOvf } := by
  unfold State.storeLine
  extract_lets t
  rw [if_neg Bool.false_ne_true]
  split
  · obtain ⟨a, b, c, d, clean⟩ := cleanLines_frame t line (line + 1)
    exact ⟨a, b, c, d, clean⟩
  · exact ⟨s.poisoned, s.poisonList, s.poisonWait, s.poisonOvf, rfl⟩

/-- R89: a written unit is not CLEAN. -/
theorem written_st (e : UnitSt) (sec : Nat) (hit : Bool) : (e.written sec hit).st ≠ 0 := by
  unfold UnitSt.written
  by_cases clean : e.st = 0
  · simp [clean]
  by_cases draining : e.st = 2 <;> simp [clean, draining]

/-- R89: the units of a share counted in the dirty set are marked as they are written. -/
def State.marked (s : State) (n u : Nat) : State := if s.counted n then s.markUnit u none else s

/-- What a line taken in for a unit present in DRAM makes of the state: the unit marked, the line stored, the stream and the settling after it. -/
theorem acceptLine_frame (s : State) (k n line : Nat) (d : BitVec 512) (be : BitVec 64) (present : s.rmapOf (line / 64) = 0) :
    ∃ t u, Streamed ((s.marked n (line / 64)).storeLine line d be false) t ∧ Settled t u ∧ s.acceptLine k n line d be false = u := by
  have present' : (s.marked n (line / 64)).rmapOf (line / 64) = 0 := by
    rw [← present]
    unfold State.marked
    split <;> rfl
  have stored : (s.marked n (line / 64)).ingressLine k line d be false = (s.marked n (line / 64)).storeLine line d be false := by
    simp [State.ingressLine, present']
  rw [← stored]
  obtain ⟨u, accepted⟩ : ∃ u, s.acceptLine k n line d be false = u := ⟨_, rfl⟩
  have whole := accepted
  unfold State.acceptLine at whole
  extract_lets m a b at whole
  exact ⟨b, u, streamed_twineLine a n line _ _ _, whole ▸ .ite _ (settled_settleMr b) (.refl b), accepted⟩

/-- R42, R89: what a line taken in for a unit present in DRAM leaves in memory, the index and the dirty map. -/
theorem acceptLine_stores (s : State) (k n line : Nat) (d : BitVec 512) (be : BitVec 64) (present : s.rmapOf (line / 64) = 0) :
    let t := s.acceptLine k n line d be false
    t.mem = memWriteLine s.mem (line * 64) d be 64 ∧ t.dmap = (s.marked n (line / 64)).dmap ∧ t.index = s.index ∧ t.lsa = s.lsa ∧
      ∃ o, t.out = s.out ++ o := by
  obtain ⟨t, u, ⟨_, _, _, o, streamed⟩, ⟨_, _, _, _, _, settled⟩, accepted⟩ := acceptLine_frame s k n line d be present
  obtain ⟨_, _, _, _, stored⟩ := storeLine_frame (s.marked n (line / 64)) line d be
  have marked : ∃ m, s.marked n (line / 64) = { s with dmap := m } := by
    unfold State.marked
    split
    · exact ⟨_, rfl⟩
    · exact ⟨s.dmap, rfl⟩
  obtain ⟨m, marked⟩ := marked
  rw [accepted, settled, streamed, stored, marked]
  exact ⟨rfl, rfl, rfl, rfl, o, rfl⟩

/-! ### Writes -/

section
variable {s : State} {h hpa line n : Nat} (data : BitVec 512) (be : BitVec 64) (exists_ : s.headExists h = true) (up : s.headUp h = true)
  (credit : s.writeCredit h = true) (sound : s.flagi F.HP_LINK_VIRAL h = false) (line_ : s.lineOf h hpa = some line)
  (share : s.shareOf (line / 64) = some n)
include exists_ up credit sound line_ share

/-- R40: a write to a line the head may write is completed and taken in. -/
theorem exec_hostWrite_permitted (may : s.mayWrite h line = true) : exec (.hostWrite h hpa data be false) s =
    .next ((s.begin.send (.writeDone h)).acceptLine h n line data be false) := by
  have line' : (s.begin.send (.writeDone h)).lineOf h hpa = some line := line_
  have share' : (s.begin.send (.writeDone h)).shareOf (line / 64) = some n := share
  change execHostWrite h hpa data be false s = _
  unfold execHostWrite
  rw [if_neg (by simp [exists_, up, credit])]
  refine (if_neg (ne_true_of_eq_false sound)).trans ?_
  simp only [Bool.false_eq_true, if_false, line']
  refine (if_pos may).trans ?_
  simp only [share']

/-- R40: a write to a share the head is not granted is completed, discarded and counted. -/
theorem exec_hostWrite_denied (denied : s.writeGranted n h = false) : exec (.hostWrite h hpa data be false) s =
    .next ((s.begin.send (.writeDone h)).bumpi F.SHR_VIOL_WR n) := by
  have line' : (s.begin.send (.writeDone h)).lineOf h hpa = some line := line_
  have share' : (s.begin.send (.writeDone h)).shareOf (line / 64) = some n := share
  have refused : s.mayWrite h line = false := by simp [State.mayWrite, share, denied]
  change execHostWrite h hpa data be false s = _
  unfold execHostWrite
  rw [if_neg (by simp [exists_, up, credit])]
  refine (if_neg (ne_true_of_eq_false sound)).trans ?_
  simp only [Bool.false_eq_true, if_false, line']
  refine (if_neg (ne_true_of_eq_false refused)).trans ?_
  simp only [State.denyWrite, share']
  exact congrArg Host.Outcome.next (if_neg (ne_true_of_eq_false denied))

end

/-- Settles O15. -/
theorem hostWriteStores : Obligations.HostWriteStores := by
  unfold Obligations.HostWriteStores
  intro s h hpa line n data be exists_ up credit sound line_ may share present
  refine ⟨_, exec_hostWrite_permitted data be exists_ up credit sound line_ share may, ?_⟩
  obtain ⟨mem, dmap, index, lsa, o, out⟩ := acceptLine_stores (s.begin.send (.writeDone h)) h n line data be present
  refine ⟨by rw [out]; simp [State.send], fun a => by rw [mem]; exact memByte_memWriteLine s.mem (line * 64) data be 64 a, ?_, index, lsa⟩
  intro counted
  have marked : (s.begin.send (.writeDone h)).marked n (line / 64) = _ := if_pos counted
  rw [State.unit, dmap, marked]
  exact ne_of_eq_of_ne (congrArg UnitSt.st ((State.setUnit_unit _ _ _ _).trans (if_pos rfl))) (written_st _ _ _)

/-! ### Reads -/

/-- R230: a read without an error is decoded as it is. -/
theorem lineRead_clean {s : State} {line : Nat} (service : (s.mch (unitChan (line / 64))).state ≠ 4) :
    s.lineBad line .clean = false ∧ s.lineRead line .clean = s := by
  have decoded (mark : Option Nat) : decodeLine .clean mark = some [] := by cases mark <;> rfl
  have sound : s.lineBad line .clean = false := by simp [State.lineBad, service, decoded]
  simp [sound, State.lineRead, decoded]

/-- R56: the longest read time that a read leaves. -/
theorem readTime_maxrd (s : State) (h wait : Nat) : (s.readTime h wait).rdi F.HP_LAT_MAXRD h =
    max (s.rdi F.HP_LAT_MAXRD h) (min 0xFFFF (s.rdi F.HP_LAT_IDLE h + wait)) := by
  have below : s.rdi F.HP_LAT_MAXRD h < 2 ^ 16 := State.rdi_lt s F.HP_LAT_MAXRD h
  have fits : max (s.rdi F.HP_LAT_MAXRD h) (min 0xFFFF (s.rdi F.HP_LAT_IDLE h + wait)) < 2 ^ 16 := by omega
  exact (State.wri_rdi_self _ _ _ _).trans (Nat.mod_eq_of_lt fits)

/-- A head is one of sixteen. -/
theorem lt_of_headExists {s : State} {h : Nat} (exists_ : s.headExists h = true) : h < 16 := by
  simp only [State.headExists, Bool.and_eq_true, decide_eq_true_eq] at exists_
  exact exists_.1.1

section
variable {s : State} {h hpa line n : Nat} (wait : Nat) (exists_ : s.headExists h = true) (up : s.headUp h = true)
  (credit : s.readCredit h = true) (sound : s.flagi F.HP_LINK_VIRAL h = false) (line_ : s.lineOf h hpa = some line)
  (share : s.shareOf (line / 64) = some n)
include exists_ up credit sound line_ share

/-- R40: a read of a share the head is not granted is counted and answered with poison. -/
theorem exec_hostRead_denied (err : LineError) (denied : s.readGranted n h = false) : exec (.hostRead h hpa wait err) s =
    .next (((s.begin.bumpi F.SHR_VIOL_RD n).readTime h wait).answerPoison h) := by
  have line' : s.begin.lineOf h hpa = some line := line_
  have share' : s.begin.shareOf (line / 64) = some n := share
  change execHostRead h hpa wait err s = _
  unfold execHostRead
  rw [if_neg (by simp [exists_, up, credit])]
  refine (if_neg (ne_true_of_eq_false sound)).trans ?_
  simp only [line', share']
  exact if_pos (by simpa using denied)

/-- R44: a read of a line present in DRAM of an open share the head may read. -/
theorem exec_hostRead_permitted (err : LineError) (granted : s.readGranted n h = true) (opened : s.shOpen n = true)
    (serving : s.serving = true) (present : s.rmapOf (line / 64) = 0) : exec (.hostRead h hpa wait err) s =
    .next ((s.begin.readTime h wait).readLine h line err) := by
  have line' : s.begin.lineOf h hpa = some line := line_
  have share' : s.begin.shareOf (line / 64) = some n := share
  have present' : s.begin.rmapOf (line / 64) = 0 := present
  change execHostRead h hpa wait err s = _
  unfold execHostRead
  rw [if_neg (by simp [exists_, up, credit])]
  refine (if_neg (ne_true_of_eq_false sound)).trans ?_
  simp only [line', share', present']
  exact (if_neg (by simpa using granted)).trans (if_neg (by simp [opened, serving]))

end

/-- Settles O16. -/
theorem hostReadAnswers : Obligations.HostReadAnswers := by
  unfold Obligations.HostReadAnswers
  intro s h hpa wait line n exists_ up credit sound line_ share granted opened serving present service unpoisoned
  refine ⟨_, exec_hostRead_permitted wait exists_ up credit sound line_ share .clean granted opened serving present, ?_⟩
  obtain ⟨bad, read⟩ := lineRead_clean (s := s.begin.readTime h wait) (line := line) service
  have unpoisoned' : (s.begin.readTime h wait).linePoisoned line = false := unpoisoned
  have answer : (s.begin.readTime h wait).readLine h line .clean =
      (s.begin.readTime h wait).send (.readData h (memLine s.mem (line * 64)) false) := by
    rw [State.readLine, read, bad, unpoisoned']
    rfl
  rw [answer]
  exact ⟨rfl, readTime_maxrd s.begin h wait, ((leaves_begin s _).wri F.HP_LAT_MAXRD h _ (by simp)).send _⟩

/-- Settles O17: the write is counted where it is discarded, the read where it is answered with poison. -/
theorem deniedAccess : Obligations.DeniedAccess := by
  unfold Obligations.DeniedAccess
  intro s h hpa line n real exists_ up sound line_ share
  have head := lt_of_headExists exists_
  refine ⟨fun data be credit denied => ⟨_, exec_hostWrite_denied data be exists_ up credit sound line_ share denied, rfl,
      bumpi_rdi_self _ _ _, ((leaves_begin s _).send _).bumpi _ _ (by simp)⟩, fun wait err credit denied =>
    ⟨_, exec_hostRead_denied wait exists_ up credit sound line_ share err denied, rfl, ?_,
      ((((leaves_begin s _).bumpi _ _ (by simp)).wri _ _ _ (by simp)).send _).skipFree.bumpi _ _ (by simp)⟩⟩
  refine (State.wri_rdi_ne _ _ ?_).trans ((State.wri_rdi_ne _ _ ?_).trans (bumpi_rdi_self s.begin F.SHR_VIOL_RD n)) <;>
    simp [Field.key, F.SHR_VIOL_RD, F.HP_POIS_TXPOIS, F.HP_LAT_MAXRD] <;> omega

end Sys2Proof.Machine
end

section
/-! PROOFS. Which registers an operation writes: a field whose places it does not write reads as before. -/

namespace Sys2Proof.Machine

/-- Every field that is at none of the places of a list reads as before. -/
def Writes (fs : List (Field × Nat)) (s t : State) : Prop :=
  ∀ (g : Field) (j : Nat), (∀ e ∈ fs, e.1.key e.2 ≠ g.key j) → t.rdi g j = s.rdi g j

/-- No more than the register file is another. -/
def RegsOnly (s t : State) : Prop := ∃ r, t = { s with regs := r }

theorem RegsOnly.refl (s : State) : RegsOnly s s := ⟨s.regs, rfl⟩

theorem RegsOnly.trans {s t u : State} (first : RegsOnly s t) (second : RegsOnly t u) : RegsOnly s u := by
  obtain ⟨_, rfl⟩ := first
  obtain ⟨r, rfl⟩ := second
  exact ⟨r, rfl⟩

theorem RegsOnly.ite {s t u : State} (c : Prop) [Decidable c] (yes : RegsOnly s t) (no : RegsOnly s u) : RegsOnly s (if c then t else u) := by
  split
  · exact yes
  · exact no

theorem RegsOnly.wri {s t : State} (only : RegsOnly s t) (f : Field) (i v : Nat) : RegsOnly s (t.wri f i v) := only.trans ⟨_, rfl⟩

theorem RegsOnly.forEach {s t : State} (only : RegsOnly s t) (l : List Nat) (f : State → Nat → State) (each : ∀ a k, RegsOnly a (f a k)) :
    RegsOnly s (t.forEach l f) := by
  induction l generalizing t with
  | nil => exact only
  | cons k l ih => exact ih (only.trans (each t k))

theorem Writes.refl (fs : List (Field × Nat)) (s : State) : Writes fs s s := fun _ _ _ => rfl

theorem Writes.ite {fs : List (Field × Nat)} {s t u : State} (c : Prop) [Decidable c] (yes : Writes fs s t) (no : Writes fs s u) :
    Writes fs s (if c then t else u) := by
  split
  · exact yes
  · exact no

section
variable {fs : List (Field × Nat)} {s t : State} (writes : Writes fs s t)
include writes

theorem Writes.trans {u : State} (second : Writes fs t u) : Writes fs s u := fun g j other => (second g j other).trans (writes g j other)

theorem Writes.mono {gs : List (Field × Nat)} (sub : ∀ e ∈ fs, e ∈ gs) : Writes gs s t :=
  fun g j other => writes g j fun e he => other e (sub e he)

theorem Writes.regs {u : State} (same : u.regs = t.regs) : Writes fs s u := fun g j other => (rdi_eq_of_regs same g j).trans (writes g j other)

theorem Writes.wri (f : Field) (i v : Nat) (listed : (f, i) ∈ fs) : Writes fs s (t.wri f i v) :=
  fun g j other => (State.wri_rdi_ne t v (other (f, i) listed)).trans (writes g j other)

theorem Writes.wr (f : Field) (v : Nat) (listed : (f, 0) ∈ fs) : Writes fs s (t.wr f v) := writes.wri f 0 v listed

theorem Writes.event (c : Nat) (l : List Nat) : Writes fs s (t.event c l) := writes.regs (State.event_regs t c l)

theorem Writes.sbAlert (c : Nat) : Writes fs s (t.sbAlert c) := writes.regs (State.sbAlert_regs t c)

theorem Writes.forEach (l : List Nat) (f : State → Nat → State) (each : ∀ a, ∀ k ∈ l, Writes fs a (f a k)) : Writes fs s (t.forEach l f) := by
  induction l generalizing t with
  | nil => exact writes
  | cons k l ih => exact ih (writes.trans (each t k (by simp))) fun a k' mem => each a k' (by simp [mem])

end

/-- A field of one place reads as before where the list holds none of its place. -/
theorem Writes.rd {fs : List (Field × Nat)} {s t : State} (writes : Writes fs s t) {f : Field}
    (other : (fs.all fun e => e.1.key e.2 != f.key 0) = true) : t.rd f = s.rd f :=
  writes f 0 fun e listed => by simpa using List.all_eq_true.mp other e listed

/-! ### Operations that end most commands -/

/-- The places the attention register is shown at. -/
def attnPlaces : List (Field × Nat) := [(F.GEN_ATTN_CAUSE, 0), (F.GEN_ATTN_NEW, 0), (F.GEN_ATTN_SIL, 0)]

/-- The places readiness is shown at. -/
def readyPlaces : List (Field × Nat) := [(F.GEN_READY_BITS, 0), (F.GEN_RCHG_FLAGS, 0)] ++ attnPlaces

theorem writes_settleAttn (s : State) : Writes attnPlaces s s.settleAttn := by
  unfold State.settleAttn
  extract_lets c old rise t
  have shown : Writes attnPlaces s t :=
    (((Writes.refl attnPlaces s).wr _ _ (by simp [attnPlaces])).wr _ _ (by simp [attnPlaces])).wr _ _ (by simp [attnPlaces])
  exact .ite _ (.refl _ s) (.ite _ (shown.sbAlert 2) shown)

theorem msix0_regs (s : State) : s.msix0.regs = s.regs := by
  have each (l : List Nat) (t : State) : (t.forEach l fun t k => if t.headExists k then t.msix k 0 else t).regs = t.regs := by
    induction l generalizing t with
    | nil => rfl
    | cons k l ih =>
      refine (ih _).trans ?_
      dsimp only
      split
      · exact State.msix_regs t k 0
      · rfl
  exact each _ s

theorem writes_updReady (s : State) : Writes readyPlaces s s.updReady := by
  unfold State.updReady
  extract_lets v old t
  have shown : Writes readyPlaces s t := .ite _ (.refl _ s)
    (((((Writes.refl readyPlaces s).wr _ _ (by simp [readyPlaces])).wr _ _ (by simp [readyPlaces])).regs (msix0_regs _)).sbAlert 1)
  exact shown.trans ((writes_settleAttn t).mono fun e listed => List.mem_append_right _ listed)

end Sys2Proof.Machine
end

section
/-! PROOFS. Triggers, service input, WAKE_N and the loss of all energy, phase by phase (R17, R111, R112, R125, R127, R273, R385, R395). -/

namespace Sys2Proof.Machine

/-! ### The start of a Save -/

/-- R17: the phase and its cause after a transition. -/
theorem enterPhase_reads (s : State) {p cause : Nat} (real : p < 8) (known : cause < 64) :
    (s.enterPhase p cause).phase = p ∧ (s.enterPhase p cause).rd F.GEN_PHASE_CAUSE = cause := by
  unfold State.enterPhase
  extract_lets old t
  have phase (a : State) (v : Nat) : (((a.wr F.GEN_PHASE_PHASE p).wr F.GEN_PHASE_CAUSE cause).wr F.GEN_PHASE_SINCE v).rd F.GEN_PHASE_PHASE = p :=
    (State.wri_rdi_ne _ _ (by decide)).trans ((State.wri_rdi_ne _ _ (by decide)).trans
      ((State.wri_rdi_self _ _ _ _).trans (Nat.mod_eq_of_lt real)))
  have why (a : State) (v : Nat) : ((a.wr F.GEN_PHASE_CAUSE cause).wr F.GEN_PHASE_SINCE v).rd F.GEN_PHASE_CAUSE = cause :=
    (State.wri_rdi_ne _ _ (by decide)).trans ((State.wri_rdi_self _ _ _ _).trans (Nat.mod_eq_of_lt known))
  refine ⟨?_, ?_⟩
  · exact (rdi_eq_of_regs (State.sbAlert_regs _ _) _ _).trans (phase _ _)
  · exact (rdi_eq_of_regs (State.sbAlert_regs _ _) _ _).trans (why _ _)

theorem writes_seekOp (s : State) (op : Nat) : Writes [(F.PW_OP_TARGET, 0), (F.PW_OP_BUSY, 0)] s (s.seekOp op) := by
  unfold State.seekOp
  have target : Writes [(F.PW_OP_TARGET, 0), (F.PW_OP_BUSY, 0)] s (s.wr F.PW_OP_TARGET op) := (Writes.refl _ s).wr _ _ (by simp)
  refine .ite _ ((Writes.refl _ s).regs rfl) (.ite _ target ?_)
  exact (target.regs (u := { s.wr F.PW_OP_TARGET op with pw := { s.pw with opHalf := false } }) rfl).wr _ _ (by simp)

/-- The places that the start of a Save writes once it has entered SAVE. -/
def savePlaces : List (Field × Nat) := [(F.PW_STATE_PSTATE, 0), (F.PW_OP_TARGET, 0), (F.PW_OP_BUSY, 0)] ++ readyPlaces

/-- R112: a Save that starts is in phase SAVE, its cause that of the trigger. -/
theorem startSave_phase (s : State) (reason trig : Nat) : (s.startSave reason trig).phase = phSave ∧
    (s.startSave reason trig).rd F.GEN_PHASE_CAUSE = if reason = 1 then 0x05 else if reason = 2 then 0x06 else 0x07 := by
  generalize cause_ : (if reason = 1 then 0x05 else if reason = 2 then 0x06 else 0x07) = cause
  have known : cause < 64 := by
    subst cause_
    split
    · decide
    · split <;> decide
  unfold State.startSave
  rw [cause_]
  extract_lets rs opens dirty aseq oseq elim empty t1 t2 t3 _ _ t4 t5 t6 t7 t8 t9 _ t10
  obtain ⟨phase, why⟩ := enterPhase_reads t8 (p := phSave) (by decide) known
  have entered : Writes savePlaces t9 t10 := (Writes.refl _ t9).regs rfl
  have sought : Writes savePlaces t9 ((t10.wr F.PW_STATE_PSTATE 0).seekOp (saveOp rs.1)) :=
    (entered.wr _ _ (by simp [savePlaces])).trans ((writes_seekOp _ _).mono (by simp [savePlaces]))
  have whole : Writes savePlaces t9 (((t10.wr F.PW_STATE_PSTATE 0).seekOp (saveOp rs.1)).updReady) :=
    sought.trans ((writes_updReady _).mono fun e listed => List.mem_append_right _ listed)
  exact ⟨(whole.rd (by decide)).trans phase, (whole.rd (by decide)).trans why⟩

/-! ### What the inputs leave of the phase -/

/-- A write at any place but the phase's own leaves the phase. -/
theorem phase_of_write {s t : State} {f : Field} (v : Nat) (regs : t.regs = (s.begin.wr f v).regs) (other : f.key 0 ≠ F.GEN_PHASE_PHASE.key 0) :
    t.phase = s.phase := (rdi_eq_of_regs regs _ _).trans (State.wri_rdi_ne _ _ other)

theorem serving_of_phase {s t : State} (phase : t.phase = s.phase) : t.serving = s.serving := by rw [State.serving, phase, State.serving]

/-- R17: a state that is serving is in SERVICE or RESTORE. -/
theorem phase_of_serving {s : State} (serving : s.serving = true) : s.phase = phService ∨ s.phase = phRestore := by
  simpa [State.serving] using serving

/-! ### Comparators -/

/-- R111: the state after a comparator's trip is noted. -/
def State.tripped (s : State) (b : Nat) : State :=
  { s.begin.wr F.PW_VIN_OK 0 with pw := if b = 0 then { s.pw with cmpA := true } else { s.pw with cmpB := true } }

theorem tripped_phase (s : State) (b : Nat) : (s.tripped b).phase = s.phase := phase_of_write (f := F.PW_VIN_OK) 0 rfl (by decide)

/-- R112, R125: what a comparator's trip does in each phase. -/
theorem exec_comparatorTrip {s : State} {b : Nat} (real : b < 2) (ticks : Nat) :
    (s.serving = true → exec (.comparatorTrip b ticks) s = .next (((s.tripped b).wakeDeep ticks).startSave 1 (1 + b))) ∧
    (s.phase = phBringup → exec (.comparatorTrip b ticks) s = .next ((s.tripped b).offRequest 0x05)) ∧
    (s.phase = phSave → exec (.comparatorTrip b ticks) s =
      .next ((s.tripped b).wr (if b = 0 then F.SPN_SAVE_TRIGA else F.SPN_SAVE_TRIGB) 1)) := by
  have phase := tripped_phase s b
  have number : (if b = 0 then 1 else 2) = 1 + b := by split <;> omega
  have ran : exec (.comparatorTrip b ticks) s = .next ((s.tripped b).powerTrigger 1 (1 + b) ticks) := by rw [← number]; rfl
  refine ⟨fun serving => ?_, fun bringup => ?_, fun saving => ?_⟩ <;> rw [ran] <;> unfold State.powerTrigger
  · rw [serving_of_phase phase, if_pos serving]
  · rw [if_neg (by rw [serving_of_phase phase, State.serving, bringup]; decide), if_pos (phase.trans bringup)]
    rfl
  · rw [if_neg (by rw [serving_of_phase phase, State.serving, saving]; decide), if_neg (by rw [phase, saving]; decide),
      if_pos (.inl (phase.trans saving))]
    obtain rfl | rfl : b = 0 ∨ b = 1 := by omega
    · rfl
    · rfl

/-! ### Power down in the wait after OFF -/

/-- A place of the register file that no register of the configuration record, no trim, nothing kept through a reset, no share's state and no queue
allocation stands at. -/
def plainPlace (f : Field) : Bool :=
  ((allFields.filter Field.inRecord).all fun g => (List.range (max 1 g.count)).all fun i => g.key i != f.key 0) &&
    ([F.CK_TRIM_BOSC, F.CK_TRIM_LFO, F.CK_AOSC_PERIOD].all fun g => g.key 0 != f.key 0) &&
    ((fieldsKept ++ fieldsRail).all fun g => !g.covers (f.key 0)) &&
    ((List.range 64).all fun n => F.SHR_STATUS_STATE.key n != f.key 0) &&
    ((List.range 16).all fun k => F.QUE_ALLOC_FIRST.key k != f.key 0 && F.QUE_ALLOC_COUNT.key k != f.key 0)

/-- A field whose place is not among those put reads as before. -/
theorem putRegs_rdi (s : State) {l : FMap Nat} {f : Field} {i : Nat} (other : ∀ e ∈ l, e.1 ≠ f.key i) : (s.putRegs l).rdi f i = s.rdi f i := by
  have get (m : FMap Nat) : FMap.get f.rst (l.foldl (fun m e => FMap.put m e.1 e.2) m) (f.key i) = FMap.get f.rst m (f.key i) := by
    induction l generalizing m with
    | nil => rfl
    | cons e l ih => rw [List.foldl_cons, ih (fun e he => other e (by simp [he])), FMap.get_put_ne _ _ _ (other e (by simp))]
  exact congrArg (· % 2 ^ f.width) (get s.regs)

/-- The indices that a register offset gives a field are within its count. -/
theorem spots_index {f : Field} {off : Nat} {p : Nat × Nat} (spot : p ∈ f.spots 0 off) : p.1 < max 1 f.count := by
  have first {l : Nat} (only : p ∈ [(0, l)]) : p.1 < max 1 f.count := by
    rw [List.mem_singleton.mp only]
    exact Nat.lt_of_lt_of_le Nat.one_pos (Nat.le_max_left _ _)
  unfold Field.spots at spot
  repeat' split at spot
  all_goals try exact absurd spot List.not_mem_nil
  · exact first spot
  · obtain ⟨i, below, rfl⟩ := List.mem_map.mp spot
    exact lt_max_of_lt_right (List.mem_range.mp below)
  · exact first spot
  · rename_i within
    rw [List.mem_singleton.mp spot]
    exact lt_max_of_lt_right within.2

/-- R414: what the configuration record puts stands at a place of a field of the record. -/
theorem norRegs_place {s : State} {e : Nat × Nat} (put : e ∈ s.norRegs) :
    ∃ g ∈ allFields.filter Field.inRecord, ∃ i < max 1 g.count, e.1 = g.key i := by
  simp only [State.norRegs, List.mem_flatMap, List.mem_map] at put
  obtain ⟨r, _, g, record, p, spot, rfl⟩ := put
  exact ⟨g, record, p.1, spots_index (List.mem_filter.mp spot).1, rfl⟩

/-- What stands at a place of a field of the record, a trim or a kept field stands at no plain place. -/
theorem resetPut_place {s : State} {f : Field} (plain : plainPlace f = true) :
    ∀ e ∈ s.norRegs ++ s.trimRegs ++ s.keep fieldsKept ++ s.keep fieldsRail, e.1 ≠ f.key 0 := by
  simp only [plainPlace, Bool.and_eq_true] at plain
  obtain ⟨⟨⟨⟨record, trims⟩, kept⟩, _⟩, _⟩ := plain
  have kept_ne {l : List Field} (sub : ∀ g ∈ l, g ∈ fieldsKept ++ fieldsRail) {e : Nat × Nat} (put : e ∈ s.keep l) : e.1 ≠ f.key 0 := by
    rintro place
    obtain ⟨g, listed, covers⟩ := List.any_eq_true.mp (List.mem_filter.mp put).2
    have := List.all_eq_true.mp kept g (sub g listed)
    simp [← place, covers] at this
  intro e put
  rcases List.mem_append.mp put with put | rail
  rcases List.mem_append.mp put with put | aon
  rcases List.mem_append.mp put with user | trim
  · obtain ⟨g, inRecord, i, real, place⟩ := norRegs_place user
    have := List.all_eq_true.mp (List.all_eq_true.mp record g inRecord) i (List.mem_range.mpr real)
    rw [place]
    simpa using this
  · simp only [List.all_cons, List.all_nil, Bool.and_eq_true, bne_iff_ne] at trims
    obtain ⟨bosc, lfo, aosc, _⟩ := trims
    simp only [State.trimRegs, List.mem_cons, List.not_mem_nil, or_false] at trim
    rcases trim with rfl | rfl | rfl
    · exact bosc
    · exact lfo
    · exact aosc
  · exact kept_ne (fun g listed => List.mem_append_left _ listed) aon
  · exact kept_ne (fun g listed => List.mem_append_right _ listed) rail

/-- The places of the shares' states and of the queue allocation. -/
def sharePlaces : List (Field × Nat) := (List.range 64).map fun n => (F.SHR_STATUS_STATE, n)

def allocPlaces : List (Field × Nat) := (List.range 16).flatMap fun k => [(F.QUE_ALLOC_FIRST, k), (F.QUE_ALLOC_COUNT, k)]

/-- R58: the allocation of the queues writes no other register. -/
theorem writes_allocate (s : State) : Writes allocPlaces s s.allocate := by
  unfold State.allocate
  extract_lets user of l clash bad put t
  have placed : Writes allocPlaces s t := (Writes.refl _ s).forEach _ _ fun a k index =>
    ((Writes.refl allocPlaces a).wri _ _ _ (List.mem_flatMap.mpr ⟨k, index, by simp⟩)).wri _ _ _
      (List.mem_flatMap.mpr ⟨k, index, by simp⟩)
  exact .ite _ (placed.event _ _) placed

/-- R403: a field at a plain place reads its reset value after a reset that keeps nothing of DRAM. -/
theorem resetLogic_reads {f : Field} (plain : plainPlace f = true) (s : State) : (s.resetLogic false).rd f = State.reset.rd f := by
  have places := plain
  simp only [plainPlace, Bool.and_eq_true] at places
  obtain ⟨⟨_, shares⟩, queues⟩ := places
  obtain ⟨t3, whole, regs⟩ : ∃ t : State, s.resetLogic false = (t.forEach (List.range 64) fun a n =>
      if a.rdi F.SHR_STATUS_STATE n = 0 then a else a.wri F.SHR_STATUS_STATE n shPending).allocate ∧
      t.regs = (State.reset.putRegs (s.norRegs ++ s.trimRegs ++ s.keep fieldsKept ++ s.keep fieldsRail ++ [])).regs := ⟨_, rfl, rfl⟩
  have put : t3.rd f = State.reset.rd f := by
    rw [List.append_nil] at regs
    exact (rdi_eq_of_regs regs f 0).trans (putRegs_rdi _ (resetPut_place plain))
  have shown : Writes sharePlaces t3 (t3.forEach (List.range 64) fun a n =>
      if a.rdi F.SHR_STATUS_STATE n = 0 then a else a.wri F.SHR_STATUS_STATE n shPending) :=
    (Writes.refl _ t3).forEach _ _ fun a n index =>
      .ite _ (.refl _ a) ((Writes.refl sharePlaces a).wri _ _ _ (List.mem_map.mpr ⟨n, index, rfl⟩))
  rw [whole]
  refine ((writes_allocate _).rd ?_).trans ((shown.rd ?_).trans put)
  · simpa [allocPlaces] using queues
  · simpa [sharePlaces] using shares

/-- R17, R274: an off request in the wait after OFF leaves no request pending and no power sequence. -/
theorem intoDormant_reads (s : State) (cause : Nat) :
    (s.intoDormant cause).rd F.PW_STATE_ONPEND = 0 ∧ (s.intoDormant cause).rd F.PW_STATE_SEQ = 0 := by
  have reads (f : Field) (plain : plainPlace f = true) (dom : F.PW_DOM_DOM.key 0 ≠ f.key 0) (phase : F.GEN_PHASE_PHASE.key 0 ≠ f.key 0)
      (pstate : F.PW_STATE_PSTATE.key 0 ≠ f.key 0) : (s.intoDormant cause).rd f = State.reset.rd f := by
    unfold State.intoDormant
    extract_lets
    refine (State.wri_rdi_ne _ _ pstate).trans ((State.wri_rdi_ne _ _ phase).trans ((State.wri_rdi_ne _ _ dom).trans ?_))
    exact resetLogic_reads plain _
  exact ⟨reads F.PW_STATE_ONPEND (by decide +kernel) (by decide) (by decide) (by decide),
    reads F.PW_STATE_SEQ (by decide +kernel) (by decide) (by decide) (by decide)⟩

/-! ### The latch and RESET_N -/

/-- R395: LED_SAFE shows the phase, the removal hold and whether a pack may be taken. -/
theorem ledSafe_of_reads {s t : State} (phase : t.phase = s.phase) (hold : t.rd F.GEN_PANEL_RMV = s.rd F.GEN_PANEL_RMV)
    (safe0 : t.rdi F.EN_STS_SAFE 0 = s.rdi F.EN_STS_SAFE 0) (safe1 : t.rdi F.EN_STS_SAFE 1 = s.rdi F.EN_STS_SAFE 1) : t.ledSafe = s.ledSafe := by
  unfold State.ledSafe State.flagi
  rw [phase, hold, safe0, safe1]

/-- R127: the latch opened in SERVICE or RESTORE starts a Save while LED_SAFE is not lit, and is recorded while it is. -/
theorem exec_latchOpen {s : State} (serving : s.serving = true) (ticks : Nat) :
    let t := (s.begin.wr F.GEN_PINS_LATCH 1).event 0xF108 [s.ledSafe]
    (s.ledSafe ≠ 1 → exec (.latchOpen ticks) s = .next ((t.wakeDeep ticks).startSave 2 4)) ∧
    (s.ledSafe = 1 → exec (.latchOpen ticks) s = .next t) := by
  intro t
  have phase : (s.begin.wr F.GEN_PINS_LATCH 1).phase = s.phase := phase_of_write 1 rfl (by decide)
  have lit : (s.begin.wr F.GEN_PINS_LATCH 1).ledSafe = s.ledSafe := ledSafe_of_reads phase
    (State.wri_rdi_ne s.begin 1 (by decide)) (State.wri_rdi_ne s.begin 1 (by decide)) (State.wri_rdi_ne s.begin 1 (by decide))
  have phase' : t.phase = s.phase := (rdi_eq_of_regs (State.event_regs _ _ _) _ _).trans phase
  have up : ¬ ((s.begin.wr F.GEN_PINS_LATCH 1).phase = phOff ∨ (s.begin.wr F.GEN_PINS_LATCH 1).phase = phDormant) := by
    rw [phase]
    rcases phase_of_serving serving with here | here <;> rw [here] <;> decide
  have booted : t.phase ≠ phBringup := by
    rw [phase']
    rcases phase_of_serving serving with here | here <;> rw [here] <;> decide
  have ran : exec (.latchOpen ticks) s =
      if s.ledSafe = 1 ∨ t.phase = phBringup then .next t else .next (t.powerTrigger 2 4 ticks) := by
    refine (if_neg up).trans ?_
    rw [lit]
  refine ⟨fun dark => ?_, fun lit => ?_⟩
  · rw [ran, if_neg (by simp [dark, booted])]
    exact congrArg Host.Outcome.next (if_pos ((serving_of_phase phase').trans serving))
  · rw [ran, if_pos (.inl lit)]

/-- R385: the state after RESET_N is seen low. -/
def State.resetSeen (s : State) : State := { s.begin.wr F.GEN_PINS_RESET 0 with pw := { s.pw with resetLow := true } }

/-- R127, R385: RESET_N going low in SERVICE or RESTORE starts a Save. -/
theorem exec_resetNAssert_serving {s : State} (serving : s.serving = true) (ticks : Nat) :
    exec (.resetNAssert ticks) s = .next ((s.resetSeen.wakeDeep ticks).startSave 3 0) := by
  have phase : s.resetSeen.phase = s.phase := phase_of_write (f := F.GEN_PINS_RESET) 0 rfl (by decide)
  exact congrArg Host.Outcome.next (if_pos ((serving_of_phase phase).trans serving))

/-! ### Service input and WAKE_N -/

/-- R273: the state after service input is valid again. -/
def State.inputValid (s : State) : State := { s.begin.wr F.PW_VIN_OK 1 with pw := { s.pw with cmpA := false, cmpB := false } }

/-- R125, R273: service input returning, by phase. -/
theorem exec_serviceInputValid (s : State) (ticks : Nat) :
    (s.phase = phOff → exec (.serviceInputValid ticks) s = .next (s.inputValid.onRequest 1 ticks)) ∧
    (s.phase = phDormant → exec (.serviceInputValid ticks) s = .next (s.inputValid.onRequest (if s.pw.wake then 2 else 4) ticks)) ∧
    (s.phase = phLinger → exec (.serviceInputValid ticks) s = .next (s.inputValid.warmReturn ticks)) ∧
    (s.phase = phSave → exec (.serviceInputValid ticks) s =
      .next ((s.inputValid.wr F.SPN_SAVE_PWRBACK 1).event 0x4006 [(s.ck.mono - s.sv.startAt) / 1000])) := by
  have phase : s.inputValid.phase = s.phase := phase_of_write (f := F.PW_VIN_OK) 1 rfl (by decide)
  change (_ → execServiceInputValid ticks s = _) ∧ (_ → execServiceInputValid ticks s = _) ∧ (_ → execServiceInputValid ticks s = _) ∧
    (_ → execServiceInputValid ticks s = _)
  have not (a b : Nat) (here : s.phase = a) (differ : a ≠ b) : ¬ s.inputValid.phase = b := by rw [phase, here]; exact differ
  unfold execServiceInputValid
  refine ⟨fun off => ?_, fun dormant => ?_, fun linger => ?_, fun saving => ?_⟩
  · exact if_pos (phase.trans off)
  · exact (if_neg (not _ _ dormant (by decide))).trans (if_pos (phase.trans dormant))
  · exact (if_neg (not _ _ linger (by decide))).trans ((if_neg (not _ _ linger (by decide))).trans (if_pos (phase.trans linger)))
  · exact (if_neg (not _ _ saving (by decide))).trans ((if_neg (not _ _ saving (by decide))).trans
      ((if_neg (not _ _ saving (by decide))).trans (if_pos (phase.trans saving))))

/-- R273: the fall of WAKE_N, by phase and input. -/
theorem exec_wakeNFall (s : State) (ticks : Nat) :
    let t := s.begin.wr F.GEN_PINS_WAKE 0
    (s.phase = phDormant → s.flag F.PW_VIN_OK = true → exec (.wakeNFall ticks) s = .next (t.onRequest 2 ticks)) ∧
    (s.phase = phDormant → s.flag F.PW_VIN_OK = false → exec (.wakeNFall ticks) s = .next { t with pw := { t.pw with wake := true } }) ∧
    (s.phase = phService → exec (.wakeNFall ticks) s = .next (t.wakeDeep ticks)) := by
  intro t
  have phase : t.phase = s.phase := phase_of_write (f := F.GEN_PINS_WAKE) 0 rfl (by decide)
  have input : t.flag F.PW_VIN_OK = s.flag F.PW_VIN_OK := 
    congrArg (· == 1) (State.wri_rdi_ne (f := F.GEN_PINS_WAKE) (i := 0) (g := F.PW_VIN_OK) (j := 0) s.begin 0 (by decide))
  change (_ → _ → execWakeNFall ticks s = _) ∧ (_ → _ → execWakeNFall ticks s = _) ∧ (_ → execWakeNFall ticks s = _)
  unfold execWakeNFall
  refine ⟨fun dormant valid => ?_, fun dormant gone => ?_, fun service => ?_⟩
  · exact (if_pos (.inr (phase.trans dormant))).trans (if_pos (input.trans valid))
  · exact (if_pos (.inr (phase.trans dormant))).trans (if_neg (ne_true_of_eq_false (input.trans gone)))
  · exact (if_neg (by rw [show (s.begin.wr F.GEN_PINS_WAKE 0).phase = s.phase from phase, service]; decide)).trans (if_pos (phase.trans service))

/-! ### All energy gone -/

/-- The places written when all energy is gone. -/
def gonePlaces : List (Field × Nat) :=
  [(F.GEN_PHASE_PHASE, 0), (F.GEN_PHASE_PREV, 0), (F.PW_STATE_SEQ, 0), (F.PW_STATE_STEP, 0), (F.SEC_STS_DISCPEND, 0), (F.FW_CTL_RECREQ, 0),
    (F.CK_SLEEP_VALID, 0), (F.CK_SLEEP_TICKS, 0)] ++ (List.range 16).map fun i => (F.PW_RMON_PG, i)

/-- What lies in PD_AON and in the packs' bays is lost. -/
def State.aonLost (s : State) : State :=
  { s with pw := { s.pw with wake := false, onHeld := false, down := none, snapPend := [] }
           ck := { s.ck with sleep := none, armed := false }
           ev := { s.ev with aon := [], aonCount := [], queue := [] }
           bayA := { s.bayA with kept := none, intent := false }, bayB := { s.bayB with kept := none, intent := false } }

/-- No rail reports power-good. -/
def State.railsDown (s : State) : State :=
  s.forEach (List.range 16) fun a i => if a.flagi F.PW_RMON_PG i then a.wri F.PW_RMON_PG i 0 else a

theorem railsDown_only (s : State) : RegsOnly s s.railsDown := (RegsOnly.refl s).forEach _ _ fun a _ => .ite _ ((RegsOnly.refl a).wri _ _ _) (.refl a)

theorem writes_railsDown (s : State) : Writes gonePlaces s s.railsDown :=
  (Writes.refl _ s).forEach _ _ fun a i index => .ite _
    ((Writes.refl gonePlaces a).wri _ _ _ (List.mem_append_right _ (List.mem_map.mpr ⟨i, index, rfl⟩))) (.refl _ a)

/-- R127: the registers written when all energy is gone. -/
def State.goneWritten (s : State) : State :=
  (((((((s.wr F.GEN_PHASE_PREV phDormant).wr F.GEN_PHASE_PHASE phOff).wr F.PW_STATE_SEQ 0).wr F.PW_STATE_STEP 0).wr F.SEC_STS_DISCPEND 0).wr
    F.FW_CTL_RECREQ 0).wr F.CK_SLEEP_VALID 0).wr F.CK_SLEEP_TICKS 0

theorem energyGone_eq (s : State) : s.energyGone = s.aonLost.railsDown.goneWritten := rfl

theorem goneWritten_only (s : State) : RegsOnly s s.goneWritten :=
  ((((((((RegsOnly.refl s).wri _ _ _).wri _ _ _).wri _ _ _).wri _ _ _).wri _ _ _).wri _ _ _).wri _ _ _).wri _ _ _

theorem writes_goneWritten (s : State) : Writes gonePlaces s s.goneWritten :=
  ((((((((Writes.refl _ s).wr _ _ (by simp [gonePlaces])).wr _ _ (by simp [gonePlaces])).wr _ _ (by simp [gonePlaces])).wr _ _
    (by simp [gonePlaces])).wr _ _ (by simp [gonePlaces])).wr _ _ (by simp [gonePlaces])).wr _ _ (by simp [gonePlaces])).wr _ _
    (by simp [gonePlaces])

/-- R17: the phase and the phase before it, which what is written after them leaves. -/
theorem goneWritten_phase (s : State) : s.goneWritten.phase = phOff ∧ s.goneWritten.rd F.GEN_PHASE_PREV = phDormant := by
  have ne {a : State} {f g : Field} {v : Nat} (other : f.key 0 ≠ g.key 0) : (a.wr f v).rd g = a.rd g := State.wri_rdi_ne a v other
  have self {a : State} {f : Field} {v : Nat} : (a.wr f v).rd f = v % 2 ^ f.width := State.wri_rdi_self a f 0 v
  unfold State.goneWritten State.phase
  constructor
  · rw [ne (by decide), ne (by decide), ne (by decide), ne (by decide), ne (by decide), ne (by decide), self]
    rfl
  · rw [ne (by decide), ne (by decide), ne (by decide), ne (by decide), ne (by decide), ne (by decide), ne (by decide), self]
    rfl

/-- R127: the loss of all energy leaves nothing latched for a sleep and nothing recorded in PD_AON, and no memory. -/
theorem energyGone_effect (s : State) :
    s.energyGone.ck.sleep = none ∧ s.energyGone.ev.aon = [] ∧ s.energyGone.pw.down = none ∧ Leaves s s.energyGone gonePlaces := by
  have lost : Writes gonePlaces s s.aonLost := (Writes.refl _ s).regs rfl
  have writes := (lost.trans (writes_railsDown s.aonLost)).trans (writes_goneWritten _)
  obtain ⟨r, only⟩ := (railsDown_only s.aonLost).trans (goneWritten_only _)
  rw [energyGone_eq]
  rw [only] at writes ⊢
  exact ⟨rfl, rfl, rfl, fun _ => rfl, rfl, rfl, rfl, rfl, rfl, writes⟩

/-- Settles O47. -/
theorem triggersAndInput : Obligations.TriggersAndInput := by
  unfold Obligations.TriggersAndInput
  refine ⟨?_, ?_, fun s ticks => exec_serviceInputValid s ticks, ?_⟩
  · intro s b ticks real
    obtain ⟨serving, bringup, saving⟩ := exec_comparatorTrip (s := s) real ticks
    have step : (s.tripped b).rd F.PW_STATE_SEQ = s.rd F.PW_STATE_SEQ := State.wri_rdi_ne s.begin 0 (by decide)
    have step' : (s.tripped b).rd F.PW_STATE_STEP = s.rd F.PW_STATE_STEP := State.wri_rdi_ne s.begin 0 (by decide)
    refine ⟨fun on => ⟨_, serving on, rfl, startSave_phase _ 1 (1 + b)⟩, fun on => ⟨fun none_ => ?_, fun up => ?_, fun wait => ?_⟩, saving⟩
    · rw [bringup on, State.offRequest, step, none_]
      rfl
    · rw [bringup on, State.offRequest, step, step', up]
      rfl
    · refine ⟨_, (bringup on).trans (congrArg Host.Outcome.next (if_pos (step.trans wait))), rfl, intoDormant_reads _ _⟩
  · intro s ticks serving
    obtain ⟨dark, lit⟩ := exec_latchOpen serving ticks
    exact ⟨fun unlit => ⟨_, dark unlit, rfl, startSave_phase _ 2 4⟩, fun shown => by rw [lit shown, shown],
      ⟨_, exec_resetNAssert_serving serving ticks, rfl, startSave_phase _ 3 0⟩⟩
  · intro s ticks
    obtain ⟨valid, gone, service⟩ := exec_wakeNFall s ticks
    refine ⟨valid, gone, service, fun dormant => ⟨s.begin.energyGone, congrArg Host.Outcome.next (if_pos dormant), ?_⟩⟩
    obtain ⟨phase, prev⟩ := goneWritten_phase s.begin.aonLost.railsDown
    obtain ⟨sleep, aon, down, leaves⟩ := energyGone_effect s.begin
    exact ⟨phase, prev, sleep, aon, down, Leaves.trans (leaves_begin s _) leaves⟩

end Sys2Proof.Machine
end

section
/-! PROOFS. The RELEASE walk registers (R96): what follows a walk leaves them. -/

namespace Sys2Proof.Machine

theorem foldl_walks {α : Type} (f : State → α → State) (l : List α) (s : State) (each : ∀ a x, (f a x).walks = a.walks) :
    (l.foldl f s).walks = s.walks := by
  induction l generalizing s with
  | nil => rfl
  | cons x l ih => exact (ih _).trans (each s x)

theorem forEach_walks (l : List Nat) (f : State → Nat → State) (s : State) (each : ∀ a k, (f a k).walks = a.walks) :
    (s.forEach l f).walks = s.walks := foldl_walks f l s each
@[simp] theorem setBlk_walks (s : State) (b : Nat) (x : Blk) : (s.setBlk b x).walks = s.walks := rfl

@[simp] theorem setTgt_walks (s : State) (n : Nat) (x : Target) : (s.setTgt n x).walks = s.walks := rfl

@[simp] theorem setBundle_walks (s : State) (b : Nat) (x : Bundle) : (s.setBundle b x).walks = s.walks := rfl

@[simp] theorem append_walks (s : State) (ty : Nat) (args : List Nat) (pay : JPay) (count : Nat) : (s.append ty args pay count).walks = s.walks := rfl

@[simp] theorem settleMr_walks (s : State) : s.settleMr.walks = s.walks := by
  obtain ⟨_, _, _, _, _, settled⟩ := settled_settleMr s
  rw [settled]

@[simp] theorem msix0_walks (s : State) : s.msix0.walks = s.walks :=
  by simp [State.msix0, apply_ite State.walks, forEach_walks]

@[simp] theorem settleAttn_walks (s : State) : s.settleAttn.walks = s.walks := by simp [State.settleAttn, apply_ite State.walks]

@[simp] theorem updReady_walks (s : State) : s.updReady.walks = s.walks := by simp [State.updReady, apply_ite State.walks]

@[simp] theorem debit_walks (s : State) (n : Nat) : (s.debit n).walks = s.walks := by simp [State.debit, apply_ite State.walks]

@[simp] theorem suspendErase_walks (s : State) (t : Nat) : (s.suspendErase t).walks = s.walks := by
  unfold State.suspendErase
  split
  · rfl
  · simp [apply_ite State.walks]

@[simp] theorem startPrograms_walks (s : State) (ms : List Nat) : (s.startPrograms ms).walks = s.walks :=
  foldl_walks _ ms s fun a m => (suspendErase_walks _ _).trans (by simp only [apply_ite State.walks]; exact ite_self _)

@[simp] theorem fly_walks (s : State) (k : Skein) : (s.fly k).walks = s.walks := by simp [State.fly]

@[simp] theorem verifySeals_walks (s : State) (l : List Nat) : (s.verifySeals l).1.walks = s.walks := by
  unfold State.verifySeals
  dsimp only
  split
  · rfl
  · rw [foldl_walks (fun (a : State) m => a.setBlk m _) _ _ fun _ _ => rfl, foldl_walks State.relist _ _ fun _ _ => rfl]
    rfl

@[simp] theorem ceilUpdate_walks (s : State) (cause : Nat) : (s.ceilUpdate cause).walks = s.walks :=
  by simp [State.ceilUpdate, apply_ite State.walks]

@[simp] theorem openWithin_walks (s : State) (use : Nat) (x0 : Nat) : (s.openWithin use x0).1.walks = s.walks := by
  induction x0 generalizing s with
  | zero => rfl
  | succ n ih =>
    unfold State.openWithin
    dsimp only
    split
    · rfl
    · split
      · simp [ih]
      · rw [append_walks, ceilUpdate_walks, setBundle_walks]
        refine (forEach_walks _ _ _ ?_).trans (verifySeals_walks _ _)
        exact fun _ _ => rfl

@[simp] theorem openBundle_walks (s : State) (use : Nat) : (s.openBundle use).1.walks = s.walks := by simp [State.openBundle]

@[simp] theorem announce_walks (s : State) : s.announce.walks = s.walks := by
  unfold State.announce
  have opened := openBundle_walks s 2
  generalize s.openBundle 2 = p at opened ⊢
  obtain ⟨u, r⟩ := p
  rw [apply_ite State.walks]
  cases r <;> exact (congrArg (ite _ _) opened).trans (ite_self _)

@[simp] theorem currentJournal_walks (s : State) : s.currentJournal.1.walks = s.walks := by
  unfold State.currentJournal
  dsimp only
  (repeat' split) <;> simp

@[simp] theorem journalBundle_walks (s : State) : s.journalBundle.1.walks = s.walks := by
  unfold State.journalBundle
  dsimp only
  (repeat' split) <;> simp

@[simp] theorem takePage_walks (s : State) (b : Nat) : (s.takePage b).walks = s.walks := rfl

@[simp] theorem flushOne_walks (s : State) : s.flushOne.walks = s.walks := by
  have bundle := journalBundle_walks s
  unfold State.flushOne
  dsimp only
  split
  · exact bundle
  · simp [apply_ite State.walks, State.takeGen, State.setBundle]

@[simp] theorem flushMany_walks (s : State) (x0 : Nat) : (s.flushMany x0).walks = s.walks := by
  induction x0 generalizing s with
  | zero => rfl
  | succ n ih => simp [State.flushMany, apply_ite State.walks, ih]

@[simp] theorem flushTail_walks (s : State) : s.flushTail.walks = s.walks := by simp [State.flushTail]

@[simp] theorem journalP_walks (s : State) (ty : Nat) (args : List Nat) (pay : JPay) (count : Nat) : (s.journalP ty args pay count).walks = s.walks := by
  simp only [State.journalP, apply_ite State.walks, flushTail_walks, ite_self]
  rfl

@[simp] theorem journal_walks (s : State) (ty : Nat) (args : List Nat) : (s.journal ty args).walks = s.walks := by simp [State.journal]

@[simp] theorem logReleased_walks (s : State) (share lo hi : Nat) (kept : Segs UnitSt) : (s.logReleased share lo hi kept).walks = s.walks :=
  by simp [State.logReleased, foldl_walks]

@[simp] theorem countShutdown_walks (s : State) (restore : Bool) : (s.countShutdown restore).walks = s.walks :=
  by simp [State.countShutdown, apply_ite State.walks, forEach_walks]

@[simp] theorem enterPhase_walks (s : State) (p cause : Nat) : (s.enterPhase p cause).walks = s.walks :=
  by simp [State.enterPhase, apply_ite State.walks]

@[simp] theorem restoreEnd_walks (s : State) : s.restoreEnd.walks = s.walks := by simp [State.restoreEnd, apply_ite State.walks]

@[simp] theorem setShState_walks (s : State) (n st : Nat) : (s.setShState n st).walks = s.walks :=
  by simp [State.setShState, apply_ite State.walks]

@[simp] theorem settleShare_walks (s : State) (n : Nat) : (s.settleShare n).walks = s.walks :=
  by simp [State.settleShare, apply_ite State.walks]

@[simp] theorem settleShares_walks (s : State) : s.settleShares.walks = s.walks := by
  unfold State.settleShares
  dsimp only
  (repeat' split) <;> simp [forEach_walks]

@[simp] theorem prunePoison_walks (s : State) : s.prunePoison.walks = s.walks := rfl

@[simp] theorem cleanLines_walks (s : State) (lo hi : Nat) : (s.cleanLines lo hi).walks = s.walks :=
  by simp [State.cleanLines, apply_ite State.walks]

@[simp] theorem releaseAbsent_walks (s : State) (lo hi : Nat) : (s.releaseAbsent lo hi).walks = s.walks :=
  by simp [State.releaseAbsent, apply_ite State.walks, foldl_walks]

@[simp] theorem satisfy_walks (s : State) (p : Ticket → Bool) (lo hi : Nat) : (s.satisfy p lo hi).walks = s.walks := rfl

@[simp] theorem voidSlots_walks (s : State) (lo hi : Nat) : (s.voidSlots lo hi).walks = s.walks := rfl

@[simp] theorem walkRange_walks (s : State) (lo hi : Nat) : (s.walkRange lo hi).walks = s.walks :=
  by simp [State.walkRange, foldl_walks]

@[simp] theorem finish_walks (s : State) (t : Ticket) (st rs res : Nat) : (s.finish t st rs res).walks = s.walks := by
  obtain ⟨_, _, _, _, _, whole⟩ := (completing_finish s t st rs res).frame
  rw [whole]

@[simp] theorem flushFlash_walks (s : State) (before : List Ticket) : (s.flushFlash before).walks = s.walks :=
  by simp [State.flushFlash, foldl_walks]

end Sys2Proof.Machine
end

section
/-! PROOFS. RELEASE and its walks (R73, R96): the walk register taken, and what the walk's end frees. -/

namespace Sys2Proof.Machine

/-! ### The start of a walk -/

/-- R96: the walk of a RELEASE's ticket. -/
def Ticket.walk (t : Ticket) : Walk := { share := t.share, lo := t.lo, hi := t.hi, qid := t.qid, seq := t.seq, twine := false, links := 0 }

/-- R96: a walk that starts stands in its register. -/
theorem startWalk_find (s : State) (r : Nat) (t : Ticket) : FMap.find (s.startWalk r t).walks r = some t.walk := by
  have stands : FMap.find (FMap.put s.walks r t.walk) r = some t.walk := by rw [FMap.find_put, if_pos rfl]
  unfold State.startWalk
  extract_lets a _ b
  split
  · obtain ⟨_, _, _, _, sent⟩ := (Streamed.refl b).sendSeq 0x12 [b.peershr t.share + (t.hi - t.lo) * 2 ^ 32, t.lo - b.shLo t.share]
    rw [sent]
    exact stands
  · exact stands

section
variable {s : State} {q share off len i : Nat} (taking : Taking s q)
  (valid : s.rangeFault (s.queue q).head share off len true = none) (free : s.freeWalk = some i)
  (uncovered : s.coveredByFlash (s.rangeUnits share off len).1 (s.rangeUnits share off len).2 = false)

/-- R96: the ticket of a RELEASE: what the capture gave, with the units covered. -/
def State.releaseTicket (s : State) (c : Ticket) (share off len : Nat) : Ticket :=
  { c with lo := (s.rangeUnits share off len).1, hi := (s.rangeUnits share off len).2 }

/-- R73: the hold of a RELEASE in flight on its queue's later tickets. -/
def State.heldBy (s : State) (q seq : Nat) : State :=
  s.setQueue q { s.queue q with holdF := seq :: (s.queue q).holdF, holdH := seq :: (s.queue q).holdH }

include valid free uncovered in
/-- R73, R96: a RELEASE of a valid range that no FLASH ticket covers, with a walk register free, starts its walk. -/
theorem takeRelease_walks (tag : Nat) (u : Bool) :
    let c := s.newTicket q tag .release 0 share u false
    let t := s.releaseTicket c.2 share off len
    s.takeRelease q tag share off len u = ((c.1.heldBy q t.seq).keepTicket { t with op := 0 }).startWalk i t := by
  intro c t
  have faults : c.1.rangeFault (s.queue q).head share off len true = none := valid
  have units : c.1.rangeUnits share off len = s.rangeUnits share off len := rfl
  have open_ : ((c.1.heldBy q t.seq).keepTicket { t with op := 0 }).freeWalk = some i := by
    rw [State.freeWalk, keepTicket_walks]
    exact free
  have clear : ((c.1.heldBy q t.seq).keepTicket { t with op := 0 }).coveredByFlash t.lo t.hi = false := by
    rw [State.coveredByFlash, keepTicket_tickets, List.any_append, Bool.or_eq_false_iff]
    exact ⟨uncovered, rfl⟩
  have free' : c.1.freeWalk = some i := free
  unfold State.takeRelease
  change (match c.1.rangeFault (s.queue q).head share off len true with
    | some (st, rs) => c.1.finish c.2 st rs 0
    | none =>
      let r := (c.1.heldBy q t.seq).keepTicket { t with op := if c.1.freeWalk.isNone then 1 else 0 }
      match r.freeWalk with
      | some i => if r.coveredByFlash t.lo t.hi then r else r.startWalk i t
      | none => r) = _
  simp only [faults, free', Option.isNone_some, Bool.false_eq_true, if_false, open_, clear]

include taking valid free uncovered in
/-- R73, R96: a RELEASE that starts its walk at once leaves memory and the dirty map. -/
theorem exec_release_walks (tag : Nat) (u : Bool) : ∃ t w, exec (.release q tag share off len u) s = .next t ∧
    FMap.find t.walks i = some w ∧ w.share = share ∧ w.qid = q ∧ (w.lo, w.hi) = s.rangeUnits share off len ∧ w.seq = (s.queue q).last + 1 ∧
    t.mem = s.mem ∧ t.dmap = s.dmap := by
  have plain : (s.queue q).submitted = none := by obtain ⟨_, _, _, _, plain⟩ := taking; exact plain
  let c := s.begin.newTicket q tag .release 0 share u false
  let k := s.begin.releaseTicket c.2 share off len
  let held := (c.1.heldBy q k.seq).keepTicket { k with op := 0 }
  have named : k.share = share := by
    change ((s.queue q).submitted.getD (share, 0, u)).1 = share
    rw [plain]
    rfl
  obtain ⟨_, mem, _, _, dmap, _⟩ := still_startWalk held i k
  refine ⟨held.startWalk i k, k.walk, (exec_release_taking taking ..).trans (congrArg _ (takeRelease_walks (s := s.begin) valid free uncovered tag u)),
    startWalk_find _ _ _, named, rfl, rfl, rfl, mem.trans (keepTicket_mem _ _), dmap.trans (keepTicket_dmap _ _)⟩

end

/-! ### The capture of a RELEASE that waited -/

/-- R96: RELEASE_CAPTURE of a waiting RELEASE that no FLASH ticket covers, with a walk register free, starts its walk. -/
theorem exec_releaseCapture_walks {s : State} {q seq i : Nat} {a : Ticket}
    (waits : (s.tickets.find? fun a => a.qid == q && a.seq == seq && a.kind == .release && !a.walking && a.outcome.isNone) = some a)
    (free : s.freeWalk = some i) (uncovered : s.coveredByFlash a.lo a.hi = false) :
    ∃ t, exec (.releaseCapture q seq) s = .next t ∧ FMap.find t.walks i = some a.walk ∧ t.mem = s.mem ∧ t.dmap = s.dmap := by
  have ran : exec (.releaseCapture q seq) s =
      .next (if a.op = 1 then (s.begin.startWalk i a).event 0x3007 [q, (s.begin.startWalk i a).ck.mono - a.since]
        else s.begin.startWalk i a) := by
    have free' : s.begin.freeWalk = some i := free
    have uncovered' : s.begin.coveredByFlash a.lo a.hi = false := uncovered
    change execReleaseCapture q seq s = _
    unfold execReleaseCapture
    simp only [State.begin_tickets, waits, free', uncovered', Bool.false_eq_true, if_false]
  obtain ⟨_, mem, _, _, dmap, _⟩ := still_startWalk s.begin i a
  refine ⟨_, ran, ?_⟩
  split
  · rw [State.event_walks, State.event_mem, State.event_dmap]
    exact ⟨startWalk_find _ _ _, mem, dmap⟩
  · exact ⟨startWalk_find _ _ _, mem, dmap⟩

/-! ### The end of a walk -/

/-- R96: what a walk over a range makes of the dirty map. -/
def walkedUnits (dmap : Segs UnitSt) (lo hi : Nat) : Segs UnitSt :=
  ((((Segs.within lo hi dmap).filter fun e => e.2.2.keep).filter fun e => e.2.2.st != 0).map fun (e : Nat × Nat × UnitSt) =>
    (e.1, e.2.1, { e.2.2 with keep := false })) ++ Segs.cut lo hi dmap

/-- R96: what a walk over a range makes of the index. -/
def walkedIndex (dmap : Segs UnitSt) (index : Segs IdxEntry) (lo hi : Nat) : Segs IdxEntry :=
  ((Segs.within lo hi dmap).filter fun e => e.2.2.keep).foldl (fun ix e => Segs.within e.1 e.2.1 index ++ Segs.cut e.1 e.2.1 ix)
    (Segs.fill index lo hi .released)

/-- A walk over a list keeps what each of its steps keeps. -/
theorem foldl_keeps {α β : Type} (π : State → β) (f : State → α → State) (l : List α) (s : State) (each : ∀ a x, π (f a x) = π a) :
    π (l.foldl f s) = π s := by
  induction l generalizing s with
  | nil => rfl
  | cons x l ih => exact (ih _).trans (each s x)

/-- Memory, the dirty map and the index. -/
def State.maps (s : State) : List Host.Cell × Segs UnitSt × Segs IdxEntry := (s.mem, s.dmap, s.index)

/-- R96: the absent units of a walked range are released without a change of memory, the dirty map or the index. -/
theorem releaseAbsent_maps (s : State) (lo hi : Nat) : (s.releaseAbsent lo hi).maps = s.maps := by
  unfold State.releaseAbsent
  extract_lets l _ a b
  split
  · rfl
  · have cleaned : b.maps = a.maps := foldl_keeps State.maps _ _ _ fun a e => by
      obtain ⟨_, _, _, _, clean⟩ := cleanLines_frame a (e.1 * 64) (e.2.1 * 64)
      rw [clean]
      rfl
    exact cleaned

/-- R96: what a walk leaves of memory, the dirty map and the index. -/
theorem walkRange_maps (s : State) (lo hi : Nat) :
    (s.walkRange lo hi).maps = (s.mem, walkedUnits s.dmap lo hi, walkedIndex s.dmap s.index lo hi) := by
  unfold State.walkRange
  extract_lets kept freed idx gone held a b
  have walked : b.maps = a.maps := foldl_keeps State.maps _ _ _ fun c r => releaseAbsent_maps _ r.1 r.2
  exact walked

/-- What leaves memory and its maps leaves them together. -/
theorem Still.maps {s t : State} (still : Still s t) : t.maps = s.maps := by
  obtain ⟨_, mem, _, _, dmap, index⟩ := still
  rw [State.maps, mem, dmap, index, State.maps]

/-- R96: a walk's register freed, its range walked and recorded. -/
def State.walkLogged (s : State) (r : Nat) (w : Walk) : State :=
  (State.walkRange { s with walks := FMap.del s.walks r } w.lo w.hi).logReleased w.share w.lo w.hi (s.keptRuns w.lo w.hi)

/-- R96: the ticket of the walk completed, if one stands. -/
def State.walkDone (s : State) (r : Nat) (w : Walk) : State :=
  match (s.walkLogged r w).tickets.find? fun x => x.qid == w.qid && x.seq == w.seq && x.walking && !w.twine with
  | some x => (s.walkLogged r w).finish x 0 0 (min (s.walkedUnits w.lo w.hi) 0xFFFFFFFF)
  | none => s.walkLogged r w

theorem walkDone_walks (s : State) (r : Nat) (w : Walk) : (s.walkDone r w).walks = FMap.del s.walks r := by
  have logged : (s.walkLogged r w).walks = FMap.del s.walks r := (logReleased_walks _ _ _ _ _).trans (walkRange_walks _ _ _)
  unfold State.walkDone
  split
  · rw [finish_walks, logged]
  · exact logged

theorem walkDone_maps (s : State) (r : Nat) (w : Walk) : (s.walkDone r w).maps = (s.walkRange w.lo w.hi).maps := by
  have logged : (s.walkLogged r w).maps = (s.walkRange w.lo w.hi).maps := by
    rw [State.walkLogged, (still_logReleased _ _ _ _ _).maps, walkRange_maps, walkRange_maps]
  unfold State.walkDone
  split
  · rw [(still_finish _ _ _ _ _).maps, logged]
  · exact logged

/-- R96: the end of a walk in RESTORE or SERVICE. -/
theorem exec_releaseWalkEnd {s : State} {r : Nat} {w : Walk} (stands : FMap.find s.walks r = some w) (serving : s.serving = true) :
    let a := ((s.begin.walkDone r w).flushFlash s.tickets).settleMr
    exec (.releaseWalkEnd r) s = .next (if a.rd F.SPN_RST_STAGE = 2 ∨ a.rd F.SPN_RST_STAGE = 3 then a.settleShares else a) := by
  have stands' : FMap.find s.begin.walks r = some w := stands
  change execReleaseWalkEnd r s = _
  unfold execReleaseWalkEnd
  simp only [stands']
  exact if_neg (by simp [serving])

/-- R96: the end of a walk frees its register; the maps are those that the walk of its range leaves. -/
theorem exec_releaseWalkEnd_frees {s : State} {r : Nat} {w : Walk} (stands : FMap.find s.walks r = some w) (serving : s.serving = true) :
    ∃ t, exec (.releaseWalkEnd r) s = .next t ∧ FMap.find t.walks r = none ∧ t.maps = (s.walkRange w.lo w.hi).maps := by
  have freed : FMap.find (FMap.del s.walks r) r = none := by rw [FMap.find_del, if_pos rfl]
  have walked : (s.begin.walkDone r w).maps = (s.walkRange w.lo w.hi).maps := by rw [walkDone_maps, walkRange_maps, walkRange_maps]; rfl
  refine ⟨_, exec_releaseWalkEnd stands serving, ?_, ?_⟩
  · simp only [apply_ite State.walks, settleShares_walks, settleMr_walks, flushFlash_walks, walkDone_walks, ite_self]
    exact freed
  · simp only [apply_ite State.maps, (still_settleShares _).maps, (still_settleMr _).maps, (still_flushFlash _ _).maps, walked, ite_self]

/-- Settles O4. -/
theorem releaseWalks : Obligations.ReleaseWalks := by
  unfold Obligations.ReleaseWalks
  refine ⟨fun s q tag share off len i u taking valid free uncovered => exec_release_walks taking valid free uncovered tag u, ?_, ?_⟩
  · intro s q seq i a waits free uncovered
    obtain ⟨t, ran, stands, mem, dmap⟩ := exec_releaseCapture_walks waits free uncovered
    exact ⟨t, a.walk, ran, stands, rfl, rfl, rfl, rfl, rfl, mem, dmap⟩
  · intro s r w stands serving
    obtain ⟨t, ran, free, maps⟩ := exec_releaseWalkEnd_frees stands serving
    have mem : t.mem = (s.walkRange w.lo w.hi).mem := congrArg Prod.fst maps
    exact ⟨t, ran, free, mem.trans (congrArg Prod.fst (walkRange_maps s w.lo w.hi)), congrArg (·.2.1) maps, congrArg (·.2.2) maps⟩

end Sys2Proof.Machine
end

section
/-! PROOFS. The Millrace's timers and the image's records (R90, R101, R104, R110, R141, R144, R150). -/

namespace Sys2Proof.Machine

/-! ### Bucket, sweep and marks -/

/-- R104: while the core runs the bucket gains RATE times 1 ms, up to DEPTH. -/
theorem exec_bucketFill {s : State} (linger : s.phase ≠ phLinger) (dormant : s.phase ≠ phDormant) (off : s.phase ≠ phOff) :
    ∃ t, exec .bucketFill s = .next t ∧
      t.mr.bucket = min (s.wearDepth : Int) (s.mr.bucket + ((max 100 (min 7000 (s.rd F.MR_WEAR_RATE)) * 1000 : Nat) : Int)) ∧
      Leaves s t [] :=
  ⟨_, if_neg (by simp [linger, dormant, off]), rfl, (leaves_begin s []).still ⟨rfl, rfl, rfl, rfl, rfl, rfl⟩ rfl⟩

/-- R90: the sweep clamps every unit's stamp while hosts are served. -/
theorem exec_ageSweep {s : State} (serving : s.serving = true) : exec .ageSweep s =
    .next { s.begin with dmap := s.dmap.map fun (e : Nat × Nat × UnitSt) => (e.1, e.2.1, e.2.2.swept s.nowSec) } :=
  if_pos serving

/-- R101: MR_MARKS takes values in order. -/
theorem exec_mrMarksWrite_inOrder (s : State) {val : Nat} (low : 0 < natField val 8 8) (high : natField val 8 8 < natField val 16 8)
    (sluice : natField val 16 8 < natField val 24 8) (most : natField val 24 8 < 100) : exec (.mrMarksWrite val) s =
    .next ((((s.begin.wr F.MR_MARKS_LOW (natField val 8 8)).wr F.MR_MARKS_HIGH (natField val 16 8)).wr
      F.MR_MARKS_SLUICE (natField val 24 8)).wr F.MR_MARKS_HYST (natField val 48 16)).settleMr :=
  if_pos ⟨low, high, sluice, most⟩

/-- R101: MR_MARKS records values out of range. -/
theorem exec_mrMarksWrite_refused (s : State) {val : Nat} (out : 100 ≤ natField val 24 8 ∨ natField val 8 8 = 0) :
    exec (.mrMarksWrite val) s = .next (s.begin.event 0x3008 [val]) :=
  if_neg (by omega)

/-- A program of NOR changes no more than its state and the count of its suspensions. -/
theorem norProgram_frame (s : State) : ∃ regs fw, s.norProgram = { s with regs := regs, fw := fw } := by
  unfold State.norProgram
  split
  · exact ⟨_, s.fw, rfl⟩
  · split
    · exact ⟨_, _, rfl⟩
    · exact ⟨s.regs, s.fw, rfl⟩

/-- R104: the bucket record is written to NOR. -/
theorem exec_bucketRecordWrite {s : State} (serving : s.serving = true) (runs : s.mpRuns = true) :
    ∃ t, exec .bucketRecordWrite s = .next t ∧ t.mr.record = some s.mr.bucket ∧ t.mem = s.mem := by
  obtain ⟨_, _, programmed⟩ := norProgram_frame { s.begin with mr := { s.mr with record := some s.mr.bucket } }
  refine ⟨_, if_pos (by simp [serving, runs]), ?_⟩
  exact ⟨(congrArg (·.mr.record) programmed).trans rfl, (congrArg State.mem programmed).trans rfl⟩

/-! ### The Weir -/

/-- The places that the terms of the Weir are shown at. -/
def weirPlaces : List (Field × Nat) :=
  [(F.MR_TERMS_WP, 0), (F.MR_TERMS_WE, 0), (F.MR_TERMS_WT, 0), (F.MR_TERMS_WC, 0), (F.MR_RATES_RP, 0), (F.MR_RATES_RFL, 0),
    (F.MR_RATES_RCAP, 0), (F.MR_RATES_WH, 0)] ++ ((List.range 7).map (· + 1)).map fun n => (F.MR_FB_WEIR, n)

/-- R101: the terms of the Weir are shown in registers only. -/
theorem weirRegs_shows (s : State) : Writes weirPlaces s s.weirRegs ∧ RegsOnly s s.weirRegs := by
  unfold State.weirRegs
  extract_lets i w t u
  have first : Writes weirPlaces s t := ((((Writes.refl _ s).wr _ _ (by simp [weirPlaces])).wr _ _ (by simp [weirPlaces])).wr _ _
    (by simp [weirPlaces])).wr _ _ (by simp [weirPlaces])
  have second : Writes weirPlaces s u := (((first.wr _ _ (by simp [weirPlaces])).wr _ _ (by simp [weirPlaces])).wr _ _
    (by simp [weirPlaces])).wr _ _ (by simp [weirPlaces])
  have only : RegsOnly s u := ((((((((RegsOnly.refl s).wri _ _ _).wri _ _ _).wri _ _ _).wri _ _ _).wri _ _ _).wri _ _ _).wri _ _ _).wri _ _ _
  exact ⟨second.forEach _ _ fun a n index => (Writes.refl _ a).wri _ _ _ (List.mem_append_right _ (List.mem_map.mpr ⟨n, index, rfl⟩)),
    only.forEach _ _ fun a n => (RegsOnly.refl a).wri _ _ _⟩

/-- R101: with no fallback outstanding WEIR_CANDIDATE shows the terms and offers the Weir they give. -/
theorem exec_weirCandidate {s : State} (runs : s.spRuns 0 = true) (serving : s.serving = true) (clear : s.rd F.MR_WEIR_FBSET = 0) :
    exec .weirCandidate s = .next (State.offer { s.begin.weirRegs.wr F.MR_WEIR_FBSET 0 with mr := { s.mr with reflected := 0 } }
      (s.begin.weirTerms (s.begin.weirIn 0)).gib (s.begin.weirTerms (s.begin.weirIn 0)).bind) := by
  obtain ⟨writes, r, only⟩ := weirRegs_shows s.begin
  have set : s.begin.weirRegs.rd F.MR_WEIR_FBSET = 0 := (writes.rd (by decide)).trans clear
  have mr : s.begin.weirRegs.mr = s.mr := by rw [only]; rfl
  have free : ((List.range 3).any fun b => natBit 0 b && !natBit s.mr.reflected b) = false := by simp [natBit]
  change execWeirCandidate s = _
  unfold execWeirCandidate
  rw [if_neg (by simp [runs, serving])]
  dsimp only
  rw [set, mr, free, if_neg Bool.false_ne_true]

/-! ### The journal and the image -/

/-- R141: the tail is flushed while the image is armed. -/
theorem exec_journalFlushTimeout {s : State} (serving : s.serving = true) (armed : s.armed = true) :
    exec .journalFlushTimeout s = .next s.begin.flushTail.retrySeg :=
  if_pos (by simp [serving, armed])

/-- R141: the oldest RECORD Skein in flight commits. -/
theorem exec_recordSkeinCommit {s : State} {k : Skein} (oldest : (s.im.flight.find? fun k => k.ty == 3) = some k) :
    exec (.recordSkeinCommit k.gen) s = .next (s.begin.commitRecord k) := by
  change execRecordSkeinCommit k.gen s = _
  unfold execRecordSkeinCommit
  simp [oldest]

/-- R144: a committed INDEX Skein of the pass in progress is entered under its pass and segment. -/
theorem exec_indexSegmentCommit {s : State} {k : Skein} (oldest : (s.im.flight.find? fun k => k.ty == 2) = some k) (phase : s.phase ≠ phSave)
    (pass : s.im.passLsn ≠ none) :
    let r : State := { s.begin.land k.gen with im := { (s.begin.land k.gen).im with
      skeins := FMap.put (s.begin.land k.gen).im.skeins k.gen k, segs := (s.begin.land k.gen).im.segs ++ [((s.begin.land k.gen).im.pass, k.seg, k.gen)] } }
    let j := r.journal jIndexSeg [k.seg, r.im.pass, k.bundle, k.page, k.gen, k.snap]
    k.seg + 1 < j.segCount → exec .indexSegmentCommit s = .next (j.startSeg (k.seg + 1)) := by
  intro r j more
  have oldest' : (s.begin.im.flight.find? fun k => k.ty == 2) = some k := oldest
  change execIndexSegmentCommit s = _
  unfold execIndexSegmentCommit
  simp only [oldest']
  exact (if_neg (by simp [phase, pass])).trans (if_pos more)

/-- R150: the readback of an anchor raises events only. -/
theorem readBack_regs (s : State) (a : Anchor) (bits : List (List Nat)) : (s.readBack a bits).1.regs = s.regs := by
  have each (l : List ((Nat × Nat) × Bool)) (x : State) :
      (l.foldl (fun (x : State) p => x.event 0x5103 [blkTgt p.1.1, p.1.2, a.gen]) x).regs = x.regs := by
    induction l generalizing x with
    | nil => rfl
    | cons p l ih => exact (ih _).trans (State.event_regs _ _ _)
  exact each _ s

/-- R150: an anchor with no copy that decodes is written again, or in a Save given up with its pass. -/
theorem exec_anchorReadback_failed {s : State} {a : Anchor} {bits : List (List Nat)} (written : s.im.anchorW = some a)
    (none_ : (s.begin.readBack a bits).2 = 0) :
    (s.phase ≠ phSave ∨ a.kind ≠ 1 → exec (.anchorReadback bits) s = .next ((s.begin.readBack a bits).1.rewriteAnchor a)) ∧
    (s.phase = phSave → a.kind = 1 → exec (.anchorReadback bits) s = .next (State.dropPass { (s.begin.readBack a bits).1 with
      im := { (s.begin.readBack a bits).1.im with anchorW := none } } 1)) := by
  have written' : s.begin.im.anchorW = some a := written
  have phase : (s.begin.readBack a bits).1.phase = s.phase := rdi_eq_of_regs (readBack_regs s.begin a bits) _ _
  change (_ → execAnchorReadback bits s = _) ∧ (_ → _ → execAnchorReadback bits s = _)
  unfold execAnchorReadback
  simp only [written']
  refine ⟨fun other => (if_pos none_).trans (if_neg ?_), fun saving kind => (if_pos none_).trans (if_pos ⟨phase.trans saving, kind⟩)⟩
  rw [phase]
  omega

/-- R150: a CHECKPOINT's anchor with a copy that decodes ends its pass. -/
theorem exec_anchorReadback_good {s : State} {a : Anchor} {bits : List (List Nat)} (written : s.im.anchorW = some a)
    (some_ : (s.begin.readBack a bits).2 ≠ 0) (kind : a.kind = 1) (first : s.flag F.GEN_ADMIT_FIRST = false) :
    exec (.anchorReadback bits) s = .next ((s.begin.readBack a bits).1.passDone a (s.begin.readBack a bits).2) := by
  have written' : s.begin.im.anchorW = some a := written
  have first' : (s.begin.readBack a bits).1.flag F.GEN_ADMIT_FIRST = false := by
    rw [State.flag, State.rd, rdi_eq_of_regs (readBack_regs s.begin a bits)]
    exact first
  change execAnchorReadback bits s = _
  unfold execAnchorReadback
  simp only [written']
  exact (if_neg some_).trans (if_pos ⟨kind, first'⟩)

/-- R150: the copies that count as good are those whose page decodes. -/
theorem readBack_good (s : State) (a : Anchor) (bits : List (List Nat)) : (s.readBack a bits).2 =
    ((indexed a.copies).filter fun p => pageDecodes 72 (bits.getD p.1 [])).length := by
  change (((indexed a.copies).map fun p => (p.2, pageDecodes 72 (bits.getD p.1 []))).filter Prod.snd).length = _
  rw [List.filter_map, List.length_map]
  rfl

/-- Settles O12. -/
theorem millraceTimers : Obligations.MillraceTimers :=
  ⟨⟨fun _ linger dormant off => exec_bucketFill linger dormant off, fun _ serving => exec_ageSweep serving,
      fun s _ low high sluice most => exec_mrMarksWrite_inOrder s low high sluice most, fun s _ out => exec_mrMarksWrite_refused s out,
      fun _ serving runs => exec_bucketRecordWrite serving runs, fun _ runs serving clear => exec_weirCandidate runs serving clear⟩,
    fun _ serving armed => exec_journalFlushTimeout serving armed, fun _ _ oldest => exec_recordSkeinCommit oldest,
    fun _ _ oldest phase pass => exec_indexSegmentCommit oldest phase pass,
    fun _ _ _ written none_ => exec_anchorReadback_failed written none_,
    fun _ _ _ written some_ kind first => exec_anchorReadback_good written some_ kind first, fun a bits s => readBack_good s a bits⟩

end Sys2Proof.Machine
end

section
/-! PROOFS. Shares created, deleted, defined, changed and set (R21, R30, R34, R75, R209). -/

namespace Sys2Proof.Machine

/-- A command stands while the DRBG is in order. -/
theorem whenDrbg_ok {s : State} (ok : s.flag F.SEC_STS_DRBGOK = true) (c : Instr) (r : State) : s.whenDrbg c r = r := by simp [State.whenDrbg, ok]

/-! ### Operations on the admin queue -/

section
variable {s : State} (k : Ticket) {n : Nat}

/-- R30: a free number and a range that fits, in a mode without a partner. -/
theorem shareCreate_free {base size cfg : Nat} (grants : Nat) (phase : s.phase = phService) (still : s.changing n = false)
    (seated : s.removing = false) (unused : s.shDefined n = false) (mode : natField cfg 0 3 = 0 ∨ natField cfg 0 3 = 1 ∨ natField cfg 0 3 = 4)
    (fits : s.fits n base size = true) (admitted : natField cfg 0 3 = 0 ∨ s.admitted = true) :
    s.shareCreate k n base size cfg grants none =
      ((s.setShareRegs n base size (natField cfg 32 8) (natField cfg 20 3) (natField cfg 16 1) (natField cfg 0 3) grants).defineShare n
        (natField cfg 0 3)).finish k 0 0 0 := by
  unfold State.shareCreate
  generalize natField cfg 0 3 = m at mode admitted ⊢
  have alone : m ≠ mdTwined := by rcases mode with rfl | rfl | rfl <;> decide
  have known : (m == 0 || m == 1 || m == 2 || m == 4) = true := by rcases mode with rfl | rfl | rfl <;> decide
  have durable : (m != 0 && !s.admitted) = false := by rcases admitted with rfl | admitted <;> simp [*]
  rw [if_neg (by simp [phase]), if_neg (by simp [still, seated]), if_neg (by simp [unused]), if_neg (by simp [known]), if_neg (by simp [fits]),
    if_neg (by simp [durable]), if_pos alone]

/-- R30: a READY share without tickets or a partner. -/
theorem shareDelete_idle (phase : s.phase = phService) (defined_ : s.shDefined n = true) (still : s.changing n = false)
    (seated : s.removing = false) (mode : s.shMode n = mdVolatile ∨ s.shMode n = mdHeld ∨ s.shMode n = mdWritethru)
    (state : s.shState n = shReady) (idle : s.ticketsOn n = false) : s.shareDelete k n = (s.undefineShare n).finish k 0 0 0 := by
  unfold State.shareDelete
  rw [if_neg (by simp [defined_]), if_neg (by simp [phase]), if_neg (by simp [still, seated]), if_neg (by rcases mode with mode | mode | mode <;> simp [mode]),
    if_neg (by simp [state]), if_neg (by simp [idle])]

/-- R75: a READY share changed between HELD and WRITETHRU. -/
theorem shareMode_commits {m dst : Nat} (defined_ : s.shDefined n = true) (phase : s.phase = phService) (still : s.changing n = false)
    (seated : s.removing = false) (state : s.shState n = shReady) (mode : s.shMode n = m)
    (change : m = mdHeld ∧ dst = mdWritethru ∨ m = mdWritethru ∧ dst = mdHeld) :
    s.shareMode k n dst none = (s.commitMode n dst).finish k 0 0 0 := by
  unfold State.shareMode
  rw [if_neg (by simp [defined_]), if_neg (by simp [phase]), if_neg (by simp [still, seated])]
  rcases change with ⟨rfl, rfl⟩ | ⟨rfl, rfl⟩ <;> simp [mode, state, modeChange]

/-- R30: SHARE_SET with both flags sets the grants and the settings. -/
theorem shareSet_both (cfg grants : Nat) (serving : s.serving = true) (defined_ : s.shDefined n = true) :
    s.shareSet k n 3 cfg grants = (((((s.wri F.SHR_HEADS_GRANT n grants).wri F.SHR_CFG_WT_CAP n (natField cfg 32 8)).wri F.SHR_CFG_RPRI n
      (natField cfg 20 3)).wri F.SHR_CFG_HOT n (natField cfg 16 1)).settleMr).finish k 0 0 0 := by
  unfold State.shareSet
  rw [if_neg (by simp [serving]), if_neg (by simp [defined_])]
  rfl

end

section
variable {s : State} {h n : Nat} (ready : AdminReady s h) (tag : Nat)
include ready

/-- R30: SHARE_CREATE on a ready admin queue, in a mode without a partner. -/
theorem exec_shareCreate_ready (base size cfg grants : Nat) (drbg : s.flag F.SEC_STS_DRBGOK = true) (alone : natField cfg 0 3 ≠ mdTwined) :
    exec (.shareCreate h tag n base size cfg grants none) s =
      .next ((adminCapture s h tag n).1.shareCreate (adminCapture s h tag n).2 n base size cfg grants none) := by
  change execShareCreate h tag n base size cfg grants none s = _
  unfold execShareCreate
  rw [whenDrbg_ok drbg, adminOp_ready ready, if_neg fun twined => alone twined.1]

/-- R75: SHARE_MODE on a ready admin queue between two modes without a partner. -/
theorem exec_shareMode_alone (drbg : s.flag F.SEC_STS_DRBGOK = true) {m dst : Nat} (mode : s.shMode n = m) (dstAlone : dst ≠ mdTwined)
    (srcAlone : m ≠ mdTwined) (original : m ≠ mdReplica) :
    exec (.shareMode h tag n dst none) s = .next ((adminCapture s h tag n).1.shareMode (adminCapture s h tag n).2 n dst none) := by
  have mode' : (adminCapture s h tag n).1.shMode n = m := mode
  change execShareMode h tag n dst none s = _
  unfold execShareMode
  rw [whenDrbg_ok drbg, adminOp_ready ready, if_neg (by simp [mode', dstAlone, srcAlone, original])]

/-- R30: SHARE_SET on a ready admin queue. -/
theorem exec_shareSet_ready (flags cfg grants : Nat) : exec (.shareSet h tag n flags cfg grants) s =
    .next ((adminCapture s h tag n).1.shareSet (adminCapture s h tag n).2 n flags cfg grants) := by
  change execShareSet h tag n flags cfg grants s = _
  unfold execShareSet
  rw [adminOp_ready ready]

end

/-! ### SHR_CFG -/

/-- The places of a share's settings. -/
def settingPlaces (n : Nat) : List (Field × Nat) := [(F.SHR_CFG_WT_CAP, n), (F.SHR_CFG_RPRI, n), (F.SHR_CFG_HOT, n), (F.SHR_CFG_MODE, n)]

/-- R34: the settings a write of SHR_CFG_n holds. -/
def State.shareSettings (s : State) (n val : Nat) : State :=
  (((s.wri F.SHR_CFG_WT_CAP n (natField val 32 8)).wri F.SHR_CFG_RPRI n (natField val 20 3)).wri F.SHR_CFG_HOT n
    (natField val 16 1)).wri F.SHR_CFG_MODE n (natField val 0 3)

theorem writes_shareSettings (s : State) (n val : Nat) : Writes (settingPlaces n) s (s.shareSettings n val) :=
  ((((Writes.refl _ s).wri _ _ _ (by simp [settingPlaces])).wri _ _ _ (by simp [settingPlaces])).wri _ _ _
    (by simp [settingPlaces])).wri _ _ _ (by simp [settingPlaces])

/-- Whether a range fits depends on the capacity and on which shares stand where. -/
theorem fits_of_reads {s t : State} (n base size : Nat) (visible : t.rd F.SHR_CAP_VISIBLE = s.rd F.SHR_CAP_VISIBLE)
    (shares : ∀ m < 64, t.rdi F.SHR_STATUS_STATE m = s.rdi F.SHR_STATUS_STATE m ∧ t.rdi F.SHR_BASE_ADDR m = s.rdi F.SHR_BASE_ADDR m ∧
      t.rdi F.SHR_SIZE_ADDR m = s.rdi F.SHR_SIZE_ADDR m) : t.fits n base size = s.fits n base size := by
  have clash (m : Nat) (real : m ∈ List.range 64) :
      (m != n && t.shDefined m && decide (base < t.shHi m * 4096) && decide (t.shLo m * 4096 < base + size)) =
        (m != n && s.shDefined m && decide (base < s.shHi m * 4096) && decide (s.shLo m * 4096 < base + size)) := by
    obtain ⟨state, base, size⟩ := shares m (List.mem_range.mp real)
    have known : t.shDefined m = s.shDefined m := by rw [State.shDefined, State.shState, state, State.shDefined, State.shState]
    have lo : t.shLo m = s.shLo m := by rw [State.shLo, base, State.shLo]
    have hi : t.shHi m = s.shHi m := by rw [State.shHi, base, size, State.shHi]
    rw [known, lo, hi]
  have any : ((List.range 64).any fun m => m != n && t.shDefined m && decide (base < t.shHi m * 4096) && decide (t.shLo m * 4096 < base + size)) =
      (List.range 64).any fun m => m != n && s.shDefined m && decide (base < s.shHi m * 4096) && decide (s.shLo m * 4096 < base + size) := by
    rw [Bool.eq_iff_iff, List.any_eq_true, List.any_eq_true]
    exact exists_congr fun m => and_congr_right fun real => by rw [clash m real]
  unfold State.fits State.visible
  rw [visible, any]

/-- A share's settings stand at no place of a share's range or state, of the phase, the removal hold or the capacity. -/
theorem settingPlaces_ne {n m : Nat} (f : Field)
    (which : f ∈ [F.SHR_STATUS_STATE, F.SHR_BASE_ADDR, F.SHR_SIZE_ADDR, F.GEN_PHASE_PHASE, F.GEN_PANEL_RMV, F.SHR_CAP_VISIBLE]) :
    ∀ e ∈ settingPlaces n, e.1.key e.2 ≠ f.key m := by
  simp only [settingPlaces, List.mem_cons, List.not_mem_nil, or_false] at which ⊢
  rintro e (rfl | rfl | rfl | rfl) <;> rcases which with rfl | rfl | rfl | rfl | rfl | rfl <;>
    simp [Field.key, F.SHR_CFG_WT_CAP, F.SHR_CFG_RPRI, F.SHR_CFG_HOT, F.SHR_CFG_MODE, F.SHR_STATUS_STATE, F.SHR_BASE_ADDR, F.SHR_SIZE_ADDR,
      F.GEN_PHASE_PHASE, F.GEN_PANEL_RMV, F.SHR_CAP_VISIBLE] <;>
    omega

/-- R34: a write of SHR_CFG_n with EN 1 defines a VOLATILE share whose range fits. -/
theorem cfgWrite_defines {s : State} {n val : Nat} (phase : s.phase = phService) (seated : s.removing = false)
    (disabled : s.flagi F.SHR_CFG_EN n = false) (enable : natBit val 63 = true) (volatile : natField val 0 3 = 0)
    (fits : s.fits n (s.rdi F.SHR_BASE_ADDR n * 2 ^ 28) (s.rdi F.SHR_SIZE_ADDR n * 2 ^ 28) = true) :
    s.cfgWrite n val = ((s.shareSettings n val).wri F.SHR_CFG_EN n 1).defineShare n 0 := by
  have writes := writes_shareSettings s n val
  have base (m : Nat) := writes F.SHR_BASE_ADDR m (settingPlaces_ne _ (by simp))
  have size (m : Nat) := writes F.SHR_SIZE_ADDR m (settingPlaces_ne _ (by simp))
  have state (m : Nat) := writes F.SHR_STATUS_STATE m (settingPlaces_ne _ (by simp))
  have phase' : (s.shareSettings n val).phase = phService := (writes F.GEN_PHASE_PHASE 0 (settingPlaces_ne _ (by simp))).trans phase
  have hold : (s.shareSettings n val).rd F.GEN_PANEL_RMV = s.rd F.GEN_PANEL_RMV := writes F.GEN_PANEL_RMV 0 (settingPlaces_ne _ (by simp))
  have visible : (s.shareSettings n val).rd F.SHR_CAP_VISIBLE = s.rd F.SHR_CAP_VISIBLE :=
    writes F.SHR_CAP_VISIBLE 0 (settingPlaces_ne _ (by simp))
  have fits' := fits_of_reads n (s.rdi F.SHR_BASE_ADDR n * 2 ^ 28) (s.rdi F.SHR_SIZE_ADDR n * 2 ^ 28) visible
    fun m _ => ⟨state m, base m, size m⟩
  rw [← base n, ← size n] at fits'
  rw [← base n, ← size n] at fits
  unfold State.cfgWrite
  refine (if_neg (ne_true_of_eq_false disabled)).trans ((if_neg (by simp [enable])).trans ((if_neg (not_not.mpr phase')).trans ?_))
  refine (if_neg ?_).trans ((if_neg (by simp [volatile])).trans ((if_neg ?_).trans ((if_neg (by simp [volatile])).trans ?_)))
  · change ¬ ((s.shareSettings n val).rd F.GEN_PANEL_RMV != 0) = true
    rw [hold]
    exact ne_true_of_eq_false seated
  · change ¬ (!(s.shareSettings n val).fits n ((s.shareSettings n val).rdi F.SHR_BASE_ADDR n * 2 ^ 28)
      ((s.shareSettings n val).rdi F.SHR_SIZE_ADDR n * 2 ^ 28)) = true
    rw [fits', fits]
    decide
  · exact congrArg (State.defineShare _ n) volatile

/-! ### The end of a full sync -/

/-- R209: what an acknowledged JOIN makes of the share: LIVE, READY and TWINED. -/
def State.syncCommitted (s : State) (n : Nat) : State :=
  (((((s.setPstate n psLive).setLossrep n false).endChange n).setShState n shReady).commitMode n mdTwined).copyEnded n

/-- R209: the JOIN of a share is no longer awaited. -/
def State.joinTaken (s : State) (n : Nat) : State := { s with tw := { s.tw with joinSeq := FMap.del s.tw.joinSeq n } }

/-- R209: an acknowledged JOIN commits the sync and completes the operation that waits for it. -/
theorem exec_fullSyncCommit {s : State} {n q : Nat} (join : FMap.find s.tw.joinSeq n = some q) (syncing : s.pstate n = psSync)
    (acked : q ≤ s.rd F.TW_ASEQ_VALUE) (runs : s.spRuns 3 = true) : exec (.fullSyncCommit n) s =
    .next (match ((s.begin.joinTaken n).syncCommitted n).inProgress n 0x51 with
      | some k => ((s.begin.joinTaken n).syncCommitted n).finish k 0 0 0
      | none => (s.begin.joinTaken n).syncCommitted n) := by
  change execFullSyncCommit n s = _
  unfold execFullSyncCommit
  extract_lets t _ r0 r1 r2
  have same : r2 = (s.begin.joinTaken n).syncCommitted n := rfl
  rw [← same]
  clear_value r2
  have join' : FMap.find t.tw.joinSeq n = some q := join
  rw [join']
  refine (if_pos ⟨syncing, acked, runs⟩).trans ?_
  cases r2.inProgress n 0x51 <;> rfl

/-- Settles O13. -/
theorem shareOperations : Obligations.ShareOperations := by
  unfold Obligations.ShareOperations
  refine ⟨⟨?create, ?delete, ?define⟩, ?change, ?set, ?sync⟩
  case create =>
    intro s h tag n base size cfg grants ready drbg phase still seated unused mode fits admitted
    have alone : natField cfg 0 3 ≠ mdTwined := by rcases mode with mode | mode | mode <;> rw [mode] <;> decide
    refine (exec_shareCreate_ready ready tag base size cfg grants drbg alone).trans (congrArg _ ?_)
    exact shareCreate_free _ grants phase still seated unused mode fits admitted
  case delete =>
    intro s h tag n ready phase defined_ still seated mode state idle
    exact (exec_shareDelete_ready ready tag n).trans (congrArg _ (shareDelete_idle _ phase defined_ still seated mode state idle))
  case define =>
    intro s n val real drbg phase seated disabled enable volatile fits
    have settings : s.begin.shareSettings n val = (((s.begin.wri F.SHR_CFG_WT_CAP n (natField val 32 8)).wri F.SHR_CFG_RPRI n
      (natField val 20 3)).wri F.SHR_CFG_HOT n (natField val 16 1)).wri F.SHR_CFG_MODE n 0 := by rw [State.shareSettings, volatile]
    rw [← settings, ← cfgWrite_defines (s := s.begin) phase seated disabled enable volatile fits]
    exact congrArg Host.Outcome.next (whenDrbg_ok drbg _ _)
  case change =>
    intro s h tag n m dst ready drbg defined_ phase still seated state mode change
    have alone : dst ≠ mdTwined ∧ m ≠ mdTwined ∧ m ≠ mdReplica := by rcases change with ⟨rfl, rfl⟩ | ⟨rfl, rfl⟩ <;> decide
    obtain ⟨dstAlone, srcAlone, original⟩ := alone
    refine (exec_shareMode_alone ready tag drbg mode dstAlone srcAlone original).trans (congrArg _ ?_)
    exact shareMode_commits _ defined_ phase still seated state mode change
  case set =>
    intro s h tag n cfg grants ready serving defined_
    exact (exec_shareSet_ready ready tag 3 cfg grants).trans (congrArg _ (shareSet_both _ cfg grants serving defined_))
  case sync =>
    intro s n q join syncing acked runs r0 r
    have same : r = (s.begin.joinTaken n).syncCommitted n := rfl
    have whole := exec_fullSyncCommit join syncing acked runs
    rw [← same] at whole
    clear_value r
    exact whole

end Sys2Proof.Machine
end

section
/-! PROOFS. Inject Poison, Clear Poison and a finished scan (O18). -/
namespace Sys2Proof.Machine

/-- R50: the share of a unit under restore keeps the line poisoned for its install. -/
def State.keepInjected (s : State) (line : Nat) : State := { s with rs := { s.rs with injected := line :: s.rs.injected } }

/-- R50: what Inject Poison does on a share granted read-write. -/
theorem exec_injectPoison_granted {s : State} {k dpa n : Nat} (ready : MailboxReady s (.head k)) (share : s.shareOf (dpa / 4096) = some n)
    (grant : s.grant n k = 2) : exec (.injectPoison (.head k) dpa) s =
    .next (State.reply (State.poisonLine (if s.rmapOf (dpa / 4096) = 1 then s.begin.keepInjected (dpa / 64) else s.begin) (dpa / 64) 0)
      (.head k) .success []) := by
  have share' : s.begin.shareOf (dpa / 4096) = some n := share
  have grant' : ¬ s.begin.grant n k ≠ 2 := not_not.mpr grant
  change execInjectPoison (.head k) dpa s = _
  unfold execInjectPoison
  rw [mbox_ready ready]
  unfold State.headOnly
  simp only [share', if_neg grant']
  rfl

/-- R47: what Clear Poison does of a head that may write the line. -/
theorem exec_clearPoison_stores {s : State} {k dpa n : Nat} (data : BitVec 512) (ready : MailboxReady s (.head k))
    (share : s.shareOf (dpa / 4096) = some n) (calm : s.flagi F.HP_LINK_VIRAL k = false) (may : s.mayWrite k (dpa / 64) = true) :
    exec (.clearPoison (.head k) dpa data) s =
      .next ((s.begin.acceptLine k n (dpa / 64) data (BitVec.allOnes 64) false).reply (.head k) .success []) := by
  have share' : s.begin.shareOf (dpa / 4096) = some n := share
  change execClearPoison (.head k) dpa data s = _
  unfold execClearPoison
  rw [mbox_ready ready]
  refine congrArg _ ((if_neg (ne_true_of_eq_false calm)).trans ((if_pos may).trans ?_))
  rw [share']

/-- R47, log 218: Clear Poison of a head in Viral. -/
theorem exec_clearPoison_viral {s : State} {k : Nat} (dpa : Nat) (data : BitVec 512) (ready : MailboxReady s (.head k))
    (viral : s.flagi F.HP_LINK_VIRAL k = true) :
    exec (.clearPoison (.head k) dpa data) s = .next (s.begin.reply (.head k) .success []) := by
  change execClearPoison (.head k) dpa data s = _
  unfold execClearPoison
  rw [mbox_ready ready]
  exact congrArg _ (if_pos viral)

/-- R50: the end of a scan of the range the background command names. -/
theorem exec_scanMediaComplete {s : State} {h dpa len : Nat} (found : List Nat) (scan : (s.head h).bg = some (0x4304, dpa, len)) :
    let l := found.filter fun x => decide (dpa / 64 ≤ x) && decide (x * 64 < dpa + len)
    let t := l.foldl State.uncorrectableLine s.begin
    exec (.scanMediaComplete h found) s = .next (t.setHead h { t.head h with bg := none, scan := l }) := by
  have scan' : (s.begin.head h).bg = some (0x4304, dpa, len) := scan
  change execScanMediaComplete h found s = _
  unfold execScanMediaComplete
  simp only [scan']

/-- Settles O18. -/
theorem poisonCommands : Obligations.PoisonCommands := by
  unfold Obligations.PoisonCommands
  refine ⟨?inject, ?clear, ?scan⟩
  case inject =>
    intro s k dpa n ready share grant
    have whole := exec_injectPoison_granted ready share grant
    exact ⟨fun present => whole.trans (by rw [if_neg present]), fun awaited => whole.trans (by rw [if_pos awaited]; rfl)⟩
  case clear =>
    intro s k dpa n data ready share
    exact ⟨exec_clearPoison_stores data ready share, exec_clearPoison_viral dpa data ready⟩
  case scan => exact fun s h dpa len found scan => exec_scanMediaComplete found scan

end Sys2Proof.Machine
end

section
/-! PROOFS. Link events, resets, retraining and decoders of a head (O19). -/
namespace Sys2Proof.Machine

/-! ### Link events -/

section
variable {s : State} {h : Nat} (up : s.headUp h = true)
include up

/-- R36: the state register of a link that is up holds 3. -/
theorem linkState_of_headUp : s.rdi F.HP_LINK_STATE h = 3 := beq_iff_eq.mp up

theorem exec_linkRecovery_up (replays : Nat) (enters : Bool) : exec (.linkRecovery h replays enters) s =
    .next (if enters then (s.begin.addi F.HP_LERR_REPLAY h replays).enterRecovery h else s.begin.addi F.HP_LERR_REPLAY h replays) := if_pos up

theorem exec_surpriseLinkDown_up : exec (.surpriseLinkDown h) s = .next (s.begin.linkDown h) :=
  if_pos (Bool.or_eq_true_iff.mpr (.inl up))

theorem exec_ideIntegrityFailure_up (ide : s.flagi F.HP_LINK_IDE h = true) : exec (.ideIntegrityFailure h) s =
    .next ((((s.begin.event 0x1004 [h]).wri F.HP_LINK_IDEFAIL h 1).headChanged h).linkDown h) :=
  if_pos (Bool.and_eq_true_iff.mpr ⟨up, ide⟩)

theorem exec_viral_up (calm : s.flagi F.HP_LINK_VIRAL h = false) :
    exec (.viral h) s = .next (((s.begin.wri F.HP_LINK_VIRAL h 1).headChanged h).event 0x1005 [h]) :=
  if_pos (Bool.and_eq_true_iff.mpr ⟨up, (Bool.not_eq_true' _).mpr calm⟩)

theorem exec_gpfPhase1_up : exec (.gpfPhase1 h) s = .next (((s.begin.bumpi F.HP_GPF_PH1 h).event 0x1006 [h, 1]).send (.gpf h 1)) := if_pos up

theorem exec_gpfPhase2_up : exec (.gpfPhase2 h) s = .next (((s.begin.bumpi F.HP_GPF_PH2 h).event 0x1006 [h, 2]).send (.gpf h 2)) := if_pos up

end

theorem exec_linkDownTimeout_recovery {s : State} {h : Nat} (recovery : s.rdi F.HP_LINK_STATE h = 4) :
    exec (.linkDownTimeout h) s = .next (s.begin.linkDown h) := if_pos recovery

/-- R56: a GPF phase is counted, raises its event and is answered. -/
theorem gpf_counts (s : State) (f : Field) (h phase : Nat) :
    let t := ((s.begin.bumpi f h).event 0x1006 [h, phase]).send (.gpf h phase)
    t.out = [.gpf h phase] ∧ Leaves s t [(f, h)] ∧ t.rdi f h = min (s.rdi f h + 1) (2 ^ f.width - 1) := by
  have listed : (f, h) ∈ [(f, h)] := List.mem_singleton.mpr rfl
  have count := bumpi_rdi_self s.begin f h
  refine ⟨?_, (((leaves_begin s _).bumpi f h listed).event _ _).send _, ?_⟩
  · simp
  · exact (rdi_eq_of_regs (State.event_regs _ _ _) f h).trans count

/-- R36, R46: a link back from recovery, of a port that is not bifurcated. -/
theorem exec_headLinkUp_back {s : State} {h width rate : Nat} (flit : Bool) (may : s.mayTrain h = true)
    (recovery : s.rdi F.HP_LINK_STATE h = 4) (plain : (s.head h).retrain = none) (whole : s.flagi F.HP_PORT_CFG_BIF (h % 8) = false)
    (wide : 16 ≤ width) :
    let r := min rate (s.rdi F.HP_PORT_CFG_MAXRATE (h % 8))
    let a := ((s.begin.wri F.HP_LINK_RATE h r).wri F.HP_LINK_WIDTH h 16).wri F.HP_LINK_FLIT256 h (bit01 (r == 3 || flit))
    let b := ((((a.wri F.HP_CRED_ADV h (a.headCredits h)).setLink h 3).setIdle h).bumpi F.HP_LERR_RECOV h).event 0x1003 [h]
    exec (.headLinkUp h width rate flit) s = .next ((b.setHead h { b.head h with retrain := none }).pauseQueues h false) := by
  intro r a b
  have plain' : (s.begin.head h).retrain = none := plain
  have whole' : ¬ s.begin.flagi F.HP_PORT_CFG_BIF (h % 8) = true := ne_true_of_eq_false whole
  have back : (s.begin.rdi F.HP_LINK_STATE h == 4) = true := beq_iff_eq.mpr recovery
  have trains : ¬ (!s.begin.mayTrain h || s.begin.rdi F.HP_LINK_STATE h == 3 || s.begin.rdi F.HP_LINK_STATE h == 0) = true := by
    have may' : s.begin.mayTrain h = true := may
    have recovery' : s.begin.rdi F.HP_LINK_STATE h = 4 := recovery
    simp [may', recovery']
  change execHeadLinkUp h width rate flit s = _
  unfold execHeadLinkUp
  refine (if_neg trains).trans ?_
  extract_lets x lim rt wd back' t1 t2 b1 b2
  have limit : lim = s.rdi F.HP_PORT_CFG_MAXRATE (h % 8) := by simp only [lim, x, plain']; rfl
  have width_ : wd = 16 := (if_neg whole').trans (if_neg (by omega))
  refine (if_pos back).trans ?_
  have unasked : b2 = b1 := by simp only [b2, x, plain']
  clear_value b2 lim wd
  subst limit width_ unasked
  rfl

/-! ### Resets and retraining -/

theorem lt_of_exists {s : State} {h : Nat} (exists_ : s.headExists h = true) : h < 16 := by
  simp only [State.headExists, Bool.and_eq_true, decide_eq_true_eq] at exists_
  exact exists_.1.1

section
variable (s : State) (h : Nat) (v : Bool)

theorem setPerst_headExists : (s.setBit F.GEN_PINS_PERST h v).headExists h = s.headExists h := by
  simp only [State.headExists, State.flagi, State.setBit, State.wr]
  rw [State.wri_rdi_ne, State.wri_rdi_ne] <;> simp [Field.key, F.GEN_PINS_PERST, F.HP_PORT_CFG_EN, F.HP_PORT_CFG_BIF] <;> omega

theorem setPerst_headUp : (s.setBit F.GEN_PINS_PERST h v).headUp h = s.headUp h := by
  simp only [State.headUp, State.setBit, State.wr]
  rw [State.wri_rdi_ne]
  simp only [Field.key, F.GEN_PINS_PERST, F.HP_LINK_STATE]
  omega

theorem setPerst_serving : (s.setBit F.GEN_PINS_PERST h v).serving = s.serving := by
  simp only [State.serving, State.phase, State.setBit, State.wr, State.rd]
  rw [State.wri_rdi_ne]
  decide

end

/-- R51: PERST# of a head whose link is up goes low. -/
theorem exec_hpPerstAssert_up {s : State} {h : Nat} (serving : s.serving = true) (exists_ : s.headExists h = true) (up : s.headUp h = true) :
    exec (.hpPerstAssert h) s = .next (((s.begin.setBit F.GEN_PINS_PERST h false).linkDown h).resetFunction h).updReady := by
  have on : ¬ (16 ≤ h ∨ s.begin.phase = phOff ∨ s.begin.phase = phDormant) := by
    rintro (high | phase | phase)
    · exact absurd (lt_of_exists exists_) (by omega)
    · exact absurd serving (by simp [State.serving, show s.phase = phOff from phase, phOff, phService, phRestore])
    · exact absurd serving (by simp [State.serving, show s.phase = phDormant from phase, phDormant, phService, phRestore])
  have exists' : ¬ (!(s.begin.setBit F.GEN_PINS_PERST h false).headExists h) = true := by
    rw [setPerst_headExists]
    simp [exists_]
  refine (if_neg on).trans ((if_neg exists').trans ((if_pos ((setPerst_serving _ _ _).trans serving)).trans ?_))
  extract_lets t
  have taken : t = (s.begin.setBit F.GEN_PINS_PERST h false).linkDown h :=
    if_pos (Bool.or_eq_true_iff.mpr (.inl ((setPerst_headUp _ _ _).trans up)))
  rw [taken]


/-- R51: PERST# of a head goes high, and its link trains. -/
theorem exec_hpPerstRelease_trains {s : State} {h : Nat} (real : h < 16) (phase : s.phase = phService)
    (may : (s.begin.setBit F.GEN_PINS_PERST h true).mayTrain h = true)
    (down : (s.begin.setBit F.GEN_PINS_PERST h true).rdi F.HP_LINK_STATE h = 1) :
    exec (.hpPerstRelease h) s = .next ((s.begin.setBit F.GEN_PINS_PERST h true).setLink h 2) := by
  have phase' : s.begin.phase = phService := phase
  exact (if_neg (by simp [phase', phService, phOff, phDormant, real])).trans (if_pos (by simp [may, down]))

theorem exec_hpCtlRetrain_up {s : State} {h val : Nat} (exists_ : s.headExists h = true) (up : s.headUp h = true) (retrain : natBit val 63 = true) :
    exec (.hpCtlRetrain h val) s = .next ((s.begin.wri F.HP_CTL_DOWN_TO h (natField val 16 8)).enterRecovery h) := by
  have exists' : s.begin.headExists h = true := exists_
  have apart : F.HP_CTL_DOWN_TO.key h ≠ F.HP_LINK_STATE.key h := by simp [Field.key, F.HP_CTL_DOWN_TO, F.HP_LINK_STATE]; omega
  have up' : (s.begin.wri F.HP_CTL_DOWN_TO h (natField val 16 8)).headUp h = true :=
    (congrArg (· == 3) (State.wri_rdi_ne s.begin _ apart)).trans up
  exact (if_neg (by simp [exists'])).trans (if_pos (by simp [retrain, up']))

theorem exec_headRetrain_up {s : State} {v : Via} {h : Nat} (ready : MailboxReady s v) (exists_ : s.headExists h = true) (up : s.headUp h = true)
    (plain : (s.head h).retrain = none) :
    exec (.headRetrain v h 32) s = .next ((s.begin.setHead h { s.head h with retrain := some (v, 2) }).enterRecovery h) := by
  have exists' : s.begin.headExists h = true := exists_
  have up' : s.begin.headUp h = true := up
  have plain' : (s.begin.head h).retrain = none := plain
  change execHeadRetrain v h 32 s = _
  unfold execHeadRetrain
  rw [mbox_ready ready]
  exact congrArg _ ((if_neg (by simp [exists'])).trans (if_neg (by simp [up', plain])))

/-- R53: queues that are disabled leave the heads. -/
theorem disableQueues_heads (s : State) (k : Nat) : (s.disableQueues k).heads = s.heads := by
  have pool (a : State) : a.poolCheck.heads = a.heads := by obtain ⟨_, frame⟩ := poolCheck_frame a; rw [frame]
  have held (a : State) (q : Nat) : (a.dropHeld q).heads = a.heads := by
    unfold State.dropHeld
    dsimp only
    split <;> rfl
  unfold State.disableQueues
  refine (pool _).trans (foldl_keeps State.heads _ _ _ fun a q => ?_)
  extract_lets b c d
  change c.heads = a.heads
  have settled : c.heads = b.heads := foldl_keeps State.heads _ _ b fun _ _ => rfl
  exact settled.trans (held a q)

/-- R53: the admin queue of the head is disabled. -/
theorem disableQueues_admin (s : State) (k : Nat) : (s.disableQueues k).flagi F.QUE_ACTL_EN k = false := by
  unfold State.disableQueues
  extract_lets r
  have off : (r.poolCheck.wri F.QUE_ACTL_EN k 0).rdi F.QUE_ACTL_EN k = 0 := State.wri_rdi_self ..
  exact beq_false_of_ne (by rw [off]; decide)

/-- R53: the background command and the commands that wait for the MP end. -/
def State.commandsEnded (s : State) (h : Nat) : State :=
  { s.setHead h { s.head h with bg := none } with mpWait := s.mpWait.filter fun c => c.1 != h }

theorem commandsEnded_head (s : State) (h : Nat) : (s.commandsEnded h).head h = { s.head h with bg := none } := FMap.get_put_self ..

/-- R53: a function-level reset of a head whose link is up. -/
theorem exec_headFlr_up {s : State} {h : Nat} (exists_ : s.headExists h = true) (up : s.headUp h = true) :
    exec (.headFlr h) s = .next (((s.begin.disableQueues h).commandsEnded h).dropRetrain h) := if_pos (Bool.and_eq_true_iff.mpr ⟨exists_, up⟩)

/-- A map whose values are changed one by one. -/
theorem FMap.get_map {α : Type} (f : α → α) (d : α) (m : FMap α) (x : Nat) :
    FMap.get (f d) (m.map fun e => (e.1, f e.2)) x = f (FMap.get d m x) := by
  induction m with
  | nil => rfl
  | cons e m ih =>
    obtain ⟨k, v⟩ := e
    by_cases here : k = x
    · simp [FMap.get, here]
    · simpa [FMap.get, here] using ih

/-- R53: a head whose Head Retrain waits for the reset head no longer waits. -/
def Head.unwaited (k : Nat) (x : Head) : Head :=
  match x.retrain with
  | some (.head j, _) => if j = k then { x with retrain := none } else x
  | _ => x

theorem Head.unwaited_frame (k : Nat) (x : Head) : ∃ r, x.unwaited k = { x with retrain := r } := by
  unfold Head.unwaited
  split
  · split
    · exact ⟨none, rfl⟩
    · exact ⟨x.retrain, rfl⟩
  · exact ⟨x.retrain, rfl⟩

theorem dropRetrain_head (s : State) (k h : Nat) : (s.dropRetrain k).head h = (s.head h).unwaited k :=
  FMap.get_map (Head.unwaited k) {} s.heads h

/-- R53: what a function-level reset leaves. -/
theorem headFlr_leaves {s : State} {h : Nat} (exists_ : s.headExists h = true) (up : s.headUp h = true) :
    ∃ t, exec (.headFlr h) s = .next t ∧ (t.head h).bg = none ∧ (∀ c ∈ t.mpWait, c.1 ≠ h) ∧ t.flagi F.QUE_ACTL_EN h = false ∧
      (∀ a, memByte t.mem a = memByte s.mem a) ∧ t.poisoned = s.poisoned ∧ t.dmap = s.dmap ∧ (t.head h).decoders = (s.head h).decoders := by
  refine ⟨_, exec_headFlr_up exists_ up, ?_⟩
  have heads : (s.begin.disableQueues h).heads = s.heads := disableQueues_heads s.begin h
  obtain ⟨_, mem, _, poisoned, dmap, _⟩ := still_disableQueues s.begin h
  have off := disableQueues_admin s.begin h
  generalize s.begin.disableQueues h = d at *
  obtain ⟨r, unwaited⟩ := ({ s.head h with bg := none } : Head).unwaited_frame h
  have same : d.head h = s.head h := by simp only [State.head, heads]
  have head : ((d.commandsEnded h).dropRetrain h).head h = { s.head h with bg := none, retrain := r } := by
    rw [dropRetrain_head, commandsEnded_head, same, unwaited]
  rw [head]
  refine ⟨rfl, fun c waits => ?_, off, fun a => congrArg (memByte · a) mem, poisoned, dmap, rfl⟩
  exact bne_iff_ne.mp (List.mem_filter.mp waits).2

/-- Settles O19. -/
theorem headEvents : Obligations.HeadEvents := by
  unfold Obligations.HeadEvents
  refine ⟨⟨?link, ?recovery, ?timeout, ?surprise, ?ide, ?viral, ?gpf⟩, ?assert, ?release, ?flr, ?ctl, ?retrain, ?decoder⟩
  case link => exact fun s h width rate flit may recovery plain whole wide => exec_headLinkUp_back flit may recovery plain whole wide
  case recovery => exact fun s h replays up => ⟨exec_linkRecovery_up up replays false, exec_linkRecovery_up up replays true⟩
  case timeout => exact fun s h => exec_linkDownTimeout_recovery
  case surprise => exact fun s h => exec_surpriseLinkDown_up
  case ide => exact fun s h => exec_ideIntegrityFailure_up
  case viral => exact fun s h => exec_viral_up
  case gpf =>
    exact fun s h up => ⟨⟨_, exec_gpfPhase1_up up, gpf_counts s F.HP_GPF_PH1 h 1⟩, _, exec_gpfPhase2_up up, gpf_counts s F.HP_GPF_PH2 h 2⟩
  case assert => exact fun s h _ serving exists_ up => exec_hpPerstAssert_up serving exists_ up
  case release => exact fun s h real phase may down => exec_hpPerstRelease_trains real phase may down
  case flr => exact fun s h => headFlr_leaves
  case ctl => exact fun s h val => exec_hpCtlRetrain_up
  case retrain => exact fun s v h => exec_headRetrain_up
  case decoder =>
    intro s h i base size ways gran dpa lock exists_ up index unlocked d legal apart
    have fits : (d.legal && !(s.head h).decoders.any fun e => e.1 != i && e.2.committed && e.2.overlaps d) = true := by simp [legal, apart]
    refine (exec_hdmDecoderCommit_unlocked base size ways gran dpa lock exists_ up index unlocked).trans ?_
    rw [if_pos fits]

end Sys2Proof.Machine
end

section
/-! PROOFS. The memory device commands and the commands of one head (O21). -/
namespace Sys2Proof.Machine

/-- R46: a command through a ready mailbox does its work. -/
theorem answer_mbox {s : State} {v : Via} (ready : MailboxReady s v) (c : Instr) (k : MbClass) (b : Bool) (f : State → State) :
    (.next (s.mbox v c k b f) : Answer) = .next (f s.begin) := congrArg _ (mbox_ready ready c k b f)

section
variable {s : State} {v : Via} (ready : MailboxReady s v)
include ready

theorem exec_getScanMediaCapabilities {dpa len : Nat} (fits : dpa + len ≤ s.rd F.SHR_CAP_VISIBLE * 2 ^ 28) :
    exec (.getScanMediaCapabilities v dpa len) s = .next (s.begin.reply v .success [Config.free s.freeCtr]).skipFree :=
  (answer_mbox ready ..).trans (congrArg _ (if_neg (Nat.not_lt.mpr fits)))

theorem exec_scanMedia_idle {dpa len : Nat} (fits : dpa + len ≤ s.rd F.SHR_CAP_VISIBLE * 2 ^ 28) (idle : (s.head (bgKey v)).bg = none) :
    let a := s.begin.setHead (bgKey v) { s.head (bgKey v) with bg := some (0x4304, dpa, len) }
    exec (.scanMedia v dpa len) s =
      .next ((a.setHead (bgKey v) { a.head (bgKey v) with scan := [] }).reply v .background []) := by
  have idle' : ¬ (s.begin.head (bgKey v)).bg.isSome = true := by
    change ¬ (s.head (bgKey v)).bg.isSome = true
    simp [idle]
  exact (answer_mbox ready ..).trans (congrArg _ ((if_neg (Nat.not_lt.mpr fits)).trans (if_neg idle')))

end

/-! ### The label storage and the shutdown state of one head -/

section
variable {s : State} {k : Nat} (ready : MailboxReady s (.head k))
include ready

theorem exec_getLsa_within {off len : Nat} (fits : off + len ≤ 131072) : exec (.getLsa (.head k) off len) s =
    .next (s.begin.reply (.head k) .success ((memRead s.lsa (k * 131072 + off) len).map BitVec.toNat)) :=
  (answer_mbox ready ..).trans (congrArg _ (if_neg (Nat.not_lt.mpr fits)))

theorem exec_getLsa_beyond {off len : Nat} (beyond : 131072 < off + len) :
    exec (.getLsa (.head k) off len) s = .next (s.begin.reply (.head k) .invalidInput []) :=
  (answer_mbox ready ..).trans (congrArg _ (if_pos beyond))

theorem exec_setLsa_within {off : Nat} {data : List Byte} (fits : off + data.length ≤ 131072) : exec (.setLsa (.head k) off data) s =
    .next (State.reply { s.begin with lsa := memWrite s.lsa (k * 131072 + off) data } (.head k) .success []) :=
  (answer_mbox ready ..).trans (congrArg _ (if_neg (Nat.not_lt.mpr fits)))

theorem exec_setLsa_beyond {off : Nat} {data : List Byte} (beyond : 131072 < off + data.length) :
    exec (.setLsa (.head k) off data) s = .next (s.begin.reply (.head k) .invalidInput []) :=
  (answer_mbox ready ..).trans (congrArg _ (if_pos beyond))

/-- R46: Set LSA writes the head's own area and nothing else. -/
theorem setLsa_writes {off : Nat} {data : List Byte} (fits : off + data.length ≤ 131072) :
    ∃ t, exec (.setLsa (.head k) off data) s = .next t ∧ t.out = [.reply (.head k) .success []] ∧ t.mem = s.mem ∧
      (∀ i (h : i < data.length), memByte t.lsa (k * 131072 + off + i) = data[i]) ∧
      ∀ a, a < k * 131072 + off ∨ k * 131072 + off + data.length ≤ a → memByte t.lsa a = memByte s.lsa a :=
  ⟨_, exec_setLsa_within ready fits, rfl, rfl, memByte_memWrite_in data s.lsa _, memByte_memWrite_out data s.lsa _⟩

end

/-- Settles O21. -/
theorem mailboxCommands : Obligations.MailboxCommands := by
  unfold Obligations.MailboxCommands
  refine ⟨fun s v ready => ?all, fun s k ready => ?head, fun s p ready => ?mctp⟩
  case all =>
    refine ⟨?identify, ?partition, ?set, ?health, ?alerts, ?alertSet, ?poison, ?scan, ?results, ?counters⟩
    case identify => exact answer_mbox ready ..
    case partition => exact answer_mbox ready ..
    case set => exact answer_mbox ready ..
    case health => exact answer_mbox ready ..
    case alerts => exact answer_mbox ready ..
    case alertSet => exact fun life hi lo => answer_mbox ready ..
    case poison => exact fun dpa len max => answer_mbox ready ..
    case scan => exact fun dpa len fits => ⟨exec_getScanMediaCapabilities ready fits, exec_scanMedia_idle ready fits⟩
    case results => exact answer_mbox ready ..
    case counters => exact answer_mbox ready ..
  case head =>
    refine ⟨fun off len fits => exec_getLsa_within ready fits, fun off data fits => setLsa_writes ready fits, ?beyond, ?get, fun d => ?put⟩
    case beyond => exact fun off data beyond => ⟨exec_setLsa_beyond ready beyond, exec_getLsa_beyond ready beyond⟩
    case get => exact answer_mbox ready ..
    case put => exact answer_mbox ready ..
  case mctp =>
    exact ⟨fun off len => answer_mbox ready .., fun off data => answer_mbox ready .., answer_mbox ready .., fun d => answer_mbox ready ..⟩

end Sys2Proof.Machine
end

section
/-! PROOFS. The recorder works its queue and answers its commands (O24). -/
namespace Sys2Proof.Machine

/-! ### The log and its checkpoints -/

/-- What raises the next number at each step raises it over a list. -/
theorem next_le_foldl {α : Type} (f : State → α → State) (l : List α) (s : State) (each : ∀ a x, a.ev.next ≤ (f a x).ev.next) :
    s.ev.next ≤ (l.foldl f s).ev.next := by
  induction l generalizing s with
  | nil => exact Nat.le_refl _
  | cons x l ih => exact (each s x).trans (ih _)

theorem logRaw_next (s : State) (e : LogEntry) : (s.logRaw e).ev.next = s.ev.next + 1 := rfl

theorem logSummary_next (s : State) (p : Nat × Summary) : s.ev.next ≤ (s.logSummary p).ev.next :=
  next_le_foldl _ _ s fun _ _ => Nat.le_succ _

/-- R369: the raising of an event leaves the checkpoints and the number of the next entry. -/
theorem event_ckpt (s : State) (c : Nat) (l : List Nat) :
    (s.event c l).ev.ckpt = s.ev.ckpt ∧ (s.event c l).ev.ckptSeq = s.ev.ckptSeq ∧ (s.event c l).ev.next = s.ev.next := by
  unfold State.event
  dsimp only
  split <;> exact ⟨rfl, rfl, rfl⟩

/-- R373: a checkpoint keeps the summaries as they stand, and takes entries of the log. -/
theorem checkpoint_takes (s : State) :
    s.checkpoint.ev.ckpt = s.ev.sums ∧ s.checkpoint.ev.ckptSeq = some s.ev.next ∧ s.ev.next < s.checkpoint.ev.next := by
  unfold State.checkpoint
  extract_lets first sums a b c _ d
  obtain ⟨ckpt, seq, next⟩ := event_ckpt d 0xF001 [d.ev.next - first, d.freeVal]
  refine ⟨ckpt, seq, ?_⟩
  have mid : a.ev.next ≤ b.ev.next := next_le_foldl _ _ a logSummary_next
  have first_ : a.ev.next = s.ev.next + 1 := logRaw_next s _
  clear_value a b
  have last_ : c.ev.next = b.ev.next + 1 := logRaw_next b (b.entryNow 5 0 0 0 0)
  calc s.ev.next < c.ev.next := by omega
    _ = d.ev.next := rfl
    _ = _ := next.symm

theorem exec_recorderCheckpoint_service {s : State} (phase : s.phase = phService) (open_ : s.flag F.EV_STS_AVAIL = true) :
    exec .recorderCheckpoint s = .next s.begin.checkpoint := by
  have phase' : s.begin.phase = phService := phase
  have open' : s.begin.flag F.EV_STS_AVAIL = true := open_
  exact if_pos (by simp [phase', open'])

/-! ### The oldest occurrence, the end of an episode and the operating seconds -/

theorem exec_occurrenceProcess_front {s : State} {o : Occ} {q : List Occ} (queue : s.ev.queue = o :: q) (runs : s.mpRuns = true)
    (open_ : s.flag F.EV_STS_AVAIL = true) (phase : s.phase = phService) :
    exec .occurrenceProcess s = .next (State.processOcc { s.begin with ev := { s.ev with queue := q } } o) := by
  have queue' : s.begin.ev.queue = o :: q := queue
  have allowed : (s.begin.mpRuns && s.begin.flag F.EV_STS_AVAIL && s.begin.logOpen) = true := by
    have phase' : s.begin.phase = phService := phase
    have runs' : s.begin.mpRuns = true := runs
    have open' : s.begin.flag F.EV_STS_AVAIL = true := open_
    simp [runs', open', State.logOpen, phase', phService, phSave, phLinger, phOff, phDormant]
  change execOccurrenceProcess s = _
  unfold execOccurrenceProcess
  simp only [queue']
  exact if_pos allowed

theorem exec_deviceLimitEpisodeEnd_full {s : State} {n : Nat} (episode : s.ev.episode = some n) (full : 1000000000 ≤ s.devLevel) :
    exec .deviceLimitEpisodeEnd s = .next (State.event { s.begin with ev := { s.ev with episode := none } } 0xF005 [n]) := by
  have episode' : s.begin.ev.episode = some n := episode
  change execDeviceLimitEpisodeEnd s = _
  unfold execDeviceLimitEpisodeEnd
  simp only [episode']
  exact if_pos full

theorem operatingSeconds_stored {s : State} (runs : s.mpRuns = true) (phase : s.phase = phService) :
    ∃ t, exec .operatingSecondsWrite s = .next t ∧ t.ev.opsStored = s.ev.opsNs / 1000000000 ∧ t.mem = s.mem := by
  have runs' : s.begin.mpRuns = true := runs
  have phase' : s.begin.phase = phService := phase
  obtain ⟨_, _, programmed⟩ := norProgram_frame { s.begin with ev := { s.ev with opsStored := s.ev.opsNs / 1000000000 } }
  refine ⟨_, if_pos (by simp [runs', phase', phService, phSave, phLinger]), ?_⟩
  exact ⟨(congrArg (·.ev.opsStored) programmed).trans rfl, (congrArg State.mem programmed).trans rfl⟩

/-! ### The windows of the registers -/

theorem FMap.has_of_find {α : Type} {m : FMap α} {x : Nat} {v : α} (found : FMap.find m x = some v) : FMap.has m x = true := by
  induction m with
  | nil => cases found
  | cons e m ih =>
    obtain ⟨k, w⟩ := e
    by_cases here : k = x
    · simp [FMap.has, here]
    · simp only [FMap.find, here, if_false] at found
      simp [FMap.has, ih found]

/-- R376: a read of EV_S_0 latches the selected summary. -/
theorem evS0Read_latches {s : State} {c : Nat} {u : Summary} (open_ : s.flag F.EV_STS_AVAIL = true) (runs : s.mpRuns = true)
    (single : s.flag F.EV_SEL_ITER = false) (code : s.rd F.EV_SEL_CODE = c) (found : FMap.find s.ev.sums c = some u) :
    ∃ t, exec .evS0Read s = .next t ∧ t.ev.sumWin = u.words c ∧ t.out = [.regData [(u.words c).getD 0 0]] ∧ Leaves s t [(F.EV_SEL_CODE, 0)] := by
  have served : ¬ (!(s.begin.flag F.EV_STS_AVAIL && s.begin.mpRuns)) = true := by
    have open' : s.begin.flag F.EV_STS_AVAIL = true := open_
    have runs' : s.begin.mpRuns = true := runs
    simp [open', runs']
  have value : FMap.get {} s.begin.ev.sums c = u := by
    have found' : FMap.find s.begin.ev.sums c = some u := found
    rw [FMap.get_find, found']
    rfl
  have chosen : (if s.begin.flag F.EV_SEL_ITER then nextCode s.begin.ev.sums (s.begin.rd F.EV_SEL_CODE) else
      if FMap.has s.begin.ev.sums (s.begin.rd F.EV_SEL_CODE) then some (s.begin.rd F.EV_SEL_CODE) else none) = some c := by
    subst code
    exact (if_neg (ne_true_of_eq_false single)).trans (if_pos (FMap.has_of_find found))
  refine ⟨(({ s.begin with ev := { s.ev with sumWin := u.words c } } : State).wr F.EV_SEL_CODE c).send (.regData [(u.words c).getD 0 0]),
    ?_, rfl, rfl, ?_⟩
  · change execEvS0Read s = _
    unfold execEvS0Read
    refine (if_neg served).trans ?_
    simp only [chosen, value]
    rfl
  · exact (((leaves_begin s _).still ⟨rfl, rfl, rfl, rfl, rfl, rfl⟩ rfl).wr F.EV_SEL_CODE c (List.mem_singleton.mpr rfl)).send (.regData [(u.words c).getD 0 0])

/-- R377: a write of EV_LSEL starts a fetch of the entry. -/
theorem evLselWrite_fetches (s : State) (val : Nat) :
    ∃ t, exec (.evLselWrite val) s = .next t ∧ t.ev.fetch = true ∧ t.rd F.EV_LSEL_SEQ = val % 2 ^ F.EV_LSEL_SEQ.width ∧
      t.rd F.EV_LSTS_STATUS = 0 ∧ Leaves s t [(F.EV_LSEL_SEQ, 0), (F.EV_LSTS_STATUS, 0)] := by
  let t : State := { s.begin.wr F.EV_LSEL_SEQ val with ev := { s.ev with fetch := true } }
  have selected : t.rd F.EV_LSEL_SEQ = val % 2 ^ F.EV_LSEL_SEQ.width := State.wr_rd_self s.begin F.EV_LSEL_SEQ val
  refine ⟨t.wr F.EV_LSTS_STATUS 0, rfl, rfl, ?_, State.wr_rd_self _ _ _, ?_⟩
  · exact (State.wri_rdi_ne t 0 (by decide)).trans selected
  · exact (((leaves_begin s _).wr F.EV_LSEL_SEQ val (by simp)).still ⟨rfl, rfl, rfl, rfl, rfl, rfl⟩ rfl).wr _ _ (by simp)

/-- R377: the fetch of an entry that is in the ring fills the window. -/
theorem logEntryFetch_fills {s : State} {e : LogEntry} (fetch : s.ev.fetch = true) (kept : s.rd F.EV_RANGE_OLDEST ≤ s.rd F.EV_LSEL_SEQ)
    (found : (s.ev.log.find? fun e => e.seq == s.rd F.EV_LSEL_SEQ) = some e) :
    ∃ t, exec .logEntryFetchComplete s = .next t ∧ t.ev.entWin = e.words ∧ t.rd F.EV_LSTS_STATUS = 1 ∧ t.ev.fetch = false ∧
      Leaves s t [(F.EV_LSTS_STATUS, 0)] := by
  have found' : (s.begin.ev.log.find? fun e => e.seq == s.begin.rd F.EV_LSEL_SEQ) = some e := found
  refine ⟨({ s.begin with ev := { s.ev with fetch := false, entWin := e.words } } : State).wr F.EV_LSTS_STATUS 1, ?_, rfl,
    State.wr_rd_self _ _ _, rfl, ((leaves_begin s _).still ⟨rfl, rfl, rfl, rfl, rfl, rfl⟩ rfl).wr _ _ (List.mem_singleton.mpr rfl)⟩
  change execLogEntryFetchComplete s = _
  unfold execLogEntryFetchComplete
  refine (if_neg (by simp [fetch])).trans ((if_neg (Nat.not_lt.mpr kept)).trans ?_)
  simp only [found']
  rfl

/-! ### The mailbox commands -/

/-- What is sent in reply adds to what was sent, whatever else differs. -/
theorem reply_out_of_out {a b : State} (v : Via) (r : Ret) (ws : List Nat) (same : a.out = b.out) :
    (a.reply v r ws).out = (b.reply v r ws).out := by
  unfold State.reply
  split
  · simp [same]
  · simp [same]
  · split <;> simp [same]

theorem reply_head (a : State) (v : Via) (r : Ret) (ws : List Nat) (k : Nat) : (a.reply v r ws).head k = a.head k := by
  unfold State.reply
  split
  · rfl
  · rfl
  · split <;> rfl

theorem get_fourSettings (settings : List Nat) {i : Nat} (small : i < 4) :
    FMap.get 0 ((List.range 4).map fun i => (i, settings.getD i 0)) i = settings.getD i 0 := by
  obtain rfl | rfl | rfl | rfl : i = 0 ∨ i = 1 ∨ i = 2 ∨ i = 3 := by omega
  all_goals rfl

section
variable {s : State} {v : Via} (ready : MailboxReady s v)
include ready

theorem exec_getEventSummary_found {code : Nat} {u : Summary} (found : FMap.find s.ev.sums code = some u) :
    exec (.getEventSummary v code) s = .next (s.begin.reply v .success (u.words code)) := by
  have found' : FMap.find s.begin.ev.sums code = some u := found
  refine (answer_mbox ready ..).trans ?_
  simp only [found']

theorem exec_getEventEntries_some {first count : Nat} (some_ : 0 < count) (most : count ≤ 4096) :
    exec (.getEventEntries v first count) s = .next (s.begin.reply v .success
      (((s.ev.log.reverse.filter fun e => max first (s.rd F.EV_RANGE_OLDEST) ≤ e.seq).take (mctpMost v count 127)).flatMap LogEntry.words)) :=
  (answer_mbox ready ..).trans (congrArg _ (if_neg (by simp; omega)))

theorem exec_getEventRecords_log {log : Nat} (max : Nat) (real : log ≤ 3) : exec (.getEventRecords v log max) s =
    (let l := FMap.get [] (s.head v.idx).logs log
     let m := mctpMost v max 63
     .next (s.begin.reply v .success ([FMap.get 0 (s.head v.idx).logOvf log, bit01 (decide (m < l.length)), (l.take m).length] ++
       (l.take m).flatMap CxlRec.words))) :=
  (answer_mbox ready ..).trans (congrArg _ (if_neg (Nat.not_lt.mpr real)))

theorem exec_clearEventRecords_all {log : Nat} (real : log ≤ 3) : exec (.clearEventRecords v log true []) s =
    .next ((s.begin.setHead v.idx { s.head v.idx with
      logs := FMap.put (s.head v.idx).logs log [], logOvf := FMap.put (s.head v.idx).logOvf log 0 }).reply v .success []) :=
  (answer_mbox ready ..).trans (congrArg _ ((if_neg (Nat.not_lt.mpr real)).trans (if_pos rfl)))

/-- R382: the interrupt policy of a head is the four settings given. -/
theorem setEventInterruptPolicy_sets {settings : List Nat} (four : settings.length = 4) :
    ∃ t, exec (.setEventInterruptPolicy v settings) s = .next t ∧ t.out = (s.begin.reply v .success []).out ∧
      (∀ i, i < 4 → FMap.get 0 (t.head v.idx).policy i = settings.getD i 0) ∧ Leaves s t [] := by
  refine ⟨_, (answer_mbox ready ..).trans (congrArg _ (if_pos four)), ?_, ?_, ((leaves_begin s []).setHead _ _).reply _ _ _⟩
  · exact reply_out_of_out _ _ _ rfl
  · intro i small
    rw [reply_head, State.setHead_head, if_pos rfl]
    exact get_fourSettings settings small

end

/-- Settles O24. -/
theorem recorder : Obligations.Recorder := by
  unfold Obligations.Recorder
  refine ⟨⟨?oldest, ?checkpoint, ?episode, ?summary, ?select, ?entry, ?seconds⟩, fun s v ready =>
    ⟨fun code => answer_mbox ready .., fun code u => exec_getEventSummary_found ready, fun first count => exec_getEventEntries_some ready,
      fun log max => exec_getEventRecords_log ready max, fun log => exec_clearEventRecords_all ready,
      fun settings => setEventInterruptPolicy_sets ready, answer_mbox ready ..⟩⟩
  case oldest => exact fun s o q => exec_occurrenceProcess_front
  case checkpoint =>
    intro s phase open_
    obtain ⟨ckpt, seq, next⟩ := checkpoint_takes s.begin
    exact ⟨_, exec_recorderCheckpoint_service phase open_, ckpt, seq, (still_checkpoint s.begin).2.1, next⟩
  case episode => exact fun s n => exec_deviceLimitEpisodeEnd_full
  case summary => exact fun s c u => evS0Read_latches
  case select => exact evLselWrite_fetches
  case entry => exact fun s e => logEntryFetch_fills
  case seconds => exact fun s => operatingSeconds_stored

end Sys2Proof.Machine
end

section
/-! PROOFS. The register window on SB (O28). -/
namespace Sys2Proof
open Machine

/-- A change of the state of the two-wire buses is outside of what a frame names. -/
theorem Leaves.setTwb {s t : State} {fs : List (Field × Nat)} (leaves : Leaves s t fs) (twb : TwoWire) :
    Leaves s { t with twb := twb } fs := leaves.still ⟨rfl, rfl, rfl, rfl, rfl, rfl⟩ rfl

end Sys2Proof

namespace Sys2Proof.Machine

theorem sbRange_in {off : Nat} (aligned : off % 8 = 0) (small : off < 0x100000) : ¬ sbRange off = true := by
  simp [sbRange, aligned, small]

section
variable {s : State} (on : s.sbOn = true)
include on

/-- R311: SB is served when the command starts. -/
theorem sb_served : ¬ (!s.begin.sbOn) = true := by
  have on' : s.begin.sbOn = true := on
  simp [on']

theorem exec_sbSetPointer_range {off : Nat} (aligned : off % 8 = 0) (small : off < 0x100000) :
    exec (.sbSetPointer off 1) s = .next (State.sbStatus { s.begin with twb := { s.twb with ptr := off } } 0) :=
  (if_neg (sb_served on)).trans ((if_neg (by simp [State.pecBad])).trans (if_neg (sbRange_in aligned small)))

theorem exec_sbRegRead_range (aligned : s.twb.ptr % 8 = 0) (small : s.twb.ptr < 0x100000) (drbg : s.flag F.SEC_STS_DRBGOK = true) :
    exec (.sbRegRead false) s = .next (State.sbAnswer { (s.begin.readReg 0 s.twb.ptr).1 with
      twb := { (s.begin.readReg 0 s.twb.ptr).1.twb with ptr := s.twb.ptr + 8 } } (0 :: wordBytes [(s.begin.readReg 0 s.twb.ptr).2])) := by
  have drbg' : s.begin.flag F.SEC_STS_DRBGOK = true := drbg
  refine (if_neg (sb_served on)).trans ((if_neg (sbRange_in aligned small)).trans ?_)
  exact if_neg (by simp [drbg'])

theorem exec_sbRegWrite_permitted {off : Nat} (val : Nat) (permitted : s.sbWriteStatus off 1 = 0) (drbg : s.flag F.SEC_STS_DRBGOK = true)
    (plain : off ≠ 0xD0010) : exec (.sbRegWrite off val 1 true) s = .next ((s.begin.writeReg 0 off val true).sbStatus 0) := by
  have on' : s.begin.sbOn = true := on
  have drbg' : s.begin.flag F.SEC_STS_DRBGOK = true := drbg
  have permitted' : s.begin.sbWriteStatus off 1 = 0 := permitted
  change execSbRegWrite off val 1 true s = _
  unfold execSbRegWrite
  rw [if_neg (by simp [on']), permitted']
  exact (if_neg (not_not.mpr rfl)).trans ((if_neg (by simp [drbg'])).trans (if_neg fun recover => plain recover.1))

omit on in
theorem exec_sbRegWrite_unstopped (off val pec : Nat) : exec (.sbRegWrite off val pec false) s = .next s.begin :=
  if_pos (by simp)

theorem exec_alertResponse_alert (alert : s.twb.alert = true) :
    exec (.alertResponse false) s = .next (State.sbAnswer { s.begin with twb := { s.twb with alert := false } } [2 * s.rd F.TWB_SB_ADDR]) := by
  have on' : s.begin.sbOn = true := on
  exact if_neg (by simp [on', alert])

end

/-- Settles O28. -/
theorem sbWindow : Obligations.SbWindow := by
  unfold Obligations.SbWindow
  intro s on
  refine ⟨fun off aligned small => ⟨_, exec_sbSetPointer_range on aligned small, rfl, rfl, ?_⟩, fun aligned small drbg =>
    ⟨_, exec_sbRegRead_range on aligned small drbg, rfl, by simp [State.sbAnswer]⟩,
    fun off val => exec_sbRegWrite_permitted on val, exec_sbRegWrite_unstopped, if_pos on,
    fun alert => ⟨_, exec_alertResponse_alert on alert, rfl, rfl, ?_⟩, if_pos on, fun cmd => if_pos on⟩
  · exact ((leaves_begin s []).setTwb _).setTwb _
  · exact ((leaves_begin s []).setTwb _).send _

end Sys2Proof.Machine
end

section
/-! PROOFS. The MCTP endpoint and the faults of the two-wire buses (O30). -/
namespace Sys2Proof.Machine

theorem event_twb (s : State) (c : Nat) (l : List Nat) : (s.event c l).twb = s.twb := by
  unfold State.event
  dsimp only
  split <;> rfl

/-! ### Freeing a bus and keeping a transaction on it -/

/-- R311: the end of a transaction changes the state of the buses alone. -/
theorem busFree_frame (s : State) (i : Nat) : ∃ twb, s.busFree i = { s with twb := twb } := by
  unfold State.busFree
  dsimp only
  split
  · exact ⟨_, rfl⟩
  · exact ⟨_, rfl⟩

theorem busFree_txs (s : State) (i : Nat) : FMap.find (s.busFree i).twb.txs i = none := by
  have gone : FMap.find (FMap.del s.twb.txs i) i = none := (FMap.find_del s.twb.txs i i).trans (if_pos rfl)
  unfold State.busFree
  dsimp only
  split <;> exact gone

/-- R318: a bus whose transaction ends is IDLE. -/
theorem busFree_idle {s : State} {i : Nat} (active : FMap.get 0 s.twb.states i = 1) : FMap.get 0 (s.busFree i).twb.states i = 0 := by
  unfold State.busFree
  exact (congrArg (fun t : State => FMap.get 0 t.twb.states i) (if_pos active)).trans (FMap.get_put_self ..)

theorem leaves_busFree {s t : State} {fs : List (Field × Nat)} (leaves : Leaves s t fs) (i : Nat) : Leaves s (t.busFree i) fs := by
  obtain ⟨twb, freed⟩ := busFree_frame t i
  rw [freed]
  exact leaves.setTwb twb

theorem keepTx_keeps (s : State) (i : Nat) (x : BusTx) :
    FMap.find (s.keepTx i x).twb.txs i = some x ∧ FMap.get 0 (s.keepTx i x).twb.states i = 1 :=
  ⟨(FMap.find_put s.twb.txs i x i).trans (if_pos rfl), FMap.get_put_self ..⟩

theorem leaves_keepTx {s t : State} {fs : List (Field × Nat)} (leaves : Leaves s t fs) (i : Nat) (x : BusTx) :
    Leaves s (t.keepTx i x) fs := (leaves.setTwb _).setTwb _

/-! ### The MCTP endpoint -/

/-- R316: an answer to a control message is sent, and nothing else changes than the end of the transaction. -/
theorem control_answers {s t : State} {fs : List (Field × Nat)} (leaves : Leaves s t fs) (empty : t.out = []) (cmd cc : Nat) (l : List Nat) :
    (t.control cmd cc l).out = [.bus 0 ([0, cmd, cc] ++ l)] ∧ Leaves s (t.control cmd cc l) fs := by
  obtain ⟨twb, freed⟩ := busFree_frame t 0
  refine ⟨?_, (leaves_busFree leaves 0).send _⟩
  change (t.busFree 0).out ++ _ = _
  rw [freed]
  exact congrArg (· ++ [Msg.bus 0 ([0, cmd, cc] ++ l)]) empty

section
variable {s : State} (on : s.mctpOn = true)
include on

theorem exec_setEndpointId_taken {eid : Nat} (low : 8 ≤ eid) (high : eid ≤ 254) :
    exec (.setEndpointId eid) s = .next (((s.begin.wr F.TWB_SB_EID eid).event 0xC009 [eid]).control 1 0 [0, eid, 0]) := by
  have on' : s.begin.mctpOn = true := on
  exact (if_neg (by simp [on'])).trans (if_neg (by omega))

/-- R316: an endpoint ID from 8 to 254 is taken and answered. -/
theorem setEndpointId_takes {eid : Nat} (low : 8 ≤ eid) (high : eid ≤ 254) : ∃ t, exec (.setEndpointId eid) s = .next t ∧
    t.rd F.TWB_SB_EID = eid ∧ t.out = [.bus 0 [0, 1, 0, 0, eid, 0]] ∧ Leaves s t [(F.TWB_SB_EID, 0)] := by
  have leaves : Leaves s ((s.begin.wr F.TWB_SB_EID eid).event 0xC009 [eid]) [(F.TWB_SB_EID, 0)] :=
    ((leaves_begin s _).wr _ _ (List.mem_singleton.mpr rfl)).event _ _
  obtain ⟨out, frame⟩ := control_answers leaves (by simp) 1 0 [0, eid, 0]
  refine ⟨_, exec_setEndpointId_taken on low high, ?_, out, frame⟩
  obtain ⟨twb, freed⟩ := busFree_frame ((s.begin.wr F.TWB_SB_EID eid).event 0xC009 [eid]) 0
  have shown : (s.begin.wr F.TWB_SB_EID eid).rd F.TWB_SB_EID = eid :=
    (State.wr_rd_self ..).trans (Nat.mod_eq_of_lt (high.trans_lt (by decide)))
  unfold State.control
  rw [freed]
  exact (rdi_eq_of_regs (State.event_regs _ _ _) F.TWB_SB_EID 0).trans shown

theorem exec_getMctpVersionSupport_all :
    exec (.getMctpVersionSupport 0xFF) s = .next (s.begin.control 4 0 ((Config.mctpVersions 0xFF).length :: Config.mctpVersions 0xFF)) := by
  have on' : s.begin.mctpOn = true := on
  exact (if_neg (by simp [on'])).trans (if_neg fun other => other.1 rfl)

theorem exec_mctpPacket_first (src seq tag : Nat) {body : List Byte} (short : body.length ≤ 64) :
    exec (.mctpPacket 0 src seq tag true false true body) s = .next { s.begin with
      twb := { s.twb with asm := some { src := src, tag := tag, seq := (seq + 1) % 4, bytes := body } } } := by
  have on' : s.begin.mctpOn = true := on
  refine (if_neg (by simp [on'])).trans ((if_neg (by simp)).trans ((if_neg ?_).trans ((if_neg ?_).trans (if_neg Bool.false_ne_true))))
  · rintro (long | other)
    · omega
    · exact other.1 rfl
  · change ¬ 8192 < body.length
    omega

end

/-! ### The faults of the buses -/

/-- R319: a timeout counts for the local buses and for the buses of the packs. -/
def State.timeoutCounted (s : State) (i : Nat) : State :=
  if i = 0 then s else if i < 5 then s.bump F.TWB_LB_ERR_TMO else s.bump F.TWB_EB_TMO

theorem timeoutCounted_twb (s : State) (i : Nat) : (s.timeoutCounted i).twb = s.twb := by
  unfold State.timeoutCounted
  split
  · rfl
  · split <;> rfl

section
variable {s : State} (on : s.busOn = true)
include on

/-- R318: a transaction may be kept on a bus that is neither in recovery nor in FAULT. -/
theorem bus_served {i : Nat} (real : i < 7) (working : FMap.get 0 s.twb.states i < 2) :
    ¬ (!s.begin.busOn || decide (7 ≤ i) || decide (2 ≤ FMap.get 0 s.begin.twb.states i)) = true := by
  have on' : s.begin.busOn = true := on
  simp only [on', Bool.not_true, Bool.false_or, Bool.or_eq_true, decide_eq_true_eq]
  exact fun out => out.elim (by omega) (Nat.not_le.mpr working)

/-- R318: the first loss of arbitration of a transaction backs off for a drawn time. -/
theorem arbitrationLoss_backs_off (target : Nat) (idle : FMap.find s.twb.txs 5 = none) (state : FMap.get 0 s.twb.states 5 = 0)
    (drbg : s.flag F.SEC_STS_DRBGOK = true) :
    ∃ t x, exec (.arbitrationLoss 5 target false) s = .next t ∧ FMap.find t.twb.txs 5 = some x ∧ x.losses = 1 ∧ x.target = target ∧
      x.due = s.ck.mono + Config.drbg s.drbgCtr % 64 * 1000 ∧ FMap.get 0 t.twb.states 5 = 1 ∧ Leaves s t [] := by
  have fresh : s.begin.busTx 5 target = { target := target } := by
    have idle' : FMap.find s.begin.twb.txs 5 = none := idle
    rw [State.busTx, idle']
    rfl
  let x : BusTx := { target := target, losses := 1, wait := 1, due := s.ck.mono + Config.drbg s.drbgCtr % 64 * 1000 }
  obtain ⟨kept, active⟩ := keepTx_keeps s.begin.skipDrbg 5 x
  refine ⟨s.begin.skipDrbg.keepTx 5 x, x, ?_, kept, rfl, rfl, rfl, active, leaves_keepTx (leaves_begin s []).skipDrbg 5 x⟩
  change execArbitrationLoss 5 target false s = _
  unfold execArbitrationLoss
  refine (if_neg (bus_served on (by decide) (by omega))).trans ?_
  rw [fresh]
  exact congrArg _ (if_pos drbg)

/-- R318: a backoff whose time is over lets the transaction start again. -/
theorem backoff_ends {i : Nat} {x : BusTx} (found : FMap.find s.twb.txs i = some x) (waits : x.wait = 1) (due : x.due ≤ s.ck.mono) :
    ∃ t, exec (.arbitrationBackoffExpiry i) s = .next t ∧ FMap.find t.twb.txs i = some { x with wait := 0 } ∧ Leaves s t [] := by
  have on' : s.begin.busOn = true := on
  have found' : FMap.find s.begin.twb.txs i = some x := found
  refine ⟨s.begin.keepTx i { x with wait := 0 }, ?_, (keepTx_keeps s.begin i _).1, leaves_keepTx (leaves_begin s []) i _⟩
  change execArbitrationBackoffExpiry i s = _
  unfold execArbitrationBackoffExpiry
  refine (if_neg (by simp [on'])).trans ?_
  simp only [found']
  exact (if_neg (by simp [waits])).trans (if_pos ⟨by simp [waits], due⟩)

omit on in
theorem leaves_timeoutCounted (i : Nat) : Leaves s (s.begin.timeoutCounted i) [(F.TWB_LB_ERR_TMO, 0), (F.TWB_EB_TMO, 0)] := by
  unfold State.timeoutCounted
  split
  · exact leaves_begin s _
  · split
    · exact (leaves_begin s _).bump _ (by simp)
    · exact (leaves_begin s _).bump _ (by simp)

theorem exec_controllerTimeout_active {i : Nat} (target : Nat) (sda : Bool) (real : i < 7) (active : FMap.get 0 s.twb.states i = 1) :
    exec (.controllerTimeout i target sda) s =
      .next (if sda then (((s.begin.timeoutCounted i).busFree i).event 0xC003 [i, target]).setBus i 2
        else ((s.begin.timeoutCounted i).busFree i).event 0xC003 [i, target]) := if_neg (bus_served on real (by omega))

/-- R319: a controller timeout fails the transaction, and SDA held low starts recovery. -/
theorem controllerTimeout_fails {i : Nat} (target : Nat) (sda : Bool) (real : i < 7) (active : FMap.get 0 s.twb.states i = 1) :
    ∃ t, exec (.controllerTimeout i target sda) s = .next t ∧ FMap.get 0 t.twb.states i = (if sda then 2 else 0) ∧
      FMap.find t.twb.txs i = none ∧ Leaves s t [(F.TWB_LB_ERR_TMO, 0), (F.TWB_EB_TMO, 0)] := by
  have counted := leaves_timeoutCounted (s := s) i
  have same := timeoutCounted_twb s.begin i
  refine ⟨_, exec_controllerTimeout_active on target sda real active, ?_⟩
  generalize s.begin.timeoutCounted i = a at *
  have freed : FMap.get 0 (a.busFree i).twb.states i = 0 := busFree_idle (by rw [same]; exact active)
  have gone := busFree_txs a i
  have leaves := (leaves_busFree counted i).event 0xC003 [i, target]
  rw [← event_twb (a.busFree i) 0xC003 [i, target]] at freed gone
  cases sda with
  | false => exact ⟨freed, gone, leaves⟩
  | true => exact ⟨FMap.get_put_self .., gone, leaves.setTwb _⟩

/-- R320: an address that is not acknowledged is tried again. -/
theorem nackRetry_retries (target : Nat) (idle : FMap.find s.twb.txs 5 = none) (state : FMap.get 0 s.twb.states 5 = 0)
    (retries : 0 < s.rd F.TWB_LB_RETRY) :
    ∃ t x, exec (.nackRetry 5 target) s = .next t ∧ FMap.find t.twb.txs 5 = some x ∧ x.nacks = 1 ∧ Leaves s t [] := by
  have fresh : s.begin.busTx 5 target = { target := target } := by
    have idle' : FMap.find s.begin.twb.txs 5 = none := idle
    rw [State.busTx, idle']
    rfl
  have retries' : 0 < s.begin.rd F.TWB_LB_RETRY := retries
  let x : BusTx := { target := target, nacks := 1 }
  refine ⟨s.begin.keepTx 5 x, x, ?_, (keepTx_keeps s.begin 5 x).1, rfl, leaves_keepTx (leaves_begin s []) 5 x⟩
  change execNackRetry 5 target s = _
  unfold execNackRetry
  refine (if_neg (bus_served on (by decide) (by omega))).trans ?_
  rw [fresh]
  exact if_neg (by simp; omega)

/-- R321: SDA found low on an idle bus starts recovery. -/
theorem sdaStuck_recovers {i : Nat} (real : i < 7) (idle : FMap.get 0 s.twb.states i = 0) : ∃ t, exec (.sdaStuck i) s = .next t ∧
    FMap.get 0 t.twb.states i = 2 ∧ FMap.get 0 t.twb.tries i = 0 ∧ Leaves s t [] := by
  have on' : s.begin.busOn = true := on
  refine ⟨_, if_pos (by simp [on', real, idle]), ?_, ?_, ((leaves_begin s []).setTwb _).setTwb _⟩
  · exact FMap.get_put_self ..
  · exact FMap.get_put_self ..

theorem exec_busRecoveryRetry_free {i : Nat} (p : Nat) (real : i < 7) (recovers : 2 ≤ FMap.get 0 s.twb.states i) :
    exec (.busRecoveryRetry i (some p)) s =
      .next (((((State.setBus { s.begin with twb := { s.twb with tries := FMap.del s.twb.tries i } } i 0)).bump F.TWB_STS_RECOV).event
        0xC002 [i, p]).updReady) := by
  have on' : s.begin.busOn = true := on
  exact if_neg (by simp [on', real]; omega)

theorem exec_alarmWarning_pack : exec (.alarmWarningReceived 5) s = .next (s.begin.bump F.TWB_EB_ALERTS) := by
  have on' : s.begin.busOn = true := on
  exact if_pos (by simp [on'])

end

/-- Settles O30. -/
theorem twoWire : Obligations.TwoWire := by
  unfold Obligations.TwoWire
  refine ⟨fun s on => ⟨fun eid => setEndpointId_takes on, ?own, ?uuid, ?versions, ?types, ?packet⟩, fun s on =>
    ⟨arbitrationLoss_backs_off on, fun i x => backoff_ends on, fun i target sda => controllerTimeout_fails on target sda,
      nackRetry_retries on, fun i => sdaStuck_recovers on, fun i p => exec_busRecoveryRetry_free on p, exec_alarmWarning_pack on⟩⟩
  case own => exact ⟨_, if_pos on, control_answers (leaves_begin s []) rfl 2 0 _⟩
  case uuid => exact ⟨_, if_pos on, control_answers (leaves_begin s []) rfl 3 0 _⟩
  case versions => exact ⟨_, exec_getMctpVersionSupport_all on, control_answers (leaves_begin s []) rfl 4 0 _⟩
  case types => exact ⟨_, if_pos on, control_answers (leaves_begin s []) rfl 5 0 _⟩
  case packet => exact fun src seq tag body short => ⟨_, exec_mctpPacket_first on src seq tag short, rfl, rfl, (leaves_begin s []).setTwb _⟩

end Sys2Proof.Machine
end

section
/-! PROOFS. Monitor trips, retries and returns of the clocks (O32). -/
namespace Sys2Proof
open Machine

/-- A change of the clocks is outside of what a frame names. -/
theorem Leaves.setCk {s t : State} {fs : List (Field × Nat)} (leaves : Leaves s t fs) (ck : Clock) :
    Leaves s { t with ck := ck } fs := leaves.still ⟨rfl, rfl, rfl, rfl, rfl, rfl⟩ rfl

end Sys2Proof

namespace Sys2Proof.Machine

/-! ### What the loss of a head's link leaves of the clocks -/

/-- The clocks and the state of the clock tree stand as before. -/
def ClockKept (s t : State) : Prop := t.ck = s.ck ∧ t.rd F.CK_STS_STATE = s.rd F.CK_STS_STATE

theorem ClockKept.refl (s : State) : ClockKept s s := ⟨rfl, rfl⟩

theorem ClockKept.ite {s t u : State} (c : Prop) [Decidable c] (yes : ClockKept s t) (no : ClockKept s u) :
    ClockKept s (if c then t else u) := by
  split
  · exact yes
  · exact no

section
variable {s t : State} (kept : ClockKept s t)
include kept

theorem ClockKept.trans {u : State} (second : ClockKept t u) : ClockKept s u := ⟨second.1.trans kept.1, second.2.trans kept.2⟩

theorem ClockKept.same {u : State} (ck : u.ck = t.ck) (regs : u.regs = t.regs) : ClockKept s u :=
  kept.trans ⟨ck, rdi_eq_of_regs regs _ _⟩

theorem ClockKept.wri (f : Field) (i v : Nat) (apart : f.key i ≠ F.CK_STS_STATE.key 0) : ClockKept s (t.wri f i v) :=
  kept.trans ⟨rfl, State.wri_rdi_ne t v apart⟩

theorem ClockKept.writes {fs : List (Field × Nat)} {u : State} (writes : Writes fs t u) (ck : u.ck = t.ck)
    (other : (fs.all fun e => e.1.key e.2 != F.CK_STS_STATE.key 0) = true) : ClockKept s u := kept.trans ⟨ck, writes.rd other⟩

theorem ClockKept.event (c : Nat) (l : List Nat) : ClockKept s (t.event c l) := kept.same (State.event_ck t c l) (State.event_regs t c l)

theorem ClockKept.foldl {α : Type} (f : State → α → State) (l : List α) (each : ∀ a x, ClockKept a (f a x)) : ClockKept s (l.foldl f t) := by
  induction l generalizing t with
  | nil => exact kept
  | cons x l ih => exact ih (kept.trans (each t x))

theorem ClockKept.forEach (l : List Nat) (f : State → Nat → State) (each : ∀ a k, ClockKept a (f a k)) : ClockKept s (t.forEach l f) :=
  kept.foldl f l each

end

@[simp] theorem msix0_ck (s : State) : s.msix0.ck = s.ck :=
  foldl_keeps State.ck _ _ s fun a k => by
    split
    · exact State.msix_ck a k 0
    · rfl

@[simp] theorem settleAttn_ck (s : State) : s.settleAttn.ck = s.ck := by simp [State.settleAttn, apply_ite State.ck]

@[simp] theorem updReady_ck (s : State) : s.updReady.ck = s.ck := by simp [State.updReady, apply_ite State.ck, settleAttn_ck, msix0_ck]

theorem clockKept_updReady (s : State) : ClockKept s s.updReady := (ClockKept.refl s).writes (writes_updReady s) (updReady_ck s) (by decide)

theorem clockKept_headChanged (s : State) (k : Nat) : ClockKept s (s.headChanged k) := by
  have flagged : ClockKept s (s.setBit F.HP_CHG_FLAGS k true) := (ClockKept.refl s).wri _ 0 _ (by decide)
  exact flagged.same (msix0_ck _) (msix0_regs _)

/-- The registers of the heads are none of the clocks'. -/
theorem headRegs_apart (k : Nat) : F.HP_LINK_STATE.key k ≠ F.CK_STS_STATE.key 0 ∧ F.HP_LERR_DOWN.key k ≠ F.CK_STS_STATE.key 0 ∧
    F.HP_LINK_IDE.key k ≠ F.CK_STS_STATE.key 0 ∧ F.HP_LAT_IDLE.key k ≠ F.CK_STS_STATE.key 0 ∧
    F.QUE_ERRC_FOREIGN.key k ≠ F.CK_STS_STATE.key 0 := by
  simp only [Field.key, F.HP_LINK_STATE, F.HP_LERR_DOWN, F.HP_LINK_IDE, F.HP_LAT_IDLE, F.QUE_ERRC_FOREIGN, F.CK_STS_STATE]
  omega

theorem clockKept_setLink (s : State) (k st : Nat) : ClockKept s (s.setLink k st) := by
  unfold State.setLink
  extract_lets a
  have locked : ClockKept s a :=
    .ite _ (((ClockKept.refl s).wri _ 0 _ (by decide)).wri _ 0 _ (by decide)) (.refl s)
  exact .ite _ locked ((locked.wri _ k _ (headRegs_apart k).1).trans (clockKept_headChanged _ k))

theorem clockKept_signalQueue (s : State) (q : Nat) : ClockKept s (s.signalQueue q) :=
  (ClockKept.refl s).same (State.msix_ck _ _ _) (State.msix_regs _ _ _)

theorem clockKept_postEntry (s : State) (t : Ticket) (st rs res ts : Nat) : ClockKept s (s.postEntry t st rs res ts) := by
  unfold State.postEntry
  extract_lets x ws i wrap y r
  have posted : ClockKept s r := (ClockKept.refl s).same rfl rfl
  exact .ite _ (posted.trans (clockKept_signalQueue r _)) posted

theorem clockKept_decideTicket (s : State) (t : Ticket) (st rs res : Nat) : ClockKept s (s.decideTicket t st rs res) := by
  unfold State.decideTicket
  extract_lets r x r'
  have settled : ClockKept s r' := (ClockKept.refl s).same rfl rfl
  exact .ite _ (settled.trans (clockKept_postEntry r' ..)) (.ite _ (settled.same rfl rfl) settled)

theorem clockKept_abortQueue (s : State) (q : Nat) : ClockKept s (s.abortQueue q) := by
  unfold State.abortQueue
  extract_lets r
  have decided : ClockKept s r := (ClockKept.refl s).foldl _ _ fun a t => clockKept_decideTicket a t 3 0 0
  obtain ⟨_, frame⟩ := poolCheck_frame (r.setQueue q { r.queue q with barrier := none })
  rw [frame]
  exact decided.same rfl rfl

theorem clockKept_suspendQueue (s : State) (q : Nat) : ClockKept s (s.suspendQueue q) := by
  unfold State.suspendQueue
  extract_lets r x r'
  have dropped : ClockKept s r := .ite _ (((ClockKept.refl s).same rfl rfl).wri _ _ _ (headRegs_apart _).2.2.2.2) (.refl s)
  have suspended : ClockKept s r' := dropped.same rfl rfl
  exact .ite _ (suspended.trans (clockKept_abortQueue r' q)) suspended

/-- R54: a head whose link goes down leaves the clocks. -/
theorem clockKept_linkDown (s : State) (k : Nat) : ClockKept s (s.linkDown k) := by
  obtain ⟨_, down, ide, idle, _⟩ := headRegs_apart k
  unfold State.linkDown
  extract_lets a b h c d e fs _ f
  have first : ClockKept s a := (((ClockKept.refl s).wri _ k _ down).trans (clockKept_setLink _ k 5)).event _ _
  have second : ClockKept s b := ((first.wri _ k _ ide).wri _ k _ idle).same rfl rfl
  have third : ClockKept s c := by
    refine second.trans ?_
    simp only [c]
    split
    · exact (ClockKept.refl b).same (State.reply_ck ..) (State.reply_regs ..)
    · exact .refl b
  have dropped : ClockKept s f := third.same rfl rfl
  exact (dropped.forEach _ _ clockKept_suspendQueue).trans (clockKept_updReady _)

theorem clockKept_headsNoRef (s : State) : ClockKept s s.headsNoRef :=
  (ClockKept.refl s).forEach _ _ fun a k => .ite _ (clockKept_linkDown a k) (.refl a)

/-! ### Monitor trips -/

/-- R294: the trip of a monitor leaves the clocks. -/
theorem clockKept_trip (s : State) (clock test : Nat) : ClockKept s (s.trip clock test) :=
  ((ClockKept.refl s).wri F.CK_STS_TRIPS 0 _ (by decide)).event _ _

theorem leaves_trip {s t : State} (leaves : Leaves s t [(F.CK_STS_TRIPS, 0)]) (clock test : Nat) :
    Leaves s (t.trip clock test) [(F.CK_STS_TRIPS, 0)] := (leaves.bump F.CK_STS_TRIPS (by simp)).event _ _

theorem writes_trip {s t : State} (writes : Writes [(F.CK_STS_TRIPS, 0)] s t) (clock test : Nat) :
    Writes [(F.CK_STS_TRIPS, 0)] s (t.trip clock test) := (writes.wr _ _ (by simp)).event _ _

theorem trip_ck (s : State) (clock test : Nat) : (s.trip clock test).ck = s.ck := (clockKept_trip s clock test).1

/-- R294: while no Save runs, the failure of a clock fails none. -/
theorem clockFail_of_phase {s : State} (phase : s.phase ≠ phSave) : s.clockFail = s := if_neg fun fails => phase fails.1

/-- R296: REFCLK is lost and the heads that need it go down. -/
def State.refLost (s : State) (test : Nat) : State := ((s.trip 0 test).wr F.CK_STS_REFOK 0).headsNoRef

theorem clockKept_refLost (s : State) (test : Nat) : ClockKept s.begin (s.begin.refLost test) :=
  ((clockKept_trip s.begin 0 test).wri F.CK_STS_REFOK 0 0 (by decide)).trans (clockKept_headsNoRef _)

section
variable {s : State} (runs : s.clocksRun = true)
include runs

theorem exec_boscMonitorTrip_bosc (test : Nat) (bosc : s.rd F.CK_STS_STATE = 2) :
    exec (.boscMonitorTrip test) s = .next (s.begin.boscTrip test) := if_pos ⟨bosc, runs⟩

/-- R296: REFCLK is watched while it serves and the clocks run. -/
theorem refclk_watched (served : s.flag F.CK_STS_REFOK = true) : ¬ (!s.begin.flag F.CK_STS_REFOK || !s.begin.clocksRun) = true := by
  have runs' : s.begin.clocksRun = true := runs
  have served' : s.begin.flag F.CK_STS_REFOK = true := served
  simp [runs', served']

theorem exec_refclkMonitorTrip_bosc (test : Nat) (served : s.flag F.CK_STS_REFOK = true) (bosc : s.rd F.CK_STS_STATE = 2)
    (unmoved : s.ck.plls = []) : exec (.refclkMonitorTrip test) s = .next (s.begin.refLost test).clockFail := by
  obtain ⟨ck, state⟩ := clockKept_refLost s test
  have state' : (s.begin.refLost test).rd F.CK_STS_STATE = 2 := state.trans bosc
  have plls : (s.begin.refLost test).ck.plls = [] := (congrArg Clock.plls ck).trans unmoved
  change execRefclkMonitorTrip test s = _
  unfold execRefclkMonitorTrip
  extract_lets a t
  rw [if_neg (refclk_watched runs served)]
  have same : t = s.begin.refLost test := rfl
  rw [← same] at state' plls ⊢
  clear_value t
  rw [if_neg (by omega), plls]
  rfl

theorem exec_refclkMonitorTrip_fallback (test : Nat) (served : s.flag F.CK_STS_REFOK = true) (fallback : s.rd F.CK_STS_STATE = 3) :
    exec (.refclkMonitorTrip test) s = .next ((s.begin.refLost test).toLfo 2).clockFail :=
  (if_neg (refclk_watched runs served)).trans (if_pos ((clockKept_refLost s test).2.trans fallback))

end

/-! ### Changes of the clock state -/

/-- What leaves memory and its maps and writes no more than listed places leaves what a frame names. -/
theorem Still.leaves_writes {fs : List (Field × Nat)} {s t : State} (still : Still s t) (writes : Writes fs s t) : Leaves s t fs := by
  obtain ⟨pending, mem, lsa, poisoned, dmap, index⟩ := still
  exact ⟨fun a => congrArg (memByte · a) mem, poisoned, lsa, dmap, index, pending, writes⟩

theorem Writes.setCk {fs : List (Field × Nat)} {s t : State} (writes : Writes fs s t) (ck : Clock) : Writes fs s { t with ck := ck } :=
  writes.regs rfl

theorem flag_of_rd {s : State} {f : Field} {v : Nat} (reads : s.rd f = v) : s.flag f = (v == 1) := by rw [State.flag, reads]

/-- The places that a change of the clock state writes. -/
def clockPlaces : List (Field × Nat) :=
  [(F.CK_STS_STATE, 0), (F.CK_STS_DEGRADED, 0), (F.CK_STS_LOCK, 0), (F.MC_STAT_LFO, 0), (F.GEN_LOCK_BLOCKS, 0)] ++ readyPlaces ++
    (List.range 16).map fun k => (F.HP_LAT_IDLE, k)

theorem writes_clockState (s : State) (st cause : Nat) :
    Writes [(F.CK_STS_STATE, 0), (F.CK_STS_DEGRADED, 0)] s (s.clockState st cause) :=
  (((Writes.refl _ s).event _ _).wr _ _ (by simp)).wr _ _ (by simp)

theorem clockState_reads (s : State) {st : Nat} (cause : Nat) (small : st < 8) :
    (s.clockState st cause).rd F.CK_STS_STATE = st ∧ (s.clockState st cause).flag F.CK_STS_DEGRADED = (st != 2) := by
  refine ⟨(State.wri_rdi_ne _ _ (by decide)).trans ((State.wr_rd_self _ _ _).trans (Nat.mod_eq_of_lt small)), ?_⟩
  have shown (a : State) : (a.wr F.CK_STS_DEGRADED (bit01 (st != 2))).flag F.CK_STS_DEGRADED = (st != 2) := by
    rw [State.flag, State.wr_rd_self]
    cases st != 2 <;> rfl
  exact shown _

theorem writes_memRate (s : State) (lfo : Bool) :
    Writes ((F.MC_STAT_LFO, 0) :: (List.range 16).map fun k => (F.HP_LAT_IDLE, k)) s (s.memRate lfo) := by
  unfold State.memRate
  extract_lets t
  have shown : Writes ((F.MC_STAT_LFO, 0) :: (List.range 16).map fun k => (F.HP_LAT_IDLE, k)) s t := ((Writes.refl _ s).wr _ _ (by simp)).event _ _
  refine .ite _ (.refl _ s) (shown.forEach _ _ fun a k listed => (Writes.refl _ a).wri _ k _ ?_)
  exact List.mem_cons_of_mem _ (List.mem_map_of_mem (List.mem_filter.mp listed).1)

theorem memRate_ck (s : State) (lfo : Bool) : (s.memRate lfo).ck = s.ck := by
  unfold State.memRate
  extract_lets t
  have idle (l : List Nat) (f : State → Nat → Nat) : (t.forEach l fun a k => a.wri F.HP_LAT_IDLE k (f a k)).ck = t.ck :=
    foldl_keeps State.ck _ l t fun _ _ => rfl
  split
  · rfl
  · exact (idle _ _).trans (State.event_ck _ _ _)

theorem writes_lockTraining (s : State) : Writes [(F.GEN_LOCK_BLOCKS, 0)] s s.lockTraining := by
  unfold State.lockTraining
  extract_lets t
  have locked : Writes [(F.GEN_LOCK_BLOCKS, 0)] s t := .ite _ ((Writes.refl _ s).wr _ _ (by simp)) (.refl _ s)
  exact .ite _ (.refl _ s) (.ite _ (locked.wr _ _ (by simp)) locked)

theorem lockTraining_ck (s : State) : s.lockTraining.ck = s.ck := by simp [State.lockTraining, apply_ite State.ck]

/-- R294: what follows the new clock state: the clock of memory, the training locks and readiness. -/
def State.clockSettled (s : State) (lfo : Bool) : State := ((s.memRate lfo).lockTraining).updReady

theorem clockSettled_ck (s : State) (lfo : Bool) : (s.clockSettled lfo).ck = s.ck :=
  (updReady_ck _).trans ((lockTraining_ck _).trans (memRate_ck s lfo))

theorem writes_clockSettled (s : State) (lfo : Bool) : Writes
    ([(F.MC_STAT_LFO, 0), (F.GEN_LOCK_BLOCKS, 0)] ++ readyPlaces ++ (List.range 16).map fun k => (F.HP_LAT_IDLE, k)) s (s.clockSettled lfo) := by
  refine ((writes_memRate s lfo).mono ?_).trans (((writes_lockTraining _).mono ?_).trans ((writes_updReady _).mono ?_))
  · exact fun e listed => (List.mem_cons.mp listed).elim (by simp +contextual) (List.mem_append_right _)
  · simp
  · simp +contextual

/-- R294: what a new clock state does of the PLLs before the rest settles: moved ones stay where only BOSC fell, and where a source serves all lock. -/
def State.pllsReset (s : State) (st cause : Nat) : State :=
  let fell := st = 3 ∧ s.rd F.CK_STS_STATE = 2
  let t : State := { s.clockState st cause with
    ck := { (s.clockState st cause).ck with plls := if fell then s.ck.plls.filter fun e => e.2 == 2 else [] } }
  if st = 4 ∨ fell then t else { t.wr F.CK_STS_LOCK 15 with ck := { t.ck with stopped := [] } }

theorem setClock_eq (s : State) (st cause : Nat) : ∃ lfo, s.setClock st cause = (s.pllsReset st cause).clockSettled lfo := ⟨_, rfl⟩

theorem writes_pllsReset (s : State) (st cause : Nat) :
    Writes [(F.CK_STS_STATE, 0), (F.CK_STS_DEGRADED, 0), (F.CK_STS_LOCK, 0)] s (s.pllsReset st cause) := by
  unfold State.pllsReset
  extract_lets fell _ _ t
  have moved : Writes [(F.CK_STS_STATE, 0), (F.CK_STS_DEGRADED, 0), (F.CK_STS_LOCK, 0)] s t :=
    ((writes_clockState s st cause).mono (by simp)).regs rfl
  exact .ite _ moved ((moved.wr F.CK_STS_LOCK 15 (by simp)).regs rfl)

theorem pllsReset_fallback {s : State} (cause : Nat) (other : s.rd F.CK_STS_STATE ≠ 2) : s.pllsReset 3 cause =
    { (s.clockState 3 cause).wr F.CK_STS_LOCK 15 with ck := { (s.clockState 3 cause).ck with plls := [], stopped := [] } } := by
  have stays : ¬ ((3 : Nat) = 3 ∧ s.rd F.CK_STS_STATE = 2) := fun fell => other fell.2
  unfold State.pllsReset
  dsimp only
  rw [if_neg stays, if_neg (fun any => any.elim (by decide) stays)]
  rfl

/-- R294: what a change to state 3, of a tree that was not in BOSC, makes of the clocks. -/
theorem setClock_fallback {s : State} (cause : Nat) (other : s.rd F.CK_STS_STATE ≠ 2) :
    (s.setClock 3 cause).rd F.CK_STS_STATE = 3 ∧ (s.setClock 3 cause).rd F.CK_STS_LOCK = 15 ∧
      (s.setClock 3 cause).flag F.CK_STS_DEGRADED = true ∧ (s.setClock 3 cause).ck.fromStart = s.ck.fromStart := by
  obtain ⟨lfo, settled⟩ := setClock_eq s 3 cause
  obtain ⟨state, degraded⟩ := clockState_reads s cause (show 3 < 8 by decide)
  have ck : (s.clockState 3 cause).ck = s.ck := State.event_ck _ _ _
  rw [settled, pllsReset_fallback cause other]
  generalize s.clockState 3 cause = a at *
  have writes := writes_clockSettled { a.wr F.CK_STS_LOCK 15 with ck := { a.ck with plls := [], stopped := [] } } lfo
  have settledCk := clockSettled_ck { a.wr F.CK_STS_LOCK 15 with ck := { a.ck with plls := [], stopped := [] } } lfo
  refine ⟨(writes.rd (by decide)).trans ((State.wri_rdi_ne a 15 (by decide)).trans state),
    (writes.rd (by decide)).trans (State.wr_rd_self a F.CK_STS_LOCK 15), ?_, ?_⟩
  · have same : (a.wr F.CK_STS_LOCK 15).rd F.CK_STS_DEGRADED = a.rd F.CK_STS_DEGRADED := State.wri_rdi_ne a 15 (by decide)
    exact (congrArg (· == 1) ((writes.rd (by decide)).trans same)).trans degraded
  · rw [settledCk, ← ck]

theorem writes_setClock (s : State) (st cause : Nat) : Writes clockPlaces s (s.setClock st cause) := by
  obtain ⟨lfo, settled⟩ := setClock_eq s st cause
  rw [settled]
  refine ((writes_pllsReset s st cause).mono ?_).trans ((writes_clockSettled _ lfo).mono ?_)
  · simp [clockPlaces]
  · simp +contextual [clockPlaces]

/-- R294: the phase stands while the clock state changes. -/
theorem setClock_serving (s : State) (st cause : Nat) : (s.setClock st cause).serving = s.serving := by
  have phase : (s.setClock st cause).phase = s.phase := (writes_setClock s st cause).rd (by decide)
  rw [State.serving, State.serving, phase]

/-! ### Returns and retries -/

section
variable {s : State} (runs : s.clocksRun = true)
include runs

/-- R296: REFCLK returns while hosts are served. -/
theorem exec_refclkReturn_serving (phase : s.phase ≠ phSave) (serving : s.serving = true) : exec .refclkReturn s =
    .next (if s.rd F.CK_STS_STATE = 4 then ((s.begin.wr F.CK_STS_REFOK 1).setClock 3 3).trainLinks
      else (s.begin.wr F.CK_STS_REFOK 1).trainLinks) := by
  have runs' : s.begin.clocksRun = true := runs
  have shown : Writes [(F.CK_STS_REFOK, 0)] s (s.begin.wr F.CK_STS_REFOK 1) := ((Writes.refl _ s).regs (u := s.begin) rfl).wr _ _ (by simp)
  have phase' : (s.begin.wr F.CK_STS_REFOK 1).phase = s.phase := shown.rd (by decide)
  have state : (s.begin.wr F.CK_STS_REFOK 1).rd F.CK_STS_STATE = s.rd F.CK_STS_STATE := shown.rd (by decide)
  have serving' : (s.begin.wr F.CK_STS_REFOK 1).serving = true := by rw [State.serving, phase']; exact serving
  change execRefclkReturn s = _
  unfold execRefclkReturn
  rw [if_neg (by simp [runs'])]
  refine (if_neg (by rw [phase']; exact phase)).trans ?_
  rw [state]
  by_cases lfo : s.rd F.CK_STS_STATE = 4
  · rw [if_pos lfo, if_pos lfo]
    exact congrArg _ (if_pos ((setClock_serving _ 3 3).trans serving'))
  · rw [if_neg lfo, if_neg lfo]
    exact congrArg _ (if_pos serving')

theorem exec_boscReturn_serving (degraded : s.rd F.CK_STS_STATE = 3 ∨ s.rd F.CK_STS_STATE = 4) (serving : s.serving = true) : exec .boscReturn s =
    .next (((State.wr { s.begin with ck := { s.ck with fromStart := false } } F.CK_STS_BOSCOK 1).setClock 2 3).trainLinks) :=
  if_pos ⟨degraded, serving, runs⟩

/-- R295: a retry in BOSC_START runs while the clocks run. -/
theorem start_checked (start : s.rd F.CK_STS_STATE = 1) : ¬ (s.begin.rd F.CK_STS_STATE ≠ 1 ∨ s.begin.clocksRun = false) := by
  have runs' : s.begin.clocksRun = true := runs
  have start' : s.begin.rd F.CK_STS_STATE = 1 := start
  simp [runs', start']

/-- R295: a retry that finds REFCLK_P/N failing shows the fault. -/
theorem clockCheckRetry_fails (start : s.rd F.CK_STS_STATE = 1) :
    ∃ t, exec (.clockCheckRetry false) s = .next t ∧ t.flag F.CK_STS_REFOK = false ∧ t.flag F.CK_STS_CLKFAULT = true ∧
      t.rd F.CK_STS_STATE = 1 ∧ Leaves s t [(F.CK_STS_REFOK, 0), (F.CK_STS_CLKFAULT, 0)] := by
  let a : State := (s.begin.wr F.CK_STS_REFOK 0).wr F.CK_STS_CLKFAULT 1
  have leaves : Leaves s a [(F.CK_STS_REFOK, 0), (F.CK_STS_CLKFAULT, 0)] := ((leaves_begin s _).wr _ _ (by simp)).wr _ _ (by simp)
  have refOk : a.rd F.CK_STS_REFOK = 0 := (State.wri_rdi_ne _ _ (by decide)).trans (State.wr_rd_self ..)
  have fault : a.rd F.CK_STS_CLKFAULT = 1 := State.wr_rd_self ..
  have state : a.rd F.CK_STS_STATE = 1 := (State.wri_rdi_ne _ _ (by decide)).trans ((State.wri_rdi_ne _ _ (by decide)).trans start)
  have shows (t : State) (regs : t.regs = a.regs) : t.flag F.CK_STS_REFOK = false ∧ t.flag F.CK_STS_CLKFAULT = true ∧
      t.rd F.CK_STS_STATE = 1 :=
    ⟨flag_of_rd ((rdi_eq_of_regs regs _ _).trans refOk), flag_of_rd ((rdi_eq_of_regs regs _ _).trans fault),
      (rdi_eq_of_regs regs _ _).trans state⟩
  let due : Bool := match a.ck.faultAt with | some w => decide (w + 10000000000 ≤ a.ck.mono) | none => true
  have whole : exec (.clockCheckRetry false) s =
      if due then .next (State.event { a with ck := { a.ck with faultAt := some a.ck.mono } } 0xB004 [0]) else .next a :=
    (if_neg (start_checked runs start)).trans (if_pos rfl)
  rw [whole]
  split
  · obtain ⟨refOk', fault', state'⟩ := shows _ (State.event_regs { a with ck := { a.ck with faultAt := some a.ck.mono } } 0xB004 [0])
    exact ⟨_, rfl, refOk', fault', state', (leaves.setCk _).event _ _⟩
  · obtain ⟨refOk', fault', state'⟩ := shows a rfl
    exact ⟨_, rfl, refOk', fault', state', leaves⟩

/-- R295: the first two passes of REFCLK_P/N are counted. -/
theorem clockCheckRetry_counts (start : s.rd F.CK_STS_STATE = 1) (few : s.ck.starts < 2) :
    ∃ t, exec (.clockCheckRetry true) s = .next t ∧ t.ck.starts = s.ck.starts + 1 ∧ t.flag F.CK_STS_REFOK = true ∧
      Leaves s t [(F.CK_STS_REFOK, 0)] := by
  refine ⟨{ s.begin.wr F.CK_STS_REFOK 1 with ck := { s.ck with starts := s.ck.starts + 1 } }, ?_, rfl, ?_, ?_⟩
  · exact (if_neg (start_checked runs start)).trans ((if_neg (by decide)).trans (if_pos (by change s.ck.starts + 1 < 3; omega)))
  · exact flag_of_rd (State.wr_rd_self s.begin F.CK_STS_REFOK 1)
  · exact ((leaves_begin s _).wr F.CK_STS_REFOK 1 (by simp)).still ⟨rfl, rfl, rfl, rfl, rfl, rfl⟩ rfl

/-- R295: the third pass of REFCLK_P/N runs the tree from it. -/
theorem clockCheckRetry_falls_back (start : s.rd F.CK_STS_STATE = 1) (two : s.ck.starts = 2) :
    ∃ t, exec (.clockCheckRetry true) s = .next t ∧ t.rd F.CK_STS_STATE = 3 ∧ t.rd F.CK_STS_LOCK = 15 ∧
      t.flag F.CK_STS_DEGRADED = true ∧ t.ck.fromStart = true ∧ t.mem = s.mem := by
  let a : State := ({ s.begin.wr F.CK_STS_REFOK 1 with ck := { s.ck with starts := s.ck.starts + 1 } } : State).event 0xB003 [s.ck.starts + 1]
  let b : State := { a with ck := { a.ck with fromStart := true } }
  have state : b.rd F.CK_STS_STATE = 1 :=
    (rdi_eq_of_regs (State.event_regs _ _ _) F.CK_STS_STATE 0).trans ((State.wri_rdi_ne s.begin 1 (by decide)).trans start)
  have mem : b.mem = s.mem := (State.event_mem _ _ _)
  obtain ⟨read, locked, degraded, from_⟩ := setClock_fallback (s := b) 0 (by omega)
  refine ⟨b.setClock 3 0, ?_, read, locked, degraded, from_, (still_setClock b 3 0).2.1.trans mem⟩
  exact (if_neg (start_checked runs start)).trans ((if_neg (by decide)).trans (if_neg (by change ¬ s.ck.starts + 1 < 3; omega)))

theorem exec_boscStartCheckPass_start (lfo : Int) (start : s.rd F.CK_STS_STATE = 1) : exec (.boscStartCheckPass lfo) s =
    (let t := (((s.begin.wr F.CK_STS_REFOK 1).wr F.CK_STS_BOSCOK 1).wr F.CK_STS_CLKFAULT 0).trimLfo lfo
     .next (((State.setClock { t with ck := { t.ck with starts := 0, fromStart := false } } 2 0).powerAdvance 2).imageStep)) :=
  if_neg (start_checked runs start)

end

/-! ### Lock losses of the PLLs and the loss of the LFO and of AOSC -/

/-- R297: the times of the lock losses of a PLL that are at most a second old, the present one among them. -/
def State.recentLosses (s : State) (p : Nat) : List Nat :=
  s.ck.mono :: (FMap.get [] s.ck.losses p).filter fun w => decide (s.ck.mono < w + 1000000000)

/-- R297: a lock loss is entered; the third within a second starts the count again. -/
def State.lossKept (s : State) (p : Nat) : State :=
  State.trip { s with ck := { s.ck with losses := FMap.put s.ck.losses p (if (s.recentLosses p).length < 3 then s.recentLosses p else []) } }
    (2 + p) 0

theorem lossKept_losses (s : State) (p : Nat) : FMap.get [] (s.lossKept p).ck.losses p =
    if (s.recentLosses p).length < 3 then s.recentLosses p else [] := by
  rw [State.lossKept, trip_ck]
  exact FMap.get_put_self ..

theorem leaves_lossKept (s : State) (p : Nat) : Leaves s (s.begin.lossKept p) [(F.CK_STS_TRIPS, 0)] :=
  leaves_trip ((leaves_begin s _).setCk _) _ _

/-- R297: after the entry of a loss the tree, its PLLs, the phase and REFCLK are as before. -/
theorem lossKept_reads (s : State) (p : Nat) : (s.lossKept p).ck.plls = s.ck.plls ∧ (s.lossKept p).rd F.CK_STS_STATE = s.rd F.CK_STS_STATE ∧
    (s.lossKept p).phase = s.phase ∧ (s.lossKept p).flag F.CK_STS_REFOK = s.flag F.CK_STS_REFOK := by
  have writes : Writes [(F.CK_STS_TRIPS, 0)] s (s.lossKept p) := writes_trip ((Writes.refl _ s).setCk _) _ _
  refine ⟨?_, writes.rd (by decide), writes.rd (by decide), congrArg (· == 1) (writes.rd (by decide))⟩
  rw [State.lossKept, trip_ck]

/-- R298: the LFO is lost. -/
def State.lfoLost (s : State) : State := State.trip { s with ck := { s.ck with lfoOut := true } } 6 0

theorem lfoLost_ck (s : State) : s.lfoLost.ck = { s.ck with lfoOut := true } := trip_ck _ 6 0

theorem lfoLost_reads (s : State) : s.lfoLost.rd F.CK_STS_STATE = s.rd F.CK_STS_STATE ∧ s.lfoLost.phase = s.phase := by
  have writes : Writes [(F.CK_STS_TRIPS, 0)] s s.lfoLost := writes_trip ((Writes.refl _ s).setCk _) _ _
  exact ⟨writes.rd (by decide), writes.rd (by decide)⟩

theorem leaves_lfoLost (s : State) : Leaves s s.begin.lfoLost [(F.CK_STS_TRIPS, 0)] := leaves_trip ((leaves_begin s _).setCk _) _ _

/-- R298: the PLLs that stop with the LFO: all of them where the tree runs from it, and otherwise those that moved to it. -/
def State.onLfo (s : State) : List Nat :=
  (List.range 4).filter fun p => decide (¬ (s.rd F.CK_STS_STATE = 2 ∨ s.rd F.CK_STS_STATE = 3)) || FMap.get 0 s.ck.plls p == 2

/-- R298: what stops the PLLs of a list leaves. -/
theorem pllStop_reads (s : State) (p : Nat) : p ∈ (s.pllStop p).ck.stopped ∧ (∀ q ∈ s.ck.stopped, q ∈ (s.pllStop p).ck.stopped) ∧
    (s.pllStop p).phase = s.phase ∧ (s.pllStop p).ck.lfoOut = s.ck.lfoOut := by
  unfold State.pllStop
  split
  case isTrue stopped => exact ⟨List.contains_iff_mem.mp stopped, fun q among => among, rfl, rfl⟩
  case isFalse =>
    have writes : Writes [(F.CK_STS_LOCK, 0)] s
        (State.event { s.setBit F.CK_STS_LOCK p false with ck := { s.ck with stopped := p :: s.ck.stopped } } 0xB005 [p]) :=
      (((Writes.refl [(F.CK_STS_LOCK, 0)] s).wr F.CK_STS_LOCK _ (by simp)).setCk _).event _ _
    rw [State.event_ck]
    refine ⟨?_, ?_, writes.rd (by decide), rfl⟩
    · exact List.mem_cons_self ..
    · exact fun q among => List.mem_cons_of_mem _ among

theorem pllsStop_reads (l : List Nat) : ∀ s : State, (∀ p ∈ l, p ∈ (s.forEach l State.pllStop).ck.stopped) ∧
    (∀ p ∈ s.ck.stopped, p ∈ (s.forEach l State.pllStop).ck.stopped) ∧ (s.forEach l State.pllStop).phase = s.phase ∧
    (s.forEach l State.pllStop).ck.lfoOut = s.ck.lfoOut ∧ (s.forEach l State.pllStop).mem = s.mem := by
  induction l with
  | nil => exact fun s => ⟨fun _ among => absurd among List.not_mem_nil, fun _ among => among, rfl, rfl, rfl⟩
  | cons x l ih =>
    intro s
    obtain ⟨here, kept, phase, lfoOut⟩ := pllStop_reads s x
    obtain ⟨rest, kept', phase', lfoOut', mem'⟩ := ih (s.pllStop x)
    refine ⟨fun p among => ?_, fun p among => kept' p (kept p among), phase'.trans phase, lfoOut'.trans lfoOut,
      mem'.trans (still_pllStop s x).2.1⟩
    obtain rfl | among := List.mem_cons.mp among
    · exact kept' _ here
    · exact rest p among

/-- R297: a PLL moves to REFCLK. -/
def State.pllOnRef (s : State) (p : Nat) : State := { s with ck := { s.ck with plls := FMap.put s.ck.plls p 1 } }

theorem pllTo_ref (s : State) {p : Nat} (other : p ≠ 2) : s.pllTo p 1 = s.pllOnRef p :=
  (if_neg fun lfo => absurd lfo.1 (by decide)).trans (if_neg other)

section
variable {s : State} (runs : s.clocksRun = true)
include runs

/-- R297: a PLL that is not stopped reports its lock loss. -/
theorem pll_reports {p : Nat} (real : p < 4) (locks : p ∉ s.ck.stopped) :
    ¬ (4 ≤ p ∨ s.begin.clocksRun = false ∨ s.begin.ck.stopped.contains p = true) := by
  have runs' : s.begin.clocksRun = true := runs
  simp [runs', real, locks]

theorem exec_pllLockLoss_few {p : Nat} (real : p < 4) (locks : p ∉ s.ck.stopped) (few : (s.recentLosses p).length < 3) :
    exec (.pllLockLoss p) s = .next (s.begin.lossKept p) := (if_neg (pll_reports runs real locks)).trans (if_pos few)

/-- R297: the first and the second lock loss within a second are counted. -/
theorem pllLockLoss_counts {p : Nat} (real : p < 4) (locks : p ∉ s.ck.stopped) (few : (s.recentLosses p).length < 3) :
    ∃ t, exec (.pllLockLoss p) s = .next t ∧ FMap.get [] t.ck.losses p = s.recentLosses p ∧ t.ck.plls = s.ck.plls ∧
        t.rd F.CK_STS_TRIPS = min (s.rd F.CK_STS_TRIPS + 1) (2 ^ F.CK_STS_TRIPS.width - 1) ∧ Leaves s t [(F.CK_STS_TRIPS, 0)] := by
  refine ⟨_, exec_pllLockLoss_few runs real locks few, (lossKept_losses s.begin p).trans (if_pos few), ?_, ?_, leaves_lossKept s p⟩
  · rw [State.lossKept, trip_ck]
    rfl
  · exact (rdi_eq_of_regs (State.event_regs _ _ _) _ _).trans (bumpi_rdi_self _ F.CK_STS_TRIPS 0)

/-- R297: at the third lock loss within a second of a PLL other than the memory's, in BOSC, it moves to REFCLK. -/
theorem pllLockLoss_moves {p : Nat} (real : p < 4) (locks : p ∉ s.ck.stopped) (many : 3 ≤ (s.recentLosses p).length) (other : p ≠ 2)
    (phase : s.phase ≠ phSave) (bosc : s.rd F.CK_STS_STATE = 2) (unmoved : s.ck.plls = []) (served : s.flag F.CK_STS_REFOK = true) :
    ∃ t, exec (.pllLockLoss p) s = .next t ∧ FMap.get [] t.ck.losses p = [] ∧ t.ck.plls = [(p, 1)] ∧ Leaves s t [(F.CK_STS_TRIPS, 0)] := by
  have leaves := leaves_lossKept s p
  have losses : FMap.get [] (s.begin.lossKept p).ck.losses p = [] := (lossKept_losses s.begin p).trans (if_neg (Nat.not_lt.mpr many))
  obtain ⟨plls, state, phase', served'⟩ := lossKept_reads s.begin p
  have few : ¬ (s.recentLosses p).length < 3 := Nat.not_lt.mpr many
  have whole : exec (.pllLockLoss p) s = .next ((s.begin.lossKept p).pllOnRef p).clockFail := by
    change execPllLockLoss p s = _
    unfold execPllLockLoss
    extract_lets a l _ t base cur nxt
    have same : t = s.begin.lossKept p := rfl
    rw [← same] at plls state served' ⊢
    clear_value t
    have base0 : base = 0 := if_pos (state.trans bosc)
    have cur0 : cur = 0 := by simp only [cur, base0, plls, State.begin_ck, unmoved]; rfl
    have nxt1 : nxt = 1 := if_pos ⟨cur0, served'.trans served⟩
    have few' : ¬ l.length < 3 := few
    rw [if_neg (pll_reports runs real locks), if_neg few', cur0, nxt1, ← pllTo_ref t other]
    rfl
  refine ⟨_, whole, ?_⟩
  rw [clockFail_of_phase (by exact phase' ▸ phase)]
  refine ⟨losses, ?_, leaves.setCk _⟩
  change FMap.put (s.begin.lossKept p).ck.plls p 1 = _
  rw [plls, State.begin_ck, unmoved]
  rfl

theorem exec_lfoMonitorTrip_runs : exec .lfoMonitorTrip s = .next (s.begin.lfoLost.forEach s.begin.lfoLost.onLfo State.pllStop).clockFail := by
  have runs' : s.begin.clocksRun = true := runs
  exact if_neg (by simp [runs'])

/-- R298: while the tree runs from BOSC with no PLL moved, the loss of the LFO stops nothing. -/
theorem lfoMonitorTrip_bosc (bosc : s.rd F.CK_STS_STATE = 2) (unmoved : s.ck.plls = []) (phase : s.phase ≠ phSave) :
    ∃ t, exec .lfoMonitorTrip s = .next t ∧ t.ck.lfoOut = true ∧ t.ck.stopped = s.ck.stopped ∧ Leaves s t [(F.CK_STS_TRIPS, 0)] := by
  have ck := lfoLost_ck s.begin
  obtain ⟨state, phase'⟩ := lfoLost_reads s.begin
  have leaves := leaves_lfoLost s
  refine ⟨_, exec_lfoMonitorTrip_runs runs, ?_⟩
  generalize s.begin.lfoLost = a at *
  have none_ : a.onLfo = [] := by
    have plls : a.ck.plls = [] := by rw [ck]; exact unmoved
    have bosc' : a.rd F.CK_STS_STATE = 2 := state.trans bosc
    rw [State.onLfo, bosc', plls]
    rfl
  rw [none_]
  change a.clockFail.ck.lfoOut = true ∧ a.clockFail.ck.stopped = s.ck.stopped ∧ Leaves s a.clockFail _
  rw [clockFail_of_phase (by rw [phase']; exact phase), ck]
  exact ⟨rfl, rfl, leaves⟩

/-- R298: with the tree on the LFO its loss stops every PLL. -/
theorem lfoMonitorTrip_lfo (lfo : s.rd F.CK_STS_STATE = 4) (phase : s.phase ≠ phSave) :
    ∃ t, exec .lfoMonitorTrip s = .next t ∧ t.ck.lfoOut = true ∧ (∀ p, p < 4 → p ∈ t.ck.stopped) ∧ t.mem = s.mem := by
  have ck := lfoLost_ck s.begin
  obtain ⟨state, phase'⟩ := lfoLost_reads s.begin
  have mem : s.begin.lfoLost.mem = s.mem := State.event_mem _ _ _
  refine ⟨_, exec_lfoMonitorTrip_runs runs, ?_⟩
  generalize s.begin.lfoLost = a at *
  have all_ : a.onLfo = [0, 1, 2, 3] := by
    have lfo' : a.rd F.CK_STS_STATE = 4 := state.trans lfo
    rw [State.onLfo, lfo']
    rfl
  rw [all_]
  obtain ⟨stopped, _, phase'', lfoOut, mem'⟩ := pllsStop_reads [0, 1, 2, 3] a
  rw [clockFail_of_phase (by rw [phase'', phase']; exact phase), lfoOut, ck, mem', mem]
  exact ⟨rfl, fun p small => stopped p (by interval_cases p <;> decide), rfl⟩

/-- R299: the loss of AOSC is kept and counted. -/
theorem aoscMonitorTrip_kept :
    ∃ t, exec .aoscMonitorTrip s = .next t ∧ t.ck.aoscOut = true ∧ Leaves s t [(F.CK_STS_TRIPS, 0)] := by
  have runs' : s.begin.clocksRun = true := runs
  refine ⟨_, if_neg (by simp [runs']), ?_, leaves_trip ((leaves_begin s _).setCk _) _ _⟩
  rw [trip_ck]

end

/-- Settles O32. -/
theorem clockFaults : Obligations.ClockFaults := by
  unfold Obligations.ClockFaults
  intro s runs
  refine ⟨fun test => exec_boscMonitorTrip_bosc runs test, fun test served => ?refclk, ?back, exec_boscReturn_serving runs, fun start => ?start,
    fun lfo => exec_boscStartCheckPass_start runs lfo, fun p real locks => ?pll, lfoMonitorTrip_bosc runs, lfoMonitorTrip_lfo runs,
    aoscMonitorTrip_kept runs⟩
  case refclk => exact ⟨exec_refclkMonitorTrip_bosc runs test served, exec_refclkMonitorTrip_fallback runs test served⟩
  case back =>
    intro phase serving
    have whole := exec_refclkReturn_serving runs phase serving
    exact ⟨fun lfo => whole.trans (by rw [if_pos lfo]), fun other => whole.trans (by rw [if_neg other])⟩
  case start => exact ⟨clockCheckRetry_fails runs start, clockCheckRetry_counts runs start, clockCheckRetry_falls_back runs start⟩
  case pll => exact ⟨pllLockLoss_counts runs real locks, pllLockLoss_moves runs real locks⟩

end Sys2Proof.Machine
end

section
/-! PROOFS. Setting and reading the time, trims, the servo's inputs, PPS and CLKMON_OUT (O33). -/
namespace Sys2Proof.Machine

/-! ### Steps of the time counter and the loss of the lock -/

/-- R305: a step takes the counter to the time given. -/
theorem stepTime_ns (s : State) (new : Nat) : (s.stepTime ((new : Int) - s.ck.ns)).ck.ns = new := by
  have landed : ((s.ck.ns : Int) + ((new : Int) - s.ck.ns)).toNat = new := by omega
  unfold State.stepTime
  dsimp only
  split
  · rw [State.event_ck]
    exact landed
  · exact landed

theorem setTsrc_ck (s : State) (v : Nat) : (s.setTsrc v).ck = s.ck := rfl

theorem setUtc_ns {s : State} (utc : Nat) (unlocked : s.ptpLocked = false) :
    (s.setUtc utc).ck.ns = utc + s.rd F.CK_PTP_UTCOFF * 1000000000 := by
  unfold State.setUtc
  rw [if_neg (ne_true_of_eq_false unlocked)]
  extract_lets new a b
  have stepped : a.ck.ns = new := stepTime_ns s new
  have same : b.ck.ns = new := by
    simp only [b]
    split
    · exact stepped
    · exact stepped
  rw [State.setUnc, updReady_ck]
  exact same

theorem lockLost_ck (s : State) (cause sst : Nat) : (s.lockLost cause sst).ck = s.ck := by
  unfold State.lockLost
  dsimp only
  split
  · rw [updReady_ck, State.event_ck]
    rfl
  · rfl

theorem alarm_regs (s : State) : s.alarm.regs = ((s.wr F.CK_ALCTL_FIRED 1).wr F.CK_ALCTL_ARM 0).regs :=
  (msix0_regs _).trans (State.event_regs _ _ _)

/-- R303: what an alarm that fires shows. -/
theorem alarm_shows (s : State) : s.alarm.flag F.CK_ALCTL_FIRED = true ∧ s.alarm.flag F.CK_ALCTL_ARM = false ∧
    Leaves s s.alarm [(F.CK_ALCTL_FIRED, 0), (F.CK_ALCTL_ARM, 0)] := by
  have regs := alarm_regs s
  refine ⟨flag_of_rd ((rdi_eq_of_regs regs _ _).trans ((State.wri_rdi_ne _ _ (by decide)).trans (State.wr_rd_self ..))),
    flag_of_rd ((rdi_eq_of_regs regs _ _).trans (State.wr_rd_self ..)), ?_⟩
  exact (still_alarm s).leaves_writes ((((Writes.refl _ s).wr F.CK_ALCTL_FIRED 1 (by simp)).wr F.CK_ALCTL_ARM 0 (by simp)).regs regs)

section
variable {s : State} (runs : s.clocksRun = true)
include runs

theorem clocks_run : ¬ (!s.begin.clocksRun) = true := by
  have runs' : s.begin.clocksRun = true := runs
  simp [runs']

theorem ckSetWrite_sets (utc : Nat) (unlocked : s.ptpLocked = false) :
    ∃ t, exec (.ckSetWrite utc) s = .next t ∧ t.ck.ns = utc + s.rd F.CK_PTP_UTCOFF * 1000000000 ∧ t.mem = s.mem :=
  ⟨s.begin.setUtc utc, if_pos runs, setUtc_ns utc unlocked, (still_setUtc s.begin utc).2.1⟩

theorem exec_ckSetWrite_locked (utc : Nat) (locked : s.ptpLocked = true) : exec (.ckSetWrite utc) s = .next (s.begin.event 0xB00B [utc]) :=
  (if_pos runs).trans (congrArg _ (if_pos locked))

theorem ckTimeRead_latches : ∃ t, exec .ckTimeRead s = .next t ∧ t.out = [.regData [s.ck.ns % 2 ^ 64]] ∧
    t.ck.latch = some (s.ck.frac, s.rd F.CK_UNC_UNC) ∧ Leaves s t [] :=
  ⟨_, if_pos runs, rfl, rfl, ((leaves_begin s []).setCk _).send _⟩

/-- R301: a write of the PTP port drops the transmitter. -/
theorem ckPtpWrite_drops (val : Nat) : ∃ t, exec (.ckPtpWrite val) s = .next t ∧ t.ck.master = none ∧ t.mem = s.mem := by
  let a : State := ((s.begin.wr F.CK_PTP_DOMAIN (natField val 56 8)).wr F.CK_PTP_TRANS (natField val 54 2)).wr F.CK_PTP_DELAY (natField val 53 1)
  let b : State := { a with ck := { a.ck with master := none, good := 0, bad := 0, syncAt := none } }
  exact ⟨(b.lockLost 2 0).wr F.CK_PTP_PSTATE (bit01 (b.flag F.CK_CTL_PTPEN)), if_neg (clocks_run runs), congrArg Clock.master (lockLost_ck b 2 0),
    (still_lockLost b 2 0).2.1⟩

theorem ckCmonWrite_sets (val : Nat) : ∃ t, exec (.ckCmonWrite val) s = .next t ∧ t.rd F.CK_CMON_SEL = natField val 60 4 ∧
    t.rd F.CK_CMON_DIV = natField val 0 16 ∧ Leaves s t [(F.CK_CMON_SEL, 0), (F.CK_CMON_DIV, 0), (F.CK_CMON_ERR, 0)] := by
  refine ⟨_, if_neg (clocks_run runs), ?_, ?_, (((leaves_begin s _).wr _ _ (by simp)).wr _ _ (by simp)).wr _ _ (by simp)⟩
  · exact (State.wri_rdi_ne _ _ (by decide)).trans ((State.wri_rdi_ne _ _ (by decide)).trans ((State.wr_rd_self ..).trans (Nat.mod_mod ..)))
  · exact (State.wri_rdi_ne _ _ (by decide)).trans ((State.wr_rd_self ..).trans (Nat.mod_mod ..))

theorem exec_ppsPulse_on (on : s.flag F.CK_PPS_EN = true) (held : s.flag F.CK_STS_HOLDOVER = false) (known : s.rd F.CK_UNC_UNC ≠ 2 ^ 48 - 1)
    (first : s.ck.ppsAt = none) :
    exec .ppsPulse s = .next (State.bump { s.begin with ck := { s.ck with ppsAt := some s.ck.mono } } F.CK_PPS_COUNT) := by
  have runs' : s.begin.clocksRun = true := runs
  have on' : s.begin.flag F.CK_PPS_EN = true := on
  have held' : s.begin.flag F.CK_STS_HOLDOVER = false := held
  exact if_pos (by simp [runs', on', held', first]; exact known)

theorem alarm_fires (ticks : Nat) (armed : s.flag F.CK_ALCTL_ARM = true) (phase : s.phase = phService) (awake : s.rd F.PW_STATE_STBY = 0)
    (due : s.rd F.CK_ALARM_AT ≤ s.ck.ns) : ∃ t, exec (.alarmFired ticks) s = .next t ∧ t.flag F.CK_ALCTL_FIRED = true ∧
      t.flag F.CK_ALCTL_ARM = false ∧ Leaves s t [(F.CK_ALCTL_FIRED, 0), (F.CK_ALCTL_ARM, 0)] := by
  have phase' : s.begin.phase = phService := phase
  have armed' : s.begin.flag F.CK_ALCTL_ARM = true := armed
  obtain ⟨fired, disarmed, leaves⟩ := alarm_shows s.begin
  refine ⟨s.begin.alarm, ?_, fired, disarmed, Leaves.trans (leaves_begin s _) leaves⟩
  exact (if_neg (by rw [phase']; decide)).trans ((if_neg (by rw [phase', armed']; decide)).trans
    ((if_neg (not_not.mpr awake)).trans (if_pos ⟨runs, due⟩)))

theorem ptpAnnounce_selects (id rank utcOff : Nat) (on : s.flag F.CK_CTL_PTPEN = true) (link : s.pan.ethUp = true) (sp : s.spRuns 5 = true)
    (none_ : s.ck.master = none) : ∃ t, exec (.ptpAnnounce id rank utcOff) s = .next t ∧ t.ck.master = some id ∧ t.ck.masterRank = rank ∧
      t.rd F.CK_PTP_UTCOFF = utcOff % 2 ^ F.CK_PTP_UTCOFF.width ∧ Leaves s t [(F.CK_PTP_PSTATE, 0), (F.CK_PTP_UTCOFF, 0)] := by
  have runs' : s.begin.clocksRun = true := runs
  have on' : s.begin.flag F.CK_CTL_PTPEN = true := on
  have sp' : s.begin.spRuns 5 = true := sp
  have none' : s.begin.ck.master = none := none_
  refine ⟨State.wr { s.begin.wr F.CK_PTP_PSTATE 2 with ck := { s.ck with master := some id, masterRank := rank } } F.CK_PTP_UTCOFF utcOff,
    ?_, rfl, rfl, State.wr_rd_self .., (((leaves_begin s _).wr _ _ (by simp)).setCk _).wr _ _ (by simp)⟩
  change execPtpAnnounce id rank utcOff s = _
  unfold execPtpAnnounce
  refine (if_neg (by simp [runs', on', link, sp'])).trans ((if_pos (by simp [none_])).trans ?_)
  rw [none', if_neg (by simp)]
  rfl

theorem announceTimeout_drops (id : Nat) (some_ : s.ck.master = some id) :
    ∃ t, exec .announceTimeout s = .next t ∧ t.ck.master = none ∧ t.rd F.CK_PTP_PSTATE = 1 ∧ t.mem = s.mem := by
  have runs' : s.begin.clocksRun = true := runs
  let b : State := { s.begin with ck := { s.ck with master := none, good := 0, bad := 0, syncAt := none } }
  refine ⟨(b.lockLost 0 0).wr F.CK_PTP_PSTATE 1, if_neg (by simp [some_, runs']), congrArg Clock.master (lockLost_ck b 0 0),
    State.wr_rd_self .., (still_lockLost b 0 0).2.1⟩

theorem exec_ptmRequest_on (freq : Int) (on : s.flag F.CK_CTL_PTMEN = true) (sp : s.spRuns 5 = true) (unlocked : s.ptpLocked = false)
    (up : s.headUp (s.rd F.CK_CTL_PTMHEAD) = true) :
    exec (.ptmRequest true freq) s = .next ((s.begin.wr F.CK_SERVO_FREQ (signedIn 30 freq)).setTsrc 3) := by
  have runs' : s.begin.clocksRun = true := runs
  have on' : s.begin.flag F.CK_CTL_PTMEN = true := on
  have sp' : s.begin.spRuns 5 = true := sp
  have unlocked' : s.begin.ptpLocked = false := unlocked
  exact (if_neg (by simp [runs', on', sp', unlocked'])).trans (if_pos up)

end

/-! ### Trims -/

theorem writes_norProgram (s : State) : Writes [(F.FW_NOR_STATE, 0)] s s.norProgram := by
  unfold State.norProgram
  have shown (fw : Firmware) (v : Nat) : Writes [(F.FW_NOR_STATE, 0)] s (State.wr { s with fw := fw } F.FW_NOR_STATE v) :=
    ((Writes.refl _ s).regs (u := { s with fw := fw }) rfl).wr _ _ (by simp)
  exact .ite _ (shown s.fw 1) (.ite _ (shown _ 5) (.refl _ s))

theorem writes_saveTrims (s : State) : Writes [(F.FW_NOR_STATE, 0)] s s.saveTrims := by
  unfold State.saveTrims
  extract_lets due t
  have learnt : Writes [(F.FW_NOR_STATE, 0)] s t := (Writes.refl _ s).forEach _ _ fun a k _ => (Writes.refl _ a).regs rfl
  exact .ite _ ((learnt.setCk _).trans (writes_norProgram _)) (.refl _ s)

theorem writes_trimBosc (s : State) (steps : Int) (method : Nat) :
    Writes [(F.CK_TRIM_BOSC, 0), (F.CK_TRIM_SRC, 0), (F.FW_NOR_STATE, 0)] s (s.trimBosc steps method) := by
  unfold State.trimBosc
  extract_lets new a
  have shown : Writes [(F.CK_TRIM_BOSC, 0), (F.CK_TRIM_SRC, 0), (F.FW_NOR_STATE, 0)] s a :=
    (((Writes.refl _ s).wr _ _ (by simp)).wr _ _ (by simp)).event _ _
  exact (shown.setCk _).trans ((writes_saveTrims _).mono (by simp))

/-- R306: the trim of BOSC and its source after a trim. -/
theorem trimBosc_reads (s : State) (steps : Int) {method : Nat} (small : method < 4) :
    (s.trimBosc steps method).rd F.CK_TRIM_BOSC = signedIn 16 (clampInt 20000 (signedOf 16 (s.rd F.CK_TRIM_BOSC) + steps)) ∧
      (s.trimBosc steps method).rd F.CK_TRIM_SRC = method := by
  unfold State.trimBosc
  extract_lets new a
  have source : a.rd F.CK_TRIM_SRC = method :=
    (rdi_eq_of_regs (State.event_regs _ _ _) F.CK_TRIM_SRC 0).trans ((State.wr_rd_self ..).trans (Nat.mod_eq_of_lt small))
  have trim : a.rd F.CK_TRIM_BOSC = signedIn 16 new :=
    (rdi_eq_of_regs (State.event_regs _ _ _) F.CK_TRIM_BOSC 0).trans ((State.wri_rdi_ne _ _ (by decide)).trans
      ((State.wr_rd_self ..).trans (signedIn_mod 16 new)))
  have saved := writes_saveTrims ({ a with ck := { a.ck with trimAt := a.ck.mono } } : State)
  exact ⟨(saved.rd (by decide)).trans trim, (saved.rd (by decide)).trans source⟩

theorem trimAosc_regs (s : State) (period method : Nat) : (s.trimAosc period (some method)).regs = (s.wr F.CK_AOSC_PERIOD period).regs :=
  State.event_regs _ _ _

/-- R306: while it may trim, the MP trims the LFO unless trims are held. -/
theorem lfoTrim_trims {s : State} (trim : Int) (may : s.mayTrim = true) (free : s.rd F.CK_CTL_TRIM = 0) :
    ∃ t, exec (.lfoTrim trim) s = .next t ∧ t.rd F.CK_TRIM_LFO = signedIn 8 trim ∧ Leaves s t [(F.CK_TRIM_LFO, 0), (F.FW_NOR_STATE, 0)] := by
  have may' : s.begin.mayTrim = true := may
  have free' : s.begin.rd F.CK_CTL_TRIM = 0 := free
  have saved := writes_saveTrims (s.begin.trimLfo trim)
  have trimmed : (s.begin.trimLfo trim).rd F.CK_TRIM_LFO = signedIn 8 trim :=
    (rdi_eq_of_regs (State.event_regs _ _ _) F.CK_TRIM_LFO 0).trans ((State.wr_rd_self ..).trans (signedIn_mod 8 trim))
  have leaves : Leaves s (s.begin.trimLfo trim) [(F.CK_TRIM_LFO, 0), (F.FW_NOR_STATE, 0)] := ((leaves_begin s _).wr _ _ (by simp)).event _ _
  refine ⟨(s.begin.trimLfo trim).saveTrims, if_pos (by simp [may', free']), (saved.rd (by decide)).trans trimmed,
    Leaves.trans leaves ((still_saveTrims _).leaves_writes (saved.mono (by simp)))⟩

/-- R307: the compatibility trim of BOSC and AOSC. -/
theorem compatibilityTrim_trims {s : State} {spread : Nat} (change : Int) (period : Nat) (may : s.mayTrim = true)
    (ref : s.flag F.CK_STS_REFOK = true) (compat : s.rd F.CK_CTL_TRIM = 2) (narrow : spread ≤ 500) :
    ∃ t, exec (.compatibilityTrim spread change period) s = .next t ∧
        t.rd F.CK_TRIM_BOSC = signedIn 16 (clampInt 20000 (signedOf 16 (s.rd F.CK_TRIM_BOSC) + change)) ∧ t.flag F.CK_TRIM_SPREAD = false ∧
        t.rd F.CK_TRIM_SRC = 2 ∧ t.rd F.CK_AOSC_PERIOD = period % 2 ^ F.CK_AOSC_PERIOD.width ∧ t.mem = s.mem := by
  have may' : s.begin.mayTrim = true := may
  have ref' : s.begin.flag F.CK_STS_REFOK = true := ref
  have compat' : s.begin.rd F.CK_CTL_TRIM = 2 := compat
  have spread0 : (s.begin.wr F.CK_TRIM_SPREAD 0).rd F.CK_TRIM_SPREAD = 0 := State.wr_rd_self ..
  have bosc0 : (s.begin.wr F.CK_TRIM_SPREAD 0).rd F.CK_TRIM_BOSC = s.rd F.CK_TRIM_BOSC := State.wri_rdi_ne s.begin _ (by decide)
  have mem0 : (s.begin.wr F.CK_TRIM_SPREAD 0).mem = s.mem := rfl
  refine ⟨_, (if_pos (by simp [may', ref', compat'])).trans (if_neg (Nat.not_lt.mpr narrow)), ?_⟩
  generalize s.begin.wr F.CK_TRIM_SPREAD 0 = a at *
  obtain ⟨bosc, source⟩ := trimBosc_reads a change (show 2 < 4 by decide)
  have spread1 : (a.trimBosc change 2).rd F.CK_TRIM_SPREAD = 0 := ((writes_trimBosc a change 2).rd (by decide)).trans spread0
  have mem1 := (still_trimBosc a change 2).2.1.trans mem0
  rw [bosc0] at bosc
  generalize a.trimBosc change 2 = b at *
  have regs := trimAosc_regs b period 2
  have aosc : Writes [(F.CK_AOSC_PERIOD, 0)] b (b.trimAosc period (some 2)) := ((Writes.refl _ b).wr _ _ (by simp)).regs regs
  have length : (b.trimAosc period (some 2)).rd F.CK_AOSC_PERIOD = period % 2 ^ F.CK_AOSC_PERIOD.width :=
    (rdi_eq_of_regs regs _ _).trans (State.wr_rd_self ..)
  have mem2 := (still_trimAosc b period (some 2)).2.1.trans mem1
  generalize b.trimAosc period (some 2) = c at *
  have saved := writes_saveTrims c
  exact ⟨(saved.rd (by decide)).trans ((aosc.rd (by decide)).trans bosc),
    flag_of_rd ((saved.rd (by decide)).trans ((aosc.rd (by decide)).trans spread1)),
    (saved.rd (by decide)).trans ((aosc.rd (by decide)).trans source), (saved.rd (by decide)).trans length, (still_saveTrims c).2.1.trans mem2⟩

/-- Settles O33. -/
theorem timeKeeping : Obligations.TimeKeeping := by
  unfold Obligations.TimeKeeping
  intro s runs
  exact ⟨ckSetWrite_sets runs, exec_ckSetWrite_locked runs, ckTimeRead_latches runs, ckPtpWrite_drops runs, ckCmonWrite_sets runs,
    exec_ppsPulse_on runs, alarm_fires runs, fun spread change period may ref _ compat narrow =>
      compatibilityTrim_trims change period may ref compat narrow, lfoTrim_trims, ptpAnnounce_selects runs, announceTimeout_drops runs,
    exec_ptmRequest_on runs, fun v ready => ⟨answer_mbox ready .., fun utc => answer_mbox ready ..⟩⟩

end Sys2Proof.Machine
end

section
/-! PROOFS. The life of a pack in a bay, and a pack pulled while the controller sleeps (O35). -/
namespace Sys2Proof.Machine

/-- R248: the pin of a bay leaves the phase. -/
theorem packPin_awake (s : State) (bay v : Nat) : (s.packPin bay v).awake = s.awake := by
  have phase : (s.packPin bay v).phase = s.phase := by
    unfold State.packPin
    split
    · exact State.wr_rd_ne s v (by decide)
    · exact State.wr_rd_ne s v (by decide)
  rw [State.awake, phase, State.awake]

theorem awake_of_phase {s : State} (phase : s.phase = phService) : s.awake = true := by
  rw [State.awake, phase]
  rfl

section
variable {s : State} {bay : Nat} (real : bay < 2)
include real

theorem exec_packPresentDebounce_empty (ticks : Nat) (phase : s.phase = phService)
    (empty : ((s.begin.packPin bay 0).wakeDeep ticks).bayState bay = 0) : exec (.packPresentDebounce bay ticks) s =
      .next (((((s.begin.packPin bay 0).wakeDeep ticks).wri F.EN_STS_STATE bay 1).chargerOff bay).sums) := by
  have awake : ¬ (!(s.begin.packPin bay 0).awake) = true := by
    rw [packPin_awake, show s.begin.awake = true from awake_of_phase phase]
    decide
  exact (if_neg (Nat.not_le.mpr real)).trans ((if_neg awake).trans (congrArg _ (if_pos empty)))

section
variable (sp : s.spRuns 4 = true)
include sp

/-- R248: a pack in identification that shows its data: one that matches no profile is UNPROFILED, another is charged or precharged. -/
theorem exec_packIdentified_present (id : PackId) (volt : Nat) (phase : s.phase = phService) (state : s.bayState bay = 1) :
    exec (.packIdentified bay id volt) s = .next (match packProfile id with
      | none => s.begin.unprofiled bay id.names
      | some p => s.begin.identified bay p id volt) := by
  have sp' : s.begin.spRuns 4 = true := sp
  have awake : s.begin.awake = true := awake_of_phase phase
  have state' : s.begin.bayState bay = 1 := state
  refine (if_neg (by rw [sp', awake, state']; simp; omega)).trans ?_
  cases packProfile id <;> rfl

theorem exec_identTimeout_silent (state : s.bayState bay = 1) : exec (.identTimeout bay) s = .next (s.begin.unprofiled bay []) :=
  if_pos ⟨real, state, sp⟩

theorem exec_prechargeComplete_charging (volt : Nat) (state : s.bayState bay = 3) : exec (.prechargeComplete bay volt) s =
    .next ((s.begin.wri F.EN_MEAS_VOLT bay (s.calVolt bay volt)).firstEstimate bay (s.calVolt bay volt)) := if_pos ⟨real, state, sp⟩

theorem exec_prechargeTimeout_charging (state : s.bayState bay = 3) : exec (.prechargeTimeout bay) s = .next (s.begin.bayFault bay 1) :=
  if_pos ⟨real, state, sp⟩

theorem exec_chargeComplete_charging (state : s.bayState bay = 4) :
    exec (.chargeComplete bay) s = .next ((s.begin.wri F.EN_STS_FULL bay 1).wri F.EN_STS_STATE bay 5).fullCheck := if_pos ⟨real, state, sp⟩

theorem exec_floatDrop_floating (state : s.bayState bay = 5) :
    exec (.floatDrop bay) s = .next ((s.begin.wri F.EN_STS_FULL bay 0).toCharge bay) := if_pos ⟨real, state, sp⟩

theorem exec_inhibitClear_inhibited (state : s.bayState bay = 8) : exec (.inhibitClear bay) s = .next (s.begin.toCharge bay) :=
  if_pos ⟨real, state, sp⟩

end
end

/-! ### A removal while the controller sleeps -/

/-- R260: what is left of a bay whose pack is gone: its learning records. -/
def Bay.emptied (x : Bay) : Bay := { recs := x.recs, pend := x.pend, intent := x.intent, learnAt := x.learnAt }

theorem exec_packRemoved_asleep {s : State} (ticks : Nat) (asleep : s.phase = phDormant ∨ s.phase = phOff) :
    exec (.packRemoved 0 ticks) s = .next { s.begin.wr F.GEN_PINS_PACKA 1 with bayA := s.bayA.emptied } := by
  have down : s.begin.awake = false := by
    obtain phase | phase := asleep
    · rw [State.awake, show s.begin.phase = phDormant from phase]
      rfl
    · rw [State.awake, show s.begin.phase = phOff from phase]
      rfl
  have down' : (!(s.begin.packPin 0 1).awake) = true := by rw [packPin_awake, down]; rfl
  change execPackRemoved 0 ticks s = _
  unfold execPackRemoved
  dsimp only
  rw [if_neg (show ¬ 2 ≤ 0 by decide), if_pos down']
  rfl

/-- R260, R263: a pack pulled in DORMANT or OFF empties its bay but for its learning records. -/
theorem packRemoved_empties (s : State) (ticks : Nat) (asleep : s.phase = phDormant ∨ s.phase = phOff) :
    ∃ t, exec (.packRemoved 0 ticks) s = .next t ∧
      t.bayA = { recs := s.bayA.recs, pend := s.bayA.pend, intent := s.bayA.intent, learnAt := s.bayA.learnAt } ∧ t.bayB = s.bayB ∧
      t.rd F.GEN_PINS_PACKA = 1 ∧ t.out = [] ∧ Leaves s t [(F.GEN_PINS_PACKA, 0)] := by
  have leaves : Leaves s (s.begin.wr F.GEN_PINS_PACKA 1) [(F.GEN_PINS_PACKA, 0)] := (leaves_begin s _).wr _ _ (by simp)
  exact ⟨_, exec_packRemoved_asleep ticks asleep, rfl, rfl, State.wr_rd_self s.begin F.GEN_PINS_PACKA 1, rfl,
    leaves.still ⟨rfl, rfl, rfl, rfl, rfl, rfl⟩ rfl⟩

/-- Settles O35. -/
theorem packLife : Obligations.PackLife := by
  unfold Obligations.PackLife
  refine ⟨fun s bay real phase sp => ⟨fun ticks _ => exec_packPresentDebounce_empty real ticks phase,
    fun id volt => exec_packIdentified_present real sp id volt phase, exec_identTimeout_silent real sp,
    exec_prechargeComplete_charging real sp, exec_prechargeTimeout_charging real sp, exec_chargeComplete_charging real sp,
    exec_floatDrop_floating real sp, exec_inhibitClear_inhibited real sp⟩, packRemoved_empties⟩

end Sys2Proof.Machine
end

section
/-! PROOFS. Pauses, references, the estimator and the pack monitor (O36). -/
namespace Sys2Proof.Machine

theorem setBay_bay (s : State) (b : Nat) (x : Bay) : (s.setBay b x).bay b = x := by
  unfold State.setBay State.bay
  by_cases first : b = 0
  · rw [if_pos first, if_pos first]
  · rw [if_neg first, if_neg first]

theorem setBay_regs (s : State) (b : Nat) (x : Bay) : (s.setBay b x).regs = s.regs := by
  unfold State.setBay
  split <;> rfl

theorem setBay_ev (s : State) (b : Nat) (x : Bay) : (s.setBay b x).ev = s.ev := by
  unfold State.setBay
  split <;> rfl

theorem event_bay (s : State) (c : Nat) (l : List Nat) (b : Nat) : (s.event c l).bay b = s.bay b := by
  simp only [State.bay, State.event_bayA, State.event_bayB]

theorem leaves_setBay {s t : State} {fs : List (Field × Nat)} (leaves : Leaves s t fs) (b : Nat) (x : Bay) : Leaves s (t.setBay b x) fs :=
  leaves.still (still_setBay t b x) (setBay_regs t b x)

section
variable {s : State} {bay : Nat} (real : bay < 2) (sp : s.spRuns 4 = true)
include real sp

theorem exec_pauseAttempt_may (may : s.mayPause bay = true) :
    exec (.pauseAttempt bay) s = .next ((s.begin.wri F.EN_STS_STATE bay 6).chargerOff bay) := if_pos ⟨real, sp, may⟩

/-- R250: the end of a pause takes a reference and the bay floats again. -/
theorem exec_pauseComplete_pause (volt : Nat) (state : s.bayState bay = 6) : exec (.pauseComplete bay volt) s =
    .next (((s.begin.reference bay (s.calVolt bay volt) 0).wri F.EN_STS_STATE bay 5).charger bay false) := by
  have sp' : s.begin.spRuns 4 = true := sp
  exact (if_neg (by rw [sp']; simp; omega)).trans (if_pos state)

theorem exec_pauseAbort_pause (state : s.bayState bay = 6) : exec (.pauseAbort bay) s = .next (s.begin.endTestOrPause bay) :=
  if_pos ⟨real, sp, .inl state⟩

/-- R257: the end of a test's discharge starts the second rest. -/
theorem testDischargeEnd_rests (dv di : Nat) (state : s.bayState bay = 7) (step : s.rdi F.EN_STS_TSTEP bay = 3) :
    ∃ t, exec (.testDischargeEnd bay dv di) s = .next t ∧ t.rdi F.EN_STS_TSTEP bay = 4 ∧ (t.bay bay).xfer = false ∧ (t.bay bay).iset = 0 ∧
        Leaves s t [(F.EN_STS_TSTEP, bay)] := by
  refine ⟨_, if_pos ⟨real, sp, state, step⟩, State.wri_rdi_self .., ?_, ?_, (leaves_setBay (leaves_begin s _) _ _).wri _ _ _ (by simp)⟩
  · exact congrArg Bay.xfer (setBay_bay s.begin bay _)
  · exact congrArg Bay.iset (setBay_bay s.begin bay _)

/-- R250: a first reference point grown old warns. -/
theorem referenceAge_warns (first : (s.bay bay).first = true) : ∃ t, exec (.referenceAge7Days bay) s = .next t ∧
    (t.bay bay).warnAt = s.ck.mono ∧ (FMap.get {} t.ev.sums 0x9005).count = (FMap.get {} s.ev.sums 0x9005).count + 1 ∧ Leaves s t [] := by
  refine ⟨_, if_pos ⟨real, sp, first⟩, ?_, ?_, (leaves_setBay (leaves_begin s []) _ _).event _ _⟩
  · rw [event_bay, setBay_bay]
    rfl
  · exact (event_count _ _ _).trans (by rw [setBay_ev]; rfl)

omit real sp in
/-- R253: the 1 ms update of both bays. -/
theorem exec_estimatorUpdate_awake (a b : BaySense) (phase : s.phase = phService)
    (runs : ((s.begin.bayUpdate 0 a).bayUpdate 1 b).spRuns 4 = true) : exec (.estimatorUpdate a b) s =
      .next (((((s.begin.bayUpdate 0 a).bayUpdate 1 b).sums.reflectEvent 0).reflectEvent 1).alarmSleep) := by
  have awake : ¬ (!s.begin.awake) = true := by
    have phase' : s.begin.phase = phService := phase
    rw [State.awake, phase']
    decide
  exact (if_neg awake).trans (if_neg (by rw [runs]; decide))

/-- R252: a poll that answers. -/
theorem exec_sbsPoll_answers (d : SbsData) (state : s.bayState bay = 4)
    (works : (s.begin.busFree (5 + bay)).twb.faulted (5 + bay) = false) :
      let t := ((s.begin.busFree (5 + bay)).watch bay 0 false 0).1.wri F.EN_STS_SBSLOST bay 0
      let t := t.setBay bay { t.bay bay with sbsT := some d.temp, sbsV := some d.volt, sbsI := some d.curr }
      let t := match d.cycles with | some c => t.wri F.EN_ID_CYCLES bay c | none => t
      exec (.sbsPoll bay (some d)) s = .next ((t.putTemp bay none).sbsAlarms bay d.status) := by
  have sp' : s.begin.spRuns 4 = true := sp
  have state' : s.begin.bayState bay = 4 := state
  change execSbsPoll bay (some d) s = _
  unfold execSbsPoll
  rw [if_neg (by rw [sp', state']; simp; omega)]
  dsimp only
  simp only [works]
  rfl

end

/-- Settles O36. -/
theorem packMeasures : Obligations.PackMeasures := by
  unfold Obligations.PackMeasures
  intro s bay real sp
  exact ⟨exec_pauseAttempt_may real sp, exec_pauseComplete_pause real sp, exec_pauseAbort_pause real sp, testDischargeEnd_rests real sp,
    referenceAge_warns real sp, exec_estimatorUpdate_awake, exec_sbsPoll_answers real sp⟩

end Sys2Proof.Machine
end

section
/-! PROOFS. The pack operations and the pack profile (O37). -/
namespace Sys2Proof.Machine

/-- The capture of an admin operation leaves the registers. -/
theorem adminCapture_rdi (s : State) (h tag share : Nat) (f : Field) (i : Nat) : (adminCapture s h tag share).1.rdi f i = s.rdi f i := rfl

section
variable {s : State} {h tag bay : Nat} (real : bay < 2) (ready : AdminReady s h) (mp : s.mpRuns = true) (phase : s.phase = phService)
  (present : s.bayState bay ≠ 0)
include real ready mp phase present

/-- R265: a pack operation of a bay with a pack, in SERVICE, does its work. -/
theorem packOp_present (c : Instr) (f : State → Ticket → State) :
    s.packOp c h tag bay f = f (adminCapture s h tag 0).1 (adminCapture s h tag 0).2 := by
  have phase' : ¬ (adminCapture s h tag 0).1.phase ≠ phService := not_not.mpr phase
  have present' : ¬ (adminCapture s h tag 0).1.bayState (bay % 2) = 0 := by
    rw [Nat.mod_eq_of_lt real]
    exact present
  unfold State.packOp
  rw [adminMp_ready ready mp, if_neg phase', if_neg present']

/-- R257: PACK_TEST within its limits of a floating bay waits for its turn. -/
theorem exec_packTest_floating (depth power : Nat) (deep : depth = 0 ∨ 20 ≤ depth ∧ depth ≤ 60)
    (strong : power = 0 ∨ 50 ≤ power ∧ power ≤ (adminCapture s h tag 0).1.profN bay 2) (state : s.bayState bay = 5)
    (seated : s.removing = false)
    (quiet : ([0, 1].any fun i => s.rdi F.EN_STS_TSTEP i != 0 || [6, 7].contains (s.bayState i) || s.flagi F.EN_STS_RELEASED i) = false) :
    let c := adminCapture s h tag 0
    exec (.packTest h tag bay depth power) s =
        (let d := if depth = 0 then max 20 (min 60 (s.rd F.EN_CTL_TDEPTH)) else depth
         let w := if power = 0 then s.rd F.EN_CTL_TPWR else power
         let t := c.1.setBay bay { c.1.bay bay with tpwr := w, plan := d * c.1.eFull bay / 100000000 }
         .next (((t.wri F.EN_STS_TSTEP bay 1).setWaits.settleMr).finish c.2 0 0 0)) := by
  have state' : (adminCapture s h tag 0).1.bayState bay = 5 := state
  have free : ¬ ((adminCapture s h tag 0).1.removing || [0, 1].any fun i => (adminCapture s h tag 0).1.rdi F.EN_STS_TSTEP i != 0 ||
      [6, 7].contains ((adminCapture s h tag 0).1.bayState i) || (adminCapture s h tag 0).1.flagi F.EN_STS_RELEASED i) = true :=
    ne_true_of_eq_false ((congrArg₂ or seated quiet).trans rfl)
  have whole := packOp_present (tag := tag) real ready mp phase present (.packTest h tag bay depth power)
  refine (congrArg Host.Outcome.next (whole _)).trans ?_
  simp only [Nat.mod_eq_of_lt real]
  exact congrArg _ ((if_neg (by omega)).trans ((if_neg (by omega)).trans (if_neg free)))

/-- R250: PACK_PAUSE requests a pause, or ends one. -/
theorem exec_packPause_present (cancel : Bool) : let c := adminCapture s h tag 0
    exec (.packPause h tag bay cancel) s =
      .next ((if cancel then c.1.endTestOrPause bay else c.1.wri F.EN_STS_PAUSEREQ bay 1).finish c.2 0 0 0) := by
  have whole := packOp_present (tag := tag) real ready mp phase present (.packPause h tag bay cancel)
  refine (congrArg Host.Outcome.next (whole _)).trans ?_
  simp only [Nat.mod_eq_of_lt real]

theorem exec_packStatus_idle (idle : s.rdi F.EN_STS_TSTEP bay = 0) : let c := adminCapture s h tag 0
    exec (.packStatus h tag bay) s = .next (c.1.finish c.2 0 0 (s.rdi F.EN_STS_LOSTLRN bay * 2 ^ 10 + s.rdi F.EN_STS_SAFE bay * 2 ^ 9 +
      s.rdi F.EN_STS_RELEASED bay * 2 ^ 8 + s.bayState bay)) := by
  have whole := packOp_present (tag := tag) real ready mp phase present (.packStatus h tag bay)
  refine (congrArg Host.Outcome.next (whole _)).trans ?_
  simp only [Nat.mod_eq_of_lt real, adminCapture_rdi, idle, if_true, Nat.zero_mul, Nat.zero_add, Nat.add_zero]
  rfl

/-- R257: PACK_STATUS of a bay without a test posts its state. -/
theorem packStatus_posts (idle : s.rdi F.EN_STS_TSTEP bay = 0) : ∃ t, exec (.packStatus h tag bay) s = .next t ∧
    Posts s t (s.adminQueue h) tag 0 0 false 0 0 (s.rdi F.EN_STS_LOSTLRN bay * 2 ^ 10 + s.rdi F.EN_STS_SAFE bay * 2 ^ 9 +
      s.rdi F.EN_STS_RELEASED bay * 2 ^ 8 + s.bayState bay) ∧ Leaves s t [] :=
  ⟨_, exec_packStatus_idle real ready mp phase present idle, admin_posts ready tag 0 0 0 _ rfl rfl rfl,
    (leaves_adminCapture s h tag 0 []).finish _ _ _ _⟩

/-- R268: PACK_RELEASE of a bay whose neighbour is not released. -/
theorem exec_packRelease_alone (alone : s.flagi F.EN_STS_RELEASED (1 - bay) = false) : let c := adminCapture s h tag 0
    exec (.packRelease h tag bay false) s =
      .next ((((c.1.endTestOrPause bay).wri F.EN_STS_RELEASED bay 1).chargerOff bay).sums.settleMr.finish c.2 0 0 0) := by
  have alone' : ¬ (adminCapture s h tag 0).1.flagi F.EN_STS_RELEASED (1 - bay) = true := ne_true_of_eq_false alone
  have whole := packOp_present (tag := tag) real ready mp phase present (.packRelease h tag bay false)
  refine (congrArg Host.Outcome.next (whole _)).trans ?_
  simp only [Nat.mod_eq_of_lt real]
  exact congrArg _ ((if_neg Bool.false_ne_true).trans (if_neg alone'))

/-- R268: the release of a bay in precharge undone. -/
theorem exec_packRelease_undone (released : s.flagi F.EN_STS_RELEASED bay = true) (state : s.bayState bay = 3) :
    let c := adminCapture s h tag 0
    exec (.packRelease h tag bay true) s = .next ((c.1.wri F.EN_STS_RELEASED bay 0).sums.settleMr.finish c.2 0 0 0) := by
  have released' : ¬ (adminCapture s h tag 0).1.flagi F.EN_STS_RELEASED bay = false := by
    rw [show (adminCapture s h tag 0).1.flagi F.EN_STS_RELEASED bay = true from released]
    decide
  have state' : ((adminCapture s h tag 0).1.wri F.EN_STS_RELEASED bay 0).bayState bay = 3 :=
    (State.wri_rdi_ne _ _ (by simp only [Field.key, F.EN_STS_RELEASED, F.EN_STS_STATE]; omega)).trans state
  have whole := packOp_present (tag := tag) real ready mp phase present (.packRelease h tag bay true)
  refine (congrArg Host.Outcome.next (whole _)).trans ?_
  simp only [Nat.mod_eq_of_lt real]
  refine congrArg _ ((if_pos trivial).trans ((if_neg released').trans ?_))
  rw [if_neg (by omega)]

end

/-- R431: Get Pack Profile of a bay whose pack is identified. -/
theorem exec_getPackProfile_bay {s : State} {v : Via} {sel : Nat} (ready : MailboxReady s v) (real : sel < 2) (known : 2 < s.bayState sel) :
    let p := s.rdi F.EN_STS_PROFILE sel
    exec (.getPackProfile v sel) s = .next (s.begin.reply v .success (Config.profileNames p ++
      (List.range 10).map (fun i => (Config.profile p i % (2 ^ 32 : Int)).toNat) ++
      (List.range 1056).map fun i => (Config.profileTable p).getD i 0)) := by
  have known' : ¬ s.begin.bayState sel ≤ 2 := Nat.not_le.mpr known
  refine (answer_mbox ready ..).trans ?_
  simp only [if_pos real, if_neg known']
  rfl

/-- Settles O37. -/
theorem packOperations : Obligations.PackOperations := by
  unfold Obligations.PackOperations
  refine ⟨fun s h tag bay real ready mp phase present => ⟨exec_packTest_floating real ready mp phase present,
    exec_packPause_present real ready mp phase present false, exec_packPause_present real ready mp phase present true,
    packStatus_posts real ready mp phase present, exec_packRelease_alone real ready mp phase present,
    exec_packRelease_undone real ready mp phase present⟩, fun s v sel => exec_getPackProfile_bay⟩

end Sys2Proof.Machine
end

section
/-! PROOFS. Self-tests start, begin, report, end and abort (O38). -/
namespace Sys2Proof.Machine

/-- R411: the number of a test is free again. -/
def State.trialFreed (s : State) (n : Nat) : State := { s with trials := FMap.del s.trials n }

theorem trialFreed_find (s : State) (n : Nat) : FMap.find (s.trialFreed n).trials n = none :=
  (FMap.find_del s.trials n n).trans (if_pos rfl)

theorem trialFreed_queue (s : State) (n q : Nat) : (s.trialFreed n).queue q = s.queue q := rfl

theorem trialFreed_ck (s : State) (n : Nat) : (s.trialFreed n).ck = s.ck := rfl

theorem trialFreed_out (s : State) (n : Nat) : (s.trialFreed n).out = s.out := rfl

theorem leaves_trialFreed {s t : State} {fs : List (Field × Nat)} (leaves : Leaves s t fs) (n : Nat) : Leaves s (t.trialFreed n) fs :=
  leaves.still ⟨rfl, rfl, rfl, rfl, rfl, rfl⟩ rfl

section
variable {s : State} {h : Nat} (ready : AdminReady s h) (mp : s.mpRuns = true)
include ready mp

/-- R411: TEST_START of a testable unit takes the lowest free number. -/
theorem exec_testStart_free {cls unit n : Nat} (tag : Nat) (phase : s.phase = phService) (known : testUnit cls unit = true)
    (seated : s.removing = false) (fresh : (s.trials.any fun e => e.2.cls == cls && e.2.unit == unit) = false)
    (testable : s.testable cls unit = true) (free : ((List.range 4).find? fun n => !FMap.has s.trials n) = some n) :
    let c := adminCapture s h tag 0
    exec (.testStart h tag cls unit false) s = .next ((State.settleMr (State.setWaits { c.1 with
      trials := FMap.put s.trials n { cls := cls, unit := unit, disrupt := false, st := 1, prog := 0, faults := 0 } })).finish c.2 0 0 n) := by
  have phase' : ¬ (adminCapture s h tag 0).1.phase ≠ phService := not_not.mpr phase
  have fresh' : ¬ ((adminCapture s h tag 0).1.removing || (adminCapture s h tag 0).1.trials.any fun e => e.2.cls == cls && e.2.unit == unit) = true :=
    ne_true_of_eq_false ((congrArg₂ or seated fresh).trans rfl)
  have testable' : ¬ (!(adminCapture s h tag 0).1.testable cls unit) = true := by
    rw [show (adminCapture s h tag 0).1.testable cls unit = true from testable]
    decide
  have free' : ((List.range 4).find? fun n => !FMap.has (adminCapture s h tag 0).1.trials n) = some n := free
  change execTestStart h tag cls unit false s = _
  unfold execTestStart
  rw [adminMp_ready ready mp, if_neg phase', if_neg (by rw [known]; decide), if_neg fresh', if_neg (by simp [State.testBarred]), if_neg testable',
    free']
  rfl

/-- R411: the status of a test that has ended frees its number. -/
theorem testStatus_frees {n : Nat} {x : Trial} (tag : Nat) (real : n < 4) (found : FMap.find s.trials n = some x) (ended : 3 ≤ x.st) :
    ∃ t, exec (.testStatus h tag n) s = .next t ∧ FMap.find t.trials n = none ∧
      Posts s t (s.adminQueue h) tag 0 0 false 0 0 (x.st + x.prog * 256 + min 0xFFFF x.faults * 65536) ∧ Leaves s t [] := by
  have whole : exec (.testStatus h tag n) s = .next (((adminCapture s h tag 0).1.trialFreed n).finish
      (adminCapture s h tag 0).2 0 0 (x.st + x.prog * 256 + min 0xFFFF x.faults * 65536)) := by
    have found' : FMap.find (adminCapture s h tag 0).1.trials n = some x := found
    change execTestStatus h tag n s = _
    unfold execTestStatus
    rw [adminMp_ready ready mp]
    simp only [Nat.mod_eq_of_lt real, found', if_neg (show ¬ x.st = 2 by omega), if_neg (show ¬ x.st = 1 by omega)]
    rfl
  have freed : FMap.find ((adminCapture s h tag 0).1.trialFreed n).trials n = none := trialFreed_find _ n
  have leaves := leaves_trialFreed (leaves_adminCapture s h tag 0 []) n
  refine ⟨_, whole, ?_, ?_, leaves.finish _ _ _ _⟩
  · obtain ⟨_, _, _, _, _, frame⟩ := (completing_finish ((adminCapture s h tag 0).1.trialFreed n) (adminCapture s h tag 0).2 0 0
      (x.st + x.prog * 256 + min 0xFFFF x.faults * 65536)).frame
    rw [frame]
    exact freed
  · exact admin_posts ready tag 0 0 0 _ (trialFreed_queue _ _ _) (trialFreed_ck _ _) (trialFreed_out _ _)

/-- R411: TEST_ABORT ends a waiting test. -/
theorem exec_testAbort_waiting {n : Nat} {x : Trial} (tag : Nat) (real : n < 4) (found : FMap.find s.trials n = some x) (waits : x.st = 1)
    (cls : x.cls = 5) : let c := adminCapture s h tag 0
    exec (.testAbort h tag n) s = .next ((State.settleMr (State.setWaits { c.1 with
      trials := FMap.put s.trials n { x with st := 5 } })).finish c.2 0 0 0) := by
  have found' : FMap.find (adminCapture s h tag 0).1.trials n = some x := found
  have plain : (adminCapture s h tag 0).1.freeTgts x.cls x.unit = (adminCapture s h tag 0).1 :=
    if_neg (by rw [cls]; decide)
  change execTestAbort h tag n s = _
  unfold execTestAbort
  rw [adminMp_ready ready mp]
  simp only [Nat.mod_eq_of_lt real, found', if_pos (Or.inl waits : x.st = 1 ∨ x.st = 2), plain]
  rfl

end

/-- R107: a test of no target begins once residue lies below the mark. -/
theorem exec_testBegin_below {s : State} {n : Nat} {x : Trial} (real : n < 4) (phase : s.phase = phService) (found : FMap.find s.trials n = some x)
    (waits : x.st = 1) (untargeted : s.testTgts x.cls x.unit = []) (below : s.belowMark = true) :
    exec (.testBegin n) s = .next (State.settleMr (State.setWaits { s.begin with trials := FMap.put s.trials n { x with st := 2 } })) := by
  have phase' : ¬ s.begin.phase ≠ phService := not_not.mpr phase
  have found' : FMap.find s.begin.trials n = some x := found
  have none_ : s.begin.testTgts x.cls x.unit = [] := untargeted
  have below' : s.begin.belowMark = true := below
  change execTestBegin n s = _
  unfold execTestBegin
  rw [if_neg phase', if_neg (by omega)]
  simp only [found', if_neg (not_not.mpr waits), none_, List.isEmpty_nil, if_true, below']
  rfl

/-- R411: the end of a test records the verdict. -/
theorem exec_testComplete_runs {s : State} {n : Nat} (faults : Nat) (passed : Bool) {x : Trial} (found : FMap.find s.trials n = some x)
    (runs : x.st = 2) : exec (.testComplete n passed faults []) s = .next ((State.freeTgts { s.begin with
      trials := FMap.put s.trials n { x with st := if passed then 3 else 4, prog := 100, faults := faults } } x.cls x.unit).settleMr) := by
  have found' : FMap.find s.begin.trials n = some x := found
  change execTestComplete n passed faults [] s = _
  unfold execTestComplete
  simp only [found', if_neg (not_not.mpr runs)]
  rfl

/-- Settles O38. -/
theorem selfTests : Obligations.SelfTests := by
  unfold Obligations.SelfTests
  refine ⟨?start, fun s n x => exec_testBegin_below, ?status, ?abort, fun s n faults passed x => exec_testComplete_runs faults passed⟩
  case start =>
    exact fun s h tag cls unit n ready mp phase known seated fresh testable free =>
      exec_testStart_free ready mp tag phase known seated fresh testable free
  case status => exact fun s h tag n x real ready mp found ended => testStatus_frees ready mp tag real found ended
  case abort => exact fun s h tag n x real ready mp found waits cls => exec_testAbort_waiting ready mp tag real found waits cls

end Sys2Proof.Machine
end

section
/-! PROOFS. The clocks stand (R297): operations of the image, of its restore and of the phases leave them. -/

namespace Sys2Proof.Machine

theorem foldl_ck {α : Type} (f : State → α → State) (l : List α) (s : State) (each : ∀ a x, (f a x).ck = a.ck) :
    (l.foldl f s).ck = s.ck := by
  induction l generalizing s with
  | nil => rfl
  | cons x l ih => exact (ih _).trans (each s x)

theorem forEach_ck (l : List Nat) (f : State → Nat → State) (s : State) (each : ∀ a k, (f a k).ck = a.ck) :
    (s.forEach l f).ck = s.ck := foldl_ck f l s each

@[simp] theorem settleMr_ck (s : State) : s.settleMr.ck = s.ck := by
  obtain ⟨_, _, _, _, _, settled⟩ := settled_settleMr s
  rw [settled]

@[simp] theorem headChanged_ck (s : State) (k : Nat) : (s.headChanged k).ck = s.ck := (clockKept_headChanged s k).1

@[simp] theorem setDoms_ck (s : State) (l : List Nat) (v : Nat) : (s.setDoms l v).ck = s.ck := forEach_ck l _ s fun _ _ => rfl

@[simp] theorem ceilUpdate_ck (s : State) (cause : Nat) : (s.ceilUpdate cause).ck = s.ck := by simp [State.ceilUpdate, apply_ite State.ck]

@[simp] theorem setShState_ck (s : State) (n st : Nat) : (s.setShState n st).ck = s.ck := by simp [State.setShState, apply_ite State.ck]

@[simp] theorem append_ck (s : State) (ty : Nat) (args : List Nat) (pay : JPay) (count : Nat) : (s.append ty args pay count).ck = s.ck := rfl

@[simp] theorem debit_ck (s : State) (n : Nat) : (s.debit n).ck = s.ck := by simp [State.debit, apply_ite State.ck]

@[simp] theorem setTgt_ck (s : State) (t : Nat) (x : Target) : (s.setTgt t x).ck = s.ck := rfl

@[simp] theorem setBlk_ck (s : State) (b : Nat) (x : Blk) : (s.setBlk b x).ck = s.ck := rfl

@[simp] theorem suspendErase_ck (s : State) (t : Nat) : (s.suspendErase t).ck = s.ck := by
  unfold State.suspendErase
  split <;> simp [apply_ite State.ck]

@[simp] theorem startPrograms_ck (s : State) (ms : List Nat) : (s.startPrograms ms).ck = s.ck := by
  simp [State.startPrograms, apply_ite State.ck, foldl_ck]

@[simp] theorem fly_ck (s : State) (k : Skein) : (s.fly k).ck = s.ck := by simp [State.fly]

@[simp] theorem setBundle_ck (s : State) (b : Nat) (x : Bundle) : (s.setBundle b x).ck = s.ck := rfl

@[simp] theorem verifySeals_ck (s : State) (l : List Nat) : (s.verifySeals l).1.ck = s.ck := by
  unfold State.verifySeals
  dsimp only
  split
  · rfl
  · rw [foldl_ck (fun (a : State) m => a.setBlk m _) _ _ fun _ _ => rfl, foldl_ck State.relist _ _ fun _ _ => rfl]
    rfl

@[simp] theorem openWithin_ck (s : State) (use : Nat) (n : Nat) : (s.openWithin use n).1.ck = s.ck := by
  induction n generalizing s with
  | zero => rfl
  | succ n ih =>
    unfold State.openWithin
    dsimp only
    split
    · rfl
    · split
      · simp [ih]
      · rw [append_ck, ceilUpdate_ck, setBundle_ck]
        refine (forEach_ck _ _ _ ?_).trans (verifySeals_ck _ _)
        exact fun _ _ => rfl

@[simp] theorem openBundle_ck (s : State) (use : Nat) : (s.openBundle use).1.ck = s.ck := openWithin_ck s use 64

@[simp] theorem announce_ck (s : State) : s.announce.ck = s.ck := by
  unfold State.announce
  dsimp only
  (repeat' split) <;> simp

@[simp] theorem currentJournal_ck (s : State) : s.currentJournal.1.ck = s.ck := by
  unfold State.currentJournal
  dsimp only
  (repeat' split) <;> simp

@[simp] theorem journalBundle_ck (s : State) : s.journalBundle.1.ck = s.ck := by
  unfold State.journalBundle
  dsimp only
  (repeat' split) <;> simp

@[simp] theorem takeGen_ck (s : State) : s.takeGen.ck = s.ck := rfl

@[simp] theorem takePage_ck (s : State) (b : Nat) : (s.takePage b).ck = s.ck := rfl

@[simp] theorem flushOne_ck (s : State) : s.flushOne.ck = s.ck := by
  unfold State.flushOne
  dsimp only
  split <;> simp [apply_ite State.ck]

@[simp] theorem flushMany_ck (s : State) (n : Nat) : (s.flushMany n).ck = s.ck := by
  induction n generalizing s with
  | zero => rfl
  | succ n ih => simp [State.flushMany, apply_ite State.ck, ih]

@[simp] theorem flushTail_ck (s : State) : s.flushTail.ck = s.ck := by simp [State.flushTail]

@[simp] theorem journalP_ck (s : State) (ty : Nat) (args : List Nat) (pay : JPay) (count : Nat) : (s.journalP ty args pay count).ck = s.ck := by
  simp [State.journalP, apply_ite State.ck]

@[simp] theorem listPart_ck (s : State) (lo n : Nat) : (s.listPart lo n).ck = s.ck := by simp [State.listPart]

@[simp] theorem listRun_ck (s : State) (lo n : Nat) : (s.listRun lo n).ck = s.ck := by simp [State.listRun, forEach_ck]

@[simp] theorem account_ck (s : State) (empty : Bool) : (s.account empty).ck = s.ck := by
  simp [State.account, apply_ite State.ck, foldl_ck]

@[simp] theorem norProgram_ck (s : State) : s.norProgram.ck = s.ck := by simp [State.norProgram, apply_ite State.ck]

@[simp] theorem norRetire_ck (s : State) : s.norRetire.ck = s.ck := by simp [State.norRetire, apply_ite State.ck]

@[simp] theorem armFlash_ck (s : State) (empty : Bool) : (s.armFlash empty).ck = s.ck := by simp [State.armFlash]

@[simp] theorem omitUnsaved_ck (s : State) (source : Nat) : (s.omitUnsaved source).ck = s.ck := rfl

@[simp] theorem enterPhase_ck (s : State) (p cause : Nat) : (s.enterPhase p cause).ck = s.ck := by simp [State.enterPhase, apply_ite State.ck]

@[simp] theorem journal_ck (s : State) (ty : Nat) (args : List Nat) : (s.journal ty args).ck = s.ck := by simp [State.journal]

@[simp] theorem dataBundle_ck (s : State) : s.dataBundle.1.ck = s.ck := by
  unfold State.dataBundle
  dsimp only
  (repeat' split) <;> simp

@[simp] theorem startSeg_ck (s : State) (k : Nat) : (s.startSeg k).ck = s.ck := by
  unfold State.startSeg
  dsimp only
  split <;> simp

@[simp] theorem beginPass_ck (s : State) : s.beginPass.ck = s.ck := by simp [State.beginPass]

@[simp] theorem resumePass_ck (s : State) : s.resumePass.ck = s.ck := by simp [State.resumePass, apply_ite State.ck]

@[simp] theorem resumeReskein_ck (s : State) : s.resumeReskein.ck = s.ck := by
  unfold State.resumeReskein
  dsimp only
  split <;> simp [apply_ite State.ck]

@[simp] theorem settlePartial_ck (s : State) : s.settlePartial.ck = s.ck := by simp [State.settlePartial, apply_ite State.ck]

@[simp] theorem setLink_ck (s : State) (k st : Nat) : (s.setLink k st).ck = s.ck := by simp [State.setLink, apply_ite State.ck]

@[simp] theorem trainLinks_ck (s : State) : s.trainLinks.ck = s.ck := by simp [State.trainLinks, apply_ite State.ck, forEach_ck]

@[simp] theorem pushOut_ck (s : State) (p : Nat) (i : OutItem) : (s.pushOut p i).ck = s.ck := by simp [State.pushOut, apply_ite State.ck]

@[simp] theorem sendSeq_ck (s : State) (ty : Nat) (ws : List Nat) : (s.sendSeq ty ws).ck = s.ck := by simp [State.sendSeq, apply_ite State.ck]

@[simp] theorem joinLink_ck (s : State) (p : Nat) : (s.joinLink p).ck = s.ck := by simp [State.joinLink]

@[simp] theorem tryOpen_ck (s : State) (p : Nat) : (s.tryOpen p).ck = s.ck := by simp [State.tryOpen, apply_ite State.ck]

@[simp] theorem twineServe_ck (s : State) : s.twineServe.ck = s.ck := by simp [State.twineServe]

@[simp] theorem serve_ck (s : State) : s.serve.ck = s.ck := by simp [State.serve]

@[simp] theorem countShutdown_ck (s : State) (restore : Bool) : (s.countShutdown restore).ck = s.ck := by
  simp [State.countShutdown, apply_ite State.ck, forEach_ck]

@[simp] theorem restoreEnd_ck (s : State) : s.restoreEnd.ck = s.ck := by simp [State.restoreEnd, apply_ite State.ck]

@[simp] theorem settleShare_ck (s : State) (n : Nat) : (s.settleShare n).ck = s.ck := by simp [State.settleShare, apply_ite State.ck]

@[simp] theorem settleShares_ck (s : State) : s.settleShares.ck = s.ck := by
  unfold State.settleShares
  dsimp only
  (repeat' split) <;> simp [forEach_ck]

@[simp] theorem voidQueues_ck (s : State) : s.voidQueues.ck = s.ck := by simp [State.voidQueues, apply_ite State.ck, forEach_ck]

@[simp] theorem resumeData_ck (s : State) : s.resumeData.ck = s.ck := by simp [State.resumeData, forEach_ck]

@[simp] theorem snapWrite_ck (s : State) : s.snapWrite.ck = s.ck := rfl

@[simp] theorem toService_ck (s : State) : s.toService.ck = s.ck := by simp [State.toService, forEach_ck]

@[simp] theorem adopt_ck (s : State) (a : Anchor) : (s.adopt a).ck = s.ck := by simp [State.adopt, apply_ite State.ck]

@[simp] theorem drawRgen_ck (s : State) : s.drawRgen.ck = s.ck := rfl

@[simp] theorem dropRegs_ck (s : State) (l : List Field) : (s.dropRegs l).ck = s.ck := rfl

@[simp] theorem forgetDram_ck (s : State) : s.forgetDram.ck = s.ck := rfl

@[simp] theorem emptyImage_ck (s : State) : s.emptyImage.ck = s.ck := by simp [State.emptyImage]

@[simp] theorem enterRecoveryPhase_ck (s : State) (cause : Nat) : (s.enterRecoveryPhase cause).ck = s.ck := by simp [State.enterRecoveryPhase]

@[simp] theorem imageRecovery_ck (s : State) (check : Nat) : (s.imageRecovery check).ck = s.ck := by simp [State.imageRecovery]

@[simp] theorem prepare_ck (s : State) : s.prepare.ck = s.ck := rfl

@[simp] theorem imageTurn_ck (s : State) : s.imageTurn.ck = s.ck := by
  unfold State.imageTurn
  dsimp only
  (repeat' split) <;> simp

@[simp] theorem imageStep_ck (s : State) : s.imageStep.ck = s.ck := by simp [State.imageStep, apply_ite State.ck]

end Sys2Proof.Machine
end

section
/-! PROOFS. A processor fault starts its reload or restart; its end restores it (O39). -/
namespace Sys2Proof.Machine

/-! ### Faults of an SP -/

/-- R338: a running SP that starts its reload: the fault's cause and time are kept, a Save shows it and the servo falls into holdover. -/
theorem startReload_running {s : State} {n : Nat} (runs : s.spRuns n = true) (cause : Nat) :
    let t := s.setProc (n + 1) 3
    let t : State := { t with fw := { t.fw with cause := FMap.put t.fw.cause (n + 1) (cause, t.ck.mono) } }
    let t := if n = 1 ∧ t.phase = phSave then t.wr F.SPN_SAVE_SPRLD 1 else t
    let t := if n = 5 then t.wr F.CK_STS_HOLDOVER 1 else t
    s.startReload n cause = (if n = 0 then t.settleMr else t).updReady := if_pos runs

theorem exec_lockstepMismatch_running {s : State} (pc : Nat) (runs : s.spRuns 1 = true) :
    exec (.lockstepMismatch pc) s = .next (((s.begin.bump F.FW_RLD_LSMIS).event 0xD004 [pc]).startReload 1 1) := if_pos runs

theorem exec_executeFault_sp {s : State} {n : Nat} (addr : Nat) (runs : s.spRuns n = true) : exec (.executeFault (n + 1) addr) s =
    .next (((s.begin.bump F.FW_NOR_XFLT).event 0xD00C [n + 1, addr]).startReload n 5) := if_pos (beq_iff_eq.mp runs)

/-! ### Expiries of the MP's watchdog -/

theorem revertTrial_none {s : State} (cause : Nat) (settled : ∀ r, s.fw.swap = some r → r.trial = false) : s.revertTrial cause = s := by
  unfold State.revertTrial
  split
  case h_1 r swap => exact if_neg (ne_true_of_eq_false (settled r swap))
  case h_2 => rfl

/-- R328: a restart of the running MP with no block on trial. -/
theorem mpRestart_running {s : State} {cause : Nat} (runs : s.mpRuns = true) (settled : ∀ r, s.fw.swap = some r → r.trial = false)
    (fault : cause ≠ 5) : s.mpRestart cause =
      State.updReady { (((s.setProc 0 3).bump F.FW_RLD_MPRST).event 0xD005 [cause]) with
        fw := { (((s.setProc 0 3).bump F.FW_RLD_MPRST).event 0xD005 [cause]).fw with activating := false } } := by
  have swap : ((((s.setProc 0 3).bump F.FW_RLD_MPRST).event 0xD005 [cause]).fw.swap) = s.fw.swap :=
    congrArg Firmware.swap (State.event_fw _ _ _)
  have plain := revertTrial_none (s := ((s.setProc 0 3).bump F.FW_RLD_MPRST).event 0xD005 [cause]) 2 (by rw [swap]; exact settled)
  have other : (cause == 5) = false := beq_false_of_ne fault
  unfold State.mpRestart
  rw [if_pos runs]
  dsimp only
  rw [if_neg fault, plain, other]

theorem exec_mpWatchdogExpiry_service {s : State} (runs : s.mpRuns = true) (phase : s.phase ≠ phBringup)
    (settled : ∀ r, s.fw.swap = some r → r.trial = false) :
    let t := ((s.begin.setProc 0 3).bump F.FW_RLD_MPRST).event 0xD005 [1]
    exec .mpWatchdogExpiry s = .next (State.updReady { t with fw := { t.fw with activating := false } }) := by
  have runs' : ¬ s.begin.mpRuns = false := by
    rw [show s.begin.mpRuns = true from runs]
    decide
  exact congrArg _ ((if_neg runs').trans ((if_neg phase).trans (mpRestart_running (s := s.begin) runs settled (by decide))))

theorem exec_mpWatchdogExpiry_third {s : State} (runs : s.mpRuns = true) (phase : s.phase = phBringup) (third : s.fw.mpExp = 2) :
    let t : State := { s.begin with fw := { s.fw with mpExp := 3 } }
    exec .mpWatchdogExpiry s = .next ((t.mpRestart 1).enterRecoveryPhase 7) := by
  have runs' : ¬ s.begin.mpRuns = false := by
    rw [show s.begin.mpRuns = true from runs]
    decide
  have third' : s.begin.fw.mpExp = 2 := third
  change Host.Outcome.next (s.begin.mpExpire 1) = _
  unfold State.mpExpire
  dsimp only
  rw [if_neg runs', if_pos (show s.begin.phase = phBringup from phase), third', if_pos rfl]
  rfl

/-! ### The ends of a reload and of a restart -/

theorem spBack_ck (s : State) : (s.spBack 1).ck = s.ck := by
  have plain : s.spBack 1 = if s.imageDue then s.imageStep else s := rfl
  rw [plain]
  split
  · exact imageStep_ck s
  · rfl

/-- R338: a reload that ends well after a watchdog. -/
theorem exec_spReloadComplete_watchdog {s : State} {n at_ : Nat} (real : n < 6) (reloads : s.proc (n + 1) = 3)
    (cause : FMap.get (0, s.ck.mono) s.fw.cause (n + 1) = (2, at_)) :
    let t := (s.begin.setProc (n + 1) 2).bump F.FW_RLD_SPRLD
    let t : State := { t with fw := { t.fw with reloads := FMap.put s.fw.reloads n (FMap.get 0 s.fw.reloads n + 1)
                                                trialRld := FMap.put s.fw.trialRld n (FMap.get 0 s.fw.trialRld n + 1) } }
    let t := ((t.event 0xD003 [n, 2, s.ck.mono - at_]).updReady).spBack n
    exec (.spReloadComplete n true) s =
      .next (if n = 1 ∧ t.phase = phSave then t.event 0x4008 [s.ck.mono - at_] else t).nextReload := by
  have runs : ¬ (6 ≤ n ∨ s.begin.proc (n + 1) ≠ 3 ∨ (true = false ∧ s.begin.mpRuns = false)) := by
    rintro (high | other | broken)
    · omega
    · exact other reloads
    · exact Bool.noConfusion broken.1
  have cause' : FMap.get (0, s.begin.ck.mono) s.begin.fw.cause (n + 1) = (2, at_) := cause
  intro a b c
  have clock (served : n = 1) : c.ck.mono = s.ck.mono := by
    have same : c.ck = b.ck := by
      simp only [c, served]
      exact (spBack_ck _).trans ((updReady_ck _).trans (State.event_ck _ _ _))
    exact congrArg Clock.mono same
  change execSpReloadComplete n true s = _
  unfold execSpReloadComplete
  extract_lets t
  rw [if_neg runs, cause']
  change Host.Outcome.next (if n = 1 ∧ c.phase = phSave then c.event 0x4008 [c.ck.mono - at_] else c).nextReload = _
  by_cases saving : n = 1 ∧ c.phase = phSave
  · rw [if_pos saving, if_pos saving, clock saving.1]
  · rw [if_neg saving, if_neg saving]

/-- The restart of the MP ends with nothing to activate. -/
theorem activated_same {s : State} (idle : s.fw.activating = false) :
    ({ s with fw := { s.fw with activating := false, toReload := s.fw.toReload } } : State) = s := by
  rw [← idle]

theorem exec_mpRestartComplete_valid {s : State} (restarts : s.proc 0 = 3) (plain : s.fw.swap = none) (idle : s.fw.activating = false)
    (stage : s.rd F.FW_STG_STATE ≠ 5) (valid : (s.block (s.rd F.FW_BOOT_ACTIVE)).verr = 0) :
    let t := (s.begin.setProc 0 2).updReady
    exec .mpRestartComplete s = .next (if t.imageDue then t.imageStep else t).nextReload := by
  have restarts' : ¬ s.begin.proc 0 ≠ 3 := not_not.mpr restarts
  have block : s.begin.restartBlock = (s.begin, s.begin.rd F.FW_BOOT_ACTIVE) := by
    have plain' : s.begin.fw.swap = none := plain
    simp only [State.restartBlock, plain']
  have valid' : ¬ (s.begin.block (s.begin.rd F.FW_BOOT_ACTIVE)).verr ≠ 0 := not_not.mpr valid
  have idle' : s.begin.fw.activating = false := idle
  have stage' : ¬ s.begin.rd F.FW_STG_STATE = 5 := stage
  change execMpRestartComplete s = _
  unfold execMpRestartComplete
  dsimp only
  rw [if_neg restarts', block]
  dsimp only
  rw [if_neg valid', idle']
  simp only [bne_self_eq_false, Bool.or_self, Bool.false_eq_true, if_false, if_neg stage']
  rw [activated_same idle']

theorem exec_mpRestartComplete_invalid {s : State} (restarts : s.proc 0 = 3) (plain : s.fw.swap = none)
    (invalid : (s.block (s.rd F.FW_BOOT_ACTIVE)).verr ≠ 0) :
    exec .mpRestartComplete s = .next (State.updReady ((({ s.begin with fw := { s.fw with mpDead := true } } : State).setProc 0 0).wr
      F.FW_STG_VERR (s.block (s.rd F.FW_BOOT_ACTIVE)).verr)) := by
  have restarts' : ¬ s.begin.proc 0 ≠ 3 := not_not.mpr restarts
  have block : s.begin.restartBlock = (s.begin, s.begin.rd F.FW_BOOT_ACTIVE) := by
    have plain' : s.begin.fw.swap = none := plain
    simp only [State.restartBlock, plain']
  have invalid' : (s.begin.block (s.begin.rd F.FW_BOOT_ACTIVE)).verr ≠ 0 := invalid
  change execMpRestartComplete s = _
  unfold execMpRestartComplete
  dsimp only
  rw [if_neg restarts', block]
  dsimp only
  rw [if_pos invalid']
  rfl

/-- Settles O39. -/
theorem processorFaults : Obligations.ProcessorFaults := by
  unfold Obligations.ProcessorFaults
  exact ⟨fun s pc => exec_lockstepMismatch_running pc, fun s n runs => congrArg Host.Outcome.next (startReload_running (s := s.begin) runs 2),
    fun s => exec_mpWatchdogExpiry_service, fun s => exec_mpWatchdogExpiry_third, fun s n _ => rfl, fun s n addr => exec_executeFault_sp addr,
    fun s n at_ => exec_spReloadComplete_watchdog, fun s => exec_mpRestartComplete_valid, fun s => exec_mpRestartComplete_invalid⟩

end Sys2Proof.Machine
end

section
/-! PROOFS. Firmware is staged, activated and reported; trials end; recovery is requested and served (O40). -/
namespace Sys2Proof.Machine

/-! ### The admin operations -/

section
variable {s : State} {h : Nat} (tag : Nat) (ready : AdminReady s h) (mp : s.mpRuns = true)
include ready mp

theorem exec_fwStage_idle {len off : Nat} (addr : Nat) (last : Bool) (hdr : FwHeader) (aligned : len % 256 = 0) (fits : off + len ≤ 2 ^ 24)
    (stage : s.rd F.FW_STG_STATE ≠ 1) (nor : s.rd F.FW_NOR_STATE = 0) :
    let c := adminCapture s h tag 0
    exec (.fwStage h tag addr len off last hdr) s = .next ((c.1.keepTicket { c.2 with op := 0x80 }).startPart (32 + h) len last hdr
        (some (c.2.qid, c.2.seq)) none) := by
  have stage' : (adminCapture s h tag 0).1.rd F.FW_STG_STATE ≠ 1 := stage
  have nor' : (adminCapture s h tag 0).1.rd F.FW_NOR_STATE = 0 := nor
  change execFwStage h tag addr len off last hdr s = _
  unfold execFwStage
  rw [adminMp_ready ready mp, if_neg (by omega), if_neg (by simp [State.stagingBusy, stage', nor'])]

/-- R334: FW_STATUS posts the stage, whether it is taken online, and the verification's error. -/
theorem fwStatus_posts : ∃ t, exec (.fwStatus h tag) s = .next t ∧ Posts s t (s.adminQueue h) tag 0 0 false 0 0
      (s.rd F.FW_STG_STATE * 2 ^ 29 + s.rd F.FW_STG_ONLINE * 2 ^ 28 + s.rd F.FW_STG_VERR * 2 ^ 24) ∧ Leaves s t [] :=
  ⟨_, congrArg Host.Outcome.next (adminMp_ready ready mp ..), admin_posts ready tag 0 0 0 _ rfl rfl rfl,
    (leaves_adminCapture s h tag 0 []).finish _ _ _ _⟩

theorem exec_fwActivate_offline {b : Nat} (phase : s.phase = phService) (staged : s.stagedBlock = some b) : let c := adminCapture s h tag 0
    exec (.fwActivate h tag false) s = .next ((c.1.activate b false).finish c.2 0 0 0) := by
  have staged' : (adminCapture s h tag 0).1.stagedBlock = some b := staged
  have phase' : ¬ (adminCapture s h tag 0).1.phase ≠ phService := not_not.mpr phase
  change execFwActivate h tag false s = _
  unfold execFwActivate
  rw [adminMp_ready ready mp, if_neg phase', staged']
  exact congrArg _ (if_neg fun online => Bool.false_ne_true online.1)

theorem exec_fwActivate_online {b : Nat} (phase : s.phase = phService) (staged : s.stagedBlock = some b) (layout : (s.block b).layout = s.fw.layout) :
    let c := adminCapture s h tag 0
    exec (.fwActivate h tag true) s = .next (((c.1.activate b true).finish c.2 0 0 0).mpRestart 5) := by
  have staged' : (adminCapture s h tag 0).1.stagedBlock = some b := staged
  have phase' : ¬ (adminCapture s h tag 0).1.phase ≠ phService := not_not.mpr phase
  change execFwActivate h tag true s = _
  unfold execFwActivate
  rw [adminMp_ready ready mp, if_neg phase', staged']
  exact congrArg _ (if_neg fun online => online.2 layout)

theorem exec_spReload_real {n : Nat} (real : n < 6) : let c := adminCapture s h tag 0
    let t := c.1.keepTicket { c.2 with op := 0x83 }
    exec (.spReload h tag n) s =
      .next (State.nextReload { t with fw := { t.fw with wanted := t.fw.wanted ++ [(n, some (c.2.qid, c.2.seq))] } }) := by
  change execSpReload h tag n s = _
  unfold execSpReload
  rw [adminMp_ready ready mp]
  exact congrArg _ (if_neg (Nat.not_le.mpr real))

end

/-! ### The boot store -/

section
variable {s : State}

theorem exec_norOperation_part (busy : s.rd F.FW_NOR_STATE = 2) (part : s.fw.part.isSome = true) :
    exec .norOperationComplete s = .next (s.begin.wr F.FW_NOR_STATE 1) := by
  have part' : s.begin.fw.part.isSome = true := part
  refine (if_pos busy).trans ?_
  rw [part']
  rfl

theorem exec_norOperation_suspended (suspended : s.rd F.FW_NOR_STATE = 5) :
    exec .norOperationComplete s = .next (s.begin.wr F.FW_NOR_STATE 4) := by
  have other : ¬ s.begin.rd F.FW_NOR_STATE = 2 := by
    rw [show s.begin.rd F.FW_NOR_STATE = 5 from suspended]
    decide
  exact (if_neg other).trans (if_pos suspended)

/-- R334: the end of a program: what was staged by it is taken. -/
theorem exec_norOperation_program (program : s.rd F.FW_NOR_STATE = 1) : exec .norOperationComplete s =
    .next ((State.writeLearn (match s.fw.part with | some p => (s.begin.wr F.FW_NOR_STATE 0).partDone p | none => s.begin.wr F.FW_NOR_STATE 0) 0).writeLearn
      1) := by
  have program' : s.begin.rd F.FW_NOR_STATE = 1 := program
  change execNorOperationComplete s = _
  unfold execNorOperationComplete
  rw [if_neg (by omega), if_neg (by omega), if_pos program']
  rfl

end

/-! ### The mailbox commands -/

/-- R46: a command that reports, and may run in RECOVERY, does its work while the MP runs or in RECOVERY. -/
theorem mbox_reports {s : State} {v : Via} (open_ : s.viaOpen v = true) (served : s.phase = phRecovery ∨ s.mpRuns = true) (c : Instr)
    (f : State → State) : s.mbox v c .recovery true f = f s.begin := by
  have open' : ¬ (!s.begin.viaOpen v) = true := by
    rw [show s.begin.viaOpen v = true from open_]
    decide
  refine (if_neg open').trans ?_
  by_cases recovery : s.phase = phRecovery
  · exact if_pos (beq_iff_eq.mpr recovery)
  · have runs : ¬ (!s.begin.mpRuns) = true := by
      rw [show s.begin.mpRuns = true from served.resolve_left recovery]
      decide
    exact (if_neg (fun in_ => recovery (beq_iff_eq.mp in_))).trans ((if_neg runs).trans (if_neg (by simp)))

section
variable {s : State} {v : Via} (ready : MailboxReady s v)
include ready

theorem exec_transferFw_whole {off len : Nat} (hdr : FwHeader) (stage : s.rd F.FW_STG_STATE ≠ 1) (nor : s.rd F.FW_NOR_STATE = 0)
    (fits : off + len ≤ 2 ^ 24) : exec (.transferFw v 0 (s.freeBlock + 1) off len hdr) s =
      .next (s.begin.startBg v 0x0201 off len fun t => t.startPart (bgKey v) len true hdr none (some v)) := by
  have nor' : s.begin.rd F.FW_NOR_STATE = 0 := nor
  have phase : (s.begin.phase == phRecovery) = false := beq_false_of_ne ready.2.2.2.2
  refine (answer_mbox ready ..).trans (congrArg _ ?_)
  refine (if_neg (show ¬ 0 = 4 by decide)).trans ((if_neg (by simp [State.stagingBusy, stage, nor'])).trans
    ((if_neg (not_not.mpr rfl)).trans ((if_neg (by omega)).trans ((if_neg (by omega)).trans ?_))))
  rw [phase]
  rfl

theorem exec_activateFw_offline {b : Nat} (phase : s.phase = phService) (staged : s.stagedBlock = some b) :
    exec (.activateFw v false (b + 1)) s = .next ((s.begin.activate b false).reply v .success []) := by
  have staged' : s.begin.stagedBlock = some b := staged
  have phase' : s.begin.phase = phService := phase
  refine (answer_mbox ready ..).trans (congrArg _ ?_)
  rw [staged']
  exact (if_neg (not_not.mpr rfl)).trans ((if_neg (by rw [phase']; decide)).trans ((if_neg (not_not.mpr phase')).trans
    (if_neg fun online => Bool.false_ne_true online.1)))

theorem exec_confirmFirmware_mbox :
    exec (.confirmFirmware v) s = .next (if s.onTrial then s.begin.confirmTrial.reply v .success [] else s.begin.reply v .invalidInput []) :=
  answer_mbox ready ..

theorem exec_requestRecovery_service (phase : s.phase = phService) :
    exec (.requestRecovery v) s = .next ((s.begin.wr F.FW_CTL_RECREQ 1).reply v .success []) :=
  (answer_mbox ready ..).trans (congrArg _ (if_pos phase))

end

theorem exec_getFwInfo_reports {s : State} {v : Via} (open_ : s.viaOpen v = true) (served : s.phase = phRecovery ∨ s.mpRuns = true)
    (stage : s.rd F.FW_STG_STATE ≠ 2) :
    let ver := fun (x : BootBlock) => if x.verr = 0 then x.train * 2 ^ 56 + x.minor * 2 ^ 48 + x.build * 2 ^ 32 + x.svn else 0
    exec (.getFwInfo v) s = .next (s.begin.reply v .success [2, s.rd F.FW_BOOT_ACTIVE + 1, 0, 1, ver s.fw.blkA, ver s.fw.blkB]) := by
  have stage' : ¬ s.begin.rd F.FW_STG_STATE = 2 := stage
  refine (congrArg Host.Outcome.next (mbox_reports open_ served ..)).trans ?_
  simp only [if_neg stage']
  rfl

/-- R346: the boot status shows the words of its registers. -/
theorem stgWord_eq (s : State) : s.stgWord = s.rd F.FW_STG_STATE * 2 ^ F.FW_STG_STATE.lo + s.rd F.FW_STG_ONLINE * 2 ^ F.FW_STG_ONLINE.lo +
    s.rd F.FW_STG_VERR * 2 ^ F.FW_STG_VERR.lo + s.rd F.FW_STG_BYTES * 2 ^ F.FW_STG_BYTES.lo := by
  rw [show s.rd F.FW_STG_BYTES * 2 ^ F.FW_STG_BYTES.lo = s.rd F.FW_STG_BYTES from Nat.mul_one _]
  rfl

/-! ### Trials -/

theorem exec_trialConfirmTimeout_due {s : State} (phase : s.phase = phService) (trial : s.onTrial = true) (mp : s.mpRuns = true)
    (sps : (List.range 6).all s.spRuns = true) (calm : (s.fw.trialRld.all fun e => decide (e.2 ≤ 3)) = true)
    (due : s.fw.trialAt + s.rd F.FW_CTL_CONFIRM * 1000000000 ≤ s.ck.mono) : exec .trialConfirmTimeout s = .next s.begin.confirmTrial :=
  if_pos ⟨phase, trial, mp, sps, calm, due⟩

/-- R336: the swap record written names whether its block is on trial. -/
theorem writeSwap_swap (s : State) (active : Nat) (trial : Bool) (attempts cause : Nat) :
    ∃ r, (s.writeSwap active trial attempts cause).fw.swap = some r ∧ r.trial = trial := by
  unfold State.writeSwap
  dsimp only
  split
  · exact ⟨_, rfl, rfl⟩
  · exact ⟨_, rfl, rfl⟩

theorem raiseSvn_swap (s : State) (svn : Nat) : (s.raiseSvn svn).fw.swap = s.fw.swap := by
  unfold State.raiseSvn
  dsimp only
  split
  · rw [State.event_fw]
    rfl
  · rfl

theorem onTrial_of_swap {s : State} {r : SwapRec} (swap : s.fw.swap = some r) (ended : r.trial = false) : s.onTrial = false := by
  simp only [State.onTrial, swap, ended, Bool.false_and]

/-- R337: a confirmed trial is none. -/
theorem confirmTrial_ends {s : State} (trial : s.onTrial = true) : s.confirmTrial.onTrial = false := by
  obtain ⟨r, swap, _⟩ : ∃ r, s.fw.swap = some r ∧ r.trial = true := by
    unfold State.onTrial at trial
    split at trial
    case h_1 r swap => exact ⟨r, swap, (Bool.and_eq_true_iff.mp trial).1⟩
    case h_2 => exact absurd trial Bool.false_ne_true
  obtain ⟨q, written, ended⟩ := writeSwap_swap s r.active false 0 0
  unfold State.confirmTrial
  simp only [swap]
  generalize raised_ : (s.writeSwap r.active false 0 0).event 0xD008 [r.active] = a
  have raised : a.fw.swap = some q := by
    rw [← raised_, State.event_fw]
    exact written
  refine onTrial_of_swap (r := q) ?_ ended
  rw [raiseSvn_swap, apply_ite State.fw]
  have kept : (if a.rd F.FW_STG_STATE = 4 ∨ a.rd F.FW_STG_STATE = 3 then (a.wr F.FW_STG_STATE 0).fw else a.fw) = a.fw := ite_self _
  rw [kept, raised]

/-! ### Recovery -/

/-- R344: FW_CTL sets the time of a trial, and requests recovery. -/
theorem fwCtl_sets (s : State) (val : Nat) : ∃ t, exec (.fwCtlRecreq val) s = .next t ∧ t.rd F.FW_CTL_CONFIRM = natField val 48 16 ∧
    t.rd F.FW_CTL_RECREQ = (if natBit val 47 then 1 else s.rd F.FW_CTL_RECREQ) ∧ Leaves s t [(F.FW_CTL_CONFIRM, 0), (F.FW_CTL_RECREQ, 0)] := by
  let a : State := s.begin.wr F.FW_CTL_CONFIRM (natField val 48 16)
  have confirm : a.rd F.FW_CTL_CONFIRM = natField val 48 16 := (State.wr_rd_self ..).trans (Nat.mod_mod ..)
  have request : a.rd F.FW_CTL_RECREQ = s.rd F.FW_CTL_RECREQ := State.wr_rd_ne s.begin _ (by decide)
  have leaves : Leaves s a [(F.FW_CTL_CONFIRM, 0), (F.FW_CTL_RECREQ, 0)] := (leaves_begin s _).wr _ _ (by simp)
  refine ⟨if natBit val 47 then a.wr F.FW_CTL_RECREQ 1 else a, rfl, ?_⟩
  split
  · exact ⟨(State.wr_rd_ne a 1 (by decide)).trans confirm, State.wr_rd_self a F.FW_CTL_RECREQ 1, leaves.wr _ _ (by simp)⟩
  · exact ⟨confirm, request, leaves⟩

/-- R345: what a full block of the image in its turn leaves. -/
def State.tftpTaken (s : State) : State :=
  let got := s.rd F.FW_REC_BYTES + 512
  let t := ((s.wr F.FW_REC_BYTES got).wr F.FW_REC_XPORT 3).wr F.FW_REC_PROG (min 100 (got * 100 / 2 ^ 24))
  { t with fw := { s.fw with tftp := s.fw.tftp + 1, tries := 0 } }

theorem tftpTaken_shows (s : State) : s.tftpTaken.rd F.FW_REC_XPORT = 3 ∧
    Leaves s s.begin.tftpTaken [(F.FW_REC_BYTES, 0), (F.FW_REC_XPORT, 0), (F.FW_REC_PROG, 0)] := by
  refine ⟨(State.wr_rd_ne _ _ (by decide)).trans (State.wr_rd_self ..), ?_⟩
  exact ((((leaves_begin s _).wr _ _ (by simp)).wr _ _ (by simp)).wr _ _ (by simp)).still ⟨rfl, rfl, rfl, rfl, rfl, rfl⟩ rfl

section
variable {s : State} (phase : s.phase = phRecovery)
include phase

theorem exec_recoveryImage_verifies {hdr : FwHeader} (xport : Nat) (valid : (s.newBlock hdr).verr = 0) :
    let b := s.freeBlock
    let x := s.newBlock hdr
    exec (.recoveryImageReceived xport hdr) s = .next ((((((s.begin.wr F.FW_REC_XPORT xport).setBlock b x).writeSwap b true 0 4).event
        0xD00B [xport, x.train * 2 ^ 24 + x.minor * 2 ^ 16 + x.build])).rebirth false 0x10) :=
  (if_pos phase).trans (congrArg _ (if_neg (not_not.mpr valid)))

/-- R345: the link of the management port serves TFTP in RECOVERY. -/
theorem tftp_served (link : s.pan.ethUp = true) : ¬ (s.begin.phase ≠ phRecovery ∨ s.begin.pan.ethUp = false) := by
  rintro (other | down)
  · exact other phase
  · exact Bool.noConfusion (link.symm.trans down)

theorem exec_tftpBlock_turn (hdr : FwHeader) (link : s.pan.ethUp = true) :
    exec (.tftpBlock s.fw.tftp 512 hdr) s = .next (s.begin.tftpTaken.send (.net [4, s.fw.tftp])) := by
  have on : ¬ (s.begin.phase ≠ phRecovery ∨ s.begin.pan.ethUp = false ∨ 512 < 512) := by
    rintro (other | down | long)
    · exact other phase
    · exact Bool.noConfusion (link.symm.trans down)
    · omega
  exact (if_neg on).trans ((if_neg (not_not.mpr rfl)).trans (congrArg _ (if_neg (by decide))))

/-- R345: a full block in its turn is acknowledged. -/
theorem tftpBlock_acknowledged (hdr : FwHeader) (link : s.pan.ethUp = true) :
    ∃ t, exec (.tftpBlock s.fw.tftp 512 hdr) s = .next t ∧ t.out = [.net [4, s.fw.tftp]] ∧ t.fw.tftp = s.fw.tftp + 1 ∧
        t.rd F.FW_REC_XPORT = 3 ∧ Leaves s t [(F.FW_REC_BYTES, 0), (F.FW_REC_XPORT, 0), (F.FW_REC_PROG, 0)] := by
  obtain ⟨port, _⟩ := tftpTaken_shows s.begin
  obtain ⟨_, leaves⟩ := tftpTaken_shows s
  exact ⟨_, exec_tftpBlock_turn phase hdr link, rfl, rfl, port, leaves.send (.net [4, s.fw.tftp])⟩

/-- R345: the last acknowledgement, or the request, is sent again, five times. -/
theorem tftpRetransmit_again (link : s.pan.ethUp = true) (few : s.fw.tries < 5) :
    ∃ t, exec .tftpRetransmit s = .next t ∧ t.fw.tries = s.fw.tries + 1 ∧
        t.out = [.net (if s.fw.tftp = 1 then [1] else [4, s.fw.tftp - 1])] ∧ Leaves s t [] := by
  have leaves : Leaves s { s.begin with fw := { s.fw with tries := s.fw.tries + 1 } } [] :=
    (leaves_begin s []).still ⟨rfl, rfl, rfl, rfl, rfl, rfl⟩ rfl
  exact ⟨_, (if_neg (tftp_served phase link)).trans (if_pos few), rfl, rfl,
    leaves.send (.net (if s.fw.tftp = 1 then [1] else [4, s.fw.tftp - 1]))⟩

/-- R345: after five the transfer starts again. -/
theorem tftpRetransmit_restarts (link : s.pan.ethUp = true) (many : s.fw.tries = 5) :
    ∃ t, exec .tftpRetransmit s = .next t ∧ t.fw.tftp = 1 ∧ t.fw.tries = 0 ∧ t.rd F.FW_REC_BYTES = 0 ∧
        Leaves s t [(F.FW_REC_BYTES, 0)] := by
  have leaves : Leaves s { s.begin with fw := { s.fw with tftp := 1, tries := 0 } } [(F.FW_REC_BYTES, 0)] :=
    (leaves_begin s _).still ⟨rfl, rfl, rfl, rfl, rfl, rfl⟩ rfl
  have spent : ¬ s.begin.fw.tries < 5 := by
    change ¬ s.fw.tries < 5
    omega
  exact ⟨_, (if_neg (tftp_served phase link)).trans (if_neg spent), rfl, rfl, State.wr_rd_self .., leaves.wr _ _ (by simp)⟩

end

/-- Settles O40. -/
theorem firmware : Obligations.Firmware := by
  unfold Obligations.Firmware
  refine ⟨⟨fun s h tag ready mp => ⟨?stage, fwStatus_posts tag ready mp, ?activate, fun n => exec_spReload_real tag ready mp,
      congrArg Host.Outcome.next (adminMp_ready ready mp ..)⟩, fun s => ⟨exec_norOperation_part, exec_norOperation_suspended, ?programmed, ?taken⟩,
      fun s v ready => ⟨fun off len hdr => exec_transferFw_whole ready hdr, fun b => exec_activateFw_offline ready⟩,
      fun s v => exec_getFwInfo_reports⟩, ?trial, ?confirm, fwCtl_sets, ?status, ?recovery⟩
  case stage => exact fun addr len off last hdr => exec_fwStage_idle tag ready mp addr last hdr
  case activate =>
    exact fun b phase staged => ⟨exec_fwActivate_offline tag ready mp phase staged, exec_fwActivate_online tag ready mp phase staged⟩
  case programmed =>
    intro program none_
    refine (exec_norOperation_program program).trans ?_
    rw [none_]
  case taken =>
    intro p program some_
    refine (exec_norOperation_program program).trans ?_
    rw [some_]
  case trial =>
    exact fun s phase trial mp sps calm due => ⟨exec_trialConfirmTimeout_due phase trial mp sps calm due, confirmTrial_ends (s := s.begin) trial⟩
  case confirm =>
    intro s v ready
    have whole := exec_confirmFirmware_mbox ready
    exact ⟨fun trial => whole.trans (by rw [if_pos trial]), fun none_ => whole.trans (by rw [if_neg (ne_true_of_eq_false none_)]),
      exec_requestRecovery_service ready⟩
  case status =>
    intro s v open_ served
    refine (congrArg Host.Outcome.next (mbox_reports open_ served ..)).trans ?_
    dsimp only
    rw [stgWord_eq]
    rfl
  case recovery =>
    exact fun s phase => ⟨fun xport hdr => exec_recoveryImage_verifies phase xport, fun link =>
      ⟨fun hdr => tftpBlock_acknowledged phase hdr link, tftpRetransmit_again phase link, tftpRetransmit_restarts phase link⟩⟩

end Sys2Proof.Machine
end

section
/-! PROOFS. The removal hold, and the inputs of the service panel (O41). -/
namespace Sys2Proof.Machine

/-! ### The removal hold -/

/-- R393: a request while hosts are served, with no hold yet, begins the hold. -/
theorem requestHold_begins {s : State} (source : Nat) (serving : s.serving = true) (seated : s.removing = false) :
    s.requestHold source = (s.event 0xF102 [source, s.phase, 1]).beginHold := by
  unfold State.requestHold
  rw [if_neg (ne_true_of_eq_false seated), serving, show bit01 true = 1 from rfl]
  exact if_pos rfl

section
variable {s : State} {v : Via} (ready : MailboxReady s v)
include ready

theorem exec_requestRemoval_serving (serving : s.serving = true) (seated : s.removing = false) : exec (.requestRemoval v) s =
      .next ((s.begin.event 0xF102 [1, s.phase, 1]).beginHold.reply v .success []) := by
  refine (answer_mbox ready ..).trans (congrArg _ ((if_pos serving).trans ?_))
  rw [requestHold_begins (s := s.begin) 1 serving seated]
  rfl

theorem exec_removalCancel_mbox : exec (.removalCancel v) s = .next ((s.begin.releaseHold 1).reply v .success []) := answer_mbox ready ..

end

/-- R393: in DRAINING, once the conditions hold, the module may be removed. -/
theorem removalSafe_turns {s : State} (draining : s.rd F.GEN_PANEL_RMV = 1) (serving : s.serving = true) (safe : s.removalSafe = true) :
    ∃ t, exec .removalSafe s = .next t ∧ t.rd F.GEN_PANEL_RMV = 2 ∧ Leaves s t [(F.GEN_PANEL_RMV, 0)] ∧
      (FMap.get {} t.ev.sums 0xF103).count = (FMap.get {} s.ev.sums 0xF103).count + 1 := by
  refine ⟨_, if_pos ⟨draining, serving, safe⟩, ?_, ((leaves_begin s _).wr _ _ (by simp)).event _ _, event_count _ _ _⟩
  exact (rdi_eq_of_regs (State.event_regs _ _ _) F.GEN_PANEL_RMV 0).trans (State.wr_rd_self ..)

/-- R394: a 3 s press is acted on once. -/
def State.pressActed (s : State) : State :=
  let t := s.begin.wr F.GEN_PINS_BTN 0
  { t with pan := { t.pan with acted := true } }

theorem panelOn_of_reads {s t : State} (power : t.rd F.PW_DOM_DOM = s.rd F.PW_DOM_DOM) (ready : t.pan.ready = s.pan.ready) :
    t.panelOn = s.panelOn := by
  rw [State.panelOn, State.panelOn, State.dom, State.dom, power, ready]

theorem pressActed_reads (s : State) : (s.begin.wr F.GEN_PINS_BTN 0).panelOn = s.panelOn ∧ s.pressActed.phase = s.phase ∧
    s.pressActed.rd F.GEN_PANEL_RMV = s.rd F.GEN_PANEL_RMV := by
  exact ⟨panelOn_of_reads (State.wr_rd_ne s.begin 0 (by decide)) rfl, State.wr_rd_ne s.begin 0 (by decide), State.wr_rd_ne s.begin 0 (by decide)⟩

section
variable {s : State} (on : s.panelOn = true) (fresh : s.pan.acted = false) (serving : s.serving = true)
include on fresh serving

/-- R394: a 3 s press begins the hold, or ends it. -/
theorem exec_buttonHold3s_serving : exec .buttonHold3s s =
    .next (if s.removing then s.pressActed.releaseHold 0 else (s.pressActed.event 0xF102 [0, s.phase, 1]).beginHold) := by
  obtain ⟨power, phase, hold⟩ := pressActed_reads s
  have on' : ¬ (!(s.begin.wr F.GEN_PINS_BTN 0).panelOn || (s.begin.wr F.GEN_PINS_BTN 0).pan.acted) = true := by
    rw [show (s.begin.wr F.GEN_PINS_BTN 0).panelOn = true from power.trans on, show (s.begin.wr F.GEN_PINS_BTN 0).pan.acted = false from fresh]
    decide
  have serving' : s.pressActed.serving = true := by
    rw [State.serving, phase]
    exact serving
  have holds : s.pressActed.removing = s.removing := by rw [State.removing, hold, State.removing]
  refine (if_neg on').trans (congrArg Host.Outcome.next ?_)
  change (if (s.pressActed.removing && s.pressActed.serving) = true then s.pressActed.releaseHold 0 else s.pressActed.requestHold 0) = _
  rw [holds, serving', Bool.and_true, ← phase]
  by_cases removing : s.removing = true
  · rw [if_pos removing, if_pos removing]
  · rw [if_neg removing, if_neg removing]
    exact requestHold_begins 0 serving' (holds.trans (Bool.eq_false_iff.mpr removing))

end

/-! ### Presses and touches -/

/-- R390: a short press toggles the locate light and is counted. -/
theorem buttonPress_toggles {s : State} {ms : Nat} (short : ms < 1000) (on : s.panelOn = true) :
    ∃ t, exec (.buttonPressRelease ms) s = .next t ∧ t.rd F.GEN_PINS_BTN = 1 ∧ t.pan.acted = false ∧
      t.rd F.GEN_PANEL_LOCATE = (1 - s.rd F.GEN_PANEL_LOCATE) % 2 ∧
      t.rd F.GEN_PANEL_PRESSES = min (s.rd F.GEN_PANEL_PRESSES + 1) (2 ^ F.GEN_PANEL_PRESSES.width - 1) % 2 ^ F.GEN_PANEL_PRESSES.width ∧
      (FMap.get {} t.ev.sums 0xF101).count = (FMap.get {} s.ev.sums 0xF101).count + 1 ∧
      Leaves s t [(F.GEN_PINS_BTN, 0), (F.GEN_PANEL_LOCATE, 0), (F.GEN_PANEL_PRESSES, 0)] := by
  let a : State := { s.begin.wr F.GEN_PINS_BTN 1 with pan := { s.pan with acted := false } }
  let b : State := a.bump F.GEN_PANEL_PRESSES
  have power : a.panelOn = s.panelOn := panelOn_of_reads (State.wr_rd_ne s.begin 1 (by decide)) rfl
  have button : a.rd F.GEN_PINS_BTN = 1 := State.wr_rd_self s.begin F.GEN_PINS_BTN 1
  have presses : a.rd F.GEN_PANEL_PRESSES = s.rd F.GEN_PANEL_PRESSES := State.wr_rd_ne s.begin 1 (by decide)
  have locate : b.rd F.GEN_PANEL_LOCATE = s.rd F.GEN_PANEL_LOCATE :=
    (State.wr_rd_ne a _ (by decide)).trans (State.wr_rd_ne s.begin 1 (by decide))
  have leaves : Leaves s a [(F.GEN_PINS_BTN, 0), (F.GEN_PANEL_LOCATE, 0), (F.GEN_PANEL_PRESSES, 0)] :=
    ((leaves_begin s _).wr F.GEN_PINS_BTN 1 (by simp)).still ⟨rfl, rfl, rfl, rfl, rfl, rfl⟩ rfl
  have whole : exec (.buttonPressRelease ms) s =
      .next ((b.wr F.GEN_PANEL_LOCATE (1 - b.rd F.GEN_PANEL_LOCATE)).event 0xF101 [1 - b.rd F.GEN_PANEL_LOCATE]) := by
    have on' : ¬ (!a.panelOn) = true := by
      rw [power, on]
      decide
    exact (if_neg on').trans (if_pos short)
  have regs := State.event_regs (b.wr F.GEN_PANEL_LOCATE (1 - b.rd F.GEN_PANEL_LOCATE)) 0xF101 [1 - b.rd F.GEN_PANEL_LOCATE]
  refine ⟨_, whole, ?_, ?_, ?_, ?_, event_count _ _ _, ((leaves.bump _ (by simp)).wr _ _ (by simp)).event _ _⟩
  · exact (rdi_eq_of_regs regs _ _).trans ((State.wr_rd_ne b _ (by decide)).trans ((State.wr_rd_ne a _ (by decide)).trans button))
  · rw [State.event_pan]
    rfl
  · rw [← locate]
    exact (rdi_eq_of_regs regs _ _).trans (State.wr_rd_self b F.GEN_PANEL_LOCATE _)
  · rw [← presses]
    exact (rdi_eq_of_regs regs _ _).trans ((State.wr_rd_ne b _ (by decide)).trans (State.wr_rd_self a F.GEN_PANEL_PRESSES _))

theorem settleAttn_pan (s : State) : s.settleAttn.pan = s.pan := by simp [State.settleAttn, apply_ite State.pan]

/-- R392: what a measurement above the threshold counts. -/
theorem exec_touchMeasure_touched {s : State} {count base : Nat} (on : s.panelOn = true) (based : s.pan.touchBase = some base)
    (touched : s.begin.settleAttn.touched base count = true) :
    let t := s.begin.settleAttn
    let u : State := { t with pan := { t.pan with touch := s.pan.touch + 1 } }
    exec (.touchMeasure count) s = .next (if s.pan.touch = 199 then (if s.pan.touch = 4 then u.bump F.GEN_PANEL_TOUCHES else u).silenceAttn
      else if s.pan.touch = 4 then u.bump F.GEN_PANEL_TOUCHES else u) := by
  have on' : ¬ (!s.begin.panelOn) = true := by
    rw [show s.begin.panelOn = true from on]
    decide
  have based' : s.begin.pan.touchBase = some base := based
  have count_ : s.begin.settleAttn.pan.touch = s.pan.touch := congrArg Panel.touch (settleAttn_pan s.begin)
  change execTouchMeasure count s = _
  unfold execTouchMeasure
  rw [if_neg on', based']
  dsimp only
  rw [if_pos touched, count_]
  simp only [Nat.reduceEqDiff]

/-! ### The module in its bay and the management link -/

section
variable {s : State} (notOff : s.phase ≠ phOff) (awake : s.phase ≠ phDormant)
include notOff awake

theorem exec_moduleUnseated_dark (dark : s.ledSafe ≠ 1) : exec .moduleUnseated s =
      .next (((((s.begin.wr F.GEN_PINS_PRSNT 1).event 0xF107 [s.ledSafe])).latchAttn 13).settleAttn) := by
  have phase : (s.begin.wr F.GEN_PINS_PRSNT 1).phase = s.phase := State.wr_rd_ne s.begin 1 (by decide)
  have lit : (s.begin.wr F.GEN_PINS_PRSNT 1).ledSafe = s.ledSafe := ledSafe_of_reads phase
    (State.wri_rdi_ne s.begin 1 (by decide)) (State.wri_rdi_ne s.begin 1 (by decide)) (State.wri_rdi_ne s.begin 1 (by decide))
  have up : ¬ ((s.begin.wr F.GEN_PINS_PRSNT 1).phase = phOff ∨ (s.begin.wr F.GEN_PINS_PRSNT 1).phase = phDormant) := by
    rw [phase]
    exact fun down => down.elim notOff awake
  change execModuleUnseated s = _
  unfold execModuleUnseated
  rw [if_neg up, lit]
  exact congrArg _ (if_pos dark)

theorem exec_moduleSeated_awake : let t := s.begin.wr F.GEN_PINS_PRSNT 0
     exec .moduleSeated s =
      .next ((({ t with pan := { t.pan with latched := t.pan.latched.filter fun b => b != 13 } } : State).settleAttn).trainLinks) := by
  have phase : (s.begin.wr F.GEN_PINS_PRSNT 0).phase = s.phase := State.wr_rd_ne s.begin 0 (by decide)
  refine if_neg ?_
  rw [phase]
  exact fun down => down.elim notOff awake

end

/-- Settles O41. -/
theorem panel : Obligations.Panel := by
  unfold Obligations.Panel
  refine ⟨⟨fun s v ready => ⟨exec_requestRemoval_serving ready, fun _ => exec_removalCancel_mbox ready⟩, fun s => removalSafe_turns,
    fun s safe => if_pos safe, fun s on fresh serving => ?press⟩, fun s ms => buttonPress_toggles, fun s count base on based touched => ?touch,
    fun s v on ready => answer_mbox ready .., fun s notOff awake => ⟨exec_moduleUnseated_dark notOff awake, exec_moduleSeated_awake notOff awake⟩,
    fun s up on => if_neg (not_not.mpr on), fun s v ready => answer_mbox ready ..⟩
  case press =>
    have whole := exec_buttonHold3s_serving on fresh serving
    exact ⟨fun seated => whole.trans (by rw [if_neg (ne_true_of_eq_false seated)]; rfl), fun removing => whole.trans (by rw [if_pos removing]; rfl)⟩
  case touch =>
    have whole := exec_touchMeasure_touched on based touched
    exact ⟨fun fifth => whole.trans (by rw [if_neg (by omega), if_pos fifth]), fun last => whole.trans (by rw [if_pos last, if_neg (by omega)])⟩

end Sys2Proof.Machine
end

section
/-! PROOFS. Rails report power-good, fault and warn, and the wait in OFF ends (O45). -/
namespace Sys2Proof.Machine

/-! ### Power-good -/

theorem exec_railPowerGood_outside {s : State} {slot mv : Nat} (outside : inWindow (s.railNominal slot) mv = false) :
    exec (.railPowerGood slot mv) s = .next s.begin :=
  if_pos (.inr (by rw [show s.begin.railNominal slot = s.railNominal slot from rfl, outside]; rfl))

/-- R274: a rail in its turn, with every rail before it in its step good, advances the sequence. -/
theorem exec_railPowerGood_turn {s : State} {slot mv : Nat} (known : slot < 16) (inside : inWindow (s.railNominal slot) mv = true)
    (rising : s.pw.up ≠ 0) (step : (s.stepSlots s.pw.up).contains slot = true)
    (before : (((s.stepSlots s.pw.up).takeWhile (· != slot)).all fun i => s.pw.good.contains i) = true) :
    let t := (s.begin.wri F.PW_RMON_PG slot 1).wri F.PW_RMON_VOUT slot mv
    exec (.railPowerGood slot mv) s =
      .next (({ t with pw := { t.pw with good := slot :: t.pw.good.filter (· != slot) } } : State).powerAdvance 9) := by
  have turn : (s.begin.stepSlots s.begin.pw.up).contains slot &&
      ((s.begin.stepSlots s.begin.pw.up).takeWhile (· != slot)).all fun i => s.begin.pw.good.contains i :=
    Bool.and_eq_true_iff.mpr ⟨step, before⟩
  have good : ¬ (16 ≤ slot ∨ (!inWindow (s.begin.railNominal slot) mv) = true) := by
    rw [show s.begin.railNominal slot = s.railNominal slot from rfl, inside]
    simpa using known
  exact (if_neg good).trans ((if_pos rising).trans (if_pos turn))

/-! ### A fault -/

/-- R281: what a fault shows in the fault register. -/
def State.faultShown (s : State) (slot kind : Nat) : State :=
  let t := ((s.wr F.PW_FAULT_KIND kind).wr F.PW_FAULT_SLOT slot).wr F.PW_FAULT_STEP (s.rd F.PW_STATE_STEP)
  ((t.wr F.PW_FAULT_SEQ (s.rd F.PW_STATE_SEQ)).bump F.PW_FAULT_COUNT).wri F.PW_RMON_FAULT slot 1

/-- A field of one place outside the rails' monitors and the fault register reads as before in a fault shown. -/
theorem faultShown_rd (s : State) (slot kind : Nat) {f : Field} (monitor : F.PW_RMON_FAULT.key slot ≠ f.key 0)
    (other : (([F.PW_FAULT_KIND, F.PW_FAULT_SLOT, F.PW_FAULT_STEP, F.PW_FAULT_SEQ, F.PW_FAULT_COUNT].map (·.key 0)).contains (f.key 0)) = false) :
    (s.faultShown slot kind).rd f = s.rd f := by
  simp only [List.map_cons, List.map_nil, List.contains_cons, List.contains_nil, Bool.or_false, Bool.or_eq_false_iff, beq_eq_false_iff_ne] at other
  obtain ⟨kind', slot', step, seq, count⟩ := other
  have writes : Writes [(F.PW_FAULT_KIND, 0), (F.PW_FAULT_SLOT, 0), (F.PW_FAULT_STEP, 0), (F.PW_FAULT_SEQ, 0), (F.PW_FAULT_COUNT, 0),
      (F.PW_RMON_FAULT, slot)] s (s.faultShown slot kind) :=
    ((((((Writes.refl _ s).wr _ _ (by simp)).wr _ _ (by simp)).wr _ _ (by simp)).wr _ _ (by simp)).wr _ _ (by simp)).wri _ _ _ (by simp)
  refine writes f 0 fun e listed => ?_
  simp only [List.mem_cons, List.not_mem_nil, or_false] at listed
  rcases listed with rfl | rfl | rfl | rfl | rfl | rfl
  exacts [kind'.symm, slot'.symm, step.symm, seq.symm, count.symm, monitor]

theorem writes_snapNow (s : State) (key : Nat) : Writes [(F.PW_SNAP_COUNT, 0), (F.PW_SNAP_STORED, 0)] s (s.snapNow key) := by
  unfold State.snapNow
  extract_lets x p t u
  have counted : Writes [(F.PW_SNAP_COUNT, 0), (F.PW_SNAP_STORED, 0)] s u :=
    (((Writes.refl _ s).regs (u := t) rfl).wr _ _ (by simp)).event _ _
  clear_value u
  exact .ite _ ((counted.regs (u := { u with pw := _ }) rfl).wr _ _ (by simp)) counted

theorem writes_snapshot (s : State) (cause slot : Nat) :
    Writes [(F.PW_SNAP_COUNT, 0), (F.PW_SNAP_STORED, 0), (F.PW_SNAP_SUPPR, 0)] s (s.snapshot cause slot) := by
  unfold State.snapshot
  split
  · exact .ite _ ((Writes.refl _ s).wr _ _ (by simp)) ((writes_snapNow s _).mono (by simp))
  · exact (writes_snapNow s _).mono (by simp)

theorem railFault_serving {s : State} {slot kind : Nat} (known : slot < 16) (present : s.flagi F.PW_RAIL_EN slot = true)
    (serving : s.serving = true) (pgStays : kind ≠ 3 ∧ kind ≠ 4) :
    let t := ((s.faultShown slot kind).snapshot 1 slot).event 0xA003 [slot, kind, s.rd F.PW_STATE_STEP]
    s.railFault slot kind =
      if s.rdi F.PW_RAIL_GRP slot = 3 ∨ s.rdi F.PW_RAIL_GRP slot = 4 then t.groupFault (s.rdi F.PW_RAIL_GRP slot) else t.powerTrigger 1 0 0 := by
  intro t
  have phase : s.phase = phService ∨ s.phase = phRestore := phase_of_serving serving
  have awake : ¬ (16 ≤ slot ∨ s.flagi F.PW_RAIL_EN slot = false ∨ s.phase = phOff ∨ (s.phase = phDormant ∧ s.pw.down = none)) := by
    rintro (far | absent | off | ⟨dormant, -⟩)
    · omega
    · rw [present] at absent; cases absent
    · rw [off] at phase; exact absurd phase (by decide)
    · rw [dormant] at phase; exact absurd phase (by decide)
  have seq : (((s.wr F.PW_FAULT_KIND kind).wr F.PW_FAULT_SLOT slot).wr F.PW_FAULT_STEP (s.rd F.PW_STATE_STEP)).rd F.PW_STATE_SEQ = s.rd F.PW_STATE_SEQ :=
    (((Writes.refl [(F.PW_FAULT_KIND, 0), (F.PW_FAULT_SLOT, 0), (F.PW_FAULT_STEP, 0)] s).wr _ _ (by simp)).wr _ _ (by simp)).wr _ _ (by simp)
      |>.rd (by decide)
  have step : (s.faultShown slot kind).rd F.PW_STATE_STEP = s.rd F.PW_STATE_STEP :=
    faultShown_rd s slot kind (by simp only [Field.key, F.PW_RMON_FAULT, F.PW_STATE_STEP]; omega) (by decide)
  have phase' : t.phase = s.phase := by
    refine (rdi_eq_of_regs (State.event_regs _ _ _) _ 0).trans (((writes_snapshot _ 1 slot).rd (by decide)).trans ?_)
    exact faultShown_rd s slot kind (by simp only [Field.key, F.PW_RMON_FAULT, F.GEN_PHASE_PHASE]; omega) (by decide)
  unfold State.railFault
  rw [if_neg awake]
  extract_lets g t1 t2 t3 t4 link
  have same : t4 = t := by
    have shown : t2 = s.faultShown slot kind := by
      rw [show t2 = ((t1.wr F.PW_FAULT_SEQ (t1.rd F.PW_STATE_SEQ)).bump F.PW_FAULT_COUNT).wri F.PW_RMON_FAULT slot 1 from rfl, seq]; rfl
    have kept : t3 = t2 := if_neg (by omega)
    rw [show t4 = (t3.snapshot 1 slot).event 0xA003 [slot, kind, t3.rd F.PW_STATE_STEP] from rfl, kept, shown, step]
  have linkIff : link = true ↔ g = 3 ∨ g = 4 := by simp [link]
  clear_value link
  rw [same]
  have serving' : t.serving = true := (serving_of_phase phase').trans serving
  have notDormant : t.phase ≠ phDormant := by rw [phase']; rcases phase with h | h <;> rw [h] <;> decide
  have notBringup : t.phase ≠ phBringup := by rw [phase']; rcases phase with h | h <;> rw [h] <;> decide
  rw [if_neg notDormant, if_neg notBringup, if_pos serving']
  exact if_congr linkIff rfl rfl

/-! ### A warning -/

theorem railWarning_shown {s : State} {slot : Nat} (mv : Nat) (known : slot < 16) (present : s.flagi F.PW_RAIL_EN slot = true) (on : s.phase ≠ phOff)
    (awake : s.phase ≠ phDormant) :
    ∃ t, exec (.railWarning slot 1 mv) s = .next t ∧ t.rdi F.PW_RMON_VOUT slot = mv % 2 ^ F.PW_RMON_VOUT.width ∧
      (FMap.get {} t.ev.sums 0xA004).count = (FMap.get {} s.ev.sums 0xA004).count + 1 ∧ Leaves s t [(F.PW_RMON_VOUT, slot)] := by
  have works : ¬ (16 ≤ slot ∨ s.begin.flagi F.PW_RAIL_EN slot = false ∨ s.begin.phase = phOff ∨ s.begin.phase = phDormant) := by
    rintro (far | absent | off | dormant)
    · omega
    · rw [show s.begin.flagi F.PW_RAIL_EN slot = true from present] at absent; cases absent
    · exact on off
    · exact awake dormant
  refine ⟨(s.begin.wri F.PW_RMON_VOUT slot mv).event 0xA004 [slot, 1, mv], if_neg works, ?_, event_count _ _ _,
    ((leaves_begin s _).wri _ _ _ (by simp)).event _ _⟩
  exact (rdi_eq_of_regs (State.event_regs _ _ _) _ _).trans (State.wri_rdi_self ..)

/-! ### The wait in OFF -/

theorem exec_offWaitExpiry_waiting {s : State} (ticks : Nat) (waiting : s.begin.downRest.rd F.PW_STATE_SEQ = 3) :
    let d := s.begin.downRest
    let t := (d.wr F.PW_STATE_ONPEND 0).setSeq 0 0
    exec (.offWaitExpiry ticks) s = .next (if d.phase = phDormant then t.powerStart d.pw.cause ticks else t.powerUp) := by
  intro d t
  have phase : t.phase = d.phase :=
    (((Writes.refl [(F.PW_STATE_ONPEND, 0), (F.PW_STATE_SEQ, 0), (F.PW_STATE_STEP, 0)] d).wr _ _ (by simp)).wr _ _ (by simp)).wr _ _ (by simp)
      |>.rd (by decide)
  refine (if_neg (not_not_intro waiting)).trans ?_
  change (if t.phase = phDormant then Host.Outcome.next (t.powerStart d.pw.cause ticks) else Host.Outcome.next t.powerUp : Answer) = _
  rw [phase, apply_ite Host.Outcome.next]

/-- Settles O45. -/
theorem railEvents : Obligations.RailEvents := by
  refine ⟨fun s slot mv known => ⟨exec_railPowerGood_outside, exec_railPowerGood_turn known⟩, ?_, fun s slot mv => railWarning_shown mv,
    fun s ticks => exec_offWaitExpiry_waiting ticks⟩
  intro s slot kind known present serving notThree notFour t t' t''
  exact congrArg Host.Outcome.next (railFault_serving (s := s.begin) known present serving ⟨notThree, notFour⟩)

end Sys2Proof.Machine
end

section
/-! PROOFS. Software resets, and the release of RESET_N (O48). -/
namespace Sys2Proof.Machine

/-- R399: while the device is awake a software reset records its event and resets as RESET_N does. -/
theorem softReset_awake {s : State} (source ticks : Nat) (on : s.phase ≠ phOff) (awake : s.phase ≠ phDormant) :
    s.softReset source ticks = (s.event 0xF109 [source]).deviceReset source ticks := if_neg (not_or.mpr ⟨on, awake⟩)

/-! ### GEN_RST -/

theorem exec_genRstWrite_key {s : State} {sb : Bool} {val : Nat} (ticks : Nat) (on : s.phase ≠ phOff) (awake : s.phase ≠ phDormant)
    (key : natField val 56 8 = 0xA5) (reset : natBit val 0 = true) (enabled : sb = false ∨ natBit (s.rd F.TWB_SB_WRMASK) 0 = true) :
    exec (.genRstWrite sb val ticks) s = .next ((s.begin.event 0xF109 [bit01 sb]).deviceReset (bit01 sb) ticks) :=
  (if_pos ⟨key, reset, enabled⟩).trans (congrArg _ (softReset_awake (s := s.begin) _ _ on awake))

theorem exec_genRstWrite_other {s : State} {sb : Bool} {val ticks : Nat} (other : natField val 56 8 ≠ 0xA5 ∨ natBit val 0 = false) :
    exec (.genRstWrite sb val ticks) s = .next s.begin := by
  refine if_neg fun ⟨key, reset, _⟩ => ?_
  rcases other with noKey | noReset
  · exact noKey key
  · rw [noReset] at reset; cases reset

/-! ### RESET_N in SAVE and its release -/

/-- R123: the first reset in SAVE is deferred. -/
theorem exec_resetNAssert_save {s : State} (ticks : Nat) (saving : s.phase = phSave) (first : s.flag F.SPN_SAVE_DEFER = false) :
    exec (.resetNAssert ticks) s = .next ((s.resetSeen.wr F.SPN_SAVE_DEFER 1).event 0x4005 [0]) := by
  have phase : s.resetSeen.phase = phSave := (phase_of_write (f := F.GEN_PINS_RESET) 0 rfl (by decide)).trans saving
  have idle : s.resetSeen.serving = false := by rw [State.serving, phase]; decide
  have defer : s.resetSeen.flag F.SPN_SAVE_DEFER = false := by
    rw [← first, State.flag, State.flag, show s.resetSeen.rd F.SPN_SAVE_DEFER = s.rd F.SPN_SAVE_DEFER from State.wr_rd_ne s.begin 0 (by decide)]
  change Host.Outcome.next (s.resetSeen.deviceReset 0 ticks) = _
  unfold State.deviceReset
  rw [idle, if_neg Bool.false_ne_true, phase, if_neg (by decide), if_pos rfl, defer, if_neg Bool.false_ne_true]

/-- R385: the state after RESET_N has risen. -/
def State.resetRisen (s : State) : State := { s.begin.wr F.GEN_PINS_RESET 1 with pw := { s.pw with resetLow := false } }

theorem resetRisen_reads (s : State) : s.resetRisen.phase = s.phase ∧ s.resetRisen.mpRuns = s.mpRuns := by
  refine ⟨phase_of_write (f := F.GEN_PINS_RESET) 1 rfl (by decide), ?_⟩
  unfold State.mpRuns State.proc
  rw [show s.resetRisen.rd F.FW_PROC_STATE = s.rd F.FW_PROC_STATE from State.wr_rd_ne s.begin 1 (by decide)]

theorem exec_resetNRelease_dormant {s : State} (ticks : Nat) (dormant : s.phase = phDormant) (held : s.pw.onHeld = true) :
    exec (.resetNRelease ticks) s = .next (s.resetRisen.onRequest s.pw.cause ticks) :=
  if_pos ⟨.inr ((resetRisen_reads s).1.trans dormant), held⟩

theorem exec_resetNRelease_bringup {s : State} (ticks : Nat) (bringup : s.phase = phBringup) (stopped : s.mpRuns = false) (powered : 2 ≤ s.pw.done) :
    exec (.resetNRelease ticks) s = .next (s.resetRisen.bootChain.powerAdvance 9) := by
  obtain ⟨phase, mp⟩ := resetRisen_reads s
  have held : ¬ ((s.resetRisen.phase = phOff ∨ s.resetRisen.phase = phDormant) ∧ s.resetRisen.pw.onHeld = true) := by
    rw [phase, bringup]; exact fun h => absurd h.1 (by decide)
  exact (if_neg held).trans (if_pos ⟨phase.trans bringup, mp.trans stopped, powered⟩)

/-! ### The command and the datagram -/

/-- A reply leaves the phase. -/
theorem reply_phase (s : State) (v : Via) (r : Ret) (ws : List Nat) : (s.reply v r ws).phase = s.phase :=
  rdi_eq_of_regs (State.reply_regs _ _ _ _) _ _

/-- A mailbox that is open is that of a device that is awake. -/
theorem phase_of_viaOpen {s : State} {v : Via} (opened : s.viaOpen v = true) : s.phase ≠ phOff ∧ s.phase ≠ phDormant := by
  simp only [State.viaOpen, Bool.and_eq_true, bne_iff_ne] at opened
  exact opened.1

theorem exec_resetDevice_mbox {s : State} {v : Via} (ready : MailboxReady s v) :
    exec (.resetDevice v) s = .next (((s.begin.reply v .success []).event 0xF109 [2]).deviceReset 2 0) := by
  obtain ⟨on, awake⟩ := phase_of_viaOpen ready.1
  exact (answer_mbox ready ..).trans (congrArg _ (softReset_awake 2 0 ((reply_phase ..).trans_ne on) ((reply_phase ..).trans_ne awake)))

section
variable {s : State} {payload : List Byte} (sized : payload.length = 16) (magic : natField (joinBytes payload) 0 32 = 0x52535444)
  (zero : natField (joinBytes payload) 32 32 = 0) (serial : natField (joinBytes payload) 64 64 = s.rd F.GEN_SERIAL_SERIAL)
include sized magic zero serial

theorem exec_resetDatagram_enabled (on : s.phase ≠ phOff) (awake : s.phase ≠ phDormant) (up : s.pan.ethUp = true)
    (enabled : s.flag F.GEN_CFG_NETRST = true) : exec (.resetDatagram payload) s = .next ((s.begin.event 0xF109 [3]).deviceReset 3 0) :=
  (if_pos ⟨sized, magic, zero, serial, enabled, up⟩).trans (congrArg _ (softReset_awake (s := s.begin) _ _ on awake))

omit sized magic zero serial in
theorem exec_resetDatagram_disabled (disabled : s.flag F.GEN_CFG_NETRST = false) : exec (.resetDatagram payload) s = .next s.begin := by
  refine if_neg fun ⟨_, _, _, _, enabled, _⟩ => ?_
  rw [show s.begin.flag F.GEN_CFG_NETRST = false from disabled] at enabled
  cases enabled

end

/-- Settles O48. -/
theorem softwareResets : Obligations.SoftwareResets := by
  refine ⟨fun s sb val ticks on awake => ⟨exec_genRstWrite_key ticks on awake, exec_genRstWrite_other⟩, fun s ticks => exec_resetNAssert_save ticks,
    fun s v => exec_resetDevice_mbox, ?_, fun s ticks => ⟨exec_resetNRelease_dormant ticks, exec_resetNRelease_bringup ticks⟩⟩
  intro s payload on awake sized magic zero serial up
  exact ⟨exec_resetDatagram_enabled sized magic zero serial on awake up, exec_resetDatagram_disabled⟩

end Sys2Proof.Machine
end

section
/-! PROOFS. Key shares, nonces, the owner, the DRBG and the SPDM responder (O52). -/
namespace Sys2Proof.Machine

/-! ### Key shares -/

theorem exec_loadKeyShare_unlocked {s : State} {h slot : Nat} (key : Nat) (ready : MailboxReady s (.head h)) (ide : s.ideOn (.head h) = true)
    (checks : s.flag F.SEC_STS_LOCKOUT = false) (known : slot < 16)
    (unlocked : ((List.range 64).all fun n => s.shState n != shLocked) = true) :
    exec (.loadKeyShare (.head h) slot key) s = .next ((State.settleKeys { s.begin with sec := { s.sec with
      slots := FMap.put s.sec.slots slot (key % 2 ^ 256) } }).reply (.head h) .success []) := by
  refine (answer_mbox ready ..).trans (congrArg _ ?_)
  have none_ : ((List.range 64).filter fun n => s.begin.shState n == shLocked && s.begin.ownerSealed n) = [] := by
    refine List.filter_eq_nil_iff.mpr fun n listed => ?_
    have free : (s.begin.shState n == shLocked) = false := beq_false_of_ne (bne_iff_ne.mp (List.all_eq_true.mp unlocked n listed))
    rw [free]
    exact Bool.false_ne_true
  dsimp only
  rw [if_neg (by rw [show s.begin.ideOn (.head h) = true from ide, show s.begin.flag F.SEC_STS_LOCKOUT = false from checks]; decide),
    if_neg (by omega), none_]
  rfl

section
variable {s : State} {v : Via} (ready : MailboxReady s v)
include ready

theorem exec_clearKeyShare_known {slot : Nat} (known : slot < 16 ∨ slot = 0xFF) :
    exec (.clearKeyShare v slot) s = .next ((State.settleKeys { s.begin with sec := { s.sec with
      slots := if slot = 0xFF then [] else FMap.del s.sec.slots slot } }).reply v .success []) :=
  (answer_mbox ready ..).trans (congrArg _ (if_neg (by omega)))

theorem exec_getSecurityStatus_mbox : exec (.getSecurityStatus v) s = .next (s.begin.reply v .success s.secWords) := answer_mbox ready ..

/-! ### Nonces -/

theorem exec_getNonce_mbox (healthy : s.flag F.SEC_STS_DRBGOK = true) :
    exec (.getNonce v) s = .next (s.begin.newNonce.reply v .success s.begin.newNonce.nonceWords) := by
  change Host.Outcome.next (s.whenDrbg _ _) = _
  unfold State.whenDrbg
  rw [healthy, Bool.true_or, if_pos rfl]
  exact answer_mbox ready ..

end

/-- R361: a nonce shown in the four words of its register. -/
def State.nonceShown (s : State) : State := s.newNonce.forEach (List.range 4) fun a i => a.wri F.SEC_NONCE_NONCE i (s.newNonce.nonceWords.getD i 0)

theorem nonceShown_effect (s : State) :
    (∀ i, i < 4 → s.nonceShown.rdi F.SEC_NONCE_NONCE i = natField (s.drbgVal % 2 ^ 256) (64 * i) 64) ∧
    Leaves s s.nonceShown [(F.SEC_NONCE_NONCE, 0), (F.SEC_NONCE_NONCE, 1), (F.SEC_NONCE_NONCE, 2), (F.SEC_NONCE_NONCE, 3)] := by
  have drawn : Leaves s s.newNonce [(F.SEC_NONCE_NONCE, 0), (F.SEC_NONCE_NONCE, 1), (F.SEC_NONCE_NONCE, 2), (F.SEC_NONCE_NONCE, 3)] :=
    (still_newNonce s).leaves rfl _
  refine ⟨fun i small => ?_, (((drawn.wri _ _ _ (by simp)).wri _ _ _ (by simp)).wri _ _ _ (by simp)).wri _ _ _ (by simp)⟩
  have word (n i : Nat) : natField n (64 * i) 64 % 2 ^ F.SEC_NONCE_NONCE.width = natField n (64 * i) 64 := Nat.mod_mod _ _
  unfold State.nonceShown State.forEach
  interval_cases i
  all_goals
    simp only [show List.range 4 = [0, 1, 2, 3] from rfl, List.foldl_cons, List.foldl_nil]
  · rw [State.wri_rdi_ne _ _ (by decide), State.wri_rdi_ne _ _ (by decide), State.wri_rdi_ne _ _ (by decide), State.wri_rdi_self]
    exact word _ 0
  · rw [State.wri_rdi_ne _ _ (by decide), State.wri_rdi_ne _ _ (by decide), State.wri_rdi_self]
    exact word _ 1
  · rw [State.wri_rdi_ne _ _ (by decide), State.wri_rdi_self]
    exact word _ 2
  · rw [State.wri_rdi_self]
    exact word _ 3

theorem secNonceRead_shown {s : State} {h : Nat} (opened : s.viaOpen (.head h) = true) (healthy : s.flag F.SEC_STS_DRBGOK = true) :
    ∃ t, exec (.secNonceRead h) s = .next t ∧ t.sec.nonce = some (s.drbgVal % 2 ^ 256, s.ck.mono) ∧
      t.out = [.regData [s.drbgVal % 2 ^ 64]] ∧ (∀ i, i < 4 → t.rdi F.SEC_NONCE_NONCE i = natField (s.drbgVal % 2 ^ 256) (64 * i) 64) ∧
      Leaves s t [(F.SEC_NONCE_NONCE, 0), (F.SEC_NONCE_NONCE, 1), (F.SEC_NONCE_NONCE, 2), (F.SEC_NONCE_NONCE, 3)] := by
  obtain ⟨shown, leaves⟩ := nonceShown_effect s.begin
  refine ⟨s.begin.nonceShown.send (.regData [s.begin.newNonce.nonceWords.headD 0]), ?_, rfl, ?_, shown,
    Leaves.send (Leaves.trans (leaves_begin s _) leaves) _⟩
  · refine (if_neg (by rw [show s.begin.viaOpen (.head h) = true from opened]; decide)).trans (congrArg _ ?_)
    unfold State.whenDrbg
    rw [healthy, Bool.true_or, if_pos rfl]
    rfl
  · have low : natField (s.drbgVal % 2 ^ 256) (64 * 0) 64 = s.drbgVal % 2 ^ 64 := by
      unfold natField
      omega
    exact congrArg (fun n => [Msg.regData [n]]) low

theorem nonceExpiry_clears {s : State} {n at_ : Nat} (current : s.sec.nonce = some (n, at_)) (old : at_ + 300000000000 ≤ s.ck.mono) :
    ∃ t, exec .nonceExpiry s = .next t ∧ t.sec.nonce = none ∧ Leaves s t [] := by
  refine ⟨{ s.begin with sec := { s.sec with nonce := none } }, ?_, rfl, (leaves_begin s _).still ⟨rfl, rfl, rfl, rfl, rfl, rfl⟩ rfl⟩
  change (match s.sec.nonce with | some (_, a) => _ | none => _) = _
  simp only [current]
  exact if_pos old

/-! ### The owner -/

theorem exec_enrolOwner_first {s : State} {h : Nat} (key : Nat) (ready : MailboxReady s (.head h)) (unowned : s.sec.owner = none)
    (ide : s.ideOn (.head h) = true) :
    exec (.enrolOwner (.head h) key) s = .next ((s.begin.setOwner (some key)).reply (.head h) .success []) := by
  refine (answer_mbox ready ..).trans (congrArg _ ?_)
  have ok : (match s.begin.sec.owner with
      | none => s.begin.ideOn (.head h)
      | some _ => match s.begin.sec.replace with
        | some (p, till) => p == Config.keyDigest key % 2 ^ 128 && decide (s.begin.ck.mono ≤ till)
        | none => false) = true := by
    rw [show s.begin.sec.owner = none from unowned]
    exact ide
  exact if_pos ok

/-! ### The DRBG -/

theorem exec_drbgHealthFailure_healthy {s : State} (test : Nat) (on : s.phase ≠ phOff) (awake : s.phase ≠ phDormant)
    (healthy : s.flag F.SEC_STS_DRBGOK = true) :
    exec (.drbgHealthFailure test) s = .next (((s.begin.wr F.SEC_STS_DRBGOK 0).event 0xE002 [test]).updReady) := by
  have works : ¬ (s.begin.phase = phOff ∨ s.begin.phase = phDormant ∨ s.begin.flag F.SEC_STS_DRBGOK = false) := by
    rw [show s.begin.flag F.SEC_STS_DRBGOK = true from healthy]
    rintro (off | dormant | failed)
    exacts [on off, awake dormant, Bool.noConfusion failed]
  exact if_neg works

theorem exec_drbgRetry_passed {s : State} (on : s.phase ≠ phOff) (awake : s.phase ≠ phDormant) (failed : s.flag F.SEC_STS_DRBGOK = false) :
    let t := s.begin.wr F.SEC_STS_DRBGOK 1
    exec (.drbgRetry true) s = .next (State.updReady { t with mpWait := s.mpWait ++ s.sec.waits.map (fun c => (16, c, none))
                                                              sec := { s.sec with waits := [], seededAt := s.ck.mono, seeds := s.drbgCtr } }).imageStep := by
  have works : ¬ (true = false ∨ s.begin.flag F.SEC_STS_DRBGOK = true ∨ s.begin.phase = phOff ∨ s.begin.phase = phDormant) := by
    rw [show s.begin.flag F.SEC_STS_DRBGOK = false from failed]
    rintro (never | passed | off | dormant)
    exacts [Bool.noConfusion never, Bool.noConfusion passed, on off, awake dormant]
  exact if_neg works

theorem exec_drbgReseed_healthy {s : State} (healthy : s.flag F.SEC_STS_DRBGOK = true) :
    exec .drbgReseed s = .next { s.begin with sec := { s.sec with seededAt := s.ck.mono, seeds := s.drbgCtr } } := if_pos healthy

/-! ### The SPDM responder -/

section
variable {s : State} {h : Nat} {m : DoeMsg} (opened : s.viaOpen (.head h) = true) (runs : s.mpRuns = true) (phase : s.phase ≠ phRecovery)
include opened runs phase

theorem exec_spdmDoeMessage_unanswered (none_ : doeAnswer m (s.head h).spdm = none) :
    exec (.spdmDoeMessage h m) s = .next (s.begin.send (.doe h [0x7F, 0x04])) := by
  refine (if_neg ?_).trans ((if_neg ?_).trans ?_)
  · rw [show s.begin.viaOpen (.head h) = true from opened, show (s.begin.phase == phRecovery) = false from beq_false_of_ne phase]; decide
  · rw [show s.begin.mpRuns = true from runs]; decide
  · simp only [show doeAnswer m (s.begin.head h).spdm = none from none_]

theorem exec_spdmDoeMessage_answered {code st : Nat} (answer : doeAnswer m (s.head h).spdm = some (code, st))
    (kept : doeKeys m (s.head h).ideKeys = (s.head h).ideKeys) :
    exec (.spdmDoeMessage h m) s = .next ((((s.begin.setHead h { s.head h with spdm := st }).send (.doe h (code :: s.doeWords m))).skipFree).wri
        F.HP_LINK_IDE h (bit01 (natBit (s.head h).ideKeys 2 || natBit (s.head h).ideKeys 3))) := by
  refine (if_neg ?_).trans ((if_neg ?_).trans ?_)
  · rw [show s.begin.viaOpen (.head h) = true from opened, show (s.begin.phase == phRecovery) = false from beq_false_of_ne phase]; decide
  · rw [show s.begin.mpRuns = true from runs]; decide
  · simp only [show doeAnswer m (s.begin.head h).spdm = some (code, st) from answer,
      show doeKeys m (s.begin.head h).ideKeys = (s.head h).ideKeys from kept]
    exact congrArg _ (if_pos rfl)

end

/-- Settles O52. -/
theorem keysAndNonces : Obligations.KeysAndNonces := by
  refine ⟨fun s h slot key ready ide checks => exec_loadKeyShare_unlocked key ready ide checks, fun s v slot ready => exec_clearKeyShare_known ready,
    fun s v ready => ⟨exec_getSecurityStatus_mbox ready, exec_getNonce_mbox ready⟩, fun s h => secNonceRead_shown, fun s n at_ => nonceExpiry_clears,
    fun s h key => exec_enrolOwner_first key, fun s on awake => ⟨fun test => exec_drbgHealthFailure_healthy test on awake, exec_drbgRetry_passed on awake⟩,
    fun s => exec_drbgReseed_healthy, ?_⟩
  intro s h m opened runs phase
  exact ⟨exec_spdmDoeMessage_unanswered opened runs phase, fun code st => exec_spdmDoeMessage_answered opened runs phase⟩

end Sys2Proof.Machine
end

section
/-! PROOFS. Owner tokens, Sanitize and Secure Erase (O53). -/
namespace Sys2Proof.Machine

/-! ### Tokens -/

section
variable {s : State} {op : Nat} {k : Token} (v : Via) (done : State → Nat → State) (few : s.sec.rejected < 16)
include few

/-- R361: an accepted token uses up its nonce, is recorded and takes its effect after its answer. -/
theorem submitToken_accepted (accepted : s.tokenCheck op k = 1) :
    let t := (s.wr F.SEC_AUTH_RESULT 1).wr F.SEC_AUTH_LASTOP op
    let t : State := { t with sec := { t.sec with nonce := none } }
    s.submitToken v op k done = (done (t.event 0xE003 [op, bgKey v]) 1).tokenEffect v op k := by
  unfold State.submitToken
  rw [if_neg (Nat.not_le.mpr few), accepted]
  rfl

/-- R361: a token with the wrong signature uses up its nonce and is counted. -/
theorem submitToken_rejected (rejected : s.tokenCheck op k = 2) :
    let t := (s.wr F.SEC_AUTH_RESULT 2).wr F.SEC_AUTH_LASTOP op
    let t : State := { t with sec := { t.sec with nonce := none, rejected := s.sec.rejected + 1 } }
    s.submitToken v op k done = done ((t.bump F.SEC_STS_AUTHFAIL).event 0xE004 [op, 2]) 2 := by
  unfold State.submitToken
  rw [if_neg (Nat.not_le.mpr few), rejected]
  rfl

end

/-- R361: each token operation submits its token. -/
theorem exec_token {s : State} {v : Via} {k : Token} {op : Nat} {c : Instr} (ready : MailboxReady s v)
    (kind : op = 1 ∧ c = .clearRecorder v k ∨ op = 2 ∧ c = .discardImage v k ∨ op = 3 ∧ c = .unlockDebug v k ∨ op = 4 ∧ c = .tokenSanitize v k ∨
      op = 5 ∧ c = .replaceOwner v k ∨ op = 6 ∧ c = .clearOwner v k) :
    exec c s = .next (s.begin.submitToken v op k fun a r => a.reply v .success [r]) := by
  rcases kind with ⟨rfl, rfl⟩ | ⟨rfl, rfl⟩ | ⟨rfl, rfl⟩ | ⟨rfl, rfl⟩ | ⟨rfl, rfl⟩ | ⟨rfl, rfl⟩ <;> exact answer_mbox ready ..

/-! ### Sanitize and Secure Erase -/

/-- R362: within its minute a SANITIZE token opens the mailbox it came through once. -/
theorem eraseAll_allowed {s : State} {v : Via} (all : Bool) {till : Nat} (token : s.sec.sanitize = some (till, bgKey v)) (timely : s.ck.mono ≤ till)
    (service : s.phase = phService) :
    s.eraseAll v all = (State.reply { s with sec := { s.sec with sanitize := none, erasing := s.sec.erasing || all } } v .success []).discardImage := by
  unfold State.eraseAll
  simp only [token]
  rw [if_pos ⟨trivial, timely⟩, if_neg (not_not_intro service)]

theorem eraseAll_refused {s : State} (v : Via) (all : Bool) (absent : s.sec.sanitize = none) :
    s.eraseAll v all = s.reply v .invalidSecurityState [] := by
  unfold State.eraseAll
  simp only [absent]

section
variable {s : State} {v : Via} (ready : MailboxReady s v)
include ready

theorem exec_sanitize_mbox : exec (.sanitize v) s = .next (s.begin.eraseAll v true) := answer_mbox ready ..

theorem exec_secureErase_mbox : exec (.secureErase v) s = .next (s.begin.eraseAll v false) := answer_mbox ready ..

end

/-- Settles O53. -/
theorem ownerTokens : Obligations.OwnerTokens := by
  refine ⟨fun s v k op c ready few kind => ⟨fun accepted => ?_, fun rejected => ?_⟩, fun s v ready => ⟨fun till token timely service => ⟨?_, ?_⟩,
    fun absent => ⟨?_, ?_⟩⟩⟩
  · exact (exec_token ready kind).trans (congrArg _ (submitToken_accepted (s := s.begin) v _ few accepted))
  · exact (exec_token ready kind).trans (congrArg _ (submitToken_rejected (s := s.begin) v _ few rejected))
  · rw [exec_sanitize_mbox ready, eraseAll_allowed (s := s.begin) true token timely service, Bool.or_true]
    rfl
  · rw [exec_secureErase_mbox ready, eraseAll_allowed (s := s.begin) false token timely service, Bool.or_false]
    rfl
  · exact (exec_sanitize_mbox ready).trans (congrArg _ (eraseAll_refused (s := s.begin) v true absent))
  · exact (exec_secureErase_mbox ready).trans (congrArg _ (eraseAll_refused (s := s.begin) v false absent))

end Sys2Proof.Machine
end

section
/-! PROOFS. Memory channels train, retry, scrub, heal and spare ranks (O44). -/
namespace Sys2Proof.Machine

/-! ### Training -/

section
variable {s : State} (cap ranks : Nat) (good : List Nat) (bringup : s.phase = phBringup) (fresh : s.mc.trained = false) (clock : s.rd F.CK_STS_STATE = 2)
  (powered : (domsMCG.all fun d => s.dom d == 1) = true)
include bringup fresh clock powered

/-- What keeps training from being taken (R226). -/
theorem training_taken : ¬ (s.begin.phase ≠ phBringup ∨ s.begin.mc.trained = true ∨ s.begin.rd F.CK_STS_STATE ≠ 2 ∨
    (domsMCG.all fun d => s.begin.dom d == 1) = false) := by
  rintro (other | again | unready | dark)
  · exact other bringup
  · rw [show s.begin.mc.trained = false from fresh] at again; cases again
  · exact unready clock
  · rw [show (domsMCG.all fun d => s.begin.dom d == 1) = true from powered] at dark; cases dark

theorem exec_memoryTrainingComplete_failed :
    exec (.memoryTrainingComplete none cap ranks good) s = .next ((s.begin.event 0x8001 [0, 0]).enterRecoveryPhase 3) :=
  if_neg (training_taken bringup fresh clock powered)

/-- R226, R227: with DRAM held no channel repairs its rows, and each keeps its spared rank. -/
theorem exec_memoryTrainingComplete_held (r : Nat) (spare : s.flag F.MC_CFG_SPARE = false) (held : s.pw.dram = true) :
    let t := s.begin.forEach (List.range 24) fun a c => a.setMch c { a.mch c with state := 2, cap := cap, ranks := ranks }
    let t := ((t.wr F.MC_STAT_RATE (min r (t.rd F.MC_CFG_MAXRATE))).wr F.MC_STAT_UP (2 ^ 24 - 1)).wr F.SHR_CAP_VISIBLE (visibleGib (24 * cap) * 4)
    exec (.memoryTrainingComplete (some r) cap ranks good) s =
      .next (({ t with mc := { t.mc with trained := true } } : State).spareResume.updReady.imageStep) := by
  refine (if_neg (training_taken bringup fresh clock powered)).trans ?_
  have noSpare : ¬ (s.begin.flag F.MC_CFG_SPARE = true ∧ ranks < 2) := by
    rw [show s.begin.flag F.MC_CFG_SPARE = false from spare]; exact fun h => Bool.noConfusion h.1
  dsimp only
  rw [if_neg noSpare, show s.begin.pw.dram = true from held, show s.begin.flag F.MC_CFG_SPARE = false from spare]
  rfl

end

/-! ### Link errors -/

section
variable {s : State} {c : Nat} (cause : Nat) {tries : Nat} (service : s.phase = phService) (running : (s.mch c).state = 2)
include service running

theorem linkError_taken : ¬ (s.begin.phase ≠ phService ∨ (s.begin.mch c).state ≠ 2) := not_or.mpr ⟨not_not_intro service, not_not_intro running⟩

/-- R228: retries that succeed are counted on their channel. -/
theorem memoryLinkError_retried (few : tries ≤ 3) :
    let x := { s.mch c with retry := min 255 ((s.mch c).retry + min 3 tries) }
    ∃ t, exec (.memoryLinkError c cause tries false) s = .next t ∧ t.mch c = x ∧ (∀ d, d ≠ c → t.mch d = s.mch d) ∧ Leaves s t [] := by
  intro x
  refine ⟨s.begin.setMch c x, (if_neg (linkError_taken service running)).trans (if_pos few), FMap.get_put_self .., fun d other => ?_,
    (leaves_begin s _).still ⟨rfl, rfl, rfl, rfl, rfl, rfl⟩ rfl⟩
  exact FMap.get_put_ne _ _ _ other.symm

theorem exec_memoryLinkError_retrained (many : 3 < tries) :
    let x := { s.mch c with retry := min 255 ((s.mch c).retry + min 3 tries) }
    exec (.memoryLinkError c cause tries true) s = .next ((s.begin.event 0x8003 [c, cause]).setMch c x) :=
  (if_neg (linkError_taken service running)).trans ((if_neg (Nat.not_le.mpr many)).trans (if_pos rfl))

/-- R228: a second failed retrain within the hour fails the channel. -/
theorem exec_memoryLinkError_second {w : Nat} (many : 3 < tries) (first : (s.mch c).retrains = [w]) (recent : s.ck.mono < w + 3600000000000) :
    let x := { s.mch c with retry := min 255 ((s.mch c).retry + min 3 tries) }
    let t := (((s.begin.event 0x8003 [c, cause]).setMch c { x with retrains := [s.ck.mono, w], state := 4 }).event 0x8002 [c])
    exec (.memoryLinkError c cause tries false) s = .next (((t.setBit F.MC_STAT_FAILED c true).setBit F.MC_STAT_UP c false).updReady) := by
  intro x t
  have both : ((s.begin.event 0x8003 [c, cause]).ck.mono ::
      (s.begin.mch c).retrains.filter fun w => decide ((s.begin.event 0x8003 [c, cause]).ck.mono < w + 3600000000000)) = [s.ck.mono, w] := by
    rw [show (s.begin.mch c).retrains = [w] from first, State.event_ck, show s.begin.ck = s.ck from rfl,
      List.filter_cons_of_pos (p := fun w => decide (s.ck.mono < w + 3600000000000)) (decide_eq_true recent), List.filter_nil]
  refine (if_neg (linkError_taken service running)).trans ((if_neg (Nat.not_le.mpr many)).trans ((if_neg Bool.false_ne_true).trans ?_))
  dsimp only
  rw [both]
  rfl

end

/-! ### Scrubbing and healing -/

/-- R233: a pass that keeps to its period shows no stretch. -/
theorem exec_patrolScrub_inTime {s : State} (found : List (Nat × LineError)) (reserve : List (Nat × ReserveError)) (serving : s.serving = true)
    (trained : s.mc.trained = true) (inTime : 24 * (s.mch 0).cap * 2 ^ 30 ≤ 6000000000 * 3600 * max 1 (s.rd F.MC_SCRUB_PERIOD)) :
    let t := (s.begin.wr F.MC_SCRUB_STRETCH 0).wr F.MC_SCRUB_PROG 0
    exec (.patrolScrub found reserve) s = .next ((reserve.foldl (fun (a : State) e => a.reserveError e.1 e.2)
      (found.foldl (fun (a : State) e => a.lineRead e.1 e.2) t)).bump F.MC_SCRUB_PASSES) := by
  have works : ¬ (!s.begin.serving || !s.begin.mc.trained) = true := by
    rw [show s.begin.serving = true from serving, show s.begin.mc.trained = true from trained]; decide
  have kept : decide (6000000000 * 3600 * max 1 (s.begin.rd F.MC_SCRUB_PERIOD) < 24 * (s.begin.mch 0).cap * 2 ^ 30) = false :=
    decide_eq_false (Nat.not_lt.mpr inTime)
  refine (if_neg works).trans ?_
  rw [kept]
  rfl

section
variable {s : State} {u i : Nat} {k : Skein} {x : Slot} (serving : s.serving = true) (due : s.mc.heals.contains u = true) (clean : (s.unit u).st = 0)
  (held : s.slotOf u = some (k, i, x)) (flips others : List Nat) (bad : Bool)
include serving due clean held

/-- R235: a heal that is due reads its unit's Strand, and takes the unit from it where the Strand is held and the unit's checks pass. -/
theorem exec_healComplete_due :
    let t : State := { s.begin with mc := { s.mc with heals := s.mc.heals.filter (· != u) } }
    let r := t.fetchRead (t.fetchAtOnce u) k (i / 4) flips others
    exec (.healComplete u flips others bad) s =
      if r.2 = false ∨ bad = true then .next (r.1.event 0x8008 [u * 4096])
      else .next (((r.1.fillUnit u x).bump F.MC_ERR_HEAL).mediaEvent u 1) := by
  intro t r
  have works : ¬ (!s.begin.mc.heals.contains u || !s.begin.serving) = true := by
    rw [show s.begin.mc.heals.contains u = true from due, show s.begin.serving = true from serving]; decide
  refine (if_neg works).trans ((if_neg (not_not_intro (show (t.unit u).st = 0 from clean))).trans ?_)
  change (match t.slotOf u with | none => _ | some (k, i, x) => _) = _
  simp only [show t.slotOf u = some (k, i, x) from held]
  rfl

theorem exec_healComplete_ends :
    let t : State := { s.begin with mc := { s.mc with heals := s.mc.heals.filter (· != u) } }
    let r := t.fetchRead (t.fetchAtOnce u) k (i / 4) flips others
    (r.2 = true → exec (.healComplete u flips others false) s = .next (((r.1.fillUnit u x).bump F.MC_ERR_HEAL).mediaEvent u 1)) ∧
    (r.2 = false → exec (.healComplete u flips others false) s = .next (r.1.event 0x8008 [u * 4096])) ∧
    exec (.healComplete u flips others true) s = .next (r.1.event 0x8008 [u * 4096]) := by
  refine ⟨fun read => ?_, fun lost => ?_, ?_⟩
  · exact (exec_healComplete_due serving due clean held flips others false).trans (if_neg (by rw [read]; decide))
  · exact (exec_healComplete_due serving due clean held flips others false).trans (if_pos (.inl lost))
  · exact (exec_healComplete_due serving due clean held flips others true).trans (if_pos (.inr rfl))

end

/-! ### Rank sparing and temperatures -/

theorem exec_rankSpareCopyEnd_copying {s : State} (copying : s.rd F.MC_SPARE_STATE = 1) (serving : s.serving = true) :
    exec .rankSpareCopyEnd s = .next (s.begin.spareDone (s.rd F.MC_SPARE_CHAN) (s.rd F.MC_SPARE_RANK)) := if_pos ⟨copying, serving⟩

/-- R238: the copy's pointer only moves on. -/
theorem sparePointerCheckpoint_moves {s : State} (copying : s.rd F.MC_SPARE_STATE = 1) (serving : s.serving = true) (ptr : Nat) :
    ∃ t, exec (.sparePointerCheckpoint ptr) s = .next t ∧ t.mc.ptrCkpt = t.mc.ptr ∧ s.mc.ptr ≤ t.mc.ptr ∧ Leaves s t [(F.MC_SPARE_PROG, 0)] :=
  ⟨_, if_pos ⟨copying, serving⟩, rfl, le_max_left _ _, ((leaves_begin s _).still ⟨rfl, rfl, rfl, rfl, rfl, rfl⟩ rfl).wr _ _ (by simp)⟩

/-! ### The mailbox commands -/

section
variable {s : State} {v : Via} (ready : MailboxReady s v)
include ready

theorem exec_translateAddress_mbox (dpa : Nat) :
    exec (.translateAddress v dpa) s = .next (s.begin.reply v .success ([dpa / 4096 % 24, s.unitRank (dpa / 4096), dpa / 64 % 2] ++
      Config.dramHash (dpa / 4096 / 24 * 4096 + dpa % 4096) ++ [(s.shareOf (dpa / 4096)).getD 0xFF])) := answer_mbox ready ..

section
variable {c r : Nat} (chan : c < 24) (rank : r < 2)
include chan rank

theorem exec_spareRank_off (off : s.flag F.MC_CFG_SPARE = false) : exec (.spareRank v c r) s = .next (s.begin.reply v .success [4, 5]) :=
  (answer_mbox ready ..).trans (congrArg _ ((if_neg (by omega)).trans (if_pos off)))

theorem exec_spareRank_copying (spare : s.flag F.MC_CFG_SPARE = true) (copying : s.rd F.MC_SPARE_STATE ≠ 0) :
    exec (.spareRank v c r) s = .next (s.begin.reply v .success [4, 8]) :=
  (answer_mbox ready ..).trans (congrArg _ ((if_neg (by omega)).trans ((if_neg (ne_false_of_eq_true spare)).trans (if_pos copying))))

/-- R238: a channel with a free spare starts the copy of its active rank. -/
theorem exec_spareRank_starts (free : s.spareFree c = true) (active : r = bit01 (s.mch c).swap) :
    exec (.spareRank v c r) s = .next ((s.begin.startSpare c r).reply v .success [0, 0]) := by
  have parts := free
  simp only [State.spareFree, Bool.and_eq_true, beq_iff_eq] at parts
  obtain ⟨⟨spare, -⟩, idle⟩ := parts
  have starts : ¬ (s.begin.spareFree c = false ∨ r ≠ bit01 (s.begin.mch c).swap) :=
    not_or.mpr ⟨ne_false_of_eq_true free, not_not_intro active⟩
  exact (answer_mbox ready ..).trans (congrArg _ ((if_neg (by omega)).trans ((if_neg (ne_false_of_eq_true spare)).trans
    ((if_neg (not_not_intro idle)).trans (if_neg starts)))))

end

theorem getMemoryErrors_answers {c : Nat} (chan : c < 24) : ∃ t, exec (.getMemoryErrors v c) s = .next t ∧ Leaves s t [] ∧
    t = s.begin.reply v .success ([s.chanSts c, s.chanErr c, s.chanEras c] ++
      (s.mch c).rows.flatMap fun r => [r.1, r.2.1, r.2.2.1, r.2.2.2]) :=
  ⟨_, (answer_mbox ready ..).trans (congrArg _ (if_neg (Nat.not_le.mpr chan))), (leaves_begin s _).reply _ _ _, rfl⟩

end

/-- Settles O44. -/
theorem memoryChannels : Obligations.MemoryChannels := by
  refine ⟨⟨?_, ?_, ?_, ?_, ?_, ?_⟩, fun s v ready => ⟨exec_translateAddress_mbox ready, ?_, fun c => getMemoryErrors_answers ready⟩⟩
  · intro s cap ranks good bringup fresh clock powered
    exact ⟨exec_memoryTrainingComplete_failed cap ranks good bringup fresh clock powered,
      exec_memoryTrainingComplete_held cap ranks good bringup fresh clock powered⟩
  · intro s c cause tries service running x
    exact ⟨memoryLinkError_retried cause service running, exec_memoryLinkError_retrained cause service running,
      fun w => exec_memoryLinkError_second cause service running⟩
  · exact fun s found reserve => exec_patrolScrub_inTime found reserve
  · intro s u i k x serving due clean held t flips others
    exact exec_healComplete_ends serving due clean held flips others
  · exact fun s copying serving => ⟨exec_rankSpareCopyEnd_copying copying serving, sparePointerCheckpoint_moves copying serving⟩
  · exact fun s temps serving => if_pos serving
  · intro c r chan rank
    exact ⟨exec_spareRank_off ready chan rank, exec_spareRank_copying ready chan rank, exec_spareRank_starts ready chan rank⟩

end Sys2Proof.Machine
end

section
/-! PROOFS. PMBus, hold-up, standby, operating points, temperature and the power commands (O46). -/
namespace Sys2Proof.Machine

/-! ### PMBus -/

theorem exec_pmbusStatusPoll_polled {s : State} (status : List (Nat × Nat)) (runs : s.spRuns 5 = true) (on : s.phase ≠ phOff)
    (awake : s.phase ≠ phDormant) (up : s.rd F.PW_STATE_STBY ≠ 1) (free : s.twb.faulted 1 = false) :
    let t := (status.filter fun e => s.pmbusSlots.contains e.1).foldl (fun (a : State) e => a.statusWord e.1 e.2) s.begin
    let t := s.pmbusSlots.foldl (fun (a : State) i =>
      let n := if status.any fun e => e.1 == i then 0 else FMap.get 0 a.pw.silent i + 1
      let a : State := { a with pw := { a.pw with silent := FMap.put a.pw.silent i n } }
      if n = 3 then (a.event 0xA00D [i]).event 0xA004 [i, 6, 0] else a) t
    exec (.pmbusStatusPoll status []) s = .next (t.busFree 1) := by
  intro t u
  have works : ¬ (s.begin.spRuns 5 = false ∨ s.begin.phase = phOff ∨ s.begin.phase = phDormant ∨ s.begin.rd F.PW_STATE_STBY = 1) := by
    rw [show s.begin.spRuns 5 = true from runs]
    rintro (absent | off | dormant | standby)
    exacts [Bool.noConfusion absent, on off, awake dormant, up standby]
  have words : (if s.begin.twb.faulted 1 then [] else status) = status := if_neg (ne_true_of_eq_false free)
  refine (if_neg works).trans ?_
  rw [words]
  rfl

/-! ### Hold-up -/

/-- R283: the four latest figures, the one just measured in front. -/
def State.holdupKept (s : State) (tm : Nat) : List Nat :=
  (tm * 100 * s.savePower s.sv.rs * s.holdSpan / (396 * 1000000 * max 1 (s.savePower s.fc.rfl)) :: s.pw.holdups).take 4

/-- R283: the registers of a measurement taken. -/
def State.holdupShown (s : State) (tm : Nat) : State :=
  let fuse := F.MR_HOLDUP_THU.rst % 2 ^ 20
  let least := (s.holdupKept tm).foldl min fuse
  let t : State := { s with pw := { s.pw with holdups := s.holdupKept tm } }
  let t := ((t.wr F.MR_HOLDUP_THU least).wr F.MR_HOLDUP_SRC (bit01 (decide (least < fuse)))).wr F.PW_HOLD_CAP
    (min 0xFFFF (2 * s.savePower s.sv.rs * tm / (396 * 100000000000)))
  (t.wr F.PW_HOLD_TM (min 0xFFFF tm)).wr F.PW_HOLD_N (s.holdupKept tm).length

/-- R283: a measurement taken. -/
def State.holdupMeasured (s : State) (tm : Nat) : State :=
  (s.holdupShown tm).event 0xA009 [2 * s.savePower s.sv.rs * tm / (396 * 100000000000), tm,
    tm * 100 * s.savePower s.sv.rs * s.holdSpan / (396 * 1000000 * max 1 (s.savePower s.fc.rfl))]

theorem holdupShown_effect (s : State) (tm : Nat) :
    (s.holdupShown tm).pw.holdups = s.holdupKept tm ∧
    (s.holdupShown tm).rd F.MR_HOLDUP_THU =
      ((s.holdupKept tm).foldl min (F.MR_HOLDUP_THU.rst % 2 ^ 20)) % 2 ^ F.MR_HOLDUP_THU.width ∧
    Leaves s (s.holdupShown tm) [(F.MR_HOLDUP_THU, 0), (F.MR_HOLDUP_SRC, 0), (F.PW_HOLD_CAP, 0), (F.PW_HOLD_TM, 0), (F.PW_HOLD_N, 0)] := by
  refine ⟨rfl, ?_, ?_⟩
  · refine (State.wr_rd_ne _ _ (by decide)).trans ((State.wr_rd_ne _ _ (by decide)).trans ?_)
    exact (State.wr_rd_ne _ _ (by decide)).trans ((State.wr_rd_ne _ _ (by decide)).trans (State.wr_rd_self ..))
  · unfold State.holdupShown
    extract_lets fuse least p t u
    have kept : Leaves s t [(F.MR_HOLDUP_THU, 0), (F.MR_HOLDUP_SRC, 0), (F.PW_HOLD_CAP, 0), (F.PW_HOLD_TM, 0), (F.PW_HOLD_N, 0)] :=
      Still.leaves ⟨rfl, rfl, rfl, rfl, rfl, rfl⟩ rfl _
    clear_value t
    exact ((((kept.wr _ _ (by simp)).wr _ _ (by simp)).wr _ _ (by simp)).wr _ _ (by simp)).wr _ _ (by simp)

section
variable {s : State} (tm : Nat)

theorem exec_holdupMeasurement_high : exec (.holdupMeasurement tm true) s = .next s.begin := if_pos (.inr (.inr (.inr rfl)))

/-- R283: a measurement is kept before the three latest, and the least of them and the fuse is the figure. -/
theorem holdupMeasurement_low (saving : s.phase = phSave) (lost : s.rd F.SPN_SAVE_REASON = 1) (away : s.flag F.SPN_SAVE_PWRBACK = false) :
    ∃ t, exec (.holdupMeasurement tm false) s = .next t ∧ t.pw.holdups.length ≤ 4 ∧ t.pw.holdups.tail = s.pw.holdups.take 3 ∧
      t.rd F.MR_HOLDUP_THU = (t.pw.holdups.foldl min (F.MR_HOLDUP_THU.rst % 2 ^ 20)) % 2 ^ F.MR_HOLDUP_THU.width ∧
      Leaves s t [(F.MR_HOLDUP_THU, 0), (F.MR_HOLDUP_SRC, 0), (F.PW_HOLD_CAP, 0), (F.PW_HOLD_TM, 0), (F.PW_HOLD_N, 0)] := by
  have taken : ¬ (s.begin.phase ≠ phSave ∨ s.begin.rd F.SPN_SAVE_REASON ≠ 1 ∨ s.begin.flag F.SPN_SAVE_PWRBACK = true ∨ false = true) := by
    rw [show s.begin.flag F.SPN_SAVE_PWRBACK = false from away]
    rintro (other | reason | back | never)
    exacts [other saving, reason lost, Bool.noConfusion back, Bool.noConfusion never]
  obtain ⟨shown, figure, leaves⟩ := holdupShown_effect s.begin tm
  have kept : (s.begin.holdupMeasured tm).pw.holdups = s.begin.holdupKept tm := (congrArg Power.holdups (State.event_pw _ _ _)).trans shown
  refine ⟨s.begin.holdupMeasured tm, if_neg taken, ?_, ?_, ?_, (Leaves.trans (leaves_begin s _) leaves).event _ _⟩
  · rw [kept]; exact List.length_take_le ..
  · rw [kept]; rfl
  · rw [kept]; exact (rdi_eq_of_regs (State.event_regs _ _ _) F.MR_HOLDUP_THU 0).trans figure

end

/-! ### Standby -/

@[simp] theorem msix0_pw (s : State) : s.msix0.pw = s.pw :=
  foldl_keeps State.pw _ _ s fun a k => by
    split
    · exact State.msix_pw a k 0
    · rfl

@[simp] theorem updReady_pw (s : State) : s.updReady.pw = s.pw := by simp [State.updReady, State.settleAttn, apply_ite State.pw]

@[simp] theorem sleepLatch_pw (s : State) : s.sleepLatch.pw = s.pw := by simp [State.sleepLatch, State.clockState, apply_ite State.pw]

/-- R303: the counter is latched when the clocks stop. -/
theorem sleepLatch_latches (s : State) : s.sleepLatch.ck.sleep.isSome = true := by
  unfold State.sleepLatch
  split
  · assumption
  · extract_lets ck t u
    have kept : u.ck = t.ck := by
      unfold u State.clockState
      split
      · rfl
      · exact State.event_ck _ _ _
    change u.ck.sleep.isSome = true
    rw [kept]
    rfl

theorem writes_sleepLatch (s : State) : Writes [(F.CK_SLEEP_VALID, 0), (F.CK_STS_STATE, 0), (F.CK_STS_DEGRADED, 0), (F.CK_STS_BOSCOK, 0),
    (F.CK_STS_LOCK, 0)] s s.sleepLatch := by
  unfold State.sleepLatch
  refine .ite _ (.refl _ s) ?_
  extract_lets ck t u
  have latched : Writes [(F.CK_SLEEP_VALID, 0), (F.CK_STS_STATE, 0), (F.CK_STS_DEGRADED, 0), (F.CK_STS_BOSCOK, 0), (F.CK_STS_LOCK, 0)] s t :=
    ((Writes.refl _ s).setCk ck).wr _ _ (by simp)
  have stopped : Writes [(F.CK_SLEEP_VALID, 0), (F.CK_STS_STATE, 0), (F.CK_STS_DEGRADED, 0), (F.CK_STS_BOSCOK, 0), (F.CK_STS_LOCK, 0)] s u :=
    .ite _ latched (latched.trans ((writes_clockState t 0 4).mono (by simp)))
  exact (stopped.wr _ _ (by simp)).wr _ _ (by simp)

/-- R288: the power that standby leaves: DRAM is held, and the rails of the core and its groups are off. -/
def State.standbyPower (s : State) : State :=
  let t := (s.event 0xA00B [s.rd F.PW_STATE_PSTATE, 3]).updReady
  let t := ((((t.setDoms domsHP 0).setDoms domsTW 0).setDoms domsFCG 0).setDoms domsMCG 2).setDom 1 2
  let t := (t.setDom 0 2).dropRails fun i => [2, 3, 4, 6].contains (t.rdi F.PW_RAIL_GRP i) ||
    (t.rdi F.PW_RAIL_GRP i == 5 && t.rdi F.PW_RAIL_ORDER i == 0)
  { t with pw := { t.pw with dram := true } }

theorem still_standbyPower (s : State) : Still s s.standbyPower := by
  unfold State.standbyPower
  extract_lets t u v
  have ready : Still s t := Still.trans (still_event s _ _) (still_updReady _)
  clear_value t
  have heads := Still.trans ready (still_setDoms t domsHP 0)
  have flash := Still.trans (Still.trans heads (still_setDoms _ domsTW 0)) (still_setDoms _ domsFCG 0)
  have domains : Still s u := Still.trans (Still.trans flash (still_setDoms _ domsMCG 2)) (still_setDom _ 1 2)
  clear_value u
  have rails : Still s v := Still.trans domains (Still.trans (still_setDom u 0 2) (still_dropRails _ _))
  clear_value v
  exact Still.trans rails ⟨rfl, rfl, rfl, rfl, rfl, rfl⟩

/-- R288: standby. -/
def State.standby (s : State) : State := (((s.standbyPower.wr F.PW_STATE_PSTATE 3).wr F.PW_STATE_STBY 1).sleepLatch).updReady

theorem standby_effect (s : State) :
    s.standby.rd F.PW_STATE_PSTATE = 3 ∧ s.standby.rd F.PW_STATE_STBY = 1 ∧ s.standby.pw.dram = true ∧ s.standby.ck.sleep.isSome = true ∧
    Still s s.standby := by
  unfold State.standby
  have power : s.standbyPower.pw.dram = true := rfl
  have still := still_standbyPower s
  generalize s.standbyPower = a at *
  have shown : ((a.wr F.PW_STATE_PSTATE 3).wr F.PW_STATE_STBY 1).rd F.PW_STATE_PSTATE = 3 ∧
      ((a.wr F.PW_STATE_PSTATE 3).wr F.PW_STATE_STBY 1).rd F.PW_STATE_STBY = 1 :=
    ⟨(State.wr_rd_ne _ _ (by decide)).trans (State.wr_rd_self ..), State.wr_rd_self ..⟩
  have written : Still s ((a.wr F.PW_STATE_PSTATE 3).wr F.PW_STATE_STBY 1) := Still.trans still ⟨rfl, rfl, rfl, rfl, rfl, rfl⟩
  have power' : ((a.wr F.PW_STATE_PSTATE 3).wr F.PW_STATE_STBY 1).pw.dram = true := power
  generalize (a.wr F.PW_STATE_PSTATE 3).wr F.PW_STATE_STBY 1 = b at *
  refine ⟨?_, ?_, ?_, ?_, Still.trans written (Still.trans (still_sleepLatch b) (still_updReady _))⟩
  · exact ((writes_updReady _).rd (by decide)).trans (((writes_sleepLatch b).rd (by decide)).trans shown.1)
  · exact ((writes_updReady _).rd (by decide)).trans (((writes_sleepLatch b).rd (by decide)).trans shown.2)
  · rw [updReady_pw, sleepLatch_pw]; exact power'
  · rw [updReady_ck]; exact sleepLatch_latches b

theorem standbyEntry_enters {s : State} (service : s.phase = phService) (wanted : s.rd F.PW_CTL_STBY ≠ 0) (idle : s.coreIdle = true)
    (clean : s.residue = 0) (up : s.rd F.PW_STATE_STBY = 0) :
    ∃ t, exec .standbyEntry s = .next t ∧ t.rd F.PW_STATE_PSTATE = 3 ∧ t.rd F.PW_STATE_STBY = 1 ∧ t.pw.dram = true ∧
      t.ck.sleep.isSome = true ∧ t.mem = s.mem ∧ t.dmap = s.dmap ∧ t.index = s.index ∧ t.poisoned = s.poisoned := by
  obtain ⟨state, standby, dram, sleep, -, mem, -, poisoned, dmap, index⟩ := standby_effect s.begin
  exact ⟨s.begin.standby, if_pos ⟨service, wanted, idle, clean, up⟩, state, standby, dram, sleep, mem, dmap, index, poisoned⟩

/-! ### Operating points -/

section
variable {s : State} (mv : Nat) (busy : s.flag F.PW_OP_BUSY = true)
include busy

/-- The voltage measured is none of what the change is judged by. -/
theorem vcore_reads : (s.begin.wr F.PW_OP_VCORE mv).flag F.PW_OP_BUSY = true ∧
    (s.begin.wr F.PW_OP_VCORE mv).rd F.PW_OP_CUR = s.rd F.PW_OP_CUR ∧
    (s.begin.wr F.PW_OP_VCORE mv).rd F.PW_OP_TARGET = s.rd F.PW_OP_TARGET := by
  have same : (s.begin.wr F.PW_OP_VCORE mv).rd F.PW_OP_BUSY = s.rd F.PW_OP_BUSY := State.wr_rd_ne s.begin mv (by decide)
  exact ⟨(flag_of_rd same).trans busy, State.wr_rd_ne s.begin mv (by decide), State.wr_rd_ne s.begin mv (by decide)⟩

theorem exec_opChangeComplete_second (half : s.pw.opHalf = true) :
    exec (.opChangeComplete mv) s = .next (s.begin.wr F.PW_OP_VCORE mv).opDone :=
  (if_neg (ne_false_of_eq_true (vcore_reads mv busy).1)).trans (if_pos half)

theorem exec_opChangeComplete_first (half : s.pw.opHalf = false) (rising : s.rd F.PW_OP_CUR ≤ s.rd F.PW_OP_TARGET) :
    let t := s.begin.wr F.PW_OP_VCORE mv
    exec (.opChangeComplete mv) s = .next { t with pw := { t.pw with opHalf := true } } := by
  intro t
  obtain ⟨busy', cur, target⟩ := vcore_reads mv busy
  refine (if_neg (ne_false_of_eq_true busy')).trans ((if_neg (ne_true_of_eq_false half)).trans (if_neg fun ⟨falling, _⟩ => ?_))
  rw [cur, target] at falling
  omega

/-- R290: a change down is held until VDD_CORE is near the voltage it is to have. -/
theorem exec_opChangeComplete_held (half : s.pw.opHalf = false) (falling : s.rd F.PW_OP_TARGET < s.rd F.PW_OP_CUR)
    (low : 100 * mv < 98 * [800, 720, 650, 600].getD (s.rd F.PW_OP_TARGET) 600) :
    exec (.opChangeComplete mv) s =
      .next (((s.begin.wr F.PW_OP_VCORE mv).bump F.PW_OP_HELD).event 0xA00E [s.rd F.PW_OP_TARGET]) := by
  obtain ⟨busy', cur, target⟩ := vcore_reads mv busy
  have held : (s.begin.wr F.PW_OP_VCORE mv).rd F.PW_OP_TARGET < (s.begin.wr F.PW_OP_VCORE mv).rd F.PW_OP_CUR ∧
      (decide (98 * [800, 720, 650, 600].getD ((s.begin.wr F.PW_OP_VCORE mv).rd F.PW_OP_TARGET) 600 ≤ 100 * mv) &&
        decide (100 * mv ≤ 102 * [800, 720, 650, 600].getD ((s.begin.wr F.PW_OP_VCORE mv).rd F.PW_OP_TARGET) 600)) = false := by
    rw [cur, target, decide_eq_false (Nat.not_le.mpr low)]
    exact ⟨falling, Bool.false_and _⟩
  exact (if_neg (ne_false_of_eq_true busy')).trans ((if_neg (ne_true_of_eq_false half)).trans ((if_pos held).trans (by rw [target])))

end

/-! ### Temperature -/

/-- R289: the hottest reading sets the thermal cap, and 110 °C is a trigger. -/
theorem exec_temperatureSample_awake {s : State} (r : Int) (l : List Int) (on : s.phase ≠ phOff) (awake : s.phase ≠ phDormant) :
    let tj := l.foldl max r
    let new := thermCap (s.rd F.PW_OP_THERM) tj
    let t : State := { s.begin with pw := { s.pw with tj := tj } }
    let t := if new = s.rd F.PW_OP_THERM then t else ((t.wr F.PW_OP_THERM new).event 0xA00C [(tj % (2 ^ 16 : Int)).toNat, new]).recap
    exec (.temperatureSample (r :: l)) s = .next (if 110 ≤ tj then t.powerTrigger 1 0 0 else t.settleAttn.imageStep) := by
  intro tj new t u
  exact (if_neg (not_or.mpr ⟨on, awake⟩)).trans (apply_ite Host.Outcome.next (110 ≤ tj) (u.powerTrigger 1 0 0) u.settleAttn.imageStep).symm

/-! ### Get Snapshot -/

theorem exec_getSnapshot_mbox {s : State} {v : Via} (ready : MailboxReady s v) (i : Nat) : exec (.getSnapshot v i) s =
    .next (match s.pw.snaps[i]? with | some x => s.begin.reply v .success x.words | none => s.begin.reply v .invalidInput []) :=
  (answer_mbox ready ..).trans (congrArg _ (by cases h : s.pw.snaps[i]? <;> simp [h]))

/-- Settles O46. -/
theorem powerMonitor : Obligations.PowerMonitor := by
  refine ⟨fun s status => exec_pmbusStatusPoll_polled status, fun s slot status runs known => if_pos ⟨runs, known⟩,
    fun s tm saving lost away => ⟨exec_holdupMeasurement_high tm, holdupMeasurement_low tm saving lost away⟩, fun s => standbyEntry_enters, ?_,
    fun s r l => exec_temperatureSample_awake r l, fun s v ready => ⟨answer_mbox ready .., exec_getSnapshot_mbox ready⟩⟩
  intro s mv busy t
  exact ⟨exec_opChangeComplete_second mv busy, exec_opChangeComplete_first mv busy, exec_opChangeComplete_held mv busy⟩

end Sys2Proof.Machine
end

section
/-! PROOFS. The course of a Save to its manifest, and the ends of LINGER (O49). -/
namespace Sys2Proof.Machine

/-! ### LINGER -/

section
variable {s : State} (lingering : s.phase = phLinger)
include lingering

theorem exec_lingerTimerExpiry_lingering : exec .lingerTimerExpiry s = .next ((s.begin.event 0x400C [0]).powerDown 0x0A) := if_pos lingering

theorem exec_lingerEnergyLimit_lingering : exec .lingerEnergyLimit s = .next ((s.begin.event 0x400C [1]).powerDown 0x0B) := if_pos lingering

end

/-! ### Save-bus low -/

/-- R120: the save-bus readings when it is low. -/
def State.busLow (s : State) (mv : Nat) : State := ((s.wr F.PW_SBUS_SBUS (mv / 10)).wr F.PW_SBUS_WARNIND 1).wr F.PW_SBUS_LOWIND 1

theorem busLow_effect (s : State) (mv : Nat) :
    (s.busLow mv).phase = s.phase ∧ (s.busLow mv).rd F.PW_SBUS_LOWIND = 1 ∧ (s.busLow mv).rd F.PW_SBUS_WARNIND = 1 ∧
    Leaves s (s.busLow mv) [(F.PW_SBUS_SBUS, 0), (F.PW_SBUS_WARNIND, 0), (F.PW_SBUS_LOWIND, 0)] := by
  have same : Leaves s s [(F.PW_SBUS_SBUS, 0), (F.PW_SBUS_WARNIND, 0), (F.PW_SBUS_LOWIND, 0)] := Still.leaves ⟨rfl, rfl, rfl, rfl, rfl, rfl⟩ rfl _
  refine ⟨?_, State.wr_rd_self .., ?_, ((same.wr _ _ (by simp)).wr _ _ (by simp)).wr _ _ (by simp)⟩
  · exact (State.wr_rd_ne _ _ (by decide)).trans ((State.wr_rd_ne _ _ (by decide)).trans (State.wr_rd_ne _ _ (by decide)))
  · exact (State.wr_rd_ne _ _ (by decide)).trans (State.wr_rd_self ..)

section
variable {s : State} (saving : s.phase = phSave)
include saving

theorem saveBusLow_cuts (mv : Nat) (started : s.sv.started = true) (open_ : s.sv.closing = false) (free : s.im.anchorW = none) :
    ∃ u, exec (.saveBusLow mv) s = .next u ∧ u.sv.cut = true ∧ u.rd F.PW_SBUS_LOWIND = 1 ∧ u.rd F.PW_SBUS_WARNIND = 1 ∧
      Leaves s u [(F.PW_SBUS_SBUS, 0), (F.PW_SBUS_WARNIND, 0), (F.PW_SBUS_LOWIND, 0)] := by
  obtain ⟨phase, low, warn, leaves⟩ := busLow_effect s.begin mv
  have streaming : (s.begin.busLow mv).phase = phSave ∧ (s.begin.busLow mv).sv.started = true ∧ (s.begin.busLow mv).sv.closing = false ∧
      (s.begin.busLow mv).im.anchorW.isNone = true := ⟨phase.trans saving, started, open_, Option.isNone_iff_eq_none.mpr free⟩
  refine ⟨{ s.begin.busLow mv with sv := { s.sv with cut := true } }, if_pos streaming, rfl, low, warn, ?_⟩
  exact (Leaves.trans (leaves_begin s _) leaves).still ⟨rfl, rfl, rfl, rfl, rfl, rfl⟩ rfl

/-! ### Streaming -/

theorem exec_saveStartRecord_ready (fresh : s.sv.started = false) (runs : s.spRuns 1 = true) :
    exec .saveStartRecord s = .next (if s.sv.empty then s.begin.saveEnd 0
      else if s.ck.stopped.any (· != 1) then s.begin.failSave else s.begin.startRecord.streamEnd) := by
  have taken : ¬ (s.begin.phase ≠ phSave ∨ s.begin.sv.started = true ∨ s.begin.spRuns 1 = false) := by
    rw [show s.begin.sv.started = false from fresh, show s.begin.spRuns 1 = true from runs]
    rintro (other | again | absent)
    exacts [other saving, Bool.noConfusion again, Bool.noConfusion absent]
  refine (if_neg taken).trans ?_
  rw [apply_ite Host.Outcome.next, apply_ite Host.Outcome.next]
  rfl

/-- R120: a save-bus warning while streaming lowers the rate by a quarter, down to R_CAP/16. -/
theorem exec_saveBusWarning_lowers (mv : Nat) (started : s.sv.started = true) (open_ : s.sv.closing = false) (uncut : s.sv.cut = false)
    (lower : max (s.sv.rs * 3 / 4) (s.sv.rcap / 16) < s.sv.rs) :
    let t := (s.begin.wr F.PW_SBUS_SBUS (mv / 10)).wr F.PW_SBUS_WARNIND 1
    exec (.saveBusWarning mv) s = .next ((t.bump F.SPN_SRATE_DROOP).lowerRate (max (s.sv.rs * 3 / 4) (s.sv.rcap / 16)) s.sv.rcap 4) := by
  intro t
  have phase : t.phase = s.phase := (State.wr_rd_ne _ _ (by decide)).trans (State.wr_rd_ne s.begin _ (by decide))
  have streaming : t.phase = phSave ∧ t.sv.started = true ∧ t.sv.closing = false ∧ t.sv.cut = false := ⟨phase.trans saving, started, open_, uncut⟩
  exact (if_pos streaming).trans (if_pos lower)

/-! ### The manifest -/

theorem exec_truncatedManifestClose_cut (cut : s.sv.cut = true) (open_ : s.sv.closing = false) (free : s.im.anchorW = none)
    (landed : (s.im.flight.any fun k => k.ty == 1) = false) : exec .truncatedManifestClose s = .next (s.begin.closeOut 2) :=
  if_pos ⟨saving, cut, open_, Option.isNone_iff_eq_none.mpr free, landed⟩

/-- R150: a manifest of which no copy reads back is written again; one that does ends the Save. -/
theorem exec_manifestClosed_written {a : Anchor} (flips : List (List Nat)) (written : s.im.anchorW = some a) (manifest : a.kind ≠ 1) :
    let p := s.begin.readBack a flips
    exec (.manifestClosed flips) s = .next (if p.2 = 0 then p.1.rewriteAnchor a else (p.1.standAnchor a p.2).saveEnd a.result) := by
  intro p
  refine (if_neg (not_not_intro saving)).trans ?_
  change (match s.im.anchorW with | none => _ | some a => _) = _
  simp only [written]
  exact (if_neg manifest).trans (apply_ite Host.Outcome.next ..).symm

/-- R124: the Skeins in flight when a Save is aborted commit or are abandoned, as the abort finds them. -/
theorem exec_forcedAbort_started (commits : List Nat) (low : s.pw.resetLow = true) (full : s.sv.empty = false) (started : s.sv.started = true)
    (first : s.sv.closing = false ∨ s.sv.result ≠ 3) :
    let t := (s.im.flight.filter fun k => k.ty == 1).foldl (fun a k => if commits.contains k.gen then a.commitData k else a.abandon k) s.begin
    exec (.forcedAbort commits) s = .next (State.closeOut { t with sv := { t.sv with cut := true } } 3) := by
  intro t
  have taken : ¬ (s.begin.phase ≠ phSave ∨ s.begin.pw.resetLow = false ∨ (s.begin.sv.closing = true ∧ s.begin.sv.result = 3)) := by
    rw [show s.begin.pw.resetLow = true from low]
    rintro (other | high | ⟨closing, again⟩)
    · exact other saving
    · cases high
    · rcases first with early | other
      · rw [show s.begin.sv.closing = false from early] at closing; cases closing
      · exact other again
  have begun : (if s.begin.sv.started then s.begin else s.begin.startRecord) = s.begin := if_pos started
  refine (if_neg taken).trans ((if_neg (ne_true_of_eq_false full)).trans ?_)
  rw [begun]
  rfl

/-- R120: energy failing in SAVE fails it, and takes the device down, to OFF where nothing is left. -/
theorem exec_energyFail_saving :
    let t := s.begin.releaseTargets.wr F.SPN_SAVE_RESULT 4
    let t : State := { t with im := { t.im with anchorW := none }, sv := { t.sv with owed := true, result := 4 } }
    exec .energyFail s =
      .next (if s.flag F.PW_VIN_OK == false && s.rd F.EN_SUM_EU == 0 then (t.powerDown 0x0B).energyGone else t.powerDown 0x0B) := if_pos saving

end

/-- Settles O49. -/
theorem saveCourse : Obligations.SaveCourse := by
  refine ⟨fun s saving => ⟨exec_saveStartRecord_ready saving, fun a flips => exec_manifestClosed_written saving flips, ?_,
    exec_truncatedManifestClose_cut saving, fun commits => exec_forcedAbort_started saving commits, exec_energyFail_saving saving⟩,
    fun s lingering => ⟨exec_lingerTimerExpiry_lingering lingering, exec_lingerEnergyLimit_lingering lingering⟩⟩
  intro mv started open_
  exact ⟨exec_saveBusWarning_lowers saving mv started open_, saveBusLow_cuts saving mv started open_⟩

end Sys2Proof.Machine
end

section
/-! PROOFS. Admission, the end of preparation, and the ends of eager reads and demand fetches (O50). -/
namespace Sys2Proof.Machine

/-! ### Admission -/

section
variable {s : State} (runs : s.mpRuns = true) (phase : s.phase = phBringup ∨ s.serving = true) (waiting : s.admitted = false)
  (settled : s.flag F.GEN_ADMIT_FIRST = false)
include runs phase waiting settled

/-- What keeps the evaluation from being made (R388). -/
theorem admission_due :
    ¬ (!s.begin.mpRuns || !(s.begin.phase == phBringup || s.begin.serving) || s.begin.admitted || s.begin.flag F.GEN_ADMIT_FIRST) = true := by
  have phase' : (s.begin.phase == phBringup || s.begin.serving) = true := by
    rcases phase with bringup | serving
    · rw [show s.begin.phase = phBringup from bringup]; rfl
    · rw [show s.begin.serving = true from serving, Bool.or_true]
  rw [show s.begin.mpRuns = true from runs, phase', show s.begin.admitted = false from waiting, show s.begin.flag F.GEN_ADMIT_FIRST = false from settled]
  decide

theorem exec_admissionEvaluate_confirmed {i : Nat} (met : s.unmet = 0) (image : s.im.imageId = some (i, true)) :
    exec .admissionEvaluate s = .next ((s.begin.wr F.GEN_ADMIT_BLOCK 0).grantAdmission false) := by
  have met' : s.begin.unmet = 0 := met
  refine (if_neg (admission_due runs phase waiting settled)).trans ((if_pos met').trans ?_)
  rw [met']
  change (match s.im.imageId with | some (_, true) => _ | _ => _) = _
  simp only [image]

theorem exec_admissionEvaluate_first (met : s.unmet = 0) (image : s.im.imageId = none) :
    exec .admissionEvaluate s = .next (s.begin.wr F.GEN_ADMIT_BLOCK 0).firstAdmit := by
  have met' : s.begin.unmet = 0 := met
  refine (if_neg (admission_due runs phase waiting settled)).trans ((if_pos met').trans ?_)
  rw [met']
  change (match s.im.imageId with | some (_, true) => _ | _ => _) = _
  simp only [image]

/-- R388: conditions that are not met are shown. -/
theorem admissionEvaluate_blocked (unmet : s.unmet ≠ 0) (told : s.pan.blocked = true) :
    ∃ t, exec .admissionEvaluate s = .next t ∧ t.rd F.GEN_ADMIT_BLOCK = s.unmet % 2 ^ F.GEN_ADMIT_BLOCK.width ∧ t.admitted = false ∧
      Leaves s t [(F.GEN_ADMIT_BLOCK, 0)] := by
  have silent : ¬ (s.pan.blocked = false ∧ s.pan.romAt + 10000000000 ≤ s.ck.mono ∧
      ((s.begin.wr F.GEN_ADMIT_BLOCK s.unmet).serving = true ∨ s.rs.ready = true)) := by
    rw [told]; exact fun h => Bool.noConfusion h.1
  refine ⟨s.begin.wr F.GEN_ADMIT_BLOCK s.unmet, ?_, State.wr_rd_self .., ?_, (leaves_begin s _).wr _ _ (by simp)⟩
  · exact (if_neg (admission_due runs phase waiting settled)).trans ((if_neg unmet).trans (if_neg silent))
  · exact (flag_of_rd (State.wr_rd_ne s.begin s.unmet (by decide))).trans waiting

end

/-- R389: the first admission's anchor read back, the image is confirmed. -/
theorem exec_firstAdmissionComplete_written {s : State} {a : Anchor} (flips : List (List Nat)) (first : s.flag F.GEN_ADMIT_FIRST = true)
    (running : s.phase ≠ phSave) (written : s.im.anchorW = some a) :
    let p := s.begin.readBack a flips
    let t : State := { p.1 with im := { p.1.im with imageId := p.1.im.imageId.map fun i => (i.1, true) }, pan := { p.1.pan with first := false } }
    exec (.firstAdmissionComplete flips) s =
      .next (if p.2 = 0 then p.1.rewriteAnchor a else (((t.wr F.GEN_ADMIT_FIRST 0).passDone a p.2).grantAdmission true)) := by
  intro p t
  have taken : ¬ (!s.begin.flag F.GEN_ADMIT_FIRST || s.begin.phase == phSave) = true := by
    rw [show s.begin.flag F.GEN_ADMIT_FIRST = true from first, show (s.begin.phase == phSave) = false from beq_false_of_ne running]; decide
  refine (if_neg taken).trans ?_
  change (match s.im.anchorW with | none => _ | some a => _) = _
  simp only [written]
  exact (apply_ite Host.Outcome.next ..).symm

/-! ### What reading Strands writes -/

/-- The registers that count reads and rebuilds of Strands. -/
def strandPlaces : List (Field × Nat) := [(F.FC_RRT_REFRESH, 0), (F.SPN_RBLD_STRANDS, 0)]

theorem writes_refresh (s : State) (b m : Nat) : Writes strandPlaces s (s.refresh b m) := by
  unfold State.refresh
  extract_lets x t
  have counted : Writes strandPlaces s t := ((Writes.refl _ s).regs (u := s.setBlk m x) rfl).wr F.FC_RRT_REFRESH _ (by simp [strandPlaces])
  clear_value t
  exact .ite _ (.refl _ s) (.ite _ counted (counted.regs rfl))

theorem writes_strandReads (s : State) (k : Skein) (j n : Nat) (flips : List Nat) : Writes strandPlaces s (s.strandReads k j n flips) := by
  unfold State.strandReads
  split
  · exact .refl _ s
  · extract_lets c x t
    have read : Writes strandPlaces s t := (Writes.refl _ s).regs rfl
    exact .ite _ (read.trans (writes_refresh t _ _)) read

theorem writes_strandRebuilt (s : State) (k : Skein) (j : Nat) : Writes strandPlaces s (s.strandRebuilt k j) := by
  unfold State.strandRebuilt
  extract_lets l
  have kept (x : Flash) : Writes strandPlaces s { s with fc := x } := (Writes.refl _ s).regs rfl
  exact ((kept { s.fc with reclaim := l }).wr F.SPN_RBLD_STRANDS _ (by simp [strandPlaces])).event _ _

theorem writes_tryRebuild (s : State) (k : Skein) (j : Nat) (others : List Nat) : Writes strandPlaces s (s.tryRebuild k j others).1 := by
  unfold State.tryRebuild
  split
  · have reads : Writes strandPlaces s (s.rebuildReads k j) := (Writes.refl _ s).forEach _ _ fun a i _ => writes_strandReads a k i 1 []
    exact reads.trans (writes_strandRebuilt _ k j)
  · exact .refl _ s

theorem writes_fetchRead (s : State) (atOnce : Bool) (k : Skein) (j : Nat) (flips others : List Nat) :
    Writes strandPlaces s (s.fetchRead atOnce k j flips others).1 := by
  unfold State.fetchRead
  extract_lets read t
  have tried : Writes strandPlaces s t := .ite _ (writes_strandReads s k j 1 flips) (.refl _ s)
  split
  · exact tried
  · exact tried.trans (writes_tryRebuild t k j others)

/-! ### Eager reads -/

/-- R158, R159: a Strand that is due is read, rebuilt where it is not intact, and its units are installed. -/
theorem exec_eagerReadComplete_due {s : State} {k : Skein} {gen j : Nat} (reads : List (List Nat)) (others bad : List Nat)
    (found : FMap.find s.im.skeins gen = some k) (restoring : s.restoring = true) (runs : s.spRuns 1 = true) (data : k.ty = 1)
    (due : s.eagerDue k j = true) :
    let r := s.begin.retryRead k j reads
    let p := if r.2 then (r.1, true) else r.1.tryRebuild k j others
    exec (.eagerReadComplete gen j reads others bad) s = .next (p.1.forEach (List.range 4) fun a q => a.eagerSlot k j p.2 bad q).settleShares := by
  intro r p
  have taken : (s.begin.restoring && s.begin.spRuns 1 && k.ty == 1 && s.begin.eagerDue k j) = true := by
    rw [show s.begin.restoring = true from restoring, show s.begin.spRuns 1 = true from runs, show s.begin.eagerDue k j = true from due, data]; rfl
  change (match FMap.find s.im.skeins gen with | none => _ | some k => _) = _
  simp only [found]
  exact if_pos taken

/-! ### Demand fetches -/

/-- R161, R162: how the fetch of a unit that was issued ends. -/
def State.fetchTail (t : State) (u : Nat) (f : Fetch) (flips others : List Nat) (bad : Bool) (us : Nat) : Answer :=
  if t.rmapOf u ≠ 1 then .next (t.endFetch u us false)
  else match t.slotOf u with
    | none => .next ((t.setPresent u).mergeWaits u |>.endFetch u us false)
    | some (k, i, x) =>
      if t.isListed u then
        let t := (t.installUnit u 0 x).endFetch u us false
        if t.phase = phSave then .next t.streamEnd else .next t.settleShares
      else
        let r := t.fetchRead f.atOnce k (i / 4) flips others
        if r.2 = false ∧ r.1.phase ≠ phSave then
          .next (State.endFetch { r.1 with rs := { r.1.rs with handed := u :: r.1.rs.handed } } u us true)
        else
          let t := (r.1.installUnit u (if !r.2 then 2 else if bad then 3 else 0) x).endFetch u us false
          if t.phase = phSave then .next t.streamEnd else .next t.settleShares

theorem exec_demandFetchComplete_issued {s : State} {u us : Nat} {f : Fetch} (flips others : List Nat) (bad : Bool)
    (found : FMap.find s.rs.fetches u = some f) (issued : (f.sent || f.atOnce) = true) (serving : s.serving = true) :
    exec (.demandFetchComplete u flips others bad us) s = s.begin.fetchTail u f flips others bad us := by
  have taken : ¬ (!(f.sent || f.atOnce) || !(s.begin.serving || s.begin.phase == phSave)) = true := by
    rw [issued, show s.begin.serving = true from serving]; simp
  change (match FMap.find s.rs.fetches u with | none => _ | some f => _) = _
  simp only [found]
  exact if_neg taken

section
variable {t : State} {u us : Nat} {f : Fetch} (flips others : List Nat) (bad : Bool)

theorem fetchTail_moved (moved : t.rmapOf u ≠ 1) : t.fetchTail u f flips others bad us = .next (t.endFetch u us false) := if_pos moved

section
variable (absent : t.rmapOf u = 1)
include absent

theorem fetchTail_unnamed (unnamed : t.slotOf u = none) :
    t.fetchTail u f flips others bad us = .next (((t.setPresent u).mergeWaits u).endFetch u us false) := by
  refine (if_neg (not_not_intro absent)).trans ?_
  simp only [unnamed]

variable {k : Skein} {i : Nat} {x : Slot} (named : t.slotOf u = some (k, i, x))
include named

theorem fetchTail_listed (listed : t.isListed u = true) :
    let a := (t.installUnit u 0 x).endFetch u us false
    t.fetchTail u f flips others bad us = .next (if a.phase = phSave then a.streamEnd else a.settleShares) := by
  intro a
  refine (if_neg (not_not_intro absent)).trans ?_
  simp only [named]
  exact (if_pos listed).trans (apply_ite Host.Outcome.next ..).symm

/-- R161: a unit whose Strand was read or rebuilt is installed. -/
theorem fetchTail_read (unlisted : t.isListed u = false) (held : (t.fetchRead f.atOnce k (i / 4) flips others).2 = true) :
    let a := ((t.fetchRead f.atOnce k (i / 4) flips others).1.installUnit u (if bad then 3 else 0) x).endFetch u us false
    t.fetchTail u f flips others bad us = .next (if a.phase = phSave then a.streamEnd else a.settleShares) := by
  intro a
  refine (if_neg (not_not_intro absent)).trans ?_
  simp only [named]
  refine (if_neg (ne_true_of_eq_false unlisted)).trans ?_
  simp only [held]
  exact (if_neg fun h => Bool.noConfusion h.1).trans (apply_ite Host.Outcome.next ..).symm

/-- R161: a unit whose Strand is neither read nor rebuilt is handed to the eager restore while hosts are served. -/
theorem fetchTail_lost (unlisted : t.isListed u = false) (lost : (t.fetchRead f.atOnce k (i / 4) flips others).2 = false)
    (serving : t.serving = true) :
    let r := t.fetchRead f.atOnce k (i / 4) flips others
    t.fetchTail u f flips others bad us =
      .next (({ r.1 with rs := { r.1.rs with handed := u :: r.1.rs.handed } } : State).endFetch u us true) := by
  intro r
  have kept : r.1.phase = t.phase := (writes_fetchRead t f.atOnce k (i / 4) flips others).rd (by decide)
  have awake : r.1.phase ≠ phSave := by
    rw [kept]
    rcases phase_of_serving serving with service | restore
    · rw [service]; decide
    · rw [restore]; decide
  refine (if_neg (not_not_intro absent)).trans ?_
  simp only [named]
  exact (if_neg (ne_true_of_eq_false unlisted)).trans (if_pos ⟨lost, awake⟩)

end

end

/-- Settles O50. -/
theorem admissionAndRestore : Obligations.AdmissionAndRestore := by
  refine ⟨⟨?_, fun s a flips => exec_firstAdmissionComplete_written flips,
      fun s bad lost bringup stage fresh runs => if_pos ⟨bringup, stage, fresh, runs⟩⟩,
    fun s k gen j reads others bad => exec_eagerReadComplete_due reads others bad, ?_⟩
  · intro s runs phase waiting settled
    exact ⟨fun i => exec_admissionEvaluate_confirmed runs phase waiting settled, exec_admissionEvaluate_first runs phase waiting settled,
      admissionEvaluate_blocked runs phase waiting settled⟩
  · intro s u us f flips others bad found issued serving
    rw [exec_demandFetchComplete_issued flips others bad found issued serving]
    refine ⟨fetchTail_moved (t := s.begin) flips others bad, fetchTail_unnamed (t := s.begin) flips others bad,
      fun k i x absent named => fetchTail_listed (t := s.begin) flips others bad absent named, ?_⟩
    intro k i x absent named unlisted
    exact ⟨fetchTail_read (t := s.begin) flips others bad absent named unlisted,
      fun lost => fetchTail_lost (t := s.begin) flips others bad absent named unlisted lost serving⟩

end Sys2Proof.Machine
end

section
/-! PROOFS. Twine ports come up, agree on a session, and go down (O54). -/
namespace Sys2Proof.Machine

/-! ### Link up and IDE -/

/-- R197: a port of the pair that trains in FLIT mode runs at the lesser of its rate and the maximum. -/
theorem exec_twineLinkUp_trained {s : State} {p width rate : Nat} (port : p < 2) (widths : width = 4 ∨ width = 8 ∨ width = 16)
    (enabled : natBit (s.rd F.TW_CTL_EN) p = true) (serving : s.serving = true) (seated : s.flag F.GEN_PINS_PRSNT = false)
    (down : s.rdi F.TW_PORT_STATE p = 1) (trained : rate ≠ 0) :
    let t := s.begin.setBit F.GEN_LOCK_BLOCKS 7 true
    let t : State := { t with tw := { t.tw with hello := natClearBit t.tw.hello p } }
    let lim := max 1 (if p = 0 then s.rd F.TW_CTL_MAXRATE0 else s.rd F.TW_CTL_MAXRATE1)
    exec (.twineLinkUp p width rate true) s = .next ((((t.wri F.TW_PORT_STATE p 3).wri F.TW_PORT_WIDTH p width).wri F.TW_PORT_RATE p
      (min rate lim)).wri F.TW_PORT_IDEFAIL p 0) := by
  intro t0 t lim
  have taken : ¬ (2 ≤ p ∨ (!natBit (s.begin.rd F.TW_CTL_EN) p) = true ∨ (!(s.begin.serving || s.begin.phase == phBringup)) = true ∨
      s.begin.flag F.GEN_PINS_PRSNT = true ∨ s.begin.rdi F.TW_PORT_STATE p = 3 ∨ s.begin.rdi F.TW_PORT_STATE p = 6) := by
    rw [show natBit (s.begin.rd F.TW_CTL_EN) p = true from enabled, show s.begin.serving = true from serving,
      show s.begin.flag F.GEN_PINS_PRSNT = false from seated, show s.begin.rdi F.TW_PORT_STATE p = 1 from down]
    simp [port]
  have runs : ¬ (rate = 0 ∨ true = false ∨ (! [4, 8, 16].contains width) = true) := by
    rcases widths with rfl | rfl | rfl <;> simp [trained]
  have max0 : t0.rd F.TW_CTL_MAXRATE0 = s.rd F.TW_CTL_MAXRATE0 := State.wr_rd_ne s.begin _ (by decide)
  have max1 : t0.rd F.TW_CTL_MAXRATE1 = s.rd F.TW_CTL_MAXRATE1 := State.wr_rd_ne s.begin _ (by decide)
  have same : max 1 (if p = 0 then t0.rd F.TW_CTL_MAXRATE0 else t0.rd F.TW_CTL_MAXRATE1) = lim := by rw [max0, max1]
  refine (if_neg taken).trans ((if_neg runs).trans ?_)
  rw [same]

section
variable {s : State} {p : Nat} (port : p < 2)
include port

theorem exec_twineIdeActive_partner (up : s.rdi F.TW_PORT_STATE p = 3) (named : natBit s.tw.hello p = true) (healthy : s.flag F.SEC_STS_DRBGOK = true) :
    exec (.twineIdeActive p (s.peerSerial p)) s = .next ((s.begin.skipDrbg.wri F.TW_PORT_IDE p 1).tryOpen p) := by
  refine (if_pos ⟨port, up, named⟩).trans ((if_pos rfl).trans (congrArg _ ?_))
  unfold State.whenDrbg
  rw [healthy, Bool.true_or, if_pos rfl]

theorem exec_twineIdeActive_other {serial : Nat} (up : s.rdi F.TW_PORT_STATE p = 3) (named : natBit s.tw.hello p = true)
    (other : serial ≠ s.peerSerial p) : exec (.twineIdeActive p serial) s = .next (s.begin.wri F.TW_PORT_STATE p 6) :=
  (if_pos ⟨port, up, named⟩).trans (if_neg other)

theorem exec_twineLinkDown_up (up : s.rdi F.TW_PORT_STATE p = 3) :
    exec (.twineLinkDown p) s = .next (((s.begin.wri F.TW_PORT_LOOPBACK p 0).wri F.TW_PORT_MISMATCH p 0).twineDown p 0) := if_pos ⟨port, .inl up⟩

theorem exec_twineIdeFail_secured (secured : s.flagi F.TW_PORT_IDE p = true) :
    exec (.twineIdeFail p) s = .next ((((s.begin.wri F.TW_PORT_IDEFAIL p 1).bump F.TW_CNT_IDEF).event 0x7007 [p]).twineDown p 1) :=
  if_pos ⟨port, secured⟩

/-! ### HELLO and SESSION -/

theorem exec_hello_loopback (up : s.rdi F.TW_PORT_STATE p = 3) (seen : Nat) :
    exec (.hello p s.serial seen) s = .next (((s.begin.wri F.TW_PORT_STATE p 6).wri F.TW_PORT_LOOPBACK p 1).event 0x700A [p]) :=
  (if_neg (not_or.mpr ⟨Nat.not_le.mpr port, not_not_intro up⟩)).trans (if_pos rfl)

/-- R198: the HELLO of another controller that has seen this one's serial number names the port's partner. -/
theorem exec_hello_partner (up : s.rdi F.TW_PORT_STATE p = 3) {serial : Nat} (other : serial ≠ s.serial) (idle : s.session = false) :
    let t : State := { s.begin with tw := { s.tw with serial0 := if p = 0 then serial else s.tw.serial0
                                                      serial1 := if p = 0 then s.tw.serial1 else serial, hello := natSetBit s.tw.hello p } }
    exec (.hello p serial s.serial) s = .next ((t.wr F.TW_PAIR_PERS (if s.serial < serial then 1 else 2)).tryOpen p) := by
  intro t
  have open_ : ¬ (s.begin.session && serial != s.begin.rd F.TW_PEER_VALUE) = true := by
    rw [show s.begin.session = false from idle, Bool.false_and]; exact Bool.false_ne_true
  have seen : (if s.serial = s.begin.serial then natSetBit s.tw.hello p else s.tw.hello) = natSetBit s.tw.hello p := if_pos rfl
  refine (if_neg (not_or.mpr ⟨Nat.not_le.mpr port, not_not_intro up⟩)).trans ((if_neg other).trans ((if_neg open_).trans ?_))
  dsimp only [State.begin_tw]
  rw [seen]
  rfl

theorem exec_saving_session (session : s.rd F.TW_PAIR_STATE = 1) (runs : s.spRuns 3 = true) : exec (.saving p) s = .next (s.begin.pairLost 1) :=
  (if_pos ⟨port, .inl session⟩).trans (congrArg _ (if_pos runs))

end

/-! ### Loss and the interval of HELLO -/

theorem exec_lossTimeout_lost {s : State} (gone : s.rd F.TW_PAIR_STATE = 3) (runs : s.spRuns 3 = true) :
    exec .lossTimeout s = .next (s.begin.pairLost 0) := (if_pos gone).trans (congrArg _ (if_pos runs))

theorem exec_lossTimeout_due {s : State} (gone : s.rd F.TW_PAIR_STATE = 3) (absent : s.spRuns 3 = false) :
    exec .lossTimeout s = .next { s.begin with tw := { s.tw with lossDue := some 0 } } :=
  (if_pos gone).trans (congrArg _ (if_neg (ne_true_of_eq_false absent)))

/-- R206: a port that is up and has no partner's HELLO sends one. -/
theorem exec_helloInterval_first {s : State} (up : s.rdi F.TW_PORT_STATE 0 = 3) (other : s.rdi F.TW_PORT_STATE 1 ≠ 3)
    (unheard : natBit s.tw.hello 0 = false) : exec .helloInterval s = .next (s.begin.send (.twine 0x01 0 [s.serial, s.peerSerial 0, 0x100])) := by
  have first : s.begin.rdi F.TW_PORT_STATE 0 = 3 ∧ natBit s.begin.tw.hello 0 = false := ⟨up, unheard⟩
  change Host.Outcome.next ([0, 1].foldl _ s.begin) = _
  rw [List.foldl_cons, if_pos first, List.foldl_cons, List.foldl_nil, if_neg fun h => other h.1]
  rfl

/-! ### Opening a session -/

section
variable {s : State} {p n : Nat} (serving : s.serving = true) (runs : s.spRuns 3 = true) (port : s.portReady p = true) (idle : s.session = false)
include serving runs port idle

/-- R198: SP3 takes a SESSION on a port that is ready while no session is open. -/
theorem session_taken (confirm : Bool) : exec (.session p n confirm) s =
    .next (if !confirm && s.rd F.TW_PAIR_PERS == 2 then (s.begin.send (.twine 0x02 p [n + 2 ^ 63])).openSession p n
      else if confirm && s.tw.offered == some n then s.begin.openSession p n else s.begin) := by
  have open_ : ¬ (!(s.begin.serving && s.begin.portReady p) || s.begin.session) = true := by
    rw [show s.begin.serving = true from serving, show s.begin.portReady p = true from port, show s.begin.session = false from idle]
    decide
  exact congrArg Host.Outcome.next ((if_pos runs).trans (if_neg open_))

theorem exec_session_asked (upstream : s.rd F.TW_PAIR_PERS = 2) :
    exec (.session p n false) s = .next ((s.begin.send (.twine 0x02 p [n + 2 ^ 63])).openSession p n) := by
  rw [session_taken serving runs port idle false, upstream]
  rfl

theorem exec_session_echoed (offered : s.tw.offered = some n) : exec (.session p n true) s = .next (s.begin.openSession p n) := by
  rw [session_taken serving runs port idle true, offered]
  simp

end

/-- Settles O54. -/
theorem twineLinks : Obligations.TwineLinks := by
  refine ⟨fun s p width rate => exec_twineLinkUp_trained, ?_, fun s gone => ⟨exec_lossTimeout_lost gone, exec_lossTimeout_due gone⟩,
    fun s => exec_helloInterval_first⟩
  intro s p port
  exact ⟨exec_twineIdeActive_partner port, fun serial => exec_twineIdeActive_other port, exec_twineLinkDown_up port, exec_twineIdeFail_secured port,
    exec_hello_loopback port, fun up serial => exec_hello_partner port up,
    fun n serving runs ready idle => ⟨exec_session_asked serving runs ready idle, exec_session_echoed serving runs ready idle⟩,
    exec_saving_session port⟩

end Sys2Proof.Machine
end

section
/-! PROOFS. The Twine stream: marks, acknowledgements, writes, sequenced messages and the twin map (O55). -/
namespace Sys2Proof.Machine

/-! ### Marks, acknowledgements and writes -/

section
variable {s : State} (session : s.session = true)
include session

theorem exec_markInterval_session (n0 n1 : Nat) : exec (.markInterval n0 n1) s = .next ((s.begin.drainPort 0 n0).drainPort 1 n1).copyStep :=
  if_pos session

theorem exec_mark_linked {p : Nat} (seq : Nat) (link : s.linkIn p = true) : exec (.mark p seq) s =
    .next ({ s.begin with tw := { s.tw with mark0 := if p = 0 then max s.tw.mark0 seq else s.tw.mark0
                                            mark1 := if p = 0 then s.tw.mark1 else max s.tw.mark1 seq } } : State).advance :=
  if_pos (by rw [show s.begin.session = true from session, show s.begin.linkIn p = true from link]; rfl)

/-- R202: an ACK of the session that is ahead advances the acknowledged sequence. -/
theorem exec_ack_ahead {pre : Nat} (ahead : s.rd F.TW_ASEQ_VALUE < pre) :
    let t := s.begin.wr F.TW_ASEQ_VALUE pre
    exec (.ack pre (s.rd F.TW_PAIR_SESSION)) s =
      .next (State.endCatchups (if s.tw.prevEnd ≤ pre then { t with tw := { t.tw with mapPrev := [] } } else t)).flushTwined := by
  intro t
  have taken : ¬ (!s.begin.session || s.rd F.TW_PAIR_SESSION != s.begin.rd F.TW_PAIR_SESSION || decide (pre ≤ s.begin.rd F.TW_ASEQ_VALUE)) = true := by
    rw [show s.begin.session = true from session, 
      show decide (pre ≤ s.begin.rd F.TW_ASEQ_VALUE) = false from decide_eq_false (Nat.not_le.mpr ahead),
      show (s.rd F.TW_PAIR_SESSION != s.begin.rd F.TW_PAIR_SESSION) = false from bne_self_eq_false _]
    decide
  exact if_neg taken

section
variable {p : Nat} (link : s.linkIn p = true) (free : s.creditsHeld p = false) (joined : natBit s.tw.inLinks p = true)
include link free joined

theorem exec_replicaWrite_applies (share off : Nat) (lines : List (BitVec 512 × Bool)) (flowing : s.flag F.MR_SLUICE_STALL = false) :
    exec (.replicaWrite p share off lines) s = .next (s.begin.applyWrite { port := p, share := share, line := off / 64, lines := lines }) := by
  have taken : ¬ (!s.begin.session || !s.begin.linkIn p || s.begin.flag F.MR_SLUICE_STALL || s.begin.creditsHeld p) = true := by
    rw [show s.begin.session = true from session, show s.begin.linkIn p = true from link, show s.begin.flag F.MR_SLUICE_STALL = false from flowing,
      show s.begin.creditsHeld p = false from free]
    decide
  exact (if_neg taken).trans (if_pos joined)

/-- R97, R203: the first copy of a RELEASE message takes a walk register on the replica. -/
theorem exec_releaseMessage_walks {share r : Nat} (seq units first : Nat) (defined : s.shDefined share = true) (replica : s.role share = 2)
    (fresh : (s.walks.find? fun w => w.2.twine && w.2.seq == seq) = none) (register : s.freeWalk = some r)
    (unqueued : FMap.find s.tw.relWait seq = none) :
    let lo := s.shLo share + first
    let w : Walk := { share := share, lo := lo, hi := min (lo + units) (s.shHi share), qid := 0, seq := seq, twine := true, links := 2 ^ p }
    let t := ({ s.begin with walks := FMap.put s.walks r w } : State).noteCopy (2 ^ p) seq 0x12 [share, units, first]
    exec (.releaseMessage p seq share units first) s = .next (t.runInbox (t.tw.inbox.length + 1)) := by
  intro lo w t
  have taken : ¬ (!s.begin.session || !s.begin.linkIn p || (s.begin.creditsHeld p && !FMap.has s.begin.tw.relWait seq)) = true := by
    rw [show s.begin.session = true from session, show s.begin.linkIn p = true from link, show s.begin.creditsHeld p = false from free,
      Bool.false_and]
    decide
  have ours : ¬ (!s.begin.shDefined share || s.begin.role share != 2) = true := by
    rw [show s.begin.shDefined share = true from defined, show s.begin.role share = 2 from replica]; decide
  have joined' : ¬ (!natBit s.begin.tw.inLinks p) = true := by rw [show natBit s.begin.tw.inLinks p = true from joined]; decide
  have copy : s.begin.releaseCopy p seq share units first = t := by
    unfold State.releaseCopy
    change (match s.walks.find? fun w => w.2.twine && w.2.seq == seq with | some (r, w) => _ | none => _) = _
    simp only [fresh]
    change (match s.freeWalk, FMap.find s.tw.relWait seq with | none, some e => _ | none, none => _ | some r, e => _) = _
    simp only [register, unqueued]
    rfl
  refine (if_neg taken).trans ((if_neg ours).trans ((if_neg joined').trans ?_))
  rw [copy]

end

/-! ### The partner's shares -/

/-- R206: a STATE that is not the last of a session's opening is recorded. -/
theorem state_recorded {share partner role pstate : Nat} {lossrep incons : Bool} {pairid : Nat} (runs : s.spRuns 3 = true)
    (opening : s.tw.reunited = false) (paired : role ≠ 0) :
    ∃ t, exec (.state share partner role pstate lossrep false incons pairid) s = .next t ∧
      FMap.find t.tw.peers pairid = some { share := share, partner := partner, role := role, pstate := pstate, lossrep := lossrep,
                                           incons := incons } ∧ t.tw.reunited = false ∧ Leaves s t [] := by
  let r : PeerShare := { share := share, partner := partner, role := role, pstate := pstate, lossrep := lossrep, incons := incons }
  refine ⟨{ s.begin with tw := { s.tw with peers := FMap.put s.tw.peers pairid r } }, congrArg _ ((if_pos runs).trans ?_), ?_, opening,
    (leaves_begin s _).still ⟨rfl, rfl, rfl, rfl, rfl, rfl⟩ rfl⟩
  · unfold State.takeState
    rw [if_neg (by rw [show s.begin.session = true from session]; decide)]
    extract_lets r' t
    have noted : t = { s.begin with tw := { s.tw with peers := FMap.put s.tw.peers pairid r } } := if_neg fun h => paired h.1
    have first : (!t.tw.reunited) = true := by rw [noted]; exact congrArg not opening
    rw [if_pos first, if_neg Bool.false_ne_true, noted]
  · exact (FMap.find_put _ _ _ _).trans (if_pos rfl)

end

/-! ### Sequenced messages -/

/-- A sequenced message of which the first copy has come. -/
def firstCopy (p seq ty : Nat) (ws : List Nat) : InMsg := { seq := seq, ty := ty, words := ws, links := 2 ^ p, done := false }

/-- The only message in the inbox takes effect once its copy has come on every link. -/
theorem runInbox_takes {s : State} {m : InMsg} (only : s.tw.inbox = [m]) (due : s.messageDue m = true) (k : Nat) :
    s.runInbox (k + 1) = (({ s with tw := { s.tw with inbox := [{ m with done := true }] } } : State).takeMessage m).runInbox k := by
  rw [State.runInbox]
  simp [only, due]

theorem runInbox_waits {s : State} {m : InMsg} (only : s.tw.inbox = [m]) (early : s.messageDue m = false) (k : Nat) :
    s.runInbox (k + 1) = s.advance := by
  rw [State.runInbox]
  simp [only, early]

section
variable {s : State} {p ty : Nat} (seq : Nat) (ws : List Nat) (session : s.session = true) (port : p < 2) (runs : s.spRuns 3 = true)
  (empty : s.tw.inbox = []) (other : ty ≠ 0x04)
include session empty other

/-- The first copy of a message is noted and the inbox is worked. -/
theorem copyArrived_first (link : s.linkIn p = true) : s.copyArrived p seq ty ws =
    ({ s with tw := { s.tw with inbox := [firstCopy p seq ty ws] } } : State).runInbox 2 := by
  have taken : ¬ (!s.session || !s.linkIn p) = true := by rw [session, link]; decide
  have noted : s.noteCopy (2 ^ p) seq ty ws = { s with tw := { s.tw with inbox := [firstCopy p seq ty ws] } } := by
    unfold State.noteCopy
    simp [empty, firstCopy]
  unfold State.copyArrived
  rw [if_neg taken, if_neg other]
  dsimp only
  rw [noted]
  rfl

include runs port

theorem copyArrived_single (links : s.rd F.TW_PAIR_LINKS = 2 ^ p) : s.copyArrived p seq ty ws =
    (({ s with tw := { s.tw with inbox := [{ firstCopy p seq ty ws with done := true }] } } : State).takeMessage (firstCopy p seq ty ws)).runInbox 1 := by
  have small : 2 ^ p / 1 % 4 = 2 ^ p := by interval_cases p <;> rfl
  have link : s.linkIn p = true := by rw [State.linkIn, links]; interval_cases p <;> rfl
  have due : ({ s with tw := { s.tw with inbox := [firstCopy p seq ty ws] } } : State).messageDue (firstCopy p seq ty ws) = true := by
    change (!false && 2 ^ p / 1 % 4 == s.rd F.TW_PAIR_LINKS && (ty == 0x12 || ty == 0x04 || s.spRuns 3)) = true
    rw [small, links, runs]
    simp
  rw [copyArrived_first seq ws session empty other link, runInbox_takes rfl due]

omit runs in
theorem copyArrived_double (links : s.rd F.TW_PAIR_LINKS = 3) : s.copyArrived p seq ty ws =
    ({ s with tw := { s.tw with inbox := [firstCopy p seq ty ws] } } : State).advance := by
  have link : s.linkIn p = true := by rw [State.linkIn, links]; interval_cases p <;> rfl
  have early : ({ s with tw := { s.tw with inbox := [firstCopy p seq ty ws] } } : State).messageDue (firstCopy p seq ty ws) = false := by
    have half : (2 ^ p / 1 % 4 == s.rd F.TW_PAIR_LINKS) = false := by rw [links]; interval_cases p <;> rfl
    change (!false && 2 ^ p / 1 % 4 == s.rd F.TW_PAIR_LINKS && (ty == 0x12 || ty == 0x04 || s.spRuns 3)) = false
    rw [half]
    rfl
  rw [copyArrived_first seq ws session empty other link, runInbox_waits rfl early]

end

/-- R203, R206: the sequenced messages of the pair, with their types and words. -/
def IsSequenced (p seq share ty : Nat) (full : Bool) (ws : List Nat) (c : Instr) : Prop :=
  c = .join p seq share ∧ ty = 0x22 ∧ ws = [share] ∨ c = .unpair p seq share ∧ ty = 0x23 ∧ ws = [share] ∨
    c = .catchupBegin p seq share full ∧ ty = 0x24 ∧ ws = [share, bit01 full] ∨ c = .catchupEnd p seq share ∧ ty = 0x25 ∧ ws = [share]

theorem exec_sequenced {p seq share ty : Nat} {full : Bool} {ws : List Nat} {c : Instr} (kind : IsSequenced p seq share ty full ws c) (s : State) :
    exec c s = .next (s.begin.copyArrived p seq ty ws) ∧ ty ≠ 0x04 := by
  rcases kind with ⟨rfl, rfl, rfl⟩ | ⟨rfl, rfl, rfl⟩ | ⟨rfl, rfl, rfl⟩ | ⟨rfl, rfl, rfl⟩ <;> exact ⟨rfl, by decide⟩

/-! ### The twin map -/

theorem exec_twinMapSwap_clear {s : State} (clear : s.tw.mapPrev = []) :
    exec .twinMapSwap s = .next { s.begin with tw := { s.tw with mapPrev := s.tw.mapCur, mapCur := [], prevEnd := s.rd F.TW_OSEQ_VALUE } } :=
  if_pos (List.isEmpty_iff.mpr clear)

/-- Settles O55. -/
theorem twineStream : Obligations.TwineStream := by
  refine ⟨fun s session => ⟨exec_markInterval_session session, fun p seq => exec_mark_linked session seq, fun pre => exec_ack_ahead session, ?_, ?_, ?_, ?_,
    fun p seq joined => if_pos joined⟩, fun s => exec_twinMapSwap_clear⟩
  · intro p share off lines link flowing free joined
    exact exec_replicaWrite_applies session link free joined share off lines flowing
  · intro p seq share units first r link free joined
    exact exec_releaseMessage_walks session link free joined seq units first
  · intro share partner role pstate lossrep incons pairid
    exact state_recorded session
  · intro p seq share ty full ws c port runs empty kind m
    obtain ⟨arrives, other⟩ := exec_sequenced kind s
    rw [arrives]
    exact ⟨fun links => congrArg _ (copyArrived_single (s := s.begin) seq ws session port runs empty other links),
      fun links => congrArg _ (copyArrived_double (s := s.begin) seq ws session port empty other links)⟩

end Sys2Proof.Machine
end

section
/-! PROOFS. Designation, resuming, the copy engine, promotion and the Twine status (O56). -/
namespace Sys2Proof.Machine

/-! ### Designation -/

/-- R208: DESIGNATE in a session is answered with the first cause that refuses it, or 0. -/
theorem exec_designate_session {s : State} (share peer pairid base size : Nat) (session : s.session = true) (runs : s.spRuns 3 = true) :
    let r := s.refuseDesig share base size
    let t := if r = 0 then s.begin.becomeReplica share peer pairid base size
      else if share < 64 then s.begin.wri F.SHR_STATUS_REFUSE share r else s.begin
    exec (.designate share peer pairid base size) s = .next (t.send (.twine 0x21 t.sessionPort [share + peer * 2 ^ 6 + pairid * 2 ^ 32, r])) :=
  congrArg Host.Outcome.next ((if_pos runs).trans
    (if_neg (by rw [show s.begin.session = true from session]; decide)))

theorem exec_designateResp_accepted {s : State} {pairid : Nat} {d : Desig} {v : Via}
    (asked : (s.tw.desigs.find? fun d => d.pairid == pairid && d.via.isSome) = some d) (via : d.via = some v) :
    exec (.designateResp pairid 0) s = .next (State.reply { s.begin with tw := { s.tw with
      desigs := s.tw.desigs.map fun x => if x.pairid == pairid then { x with ok := true, via := none } else x } } v .success [0]) := by
  change (match s.tw.desigs.find? fun d => d.pairid == pairid && d.via.isSome with | none => _ | some d => _) = _
  simp only [asked, via]
  rfl

section
variable {s : State} {v : Via} (ready : MailboxReady s v)
include ready

theorem exec_designateReplica_idle (share base size : Nat) (runs : s.spRuns 3 = true) (idle : s.session = false) :
    exec (.designateReplica v share base size) s = .next (s.begin.reply v .success [2]) := by
  have taken : s.mbox v (.designateReplica v share base size) .other false (fun t =>
      t.bySp3 (.designateReplica v share base size) (t.designateNow v share base size)) = s.begin.reply v .success [2] := by
    refine (mbox_ready ready ..).trans ((if_pos runs).trans (if_pos ?_))
    rw [show s.begin.session = false from idle]
    rfl
  change Host.Outcome.next (s.whenDrbg _ _) = _
  unfold State.whenDrbg
  rw [taken, State.reply_drbgCtr, if_pos (by simp)]

/-- R208: in a session DESIGNATE is sent, and its answer waited for. -/
theorem exec_designateReplica_session (share base size : Nat) (runs : s.spRuns 3 = true) (session : s.session = true)
    (healthy : s.flag F.SEC_STS_DRBGOK = true) :
    let d : Desig := { own := s.freeVal % 64, peer := share, pairid := s.drbgVal % 2 ^ 32, size := size, ok := false, via := some v }
    let t := s.begin.skipDrbg.skipFree
    exec (.designateReplica v share base size) s = .next (State.send { t with tw := { t.tw with desigs := d :: t.tw.desigs } }
      (.twine 0x20 t.sessionPort [share + d.own * 2 ^ 6 + d.pairid * 2 ^ 32, base, size])) := by
  intro d t
  change Host.Outcome.next (s.whenDrbg _ _) = _
  unfold State.whenDrbg
  rw [healthy, Bool.true_or, if_pos rfl]
  refine (answer_mbox ready ..).trans (congrArg _ ((if_pos runs).trans (if_neg ?_)))
  rw [show s.begin.session = true from session]
  decide

/-- R219: a share in HOLD goes on through catch-up. -/
theorem exec_resumeShare_held {share : Nat} (full : Bool) (runs : s.spRuns 3 = true) (known : share < 64) (held : s.pstate share = psHold)
    (session : s.session = true) :
    let t : State := { s.begin with tw := { s.tw with clears := share :: s.tw.clears
                                                      fulls := if full then share :: s.tw.fulls else s.tw.fulls } }
    exec (.resumeShare v share full) s = .next (((t.enterCatchup share).copyNext).reply v .success []) := by
  intro t
  refine (answer_mbox ready ..).trans (congrArg _ ((if_pos runs).trans ((if_neg ?_).trans (if_neg ?_))))
  · exact not_or.mpr ⟨Nat.not_le.mpr known, not_not_intro held⟩
  · rw [show s.begin.session = true from session]
    decide

theorem exec_getTwineStatus_mbox : exec (.getTwineStatus v) s = .next (s.begin.reply v .success ([s.pairWordReg, s.portWordReg 0, s.portWordReg 1,
    s.rd F.TW_OSEQ_VALUE, s.rd F.TW_ASEQ_VALUE, s.rd F.TW_ISEQ_VALUE] ++ (List.range 64).map s.pair)) := answer_mbox ready ..

end

/-! ### The end of a scan -/

/-- With nothing left of its scan the copy engine sends nothing. -/
theorem copyStep_done {s : State} (done : s.tw.left = []) : s.copyStep = s := by
  unfold State.copyStep
  split
  · rw [State.copyPieces]
    cases s.tw.copying <;> simp [done]
  · rfl

/-- R211, R212: the end of a catch-up sends its message, for which the tickets that waited for it now wait. -/
theorem exec_copyEngineScanEnd_catchup {s : State} {n : Nat} (copying : s.tw.copying = some (n, false)) (session : s.session = true)
    (catchup : s.pstate n = psCatchup) (done : s.tw.left = []) :
    let t := s.begin.sendSeq 0x25 [s.peershr n]
    let q := t.rd F.TW_OSEQ_VALUE
    let t : State := { t with tw := { t.tw with copying := none, catchEnd := FMap.put t.tw.catchEnd n q
                                                copied := FMap.put t.tw.copied n (t.rd F.TW_COPY_UNITS, t.tw.copyAt) }
                              tickets := t.tickets.map fun (k : Ticket) =>
                                if k.kind == .commit && k.level == 2 && k.share == n && k.outcome.isNone then { k with oseq := some q } else k }
    exec .copyEngineScanEnd s = .next t.copyNext := by
  intro t q u
  have ended : ¬ (!s.begin.session || !s.begin.tw.left.isEmpty) = true := by
    rw [show s.begin.session = true from session, show s.begin.tw.left = [] from done]; decide
  have sync : (s.begin.pstate n == psSync) = false := by rw [show s.begin.pstate n = psCatchup from catchup]; rfl
  change execCopyEngineScanEnd s = _
  unfold execCopyEngineScanEnd
  rw [copyStep_done (s := s.begin) done]
  extract_lets a
  rw [show a.tw.copying = some (n, false) from copying]
  refine (if_neg ended).trans ?_
  rw [show (a.pstate n == psSync) = false from sync]
  rfl

/-! ### Promotion -/

section
variable {s : State} {h : Nat} (tag n : Nat) (ready : AdminReady s h)
include ready

theorem exec_promote_absent (absent : s.spRuns 3 = false) :
    exec (.promote h tag n) s = .next ((adminCapture s h tag n).1.keepTicket { (adminCapture s h tag n).2 with op := 0x52 }) :=
  congrArg Host.Outcome.next ((adminOp_ready ready tag n _).trans (if_neg (ne_true_of_eq_false absent)))

/-- R214: a replica whose primary is LOST, or that is STALE, becomes HELD. -/
theorem exec_promote_replica (runs : s.spRuns 3 = true) (defined : s.shDefined n = true) (service : s.phase = phService)
    (steady : s.changing n = false) (seated : s.removing = false) (replica : s.shMode n = mdReplica)
    (gone : s.pstate n = psLost ∨ s.pstate n = psStale) (open_ : s.shState n = shReady ∨ s.shState n = shHot) :
    let c := adminCapture s h tag n
    let t := c.1.setPair n (pairWord 0 psPromoted (s.incons n) false (s.lossrep n) (s.peershr n) (s.pairid n))
    exec (.promote h tag n) s =
      .next (((t.commitMode n mdHeld).event 0x7009 [n, bit01 (s.incons n)]).finish c.2 0 0 (bit01 (s.incons n))) := by
  intro c t
  refine congrArg Host.Outcome.next ((adminOp_ready ready tag n _).trans ((if_pos runs).trans ?_))
  have defined' : ¬ (!c.1.shDefined n) = true := by rw [show c.1.shDefined n = true from defined]; decide
  have idle : ¬ (c.1.changing n || c.1.removing) = true := by
    rw [show c.1.changing n = false from steady, show c.1.removing = false from seated]; decide
  have lost : ¬ (c.1.shMode n ≠ mdReplica ∨ (!decide (c.1.pstate n = psLost ∨ c.1.pstate n = psStale)) = true) := by
    rw [decide_eq_true (show c.1.pstate n = psLost ∨ c.1.pstate n = psStale from gone)]
    exact not_or.mpr ⟨not_not_intro replica, by decide⟩
  have ready' : ¬ (!decide (c.1.shState n = shReady ∨ c.1.shState n = shHot)) = true := by
    rw [decide_eq_true (show c.1.shState n = shReady ∨ c.1.shState n = shHot from open_)]; decide
  exact (if_neg defined').trans ((if_neg (not_not_intro service)).trans ((if_neg idle).trans ((if_neg lost).trans (if_neg ready'))))

end

/-- Settles O56. -/
theorem twinePairs : Obligations.TwinePairs := by
  refine ⟨fun s share peer pairid base size => exec_designate_session share peer pairid base size, fun s pairid d v => exec_designateResp_accepted,
    fun s v share base size ready => ⟨exec_designateReplica_idle ready share base size, exec_designateReplica_session ready share base size,
      fun full => exec_resumeShare_held ready full, exec_getTwineStatus_mbox ready⟩,
    fun s n => exec_copyEngineScanEnd_catchup, fun s h tag n ready => ⟨exec_promote_absent tag n ready, exec_promote_replica tag n ready⟩⟩

end Sys2Proof.Machine
end

section
/-! PROOFS. A bundle that takes no further pages stays so while the journal is written, and while a target's bundles are dissolved (R192). -/
namespace Sys2Proof.Machine

/-! ### Closed bundles -/

/-- A key that a map has is among its keys. -/
theorem FMap.mem_keys_of_has {α : Type} {m : FMap α} {x : Nat} (has : FMap.has m x = true) : x ∈ m.map Prod.fst := by
  induction m with
  | nil => cases has
  | cons e m ih =>
    obtain ⟨k, v⟩ := e
    rw [FMap.has, Bool.or_eq_true, beq_iff_eq] at has
    rcases has with rfl | has
    · exact List.mem_cons_self ..
    · exact List.mem_cons_of_mem _ (ih has)

/-- Bundle b is listed and takes no further pages. -/
def Shut (b : Nat) (s : State) : Prop := ∃ x, FMap.find s.im.bundles b = some x ∧ x.closed = true

theorem Shut.closed {b : Nat} {s : State} (shut : Shut b s) : (s.bundle b).closed = true := by
  obtain ⟨x, found, closed⟩ := shut
  rw [State.bundle, FMap.get_find, found]
  exact closed

/-- What the operations of the image leave: the queue of re-skeining, and what takes no further pages. -/
def ShutKept (s t : State) : Prop := t.fc.queue = s.fc.queue ∧ ∀ b, Shut b s → Shut b t

theorem ShutKept.refl (s : State) : ShutKept s s := ⟨rfl, fun _ shut => shut⟩

theorem ShutKept.trans {s t u : State} (first : ShutKept s t) (second : ShutKept t u) : ShutKept s u :=
  ⟨second.1.trans first.1, fun b shut => second.2 b (first.2 b shut)⟩

theorem ShutKept.ite {s t u : State} (c : Prop) [Decidable c] (yes : ShutKept s t) (no : ShutKept s u) : ShutKept s (if c then t else u) := by
  split
  · exact yes
  · exact no

/-- What leaves the bundles and the queue leaves both. -/
theorem shutKept_of_same {s t : State} (queue : t.fc.queue = s.fc.queue) (bundles : t.im.bundles = s.im.bundles) : ShutKept s t :=
  ⟨queue, fun b ⟨x, found, closed⟩ => ⟨x, by rw [bundles]; exact found, closed⟩⟩

theorem ShutKept.same {s t u : State} (kept : ShutKept s t) (queue : u.fc.queue = t.fc.queue) (bundles : u.im.bundles = t.im.bundles) :
    ShutKept s u := kept.trans (shutKept_of_same queue bundles)

theorem shutKept_foldl {α : Type} (f : State → α → State) (each : ∀ a x, ShutKept a (f a x)) (l : List α) (s : State) : ShutKept s (l.foldl f s) := by
  induction l generalizing s with
  | nil => exact .refl s
  | cons x l ih => exact (each s x).trans (ih (f s x))

/-- A bundle that is set stays closed where it was: it is another, or what it is set to is closed too. -/
theorem ShutKept.setBundle {s t : State} {b : Nat} {x : Bundle} (kept : ShutKept s t) (closed : Shut b s → x.closed = true) :
    ShutKept s (t.setBundle b x) := by
  refine ⟨kept.1, fun c was => ?_⟩
  by_cases same : b = c
  · exact ⟨x, (FMap.find_put ..).trans (if_pos same), closed (same ▸ was)⟩
  · obtain ⟨y, found, shut⟩ := kept.2 c was
    exact ⟨y, (FMap.find_put ..).trans ((if_neg same).trans found), shut⟩

/-- A number for a new bundle is none of those listed: there is one more candidate than there are bundles. -/
theorem freeBundle_new (s : State) : FMap.find s.im.bundles s.freeBundle = none := by
  have free : FMap.has s.im.bundles s.freeBundle = false := by
    unfold State.freeBundle
    cases picked : (List.range (s.im.bundles.length + 1)).find? fun b => !FMap.has s.im.bundles b with
    | some b => simpa using List.find?_some picked
    | none =>
      have listed : List.range (s.im.bundles.length + 1) ⊆ s.im.bundles.map Prod.fst := fun i small =>
        FMap.mem_keys_of_has (by simpa using List.find?_eq_none.mp picked i small)
      have fits := (List.nodup_range.subperm listed).length_le
      rw [List.length_range, List.length_map] at fits
      omega
  cases found : FMap.find s.im.bundles s.freeBundle with
  | none => rfl
  | some x => rw [FMap.has_of_find found] at free; cases free

/-! ### Targets and blocks -/

theorem shutKept_ceilUpdate (s : State) (cause : Nat) : ShutKept s (s.ceilUpdate cause) :=
  shutKept_of_same (by simp [State.ceilUpdate, State.settleAttn, apply_ite State.fc, apply_ite Flash.queue])
    (by simp [State.ceilUpdate, State.settleAttn, apply_ite State.im])

theorem shutKept_suspendErase (s : State) (t : Nat) : ShutKept s (s.suspendErase t) := by
  unfold State.suspendErase
  split
  · exact .refl s
  · refine .ite _ (.refl s) ?_
    extract_lets
    exact .ite _ (shutKept_of_same rfl rfl) (shutKept_of_same rfl rfl)

theorem shutKept_startPrograms (s : State) (ms : List Nat) : ShutKept s (s.startPrograms ms) := by
  refine shutKept_foldl _ (fun a m => ?_) ms s
  extract_lets t x b
  have counted : ShutKept a b := .ite _ (.refl a) (shutKept_of_same rfl rfl)
  exact counted.trans (shutKept_suspendErase _ _)

theorem shutKept_debit (s : State) (n : Nat) : ShutKept s (s.debit n) := by
  unfold State.debit
  extract_lets
  refine .ite _ ?_ (shutKept_of_same rfl rfl)
  exact shutKept_of_same (congrArg Flash.queue (State.event_fc _ _ _)) (congrArg Image.bundles (State.event_im _ _ _))

/-! ### Opening a bundle -/

theorem shutKept_verifySeals (s : State) (l : List Nat) : ShutKept s (s.verifySeals l).1 := by
  unfold State.verifySeals
  dsimp only
  split
  · exact .refl s
  · refine ShutKept.trans (t := s.skipFree) (shutKept_of_same rfl rfl) (ShutKept.trans (shutKept_foldl State.relist ?_ _ _) (shutKept_foldl _ ?_ _ _))
    · exact fun a m => shutKept_of_same rfl rfl
    · exact fun a m => shutKept_of_same rfl rfl

theorem shutKept_openWithin (s : State) (use n : Nat) : ShutKept s (s.openWithin use n).1 := by
  induction n generalizing s with
  | zero => exact .refl s
  | succ n ih =>
    unfold State.openWithin
    dsimp only
    split
    · exact .refl s
    · next l _ =>
      have seals : ShutKept s (s.skipFree.verifySeals l).1 := ShutKept.trans (t := s.skipFree) (shutKept_of_same rfl rfl) (shutKept_verifySeals _ l)
      split
      · exact seals.trans (ih _)
      · refine seals.trans ?_
        generalize (s.skipFree.verifySeals l).1 = t
        have used : ShutKept t (t.forEach l fun a m => a.setBlk m { a.blk m with st := 5 }) := by
          unfold State.forEach
          refine shutKept_foldl _ ?_ l t
          exact fun a m => shutKept_of_same rfl rfl
        have opened := used.setBundle (b := t.freeBundle) (x := { use := use, members := l, next := 1, closed := false, lastLsn := 0 })
          fun ⟨x, found, _⟩ => by rw [freeBundle_new t] at found; cases found
        exact (opened.trans (shutKept_ceilUpdate _ 0)).same rfl rfl

theorem shutKept_openBundle (s : State) (use : Nat) : ShutKept s (s.openBundle use).1 := shutKept_openWithin s use 64

/-! ### The journal -/

theorem shutKept_announce (s : State) : ShutKept s s.announce := by
  unfold State.announce
  dsimp only
  refine .ite _ (.refl s) ?_
  split
  · exact (shutKept_openBundle s 2).same rfl rfl
  · exact shutKept_openBundle s 2

theorem shutKept_currentJournal (s : State) : ShutKept s s.currentJournal.1 := by
  unfold State.currentJournal
  dsimp only
  split
  · exact .refl s
  · split
    · exact shutKept_of_same rfl rfl
    · exact (shutKept_openBundle s 2).same rfl rfl

theorem shutKept_journalBundle (s : State) : ShutKept s s.journalBundle.1 := by
  have current := shutKept_currentJournal s
  have announced := current.trans (shutKept_announce _)
  unfold State.journalBundle
  dsimp only
  split
  · exact current
  · split
    · split
      · split <;> exact announced
      · exact announced
    · exact announced

theorem shutKept_fly (s : State) (k : Skein) : ShutKept s (s.fly k) := (shutKept_startPrograms s _).same rfl rfl

/-- A page taken of a bundle, and the log number of what it holds. -/
theorem shutKept_takePage (s : State) (b : Nat) : ShutKept s (s.takePage b) :=
  (ShutKept.refl s).setBundle fun shut => by rw [shut.closed]; rfl

theorem shutKept_flushOne (s : State) : ShutKept s s.flushOne := by
  obtain ⟨a, r, taken⟩ : ∃ a r, s.journalBundle = (a, r) := ⟨_, _, rfl⟩
  have found : ShutKept s a := by
    have kept := shutKept_journalBundle s
    rw [taken] at kept
    exact kept
  unfold State.flushOne
  rw [taken]
  clear taken
  change ShutKept s (match (match r with | some b => if a.workFits (a.bundle b).members then r else none | none => none) with
    | none => a
    | some b => _)
  split
  · exact found
  · next b _ =>
    extract_lets recs last k p t x u
    refine found.trans ?_
    have dropped : ShutKept a t := shutKept_of_same rfl rfl
    have flown : ShutKept t ((t.fly k).takeGen.takePage b) := ((shutKept_fly t k).same rfl rfl).trans (shutKept_takePage _ b)
    have programmed : ShutKept t u := flown.setBundle fun shut => ((shutKept_takePage t b).2 b shut).closed
    exact dropped.trans (.ite _ (programmed.trans (shutKept_debit u _)) programmed)

theorem shutKept_flushMany (s : State) (n : Nat) : ShutKept s (s.flushMany n) := by
  induction n generalizing s with
  | zero => exact .refl s
  | succ n ih =>
    rw [State.flushMany]
    exact .ite _ (.refl s) ((shutKept_flushOne s).trans (ih _))

theorem shutKept_journal (s : State) (ty : Nat) (args : List Nat) : ShutKept s (s.journal ty args) := by
  unfold State.journal State.journalP
  extract_lets t
  have appended : ShutKept s t := shutKept_of_same rfl rfl
  exact .ite _ (appended.trans (shutKept_flushMany t _)) appended

/-! ### Dissolving a target's bundles -/

/-- A bundle dissolved is no other bundle. -/
theorem dissolve_keeps (s : State) (b t : Nat) : (s.dissolve b t).fc.queue = s.fc.queue ∧ ∀ c, c ≠ b → Shut c s → Shut c (s.dissolve b t) := by
  unfold State.dissolve
  extract_lets x i u v
  have freed : ShutKept u v := by
    refine shutKept_foldl _ ?_ _ u
    exact fun r m => shutKept_of_same rfl rfl
  have journaled : ShutKept u (v.journal jBundleFree [b]) := freed.trans (shutKept_journal v _ _)
  refine ⟨journaled.1, fun c other ⟨y, found, shut⟩ => journaled.2 c ⟨y, ?_, shut⟩⟩
  exact (FMap.find_del ..).trans ((if_neg other.symm).trans found)

theorem foldl_dissolve_keeps (t : Nat) (l : List Nat) (s : State) :
    (l.foldl (fun (r : State) b => r.dissolve b t) s).fc.queue = s.fc.queue ∧
    ∀ c, c ∉ l → Shut c s → Shut c (l.foldl (fun (r : State) b => r.dissolve b t) s) := by
  induction l generalizing s with
  | nil => exact ⟨rfl, fun _ _ shut => shut⟩
  | cons b l ih =>
    obtain ⟨queue, others⟩ := dissolve_keeps s b t
    obtain ⟨queue', others'⟩ := ih (s.dissolve b t)
    refine ⟨queue'.trans queue, fun c absent shut => ?_⟩
    rw [List.mem_cons, not_or] at absent
    exact others' c absent.2 (others c absent.1 shut)

/-- A bundle marked as taking no further pages. -/
def State.shutBundle (s : State) (b : Nat) : State := s.setBundle b { s.bundle b with closed := true }

theorem shutKept_shutBundle (s : State) (b : Nat) : ShutKept s (s.shutBundle b) := (ShutKept.refl s).setBundle fun _ => rfl

theorem shut_foldl_shutBundle {b : Nat} {l : List Nat} (listed : b ∈ l) (s : State) : Shut b (l.foldl State.shutBundle s) := by
  obtain ⟨l₁, l₂, rfl⟩ := List.append_of_mem listed
  rw [List.foldl_append, List.foldl_cons]
  refine (shutKept_foldl _ shutKept_shutBundle l₂ _).2 b ?_
  exact ⟨_, (FMap.find_put ..).trans (if_pos rfl), rfl⟩

/-- R192: of the bundles that name a target, those that hold pages take no further ones; the queue stands. -/
theorem dissolveAll_closes (s : State) (t : Nat) : (s.dissolveAll t).fc.queue = s.fc.queue ∧
    ∀ b x, FMap.find s.im.bundles b = some x → x.next ≠ 1 → (x.members.any fun m => blkTgt m == t) = true → Shut b (s.dissolveAll t) := by
  unfold State.dissolveAll
  extract_lets named u v
  have closing : ShutKept s u := by
    refine shutKept_foldl _ ?_ _ s
    exact shutKept_shutBundle
  obtain ⟨queue, others⟩ := foldl_dissolve_keeps t (named.filter fun b => (s.bundle b).next == 1) u
  have journal : ShutKept v (v.announce.currentJournal.1.ceilUpdate 0) :=
    ((shutKept_announce v).trans (shutKept_currentJournal _)).trans (shutKept_ceilUpdate _ 0)
  refine ⟨journal.1.trans (queue.trans closing.1), fun b x found used names => ?_⟩
  have held : s.bundle b = x := by rw [State.bundle, FMap.get_find, found]; rfl
  refine journal.2 b (others b ?_ ?_)
  · rw [List.mem_filter, held, beq_iff_eq]
    exact fun h => used h.2
  · refine shut_foldl_shutBundle (List.mem_filter.mpr ⟨?_, by rw [held, bne_iff_ne]; exact used⟩) s
    exact List.mem_map.mpr ⟨(b, x), List.mem_filter.mpr ⟨FMap.mem_of_find found, names⟩, rfl⟩

end Sys2Proof.Machine
end

section
/-! PROOFS. The flash complex: training, failures, erases and seals, calibration, re-skeining, and its mailbox commands (O42). -/
namespace Sys2Proof.Machine

/-! ### Training -/

/-- R173: a channel that trains in BRINGUP takes its rate, or counts as empty. -/
theorem exec_flashTrainingComplete_trained {s : State} {c : Nat} (r : Nat) (dies found : List (Nat × Nat × Nat × Nat)) (known : c < 64)
    (bringup : s.phase = phBringup) (powered : s.dom (18 + c / 8) = 1) (clock : s.rd F.CK_STS_STATE = 2) (fresh : (s.chan c).trained = false)
    (serves : (s.chan c).retired = false) :
    let t := s.begin.findVolumes c dies found
    let q := min r (min 6 (t.rd F.FC_CFG_MAXRATE))
    let u := (t.setChan c { t.chan c with trained := true, rate := q }).event 0x6001 [c, q]
    let e := t.setChan c { t.chan c with retired := true }
    exec (.flashTrainingComplete c (some r) dies [] found) s =
      .next (if t.chanEmpty c then (if e.groupHeld (c / 8) then e else e.setDom (18 + c / 8) 0).imageStep
        else (u.wearUpdate.ceilUpdate 0).imageStep.updReady) := by
  intro t q u e
  have taken : ¬ (64 ≤ c ∨ s.begin.phase ≠ phBringup ∨ s.begin.dom (18 + c / 8) ≠ 1 ∨ s.begin.rd F.CK_STS_STATE ≠ 2 ∨
      (s.begin.chan c).trained = true ∨ (s.begin.chan c).retired = true ∨ 4 < ([] : List Nat).length) := by
    rw [show (s.begin.chan c).trained = false from fresh, show (s.begin.chan c).retired = false from serves]
    rintro (far | phase | dark | unready | again | gone | many)
    exacts [absurd known (Nat.not_lt.mpr far), phase bringup, dark powered, unready clock, Bool.noConfusion again, Bool.noConfusion gone,
      absurd many (by decide)]
  exact (if_neg taken).trans (apply_ite Host.Outcome.next ..).symm

/-! ### Programs that fail -/

section
variable {s : State} {k : Skein} {gen j m : Nat} (flying : s.inFlight gen = some k) (strand : j < 32)
  (block : (s.bundle k.bundle).members[(j + k.page) % 32]? = some m)
include flying strand block

/-- R187: a Strand of a Skein in flight that fails. -/
theorem exec_strandProgramFail_flying :
    let t := (s.begin.bump F.FC_ERR_PGMF).event 0x6004 [blkTgt m, m % 4096, s.phase]
    exec (.strandProgramFail gen j) s = .next (if s.phase = phSave then ((t.badBlock m).exclude (blkTgt m)).saveStrandFail k j
      else (t.abandon (k.fail j)).badBlock m) := by
  intro t
  have counted : (s.begin.bump F.FC_ERR_PGMF).phase = s.phase := State.wr_rd_ne s.begin _ (by decide)
  have phase : t.phase = s.phase := (rdi_eq_of_regs (State.event_regs _ _ _) F.GEN_PHASE_PHASE 0).trans counted
  change (match s.inFlight gen with | some k => _ | none => _) = _
  simp only [flying]
  refine (if_pos strand).trans (congrArg _ ?_)
  unfold State.programFail
  rw [show s.begin.strandBlk k j = some m from block]
  change (if t.phase = phSave then _ else _) = _
  rw [phase]
  rfl

end

/-! ### Reads that time out -/

/-- R175: a target's timeout counted, and its LUN reset. -/
def State.lunReset (s : State) (t : Nat) : State :=
  (((s.setTgt t { s.tgt t with tmoAt := some s.ck.mono }).bump F.FC_ERR_TMO).event 0x6003 [t, 0]).resetLun t

theorem event_phase (s : State) (c : Nat) (l : List Nat) : (s.event c l).phase = s.phase := rdi_eq_of_regs (State.event_regs s c l) _ _

theorem resetLun_phase (s : State) (t : Nat) : (s.resetLun t).phase = s.phase := by
  unfold State.resetLun
  split <;> rfl

theorem lunReset_phase (s : State) (t : Nat) : (s.lunReset t).phase = s.phase :=
  (resetLun_phase _ t).trans ((event_phase _ _ _).trans (State.wr_rd_ne _ _ (by decide)))

theorem timedOut_read_phase (s : State) (t b gen : Nat) : (s.timedOut t 0 b gen).phase = s.phase := by
  unfold State.timedOut
  rw [if_pos rfl]
  dsimp only
  split <;> rfl

/-- R175: a read that times out while no Save runs resets its target, and retires it after a second timeout in a second or a reset that
does not end. -/
theorem exec_commandTimeout_read {s : State} {t : Nat} (b gen : Nat) (done : Bool) (healthy : s.healthy t = true) (running : s.phase ≠ phSave) :
    let a := (s.begin.lunReset t).timedOut t 0 b gen
    let again := match (s.tgt t).tmoAt with | some w => decide (s.ck.mono < w + 1000000000) | none => false
    let a := if again || !done then a.retire t 1 else a
    a.chanTimedOut (tgtChan t) = false → exec (.commandTimeout t 0 b gen done) s = .next a.sendFetches := by
  intro a again u free
  have state : (s.begin.tgt t).state = tgHealthy := beq_iff_eq.mp healthy
  have works : ¬ ((s.begin.tgt t).state = tgAbsent ∨ (s.begin.tgt t).state = tgBound ∨ (s.begin.tgt t).state = tgRetired) := by
    rw [state]; decide
  have phase : a.phase ≠ phSave := by
    rw [show a.phase = s.phase from (timedOut_read_phase _ t b gen).trans (lunReset_phase s.begin t)]; exact running
  change execCommandTimeout t 0 b gen done s = _
  unfold execCommandTimeout
  extract_lets a0 x again' a1 a2 a3 a4
  have unsaved : a3 = a := if_neg phase
  have ends : a4 = u := by
    rw [show a4 = (if again' || !done then a3.retire t 1 else a3) from rfl, unsaved]
    rfl
  rw [if_neg works, ends, if_neg (ne_true_of_eq_false free)]

/-! ### Erases and seals -/

section
variable {s : State} {b : Nat} (erases : s.erases b = true)
include erases

section
variable {x : Blk} (zeros : List Nat) (erasing : s.erasing (blkTgt b) = some (b, x)) (open_ : s.isProtected b = false)
include erasing open_

/-- R186: an erase under way ends in its seal, or fails. -/
theorem blockEraseComplete_ends (ok : Bool) : exec (.blockEraseComplete b ok zeros) s =
    if ok && erasedProbe zeros then .next ((s.begin.forgetBlock b).setBlk b { x with
      reads := 0, marked := false, again := false, st := 3, sealPage := some (s.ck.ns, (x.erLsn + b).toNat) })
    else .next ((((s.begin.forgetBlock b).setBlk b { x with sealPage := none }).attemptFail b).ceilUpdate 0) := by
  have free : ¬ (s.begin.armed = true ∧ s.begin.isProtected b = true) := by
    rw [show s.begin.isProtected b = false from open_]; exact fun h => Bool.noConfusion h.2
  refine (if_neg free).trans ?_
  change (match s.erasing (blkTgt b) with | none => _ | some (a, x) => _) = _
  simp only [erasing]
  exact if_pos ⟨trivial, erases⟩

theorem exec_blockEraseComplete_erased (probe : erasedProbe zeros = true) : exec (.blockEraseComplete b true zeros) s =
    .next ((s.begin.forgetBlock b).setBlk b { x with
      reads := 0, marked := false, again := false, st := 3, sealPage := some (s.ck.ns, (x.erLsn + b).toNat) }) :=
  (blockEraseComplete_ends erases zeros erasing open_ true).trans (if_pos probe)

theorem exec_blockEraseComplete_failed : exec (.blockEraseComplete b false zeros) s =
    .next ((((s.begin.forgetBlock b).setBlk b { x with sealPage := none }).attemptFail b).ceilUpdate 0) :=
  (blockEraseComplete_ends erases zeros erasing open_ false).trans (if_neg Bool.false_ne_true)

end

section
variable (flips : List Nat) (sealing : (s.blk b).st = 3)
include sealing

theorem exec_sealVerify_failed (unread : pageDecodes 8 flips = false) :
    exec (.sealVerify b flips) s = .next ((s.begin.attemptFail b).ceilUpdate 0) :=
  (if_pos ⟨sealing, erases⟩).trans (if_pos (by rw [unread]; rfl))

section
variable (read : pageDecodes 8 flips = true)
include read

/-- R186: a seal that reads back counts the erase; at the wear limit the block is bad. -/
theorem exec_sealVerify_worn (worn : max 1 (s.rd F.FC_CFG_WEARLIM) ≤ (s.blk b).ers + 1) :
    let t := s.begin.setBlk b { s.blk b with ers := (s.blk b).ers + 1, tries := 0, tag := 0 }
    exec (.sealVerify b flips) s = .next ((t.badBlock b).ceilUpdate 0) :=
  (if_pos ⟨sealing, erases⟩).trans ((if_neg (by rw [read]; decide)).trans (if_pos worn))

theorem exec_sealVerify_sealed (fresh : (s.blk b).ers + 1 < max 1 (s.rd F.FC_CFG_WEARLIM)) :
    let n := (s.blk b).ers + 1
    let t := s.begin.setBlk b { s.blk b with ers := n, tries := 0, tag := 0 }
    exec (.sealVerify b flips) s =
      .next ((((t.setBlk b { t.blk b with st := 4 }).journal jSealed [b, 1, n]).wearUpdate).ceilUpdate 0).retrySeg :=
  (if_pos ⟨sealing, erases⟩).trans ((if_neg (by rw [read]; decide)).trans (if_neg (Nat.not_le.mpr fresh)))

end

end

/-- R178: a suspended erase goes on once no program or share waits for its target. -/
theorem exec_eraseResume_free {t : Nat} (suspended : (s.tgt t).susp = some b) (free : s.erasesWait t = false) (cool : s.anyHot = false) :
    exec (.eraseResume t) s = .next ((s.begin.setBlk b { s.blk b with st := 2 }).setTgt t { s.tgt t with susp := none }) := by
  change (match (s.tgt t).susp with | some b => _ | none => _) = _
  simp only [suspended]
  refine if_pos ?_
  rw [show s.begin.erases b = true from erases, show s.begin.erasesWait t = false from free, show s.begin.anyHot = false from cool]
  simp

end

/-! ### Calibration -/

/-- R180: a calibration that is due takes the offset of the fewest corrected bits, and records a shift of 3 or more. -/
theorem exec_readCalibration_due {s : State} {t bin : Nat} {counts : List Nat} (serving : s.serving = true) (healthy : s.healthy t = true)
    (known : bin < 8) (sized : counts.length = 16) (held : s.binHeld t bin = true) (due : s.binDue t bin = true) :
    let off : Int := (fewest counts : Int) - 8
    let offs := (List.range 8).map fun i => if i = bin then (off % 16).toNat else (s.tgt t).offs.getD i 0
    let a := (s.begin.setTgt t { s.tgt t with
      offs := offs, calAt := s.ck.mono, binAt := FMap.put (s.tgt t).binAt bin s.ck.mono }).norProgram
    let old : Int := if 8 ≤ (s.tgt t).offs.getD bin 0 then ((s.tgt t).offs.getD bin 0 : Int) - 16 else (s.tgt t).offs.getD bin 0
    exec (.readCalibration t bin counts) s =
      .next (if 3 ≤ (off - old).natAbs then a.event 0x600D [t, bin, (off % 16).toNat] else a) := by
  intro off offs a old
  exact (if_pos ⟨serving, beq_iff_eq.mp healthy, known, sized, held, due⟩).trans (apply_ite Host.Outcome.next ..).symm

/-! ### Re-skeining -/

/-- R193: what a checkpoint shows, with a target in the queue. -/
theorem rskCheckpoint_shows {s : State} {t : Nat} {q : List Nat} (queued : s.fc.queue = t :: q) :
    ∃ b, s.rskCheckpoint = State.wr { s with fc := { s.fc with ckpt := (s.rd F.FC_RSK_STATE, b) } } F.FC_RSK_BUNDLE b := by
  refine ⟨((s.bundlesOf t).find? fun b => !(s.liveIn b).isEmpty).getD 0, ?_⟩
  unfold State.rskCheckpoint
  rw [queued]
  rfl

/-- R192: the registers and the counts of a target whose bundles take no further pages. -/
def State.relocating (s : State) (t : Nat) : State :=
  let a := ((s.wr F.FC_RSK_STATE 2).wr F.FC_RSK_TARGET t).wr F.FC_RSK_PROG 0
  { a with fc := { a.fc with rskAt := a.ck.mono, rskMoved := 0, rskTotal := (a.liveOn t).length } }

theorem relocating_effect (s : State) (t : Nat) :
    (s.relocating t).rd F.FC_RSK_STATE = 2 ∧ (s.relocating t).rd F.FC_RSK_TARGET = t % 2 ^ F.FC_RSK_TARGET.width ∧
    (s.relocating t).rd F.FC_RSK_PROG = 0 ∧ (s.relocating t).fc.rskAt = s.ck.mono ∧ ShutKept s (s.relocating t) ∧ Still s (s.relocating t) := by
  refine ⟨?_, ?_, State.wr_rd_self .., rfl, shutKept_of_same rfl rfl, ⟨rfl, rfl, rfl, rfl, rfl, rfl⟩⟩
  · exact (State.wr_rd_ne _ _ (by decide)).trans ((State.wr_rd_ne _ _ (by decide)).trans (State.wr_rd_self ..))
  · exact (State.wr_rd_ne _ _ (by decide)).trans (State.wr_rd_self ..)

theorem dissolve_ck (s : State) (b t : Nat) : (s.dissolve b t).ck = s.ck := by
  unfold State.dissolve
  extract_lets x i u v
  refine (journalP_ck v ..).trans (forEach_ck _ _ u ?_)
  exact fun r m => rfl

theorem dissolveAll_ck (s : State) (t : Nat) : (s.dissolveAll t).ck = s.ck := by
  unfold State.dissolveAll
  extract_lets named u v
  have closing : u.ck = s.ck := by
    refine forEach_ck _ _ s ?_
    exact fun r b => rfl
  rw [ceilUpdate_ck, currentJournal_ck, announce_ck]
  exact (foldl_ck _ _ u fun r b => dissolve_ck r b t).trans closing

section
variable {s : State} {t : Nat} {q : List Nat} (queued : s.fc.queue = t :: q) (service : s.phase = phService)
include queued service

/-- R192: the queue's target is taken: the bundles that name it take no further pages, and relocation begins. -/
theorem reskeinStart_takes (runs : s.spRuns 1 = true) (idle : s.rd F.FC_RSK_STATE = 0) (open_ : s.drainState ≠ 3) :
    ∃ a, exec .reskeinStart s = .next a ∧ a.rd F.FC_RSK_STATE = 2 ∧ a.rd F.FC_RSK_TARGET = t % 2 ^ F.FC_RSK_TARGET.width ∧
      a.rd F.FC_RSK_PROG = 0 ∧ a.fc.rskAt = s.ck.mono ∧ a.fc.ckpt.1 = 2 ∧
      (∀ b x, FMap.find s.im.bundles b = some x → x.next ≠ 1 → (x.members.any fun m => blkTgt m == t) = true → (a.bundle b).closed = true) ∧
      a.mem = s.mem ∧ a.dmap = s.dmap ∧ a.index = s.index := by
  let d := (s.begin.wr F.FC_RSK_STATE 1).dissolveAll t
  obtain ⟨queue, closes⟩ := dissolveAll_closes (s.begin.wr F.FC_RSK_STATE 1) t
  have clock : d.ck = s.ck := dissolveAll_ck _ t
  have dissolved : Still s d := Still.trans ⟨rfl, rfl, rfl, rfl, rfl, rfl⟩ (still_dissolveAll (s.begin.wr F.FC_RSK_STATE 1) t)
  have queue' : d.fc.queue = t :: q := queue.trans queued
  have closes' : ∀ b x, FMap.find s.im.bundles b = some x → x.next ≠ 1 → (x.members.any fun m => blkTgt m == t) = true → Shut b d := closes
  have runsFrom : exec .reskeinStart s = .next ((d.relocating t).event 0x600B [t]).rskCheckpoint := by
    change (match s.fc.queue.head? with | none => _ | some t => _) = _
    rw [queued]
    exact if_pos ⟨service, runs, idle, open_⟩
  rw [runsFrom]
  clear_value d
  obtain ⟨state, target, prog, at_, kept, still⟩ := relocating_effect d t
  obtain ⟨b, shown⟩ := rskCheckpoint_shows (s := (d.relocating t).event 0x600B [t]) (by rw [State.event_fc, kept.1, queue'])
  obtain ⟨-, mem, -, -, dmap, index⟩ := Still.trans (Still.trans dissolved still)
    (Still.trans (still_event (d.relocating t) 0x600B [t]) (still_rskCheckpoint _))
  have reads (f : Field) : ((d.relocating t).event 0x600B [t]).rd f = (d.relocating t).rd f := rdi_eq_of_regs (State.event_regs _ _ _) f 0
  have flash : ((d.relocating t).event 0x600B [t]).fc = (d.relocating t).fc := State.event_fc _ _ _
  have image : ((d.relocating t).event 0x600B [t]).im = (d.relocating t).im := State.event_im _ _ _
  generalize (d.relocating t).event 0x600B [t] = y at *
  refine ⟨y.rskCheckpoint, rfl, ?_⟩
  rw [shown] at mem dmap index ⊢
  refine ⟨?_, ?_, ?_, ?_, ?_, fun b x found used names => ?_, mem, dmap, index⟩
  · exact (State.wr_rd_ne _ _ (by decide)).trans ((reads _).trans state)
  · exact (State.wr_rd_ne _ _ (by decide)).trans ((reads _).trans target)
  · exact (State.wr_rd_ne _ _ (by decide)).trans ((reads _).trans prog)
  · change y.fc.rskAt = _
    rw [flash, at_, clock]
  · exact (reads _).trans state
  · obtain ⟨x', listed, shut⟩ := kept.2 b (closes' b x found used names)
    exact Shut.closed ⟨x', by rw [← image] at listed; exact listed, shut⟩

/-- R192: with no live unit left on the target the wait for a pass begins. -/
theorem reskeinRelocateEnd_ends (runs : s.spRuns 1 = true) (relocating : s.rd F.FC_RSK_STATE = 2) (empty : s.liveOn t = []) :
    ∃ a, exec .reskeinRelocateEnd s = .next a ∧ a.rd F.FC_RSK_STATE = 3 ∧ a.rd F.FC_RSK_PROG = 100 ∧ a.fc.rskPass = s.im.pass + 1 ∧
      Leaves s a [(F.FC_RSK_STATE, 0), (F.FC_RSK_PROG, 0), (F.FC_RSK_BUNDLE, 0)] := by
  let w := (s.begin.wr F.FC_RSK_STATE 3).wr F.FC_RSK_PROG 100
  let u : State := { w with fc := { w.fc with rskPass := w.im.pass + 1, rskMoved := w.fc.rskTotal } }
  have written : Leaves s u [(F.FC_RSK_STATE, 0), (F.FC_RSK_PROG, 0), (F.FC_RSK_BUNDLE, 0)] :=
    (((leaves_begin s _).wr _ _ (by simp)).wr F.FC_RSK_PROG 100 (by simp)).still ⟨rfl, rfl, rfl, rfl, rfl, rfl⟩ rfl
  have state : u.rd F.FC_RSK_STATE = 3 := (State.wr_rd_ne _ _ (by decide)).trans (State.wr_rd_self ..)
  have prog : u.rd F.FC_RSK_PROG = 100 := State.wr_rd_self ..
  have pass : u.fc.rskPass = s.im.pass + 1 := rfl
  have queued' : u.fc.queue = t :: q := queued
  have runsFrom : exec .reskeinRelocateEnd s = .next u.rskCheckpoint := by
    change (match s.fc.queue.head? with | none => _ | some t => _) = _
    rw [queued]
    exact if_pos ⟨service, runs, relocating, empty⟩
  obtain ⟨b, shown⟩ := rskCheckpoint_shows queued'
  rw [runsFrom, shown]
  clear_value u
  refine ⟨_, rfl, (State.wr_rd_ne _ _ (by decide)).trans state, (State.wr_rd_ne _ _ (by decide)).trans prog, pass, ?_⟩
  exact Leaves.wr (written.still ⟨rfl, rfl, rfl, rfl, rfl, rfl⟩ rfl) _ _ (by simp)

omit queued in
theorem exec_reskeinCheckpointWrite_busy (busy : s.rd F.FC_RSK_STATE ≠ 0) :
    let a := s.begin.rskCheckpoint
    exec .reskeinCheckpointWrite s = .next (State.norProgram { a with fc := { a.fc with ckptNor := a.fc.ckpt } }) := if_pos ⟨service, busy⟩

end

/-! ### The mailbox commands -/

/-- R182: what a decoded page is answered with: its content and counts, or 4. -/
def pageWords (page : Option (List Nat × List Nat)) : List Nat :=
  match page with
  | some (content, counts) => 0 :: (content ++ counts)
  | none => [4]

/-- A page that is spoilt or does not decode is answered with 4, any other with its content and counts. -/
theorem reply_page (s : State) (v : Via) (spoilt : Bool) (page : Option (List Nat × List Nat)) :
    (if spoilt then s.reply v .success [4]
      else match page with | some (content, counts) => s.reply v .success (0 :: (content ++ counts)) | none => s.reply v .success [4]) =
      s.reply v .success (if spoilt then [4] else pageWords page) := by
  cases spoilt
  · cases page <;> rfl
  · rfl

section
variable {s : State} {v : Via} (ready : MailboxReady s v)
include ready

theorem exec_getFlashTarget_known {t : Nat} (known : t < 1024) :
    exec (.getFlashTarget v t) s = .next (s.begin.reply v .success [0, s.tgtStatus t, s.tgtCal t]) :=
  (answer_mbox ready ..).trans (congrArg _ (if_neg (Nat.not_le.mpr known)))

theorem exec_getReskeinStatus_mbox : exec (.getReskeinStatus v) s = .next (s.begin.reply v .success (0 :: s.rskWord :: s.fc.queue)) :=
  answer_mbox ready ..

section
variable {t : Nat} (known : t < 1024) (present : (s.tgt t).state ≠ tgAbsent) (bound : (s.tgt t).state ≠ tgBound)
  (serves : (s.tgt t).state ≠ tgRetired)
include known present bound serves

/-- R183: a target is retired while 32 channels keep a share. -/
theorem exec_retireTarget_present : exec (.retireTarget v t) s =
    .next (if s.usable < 32 + (if s.chanShare (tgtChan t) = 0 then 0 else 1) then s.begin.reply v .success [6]
      else (s.begin.retire t 5).reply v .success [0]) :=
  (answer_mbox ready ..).trans (congrArg _ ((if_neg (Nat.not_le.mpr known)).trans ((if_neg present).trans (if_neg (not_or.mpr ⟨bound, serves⟩)))))

/-- R182: a page of a target with no work is read raw or decoded. -/
theorem exec_flashDiagnosticRead_idle {b page mode : Nat} {off : Int} (flips : List Nat) (block : b < blocksPerTarget) (inBlock : page < 1152)
    (modes : mode ≤ 1) (low : -8 ≤ off) (high : off ≤ 7) (idle : s.idleTgt t = true) :
    exec (.flashDiagnosticRead v t b page mode off flips) s =
      .next (if mode = 0 then (s.begin.skipPage (t * 4096 + b) page).reply v .success (0 :: s.pageRead (t * 4096 + b) page flips)
        else s.begin.reply v .success (if s.pageSpoilt (t * 4096 + b) page then [4]
          else pageWords (decodePage (t * 4096 + b) page (s.pageRead (t * 4096 + b) page flips)))) := by
  have fields : ¬ (1024 ≤ t ∨ blocksPerTarget ≤ b ∨ 1152 ≤ page ∨ 1 < mode ∨ off < -8 ∨ 7 < off) := by omega
  have quiet : ¬ (!s.begin.idleTgt t) = true := by rw [show s.begin.idleTgt t = true from idle]; decide
  refine (answer_mbox ready ..).trans (congrArg _ ((if_neg fields).trans ((if_neg present).trans ((if_neg (not_or.mpr ⟨bound, serves⟩)).trans
    ((if_neg quiet).trans (if_congr Iff.rfl rfl ?_))))))
  rw [show s.begin.pageRead (t * 4096 + b) page flips = s.pageRead (t * 4096 + b) page flips from rfl]
  generalize decodePage (t * 4096 + b) page (s.pageRead (t * 4096 + b) page flips) = d
  exact reply_page s.begin v (s.pageSpoilt (t * 4096 + b) page) d

end

end

/-- Settles O42. -/
theorem flashComplex : Obligations.FlashComplex := by
  refine ⟨⟨fun s c r dies found => exec_flashTrainingComplete_trained r dies found, fun s t => rfl, ?_,
    fun s t b gen done => exec_commandTimeout_read b gen done, ?_, fun s t bin counts => exec_readCalibration_due⟩, ?_, ?_⟩
  · intro s k gen j m flying strand block t
    have ends := exec_strandProgramFail_flying flying strand block
    exact ⟨fun running => ends.trans (congrArg _ (if_neg running)), fun saving => ends.trans (congrArg _ (if_pos saving))⟩
  · intro s b erases
    exact ⟨fun x zeros erasing open_ => ⟨exec_blockEraseComplete_erased erases zeros erasing open_,
        exec_blockEraseComplete_failed erases zeros erasing open_⟩,
      fun flips sealing => ⟨exec_sealVerify_failed erases flips sealing, exec_sealVerify_worn erases flips sealing,
        exec_sealVerify_sealed erases flips sealing⟩,
      fun t => exec_eraseResume_free erases⟩
  · intro s t q queued service
    exact ⟨reskeinStart_takes queued service, reskeinRelocateEnd_ends queued service, exec_reskeinCheckpointWrite_busy service⟩
  · intro s v ready
    refine ⟨fun t => exec_getFlashTarget_known ready, ?_, fun t => exec_retireTarget_present ready, exec_getReskeinStatus_mbox ready⟩
    intro t b page mode off flips known block inBlock modes low high present bound serves idle raw
    have answer := exec_flashDiagnosticRead_idle ready known present bound serves flips block inBlock modes low high idle
    rw [show s.pageRead (t * 4096 + b) page flips = raw from rfl] at answer
    generalize decodePage (t * 4096 + b) page raw = d at *
    cases d <;> exact answer

end Sys2Proof.Machine
end
